-- ==== Sys2Proof/Word.lean ====
section
/-!
DEFINITION. The word types of the block: the widths the manual gives its ports, lines and registers.
-/
namespace Sys2Proof

/-- One byte of a line, a record or a frame. -/
abbrev Byte := BitVec 8

/-- One line: 64 bytes, byte `k` in bits `8k+7 : 8k` (R7, R33). -/
abbrev Line := BitVec 512

/-- One 32-bit register (R375). -/
abbrev Reg := BitVec 32

/-- A 16-bit check word (R184). -/
abbrev Check := BitVec 16

/-- A timebase value: 64-bit count of 1 ns ticks (R444). -/
abbrev Time := BitVec 64

end Sys2Proof
end

