-- ==== Sys2Proof/Syntax.lean ====
section
/-!
DEFINITION. The commands of the block: one constructor of `Instr` per row of spec/opcode_table.json, in the table's
order, with the operands the row's rule gives it. What happens outside the block and decides a step (a measured value,
whether a training passed, an error mask on a transfer) is an operand of that step (assumptions 2 and 5).
-/
namespace Sys2Proof

/-- The fields of a request on the REQ channel (R33), without VALID, READY and OP. -/
structure ReqFields where
  tag  : BitVec 10
  addr : BitVec 34
  len  : BitVec 6
  cls  : BitVec 3
  ord  : BitVec 4
  gv   : Bool
  gid  : BitVec 12
  pi   : BitVec 2
  aux  : BitVec 64
  deriving DecidableEq, Repr

/-- One beat on the WD channel (R33). -/
structure WdFields where
  tag  : BitVec 10
  data : Line
  be   : BitVec 64
  last : Bool
  deriving DecidableEq, Repr

/-- One beat on an ingest port (R69). -/
structure IngFields where
  data   : BitVec 256
  sop    : Bool
  eop    : Bool
  vbytes : BitVec 5
  deriving DecidableEq, Repr

/-- One access at the register port (R364). -/
structure Access where
  addr   : BitVec 20
  size   : BitVec 2
  wdata  : BitVec 64
  secure : Bool
  reqid  : BitVec 5
  deriving DecidableEq, Repr

/-- What mode-register readback of a slice finds (R233, R254). -/
structure Readback where
  mfr      : BitVec 8
  rev      : BitVec 8
  dens     : BitVec 4
  ranks    : BitVec 2
  x8       : Bool
  lecc     : Bool
  unequal  : Bool
  no5x     : Bool
  disagree : Bool
  deriving DecidableEq, Repr

/-- How a full training of a slice ends (R236): every PL passes, or a step fails at a PL. -/
inductive TrainEnd where
  | pass
  | fail (step : BitVec 3) (pl : BitVec 2)
  deriving DecidableEq, Repr

/-- How a full retrain ends (R233, R245): the readback before it, and its training. -/
structure RetrainEnd where
  dev : Readback
  fin : TrainEnd
  deriving DecidableEq, Repr

/-- A record of the group or solo table that a step of the ledger reads, and whether it has an error that cannot be corrected (R119). -/
structure TableRead (w : Nat) where
  num : BitVec w
  uc  : Bool
  deriving DecidableEq, Repr

/-- What the ledger's reads for a request or a resolution meet: the error mask on the entry (R117), and whether the record of the group or
solo that they need cannot be corrected (R119). -/
structure EntryRead where
  ecc     : BitVec 96
  tableUc : Bool
  deriving DecidableEq, Repr

/-- A group request, and whether the record of the group table that the ledger reads for it cannot be corrected (R119). -/
structure GroupReq where
  req     : ReqFields
  tableUc : Bool
  deriving DecidableEq, Repr

/-- What REGACC shifts in, and whether the stored bits of the register that it reads fail their parity check (R390, R502). -/
structure RegaccDr where
  word        : BitVec 54
  parityFault : Bool
  deriving DecidableEq, Repr

/-- The outcome of the probes of one Lull over all bits and directions (R244). -/
inductive LullEnd where
  | pass
  | adjust
  | noWorkingSetting
  deriving DecidableEq, Repr

/-- The temperature status of the worst die of a slice at a poll (R212). -/
inductive DevTemp where
  | low
  | nominal
  | need2x
  | need4x
  | aboveLimit
  deriving DecidableEq, Repr

/-- The errors a strip suffers between the array and the hub's check: on the 64 bytes, on the check word, and in link
ECC, with the number of bits that it corrects (R185, R253). A zero error is a clean return. -/
structure ReadErr where
  data   : Line
  check  : Check
  linkCe : BitVec 4
  linkUc : Bool
  deriving DecidableEq, Repr

/-- An error of a strip that Patrol or a verification reads: the member, the error masks that it still shows after its replay on the
64 bytes and on the check word, whether it had to be replayed, and its link errors (R185, R253, R282). -/
structure StripErr where
  member : Fin 9
  data   : Line
  check  : Check
  replay : Bool
  linkCe : BitVec 4
  linkUc : Bool
  deriving DecidableEq, Repr

/-- What a slot held, for its classification (R446, R447): the facts of the command and data bus the slice sees, and whether the slot
lies inside a Lull window or a PL-switch step window. -/
structure SlotFacts where
  lull        : Bool
  switch_     : Bool
  stripRead   : Bool
  stripWrite  : Bool
  checkRead   : Bool
  checkWrite  : Bool
  replayed    : Bool
  perBankWait : Bool
  conflict    : Bool
  turnaround  : Bool
  acts        : BitVec 3
  rowHit      : Bool
  level0      : Bool
  level23     : Bool
  refAb       : Bool
  refPb       : Bool
  gustBegun   : Bool
  fwd         : Bool
  deriving DecidableEq, Repr

/-- One command: a row of spec/opcode_table.json. -/
inductive Instr where
  -- requester ports
  | opRead (p : Fin 16) (r : ReqFields) (e : EntryRead)
  | opWrite (p : Fin 16) (r : ReqFields) (e : EntryRead)
  | opWriteXor (p : Fin 16) (r : ReqFields) (e : EntryRead)
  | opFill (p : Fin 16) (r : ReqFields) (e : EntryRead)
  | groupOpen (p : Fin 16) (r : GroupReq)
  | groupCommit (p : Fin 16) (r : GroupReq)
  | groupAbort (p : Fin 16) (r : GroupReq)
  | opBarrier (p : Fin 16) (r : ReqFields)
  | reservedOpcode (p : Fin 16) (op : BitVec 4) (r : ReqFields)
  | writeDataBeat (p : Fin 16) (b : WdFields)
  | response (p : Fin 16) (tag : BitVec 10)
  | barrierComplete (p : Fin 16) (tag : BitVec 10)
  | groupCommitForward (p : Fin 16) (tag : BitVec 10)
  | orderedForward (p : Fin 16) (tag : BitVec 10)
  | portResetPin (p : Fin 16)
  | portReset (p : Fin 16)
  | portResetDrainDone (p : Fin 16)
  | portResetRelease (p : Fin 16)
  | prtClrCounters (p : Fin 16)
  | wdTimeout (p : Fin 16) (tag : BitVec 10)
  | tagWatchdog (p : Fin 16) (tag : BitVec 10)
  -- stream ingest
  | ingestBeat (n : Fin 8) (b : IngFields)
  | idleClose (n : Fin 8)
  | drainStripeIssue (n : Fin 8)
  | drainStripeAck (n : Fin 8)
  | trigger (n : Fin 8)
  | freezeComplete (n : Fin 8)
  | ingestPortReset (n : Fin 8)
  | ingestPortResetRelease (n : Fin 8)
  | ingEnable (n : Fin 8)
  | ingDisable (n : Fin 8)
  | closingComplete (n : Fin 8)
  | rearm (n : Fin 8)
  | trig (n : Fin 8)
  | ingClrCounters (n : Fin 8)
  | ingRpWrite (n : Fin 8) (rp : BitVec 64)
  -- ledger
  | flip (group : TableRead 12)
  | soloDone (slot : TableRead 8)
  | demandResolution (half : Fin 2) (e : EntryRead)
  | sweepStep (half : Fin 2) (e : EntryRead)
  | ldgClrCounters
  | clearAllPoison
  | clearPoison
  | abortGrp
  -- fabric and admission
  -- a flit parity error of the granted packet, with its error mask on the header
  | arbPhase (h : Fin 8) (flit : Option (BitVec 128))
  | arbTickAdvance (h : Fin 8)
  | backoffExpiry (h : Fin 8)
  | routeEpochSwap (h : Fin 8)
  | fenceDone (h : Fin 8)
  | lateResponse (c : Fin 80)
  | fabClrCounters
  | arbClrCounters
  | clrLongest
  | warmReset
  | wrstLimitExpiry
  -- shares
  | regulationEpoch
  | feasibilityCheck
  | recheck
  | shrClrCounters
  -- group hubs
  | memberReadReturn (c : Fin 80) (index : Nat) (err : ReadErr)
  | memberWriteAck (c : Fin 80) (index : Nat)
  | zeroFillStep (g : Fin 8)
  | grpClrCounters (g : Fin 8)
  -- channel slices
  | sliceCommandIssue (c : Fin 80) (late : Nat)
  | gustWrAge (c : Fin 80)
  | refreshBoundary (c : Fin 80)
  | tleadExpiry (c : Fin 80)
  | refreshStallEnd (c : Fin 80)
  | perBankRefresh (c : Fin 80)
  | refreshRatePoll (c : Fin 80) (worst : DevTemp) (field : BitVec 8)
  | parityAlert (c : Fin 80) (index : Nat)
  | replayReissue (c : Fin 80) (again copyBad : Bool)
  | ckcFlush (c : Fin 80)
  | chClrCounters (c : Fin 80)
  -- PHY, training, performance levels
  | oscillatorPoll (c : Fin 80) (drift : BitVec 8)
  | lullIntervalExpiry (c : Fin 80)
  | lullWindow (c : Fin 80) (e : LullEnd)
  | marginFailRetry (c : Fin 80)
  | fullRetrainDone (c : Fin 80) (e : RetrainEnd)
  | lull (c : Fin 80)
  | retrain (c : Fin 80)
  | scan (c : Fin 80)
  | scanDone (c : Fin 80) (res0 res1 res2 : Reg)
  | chTrnClrCounters (c : Fin 80)
  | plChangeDecision
  | standbyPllLocked (c : Fin 80)
  | switchStep (c : Fin 80)
  | supplyMonitorUpdate (coreMv sliceMv : BitVec 10) (pllOk : Bool)
  | vrampExpiry
  | thermalMonitorUpdate (c : Fin 80) (sliceT coreT : BitVec 8)
  | paceMonitorUpdate (mon : Fin 16) (mhz : BitVec 11)
  | paceOffsetStep
  | deviceResetEnd
  | sliceTrainingDone (c : Fin 80) (dev : Readback) (e : TrainEnd)
  -- member failure and rebuild
  | slowLimitExpiry (c : Fin 80)
  | errLevelLeak (c : Fin 80)
  | relayoutStart (g : Fin 8)
  | relayoutStripe (g : Fin 8) (due : Bool)
  | relayoutComplete (g : Fin 8)
  | quarantineProbe (c : Fin 80) (answered : Bool)
  | sprFail (c : BitVec 7)
  | evacuate (g : Fin 8) (m : BitVec 4) (c : BitVec 7)
  | returnHome (g : Fin 8) (m : BitVec 4)
  | suspend (g : Fin 8)
  | resume (g : Fin 8)
  | sliceTest (c : BitVec 7)
  | sliceTestDone (c : Fin 80) (pass : Bool)
  | admitSlice (c : BitVec 7)
  | attach (g : Fin 8) (m : BitVec 4) (c : BitVec 7)
  | clrLoss
  | sprClrCounters
  | patrolStripe (g : Fin 8) (errs : List StripErr)
  -- supplies and sleep
  | switchover
  | vmainAoReturn
  | brownOut
  | vbkLow (low : Bool)
  | doorbell
  | pwrReqRise (st : BitVec 2)
  | pwrReqFall
  | dozeIdleExpiry
  | voteAnswer (d : Fin 100)
  | voteTimeout (d : Fin 100)
  | rollbackComplete
  | sleepEntryComplete
  | sleepWake
  | wakeComplete
  | clrRes
  | pwrClrCounters
  | clrCap
  | clrVofs
  -- Squall and bring-up
  | mainPgFall
  | admittedRequestsDone
  | openEntryLimit
  | saveHeaderWrite
  | selfRefreshEntry (c : Fin 80)
  | squallComplete
  | squallTokenTake
  | tokenWaitExpiry (peer : BitVec 3)
  | mainPgRise
  | refclkDetect
  | bringupComplete
  -- Breeze
  | busClaim
  | frameReceived (bytes : List Byte) (collision : Bool)
  | ping (dest src : Byte) (payload : List Byte)
  | status (dest src : Byte)
  | wake (dest src : Byte)
  | plHint (dest src : Byte) (payload : Byte)
  | squallToken (dest src : Byte)
  | squallDone (dest src : Byte)
  | pingReply (dest src : Byte) (payload : List Byte)
  | statusReply (dest src : Byte) (payload : List Byte)
  | frameSend (rivals : List (Byte × Byte)) (collision : Bool)
  | handshakeTimeout (sender : Bool)
  | stuck (low : Bool)
  | send
  | rxRelease
  | brzClrCounters
  -- register port
  | registerWrite (a : Access)
  | idleApply (page : BitVec 8)
  | intRawClear (page : BitVec 8) (bits : Reg)
  | intForce (page : BitVec 8) (bits : Reg)
  | clrErr (page : BitVec 8)
  | discard (page : BitVec 8)
  | glbLock
  | acquire (reqid : BitVec 5)
  | commit (reqid : BitVec 5)
  | release (reqid : BitVec 5)
  | leaseExpiry
  | cpReset
  | cfgParitySweep (page : BitVec 8) (ofs : BitVec 10) (fault : Bool)
  -- vanes and debug
  | mboxPing (v : Fin 24)
  | diagEnter
  | diagExit
  | cfgSweep
  | bist (sets : BitVec 6)
  | pattern (v : Fin 24) (slice : BitVec 7) (pat : BitVec 2) (seed : BitVec 16) (first count : BitVec 32)
  | patrolRestart
  | abort (v : Fin 24)
  | vaneClrCounters (v : Fin 24)
  | mboxDone (v : Fin 24) (r0 r1 r2 : Reg)
  | dbgRead
  | dbgWrite
  | directRead
  | directWrite
  | dbgDone
  | capArm
  -- errors
  | ack
  | ackAll
  | clrFirst
  | errClrCounters
  -- telemetry
  | snap
  | snapCaptureDone
  | clrCnt
  | clrOvf
  | flush
  | clrUnderrun
  | clrSamp
  | samplePop
  | fillBankTimeout
  -- OTP row and security
  | program
  | programDone (matched : Bool)
  | supplyTrip
  | otpClrCounters
  | keyDerive
  | keyDeriveDone
  | keyClear
  | patchLoad
  | patchLoadDone
  | patchTakeUp
  | clrDeny
  -- resets and test access
  | coldReset
  | coldBringupStart
  | tapReset
  | idcode
  | samplePreload
  | extest
  | clamp
  | highz
  | bypass
  | regacc (word : RegaccDr)
  | wsBypass
  | scanTestInstruction
  | registerRead (a : Access) (parityFault : Bool)
  | selfRefreshExit (c : Fin 80)
  | microcodeCheckDone (ok : Bool)
  | listenerJoin
  | badOp (v : Fin 24) (op : Byte)
  | vidHoldExpiry
  | slotBoundary (c : Fin 80) (f : SlotFacts)
  deriving DecidableEq, Repr

end Sys2Proof
end

