-- ==== Sys2Proof/Decode.lean ====
section
/-!
DEFINITION. The commands that a word of the command table spells. No row of the table gives a command bits: commands come as register
accesses, beats, frames and events (R33, R69, R364), not as words of an instruction memory.
-/
namespace Sys2Proof

/-- The command a table word spells: none. -/
def decodeTableWord (_nbits _w : Nat) : Option Instr := none

end Sys2Proof
end

