-- ==== Sys2Proof/Config.lean ====
section
/-!
DEFINITION. What an implementation fixes and the manual does not state. Every constant here is opaque: it has no body,
so nothing can be proved of its value, and a statement about the block holds whatever the value is.
-/
namespace Sys2Proof

/-- A free value of `w` bits, applied to the counter `State.free` (assumption 4). -/
opaque Config.freeValue (w : Nat) : Nat → BitVec w

/-- The standard's value, in CK, of timing field number `field` for a density code and a PL. The manual refers to
JESD209-5 for it (R226, assumption 21). -/
opaque Config.stdTiming : (density : BitVec 4) → (pl : BitVec 2) → (field : Nat) → Nat

/-- Verdict of the pure Ed25519 signature check against the ROM public key, which the manual does not state
(R471, assumption 24). -/
opaque Config.patchSignatureOk : (image : List Byte) → Bool

/-- The ROM root of the Keep key, which the manual does not state (R465). -/
opaque Config.romRoot : BitVec 256

/-- Whether vane `v` takes a routine from the patch of build `b` (the patch notice says; R409 PATCHED). -/
opaque Config.patchTouchesVane : (build : BitVec 16) → (vane : Nat) → Bool

/-- A byte of a Keep section whose format is internal to the block, in save number `save` (R331, assumption 12). -/
opaque Config.internalByte : (section_ : Nat) → (save : Nat) → (offset : Nat) → Byte

/-- The static strap BRZ_ADDR[2:0] of this instance (R345). -/
opaque Config.brzAddrStrap : BitVec 3

/-- The OTP words Tabtevia programs before shipment, W0 and W1 (R459). -/
opaque Config.instanceId : BitVec 128

/-- Length of the boundary register, which stands in the BSDL description and not in the manual (R500). -/
opaque Config.boundaryLen : Nat

/-- Share of the last 1 ms a vane spent running, in percent; the manual gives no way to compute it (R409 BUSY_PCT). -/
opaque Config.busyPct : (vane : Nat) → (now : Nat) → BitVec 8

/-- What line `line` of a slice holds after its devices lost their contents or were overwritten by a slice test, for loss number
`seed`: no chapter states it (R231, R280; assumption 40). -/
opaque Config.lostLine : (seed : Nat) → (slice : Nat) → (line : Nat) → Line

end Sys2Proof
end

