-- ==== Sys2Proof/Machine/State.lean ====
section
/-!
DEFINITION. The state of the block: every register value, FIFO, buffer, counter, mode and pin the manual gives it, and
the queue of commands that wait. Plain data throughout. `State.reset` is the block from power-on, in the cold bring-up
of R25 before its first step.
-/
namespace Sys2Proof.Machine

/-! ### Modes -/

/-- The six major modes (R24). -/
inductive Mode where
  | bringUp | run | degraded | holdUp | retention | diagnostic
  deriving DecidableEq, Repr

/-- Kinds of bring-up, GLB_MODE.BU_KIND (R401). A cold bring-up that has reset the devices goes on as `coldInit`, which shows as cold
and probes no more (R25, R238). -/
inductive BuKind where
  | cold | warm | resume | coldRetained | coldInit
  deriving DecidableEq, Repr

/-- The mode, the bring-up record of GLB_BRINGUP (R401) and what a bring-up still owes. -/
structure ModeState where
  mode       : Mode
  buKind     : BuKind
  stuck      : Bool
  cause      : BitVec 3
  buSlice    : BitVec 7
  keepSrc    : BitVec 3
  shortGrp   : BitVec 8
  step       : BitVec 4
  /-- COLD_RST_N is low, or power-on has not ended (R488). -/
  coldLow    : Bool
  /-- ROM microcode checked in this bring-up (R30, R336 step 2). -/
  ucodeOk    : Bool
  /-- The probe found the devices retained (R238). -/
  retained   : Bool
  /-- MEM_RST_N is driven low: the device reset of a cold bring-up (R231, R238). -/
  memRstLow  : Bool
  /-- A wake by Breeze or MAIN_PG waits for the REFCLK detector (R486). -/
  refWait    : Bool
  /-- RUN or DEGRADED has been entered since the last bring-up began (R29). -/
  served     : Bool
  /-- The bring-up follows a warm reset: pending BOOT values are applied in it (R385). -/
  warmed     : Bool
  /-- PATCH_BUILD of the accepted patch, 0 for none (R5). -/
  patchBuild : BitVec 16
  /-- Timebase at the last exit from BRING-UP (R167). -/
  tService   : Time
  deriving DecidableEq, Repr

/-- Input pins as sensed, and output pins that hold a level of their own. -/
structure Pins where
  mainPg      : Bool
  coldRstN    : Bool
  cpRstN      : Bool
  pwrReq      : Bool
  pwrReqState : BitVec 2
  pwrAck      : Bool
  pwrNack     : Bool
  pwrPl       : BitVec 2
  aoValid     : Bool
  wakeOut     : Bool
  coreVid     : BitVec 6
  sliceVid    : BitVec 6
  deriving DecidableEq, Repr

/-! ### Registers -/

/-- The common header state of one page (R372, R391). -/
structure Header where
  intRaw    : Reg
  intEn     : Reg
  parity    : Bool
  accessErr : Bool
  errCause  : BitVec 3
  errOfs    : BitVec 12
  applied   : BitVec 16
  deriving DecidableEq, Repr

/-- A shadow: a value buffered for an apply point, with the bits that were written (R380, R381). -/
structure Shadow where
  value : Reg
  mask  : Reg
  deriving DecidableEq, Repr

/-- The staged writes and lease of GLB_SEQ_LOCK (R395 to R398). -/
structure SeqLock where
  held     : Bool
  owner    : BitVec 5
  overflow : Bool
  staged   : List Access
  tLease   : Time
  deriving DecidableEq, Repr

/-- The register space: applied RW values that differ from reset, shadows, held low words and headers, each keyed by
page × 1,024 + offset or by page (R368, R380, R383). -/
structure Regs where
  applied : List (Nat × Reg)
  shadows : List (Nat × Shadow)
  lowHeld : List (Nat × Reg)
  headers : List (Nat × Header)
  /-- Values applied at the last bring-up of BOOT fields, for the reload of R392. -/
  boot    : List (Nat × Reg)
  /-- Writes held for a slice page in S2 (R296). -/
  napHeld : List Access
  locked  : Bool
  seq     : SeqLock
  /-- The last response at the register port: read data and CP_RERR (R364). -/
  rdata   : BitVec 64
  rerr    : Bool
  deriving DecidableEq, Repr

/-! ### Requests -/

/-- Where an accepted request stands. -/
inductive Phase where
  /-- accepted, write data not whole (R37) -/
  | awaitData
  /-- whole, held at the port: barrier, ordering domain, same line, group hold (R46, R47, R55) -/
  | held
  /-- waits in the ledger for a solo, a slot or a demand resolution (R108, R109) -/
  | ledger
  /-- at the hub node, in front of the arbiter (R148) -/
  | waiting
  /-- granted: its member operations are at work (R151) -/
  | admitted
  /-- complete inside the block; its response has not been driven (R50) -/
  | done (code : BitVec 4)
  deriving DecidableEq, Repr

/-- One buffered write-data beat. -/
structure Beat where
  data : Line
  be   : BitVec 64
  deriving DecidableEq, Repr

/-- What the ledger decided for a window write: the granule, its owner, and the entry before the claim (R107). -/
structure Decision where
  granule : Nat
  solo    : Bool
  owner   : Nat
  before  : BitVec 96
  deriving DecidableEq, Repr

/-- One line of a request at the hub: its resolved line address and, for a write, what it stores. -/
structure LineOp where
  addr  : BitVec 34
  index : Nat
  data  : Line
  be    : BitVec 64
  /-- a merge copies a poisoned line forward (R118) -/
  poison : Bool
  deriving DecidableEq, Repr

/-- An accepted request in flight: port requests, debug-port operations and ingest drain stripes (R33, R127, R130). -/
structure Req where
  rid       : Nat
  src       : BitVec 5
  pepoch    : BitVec 8
  op        : BitVec 4
  tag       : BitVec 10
  addr      : BitVec 34
  len       : BitVec 6
  cls       : BitVec 3
  ord       : BitVec 4
  gv        : Bool
  gid       : BitVec 12
  pi        : BitVec 2
  aux       : BitVec 64
  tAccept   : Time
  /-- the code of the first check of R54 that failed at acceptance -/
  verdict   : Option (BitVec 4)
  beats     : List Beat
  ecc       : BitVec 96
  tableUc   : Bool
  phase     : Phase
  hub       : Fin 8
  stamp     : BitVec 16
  tStamp    : Time
  refusals  : Nat
  backoff   : Option (BitVec 16)
  seen      : Bool
  ops       : List LineOp
  jobs      : Nat
  out       : List (Nat × Line × Bool)
  ledgered  : Bool
  /-- when it began to wait in the ledger, as a number that rises; 0 while it has not waited (R108) -/
  ledgerAt  : Nat
  /-- granules that the read's lines and tuples were resolved in (R110) -/
  readGrans : List Nat
  decisions : List Decision
  /-- resolved address of the line that holds the tuples (R57) -/
  tuple     : Option Nat
  xorBad    : Bool
  sampled   : Option (BitVec 32)
  flags     : BitVec 8
  /-- LEVEL and EP when it came to its hub, which the packet header keeps (R130, R151) -/
  entryLvl  : BitVec 2
  entryEp   : BitVec 4
  grantLvl  : BitVec 2
  grantEp   : BitVec 4
  admitNs   : Nat
  guaranteed : Bool
  dropped   : Bool
  stuck     : Bool
  /-- the ring position of an ingest drain stripe; the stripe of a relayout copy -/
  ring      : Nat
  deriving DecidableEq, Repr

/-- A read-data beat as driven on RD: Pnn_RD_IDX, _DATA, _POISON and _LAST; its tag is that of the response (R33). -/
structure RdBeat where
  idx    : BitVec 7
  data   : Line
  poison : Bool
  last   : Bool
  deriving DecidableEq, Repr

/-- A response as driven on RSP, with the read-data beats that went before it (R50 to R52). -/
structure RspOut where
  tag   : BitVec 10
  code  : BitVec 4
  gid   : BitVec 12
  beats : List RdBeat
  deriving DecidableEq, Repr

/-- One requester port (R33, R67). -/
structure Port where
  pinLow    : Bool
  rstActive : Bool
  rstDone   : Bool
  epoch     : BitVec 8
  isolated  : Bool
  isoCause  : BitVec 3
  discardCnt : Reg
  denyCnt   : Reg
  backoffCnt : Reg
  malfCnt   : Reg
  rsp       : Option RspOut
  deriving DecidableEq, Repr

/-! ### Ingest -/

/-- States of the packing FIFO (R77). -/
inductive IngPhase where
  | off | idle | open_ | drop | closing | frozen
  deriving DecidableEq, Repr

/-- A drop episode, or the gap record it leaves (R80). -/
structure Gap where
  bytes  : BitVec 64
  flags  : BitVec 16
  tFirst : Time
  tLast  : Time
  pos    : BitVec 64
  deriving DecidableEq, Repr

/-- One segment held in a bank, or being packed (R72, R73), with the gap records the drain issues before it (R78). -/
structure Segment where
  bytes    : List Byte
  closed   : Bool
  flags    : BitVec 16
  trigOfs  : BitVec 32
  tFirst   : Time
  tLast    : Time
  pos      : BitVec 64
  issued   : Nat
  before   : List Gap
  deriving DecidableEq, Repr

/-- A record the drain has begun: its end in ring bytes, its stripes not yet acknowledged, and whether every stripe
has been issued (R81). -/
structure Record where
  start   : Nat
  ends    : Nat
  open_   : Nat
  issued  : Bool
  deriving DecidableEq, Repr

/-- One stream ingest port (R69, R93). -/
structure Ingest where
  phase    : IngPhase
  rstLow   : Bool
  enWanted : Bool
  cfgErr   : BitVec 3
  frozen   : Bool
  /-- the freeze beat has been reached and the drain runs out (R85) -/
  freezing : Bool
  trigPend : Bool
  trigSeen : Bool
  swTrig   : Bool
  pinTrig  : Bool
  /-- the level of In_FULL_WARN as In_CLK last drove it (R69, R87) -/
  warnPin  : Bool
  trigPos  : BitVec 64
  pos      : BitVec 64
  cwp      : BitVec 64
  rp       : BitVec 64
  wp       : BitVec 64
  seq      : BitVec 64
  segs     : List Segment
  gap      : Option Gap
  /-- gap records that no segment follows yet -/
  gapQ     : List Gap
  records  : List Record
  drop     : BitVec 64
  disc     : Reg
  gapCnt   : Reg
  segCnt   : Reg
  deriving DecidableEq, Repr

/-! ### Ledger -/

/-- States of a commit group (R100). -/
inductive GroupSt where
  | free | open_ | committing | committed | aborted
  deriving DecidableEq, Repr

/-- One entry of the group table (R100), with the cursors' progress since its flip or abort (R115). -/
structure GroupRec where
  st       : GroupSt
  entries  : Nat
  inflight : Nat
  deriving DecidableEq, Repr

/-- One slot of the solo table (R108). -/
structure Solo where
  granule : Nat
  done    : Bool
  order   : Nat
  deriving DecidableEq, Repr

/-- The commit ledger (R99 to R126). -/
structure Ledger where
  /-- what an entry that is not listed holds: zero, or after IMAGE 2 the POISONED entry (R122) -/
  fill      : BitVec 96
  /-- entries that differ from `fill`, keyed by granule; raw 96 bits with ECC (R99) -/
  entries   : List (Nat × BitVec 96)
  groups    : List (Nat × GroupRec)
  solos     : List (Nat × Solo)
  soloOrder : Nat
  lastAlloc : BitVec 12
  /-- demand-resolution slots in use: half, granule, request (R109) -/
  demand    : List (Nat × Nat × Nat)
  /-- merges not yet written: granule, unit, request (R106) -/
  merges    : List (Nat × Nat × Nat)
  sweep0    : BitVec 18
  sweep1    : BitVec 18
  paused    : Bool
  enabled   : Bool
  cfgErr    : BitVec 3
  image     : BitVec 2
  frozen    : Bool
  cfgHold   : Bool
  /-- a FATAL of code LEDGER_TABLE was logged (R416) -/
  tableBad  : Bool
  commitCnt : Reg
  abortCnt  : Reg
  conflictCnt : Reg
  fullCnt   : Reg
  exhaustCnt : Reg
  ce0       : Reg
  ce1       : Reg
  uc0       : Reg
  uc1       : Reg
  deriving DecidableEq, Repr

/-! ### Hubs -/

/-- One entry of a route table (R140). -/
structure Route where
  slice  : Fin 80
  absent : Bool
  deriving DecidableEq, Repr

/-- A live older epoch, whose fence is pending (R141, R143). -/
structure OldEpoch where
  epoch : BitVec 16
  table : Vector Route 9
  deriving DecidableEq, Repr

/-- A stripe-journal entry in use (R191). -/
structure JEntry where
  stripe : BitVec 32
  wmask  : BitVec 9
  done   : BitVec 9
  kind   : BitVec 3
  repoch : BitVec 2
  absent : BitVec 4
  seq    : BitVec 16
  deriving DecidableEq, Repr

/-- What a hub knows of one strip of a stripe it works on. -/
inductive Strip where
  /-- not asked for -/
  | none
  /-- a member read is on its way -/
  | pending
  /-- arrived and checked -/
  | got (d : Line)
  /-- holds the poison mark (R418) -/
  | poisoned
  /-- failed its check after replay: the bytes and the check word as read (R185) -/
  | bad (d : Line) (w : Check)
  /-- cannot be reached, or lost (R186, R187) -/
  | gone
  deriving DecidableEq, Repr

/-- What a stripe job is for. -/
inductive JobKind where
  | read | write | repair | zero | relay
  deriving DecidableEq, Repr

/-- Where a stripe job stands. -/
inductive JobPhase where
  /-- waits for the stripe, the chunk or the journal (R188, R192, R200) -/
  | blocked
  | reading
  | writing
  deriving DecidableEq, Repr

/-- The work of one hub on one stripe for one request (R185, R189). -/
structure Job where
  jid    : Nat
  rid    : Nat
  kind   : JobKind
  phase  : JobPhase
  stripe : Nat
  lines  : List LineOp
  xor    : Bool
  tuple  : Bool
  level  : BitVec 2
  /-- a WRITE_XOR, which never uses the FULL or RCW kind (R194) -/
  rmwOnly : Bool
  wkind  : BitVec 3
  strips : Vector Strip 9
  recon  : BitVec 9
  /-- strips to write once the journal entry is open: member, data, check word, check word only -/
  out    : List (Fin 9 × Line × Check × Bool)
  /-- the unreachable member the entry names -/
  away   : Option (Fin 9)
  jidx   : Option Nat
  jwait  : Bool
  /-- the route epoch whose table its member operations use (R141, R144) -/
  epoch  : BitVec 16
  /-- the destination of a relayout copy, and when its first member read was made (R264, R266) -/
  dst    : Option (Fin 80)
  tRead  : Time
  deriving DecidableEq, Repr

/-- One member operation: a strip read or a strip write, in a hub hold or at a slice (R145, R206). -/
structure MemOp where
  jid     : Nat
  group   : Fin 8
  member  : Fin 9
  stripe  : Nat
  line    : Nat
  write   : Bool
  check   : Bool
  data    : Line
  word    : Check
  level   : BitVec 2
  epoch   : BitVec 16
  tEnter  : Time
  replay  : Bool
  /-- jobs of later writes to the same line, acknowledged with this one (R207) -/
  also    : List Nat
  deriving DecidableEq, Repr

/-- What lies in the first stripes of a Keep reserve, or behind them, as a save or a bring-up wrote it: the number of the first stripe, the
slice line of its strips and the line of its check words, and the slices that took it, each with the last loss of contents of its band 7
before. -/
structure Laid where
  stripe : Nat
  line   : Nat
  check  : Nat
  marks  : List (Fin 9 × Fin 80 × Nat)
  deriving DecidableEq, Repr

/-- The void map of a group as it was written whole: the void chunks then, and where the map lies (R199). -/
structure MapImage where
  voids   : List (Nat × Nat)
  stripes : Nat
  at_     : Laid
  deriving DecidableEq, Repr

/-- Refresh of a group: the stall timeline (R213 to R217, R505). -/
structure Timeline where
  running : Bool
  origin  : Time
  next    : Fin 9
  token   : Option (Fin 9)
  lag     : Nat
  /-- by how much the refresh window in progress shortens the lag -/
  shrink  : Nat
  deriving DecidableEq, Repr

/-- One group hub with its hub node and arbiter (R140 to R156, R191 to R202). -/
structure Hub where
  table    : Vector Route 9
  epoch    : BitVec 16
  old      : List OldEpoch
  staged   : Option (Vector Route 9)
  rosterGen : Nat
  tick     : BitVec 16
  grants   : Nat
  journal  : List (Nat × JEntry)
  jseq     : BitVec 16
  jpeak    : BitVec 10
  jwaiting : Bool
  degArmed : Bool
  /-- members whose slice held only part of its data when it failed: out of reach before the swap that makes them ABSENT (R256) -/
  cut      : BitVec 9
  jobs     : List Job
  hold     : List (Fin 80 × MemOp)
  /-- operations of admitted requests that neither a slice nor a hold has taken, in order (R146, R206) -/
  unplaced : List (Fin 80 × MemOp)
  /-- void chunks of the group, as half-open ranges of chunk numbers, rising and disjoint (R199) -/
  voids    : List (Nat × Nat)
  /-- the void map as the last bring-up wrote it to the devices (R199) -/
  mapImage : Option MapImage
  /-- losses of the stripes that hold the void map, and the chunks whose map bits have been written since, as half-open ranges (R276) -/
  mapLost  : List (Nat × Nat × BitVec 9)
  mapDone  : List (Nat × Nat)
  zeroing  : Bool
  retained : BitVec 8
  voidQ    : BitVec 8
  stale    : List Nat
  staleLost : Bool
  /-- losses that stand, as ranges of stripes with the members concerned, whatever becomes of their loss-map entries (R275) -/
  lost     : List (Nat × Nat × BitVec 9)
  verify   : Bool
  verifyPos : Nat
  line     : Timeline
  rtCnt    : Reg
  rcvCnt   : Reg
  cwfixCnt : Reg
  poisonCnt : Reg
  fullCnt  : Reg
  partCnt  : Reg
  xorCnt   : Reg
  jwaitCnt : Reg
  deriving DecidableEq, Repr

/-- Fabric and arbitration state that belongs to no hub (R156 to R159). -/
structure Fabric where
  fence    : BitVec 80
  lateCnt  : Reg
  holdCnt  : Reg
  cancelCnt : Reg
  lateArmed : Bool
  wrst     : Bool
  preemptCnt : Reg
  grants   : Vector Reg 26
  waits    : Vector Reg 26
  longest  : Vector Reg 26
  deriving DecidableEq, Repr

/-! ### Regulation -/

/-- Per-class measurement and boost (R164, R165); the average is held in 1/2^32 ns (assumption 69). -/
structure ClassSt where
  avg    : Nat
  sum    : Nat
  count  : Nat
  boost  : BitVec 2
  maxNs  : Reg
  deriving DecidableEq, Repr

/-- The result of a feasibility check, until the epoch at which it applies: what it sheds, and the multiplier increases and the
PL change that it took into account (R168, R173). -/
structure FeasResult where
  shed     : BitVec 8
  /-- the shed classes that a target below T_min took out (R171, R172) -/
  shedLow  : BitVec 8
  residual : Bool
  cause    : BitVec 3
  /-- increases of a multiplier, each with its value -/
  slices   : List (Fin 80 × BitVec 2)
  pl       : Option (BitVec 2)
  /-- hubs with a detected reduction that this check was started for -/
  hubs     : BitVec 8
  deriving DecidableEq, Repr

/-- Regulation and the feasibility check (R160 to R177). -/
structure Shares where
  classes  : Vector ClassSt 8
  shed     : BitVec 8
  shedLow  : BitVec 8
  nextShed : Option FeasResult
  overcommit : Bool
  residual : Bool
  cause    : BitVec 3
  busy     : Bool
  again    : Bool
  /-- hubs with a detected reduction that the check in progress, or the one after it, is to see (R173) -/
  cutHubs  : BitVec 8
  cutNext  : BitVec 8
  feasD    : BitVec 16
  feasG    : BitVec 16
  fRef     : Vector (BitVec 8) 8
  ovcCnt   : Reg
  missCnt  : Reg
  deriving DecidableEq, Repr

/-! ### Slices -/

/-- Power and refresh state of a slice and its devices (R145, R295). -/
inductive SliceSt where
  | off | init | active | powerDown | selfRefresh
  deriving DecidableEq, Repr

/-- A command in a slice's retry buffer (R223). -/
inductive Cmd where
  | pre (bank : Nat)
  | preAb
  | refAb
  | refPb (pair : Nat)
  | mrr
  | act (bank row : Nat)
  | rd (op : MemOp)
  | wr (op : MemOp)
  deriving DecidableEq, Repr

/-- One line of the check-line cache (R220). -/
structure CkLine where
  line  : Nat
  valid : BitVec 32
  dirty : Bool
  data  : Line
  deriving DecidableEq, Repr

/-- The signature of R334 in the FSP2 set of a slice's dies. -/
structure Signature where
  ngrp   : BitVec 2
  cap    : BitVec 3
  keepA  : BitVec 3
  keepB  : BitVec 3
  group  : BitVec 3
  member : BitVec 4
  role   : BitVec 4
  dest   : Bool
  gen    : Nat
  deriving DecidableEq, Repr

/-- Scheduling state of a slice (R206 to R228). -/
structure Sched where
  rq      : List MemOp
  wq      : List MemOp
  retry   : List Cmd
  /-- reads answered from the write queue, with that write's data and check word (R207) -/
  fwds    : List MemOp
  /-- reads whose replay has been issued: they have left the retry buffer and are on their way (R223, R225) -/
  replayed : List MemOp
  alert   : Option Nat
  rows    : List (Nat × Nat × Time)
  /-- row hits that have passed an older operation in a row, per LEVEL, of the reads and then of the writes (R209) -/
  passed  : Vector Nat 8
  gust    : Bool
  gustCause : BitVec 3
  gustDone : Nat
  drain   : Bool
  /-- the drain that is ordered ends in a flush of the check lines (R221) -/
  flushing : Bool
  fullSeen : Bool
  peak    : BitVec 7
  ckc     : List CkLine
  owed    : Nat
  mult    : BitVec 2
  nextMult : Option (BitVec 2)
  multOk  : Bool
  perBank : Bool
  pbDone  : Nat
  inRef   : Bool
  tLead   : Bool
  hot     : Bool
  hotSeen : Bool
  rr      : BitVec 8
  skip    : Bool
  /-- attached, but not before the group's next cycle in its timeline (R218) -/
  nextCyc : Bool
  tclamp  : Bool
  origin  : Time
  /-- when the stall in progress ends as planned (R186, R214) -/
  stallEnd : Time
  deriving DecidableEq, Repr

/-- A training snapshot of one PL, 96 bytes, whose format is internal: the read delays and then the write delays of 18 DQ and DMI bits, for
both ranks, in steps of 1/64 UI; the other delays, the codes and the mode-register values; the timing values, the oscillator baseline and
the CRC over these (R235, R236). -/
structure Snapshot where
  delays   : Vector (BitVec 6) 72
  settings : BitVec 176
  timing   : Vector Reg 4
  baseline : BitVec 16
  crc      : BitVec 16
  deriving DecidableEq, Repr

/-- Training state of a slice (R233 to R255). -/
structure Train where
  st        : BitVec 4
  snapValid : BitVec 4
  /-- the snapshots, by PL (R235) -/
  snaps     : Vector Snapshot 4
  pl        : BitVec 2
  fsp       : Bool
  marginFail : Bool
  lullReq   : Bool
  /-- takes part in the PL switch in progress and has not taken its step -/
  switching : Bool
  pllReady  : Bool
  /-- every device of the slice reports link ECC (R232) -/
  leccCap   : Bool
  lecc      : Bool
  dbi       : Bool
  failStep  : BitVec 3
  failPl    : BitVec 2
  refuse    : BitVec 3
  cmdRefused : Bool
  devId     : Reg
  temp      : BitVec 8
  tempNow   : BitVec 8
  drift     : BitVec 8
  tLull     : Time
  scanBusy  : Bool
  /-- the PL and the timing values that the scan in progress restores at its end (R252) -/
  scanPl    : BitVec 2
  scanTiming : Vector Reg 4
  scanErr   : BitVec 3
  res0      : Reg
  res1      : Reg
  res2      : Reg
  deriving DecidableEq, Repr

/-- Role and health of a slice (R257 to R259, R283). -/
structure Health where
  role      : BitVec 4
  tested    : Bool
  retrained : Bool
  grp       : Fin 8
  mem       : Option (Fin 9)
  cause     : BitVec 4
  errLevel  : Nat
  inService : Bool
  cmdReset  : Bool
  late      : Nat
  mismatch  : Reg
  failTime  : Time
  deriving DecidableEq, Repr

/-- The 48-bit counters of a slice bank (R439). -/
structure SliceBank where
  slot : BitVec 48
  cnt  : Vector (BitVec 48) 4
  ovf  : BitVec 5
  deriving DecidableEq, Repr

/-- One channel slice. -/
structure Slice where
  power  : SliceSt
  on     : Bool
  ranks  : BitVec 2
  dens   : BitVec 4
  sig    : Option Signature
  pasr   : BitVec 8
  /-- per eighth: which loss of contents came last, 0 for none since power-on; lines are kept as differences from it -/
  lost   : Vector Nat 8
  sched  : Sched
  train  : Train
  health : Health
  bank   : SliceBank
  snapBank : SliceBank
  /-- CH counters, offsets 0x070 to 0x08C in order (R227) -/
  cnt    : Vector Reg 8
  /-- CH training counters, offsets 0x118 to 0x12C in order (R254) -/
  tcnt   : Vector Reg 6
  deriving DecidableEq, Repr

/-! ### Relayout and loss -/

/-- Kinds of relayout (R264). -/
inductive RlyKind where
  | rebuild | resync | evacuate | return_
  deriving DecidableEq, Repr

/-- State of a member (R256). -/
inductive MemSt where
  | healthy | absent | rebuilding | resync | evacuating | returning
  deriving DecidableEq, Repr

/-- A member position: its state and the slice that serves it. -/
structure Member where
  st      : MemSt
  slice   : Fin 80
  /-- ABSENT for a retrain under R245: no spare is offered (R261) -/
  retrain : Bool
  deriving DecidableEq, Repr

/-- A relayout: queued, running or suspended (R263 to R271). -/
structure Relayout where
  kind    : RlyKind
  mem     : Fin 9
  dst     : Fin 80
  src     : Option (Fin 80)
  bound   : Nat
  running : Bool
  suspended : Bool
  /-- stripes of the boundary window that have retired above BOUND (R264) -/
  done    : List Nat
  full    : Bool
  order   : Nat
  deriving DecidableEq, Repr

/-- A request for a spare that has not been granted (R262). -/
structure SpareReq where
  grp  : Fin 8
  mem  : Fin 9
  evac : Bool
  deriving DecidableEq, Repr

/-- A loss-map entry (R277). -/
structure Loss where
  first   : BitVec 32
  last    : BitVec 32
  members : BitVec 9
  group   : BitVec 3
  cause   : BitVec 4
  lines   : BitVec 32
  deriving DecidableEq, Repr

/-- Members, relayouts, spares, losses and Patrol (R256 to R285). -/
structure Spares where
  members  : Vector (Vector Member 9) 8
  rly      : Vector (Option Relayout) 8
  /-- relayouts waiting behind the group's own relayout, oldest first (R263) -/
  queue    : List (Fin 8 × Relayout)
  requests : List SpareReq
  order    : Nat
  low      : Bool
  loss     : List Loss
  dropped  : BitVec 16
  result   : BitVec 4
  patGrp   : BitVec 3
  patPos   : BitVec 27
  patCyc   : Reg
  failCnt  : Reg
  doneCnt  : Reg
  pfixCnt  : Reg
  lostWrCnt : Reg
  deriving DecidableEq, Repr

/-! ### Power -/

/-- Phases of the sleep sequencer (R311). -/
inductive SleepPhase where
  | awake | prepare1 | prepare2 | rollback | entering | asleep | waking | squall
  deriving DecidableEq, Repr

/-- Who asked for the vote in progress. -/
inductive Asker where
  | none | doorbell | pwrReq | doze
  deriving DecidableEq, Repr

/-- The always-on domain besides Breeze and the pins (R290). -/
structure AlwaysOn where
  lost     : Bool
  onVbk    : Bool
  lpMode   : Bool
  vbkLow   : Bool
  swover   : Reg
  /-- residency counters in µs: ACTIVE, S1, S2, RET, HOLDUP, BRINGUP, DIAG (R320) -/
  res      : Vector (BitVec 64) 7
  resNs    : Nat
  /-- in RETENTION: the phase of SLOWCLK in ns/32,768, and the fraction of a µs carried, in µs/32,768 (R320) -/
  slow     : Nat
  frac     : Nat
  /-- sum of the residency counters when SAVE_TIME was taken, in µs (R444), and what CLR_RES took away since -/
  resSave  : Nat
  resLife  : Nat
  ckpt     : Vector Nat 8
  errSeq   : BitVec 16
  wakeEn   : Bool
  deriving DecidableEq, Repr

/-- The power manager (R286 to R322). -/
structure Power where
  phase    : SleepPhase
  result   : BitVec 3
  target   : BitVec 2
  asleep   : BitVec 2
  refuser  : BitVec 7
  reason   : BitVec 4
  wakeSrc  : BitVec 4
  /-- a wake source met while the entry runs (R312); 0 none -/
  wakeSoon : BitVec 4
  /-- the refusal that ended the vote, until the rollback records it (R310) -/
  vetoBy   : BitVec 7
  vetoWhy  : BitVec 4
  asker    : Asker
  /-- domains that have been asked and have not answered, and those that agreed -/
  asked    : BitVec 100
  agreed   : BitVec 100
  /-- domains that were not idle at their PREPARE: port banks with a tag in use, slices with a queue or hold not empty (R309) -/
  busyAt   : BitVec 100
  /-- a vote for this target follows the wake (R305, R306) -/
  after    : Option (BitVec 2 × Asker)
  /-- a PWR_REQ waits for a vote or wake to end (R306) -/
  reqWaits : Bool
  /-- a warm reset follows the wake or the rollback (R312, R489) -/
  warmNext : Bool
  pl       : BitVec 2
  plCap    : BitVec 2
  plGoal   : BitVec 2
  switching : Bool
  raising  : Bool
  waitFeas : Bool
  steps    : Bool
  vidHold  : Bool
  vfault   : Bool
  vofs     : BitVec 3
  formerCore : BitVec 6
  formerSlice : BitVec 6
  coreMv   : BitVec 10
  sliceMv  : BitVec 10
  pllOk    : Bool
  paceMhz  : Vector (BitVec 11) 16
  /-- monitors that have read since bring-up -/
  paceSeen : BitVec 16
  coreTemp : BitVec 8
  /-- when THERM_HI set, or last moved PL_CAP (R300) -/
  thermT   : Time
  coreOn   : Bool
  sleepCnt : Reg
  refuseCnt : Reg
  deriving DecidableEq, Repr

/-- One error log entry (R422). -/
structure LogEntry where
  cls    : BitVec 2
  squall : Bool
  nested : Bool
  page   : BitVec 8
  code   : BitVec 16
  count  : BitVec 16
  seq    : BitVec 16
  tFirst : Time
  tLast  : Time
  detail : BitVec 64
  deriving DecidableEq, Repr

/-! ### Squall and Keep -/

/-- What a Squall still has to do (R323 to R330). -/
structure Squall where
  active   : Bool
  cause    : BitVec 8
  save     : Bool
  /-- the last admitted request has completed and the port banks are off (R325) -/
  drained  : Bool
  /-- the limit of R326 has passed -/
  limit    : Bool
  token    : Bool
  doneSent : Bool
  headers  : Bool
  saveTime : Time
  /-- the PL that the header records: in a switch, the slower of the two (R332) -/
  pl       : BitVec 2
  log      : List LogEntry
  logOvf   : Bool
  /-- what BRZ_STATUS shows since HOLD-UP entry, and what counts for R340, which takes in frames recorded before it (R361) -/
  tokenSeen : BitVec 8
  peerDone : BitVec 8
  heard    : BitVec 8
  /-- slices that have still to enter self-refresh -/
  todo     : BitVec 80
  /-- MAIN_PG has risen again in HOLD-UP (R27) -/
  rose     : Bool
  /-- the highest GENERATION found at the last bring-up (R332) -/
  gen      : BitVec 64
  deriving DecidableEq, Repr

/-- What the ingest ring record holds of one port: base and size registers, mode, and the ring state of a designated Keep region
(R90, R331). -/
structure RingSave where
  base : BitVec 64
  size : Reg
  wrap : Bool
  keep : Option Ingest
  deriving DecidableEq, Repr

/-- The sections of a Keep copy, as the state they hold (R331). The header is held as its 512 bytes. -/
structure KeepSections where
  fill     : BitVec 96
  entries  : List (Nat × BitVec 96)
  groups   : List (Nat × GroupRec)
  solos    : List (Nat × Solo)
  journals : Vector (List (Nat × JEntry)) 8
  loss     : List Loss
  lossDrop : BitVec 16
  stale    : Vector (List Nat × Bool) 8
  members  : Vector (Vector Member 9) 8
  rly      : Vector (Option Relayout) 8
  queue    : List (Fin 8 × Relayout)
  requests : List SpareReq
  ckpt     : Vector Nat 8
  roles    : Vector (BitVec 4) 80
  rings    : Vector RingSave 8
  regs     : List (Nat × Reg)
  locked   : Bool
  slots    : List (Fin 16 × Bool × List Byte)
  patch    : List Byte
  log      : List LogEntry
  /-- the copy of the snapshot SRAM: which snapshots are valid, and their contents (R235) -/
  snaps    : Vector (BitVec 4 × Vector Snapshot 4) 80
  deriving DecidableEq, Repr

/-- One system copy of the Keep area as it was last written (R331 to R333): the bytes of its header, the state that its sections hold,
whether the ledger image was written, and the number of the save, which names the bytes of the sections of internal format. `root` and
`key` are the root and the Keep key of the save (R469); `parity` tells a copy over a whole group from one over four members (R197). -/
structure KeepCopy where
  header : List Byte
  secs   : KeepSections
  ledger : Bool
  save   : Nat
  root   : BitVec 256
  key    : List Byte
  grp    : Fin 8
  parity : Bool
  at_    : Laid
  deriving DecidableEq, Repr

/-! ### Breeze -/

/-- The Breeze interface: its register copies, its bus state with the levels of D0, D1, ACK and RDY and the wires among them that it pulls
low (bits 3 to 0), the frame it drove last, the frames waiting to be sent (one of each kind, and up to four
replies: R359), the receive buffer and the counters (R342 to R363). -/
structure Breeze where
  addr     : BitVec 3
  wires    : BitVec 4
  pulls    : BitVec 4
  sent     : List Byte
  busy     : Bool
  joined   : Bool
  stuck    : Bool
  dupAddr  : Bool
  cfg      : Reg
  peers    : BitVec 8
  conc     : BitVec 4
  tokenWait : BitVec 16
  txDone   : Bool
  txToken  : Bool
  replies  : List (List Byte)
  txHint   : Option (BitVec 2)
  txHost   : Option (List Byte)
  /-- retries used, by kind of frame in the order of R359 -/
  retries  : Vector Nat 5
  txResult : BitVec 3
  rxValid  : Bool
  rxOver   : Bool
  rxSrc    : BitVec 8
  rxCmd    : BitVec 8
  rxLen    : BitVec 5
  rxData   : List Byte
  crcCnt   : Reg
  toCnt    : Reg
  arbCnt   : Reg
  collCnt  : Reg
  dropCnt  : Reg
  deriving DecidableEq, Repr

/-! ### Errors and telemetry -/

/-- The error log (R422 to R431, R437). -/
structure ErrLog where
  ring     : Vector (Option LogEntry) 32
  next     : BitVec 5
  unack    : Nat
  fatal    : Bool
  first    : Option LogEntry
  sqLog    : List LogEntry
  sqValid  : Bool
  sqOvf    : Bool
  sqCause  : BitVec 8
  ceCnt    : Reg
  rcvCnt   : Reg
  ucCnt    : Reg
  fatalCnt : Reg
  ovfCnt   : Reg
  keepCnt  : Reg
  deriving DecidableEq, Repr

/-- Telemetry outside the slices (R439 to R458). -/
structure Telemetry where
  sys      : Vector (BitVec 48) 8
  sysOvf   : BitVec 8
  snapSys  : Vector (BitVec 48) 8
  snapOvf  : BitVec 8
  snapTime : Time
  snapValid : Bool
  snapBusy : Bool
  down     : Nat
  lfsr     : BitVec 32
  seq      : BitVec 32
  fill     : List (List Byte)
  fillT    : Time
  read     : List (BitVec 32)
  readBank : Bool
  closeDue : Bool
  lastPop  : BitVec 32
  underrun : Bool
  dropping : Bool
  dropN    : Nat
  dropT0   : Time
  dropT1   : Time
  dropSeq  : BitVec 32
  /-- when the last record was written (R452: one record per 2 ns) -/
  tWrite   : Option Time
  sampCnt  : Reg
  dropCnt  : Reg
  gapCnt   : Reg
  deriving DecidableEq, Repr

/-! ### Security -/

/-- One physical word of the OTP row (R459). -/
structure OtpWord where
  data   : BitVec 64
  ecc    : BitVec 8
  begun  : Bool
  done   : Bool
  target : BitVec 6
  deriving DecidableEq, Repr

/-- A key slot: its state and what it was derived from (R466). -/
structure KeySlot where
  st   : BitVec 2
  root : Bool
  ctx  : List Byte
  key  : List Byte
  deriving DecidableEq, Repr

/-- OTP row, key slots and patch (R459 to R475). -/
structure Security where
  words    : Vector OtpWord 64
  spares   : Vector OtpWord 8
  otpBusy  : Bool
  otpSpare : Option (Fin 8)
  /-- the main word that a program runs in, when it runs in no spare -/
  otpIndex : BitVec 6
  otpResult : BitVec 3
  /-- the FEATURES word as the last bring-up took it (R459) -/
  features : BitVec 64
  otpCe    : Reg
  otpUc    : Reg
  otpRe    : Reg
  slots    : Vector KeySlot 16
  cmdBusy  : Bool
  deriving_ : Option (Fin 16)
  cmdResult : BitVec 3
  loading  : Bool
  patchReason : BitVec 4
  patchSeen : BitVec 16
  image    : List Byte
  taken    : Bool
  keepRoot : BitVec 2
  /-- the Keep key, 64 bytes; empty before the first bring-up derives it (R465, R466) -/
  keepKey  : List Byte
  denyCnt  : Reg
  denyArmed : Bool
  deriving DecidableEq, Repr

/-! ### Vanes, debug and test access -/

/-- One vane mailbox (R404, R409). -/
structure Vane where
  busy     : Bool
  doneBit  : Bool
  ringLost : Bool
  op       : Byte
  args     : Vector Reg 4
  abortReq : Bool
  code     : BitVec 4
  reason   : BitVec 8
  seq      : BitVec 16
  rdata    : Vector Reg 4
  keepRes  : Bool
  cmdCnt   : Reg
  refuseCnt : Reg
  deriving DecidableEq, Repr

/-- The debug port and the header capture (R410 to R413). -/
structure Debug where
  busy     : Bool
  direct   : Bool
  code     : BitVec 4
  poison   : Bool
  err      : BitVec 3
  touched  : BitVec 8
  capArmed : Bool
  captured : Bool
  capData  : BitVec 128
  capTime  : Time
  deriving DecidableEq, Repr

/-- The TAP and the IEEE 1500 wrapper (R500 to R503). -/
structure TestAccess where
  /-- the instruction shifted in -/
  ir      : Byte
  /-- what the selected data register holds at Capture-DR: the low 54 bits, and its length -/
  dr      : BitVec 54
  drLen   : Nat
  /-- the last REGACC: CP_RERR, address, read data -/
  rerr    : Bool
  rdAddr  : BitVec 20
  rdData  : Reg
  /-- a scan or memory-test instruction is selected in the wrapper, else WS_BYPASS -/
  scan    : Bool
  deriving DecidableEq, Repr

/-! ### The whole -/

/-- The state of the block and its queue of waiting commands, first in, first out. -/
structure State where
  pending : List Instr
  tb      : Time
  free    : Nat
  /-- the next number for a request or a job; 0 stands for none -/
  ids     : Nat
  mode    : ModeState
  pins    : Pins
  regs    : Regs
  ports   : Vector Port 16
  reqs    : List Req
  ingest  : Vector Ingest 8
  ledger  : Ledger
  hubs    : Vector Hub 8
  fab     : Fabric
  shr     : Shares
  slices  : Vector Slice 80
  spr     : Spares
  ao      : AlwaysOn
  pwr     : Power
  squall  : Squall
  keepA   : Option KeepCopy
  keepB   : Option KeepCopy
  brz     : Breeze
  err     : ErrLog
  tel     : Telemetry
  sec     : Security
  vanes   : Vector Vane 24
  dbg     : Debug
  test    : TestAccess
  mem     : List Host.Cell
  deriving DecidableEq, Repr

/-- No command of the block ends in a fault: the manual gives every command of the table an effect, or says that it
has none. -/
inductive Fault where
  deriving DecidableEq, Repr

/-- Why a command has no meaning here. -/
inductive Refusal where
  /-- Raised by `exec` for a command the model does not give a meaning yet, named by its mnemonic. Safe: nothing can be
  proved of the block from a refused command. -/
  | notModelled (mnemonic : String)
  deriving DecidableEq, Repr

/-! ### Reset values -/

/-- GLB state from power-on (R401 reset values; mode BRING-UP, R25). -/
def ModeState.reset : ModeState :=
  { mode := .bringUp, buKind := .cold, stuck := false, cause := 0, buSlice := 0x7F, keepSrc := 0, shortGrp := 0
    step := 1, coldLow := true, ucodeOk := false, retained := false, memRstLow := false,
    refWait := false, served := false, warmed := false, patchBuild := 0, tService := 0 }

/-- Pins from power-on: COLD_RST_N and MAIN_PG low (R484), VID codes 0x23 (R288). -/
def Pins.reset : Pins :=
  { mainPg := false, coldRstN := false, cpRstN := true, pwrReq := false, pwrReqState := 0
    pwrAck := false, pwrNack := false, pwrPl := 0, aoValid := false, wakeOut := false, coreVid := 0x23
    sliceVid := 0x23 }

/-- A page header at reset (R372). -/
def Header.reset : Header :=
  { intRaw := 0, intEn := 0, parity := false, accessErr := false, errCause := 0, errOfs := 0, applied := 0 }

/-- The sequence lock, free (R395). -/
def SeqLock.reset : SeqLock :=
  { held := false, owner := 0, overflow := false, staged := [], tLease := 0 }

/-- Every register at its reset value (R394). -/
def Regs.reset : Regs :=
  { applied := [], shadows := [], lowHeld := [], headers := [], boot := [], napHeld := [], locked := false
    seq := SeqLock.reset, rdata := 0, rerr := false }

/-- A requester port at reset (R67). -/
def Port.reset : Port :=
  { pinLow := false, rstActive := false, rstDone := true, epoch := 0, isolated := false, isoCause := 0
    discardCnt := 0, denyCnt := 0, backoffCnt := 0, malfCnt := 0, rsp := none }

/-- An ingest port at reset (R93). -/
def Ingest.reset : Ingest :=
  { phase := .off, rstLow := false, enWanted := false, cfgErr := 0, frozen := false, freezing := false
    trigPend := false, trigSeen := false, swTrig := false, pinTrig := false, warnPin := false, trigPos := BitVec.allOnes 64, pos := 0
    cwp := 0, rp := 0, wp := 0, seq := 0, segs := [], gap := none, gapQ := [], records := []
    drop := 0, disc := 0, gapCnt := 0, segCnt := 0 }

/-- The ledger at reset: disabled, every group FREE (R125). -/
def Ledger.reset : Ledger :=
  { fill := 0, entries := [], groups := [], solos := [], soloOrder := 0, lastAlloc := 0xFFF, demand := [], merges := []
    sweep0 := 0, sweep1 := 0, paused := false, enabled := false, cfgErr := 0, image := 3, frozen := false
    cfgHold := false, tableBad := false, commitCnt := 0, abortCnt := 0, conflictCnt := 0, fullCnt := 0
    exhaustCnt := 0, ce0 := 0, ce1 := 0, uc0 := 0, uc1 := 0 }

/-- The home slice of member `m` of group `g`: 9g + m (R178). -/
def homeSlice (g : Fin 8) (m : Fin 9) : Fin 80 := ⟨9 * g.val + m.val, by omega⟩

/-- The home route table of a hub (R140). -/
def homeTable (g : Fin 8) : Vector Route 9 :=
  Vector.ofFn fun m => { slice := homeSlice g m, absent := false }

/-- A stall timeline that does not run (R213). -/
def Timeline.reset : Timeline :=
  { running := false, origin := 0, next := 0, token := none, lag := 0, shrink := 0 }

/-- A hub at reset (R157, R201). -/
def Hub.reset (g : Fin 8) : Hub :=
  { table := homeTable g, epoch := 0, old := [], staged := none, rosterGen := 0, tick := 0, grants := 0
    journal := [], jseq := 0, jpeak := 0, jwaiting := false, degArmed := true, cut := 0, jobs := []
    hold := [], unplaced := [], voids := [], mapImage := none, mapLost := [], mapDone := [], zeroing := false, retained := 0x80, voidQ := 0
    stale := [], staleLost := false, lost := [], verify := false, verifyPos := 0, line := Timeline.reset, rtCnt := 0, rcvCnt := 0
    cwfixCnt := 0, poisonCnt := 0, fullCnt := 0, partCnt := 0, xorCnt := 0, jwaitCnt := 0 }

/-- The fabric at reset (R157, R159). -/
def Fabric.reset : Fabric :=
  { fence := 0, lateCnt := 0, holdCnt := 0, cancelCnt := 0, lateArmed := true, wrst := false, preemptCnt := 0
    grants := Vector.replicate 26 0, waits := Vector.replicate 26 0, longest := Vector.replicate 26 0 }

/-- A class at reset (R176). -/
def ClassSt.reset : ClassSt :=
  { avg := 0, sum := 0, count := 0, boost := 0, maxNs := 0 }

/-- Regulation at reset (R176). -/
def Shares.reset : Shares :=
  { classes := Vector.replicate 8 ClassSt.reset, shed := 0, shedLow := 0, nextShed := none, overcommit := false, residual := false
    cause := 0, busy := false, again := false, cutHubs := 0, cutNext := 0, feasD := 0, feasG := 0, fRef := Vector.replicate 8 0, ovcCnt := 0
    missCnt := 0 }

/-- The scheduler of a slice at reset (R227). -/
def Sched.reset : Sched :=
  { rq := [], wq := [], retry := [], fwds := [], replayed := [], alert := none, rows := [], passed := Vector.replicate 8 0, gust := false
    gustCause := 0, gustDone := 0, drain := false, flushing := false, fullSeen := false, peak := 0, ckc := [], owed := 0, mult := 1, nextMult := none
    multOk := false, perBank := false, pbDone := 0, inRef := false, tLead := false, hot := false, hotSeen := false
    rr := 0, skip := false, nextCyc := false, tclamp := false, origin := 0, stallEnd := 0 }

/-- No snapshot: the SRAM as it comes up, of which nothing is valid (R235). -/
def Snapshot.blank : Snapshot := { delays := Vector.replicate 72 0, settings := 0, timing := Vector.replicate 4 0, baseline := 0, crc := 0 }

/-- Training state of a slice at reset (R254). -/
def Train.reset : Train :=
  { st := 0, snapValid := 0, snaps := Vector.replicate 4 Snapshot.blank, pl := 0, fsp := false, marginFail := false, lullReq := false
    switching := false, pllReady := false, leccCap := false, lecc := false, dbi := false, failStep := 0, failPl := 0, refuse := 0
    cmdRefused := false, devId := 0, temp := 0, tempNow := 0, drift := 0, tLull := 0, scanBusy := false
    scanPl := 0, scanTiming := Vector.replicate 4 0, scanErr := 0, res0 := 0, res1 := 0, res2 := 0 }

/-- Role and health of a slice at reset (R283). -/
def Health.reset : Health :=
  { role := 0, tested := false, retrained := false, grp := 0, mem := none, cause := 0, errLevel := 0
    inService := false, cmdReset := false, late := 0, mismatch := 0, failTime := 0 }

/-- A slice bank cleared (R458). -/
def SliceBank.reset : SliceBank :=
  { slot := 0, cnt := Vector.replicate 4 0, ovf := 0 }

/-- A slice at reset: its domain off, its devices as the board left them (R491). -/
def Slice.reset : Slice :=
  { power := .off, on := false, ranks := 0, dens := 0, sig := none, pasr := 0, lost := Vector.replicate 8 0, sched := Sched.reset
    train := Train.reset, health := Health.reset, bank := SliceBank.reset, snapBank := SliceBank.reset
    cnt := Vector.replicate 8 0, tcnt := Vector.replicate 6 0 }

/-- Members at reset: each on its home slice (R256). -/
def Member.home (g : Fin 8) (m : Fin 9) : Member :=
  { st := .healthy, slice := homeSlice g m, retrain := false }

/-- Relayout and loss state at reset (R284). -/
def Spares.reset : Spares :=
  { members := Vector.ofFn fun g => Vector.ofFn fun m => Member.home g m, rly := Vector.replicate 8 none
    queue := [], requests := [], order := 0, low := false, loss := [], dropped := 0, result := 0, patGrp := 0
    patPos := 0, patCyc := 0, failCnt := 0, doneCnt := 0, pfixCnt := 0, lostWrCnt := 0 }

/-- The always-on domain at its first power-up (R290, R320; SEQ restarts so that the first entry carries 1, R430). -/
def AlwaysOn.reset : AlwaysOn :=
  { lost := false, onVbk := false, lpMode := false, vbkLow := false, swover := 0, res := Vector.replicate 7 0
    resNs := 0, slow := 0, frac := 0, resSave := 0, resLife := 0, ckpt := Vector.replicate 8 0, errSeq := 0, wakeEn := true }

/-- The power manager at reset (R321). -/
def Power.reset : Power :=
  { phase := .awake, result := 0, target := 0, asleep := 0, refuser := 0x7F, reason := 0, wakeSrc := 0
    wakeSoon := 0, vetoBy := 0x7F, vetoWhy := 0, asker := .none, asked := 0, agreed := 0, busyAt := 0, after := none, reqWaits := false, warmNext := false, pl := 0
    plCap := 0, plGoal := 0, switching := false, raising := false, waitFeas := false, steps := false
    vidHold := false, vfault := false, vofs := 0, formerCore := 0x23, formerSlice := 0x23, coreMv := 0, sliceMv := 0
    pllOk := false, paceMhz := Vector.replicate 16 0, paceSeen := 0, coreTemp := 0, thermT := 0, coreOn := false
    sleepCnt := 0, refuseCnt := 0 }

/-- No Squall. -/
def Squall.reset : Squall :=
  { active := false, cause := 0, save := false, drained := false, limit := false, token := false, doneSent := false
    headers := false, saveTime := 0, pl := 0, log := [], logOvf := false, tokenSeen := 0, peerDone := 0, heard := 0, todo := 0, rose := false, gen := 0 }

/-- Breeze at reset (R362): the address is the strap, the peers register names the instance alone. -/
def Breeze.reset : Breeze :=
  { addr := Config.brzAddrStrap, wires := 0, pulls := 0, sent := [], busy := false, joined := false, stuck := false, dupAddr := false
    cfg := 0x440, peers := 0, conc := 1, tokenWait := 0x1F4, txDone := false, txToken := false, replies := []
    txHint := none, txHost := none, retries := Vector.replicate 5 0, txResult := 0, rxValid := false, rxOver := false, rxSrc := 0
    rxCmd := 0, rxLen := 0, rxData := [], crcCnt := 0, toCnt := 0, arbCnt := 0, collCnt := 0
    dropCnt := 0 }

/-- The error log at reset (R437). -/
def ErrLog.reset : ErrLog :=
  { ring := Vector.replicate 32 none, next := 0, unack := 0, fatal := false, first := none, sqLog := []
    sqValid := false, sqOvf := false, sqCause := 0, ceCnt := 0, rcvCnt := 0, ucCnt := 0, fatalCnt := 0, ovfCnt := 0
    keepCnt := 0 }

/-- Telemetry at reset (R457). -/
def Telemetry.reset : Telemetry :=
  { sys := Vector.replicate 8 0, sysOvf := 0, snapSys := Vector.replicate 8 0, snapOvf := 0, snapTime := 0
    snapValid := false, snapBusy := false, down := 0, lfsr := 1, seq := 0, fill := [], fillT := 0
    read := [], readBank := false, closeDue := false, lastPop := 0, underrun := false, dropping := false, dropN := 0
    dropT0 := 0, dropT1 := 0, dropSeq := 0, tWrite := none, sampCnt := 0, dropCnt := 0, gapCnt := 0 }

/-- A blank word of the OTP row (R460). -/
def OtpWord.blank : OtpWord := { data := 0, ecc := 0, begun := false, done := false, target := 0 }

/-- An empty key slot (R466). -/
def KeySlot.empty : KeySlot := { st := 0, root := false, ctx := [], key := [] }

/-- Security at reset: a blank row but for the shipped identity, which `Config.instanceId` stands for (R459). -/
def Security.reset : Security :=
  { words := Vector.replicate 64 OtpWord.blank, spares := Vector.replicate 8 OtpWord.blank, otpBusy := false
    otpSpare := none, otpIndex := 0, otpResult := 0, features := 0, otpCe := 0, otpUc := 0, otpRe := 0, slots := Vector.replicate 16 KeySlot.empty
    cmdBusy := false, deriving_ := none, cmdResult := 0, loading := false, patchReason := 0, patchSeen := 0
    image := [], taken := false, keepRoot := 0, keepKey := [], denyCnt := 0, denyArmed := true }

/-- A mailbox at reset (R409). -/
def Vane.reset : Vane :=
  { busy := false, doneBit := false, ringLost := false, op := 0, args := Vector.replicate 4 0, abortReq := false
    code := 0, reason := 0, seq := 0, rdata := Vector.replicate 4 0, keepRes := false, cmdCnt := 0, refuseCnt := 0 }

/-- The debug port at reset (R412). -/
def Debug.reset : Debug :=
  { busy := false, direct := false, code := 0, poison := false, err := 0, touched := 0, capArmed := false
    captured := false, capData := 0, capTime := 0 }

/-- Test access after TAP reset: IDCODE selected (R500). -/
def TestAccess.reset : TestAccess :=
  { ir := 0x01, dr := 0x2C080001, drLen := 32, rerr := false, rdAddr := 0, rdData := 0, scan := false }

/-- The block from power-on, with COLD_RST_N low: BRING-UP (cold), nothing stored, no command waiting (R25, R394, R484). -/
def State.reset : State :=
  { pending := [], tb := 0, free := 0, ids := 1, mode := ModeState.reset, pins := Pins.reset, regs := Regs.reset
    ports := Vector.replicate 16 Port.reset, reqs := [], ingest := Vector.replicate 8 Ingest.reset
    ledger := Ledger.reset, hubs := Vector.ofFn Hub.reset, fab := Fabric.reset, shr := Shares.reset
    slices := Vector.replicate 80 Slice.reset, spr := Spares.reset, ao := AlwaysOn.reset, pwr := Power.reset
    squall := Squall.reset, keepA := none, keepB := none, brz := Breeze.reset, err := ErrLog.reset
    tel := Telemetry.reset, sec := Security.reset, vanes := Vector.replicate 24 Vane.reset, dbg := Debug.reset
    test := TestAccess.reset, mem := [] }

end Sys2Proof.Machine
end

