-- ==== Sys2Proof/Machine/Bytes.lean ====
section
/-!
DEFINITION. Bit fields, byte order, saturating counters, keyed lists, the checksums of the manual (CRC16 of R184, T10 CRC
of R56, CRC32 of R74, CRC8 of R352) and the SECDED code of the ledger and the OTP row.
-/
namespace Sys2Proof.Machine

/-! ### Fields of registers -/

/-- A value placed at bit `sh` of a 32-bit register. -/
def fld (v : Nat) (sh : Nat) : Reg := BitVec.ofNat 32 v <<< sh

/-- A flag placed at bit `sh` of a 32-bit register. -/
def flag (b : Bool) (sh : Nat) : Reg := if b then BitVec.ofNat 32 1 <<< sh else 0

/-- Bits `hi:lo` of a register, as a number. -/
def fieldOf (r : Reg) (hi lo : Nat) : Nat := (r.toNat >>> lo) % 2 ^ (hi - lo + 1)

/-- Bit `i` of a register. -/
def bitOf (r : Reg) (i : Nat) : Bool := r.getLsbD i

/-- The lower and upper halves of a 64-bit value. -/
def loWord (v : BitVec 64) : Reg := v.extractLsb' 0 32
def hiWord (v : BitVec 64) : Reg := v.extractLsb' 32 32

/-- A 64-bit value from its words. -/
def pairOf (lo hi : Reg) : BitVec 64 := hi ++ lo

/-- A counter that saturates at 0xFFFF_FFFF rises by `n`. -/
def satAdd (c : Reg) (n : Nat) : Reg := BitVec.ofNat 32 (min (c.toNat + n) 0xFFFFFFFF)

/-- A saturating counter rises by 1. -/
def satInc (c : Reg) : Reg := satAdd c 1

/-- A mask from a test on each bit number. -/
def maskOf (w : Nat) (f : Nat → Bool) : BitVec w :=
  (List.range w).foldl (fun m i => if f i then m ||| (1#w <<< i) else m) 0

/-! ### Lists keyed by a number -/

/-- The value at a key. -/
def getKey {α : Type} (l : List (Nat × α)) (k : Nat) : Option α :=
  match l with
  | [] => none
  | (k', v) :: rest => if k' = k then some v else getKey rest k

/-- The list without a key. -/
def dropKey {α : Type} (l : List (Nat × α)) (k : Nat) : List (Nat × α) :=
  match l with
  | [] => []
  | (k', v) :: rest => if k' = k then dropKey rest k else (k', v) :: dropKey rest k

/-- The list with a key set; keys stay in rising order when they were. -/
def setKey {α : Type} (l : List (Nat × α)) (k : Nat) (v : α) : List (Nat × α) :=
  match l with
  | [] => [(k, v)]
  | (k', v') :: rest =>
    if k' < k then (k', v') :: setKey rest k v
    else if k' = k then (k, v) :: rest
    else (k, v) :: (k', v') :: rest

/-! ### Bytes -/

/-- Byte `k` of a word, little-endian (R11). -/
def byteAt {w : Nat} (v : BitVec w) (k : Nat) : Byte := v.extractLsb' (8 * k) 8

/-- The first `n` bytes of a word, little-endian (R11). -/
def bytesOf {w : Nat} (v : BitVec w) (n : Nat) : List Byte := (List.range n).map (byteAt v)

/-- A word from bytes, little-endian (R11). -/
def wordOf (w : Nat) (bs : List Byte) : BitVec w :=
  BitVec.ofNat w (bs.foldr (fun b acc => b.toNat + 256 * acc) 0)

/-- The 64 bytes of a line. -/
def lineBytes (l : Line) : List Byte := bytesOf l 64

/-- A line from 64 bytes. -/
def lineOf (bs : List Byte) : Line := wordOf 512 bs

/-- A number as `n` bytes, little-endian. -/
def natBytes (v n : Nat) : List Byte := (List.range n).map fun k => BitVec.ofNat 8 (v >>> (8 * k))

/-- Merge under byte enables: byte k of `new` where bit k of `be` is set. -/
def mergeBytes (old new : Line) (be : BitVec 64) : Line :=
  lineOf ((List.range 64).map fun k => if be.getLsbD k then byteAt new k else byteAt old k)

/-- Bytes `start` to `start + len - 1` replaced in a list. -/
def patchBytes (l : List Byte) (start : Nat) (new : List Byte) : List Byte :=
  l.take start ++ new ++ l.drop (start + new.length)

/-- Repeat a byte. -/
def fillBytes (b : Byte) (n : Nat) : List Byte := List.replicate n b

/-! ### Checksums -/

/-- One bit of a most-significant-bit-first CRC. -/
def crcBitMsb (w : Nat) (poly : BitVec w) (crc : BitVec w) : BitVec w :=
  if crc.msb then (crc <<< 1) ^^^ poly else crc <<< 1

/-- `n` bits of a most-significant-bit-first CRC. -/
def crcBitsMsb (w : Nat) (poly : BitVec w) : Nat → BitVec w → BitVec w
  | 0, crc => crc
  | n + 1, crc => crcBitsMsb w poly n (crcBitMsb w poly crc)

/-- A most-significant-bit-first CRC over bytes. -/
def crcMsb (w : Nat) (poly init : BitVec w) (bs : List Byte) : BitVec w :=
  bs.foldl (fun crc b => crcBitsMsb w poly 8 (crc ^^^ (BitVec.ofNat w (b.toNat <<< (w - 8))))) init

/-- The CRC16 of check words: polynomial 0x1021, initial value 0xFFFF (R184). -/
def crcCheck (bs : List Byte) : Check := crcMsb 16 0x1021 0xFFFF bs

/-- The T10 CRC: polynomial 0x8BB7, initial value 0 (R56). -/
def crcT10 (bs : List Byte) : BitVec 16 := crcMsb 16 0x8BB7 0 bs

/-- The CRC8 of Breeze frames: polynomial 0x07, initial value 0. -/
def crcFrame (bs : List Byte) : Byte := crcMsb 8 0x07 0 bs

/-- `n` bits of the reflected CRC32. -/
def crc32Bits : Nat → BitVec 32 → BitVec 32
  | 0, crc => crc
  | n + 1, crc => crc32Bits n (if crc.getLsbD 0 then (crc >>> 1) ^^^ 0xEDB88320 else crc >>> 1)

/-- The CRC32 of descriptors and Keep headers (IEEE 802.3, reflected). -/
def crc32 (bs : List Byte) : BitVec 32 :=
  ~~~(bs.foldl (fun crc b => crc32Bits 8 (crc ^^^ b.setWidth 32)) 0xFFFFFFFF)

/-- The parity of the bits of a word. -/
def xorBits {w : Nat} (v : BitVec w) : Bool :=
  (List.range w).foldl (fun p i => p != v.getLsbD i) false

/-! ### SECDED (R99, R459) -/

/-- The first `n` positive integers from `k` on that are not powers of two; `fuel` bounds the search. -/
def nonPowers : (fuel n k : Nat) → List Nat
  | 0, _, _ => []
  | _, 0, _ => []
  | fuel + 1, n + 1, k =>
    if 2 ^ Nat.log2 k = k then nonPowers fuel (n + 1) (k + 1) else k :: nonPowers fuel n (k + 1)

/-- The codeword position of each of `n` data bits: the (d+1)-th positive integer that is not a power of two. -/
def secdedPositions (n : Nat) : List Nat := nonPowers (n + 8) n 1

/-- The XOR of the codeword positions of the set data bits: ECC bits 6 to 0. -/
def secdedSyndrome (n : Nat) (data : Nat) : Nat :=
  ((secdedPositions n).zipIdx).foldl (fun acc pd => if data.testBit pd.2 then acc ^^^ pd.1 else acc) 0

/-- The eight ECC bits over `n` data bits (R99). -/
def secdedEcc (n : Nat) (data : Nat) : BitVec 8 :=
  let low : BitVec 7 := BitVec.ofNat 7 (secdedSyndrome n data)
  let p := xorBits (BitVec.ofNat 88 data) != xorBits low
  BitVec.ofBool p ++ low

/-- What a SECDED check finds. -/
inductive Secded where
  | clean
  | corrected (data : Nat)
  | uncorrectable
  deriving DecidableEq, Repr

/-- Checks `n` data bits against their stored ECC, and corrects a single-bit error (R117). -/
def secdedCheck (n : Nat) (data : Nat) (ecc : BitVec 8) : Secded :=
  let syn := secdedSyndrome n data ^^^ (ecc.setWidth 7).toNat
  let odd := xorBits (BitVec.ofNat 88 data) != xorBits ecc
  if syn = 0 then (if odd then .corrected data else .clean)
  else if odd = false then .uncorrectable
  else if 2 ^ Nat.log2 syn = syn then .corrected data
  else match (secdedPositions n).idxOf? syn with
    | some d => .corrected (data ^^^ 2 ^ d)
    | none => .uncorrectable

end Sys2Proof.Machine
end

