-- ==== Sys2Proof/Machine/Operands.lean ====
section
/-!
DEFINITION. The operand forms of the register port: the page directory (R399, R400), address folding and aliases (R368,
R369), lanes (R364, R377), and the writable fields of every register with their reset values and apply points (R380,
R414 and the field maps of the owning chapters).
-/
namespace Sys2Proof.Machine

/-- The kinds of page (R399). The two half pages and the first GRP page differ in what they hold. -/
inductive Kind where
  | glb | pwr | brz | sec | otp | err | tel | fab | arb | shr | ldg | dbg | spr | prt | ing | grp | vane | ch
  deriving DecidableEq, Repr

/-- The kind of a page index and the instance within the kind; none for an index the directory does not list. -/
def pageKind (page : Nat) : Option (Kind × Nat) :=
  if page = 0x00 then some (.glb, 0)
  else if page = 0x01 then some (.pwr, 0)
  else if page = 0x02 then some (.brz, 0)
  else if page = 0x03 then some (.sec, 0)
  else if page = 0x04 then some (.otp, 0)
  else if page = 0x05 then some (.err, 0)
  else if page = 0x06 then some (.tel, 0)
  else if page = 0x07 then some (.fab, 0)
  else if page = 0x08 then some (.arb, 0)
  else if page = 0x09 then some (.shr, 0)
  else if page = 0x0A then some (.ldg, 0)
  else if page = 0x0B then some (.ldg, 1)
  else if page = 0x0C then some (.dbg, 0)
  else if page = 0x0D then some (.spr, 0)
  else if 0x10 ≤ page ∧ page < 0x20 then some (.prt, page - 0x10)
  else if 0x20 ≤ page ∧ page < 0x28 then some (.ing, page - 0x20)
  else if 0x28 ≤ page ∧ page < 0x30 then some (.grp, page - 0x28)
  else if 0x30 ≤ page ∧ page < 0x48 then some (.vane, page - 0x30)
  else if 0x80 ≤ page ∧ page < 0xD0 then some (.ch, page - 0x80)
  else none

/-- PAGE_ID.SPAN: 1 for 0x100, 2 for 0x200, 3 for 0x400 (R399, R400). -/
def kindSpanCode (k : Kind) : Nat :=
  match k with
  | .sec | .err | .dbg | .spr | .ch => 2
  | .tel | .arb => 3
  | _ => 1

/-- The span in bytes. -/
def kindSpan (k : Kind) : Nat := 0x80 * 2 ^ kindSpanCode k

/-- PAGE_ID.KIND (R399). -/
def kindCode (k : Kind) : Nat :=
  match k with
  | .glb => 0x01 | .pwr => 0x02 | .brz => 0x03 | .sec => 0x04 | .otp => 0x05 | .err => 0x06 | .tel => 0x07
  | .fab => 0x08 | .arb => 0x09 | .shr => 0x0A | .ldg => 0x0B | .dbg => 0x0C | .spr => 0x0D | .prt => 0x10
  | .ing => 0x11 | .grp => 0x12 | .vane => 0x13 | .ch => 0x14

/-- Interrupt sources of a page (R399). -/
def kindSources (k : Kind) (inst : Nat) : Nat :=
  match k with
  | .glb => 4 | .pwr => 8 | .brz => 3 | .sec => 2 | .otp => 3 | .err => 5 | .tel => 3 | .fab => 3 | .arb => 1
  | .shr => 3 | .ldg => if inst = 0 then 3 else 1
  | .dbg => 2 | .spr => 7 | .prt => 2 | .ing => 2 | .grp => 8 | .vane => 0 | .ch => 6

/-- Instances of a kind (R400 NINST). -/
def kindInstances (k : Kind) : Nat :=
  match k with
  | .ch => 80 | .vane => 24 | .prt => 16 | .ing => 8 | .grp => 8 | .ldg => 2 | _ => 1

/-- Secure-only pages (R389). -/
def kindSecure (k : Kind) : Bool :=
  match k with
  | .sec | .otp => true
  | _ => false

/-- The power domain that holds a page's registers (R399). -/
def kindDomain (k : Kind) (inst : Nat) : Nat :=
  match k with
  | .sec | .otp => 98
  | .tel => 97
  | .ldg => 89 + inst
  | .spr => 92
  | .prt => if inst < 8 then 93 else 94
  | .ing => if inst < 4 then 95 else 96
  | .grp => 80 + inst
  | .vane => if inst < 16 then 91 else 92
  | .ch => inst
  | _ => 88

/-- The sources that exist on a page, as a mask. -/
def sourceMask (page : Nat) : Reg :=
  match pageKind page with
  | some (k, n) => BitVec.ofNat 32 (2 ^ kindSources k n - 1)
  | none => 0

/-! ### Addresses and lanes -/

/-- The four copies of a page's registers (R368). -/
inductive Alias where
  | plain | set | clr | tgl
  deriving DecidableEq, Repr

/-- The page of an address. -/
def pageOf (a : BitVec 20) : Nat := (a.extractLsb' 12 8).toNat

/-- The alias an address goes through. -/
def aliasOf (a : BitVec 20) : Alias :=
  match (a.extractLsb' 10 2).toNat with
  | 0 => .plain
  | 1 => .set
  | 2 => .clr
  | _ => .tgl

/-- The register offset of an address within a page of span `span`, folded, of the word that holds it (R369). -/
def offsetOf (span : Nat) (a : BitVec 20) : Nat := ((a.toNat % 1024) % span) / 4 * 4

/-- Bytes of an access (R364). -/
def sizeBytes (size : BitVec 2) : Nat := 2 ^ size.toNat

/-- Whether an access is aligned (R375). -/
def isAligned (acc : Access) : Bool := acc.addr.toNat % sizeBytes acc.size == 0

/-- The lanes of a word that a byte, halfword or word access at `addr` addresses, as a bit mask (R377). -/
def laneMask (addr : BitVec 20) (size : BitVec 2) : Reg :=
  match size.toNat with
  | 0 => (0xFF : Reg) <<< (8 * (addr.toNat % 4))
  | 1 => (0xFFFF : Reg) <<< (8 * (addr.toNat % 4))
  | _ => 0xFFFFFFFF

/-- The word of the write data on the lanes of the word at `addr` (R364): byte a is on lane a mod 8. -/
def laneWord (addr : BitVec 20) (wdata : BitVec 64) : Reg :=
  if addr.toNat % 8 < 4 then loWord wdata else hiWord wdata

/-- A word placed on the lanes of the word at `addr`. -/
def toLanes (addr : BitVec 20) (v : Reg) : BitVec 64 :=
  if addr.toNat % 8 < 4 then pairOf v 0 else pairOf 0 v

/-! ### Register fields -/

/-- The apply points of R9. -/
inductive Apply where
  | imm | idle | rb | epoch | boot
  deriving DecidableEq, Repr

/-- A register with writable fields: the masks of its RW, W1, LK and SX bits, its reset value, its apply point,
whether it is the high or low word of a pair (R383), and whether its read has an effect (R377). -/
structure RegSpec where
  ofs   : Nat
  rw    : Reg := 0
  w1    : Reg := 0
  lk    : Reg := 0
  sx    : Reg := 0
  reset : Reg := 0
  ap    : Apply := .imm
  lo    : Bool := false
  hi    : Bool := false
  pop   : Bool := false
  deriving DecidableEq, Repr

/-- Whether narrow writes are refused (R377). -/
def RegSpec.action (r : RegSpec) : Bool := r.w1 != 0 || r.pop

/-- Header registers that take writes (R372). INT_RAW takes writes through CLR only. -/
def headerSpecs : List RegSpec :=
  [{ ofs := 0x00C, w1 := 0x3 }, { ofs := 0x024, rw := 0xFFFFFFFF }, { ofs := 0x02C, w1 := 0xFFFFFFFF }]

/-- `n` registers of one shape, 4 bytes apart. -/
def regRun (ofs n : Nat) (r : RegSpec) : List RegSpec :=
  (List.range n).map fun k => { r with ofs := ofs + 4 * k }

/-- Low and high word of a pair. -/
def regPair (ofs : Nat) (lo hi : RegSpec) : List RegSpec :=
  [{ lo with ofs := ofs, lo := true }, { hi with ofs := ofs + 4, hi := true }]

/-- A base and limit region, 8 bytes apart, `n` times. -/
def regRegions (ofs n : Nat) (base lim : RegSpec) : List RegSpec :=
  (List.range n).flatMap fun k => [{ base with ofs := ofs + 8 * k }, { lim with ofs := ofs + 8 * k + 4 }]

/-- The SHR class registers of R176. -/
def shrClassSpecs : List RegSpec :=
  (List.range 8).flatMap fun c =>
    [{ ofs := 0x080 + 16 * c, rw := 0xFC7FFFFF, reset := 0x00080000 + fld (2 * c) 28, ap := .epoch },
     { ofs := 0x084 + 16 * c, rw := 0xFFFF, ap := .epoch }]

/-- The registers of a page that have RW or W1 fields, header apart. -/
def kindSpecs (k : Kind) (inst : Nat) : List RegSpec :=
  match k with
  | .glb => [{ ofs := 0x050, rw := 0x173, lk := 0x173, reset := 0x100, ap := .boot }, { ofs := 0x054, rw := 1 },
      { ofs := 0x058, w1 := 7 }]
  | .pwr => [{ ofs := 0x040, rw := 0xFFFFFF3C, reset := 0x000A3218 }, { ofs := 0x044, rw := 3 }, { ofs := 0x048, w1 := 1 },
      { ofs := 0x050, rw := 3 }, { ofs := 0x05C, rw := 0xF }, { ofs := 0x068, rw := 0xFF, reset := 0x78 },
      { ofs := 0x06C, rw := 0x1FF, lk := 0x1FF, reset := 0x14 }, { ofs := 0x070, w1 := 0xF }]
  | .brz => [{ ofs := 0x040, rw := 0xFC0, reset := 0x440 }, { ofs := 0x044, rw := 0xFF, lk := 0xFF },
      { ofs := 0x048, rw := 0xF, lk := 0xF, reset := 1 }, { ofs := 0x04C, rw := 0xFFFF, lk := 0xFFFF, reset := 0x1F4 },
      { ofs := 0x054, rw := 0xFFFF001F, reset := 0xFF010000 }] ++ regRun 0x058 4 { ofs := 0, rw := 0xFFFFFFFF } ++
      [{ ofs := 0x068, w1 := 7 }]
  | .sec => [{ ofs := 0x048, rw := 0x10F }, { ofs := 0x04C, w1 := 0xF }] ++ regRun 0x060 8 { ofs := 0, rw := 0xFFFFFFFF } ++
      regPair 0x080 { ofs := 0, rw := 0xFFFFF000 } { ofs := 0, rw := 0xFF } ++
      regRegions 0x100 16 { ofs := 0, rw := 0x8FFFFFFF } { ofs := 0, rw := 0xFFFFFFFF }
  | .otp => [{ ofs := 0x040, rw := 0x3F }, { ofs := 0x050, rw := 0x3F }] ++
      regPair 0x054 { ofs := 0, rw := 0xFFFFFFFF } { ofs := 0, rw := 0xFFFFFFFF } ++
      [{ ofs := 0x05C, rw := 0xFFFFFFFF }, { ofs := 0x060, w1 := 3 }]
  | .err => [{ ofs := 0x040, rw := 0x1F, reset := 0x1F }, { ofs := 0x044, w1 := 0xF }, { ofs := 0x04C, rw := 0x8000007F }]
  | .tel => [{ ofs := 0x040, rw := 1, reset := 1 }, { ofs := 0x044, rw := 3, sx := 3 }, { ofs := 0x048, w1 := 0x3F },
      { ofs := 0x060, rw := 0xFFFFFFFF, reset := 0x04030201 }, { ofs := 0x064, rw := 0x8000007F }] ++
      regRun 0x0A0 8 { ofs := 0, rw := 0xFFFF, reset := 0xFF00 } ++
      [{ ofs := 0x100, rw := 0xFFFFFFF9, reset := 0xFFFFFF50 }, { ofs := 0x104, rw := 0xFFFFFFFF, reset := 0x1D872B41 },
       { ofs := 0x108, rw := 0xFFFF, reset := 0x3E8 }, { ofs := 0x110, pop := true }, { ofs := 0x114, pop := true }]
  | .fab => [{ ofs := 0x040, rw := 0xFFFF0001, reset := 0x00640001 }, { ofs := 0x044, rw := 7 }, { ofs := 0x078, w1 := 1 }]
  | .arb => [{ ofs := 0x040, rw := 0xF00001FF, reset := 0xC0000010, ap := .epoch }, { ofs := 0x044, w1 := 3 },
      { ofs := 0x04C, rw := 7 }]
  | .shr => [{ ofs := 0x040, rw := 0xFFF01FF8, reset := 0x55200C18, ap := .epoch },
      { ofs := 0x044, rw := 0x7F, reset := 0x40, ap := .epoch },
      { ofs := 0x048, rw := 0x77777777, reset := 0x76543210, ap := .epoch }, { ofs := 0x04C, w1 := 3 },
      { ofs := 0x060, rw := 7 }] ++ shrClassSpecs
  | .ldg => if inst = 0 then
      [{ ofs := 0x040, rw := 7, lk := 7, ap := .boot }] ++
      regPair 0x044 { ofs := 0, rw := 0xFFFFF000, lk := 0xFFFFF000, ap := .boot } { ofs := 0, rw := 0xFF, lk := 0xFF, ap := .boot } ++
      regPair 0x04C { ofs := 0, rw := 0xFFFFF000, lk := 0xFFFFF000, ap := .boot } { ofs := 0, rw := 0xFF, lk := 0xFF, ap := .boot } ++
      [{ ofs := 0x054, rw := 0x7F, reset := 0x10, ap := .epoch }, { ofs := 0x058, w1 := 0xF }, { ofs := 0x05C, rw := 0xFFF },
       { ofs := 0x064, rw := 0x7FFFF }]
    else []
  | .dbg => [{ ofs := 0x040, rw := 0x80000000, sx := 0x80000000 }] ++
      regPair 0x044 { ofs := 0, rw := 0xFFFFFFC0 } { ofs := 0, rw := 0xFF } ++
      [{ ofs := 0x04C, rw := 0x07FFFFFF }, { ofs := 0x050, rw := 0xF07F0000 }, { ofs := 0x054, w1 := 3 }] ++
      regPair 0x058 { ofs := 0, rw := 0xFFFFFFFF, reset := 0xFFFFFFFF } { ofs := 0, rw := 0xFFFFFFFF, reset := 0xFFFFFFFF } ++
      [{ ofs := 0x068, rw := 0x071F8F80, reset := 0x8080 }] ++ regRun 0x100 16 { ofs := 0, rw := 0xFFFFFFFF }
  | .spr => [{ ofs := 0x040, rw := 0xFFF30101, lk := 0xFFF30101, reset := 0xFF130101 },
      { ofs := 0x044, rw := 0xFFFF00FF, reset := 0x02020002, ap := .epoch }, { ofs := 0x048, rw := 0xF70F007F, reset := 0x7F },
      { ofs := 0x04C, w1 := 7 }, { ofs := 0x08C, rw := 0xFF }]
  | .prt => [{ ofs := 0x040, rw := 3, reset := 1, ap := .idle }, { ofs := 0x044, w1 := 3 },
      { ofs := 0x04C, rw := 0xFFF, reset := 0xC00 }, { ofs := 0x050, rw := 0xFFFF, reset := 0x64 },
      { ofs := 0x054, rw := 0xFFFF, reset := 0x3E8 }] ++
      regPair 0x058 { ofs := 0, rw := 0xFFFFF000, lk := 0xFFFFF000, ap := .idle } { ofs := 0, rw := 0xFF, lk := 0xFF, ap := .idle } ++
      [{ ofs := 0x060, rw := 0xEFFFFFFF, lk := 0xEFFFFFFF, reset := 0xE0000000 },
       { ofs := 0x064, rw := 0x0FFFFFFF, lk := 0x0FFFFFFF, reset := 0x0FFFFFFF }] ++
      regRegions 0x068 3 { ofs := 0, rw := 0xEFFFFFFF, lk := 0xEFFFFFFF } { ofs := 0, rw := 0x0FFFFFFF, lk := 0x0FFFFFFF }
  | .ing => [{ ofs := 0x040, rw := 0xFFDFFF03, reset := 0x06010A02, ap := .idle }, { ofs := 0x044, rw := 1 },
      { ofs := 0x048, w1 := 7 }] ++
      regPair 0x050 { ofs := 0, rw := 0xFFFFF000, ap := .idle } { ofs := 0, rw := 0xFF, ap := .idle } ++
      [{ ofs := 0x058, rw := 0x00FFFFFF, ap := .idle }, { ofs := 0x05C, rw := 0xFFFFFFFF, reset := 0x800, ap := .idle }] ++
      regPair 0x068 { ofs := 0, rw := 0xFFFFFFFF } { ofs := 0, rw := 0xFFFFFFFF }
  | .grp => [{ ofs := 0x040, rw := 0xFF00FFF3, reset := 0x20000281 }, { ofs := 0x048, w1 := 1 }, { ofs := 0x058, rw := 0x1FF }] ++
      (if inst = 0 then
        [{ ofs := 0x0A0, rw := 0x007F0077, lk := 0x007F0077, reset := 0x00800010, ap := .boot }] ++
        regRegions 0x0C0 8 { ofs := 0, rw := 0x8FFFFFFF, lk := 0x8FFFFFFF, ap := .boot }
          { ofs := 0, rw := 0x0FFFFFFF, lk := 0x0FFFFFFF, ap := .boot }
      else [])
  | .vane => [{ ofs := 0x048, rw := 0xFF }] ++ regRun 0x04C 4 { ofs := 0, rw := 0xFFFFFFFF } ++ [{ ofs := 0x05C, w1 := 7 }]
  | .ch => [{ ofs := 0x040, rw := 0xFFF0FF00, reset := 0x10400C00, ap := .idle }, { ofs := 0x044, rw := 0xFFFFFFFF, reset := 0x190A4018 },
      { ofs := 0x048, rw := 0xF3, reset := 0x40, ap := .rb }] ++ regRun 0x050 4 { ofs := 0, rw := 0xFFFFFFFF, ap := .rb } ++
      [{ ofs := 0x06C, w1 := 3 }, { ofs := 0x0C0, rw := 0xFFFFFFFF, reset := 0x10400064 },
       { ofs := 0x0C4, rw := 0xFFFF, reset := 0x14 }, { ofs := 0x100, rw := 3, reset := 3, ap := .boot },
       { ofs := 0x104, rw := 0xFFFFFFFF, reset := 0x19086204 }, { ofs := 0x108, w1 := 0xF }, { ofs := 0x140, rw := 0x03FF0000 }]

/-- The first register of a list at an offset. -/
def specAt (l : List RegSpec) (ofs : Nat) : Option RegSpec := l.find? fun r => r.ofs == ofs

/-- The register at an offset of a page, if it takes writes or its read has an effect. -/
def regSpec (page ofs : Nat) : Option RegSpec :=
  match pageKind page with
  | none => none
  | some (k, n) =>
    if ofs < 0x040 then
      (specAt headerSpecs ofs).map fun r => { r with rw := r.rw &&& sourceMask page, w1 := if ofs = 0x00C then r.w1 else r.w1 &&& sourceMask page }
    else specAt (kindSpecs k n) ofs

/-- The reset value of a register's stored bits. -/
def regReset (page ofs : Nat) : Reg :=
  match regSpec page ofs with
  | some r => r.reset
  | none => 0

/-- The key of a register in the register space. -/
def regKey (page ofs : Nat) : Nat := page * 1024 + ofs

end Sys2Proof.Machine
end

