-- ==== Sys2Proof/Machine/Ops.lean ====
section
/-!
DEFINITION. The operations every unit shares: reaching one instance of a unit, free values, interrupt sources (R372, R432),
configuration values with the safe states of R392, the error log (R422 to R431), performance counters that other chapters
advance, and the memory behind the slices.
-/
namespace Sys2Proof.Machine

/-! ### Instances -/

/-- One port changed. -/
def State.modPort (s : State) (p : Fin 16) (f : Port → Port) : State :=
  { s with ports := s.ports.set p (f s.ports[p]) }

/-- One ingest port changed. -/
def State.modIng (s : State) (n : Fin 8) (f : Ingest → Ingest) : State :=
  { s with ingest := s.ingest.set n (f s.ingest[n]) }

/-- One hub changed. -/
def State.modHub (s : State) (h : Fin 8) (f : Hub → Hub) : State :=
  { s with hubs := s.hubs.set h (f s.hubs[h]) }

/-- One slice changed. -/
def State.modSlice (s : State) (c : Fin 80) (f : Slice → Slice) : State :=
  { s with slices := s.slices.set c (f s.slices[c]) }

/-- The scheduler of one slice changed. -/
def State.modSched (s : State) (c : Fin 80) (f : Sched → Sched) : State :=
  s.modSlice c fun x => { x with sched := f x.sched }

/-- The training state of one slice changed. -/
def State.modTrain (s : State) (c : Fin 80) (f : Train → Train) : State :=
  s.modSlice c fun x => { x with train := f x.train }

/-- The health of one slice changed. -/
def State.modHealth (s : State) (c : Fin 80) (f : Health → Health) : State :=
  s.modSlice c fun x => { x with health := f x.health }

/-- One mailbox changed. -/
def State.modVane (s : State) (v : Fin 24) (f : Vane → Vane) : State :=
  { s with vanes := s.vanes.set v (f s.vanes[v]) }

/-- One counter of a vector advanced, saturating. -/
def bumpAt {n : Nat} (v : Vector Reg n) (i : Nat) (by_ : Nat := 1) : Vector Reg n :=
  v.setIfInBounds i (satAdd (v[i]?.getD 0) by_)

/-- One CH counter of a slice advanced (R227): index 0 is offset 0x070. -/
def State.bumpCh (s : State) (c : Fin 80) (i : Nat) (n : Nat := 1) : State :=
  s.modSlice c fun x => { x with cnt := bumpAt x.cnt i n }

/-- One training counter of a slice advanced (R254): index 0 is offset 0x118. -/
def State.bumpTrn (s : State) (c : Fin 80) (i : Nat) (n : Nat := 1) : State :=
  s.modSlice c fun x => { x with tcnt := bumpAt x.tcnt i n }

/-! ### Free values -/

/-- The next free value of `w` bits. -/
def State.freeVal (s : State) (w : Nat) : BitVec w := Config.freeValue w s.free

/-- The state after a free value is taken. -/
def State.tookFree (s : State) : State := { s with free := s.free + 1 }

/-! ### Modes -/

/-- RUN or DEGRADED (R24). -/
def State.inService (s : State) : Bool := s.mode.mode == .run || s.mode.mode == .degraded

/-- Awake in RUN or DEGRADED, in no sleep state (R304). -/
def State.asleepIn (s : State) (st : BitVec 2) : Bool :=
  s.pwr.asleep == st && (s.pwr.phase == .asleep || s.pwr.phase == .entering || s.pwr.phase == .waking)

/-- Whether a domain is on (R294, R295); the port banks go off in HOLD-UP with the last admitted request (R325). -/
def State.domainOn (s : State) (d : Nat) : Bool :=
  if d < 80 then (s.slices[d]?.map Slice.on).getD false
  else if d < 93 then s.pwr.coreOn
  else if d < 95 then s.pwr.coreOn && !(s.mode.mode == .holdUp && s.squall.drained)
  else if d < 99 then s.pwr.coreOn
  else true

/-- Whether the domain that holds a page's registers is on (R370, R399). -/
def State.pageOn (s : State) (page : Nat) : Bool :=
  s.pwr.coreOn && s.mode.mode != .retention &&
    (match pageKind page with
     | some (k, n) => s.domainOn (kindDomain k n)
     | none => false)

/-- The code of a mode (R24). -/
def modeCode (m : Mode) : Nat :=
  match m with
  | .bringUp => 0 | .run => 1 | .degraded => 2 | .holdUp => 3 | .retention => 4 | .diagnostic => 5

/-! ### Headers and interrupt sources -/

/-- A page's header. -/
def State.header (s : State) (page : Nat) : Header := (getKey s.regs.headers page).getD Header.reset

/-- A page's header set; a header at reset is not listed. -/
def State.setHeader (s : State) (page : Nat) (h : Header) : State :=
  { s with regs := { s.regs with headers := if h = Header.reset then dropKey s.regs.headers page else setKey s.regs.headers page h } }

/-- A page's header changed. -/
def State.modHeader (s : State) (page : Nat) (f : Header → Header) : State := s.setHeader page (f (s.header page))

/-- Raises sources of a page: their bits of INT_RAW set (R372, R432). Sources the page does not have are ignored. -/
def State.raiseMask (s : State) (page : Nat) (m : Reg) : State :=
  s.modHeader page fun h => { h with intRaw := h.intRaw ||| (m &&& sourceMask page) }

/-- Raises source `j` of a page. -/
def State.raise (s : State) (page j : Nat) : State := s.raiseMask page (flag true j)

/-- Raises a source when a condition holds. -/
def State.raiseIf (s : State) (c : Bool) (page j : Nat) : State := if c then s.raise page j else s

/-- The CFG_PARITY bit of a page: it is in its safe state (R391). -/
def State.parity (s : State) (page : Nat) : Bool := (s.header page).parity

/-- Whether a page's safe state takes no write: GLB; SEC and OTP, each by a fault of either (R392, R475). -/
def State.pageSafe (s : State) (page : Nat) : Bool :=
  (page == 0x00 && s.parity 0x00) || ((page == 0x03 || page == 0x04) && (s.parity 0x03 || s.parity 0x04))

/-- Whether a page takes writes now: its domain is on, the block is not in HOLD-UP, and the page is in no safe state that takes none
(R367, R370, R392). -/
def State.pageLive (s : State) (page : Nat) : Bool := s.pageOn page && s.mode.mode != .holdUp && !s.pageSafe page

/-- A command register's action, where its page takes writes. -/
def State.whenLive (s : State) (page : Nat) (f : State → State) : State := if s.pageLive page then f s else s

/-- Whether a CH page is kept in retention latches: its slice sleeps in S2 with its logic off (R296). -/
def State.sliceNaps (s : State) (page : Nat) : Bool :=
  s.pwr.coreOn && s.mode.mode != .retention && s.asleepIn 2 &&
    match pageKind page with
    | some (.ch, n) => (s.slices[n]?.map fun x => !x.on && x.health.role != 0 && x.health.role != 6).getD false
    | _ => false

/-- A write held for a slice page in S2, to be made at wake (R296). -/
def State.holdWrite (s : State) (a : Access) : State := { s with regs := { s.regs with napHeld := s.regs.napHeld ++ [a] } }

/-- The word write of `v` to a register, as the register port would make it. -/
def wordWrite (page ofs : Nat) (v : Reg) : Access :=
  let addr : BitVec 20 := BitVec.ofNat 20 (page * 4096 + ofs)
  { addr := addr, size := 2, wdata := toLanes addr v, secure := true, reqid := 0x1F }

/-- A slice's command register's action: at once, or at wake when the slice sleeps in S2 (R296). -/
def State.whenSlice (s : State) (c : Fin 80) (ofs : Nat) (v : Reg) (f : State → State) : State :=
  if s.pageLive (0x80 + c.val) then f s
  else if s.sliceNaps (0x80 + c.val) && s.mode.mode != .holdUp then s.holdWrite (wordWrite (0x80 + c.val) ofs v)
  else s

/-- INT_EN as it acts: every implemented source in the safe state (R391). -/
def State.intEn (s : State) (page : Nat) : Reg :=
  if s.parity page then sourceMask page else (s.header page).intEn

/-- Page indexes of the units. -/
def pagePort (p : Fin 16) : Nat := 0x10 + p.val
def pageIng (n : Fin 8) : Nat := 0x20 + n.val
def pageGrp (g : Fin 8) : Nat := 0x28 + g.val
def pageVane (v : Fin 24) : Nat := 0x30 + v.val
def pageCh (c : Fin 80) : Nat := 0x80 + c.val
def pageGlb : Nat := 0x00
def pagePwr : Nat := 0x01
def pageBrz : Nat := 0x02
def pageSec : Nat := 0x03
def pageOtp : Nat := 0x04
def pageErr : Nat := 0x05
def pageTel : Nat := 0x06
def pageFab : Nat := 0x07
def pageArb : Nat := 0x08
def pageShr : Nat := 0x09
def pageLdg (half : Fin 2) : Nat := 0x0A + half.val
def pageDbg : Nat := 0x0C
def pageSpr : Nat := 0x0D

/-! ### Configuration values -/

/-- The stored value of a register: the applied value, or its reset value. -/
def State.stored (s : State) (page ofs : Nat) : Reg :=
  (getKey s.regs.applied (regKey page ofs)).getD (regReset page ofs)

/-- The value a BOOT field took at the last bring-up (R392, GRP pages). -/
def State.bootValue (s : State) (page ofs : Nat) : Reg :=
  (getKey s.regs.boot (regKey page ofs)).getD (regReset page ofs)

/-- The value of a register that the block acts on, under the safe states of R392: ERR, FAB and ARB act on their reset
values; GRP pages on reset values and on the BOOT values of the last bring-up; TEL_USER_EN acts as 0; AUTO and EVAC_AUTO
of SPR_POLICY act as 0. The BRZ copies are held in the always-on domain (R362). -/
def State.cfg (s : State) (page ofs : Nat) : Reg :=
  if page = pageBrz ∧ ofs = 0x040 then s.brz.cfg
  else if page = pageBrz ∧ ofs = 0x044 then s.brz.peers.setWidth 32
  else if page = pageBrz ∧ ofs = 0x048 then s.brz.conc.setWidth 32
  else if page = pageBrz ∧ ofs = 0x04C then s.brz.tokenWait.setWidth 32
  else if s.parity page then
    if page = pageErr ∨ ((page = pageFab ∨ page = pageArb) ∧ ofs = 0x040) then regReset page ofs
    else if 0x28 ≤ page ∧ page < 0x30 then
      (if ofs < 0x0A0 then regReset page ofs else s.bootValue page ofs)
    else if page = pageTel ∧ ofs = 0x044 then 0
    else if page = pageSpr ∧ ofs = 0x040 then s.stored page ofs &&& ~~~(flag true 0 ||| flag true 8)
    else s.stored page ofs
  else s.stored page ofs

/-- A field of a configuration register. -/
def State.cfgField (s : State) (page ofs hi lo : Nat) : Nat := fieldOf (s.cfg page ofs) hi lo

/-- A bit of a configuration register. -/
def State.cfgBit (s : State) (page ofs i : Nat) : Bool := bitOf (s.cfg page ofs) i

/-- A 64-bit configuration value held as a pair. -/
def State.cfgPair (s : State) (page ofs : Nat) : Nat := (s.cfg page ofs).toNat + (s.cfg page (ofs + 4)).toNat * 2 ^ 32

/-- Sets a stored value; a value at reset is not listed. -/
def State.store (s : State) (page ofs : Nat) (v : Reg) : State :=
  { s with regs := { s.regs with applied := if v = regReset page ofs then dropKey s.regs.applied (regKey page ofs) else setKey s.regs.applied (regKey page ofs) v } }

/-! ### The error log -/

/-- The four classes (R415). -/
def clsCe : BitVec 2 := 0
def clsRcv : BitVec 2 := 1
def clsUc : BitVec 2 := 2
def clsFatal : BitVec 2 := 3

/-- An error as its detecting unit reports it (R422, R423). -/
structure ErrEvent where
  cls    : BitVec 2
  page   : Nat
  code   : BitVec 16
  detail : BitVec 64 := 0
  tail   : Option (BitVec 64) := none
  deriving DecidableEq, Repr

/-- One more occurrence of its class (R431). -/
def countClass (e : ErrLog) (cls : BitVec 2) : ErrLog :=
  if cls = clsCe then { e with ceCnt := satInc e.ceCnt }
  else if cls = clsRcv then { e with rcvCnt := satInc e.rcvCnt }
  else if cls = clsUc then { e with ucCnt := satInc e.ucCnt }
  else { e with fatalCnt := satInc e.fatalCnt }

/-- Slots of the unacknowledged entries, oldest first (R426). -/
def ErrLog.unackSlots (e : ErrLog) : List Nat :=
  (List.range e.unack).map fun k => (e.next.toNat + 32 - e.unack + k) % 32

/-- ERR_STATUS.OLDEST (R426). -/
def ErrLog.oldest (e : ErrLog) : Nat := (e.next.toNat + 32 - e.unack) % 32

/-- The unacknowledged entry an error coalesces into (R425). -/
def ErrLog.coalesceSlot (e : ErrLog) (ev : ErrEvent) : Option Nat :=
  e.unackSlots.find? fun k =>
    match e.ring[k]?.getD none with
    | some x => x.page.toNat == ev.page && x.code == ev.code
    | none => false

/-- The newest unacknowledged entry of the lowest class below FATAL (R427). -/
def ErrLog.victim (e : ErrLog) : Option Nat :=
  let slots := e.unackSlots.reverse
  let ofCls (c : BitVec 2) := slots.find? fun k =>
    match e.ring[k]?.getD none with
    | some x => x.cls == c
    | none => false
  (ofCls clsCe).or ((ofCls clsRcv).or (ofCls clsUc))

/-- A fresh entry for an error (R422). -/
def newEntry (ev : ErrEvent) (now : Time) (seq : BitVec 16) (squall nested : Bool) : LogEntry :=
  { cls := ev.cls, squall := squall, nested := nested, page := BitVec.ofNat 8 ev.page, code := ev.code, count := 1
    seq := seq, tFirst := now, tLast := ev.tail.getD now, detail := ev.detail }

/-- One more occurrence in an entry (R425). -/
def coalesceInto (x : LogEntry) (now : Time) : LogEntry :=
  { x with count := if x.count = 0xFFFF then x.count else x.count + 1, tLast := now }

/-- ERR_FIRST after a candidate (R428). -/
def firstAfter (first : Option LogEntry) (x : LogEntry) : Option LogEntry :=
  match first with
  | none => some x
  | some y => if y.cls.toNat < x.cls.toNat then some x else some y

/-- The Squall error log after an error in HOLD-UP (R429): coalesced within it, appended up to 112 entries. -/
def squallLogAfter (q : Squall) (ev : ErrEvent) (now : Time) (seq : BitVec 16) (coalesce : Bool) (nested : Bool) : Squall :=
  let same (x : LogEntry) : Bool := x.page.toNat == ev.page && x.code == ev.code
  if coalesce && ev.cls != clsFatal && q.log.any same then
    { q with log := q.log.map fun x => if same x then coalesceInto x now else x }
  else if q.log.length < 112 then { q with log := q.log ++ [newEntry ev now seq true nested] }
  else { q with logOvf := true }

/-- What every FATAL does (R416): STATUS.FATAL, the FATAL source, and the mistrust of the ledger on LEDGER_TABLE. -/
def State.noteFatal (s : State) (ev : ErrEvent) : State :=
  if ev.cls = clsFatal then
    let s := { s with err := { s.err with fatal := true } }
    let s := s.raise pageErr 3
    if ev.code = 0x0032 then { s with ledger := { s.ledger with tableBad := true } } else s
  else s

/-- Writes a new entry at a slot and raises what it raises (R424). -/
def State.writeEntry (s : State) (slot : Nat) (x : LogEntry) : State :=
  let s := { s with err := { s.err with ring := s.err.ring.setIfInBounds slot (some x), first := firstAfter s.err.first x } }
  let s := { s with ao := { s.ao with errSeq := s.ao.errSeq + 1 } }
  let s := s.raise pageErr 0
  s.raiseIf (x.cls == clsUc) pageErr 2

/-- Records an error in the ring: coalesced, appended, or handled as a full ring (R424, R425, R427). -/
def State.logRing (s : State) (ev : ErrEvent) (squall coalesce : Bool) : State :=
  let e := s.err
  let x := newEntry ev s.tb (s.ao.errSeq + 1) squall (e.unack != 0)
  match (if coalesce && ev.cls != clsFatal then e.coalesceSlot ev else none) with
  | some k =>
    match e.ring[k]?.getD none with
    | some y =>
      { s with err := { e with ring := e.ring.setIfInBounds k (some (coalesceInto y s.tb)), first := firstAfter e.first { x with seq := y.seq } } }
    | none => s
  | none =>
    if e.unack < 32 then
      let s := s.writeEntry e.next.toNat x
      let s := { s with err := { s.err with next := e.next + 1, unack := e.unack + 1 } }
      s.raiseIf (e.unack + 1 == 32) pageErr 1
    else if ev.cls = clsFatal then
      match e.victim with
      | some k =>
        let s := s.writeEntry k x
        { s with err := { s.err with ovfCnt := satInc s.err.ovfCnt } }
      | none => { s with err := { e with first := firstAfter e.first { x with seq := s.freeVal 16 } } }.tookFree
    else { s with err := { e with ovfCnt := satInc e.ovfCnt, first := firstAfter e.first { x with seq := s.freeVal 16 } } }.tookFree

/-- Reports an error: counted in its class, and logged as R424 to R429 bind. -/
def State.logError (s : State) (ev : ErrEvent) : State :=
  let s := { s with err := countClass s.err ev.cls }
  let cfg := s.cfg pageErr 0x040
  if s.mode.mode = .retention then s
  else if ev.cls = clsCe ∧ bitOf cfg 1 = false then s
  else
    let s := s.noteFatal ev
    let nested := s.err.unack != 0
    let s := if s.squall.active then { s with squall := squallLogAfter s.squall ev s.tb (s.ao.errSeq + 1) (bitOf cfg 0) nested } else s
    s.logRing ev s.squall.active (bitOf cfg 0)

/-! ### Telemetry counters -/

/-- A 48-bit counter advanced, and whether it wrapped (R439). -/
def bump48 (v : BitVec 48) (n : Nat) : BitVec 48 × Bool := (v + BitVec.ofNat 48 n, decide (2 ^ 48 ≤ v.toNat + n))

/-- One system counter advanced when its selection names the event and unit (R439, R443). -/
def telOne (s : State) (ev : Nat) (qual : Option Nat) (n : Nat) (k : Nat) : State :=
  let sel := s.cfg pageTel (0x0A0 + 4 * k)
  let q := fieldOf sel 15 8
  if fieldOf sel 7 0 = ev ∧ (qual = none ∨ q = 0xFF ∨ qual = some q) then
    let (v, wrap) := bump48 (s.tel.sys[k]?.getD 0) n
    let first := wrap && !s.tel.sysOvf.getLsbD k
    let s := { s with tel := { s.tel with sys := s.tel.sys.setIfInBounds k v, sysOvf := if wrap then s.tel.sysOvf ||| (1#8 <<< k) else s.tel.sysOvf } }
    s.raiseIf first pageTel 2
  else s

/-- A system event of R443: counted by every programmable system counter that selects it, while TEL_CTRL.RUN is set and the
page is not in its safe state (R441, R392). -/
def State.telSys (s : State) (ev : Nat) (qual : Option Nat) (n : Nat) : State :=
  if s.cfgBit pageTel 0x040 0 && !s.parity pageTel && n != 0 then
    (List.range 8).foldl (fun s k => telOne s ev qual n k) s
  else s

/-! ### Memory behind the slices -/

/-- Memory in canonical form: addresses rise strictly and no listed byte equals what an unlisted one reads as. -/
def Memory.wf (m : List Host.Cell) : Bool :=
  match m with
  | [] => true
  | (_, b) :: [] => b != 0
  | (a, b) :: (a', b') :: rest => b != 0 && decide (a < a') && Memory.wf ((a', b') :: rest)

/-- The byte at an address; an unlisted address reads 0 (assumption 5). -/
def Memory.read (m : List Host.Cell) (a : Nat) : Byte :=
  match m with
  | [] => 0
  | (a', b) :: rest => if a' = a then b else if a < a' then 0 else Memory.read rest a

/-- A byte written, in canonical form. -/
def Memory.write (m : List Host.Cell) (a : Nat) (b : Byte) : List Host.Cell :=
  match m with
  | [] => if b = 0 then [] else [(a, b)]
  | (a', b') :: rest =>
    if a' < a then (a', b') :: Memory.write rest a b
    else if a' = a then (if b = 0 then rest else (a, b) :: rest)
    else if b = 0 then (a', b') :: rest
    else (a, b) :: (a', b') :: rest

/-- Bytes written from an address on. -/
def Memory.writeBytes (m : List Host.Cell) (a : Nat) (bs : List Byte) : List Host.Cell :=
  match bs with
  | [] => m
  | b :: rest => Memory.writeBytes (Memory.write m a b) (a + 1) rest

/-- Bytes read from an address on. -/
def Memory.readBytes (m : List Host.Cell) (a n : Nat) : List Byte := (List.range n).map fun k => Memory.read m (a + k)

/-- Where slice `c` keeps its byte `b` in the memory list: 8 GiB per slice (R179). -/
def sliceByte (c : Fin 80) (b : Nat) : Nat := c.val * 2 ^ 33 + b

end Sys2Proof.Machine
end

