-- ==== Sys2Proof/Machine/Crypto.lean ====
section
/-!
DEFINITION. Encryption: AES-256 (FIPS 197), AES-CMAC and the counter-mode KDF of R465, and AES-XTS over one line of R468.
The manual names these standards and does not restate them (assumption 25). Bytes are numbers below 256 in this file.
-/
namespace Sys2Proof.Machine

/-- The AES S-box, in rows of 16. -/
def aesSbox : List Nat :=
  [0x63, 0x7c, 0x77, 0x7b, 0xf2, 0x6b, 0x6f, 0xc5, 0x30, 0x01, 0x67, 0x2b, 0xfe, 0xd7, 0xab, 0x76] ++
  [0xca, 0x82, 0xc9, 0x7d, 0xfa, 0x59, 0x47, 0xf0, 0xad, 0xd4, 0xa2, 0xaf, 0x9c, 0xa4, 0x72, 0xc0] ++
  [0xb7, 0xfd, 0x93, 0x26, 0x36, 0x3f, 0xf7, 0xcc, 0x34, 0xa5, 0xe5, 0xf1, 0x71, 0xd8, 0x31, 0x15] ++
  [0x04, 0xc7, 0x23, 0xc3, 0x18, 0x96, 0x05, 0x9a, 0x07, 0x12, 0x80, 0xe2, 0xeb, 0x27, 0xb2, 0x75] ++
  [0x09, 0x83, 0x2c, 0x1a, 0x1b, 0x6e, 0x5a, 0xa0, 0x52, 0x3b, 0xd6, 0xb3, 0x29, 0xe3, 0x2f, 0x84] ++
  [0x53, 0xd1, 0x00, 0xed, 0x20, 0xfc, 0xb1, 0x5b, 0x6a, 0xcb, 0xbe, 0x39, 0x4a, 0x4c, 0x58, 0xcf] ++
  [0xd0, 0xef, 0xaa, 0xfb, 0x43, 0x4d, 0x33, 0x85, 0x45, 0xf9, 0x02, 0x7f, 0x50, 0x3c, 0x9f, 0xa8] ++
  [0x51, 0xa3, 0x40, 0x8f, 0x92, 0x9d, 0x38, 0xf5, 0xbc, 0xb6, 0xda, 0x21, 0x10, 0xff, 0xf3, 0xd2] ++
  [0xcd, 0x0c, 0x13, 0xec, 0x5f, 0x97, 0x44, 0x17, 0xc4, 0xa7, 0x7e, 0x3d, 0x64, 0x5d, 0x19, 0x73] ++
  [0x60, 0x81, 0x4f, 0xdc, 0x22, 0x2a, 0x90, 0x88, 0x46, 0xee, 0xb8, 0x14, 0xde, 0x5e, 0x0b, 0xdb] ++
  [0xe0, 0x32, 0x3a, 0x0a, 0x49, 0x06, 0x24, 0x5c, 0xc2, 0xd3, 0xac, 0x62, 0x91, 0x95, 0xe4, 0x79] ++
  [0xe7, 0xc8, 0x37, 0x6d, 0x8d, 0xd5, 0x4e, 0xa9, 0x6c, 0x56, 0xf4, 0xea, 0x65, 0x7a, 0xae, 0x08] ++
  [0xba, 0x78, 0x25, 0x2e, 0x1c, 0xa6, 0xb4, 0xc6, 0xe8, 0xdd, 0x74, 0x1f, 0x4b, 0xbd, 0x8b, 0x8a] ++
  [0x70, 0x3e, 0xb5, 0x66, 0x48, 0x03, 0xf6, 0x0e, 0x61, 0x35, 0x57, 0xb9, 0x86, 0xc1, 0x1d, 0x9e] ++
  [0xe1, 0xf8, 0x98, 0x11, 0x69, 0xd9, 0x8e, 0x94, 0x9b, 0x1e, 0x87, 0xe9, 0xce, 0x55, 0x28, 0xdf] ++
  [0x8c, 0xa1, 0x89, 0x0d, 0xbf, 0xe6, 0x42, 0x68, 0x41, 0x99, 0x2d, 0x0f, 0xb0, 0x54, 0xbb, 0x16]

/-- One S-box substitution. -/
def subByte (b : Nat) : Nat := aesSbox.getD b 0

/-- One inverse S-box substitution. -/
def invSubByte (b : Nat) : Nat := (aesSbox.idxOf? b).getD 0

/-- Multiplication by x in the field of AES. -/
def xtime (b : Nat) : Nat := if 128 ≤ b then ((2 * b) ^^^ 0x11B) % 256 else 2 * b

/-- Multiplication in the field of AES by a constant below 16. -/
def gmul (c b : Nat) : Nat :=
  let b2 := xtime b
  let b4 := xtime b2
  let b8 := xtime b4
  (if c.testBit 0 then b else 0) ^^^ (if c.testBit 1 then b2 else 0) ^^^ (if c.testBit 2 then b4 else 0) ^^^
    (if c.testBit 3 then b8 else 0)

/-- XOR of two byte lists. -/
def xorList (a b : List Nat) : List Nat := List.zipWith (· ^^^ ·) a b

/-- Round constants of the key expansion are powers of x. -/
def rcon : Nat → Nat
  | 0 => 1
  | n + 1 => xtime (rcon n)

/-- The next word of the AES-256 key schedule; `prev` holds the words so far, newest first. -/
def nextKeyWord (i : Nat) (prev : List (List Nat)) : List Nat :=
  let w1 := prev.getD 0 []
  let w8 := prev.getD 7 []
  let t :=
    if i % 8 = 0 then
      match (w1.drop 1 ++ w1.take 1).map subByte with
      | a :: rest => (a ^^^ rcon (i / 8 - 1)) :: rest
      | [] => []
    else if i % 8 = 4 then w1.map subByte
    else w1
  xorList w8 t

/-- The key schedule, newest word first. -/
def keyWords : Nat → Nat → List (List Nat) → List (List Nat)
  | 0, _, acc => acc
  | n + 1, i, acc => keyWords n (i + 1) (nextKeyWord i acc :: acc)

/-- Lists cut into pieces of `k`, at most `n` of them. -/
def pieces {α : Type} (k : Nat) : Nat → List α → List (List α)
  | 0, _ => []
  | n + 1, l => if l.isEmpty then [] else l.take k :: pieces k n (l.drop k)

/-- The fifteen round keys of a 32-byte key. -/
def roundKeys (key : List Nat) : List (List Nat) :=
  pieces 16 15 ((keyWords 52 8 (pieces 4 8 key).reverse).reverse.flatten)

/-- ShiftRows on a column-major state, as source positions. -/
def shiftRows (s : List Nat) : List Nat := (List.range 16).map fun i => s.getD ((i + 4 * (i % 4)) % 16) 0

/-- Inverse ShiftRows. -/
def invShiftRows (s : List Nat) : List Nat := (List.range 16).map fun i => s.getD ((i + 12 * (i % 4)) % 16) 0

/-- One column times a circulant matrix whose first row is given. -/
def mixColumn (m0 m1 m2 m3 : Nat) (c : List Nat) : List Nat :=
  let a := c.getD 0 0
  let b := c.getD 1 0
  let d := c.getD 2 0
  let e := c.getD 3 0
  [gmul m0 a ^^^ gmul m1 b ^^^ gmul m2 d ^^^ gmul m3 e, gmul m3 a ^^^ gmul m0 b ^^^ gmul m1 d ^^^ gmul m2 e,
   gmul m2 a ^^^ gmul m3 b ^^^ gmul m0 d ^^^ gmul m1 e, gmul m1 a ^^^ gmul m2 b ^^^ gmul m3 d ^^^ gmul m0 e]

/-- MixColumns and its inverse. -/
def mixColumns (s : List Nat) : List Nat := ((pieces 4 4 s).map (mixColumn 2 3 1 1)).flatten
def invMixColumns (s : List Nat) : List Nat := ((pieces 4 4 s).map (mixColumn 14 11 13 9)).flatten

/-- Rounds of the cipher from the second key on. -/
def encRounds (s : List Nat) : List (List Nat) → List Nat
  | [] => s
  | [k] => xorList (shiftRows (s.map subByte)) k
  | k :: rest => encRounds (xorList (mixColumns (shiftRows (s.map subByte))) k) rest

/-- AES-256 on one block of 16 bytes. -/
def aesEnc (rk : List (List Nat)) (blk : List Nat) : List Nat :=
  match rk with
  | [] => blk
  | k :: rest => encRounds (xorList blk k) rest

/-- Rounds of the inverse cipher; the keys come last round first. -/
def decRounds (s : List Nat) : List (List Nat) → List Nat
  | [] => s
  | [k] => xorList ((invShiftRows s).map invSubByte) k
  | k :: rest => decRounds (invMixColumns (xorList ((invShiftRows s).map invSubByte) k)) rest

/-- The inverse of AES-256 on one block. -/
def aesDec (rk : List (List Nat)) (blk : List Nat) : List Nat :=
  match rk.reverse with
  | [] => blk
  | k :: rest => decRounds (xorList blk k) rest

/-! ### CMAC and the KDF (R465) -/

/-- A big-endian number from bytes, and bytes from it. -/
def beNat (bs : List Nat) : Nat := bs.foldl (fun a b => 256 * a + b) 0
def beBytes (n v : Nat) : List Nat := ((List.range n).map fun k => (v >>> (8 * k)) % 256).reverse

/-- Doubling of CMAC subkeys. -/
def cmacDouble (l : List Nat) : List Nat :=
  let v := beNat l
  beBytes 16 (if v.testBit 127 then (2 * v % 2 ^ 128) ^^^ 0x87 else 2 * v)

/-- AES-256-CMAC of a message under a 32-byte key. -/
def cmac (key msg : List Nat) : List Nat :=
  let rk := roundKeys key
  let k1 := cmacDouble (aesEnc rk (List.replicate 16 0))
  let n := if msg.isEmpty then 1 else (msg.length + 15) / 16
  let body := pieces 16 (n - 1) msg
  let tail := msg.drop (16 * (n - 1))
  let last := if tail.length = 16 then xorList tail k1
    else xorList (tail ++ [0x80] ++ List.replicate (15 - tail.length) 0) (cmacDouble k1)
  (body ++ [last]).foldl (fun c b => aesEnc rk (xorList c b)) (List.replicate 16 0)

/-- The 64 bytes of the KDF of R465 under a root, a label and a 48-byte context. -/
def deriveKey (root label ctx : List Nat) : List Nat :=
  ((List.range 4).map fun j => cmac root (beBytes 4 (j + 1) ++ label ++ [0] ++ ctx ++ beBytes 4 0x200)).flatten

/-! ### XTS over a line (R468) -/

/-- A little-endian number and its bytes. -/
def leNat (bs : List Nat) : Nat := bs.foldr (fun b a => b + 256 * a) 0
def leBytes (n v : Nat) : List Nat := (List.range n).map fun k => (v >>> (8 * k)) % 256

/-- The next tweak of XTS. -/
def nextTweak (t : List Nat) : List Nat :=
  let v := leNat t
  leBytes 16 (if v.testBit 127 then (2 * v % 2 ^ 128) ^^^ 0x87 else 2 * v)

/-- XTS over blocks with one block cipher. -/
def xtsBlocks (f : List Nat → List Nat) (t : List Nat) : List (List Nat) → List (List Nat)
  | [] => []
  | b :: rest => xorList (f (xorList b t)) t :: xtsBlocks f (nextTweak t) rest

/-- AES-XTS-256 over a line with a 64-byte key and data unit number `i`. -/
def xtsLine (enc : Bool) (key : List Byte) (i : Nat) (d : Line) : Line :=
  let k := key.map BitVec.toNat
  let rk := roundKeys (k.take 32)
  let t := aesEnc (roundKeys (k.drop 32)) (leBytes 16 i)
  let blocks := pieces 16 4 ((lineBytes d).map BitVec.toNat)
  lineOf (((xtsBlocks (if enc then aesEnc rk else aesDec rk) t blocks).flatten).map (BitVec.ofNat 8))

end Sys2Proof.Machine
end

