-- ==== Sys2Proof/Machine/Layout.lean ====
section
/-!
DEFINITION. What lies in a stripe, apart from where it lies: parity rotation (R182, R183), check words (R184), the poison marking (R417),
the bytes of the sections of a system copy (R191, R277, R331, R422), how a copy is striped and encrypted (R197, R468), and the void map
(R199).
-/
namespace Sys2Proof.Machine

/-! ### Members and parity rotation -/

/-- A member number from a natural. -/
def memberOf (n : Nat) : Fin 9 := ⟨n % 9, by omega⟩

/-- A group number from a natural. -/
def groupOf (n : Nat) : Fin 8 := ⟨n % 8, by omega⟩

/-- A slice number from a natural. -/
def sliceOf (n : Nat) : Fin 80 := ⟨n % 80, by omega⟩

/-- The parity member of a stripe: 8 − (s mod 9) (R182). -/
def parityMember (stripe : Nat) : Fin 9 := memberOf (8 - stripe % 9)

/-- The member of data strip k of a stripe (R182). -/
def dataMember (stripe k : Nat) : Fin 9 := memberOf (8 - stripe % 9 + 1 + k)

/-- The strip a member holds of a stripe: 0 to 7 data, 8 parity (R182). -/
def stripOf (stripe : Nat) (m : Fin 9) : Nat := (m.val + 9 - (8 - stripe % 9) + 8) % 9

/-- All members. -/
def allMembers : List (Fin 9) := List.finRange 9

/-- All groups. -/
def allGroups : List (Fin 8) := List.finRange 8

/-- All slices. -/
def allSlices : List (Fin 80) := List.finRange 80

/-! ### Check words and poison -/

/-- A 16-bit word of a line replaced. -/
def setWord (d : Line) (j : Nat) (w : Check) : Line :=
  lineOf (patchBytes (lineBytes d) (2 * j) (bytesOf w 2))

/-- The check word of a strip (R184). -/
def checkWord (g : Fin 8) (m : Fin 9) (stripe : Nat) (d : Line) : Check :=
  crcCheck (lineBytes d ++ natBytes stripe 4 ++ [BitVec.ofNat 8 (16 * g.val + m.val)])

/-- The poison pattern (R417). -/
def poisonLine : Line := wordOf 512 ((List.replicate 8 (natBytes 0x5EA50F1DE77EB0C3 8)).flatten)

/-- The poison check word (R417). -/
def poisonWord (g : Fin 8) (m : Fin 9) (stripe : Nat) : Check := checkWord g m stripe poisonLine ^^^ 0xFFFF

/-- Whether a strip as read is marked poisoned (R418). -/
def isPoisoned (g : Fin 8) (m : Fin 9) (stripe : Nat) (d : Line) (w : Check) : Bool :=
  d == poisonLine && w == poisonWord g m stripe

/-- XOR of lines. -/
def xorLines (l : List Line) : Line := l.foldl (· ^^^ ·) 0

/-! ### Sections of a system copy (R331) -/

/-- A journal entry as its 16 bytes (R191). -/
def JEntry.bytes (e : JEntry) : List Byte :=
  let b := bytesOf e.stripe 4 ++ natBytes e.wmask.toNat 2 ++ natBytes e.done.toNat 2 ++ [BitVec.ofNat 8 (e.kind.toNat + 8 * e.repoch.toNat), e.absent.setWidth 8] ++
    bytesOf e.seq 2 ++ [0, 0]
  b ++ bytesOf (crcCheck b) 2

/-- One entry of a hub's journal; an entry not in use is 16 zero bytes. -/
def journalEntry (l : List (Nat × JEntry)) (k : Nat) : List Byte :=
  match getKey l k with
  | some e => e.bytes
  | none => fillBytes 0 16

/-- A loss-map entry as its 16 bytes (R277). -/
def Loss.bytes (l : Loss) : List Byte :=
  bytesOf l.first 4 ++ bytesOf l.last 4 ++ natBytes l.members.toNat 2 ++ [l.group.setWidth 8, l.cause.setWidth 8] ++ bytesOf l.lines 4

/-- An error log entry as its 32 bytes (R422). -/
def LogEntry.bytes (x : LogEntry) : List Byte :=
  [BitVec.ofNat 8 (x.cls.toNat + (if x.squall then 4 else 0) + (if x.nested then 8 else 0)), x.page] ++ bytesOf x.code 2 ++ bytesOf x.count 2 ++
    bytesOf x.seq 2 ++ bytesOf x.tFirst 8 ++ bytesOf x.tLast 8 ++ bytesOf x.detail 8

/-- Bytes padded with zero bytes to a size. -/
def padTo (n : Nat) (b : List Byte) : List Byte := b ++ fillBytes 0 (n - b.length)

/-- The sizes of the eleven sections, in table order. -/
def sectionSizes : List Nat := [0x600000, 0x8000, 0x1000, 0x10000, 0x1000, 0x10000, 0x1000, 0x1000, 0x1000, 0x8000, 0x10000]

/-- The size of section `n`, and where it begins in its copy. -/
def sectionSize (n : Nat) : Nat := sectionSizes[n]?.getD 0
def sectionStart (n : Nat) : Nat := (sectionSizes.take n).foldl (· + ·) 0x1000

/-- Byte `j` of section `n`: entry i of the ledger image at 12i (R99), hub h of the journals at 8 KiB × h (R191), entry i of the loss map at
16i (R277), the patch image; the format of the others is internal to the block, so their bytes are free (assumption 12). -/
def KeepSections.byte (x : KeepSections) (save n j : Nat) : Byte :=
  match n with
  | 0 => byteAt ((getKey x.entries (j / 12)).getD x.fill) (j % 12)
  | 3 => (journalEntry (x.journals[j / 8192]?.getD []) (j % 8192 / 16))[j % 16]?.getD 0
  | 4 => ((x.loss[j / 16]?.map Loss.bytes).getD [])[j % 16]?.getD 0
  | 10 => x.patch[j]?.getD 0
  | _ => Config.internalByte n save j

/-- The bytes of section `n`. -/
def KeepSections.bytes (x : KeepSections) (save n : Nat) : List Byte := (List.range (sectionSize n)).map (x.byte save n)

/-! ### System copies as strips (R197, R331, R468) -/

/-- Bytes of a copy: the header, the Squall error log behind it, the sections. -/
def copyEnd : Nat := 0x646000

/-- Byte `o` of a copy. -/
def KeepCopy.byte (k : KeepCopy) (o : Nat) : Byte :=
  if o < 512 then k.header[o]?.getD 0
  else if o < 0x1000 then ((k.secs.log[(o - 512) / 32]?.map LogEntry.bytes).getD [])[(o - 512) % 32]?.getD 0
  else match (List.range 11).find? fun n => decide (o < sectionStart (n + 1)) with
    | some n => k.secs.byte k.save n (o - sectionStart n)
    | none => 0

/-- The line at byte `o` of a copy. -/
def KeepCopy.line (k : KeepCopy) (o : Nat) : Line := lineOf ((List.range 64).map fun j => k.byte (o + j))

/-- Bytes of a copy in one stripe: eight strips of a group, or four members without parity. -/
def KeepCopy.unit (k : KeepCopy) : Nat := if k.parity then 512 else 256

/-- Whether the save wrote stripe `i` of a copy: with the ledger disabled its image is left out (R332). -/
def KeepCopy.covers (k : KeepCopy) (i : Nat) : Bool :=
  decide (i * k.unit < copyEnd) && (k.ledger || decide (i * k.unit < sectionStart 0) || decide (sectionStart 1 ≤ i * k.unit))

/-- The chunks that it covers, as ranges. -/
def KeepCopy.chunks (k : KeepCopy) : List (Nat × Nat) :=
  let c (o : Nat) : Nat := (k.at_.stripe + o / k.unit) / 8
  if k.ledger then [(c 0, c copyEnd)] else [(c 0, c (sectionStart 0)), (c (sectionStart 1), c copyEnd)]

/-- The stripes that the save wrote. -/
def KeepCopy.stripes (k : KeepCopy) : Nat := (if k.ledger then copyEnd else sectionStart 0 + (copyEnd - sectionStart 1)) / k.unit

/-- The data unit number of a strip in a Keep reserve (R468). -/
def keepUnit (g : Fin 8) (m : Fin 9) (stripe : Nat) : Nat := 2 ^ 40 + (16 * g.val + m.val) * 2 ^ 32 + stripe

/-- The line at byte `o` of a copy as it is stored in a strip of a member (R469). -/
def KeepCopy.stored (k : KeepCopy) (m : Fin 9) (stripe o : Nat) : Line := xtsLine true k.key (keepUnit k.grp m stripe) (k.line o)

/-- The strip of a member in stripe `i` of a copy. -/
def KeepCopy.strip (k : KeepCopy) (i : Nat) (m : Fin 9) : Line :=
  let stripe := k.at_.stripe + i
  if k.parity = false then k.stored m stripe (256 * i + 64 * (m.val % 4))
  else if m = parityMember stripe then xorLines ((List.range 8).map fun j => k.stored (dataMember stripe j) stripe (512 * i + 64 * j))
  else k.stored m stripe (512 * i + 64 * stripOf stripe m)

/-! ### The void map as strips (R199) -/

/-- The bits of 512 chunks from chunk `o` on: set where the chunk is void. -/
def mapLine (voids : List (Nat × Nat)) (o : Nat) : Line :=
  BitVec.ofNat 512 (voids.foldl (fun n v =>
    let a := max v.1 o
    let b := min v.2 (o + 512)
    if a < b then n ||| (2 ^ (b - o) - 2 ^ (a - o)) else n) 0)

/-- The strip of a member in stripe `i` of a void map. -/
def MapImage.strip (x : MapImage) (i : Nat) (m : Fin 9) : Line :=
  let stripe := x.at_.stripe + i
  if m = parityMember stripe then xorLines ((List.range 8).map fun j => mapLine x.voids (4096 * i + 512 * j))
  else mapLine x.voids (4096 * i + 512 * stripOf stripe m)

/-- The stripe, counted from the first, whose strip lies in a slice line, and the one whose check word is word `j` of it. -/
def Laid.dataAt (x : Laid) (l : Nat) : Option Nat := if x.line ≤ l then some (l - x.line) else none
def Laid.wordAt (x : Laid) (j l : Nat) : Option Nat := if x.check ≤ l then some (32 * (l - x.check) + j) else none

end Sys2Proof.Machine
end

