-- ==== Sys2Proof/Machine/MapOps.lean ====
section
/-!
DEFINITION. Where every byte lies: the address map (R178 to R181), placement in a slice (R180, R204), what a slice line holds, the
guarded window (R95, R96), Keep placement (R196 to R198) and the choice of key for a line (R467 to R469).
-/
namespace Sys2Proof.Machine

/-! ### Geometry -/

/-- NGRP in force: populated groups are 2^NGRP (R178). -/
def State.ngrp (s : State) : Nat := fieldOf (s.stored pageGlb 0x050) 1 0

/-- The number of populated groups. -/
def State.groups (s : State) : Nat := 2 ^ s.ngrp

/-- Whether a group is populated. -/
def State.populated (s : State) (g : Fin 8) : Bool := decide (g.val < s.groups)

/-- Slice capacity in half GiB by CAP; 7 acts as 6 (R179, R401). -/
def capHalves (cap : Nat) : Nat :=
  match cap with
  | 0 => 2 | 1 => 3 | 2 => 4 | 3 => 6 | 4 => 8 | 5 => 12 | _ => 16

/-- CAP in force. -/
def State.cap (s : State) : Nat := fieldOf (s.stored pageGlb 0x050) 6 4

/-- Lines per eighth of a slice (R180). -/
def State.eighthLines (s : State) : Nat := capHalves s.cap * 1048576

/-- Check blocks per eighth (R180). -/
def State.kBlocks (s : State) : Nat := s.eighthLines / 33

/-- Strips per eighth (R180). -/
def State.eighthStrips (s : State) : Nat := 32 * s.kBlocks

/-- Stripes of a group (R180). -/
def State.groupStripes (s : State) : Nat := 8 * s.eighthStrips

/-- First stripe of a group's Keep reserve: the top 65,536 (R180). -/
def State.reserveStripe (s : State) : Nat := s.groupStripes - 65536

/-- Lines of a slice within its capacity S. -/
def State.sliceLines (s : State) : Nat := 8 * s.eighthLines

/-- The slice line of a strip (R180). -/
def State.dataLine (s : State) (stripe : Nat) : Nat :=
  stripe / s.eighthStrips * s.eighthLines + stripe % s.eighthStrips

/-- The slice line of a strip's check line (R180). -/
def State.checkLine (s : State) (stripe : Nat) : Nat :=
  stripe / s.eighthStrips * s.eighthLines + s.eighthStrips + stripe % s.eighthStrips / 32

/-- The word of a strip within its check line (R180). -/
def State.checkIdx (s : State) (stripe : Nat) : Nat := stripe % s.eighthStrips % 32

/-- The populated groups. -/
def State.popGroups (s : State) : List (Fin 8) := allGroups.filter s.populated

/-! ### The address map -/

/-- Where a line of port space lies (R181). -/
structure Place where
  g : Fin 8
  stripe : Nat
  k : Nat
  m : Fin 9
  deriving DecidableEq, Repr

/-- The XOR fold of a row over fields of `w` bits (R181). -/
def foldRow (w row : Nat) : Nat :=
  if w = 0 then 0
  else (List.range (24 / w)).foldl (fun f i => f ^^^ ((row >>> (i * w)) % 2 ^ w)) 0

/-- Bytes of bands 0 to 6, and of band 7 less the Keep reserve (R181). -/
def State.bandBytes (s : State) : Nat := s.groups * (4 * s.kBlocks) * 4096
def State.lastBandBytes (s : State) : Nat := s.groups * (4 * s.kBlocks - 8192) * 4096

/-- The end of the payload range (R181). -/
def State.payloadEnd (s : State) : Nat := 7 * s.bandBytes + s.lastBandBytes

/-- The address map; none means DOWN (R181). -/
def State.mapAddr (s : State) (a : Nat) : Option Place :=
  if s.payloadEnd ≤ a then none
  else
    let q := min (a / s.bandBytes) 7
    let c := (a - q * s.bandBytes) / 4096
    let off := a % 4096
    let n := c % s.groups
    let row := c / s.groups
    let f := if bitOf (s.stored pageGlb 0x050) 8 then foldRow s.ngrp row else 0
    let stripe := q * s.eighthStrips + row * 8 + off / 512
    let k := off % 512 / 64
    some { g := groupOf (n ^^^ f), stripe := stripe, k := k, m := dataMember stripe k }

/-- The port address of data strip k of a stripe: the inverse of the address map; none in the Keep reserve (R277). -/
def State.portAddr (s : State) (g : Fin 8) (stripe k : Nat) : Option Nat :=
  let q := stripe / s.eighthStrips
  let r := stripe % s.eighthStrips
  let row := r / 8
  if q = 7 ∧ 4 * s.kBlocks - 8192 ≤ row then none
  else
    let f := if bitOf (s.stored pageGlb 0x050) 8 then foldRow s.ngrp row else 0
    some (q * s.bandBytes + (row * s.groups + (g.val ^^^ f)) * 4096 + (r % 8) * 512 + k * 64)

/-! ### Lines of a slice -/

/-- The eighth of a slice that a line lies in. -/
def State.eighthOf (s : State) (l : Nat) : Nat := min 7 (l / s.eighthLines)

/-- The member whose strips of what was laid a slice took, while they stand. -/
def State.layer (s : State) (c : Fin 80) (x : Laid) : Option (Fin 9) :=
  (x.marks.find? fun k => k.2.1 == c && s.slices[c].lost[7] == k.2.2).map Prod.fst

/-- The system copies as they were last written. -/
def State.copies (s : State) : List KeepCopy := s.keepA.toList ++ s.keepB.toList

/-- The strip of a system copy or of a void map in the stripe that `pick` finds, with its check word, where a slice holds it as a save or a
bring-up laid it (R197, R199). -/
def State.laidStrip (s : State) (c : Fin 80) (pick : Laid → Option Nat) : Option (Line × Check) :=
  let word (g : Fin 8) (m : Fin 9) (stripe : Nat) (d : Line) : Line × Check := (d, checkWord g m stripe d)
  let map := allGroups.findSome? fun g => match s.hubs[g].mapImage with
    | none => none
    | some x => match pick x.at_, s.layer c x.at_ with
      | some i, some m => if i < x.stripes then some (word g m (x.at_.stripe + i) (x.strip i m)) else none
      | _, _ => none
  match map with
  | some x => some x
  | none => s.copies.findSome? fun k => match pick k.at_, s.layer c k.at_ with
    | some i, some m => if k.covers i then some (word k.grp m (k.at_.stripe + i) (k.strip i m)) else none
    | _, _ => none

/-- Where the system copies and the void maps lie. -/
def State.laid (s : State) : List Laid := s.copies.map KeepCopy.at_ ++ s.hubs.toList.filterMap fun h => h.mapImage.map MapImage.at_

/-- What line `l` of slice `c` reads as where nothing has been written one by one since the last loss of its contents, since the last save
or since the bring-up wrote its void map. -/
def State.blankLine (s : State) (c : Fin 80) (l : Nat) : Line :=
  let k := s.slices[c].lost[s.eighthOf l]?.getD 0
  let base : Line := if k = 0 then 0 else Config.lostLine k c.val l
  if (s.laid.any fun x => decide (x.line ≤ l)) = false then base
  else match s.laidStrip c (fun x => x.dataAt l) with
    | some x => x.1
    | none => (List.range 32).foldl (fun d j => match s.laidStrip c (fun x => x.wordAt j l) with
        | some x => setWord d j x.2
        | none => d) base

/-- Slice line `l` of slice `c`, raw. -/
def State.rawLine (s : State) (c : Fin 80) (l : Nat) : Line :=
  lineOf (Memory.readBytes s.mem (sliceByte c (64 * l)) 64) ^^^ s.blankLine c l

/-- Slice line `l` of slice `c` written raw. -/
def State.setRawLine (s : State) (c : Fin 80) (l : Nat) (d : Line) : State :=
  { s with mem := Memory.writeBytes s.mem (sliceByte c (64 * l)) (lineBytes (d ^^^ s.blankLine c l)) }

/-- The contents of some eighths of a slice are lost: from now on each line reads as a free value until it is written. -/
def State.loseContents (s : State) (c : Fin 80) (mask : BitVec 8) : State :=
  let hit (a : Nat) : Bool := a / 2 ^ 33 == c.val && mask.getLsbD (s.eighthOf (a % 2 ^ 33 / 64))
  let t := s.modSlice c fun x => { x with lost := Vector.ofFn fun (e : Fin 8) => if mask.getLsbD e.val then s.free + 1 else x.lost[e] }
  { t with mem := t.mem.filter fun x => !hit x.1, free := t.free + 1 }

/-- A slice's bytes of the stripes that are laid anew, data and check words, are no longer what was written one by one. -/
def State.clearLaid (s : State) (x : Laid) (covers : Nat → Bool) : State :=
  let in_ (l b : Nat) : Bool := (x.dataAt l).any covers || (x.wordAt (b / 2) l).any covers
  { s with mem := s.mem.filter fun e => !((x.marks.any fun k => k.2.1.val == e.1 / 2 ^ 33) && in_ (e.1 % 2 ^ 33 / 64) (e.1 % 64)) }

/-- A cached check line with the words of those stripes in place. -/
def Laid.overWords (x : Laid) (covers : Nat → Bool) (word : Nat → Check) (ck : CkLine) : CkLine :=
  (List.range 32).foldl (fun (k : CkLine) (j : Nat) => match x.wordAt j k.line with
    | some i => if covers i then { k with valid := k.valid ||| (1#32 <<< j), data := setWord k.data j (word i) } else k
    | none => k) ck

/-- Check words of those stripes that a slice's cache holds follow (R220). -/
def State.wordsLaid (s : State) (g : Fin 8) (x : Laid) (covers : Nat → Bool) (strip : Nat → Fin 9 → Line) : State :=
  x.marks.foldl (fun (s : State) (k : Fin 9 × Fin 80 × Nat) =>
    s.modSched k.2.1 fun y => { y with ckc := y.ckc.map (x.overWords covers fun i => checkWord g k.1 (x.stripe + i) (strip i k.1)) }) s

/-! ### Placement in the devices (R204) -/

/-- Rows per eighth of a bank for a density code: 8, 12, 16, 24, 32 Gb (R205). -/
def rowsPerEighth (dens : BitVec 4) : Nat :=
  match dens.toNat with
  | 0 => 4096 | 1 => 6144 | 2 => 8192 | 3 => 12288 | _ => 16384

/-- Bank (rank × 16 + bank), row and column of a slice line (R204). -/
def State.placeLine (s : State) (c : Fin 80) (l : Nat) : Nat × Nat × Nat :=
  let nr := max 1 s.slices[c].ranks.toNat
  let q := l / s.eighthLines
  let o := l % s.eighthLines
  let bg := o % 4
  let col := o / 4 % 32
  let bk := o / 128 % 4
  let rank := o / 512 % nr
  (rank * 16 + 4 * bk + bg, q * rowsPerEighth s.slices[c].dens + o / (512 * nr), col)

/-! ### The guarded window (R95, R96) -/

/-- Granule size G. -/
def State.granule (s : State) : Nat := 4096 * 4 ^ min (fieldOf (s.stored (pageLdg 0) 0x040) 2 1) 2

/-- Window size W. -/
def State.winSize (s : State) : Nat := 524288 * s.granule

/-- Window and slot bases. -/
def State.pairStored (s : State) (page ofs : Nat) : Nat := (s.stored page ofs).toNat + (s.stored page (ofs + 4)).toNat * 2 ^ 32
def State.winBase (s : State) : Nat := s.pairStored (pageLdg 0) 0x044
def State.slotBase (s : State) : Nat := s.pairStored (pageLdg 0) 0x04C

/-- Whether an address lies in the window while the ledger is enabled. -/
def State.inWindow (s : State) (a : Nat) : Bool :=
  s.ledger.enabled && decide (s.winBase ≤ a) && decide (a < s.winBase + s.winSize)

/-- Whether an address lies in the slot area while the ledger is enabled. -/
def State.inSlotArea (s : State) (a : Nat) : Bool :=
  s.ledger.enabled && decide (s.slotBase ≤ a) && decide (a < s.slotBase + 2 * s.winSize)

/-- Granule and unit of a window address (R111). -/
def State.granuleOf (s : State) (a : Nat) : Nat := (a - s.winBase) / s.granule
def State.unitOf (s : State) (a : Nat) : Nat := (a - s.winBase) % s.granule / (s.granule / 64)

/-- The address of a window byte in slot A (false) or B (true) (R96). -/
def State.slotAddr (s : State) (slot : Bool) (a : Nat) : Nat :=
  s.slotBase + (if slot then s.winSize else 0) + (a - s.winBase)

/-! ### Keep placement (R196 to R198) -/

/-- RET_BANDS; bit 7 always reads 1 (R196). -/
def State.retBands (s : State) : BitVec 8 := (s.cfg (pageGrp 0) 0x0A0).extractLsb' 16 8 ||| 0x80

/-- GRP_KEEP_STAT.CFG_ERR (R198). -/
def State.keepCfgErr (s : State) : Nat :=
  let a := fieldOf (s.cfg (pageGrp 0) 0x0A0) 2 0
  let b := fieldOf (s.cfg (pageGrp 0) 0x0A0) 6 4
  if s.groups < 2 then 0 else if s.groups ≤ a then 1 else if s.groups ≤ b ∨ b = a then 2 else 0

/-- Groups of the two system copies (R197, R198). -/
def State.keepGroups (s : State) : Fin 8 × Fin 8 :=
  if s.groups < 2 then (0, 0)
  else if s.keepCfgErr ≠ 0 then (0, 1)
  else (groupOf (fieldOf (s.cfg (pageGrp 0) 0x0A0) 2 0), groupOf (fieldOf (s.cfg (pageGrp 0) 0x0A0) 6 4))

/-- Whether two half-open ranges meet; an empty one meets none. -/
def overlaps (a b c d : Nat) : Bool := decide (max a c < min b d)

/-- A Keep region's enable, first byte and end. -/
def State.keepRegion (s : State) (n : Nat) : Bool × Nat × Nat :=
  let b := s.cfg (pageGrp 0) (0x0C0 + 8 * n)
  let l := s.cfg (pageGrp 0) (0x0C4 + 8 * n)
  (bitOf b 31, fieldOf b 27 0 * 4096, (fieldOf l 27 0 + 1) * 4096)

/-- The band of a payload address. -/
def State.bandOf (s : State) (a : Nat) : Nat := min (a / s.bandBytes) 7

/-- Whether every band from `a` to the byte before `e` is retained. -/
def State.bandsRetained (s : State) (a e : Nat) : Bool :=
  (List.range 8).all fun q => !(decide (s.bandOf a ≤ q) && decide (q ≤ s.bandOf (e - 1))) || s.retBands.getLsbD q

/-- Whether an enabled Keep region fails a check of R198. -/
def State.keepRegBad (s : State) (n : Nat) : Bool :=
  let (_, b, e) := s.keepRegion n
  decide (e ≤ b) || decide (s.payloadEnd < e) || !s.bandsRetained b e ||
    ((List.range 8).any fun j => j != n && (s.keepRegion j).1 && overlaps b e (s.keepRegion j).2.1 (s.keepRegion j).2.2) ||
    (s.ledger.enabled && (overlaps b e s.winBase (s.winBase + s.winSize) || overlaps b e s.slotBase (s.slotBase + 2 * s.winSize)))

/-- Whether a Keep region is in force. -/
def State.keepRegActive (s : State) (n : Nat) : Bool := (s.keepRegion n).1 && !s.keepRegBad n

/-- Whether an address lies in a Keep region in force. -/
def State.inKeepRegion (s : State) (a : Nat) : Bool :=
  (List.range 8).any fun n => s.keepRegActive n && decide ((s.keepRegion n).2.1 ≤ a) && decide (a < (s.keepRegion n).2.2)

/-! ### Encryption of a line (R467 to R469) -/

/-- Whether encryption region n is enabled with a slot that is READY. -/
def State.regionReady (s : State) (n : Nat) : Bool :=
  bitOf (s.stored pageSec (0x100 + 8 * n)) 31 &&
    (s.sec.slots[fieldOf (s.stored pageSec (0x104 + 8 * n)) 31 28]?.getD KeySlot.empty).st == 2

/-- Whether an address lies between a region's pages. -/
def State.regionHolds (s : State) (n a : Nat) : Bool :=
  decide (fieldOf (s.stored pageSec (0x100 + 8 * n)) 27 0 ≤ a / 4096) &&
    decide (a / 4096 ≤ fieldOf (s.stored pageSec (0x104 + 8 * n)) 27 0)

/-- The key a resolved address is stored under: the lowest-numbered ready region that holds it, else the Keep key for the
slot area and Keep regions, else none. -/
def State.lineKey (s : State) (a : Nat) : Option (List Byte) :=
  match (List.range 16).find? fun n => s.regionReady n && s.regionHolds n a with
  | some n => some (s.sec.slots[fieldOf (s.stored pageSec (0x104 + 8 * n)) 31 28]?.getD KeySlot.empty).key
  | none =>
    if (s.inSlotArea a || s.inKeepRegion a) && s.sec.keepKey.length == 64 then some s.sec.keepKey else none

/-- A plaintext line as it is stored at a resolved address. -/
def State.encryptAt (s : State) (a : Nat) (d : Line) : Line :=
  match s.lineKey a with
  | some k => xtsLine true k (a / 64) d
  | none => d

/-- A stored line as plaintext. -/
def State.decryptAt (s : State) (a : Nat) (d : Line) : Line :=
  match s.lineKey a with
  | some k => xtsLine false k (a / 64) d
  | none => d

end Sys2Proof.Machine
end

