-- ==== Sys2Proof/Machine/FailOps.lean ====
section
/-!
DEFINITION. Sleep refusals and wakes that traffic causes (R145, R147, R310, R315), route tables (R140, R141), the loss map
(R277), spares (R262, R263), and declaring a slice failed (R258, R261, R274).
-/
namespace Sys2Proof.Machine

/-! ### Modes, votes and wakes -/

/-- The mode changed; GLB's MODE source is raised at every change ("GLB page"). -/
def State.setMode (s : State) (m : Mode) : State :=
  if s.mode.mode = m then s else ({ s with mode := { s.mode with mode := m } }).raise pageGlb 0

/-- A vote that a domain refuses ends in rollback (R310, R311). -/
def State.voteRefuse (s : State) (d : Nat) (reason : BitVec 4) : State :=
  if s.pwr.phase = .prepare1 ∨ s.pwr.phase = .prepare2 then
    { s with pwr := { s.pwr with phase := .rollback, vetoBy := BitVec.ofNat 7 d, vetoWhy := reason } }
  else s

/-- A domain that has agreed meets late traffic before COMMIT (R147, R308). -/
def State.lateTraffic (s : State) (d : Nat) : State :=
  if s.pwr.agreed.getLsbD d then s.voteRefuse d 2 else s

/-- A wake source in S1 or S2, or during ENTERING (R312, R315); WAKE_OUT rises (R435). -/
def State.wakeBy (s : State) (src : BitVec 4) : State :=
  match s.pwr.phase with
  | .asleep => { s with pwr := { s.pwr with phase := .waking, wakeSrc := src }, pins := { s.pins with wakeOut := s.pins.wakeOut || s.ao.wakeEn } }
  | .entering => if s.pwr.wakeSoon = 0 then { s with pwr := { s.pwr with wakeSoon := src } } else s
  | _ => s

/-! ### Route tables -/

/-- Slice roles (R257). -/
def roleUnused : BitVec 4 := 0
def roleHome : BitVec 4 := 1
def roleSpareFree : BitVec 4 := 2
def roleAttached : BitVec 4 := 3
def roleFailed : BitVec 4 := 4
def roleQuarantine : BitVec 4 := 5
def roleUnavailable : BitVec 4 := 6
def roleTesting : BitVec 4 := 7

/-- Role of a slice. -/
def State.role (s : State) (c : Fin 80) : BitVec 4 := s.slices[c].health.role

/-- A member of a group. -/
def State.member (s : State) (g : Fin 8) (m : Fin 9) : Member := s.spr.members[g][m]

/-- One member changed. -/
def State.setMember (s : State) (g : Fin 8) (m : Fin 9) (x : Member) : State :=
  { s with spr := { s.spr with members := s.spr.members.set g (s.spr.members[g].set m x) } }

/-- The relayout of a group set. -/
def State.setRly (s : State) (g : Fin 8) (r : Option Relayout) : State :=
  { s with spr := { s.spr with rly := s.spr.rly.set g r } }

/-- The fence bit of a slice (R141). -/
def State.fenced (s : State) (c : Fin 80) : Bool := s.fab.fence.getLsbD c.val

/-- A fence bit set or cleared. -/
def State.setFence (s : State) (c : Fin 80) (b : Bool) : State :=
  { s with fab := { s.fab with fence := if b then s.fab.fence ||| (1#80 <<< c.val) else s.fab.fence &&& ~~~(1#80 <<< c.val) } }

/-- The table that operations admitted from the next swap on will use. -/
def Hub.nextTable (h : Hub) : Vector Route 9 := h.staged.getD h.table

/-- One entry of a hub's staged table written (R141 step 1). -/
def State.stageRoute (s : State) (g : Fin 8) (m : Fin 9) (r : Route) : State :=
  s.modHub g fun h => { h with staged := some (h.nextTable.set m r) }

/-- A member that is unreachable: ABSENT in the route table, or fenced ("Read-through policy"). -/
def State.unreachable (s : State) (g : Fin 8) (m : Fin 9) : Bool :=
  s.hubs[g].table[m].absent || s.fenced s.hubs[g].table[m].slice

/-- Whether the region of a stripe went stale while its member was retraining (R268). -/
def State.isStale (s : State) (g : Fin 8) (stripe : Nat) : Bool :=
  s.hubs[g].staleLost || s.hubs[g].stale.contains (stripe / 2048)

/-- The table of a live epoch (R141). -/
def Hub.tableOf (h : Hub) (e : BitVec 16) : Vector Route 9 :=
  if e = h.epoch then h.table
  else match h.old.find? fun o => o.epoch == e with
    | some o => o.table
    | none => h.table

/-- Whether a fence keeps operations on a member's strips from a slice: from the swap on. While a swap is still to come, operations go by
the current table, unless the slice held only part of the member's data (R143, assumption 70). -/
def State.cutOff (s : State) (g : Fin 8) (m : Fin 9) (c : Fin 80) : Bool :=
  s.fenced c && (s.hubs[g].staged.isNone || s.hubs[g].cut.getLsbD m.val)

/-- Where operations on the strips of a member go that its fenced slice may not serve: to the slice of the table that is staged, where that
names another, as after the failure of a destination (R256, R274; assumption 70). -/
def State.detour (s : State) (g : Fin 8) (m : Fin 9) : Option (Fin 80) :=
  match s.hubs[g].staged with
  | some t => if t[m].absent || s.fenced t[m].slice then none else some t[m].slice
  | none => none

/-- Where the hub directs an operation on a member's strip: a slice, or none for UNREACHABLE (R265, R140). -/
def State.targetIn (s : State) (tbl : Vector Route 9) (g : Fin 8) (m : Fin 9) (stripe : Nat) : Option (Fin 80) :=
  let e := tbl[m]
  if e.absent then none
  else if s.cutOff g m e.slice then s.detour g m
  else match s.spr.rly[g] with
    | some r =>
      if r.mem ≠ m then some e.slice
      else if s.cutOff g m r.dst then none
      else match r.kind with
        | .rebuild => if stripe < r.bound then some r.dst else none
        | .resync => if stripe < r.bound ∨ s.isStale g stripe = false then some e.slice else none
        | _ => if stripe < r.bound then some r.dst else
            match r.src with
            | some c => if s.cutOff g m c then none else some c
            | none => some e.slice
    | none => some e.slice

/-- The target under the current table. -/
def State.target (s : State) (g : Fin 8) (m : Fin 9) (stripe : Nat) : Option (Fin 80) :=
  s.targetIn s.hubs[g].table g m stripe

/-- The target of an operation of an epoch: by the table of that epoch; from a slice that the swap has fenced it is sent on under the
current table (R141, R142, R144). -/
def State.targetOf (s : State) (g : Fin 8) (e : BitVec 16) (m : Fin 9) (stripe : Nat) : Option (Fin 80) :=
  let t := s.hubs[g].tableOf e
  if e != s.hubs[g].epoch && !t[m].absent && s.fenced t[m].slice then s.target g m stripe else s.targetIn t g m stripe

/-- Members of a stripe that cannot be reached. -/
def State.goneMembers (s : State) (g : Fin 8) (e : BitVec 16) (stripe : Nat) : List (Fin 9) :=
  allMembers.filter fun m => (s.targetOf g e m stripe).isNone

/-- Whether some other member of the group is without its data (R260). -/
def State.otherUnreachable (s : State) (g : Fin 8) (m : Fin 9) : Bool :=
  allMembers.any fun j => j != m &&
    (s.unreachable g j || (s.member g j).st == .absent || (s.member g j).st == .rebuilding || (s.member g j).st == .resync)

/-- A member that does not count for DEGRADED (R256). -/
def Member.whole (x : Member) : Bool := x.st == .healthy || x.st == .returning

/-- Whether every member of every populated group is whole. -/
def State.allWhole (s : State) : Bool := s.popGroups.all fun g => allMembers.all fun m => (s.member g m).whole

/-- RUN or DEGRADED follows the members (R25, R256). -/
def State.followMembers (s : State) : State :=
  if s.mode.mode = .run ∧ s.allWhole = false then s.setMode .degraded
  else if s.mode.mode = .degraded ∧ s.allWhole = true then s.setMode .run
  else s

/-! ### Signatures (R234, R334) -/

/-- What the dies of a slice carry. -/
def State.signatureOf (s : State) (c : Fin 80) : Signature :=
  let x := s.slices[c].health
  let dest := s.spr.rly.toList.any fun r => match r with | some r => r.dst == c | none => false
  { ngrp := BitVec.ofNat 2 s.ngrp, cap := BitVec.ofNat 3 s.cap, keepA := BitVec.ofNat 3 s.keepGroups.1.val, keepB := BitVec.ofNat 3 s.keepGroups.2.val
    group := BitVec.ofNat 3 x.grp.val, member := match x.mem with | some m => BitVec.ofNat 4 m.val | none => 0xF
    role := x.role, dest := dest, gen := s.hubs[x.grp].rosterGen }

/-- The signature written, by mode-register writes, to every slice with an ACTIVE entry in a group's route table, in self-refresh too. -/
def State.signGroup (s : State) (g : Fin 8) : State :=
  allMembers.foldl (fun (s : State) (m : Fin 9) =>
    let r := s.hubs[g].table[m]
    if r.absent = false ∧ s.slices[r.slice].power ≠ .off then s.modSlice r.slice fun x => { x with sig := some (s.signatureOf r.slice) } else s) s

/-! ### The loss map (R277) -/

/-- Stripes below `b` that are `r` modulo 9. -/
def countMod9 (b r : Nat) : Nat := (b + 8 - r % 9) / 9

/-- Data strips that the members of a mask hold in stripes a to b−1. -/
def stripsIn (mask : BitVec 9) (a b : Nat) : Nat :=
  (List.range 9).foldl (fun n m =>
    if mask.getLsbD m then n + ((b - a) - (countMod9 b (8 - m) - countMod9 a (8 - m))) else n) 0

/-- Data strips lost in a range, void chunks excluded (R277 LINES). -/
def State.lossLines (s : State) (g : Fin 8) (mask : BitVec 9) (first last : Nat) : Nat :=
  let whole := stripsIn mask first (last + 1)
  let void := s.hubs[g].voids.foldl (fun n v =>
    let a := max first (8 * v.1)
    let b := min (last + 1) (8 * v.2)
    if a < b then n + stripsIn mask a b else n) 0
  min (whole - void) 0xFFFFFFFF

/-- Whether a loss entry holds a range. -/
def Loss.covers (l : Loss) (first last : Nat) : Bool := decide (l.first.toNat ≤ first) && decide (last ≤ l.last.toNat)

/-- Whether a range meets or adjoins a loss entry. -/
def Loss.meets (l : Loss) (first last : Nat) : Bool :=
  decide (first ≤ l.last.toNat + 1) && decide (l.first.toNat ≤ last + 1)

/-- Whether two losses are of one kind. -/
def Loss.sameKind (l : Loss) (g : Fin 8) (mask : BitVec 9) (cause : BitVec 4) : Bool :=
  l.group == BitVec.ofNat 3 g.val && l.members == mask && l.cause == cause

/-- What each recorded or dropped loss does besides the map: a UC log entry, and LOSS where an entry is added or widened. -/
def State.noteLoss (s : State) (g : Fin 8) (idx : Nat) (cause : BitVec 4) (recorded : Bool) : State :=
  let s := s.raiseIf recorded pageSpr 3
  s.logError { cls := clsUc, page := pageSpr, code := 0x0020, detail := BitVec.ofNat 64 (idx + g.val * 256 + cause.toNat * 65536) }

/-- Where the void map of a group lies: one bit per chunk from stripe 32,768 of the Keep reserve on (R199). The data strip that holds the
bit of a chunk. -/
def State.mapStripe (s : State) (chunk : Nat) : Nat := s.reserveStripe + 32768 + chunk / 4096
def mapMember (stripe chunk : Nat) : Fin 9 := dataMember stripe (chunk / 512 % 8)

/-- Whether a loss takes the map bit of a chunk with it. -/
def State.takesMapBit (s : State) (first last : Nat) (mask : BitVec 9) (chunk : Nat) : Bool :=
  let b := s.mapStripe chunk
  decide (first ≤ b) && decide (b ≤ last) && mask.getLsbD (mapMember b chunk).val

/-- Map bits lost with a range of stripes (R276): chunks written since an earlier loss of their bits are lost again with it. -/
def State.loseMap (s : State) (g : Fin 8) (first last : Nat) (mask : BitVec 9) : State :=
  if last < s.mapStripe 0 ∨ s.mapStripe (s.groupStripes / 8) < first then s
  else s.modHub g fun h => { h with
    mapLost := h.mapLost ++ [(first, last, mask)]
    mapDone := h.mapDone.filter fun v => !s.takesMapBit first last mask v.1 }

/-- Whether the map bit of a stripe's chunk is lost (R276). -/
def State.mapGone (s : State) (g : Fin 8) (stripe : Nat) : Bool :=
  let c := stripe / 8
  let h := s.hubs[g]
  (h.mapLost.any fun x => s.takesMapBit x.1 x.2.1 x.2.2 c) && !h.mapDone.any fun v => decide (v.1 ≤ c) && decide (c < v.2)

/-- A loss put into the loss map: a new entry, a wider one, nothing when already recorded, or DROPPED (R277). -/
def State.mapLoss (s : State) (g : Fin 8) (first last : Nat) (mask : BitVec 9) (cause : BitVec 4) : State :=
  if s.spr.loss.any fun l => l.sameKind g mask cause && l.covers first last then s
  else match s.spr.loss.findIdx? fun l => l.sameKind g mask cause && l.meets first last with
    | some i =>
      let l := s.spr.loss.getD i { first := 0, last := 0, members := 0, group := 0, cause := 0, lines := 0 }
      let a := min first l.first.toNat
      let b := max last l.last.toNat
      let x : Loss := { l with first := BitVec.ofNat 32 a, last := BitVec.ofNat 32 b, lines := BitVec.ofNat 32 (s.lossLines g mask a b) }
      ({ s with spr := { s.spr with loss := s.spr.loss.set i x } }).noteLoss g i cause true
    | none =>
      if s.spr.loss.length < 256 then
        let x : Loss := { first := BitVec.ofNat 32 first, last := BitVec.ofNat 32 last, members := mask, group := BitVec.ofNat 3 g.val, cause := cause, lines := BitVec.ofNat 32 (s.lossLines g mask first last) }
        ({ s with spr := { s.spr with loss := s.spr.loss ++ [x] } }).noteLoss g s.spr.loss.length cause true
      else
        ({ s with spr := { s.spr with dropped := if s.spr.dropped = 0xFFFF then 0xFFFF else s.spr.dropped + 1 } }).noteLoss g 0xFF cause false

/-- A loss stands until the members concerned are whole again: the map's entry of it may be cleared, or never have been made (R275). -/
def State.holdLoss (s : State) (g : Fin 8) (first last : Nat) (mask : BitVec 9) : State :=
  s.modHub g fun h => if h.lost.contains (first, last, mask) then h else { h with lost := h.lost ++ [(first, last, mask)] }

/-- The losses of a member that is whole again stand no more (R275). -/
def State.endLosses (s : State) (g : Fin 8) (m : Fin 9) : State :=
  s.modHub g fun h => { h with lost := (h.lost.map fun x => (x.1, x.2.1, x.2.2 &&& ~~~(1#9 <<< m.val))).filter fun x => x.2.2 != 0 }

/-- A loss recorded (R276, R277). -/
def State.recordLoss (s : State) (g : Fin 8) (first last : Nat) (mask : BitVec 9) (cause : BitVec 4) : State :=
  ((s.mapLoss g first last mask cause).loseMap g first last mask).holdLoss g first last mask

/-- Whether a strip is lost: a loss of it stands, and it lies on a member that cannot be reached (R274, R275). -/
def State.isLost (s : State) (g : Fin 8) (stripe : Nat) (m : Fin 9) : Bool :=
  (s.hubs[g].lost.any fun x => decide (x.1 ≤ stripe) && decide (stripe ≤ x.2.1) && x.2.2.getLsbD m.val) && (s.target g m stripe).isNone

/-- A member mask of a list. -/
def memberMask (l : List (Fin 9)) : BitVec 9 := l.foldl (fun m i => m ||| (1#9 <<< i.val)) 0

/-- From which stripe on a member's data cannot be reached: 0 when ABSENT, BOUND when it is rebuilt or resynchronised. -/
def State.unreachFrom (s : State) (g : Fin 8) (m : Fin 9) : Option Nat :=
  match (s.member g m).st with
  | .absent => some 0
  | .rebuilding | .resync => some (match s.spr.rly[g] with | some r => r.bound | none => 0)
  | _ => none

/-- The ranges of a group from `start` on in which a member of a relayout cannot be reached, rising: above BOUND, and of a resynchronisation
only the stale regions (R274). -/
def State.relayGone (s : State) (g : Fin 8) (m : Fin 9) (start : Nat) : List (Nat × Nat) :=
  let from_ := max start ((s.unreachFrom g m).getD s.groupStripes)
  let l := if (s.member g m).st = .resync then (s.hubs[g].stale.mergeSort fun a b => decide (a ≤ b)).map fun r => (r * 2048, (r + 1) * 2048)
    else [(0, s.groupStripes)]
  (l.map fun v => (max from_ v.1, min s.groupStripes v.2)).filter fun v => decide (v.1 < v.2)

/-- The losses of a range that has two masks: one in the given ranges, another, where it has two members, in what lies between them. -/
def State.recordSplit (s : State) (g : Fin 8) (base part : BitVec 9) (both : Bool) : List (Nat × Nat) → Nat → State
  | [], at_ => if both ∧ at_ < s.groupStripes then s.recordLoss g at_ (s.groupStripes - 1) base 1 else s
  | v :: rest, at_ =>
    let t := if both ∧ at_ < v.1 then s.recordLoss g at_ (v.1 - 1) base 1 else s
    (t.recordLoss g v.1 (v.2 - 1) part 1).recordSplit g base part both rest v.2

/-- The losses of a further unreachable member, whose own data is out of reach from stripe `start` on (R274). -/
def State.lossOnFail (s : State) (g : Fin 8) (m : Fin 9) (start : Nat) : State :=
  let absent := allMembers.filter fun j => j != m && (s.member g j).st == .absent
  let moving := allMembers.filter fun j => j != m && ((s.member g j).st == .rebuilding || (s.member g j).st == .resync)
  let base := memberMask (m :: absent)
  match moving with
  | [] => s.recordSplit g base base (!absent.isEmpty) [] start
  | j :: _ => s.recordSplit g base (base ||| memberMask [j]) (!absent.isEmpty) (s.relayGone g j start) start

/-! ### Spares (R262, R263) -/

/-- SPARE_FREE slices. -/
def State.freeSpares (s : State) : List (Fin 80) := allSlices.filter fun c => s.role c == roleSpareFree

/-- SPR_POLICY fields as they act. -/
def State.policyAuto (s : State) (g : Fin 8) : Bool := s.cfgBit pageSpr 0x040 0 && s.cfgBit pageSpr 0x040 (24 + g.val)

/-- Hops on the spare ring from a hub to the stop of a slice (R262): SPj at stop 2j + 1, a home slice at its hub's stop. -/
def ringHops (g : Fin 8) (c : Fin 80) : Nat :=
  let stop := if 72 ≤ c.val then 2 * (c.val - 72) + 1 else 2 * (c.val / 9)
  let d := (stop + 16 - 2 * g.val) % 16
  min d (16 - d)

/-- The spare for a member (R262). -/
def State.chooseSpare (s : State) (g : Fin 8) (m : Fin 9) : Option (Fin 80) :=
  let free := s.freeSpares
  if s.cfgBit pageSpr 0x040 17 && free.contains (homeSlice g m) then some (homeSlice g m)
  else if s.cfgBit pageSpr 0x040 16 then
    free.foldl (fun best c => match best with
      | none => some c
      | some b => if ringHops g c < ringHops g b then some c else some b) none
  else free.head?

/-- SPARE_LOW when the count has fallen below SPR_POLICY.LOW (R263). -/
def State.noteSpareCount (s : State) : State :=
  let low := decide (s.freeSpares.length < min 8 (s.cfgField pageSpr 0x040 23 20))
  ({ s with spr := { s.spr with low := low } }).raiseIf (low && !s.spr.low) pageSpr 4

/-- A relayout joins the queue (R263). -/
def State.queueRly (s : State) (g : Fin 8) (r : Relayout) : State :=
  { s with spr := { s.spr with queue := s.spr.queue ++ [(g, { r with order := s.spr.order })], order := s.spr.order + 1 } }

/-- A spare reserved for a member: ATTACHED at once, its relayout queued (R262, R263, R259). -/
def State.grantSpare (s : State) (g : Fin 8) (m : Fin 9) (evac : Bool) (c : Fin 80) : State :=
  let s := s.modHealth c fun h => { h with role := roleAttached, grp := g, mem := some m, errLevel := 0 }
  let src := if evac then some (s.member g m).slice else none
  let s := s.queueRly g { kind := if evac then .evacuate else .rebuild, mem := m, dst := c, src := src, bound := 0, running := false, suspended := false, done := [], full := false, order := 0 }
  s.noteSpareCount

/-- Whether a spare or relayout is already under way for a member. -/
def State.spareAsked (s : State) (g : Fin 8) (m : Fin 9) : Bool :=
  s.spr.requests.any (fun r => r.grp == g && r.mem == m) || s.spr.queue.any (fun q => q.1 == g && q.2.mem == m) ||
    (match s.spr.rly[g] with | some r => r.mem == m | none => false)

/-- A request for a spare: granted at once when automatic and a spare is free, else it waits (R262); in HOLD-UP no spare is attached
(R335). -/
def State.requestSpare (s : State) (g : Fin 8) (m : Fin 9) (evac : Bool) : State :=
  let wait : State := { s with spr := { s.spr with requests := s.spr.requests ++ [{ grp := g, mem := m, evac := evac }] } }
  if s.policyAuto g && s.mode.mode != .holdUp then
    match s.chooseSpare g m with
    | some c => s.grantSpare g m evac c
    | none => wait
  else wait

/-- Requests granted in order when a slice has become SPARE_FREE (R262). -/
def State.serveRequests (s : State) : State :=
  s.spr.requests.foldl (fun s r =>
    if s.policyAuto r.grp then
      match s.chooseSpare r.grp r.mem with
      | some c => ({ s with spr := { s.spr with requests := s.spr.requests.erase r } }).grantSpare r.grp r.mem r.evac c
      | none => s
    else s) s

/-- A slice starts to refresh on a timeline of its own, whose origin is now (R505). -/
def State.ownLine (s : State) (c : Fin 80) : State := s.modSched c fun x => { x with origin := s.tb, nextCyc := false }

/-- A slice becomes SPARE_FREE; where it refreshes on a timeline of its own already, that goes on (R505). -/
def State.freeSlice (s : State) (c : Fin 80) : State :=
  let s := s.modHealth c fun h => { h with role := roleSpareFree, mem := none }
  ({ s with spr := { s.spr with low := decide (s.freeSpares.length < min 8 (s.cfgField pageSpr 0x040 23 20)) } }).serveRequests

/-! ### Feasibility triggers -/

/-- A trigger of the feasibility check (R168): one check runs, and a trigger while it runs starts one further check. -/
def State.feasTrigger (s : State) : State :=
  if s.shr.busy then { s with shr := { s.shr with again := true } } else { s with shr := { s.shr with busy := true } }

/-- Reads of some hub stop being guaranteed (R167). -/
def State.voidGuarantees (s : State) (pick : Req → Bool) : State :=
  { s with reqs := s.reqs.map fun r => if pick r then { r with guaranteed := false } else r }

/-- A reduction of D that the block detects at some hubs (R173): it has taken effect, a check is triggered, and until the result of that
check applies no read of those hubs is a guaranteed read. -/
def State.detectCut (s : State) (hubs : BitVec 8) : State :=
  let q := s.shr
  let s := { s with shr := if q.busy then { q with cutNext := q.cutNext ||| hubs } else { q with cutHubs := q.cutHubs ||| hubs } }
  (s.voidGuarantees fun r => hubs.getLsbD r.hub.val).feasTrigger

/-- Whether a detected reduction of a hub still waits for its check to apply (R173). -/
def State.cutOpen (s : State) (g : Fin 8) : Bool :=
  (s.shr.cutHubs ||| s.shr.cutNext ||| (match s.shr.nextShed with | some r => r.hubs | none => 0)).getLsbD g.val

/-! ### Declaring a slice failed -/

/-- Queued relayouts of a member dropped. -/
def State.dropQueued (s : State) (g : Fin 8) (m : Fin 9) : State :=
  { s with spr := { s.spr with queue := s.spr.queue.filter fun q => !(q.1 == g && q.2.mem == m) } }

/-- A queued relayout of a member that has lost its slice becomes a rebuild onto the spare that is reserved for it. -/
def State.queuedToRebuild (s : State) (g : Fin 8) (m : Fin 9) : State :=
  { s with spr := { s.spr with queue := s.spr.queue.map fun q => if q.1 == g && q.2.mem == m then (q.1, { q.2 with kind := .rebuild, src := none }) else q } }

/-- Whether a relayout of a member is queued. -/
def State.hasQueued (s : State) (g : Fin 8) (m : Fin 9) : Bool := s.spr.queue.any fun q => q.1 == g && q.2.mem == m

/-- A member ABSENT: its losses, its route entry, and a request for a spare where none is reserved (R261, R274). A member that
leaves for a retrain asks for none, gives a reserved one back, and its hub's stale map starts empty (R245, R268). -/
def State.memberAbsent (s : State) (g : Fin 8) (m : Fin 9) (retrain : Bool) : State :=
  let s := s.lossOnFail g m 0
  let s := s.setMember g m { st := .absent, slice := (s.member g m).slice, retrain := retrain }
  let s := s.stageRoute g m { slice := s.hubs[g].nextTable[m].slice, absent := true }
  if retrain then
    let back := (s.spr.queue.filter fun q => q.1 == g && q.2.mem == m).map fun q => q.2.dst
    let s := s.modHub g fun h => { h with stale := [], staleLost := false }
    back.foldl State.freeSlice ((s.dropQueued g m).ownLine (s.member g m).slice)
  else if s.hasQueued g m then s.queuedToRebuild g m
  else if s.spr.requests.any fun r => r.grp == g && r.mem == m then
    { s with spr := { s.spr with requests := s.spr.requests.map fun r => if r.grp == g && r.mem == m then { r with evac := false } else r } }
  else s.requestSpare g m false

/-- Whether the error level of a slice that serves a member calls for its evacuation (R259, R260). -/
def State.evacDue (s : State) (g : Fin 8) (m : Fin 9) (c : Fin 80) : Bool :=
  let evac := s.cfgField (pageCh c) 0x0C0 31 24
  evac != 0 && decide (evac ≤ s.slices[c].health.errLevel) && s.cfgBit pageSpr 0x040 8 && (s.member g m).slice == c &&
    !s.otherUnreachable g m

/-- What becomes of a member, and of its relayout, when slice c stops serving it (R256, R261, R274). -/
def State.memberFails (s : State) (g : Fin 8) (m : Fin 9) (c : Fin 80) (retrain : Bool) : State :=
  let x := s.member g m
  let running := match s.spr.rly[g] with
    | some r => if r.mem = m then some r else none
    | none => none
  match running with
  | some r =>
    match r.kind with
    | .rebuild | .resync => ((s.setRly g none).modHub g fun h => { h with cut := h.cut ||| (1#9 <<< m.val) }).memberAbsent g m retrain
    | _ =>
      if c = r.dst then
        -- the destination fails: HEALTHY on the source, whose evacuation is requested again if its level still calls for it
        let src := r.src.getD x.slice
        let s := (s.setRly g none).setMember g m { st := .healthy, slice := src, retrain := false }
        let s := (s.stageRoute g m { slice := src, absent := false }).modHub g fun h => { h with cut := h.cut ||| (1#9 <<< m.val) }
        if s.evacDue g m src then s.requestSpare g m true else s
      else
        -- the source fails: REBUILDING onto the destination, from the boundary
        let s := s.setRly g (some { r with kind := .rebuild, src := none })
        let s := s.setMember g m { st := .rebuilding, slice := r.dst, retrain := false }
        let s := (s.modHealth r.dst fun h => { h with role := roleAttached }).stageRoute g m { slice := r.dst, absent := false }
        s.lossOnFail g m r.bound
  | none =>
    if x.slice = c then s.memberAbsent g m retrain
    else
      -- a reserved spare fails before its relayout starts
      let s := s.dropQueued g m
      if x.st = .absent ∧ x.retrain = false then s.requestSpare g m false else s

/-- A slice declared failed with a cause (R258, R261). A slice already FAILED, or never in use, is not declared again. -/
def State.declareFailed (s : State) (c : Fin 80) (cause : BitVec 4) : State :=
  let h := s.slices[c].health
  if h.role = roleFailed ∨ h.role = roleUnused ∨ h.role = roleUnavailable then s
  else
    let s := s.modHealth c fun h => { h with role := if cause = 7 ∧ h.inService = false then roleUnavailable else roleFailed, cause := cause, failTime := s.tb, cmdReset := false }
    let s := { s with spr := { s.spr with failCnt := satInc s.spr.failCnt } }
    let s := s.raise pageSpr 0
    let s := if cause = 7 then s else s.logError { cls := clsRcv, page := pageCh c, code := 0x0010, detail := cause.setWidth 64 }
    let s := s.setFence c true
    let s := match h.mem with
      | some m => s.memberFails h.grp m c false
      | none => s
    let s := if h.role = roleSpareFree then s.noteSpareCount else s
    s.followMembers.detectCut (if h.mem.isSome then 1#8 <<< h.grp.val else 0)

/-- The evacuation of a member requested once (R259, R269). -/
def State.requestEvac (s : State) (g : Fin 8) (m : Fin 9) : State :=
  if s.spareAsked g m || (s.member g m).st != .healthy then s else s.requestSpare g m true

/-- Acts on the error level of a slice (R259, R260). -/
def State.actOnLevel (s : State) (c : Fin 80) : State :=
  let h := s.slices[c].health
  let lim := max 1 (s.cfgField (pageCh c) 0x0C0 23 16)
  match h.mem with
  | some m =>
    if h.role ≠ roleHome ∧ h.role ≠ roleAttached then s
    else if s.otherUnreachable h.grp m then s
    else if lim ≤ h.errLevel then s.declareFailed c 2
    else if s.evacDue h.grp m c then s.requestEvac h.grp m
    else s
  | none => if lim ≤ h.errLevel then s.declareFailed c 2 else s

/-- Levels acted on once a group has no unreachable member (R260). -/
def State.recheckLevels (s : State) (g : Fin 8) : State :=
  allMembers.foldl (fun s m => s.actOnLevel (s.member g m).slice) s

/-- One persistent mismatch of a slice (R259). -/
def State.countMismatch (s : State) (c : Fin 80) : State :=
  let s := s.modHealth c fun h => { h with errLevel := min 255 (h.errLevel + 1), mismatch := satInc h.mismatch }
  s.actOnLevel c

/-- A FAILED slice that has answered becomes QUARANTINE (R279). -/
def State.quarantine (s : State) (c : Fin 80) : State :=
  if s.role c = roleFailed then
    ((s.modHealth c fun h => { h with role := roleQuarantine, mem := none, tested := false, retrained := false }).ownLine c).raise pageSpr 2
  else s

end Sys2Proof.Machine
end

