-- ==== Sys2Proof/Machine/LedgerOps.lean ====
section
/-!
DEFINITION. Requests in flight, and the ledger's decisions on them: entries with their SECDED code (R99, R117), group and
solo tables (R100, R108), resolution of reads (R111) and of writes (R105 to R110), and arrival at a hub node (R148).
-/
namespace Sys2Proof.Machine

/-! ### Opcodes and response codes (R39, R53) -/

def opcRead : BitVec 4 := 0x0
def opcWrite : BitVec 4 := 0x1
def opcXor : BitVec 4 := 0x2
def opcFill : BitVec 4 := 0x3
def opcOpen : BitVec 4 := 0x8
def opcCommit : BitVec 4 := 0x9
def opcAbort : BitVec 4 := 0xA
def opcBarrier : BitVec 4 := 0xC
def rspOk : BitVec 4 := 0x0
def rspPoison : BitVec 4 := 0x1
def rspConflict : BitVec 4 := 0x2
def rspDenied : BitVec 4 := 0x3
def rspLedgerFull : BitVec 4 := 0x4
def rspExhausted : BitVec 4 := 0x5
def rspDown : BitVec 4 := 0x6
def rspAborted : BitVec 4 := 0x7
def rspPiError : BitVec 4 := 0x8

/-- Whether an opcode stores lines. -/
def isWriteOp (op : BitVec 4) : Bool := op == opcWrite || op == opcXor || op == opcFill

/-- Source numbers of R127. -/
def srcDebug : BitVec 5 := 0x18
def srcVane : BitVec 5 := 0x19

/-! ### Requests in flight -/

/-- The request with an internal number. -/
def State.req (s : State) (rid : Nat) : Option Req := s.reqs.find? fun r => r.rid == rid

/-- One request changed. -/
def State.modReq (s : State) (rid : Nat) (f : Req → Req) : State :=
  { s with reqs := s.reqs.map fun r => if r.rid = rid then f r else r }

/-- Every request changed. -/
def State.mapReqs (s : State) (f : Req → Req) : State := { s with reqs := s.reqs.map f }

/-- The path flags of a sample record, by their bit in byte 11 (R450). -/
def flagRecon : Nat := 1
def flagRefWait : Nat := 2
def flagRetry : Nat := 3
def flagBackoff : Nat := 4
def flagFwd : Nat := 5
def flagMerge : Nat := 6
def flagJwait : Nat := 7

/-- A path flag of a request set (R450). -/
def State.flagReq (s : State) (rid bit : Nat) : State := s.modReq rid fun r => { r with flags := r.flags ||| (1#8 <<< bit) }

/-- One request removed. -/
def State.dropReq (s : State) (rid : Nat) : State := { s with reqs := s.reqs.filter fun r => r.rid != rid }

/-- Whether a request is complete inside the block. -/
def Req.isDone (r : Req) : Bool :=
  match r.phase with
  | .done _ => true
  | _ => false

/-- A request completes inside the block with a code (R50); with another code than OK and POISON it has no read-data beats (R51). -/
def State.finishReq (s : State) (rid : Nat) (code : BitVec 4) : State :=
  s.modReq rid fun r => { r with phase := .done code, out := if code = rspOk ∨ code = rspPoison then r.out else [] }

/-- Bytes of the first line of a request. -/
def Req.byteAddr (r : Req) : Nat := r.addr.toNat * 64

/-- Lines of a request. -/
def Req.lines (r : Req) : Nat := r.len.toNat + 1

/-- Write-data beats a request carries (R37, R48). -/
def beatsOf (op : BitVec 4) (len : BitVec 6) (pi : BitVec 2) : Nat :=
  if op = opcWrite then len.toNat + 1 + (if pi = 1 then 1 else 0)
  else if op = opcXor then len.toNat + 1
  else 0

/-- The lines a request stores, before any merge. -/
def Req.storeLines (r : Req) : List LineOp :=
  if r.op = opcFill then
    (List.range r.lines).map fun i =>
      { addr := r.addr + BitVec.ofNat 34 i, index := i, data := wordOf 512 ((List.replicate 8 (bytesOf r.aux 8)).flatten), be := BitVec.allOnes 64, poison := false }
  else
    (r.beats.take r.lines).zipIdx.map fun b =>
      { addr := r.addr + BitVec.ofNat 34 b.2, index := b.2, data := b.1.data, be := b.1.be, poison := false }

/-- The lines a READ returns. -/
def Req.readLines (r : Req) : List LineOp :=
  (List.range r.lines).map fun i => { addr := r.addr + BitVec.ofNat 34 i, index := i, data := 0, be := 0, poison := false }

/-! ### Protection information (R56, R57) -/

/-- Protection-block size of a port. -/
def State.piSize (s : State) (src : BitVec 5) : Nat := if s.cfgBit (0x10 + src.toNat) 0x040 1 then 4096 else 512

/-- Port address of the tuple of the block at address `a`. -/
def State.tupleAddr (s : State) (src : BitVec 5) (a : Nat) : Nat := s.cfgPair (0x10 + src.toNat) 0x058 + a / s.piSize src * 8

/-- Protection blocks of a request. -/
def State.piBlocks (s : State) (r : Req) : Nat := r.lines * 64 / s.piSize r.src

/-! ### Ledger entries (R99) -/

/-- The fields of a ledger entry. -/
structure LEntry where
  pmask : BitVec 64
  owner : Nat
  st    : Nat
  cslot : Bool
  deriving DecidableEq, Repr

/-- An entry as 96 bits with its ECC. -/
def LEntry.pack (e : LEntry) : BitVec 96 :=
  let low := e.pmask.toNat + (e.owner % 4096) * 2 ^ 64 + (e.st % 4) * 2 ^ 76 + (if e.cslot then 2 ^ 78 else 0)
  BitVec.ofNat 96 (low + (secdedEcc 88 low).toNat * 2 ^ 88)

/-- The fields of 96 bits. -/
def unpackEntry (v : BitVec 96) : LEntry :=
  { pmask := v.extractLsb' 0 64, owner := (v.extractLsb' 64 12).toNat, st := (v.extractLsb' 76 2).toNat, cslot := v.getLsbD 78 }

/-- States of an entry. -/
def entClean : Nat := 0
def entOwned : Nat := 1
def entSolo : Nat := 2
def entPoisoned : Nat := 3

/-- The stored entry of a granule. -/
def State.rawEntry (s : State) (i : Nat) : BitVec 96 := (getKey s.ledger.entries i).getD s.ledger.fill

/-- Its fields. -/
def State.entry (s : State) (i : Nat) : LEntry := unpackEntry (s.rawEntry i)

/-- An entry stored raw; an entry equal to the fill is not listed. -/
def State.setRawEntry (s : State) (i : Nat) (v : BitVec 96) : State :=
  { s with ledger := { s.ledger with entries := if v = s.ledger.fill then dropKey s.ledger.entries i else setKey s.ledger.entries i v } }

/-- An entry stored with fresh ECC. -/
def State.setEntry (s : State) (i : Nat) (e : LEntry) : State := s.setRawEntry i e.pack

/-- A CLEAN entry (R99). -/
def cleanEntry (cslot : Bool) : LEntry := { pmask := 0, owner := 0, st := entClean, cslot := cslot }

/-- The half of a granule (R99). -/
def halfOf (i : Nat) : Fin 2 := ⟨i % 2, by omega⟩

/-! ### Groups and solos -/

/-- A FREE group. -/
def freeGroup : GroupRec := { st := .free, entries := 0, inflight := 0 }

/-- A group's record. -/
def State.group (s : State) (gid : Nat) : GroupRec := (getKey s.ledger.groups gid).getD freeGroup

/-- A group's record set; a FREE group is not listed. -/
def State.setGroup (s : State) (gid : Nat) (x : GroupRec) : State :=
  { s with ledger := { s.ledger with groups := if x = freeGroup then dropKey s.ledger.groups gid else setKey s.ledger.groups gid x } }

/-- An unswept group with no entry left is FREE (R100); writes of it that the slices have not acknowledged stay counted. -/
def GroupRec.settle (x : GroupRec) : GroupRec :=
  if (x.st = .committed ∨ x.st = .aborted) ∧ x.entries = 0 then { freeGroup with inflight := x.inflight } else x

/-- One entry fewer for a group (R114, R117). -/
def State.groupLosesEntry (s : State) (gid : Nat) : State :=
  let x := s.group gid
  s.setGroup gid { x with entries := x.entries - 1 }.settle

/-- A solo slot. -/
def State.solo (s : State) (slot : Nat) : Option Solo := getKey s.ledger.solos slot

/-- A solo slot freed. -/
def State.freeSolo (s : State) (slot : Nat) : State :=
  { s with ledger := { s.ledger with solos := dropKey s.ledger.solos slot } }

/-- The solo of a slot rolled back: its entry CLEAN, CSLOT unchanged, its slot freed. -/
def State.rollSolo (s : State) (slot : Nat) (x : Solo) : State :=
  let e := s.entry x.granule
  let s := if e.st = entSolo ∧ e.owner = slot then s.setEntry x.granule (cleanEntry e.cslot) else s
  s.freeSolo slot

/-- The lowest free solo slot; which free slot a solo takes is the model's choice (DESIGN CHOICE, assumption 85). -/
def State.soloSlot (s : State) : Option Nat := (List.range 256).find? fun k => (s.solo k).isNone

/-! ### ECC of an entry (R117) -/

/-- One more corrected or poisoned entry in a half. -/
def bumpHalf (l : Ledger) (half : Fin 2) (uc : Bool) : Ledger :=
  if uc then (if half = 0 then { l with uc0 := satInc l.uc0 } else { l with uc1 := satInc l.uc1 })
  else (if half = 0 then { l with ce0 := satInc l.ce0 } else { l with ce1 := satInc l.ce1 })

/-- What a double-bit error does: the entry POISONED, its owner one entry fewer, a done solo's slot freed (R117). -/
def State.poisonEntry (s : State) (i : Nat) : State :=
  let e := s.entry i
  let s := s.setEntry i { pmask := 0, owner := 0, st := entPoisoned, cslot := false }
  let s := if e.st = entOwned then s.groupLosesEntry e.owner
    else if e.st = entSolo then
      (match s.solo e.owner with
       | some x => if x.done then s.freeSolo e.owner else s
       | none => s)
    else s
  let s := { s with ledger := bumpHalf s.ledger (halfOf i) true }
  let s := s.raise (pageLdg (halfOf i)) 0
  s.logError { cls := clsUc, page := pageLdg (halfOf i), code := 0x0031, detail := BitVec.ofNat 64 i }

/-- A read of an entry whose stored bits meet the error mask `ecc`: clean, corrected and written back, or POISONED. -/
def State.readEntry (s : State) (i : Nat) (ecc : BitVec 96) : State :=
  let raw := s.rawEntry i ^^^ ecc
  match secdedCheck 88 (raw.toNat % 2 ^ 88) (raw.extractLsb' 88 8) with
  | .clean => s
  | .corrected d =>
    let s := s.setRawEntry i (BitVec.ofNat 96 (d + (secdedEcc 88 d).toNat * 2 ^ 88))
    let s := { s with ledger := bumpHalf s.ledger (halfOf i) false }
    s.logError { cls := clsCe, page := pageLdg (halfOf i), code := 0x0030, detail := BitVec.ofNat 64 i }
  | .uncorrectable => s.poisonEntry i

/-! ### Errors of the group and solo tables (R119) -/

/-- An uncorrectable error met in reading a record of the group table or of the solo table: FATAL (R119, R423). The step that met it
does nothing else. -/
def State.tableError (s : State) (solo : Bool) (k : Nat) : State :=
  s.logError { cls := clsFatal, page := pageLdg 0, code := 0x0032, detail := BitVec.ofNat 64 (k % 4096 + (if solo then 4096 else 0)) }

/-! ### Reads in the window (R105, R111) -/

/-- Whether a read of a unit resolves to P. -/
def State.readsPending (s : State) (e : LEntry) (u : Nat) (gv : Bool) (gid : BitVec 12) : Bool :=
  if e.st = entOwned then
    match (s.group e.owner).st with
    | .committed => e.pmask.getLsbD u
    | .open_ => gv && gid.toNat == e.owner && e.pmask.getLsbD u
    | _ => false
  else if e.st = entSolo then
    match s.solo e.owner with
    | some x => x.done && e.pmask.getLsbD u
    | none => false
  else false

/-- The resolved address of a window byte for a read. -/
def State.readAddr (s : State) (a : Nat) (gv : Bool) (gid : BitVec 12) : Nat :=
  let e := s.entry (s.granuleOf a)
  s.slotAddr (e.cslot != s.readsPending e (s.unitOf a) gv gid) a

/-- Whether a read must wait for a merge of its unit (R106). -/
def State.mergeOpen (s : State) (a : Nat) (gv : Bool) (gid : BitVec 12) : Bool :=
  let i := s.granuleOf a
  s.readsPending (s.entry i) (s.unitOf a) gv gid && s.ledger.merges.any fun x => x.1 == i && x.2.1 == s.unitOf a

/-- Whether a read holds a granule: resolved, with data still to come (R110). -/
def State.readHolds (s : State) (i : Nat) : Bool :=
  s.reqs.any fun r => r.readGrans.contains i && !r.isDone

/-- Whether a write that the ledger decided on a granule has still to be acknowledged by the slices (R104, R107). -/
def State.writesInFlight (s : State) (i : Nat) : Bool :=
  s.reqs.any fun r => !r.isDone && r.decisions.any fun d => d.granule == i

/-- Whether an entry may be neither resolved nor claimed anew: a read holds its granule (R110), or a write decided on it is in
flight, which would land in a slot that a later owner has (R104, assumption 31). -/
def State.granuleBusy (s : State) (i : Nat) : Bool := s.readHolds i || s.writesInFlight i

/-- Whether a claim on a granule is provisional: its write has not passed its PI check (R107). -/
def State.provisional (s : State) (i : Nat) : Bool :=
  s.reqs.any fun r => r.phase == .waiting && r.op == opcWrite && r.pi == 1 && r.decisions.any fun d => d.granule == i

/-! ### Writes in the window (R105 to R109) -/

/-- What the ledger finds at one granule for a write. -/
inductive GrantCheck where
  | ok
  | wait
  | demand
  | refuse (code : BitVec 4)
  deriving DecidableEq, Repr

/-- The entry of a granule against a write (R105). -/
def State.granuleCheck (s : State) (i : Nat) (gv : Bool) (gid : BitVec 12) : GrantCheck :=
  let e := s.entry i
  if e.st = entClean then (if s.granuleBusy i then .wait else .ok)
  else if e.st = entOwned then
    if gv ∧ gid.toNat = e.owner then (if s.provisional i then .wait else .ok)
    else match (s.group e.owner).st with
      | .open_ | .committing => .refuse rspConflict
      | _ => .demand
  else if e.st = entSolo then
    match s.solo e.owner with
    | some x => if x.done then .demand else .wait
    | none => .wait
  else .refuse rspLedgerFull

/-- Granules a write claims, with the units it touches: its own, and its tuples' when they lie in the window (R107). -/
def State.claims (s : State) (r : Req) : List (Nat × List Nat) :=
  let units (a n : Nat) : List Nat := ((List.range n).map fun k => s.unitOf (a + 64 * k)).eraseDups
  let own := if s.inWindow r.byteAddr then [(s.granuleOf r.byteAddr, units r.byteAddr r.lines)] else []
  let ta := s.tupleAddr r.src r.byteAddr
  let tup := if r.op = opcWrite ∧ r.pi = 1 ∧ s.inWindow ta then [(s.granuleOf ta, units ta 1)] else []
  match own, tup with
  | [(i, us)], [(j, vs)] => if i = j then [(i, (us ++ vs).eraseDups)] else [(i, us), (j, vs)]
  | a, b => a ++ b

/-- A claim made: the entry owned by the group or by a fresh solo slot, its pending mask widened (R106 to R108). -/
def State.claim (s : State) (rid : Nat) (gv : Bool) (gid : BitVec 12) (i : Nat) (units : List Nat) : State :=
  let e := s.entry i
  let before := s.rawEntry i
  let mask := e.pmask ||| maskOf 64 fun u => units.contains u
  if gv then
    let g := s.group gid.toNat
    let s := s.setGroup gid.toNat { g with entries := if e.st = entOwned then g.entries else g.entries + 1 }
    let s := s.setEntry i { pmask := mask, owner := gid.toNat, st := entOwned, cslot := e.cslot }
    s.modReq rid fun r => { r with decisions := r.decisions ++ [{ granule := i, solo := false, owner := gid.toNat, before := before }] }
  else
    match s.soloSlot with
    | some k =>
      let s := { s with ledger := { s.ledger with solos := setKey s.ledger.solos k { granule := i, done := false, order := s.ledger.soloOrder }, soloOrder := s.ledger.soloOrder + 1 } }
      let s := s.setEntry i { pmask := mask, owner := k, st := entSolo, cslot := e.cslot }
      s.modReq rid fun r => { r with decisions := r.decisions ++ [{ granule := i, solo := true, owner := k, before := before }] }
    | none => s

/-- LEDGER_FULL: counted, and EXHAUST where it is exhaustion (R109, R119). -/
def State.ledgerFull (s : State) (rid : Nat) (exhaust : Bool) : State :=
  let s := { s with ledger := { s.ledger with fullCnt := satInc s.ledger.fullCnt } }
  (s.raiseIf exhaust (pageLdg 0) 1).finishReq rid rspLedgerFull

/-- CONFLICT: counted (R105). -/
def State.ledgerConflict (s : State) (rid : Nat) : State :=
  let s := { s with ledger := { s.ledger with conflictCnt := satInc s.ledger.conflictCnt } }
  (s.telSys 0x0D none 1).finishReq rid rspConflict

/-- A request waits in the ledger, in the order in which waiting began (R108). -/
def State.waitLedger (s : State) (rid : Nat) : State :=
  ({ s with ids := s.ids + 1 }).modReq rid fun r => { r with phase := .ledger, ledgerAt := if r.ledgerAt = 0 then s.ids else r.ledgerAt }

/-- Demand slots of a half in use (R109). -/
def State.demandBusy (s : State) (half : Fin 2) : Nat := (s.ledger.demand.filter fun d => d.1 == half.val).length

/-- A demand slot taken for a granule, or LEDGER_FULL (R109). -/
def State.askDemand (s : State) (rid i : Nat) : State :=
  let s := s.flagReq rid flagMerge
  if s.ledger.demand.any fun d => d.2.1 == i then s.waitLedger rid
  else if 16 ≤ s.demandBusy (halfOf i) then s.ledgerFull rid true
  else ({ s with ledger := { s.ledger with demand := s.ledger.demand ++ [((halfOf i).val, i, rid)] } }).waitLedger rid

/-! ### Classes, levels and slots (R132, R133, R160 to R162) -/

/-- Class configuration fields (R160). -/
def State.clsTarget (s : State) (c : Nat) : Nat := s.cfgField pageShr (0x080 + 16 * c) 15 0
def State.clsShare (s : State) (c : Nat) : Nat := min 64 (s.cfgField pageShr (0x080 + 16 * c) 22 16)
def State.clsWatch (s : State) (c : Nat) : Bool := s.cfgBit pageShr (0x080 + 16 * c) 26
def State.clsTgtEn (s : State) (c : Nat) : Bool := s.cfgBit pageShr (0x080 + 16 * c) 27
def State.clsBase (s : State) (c : Nat) : Nat := s.cfgField pageShr (0x080 + 16 * c) 31 28

/-- A class that is guaranteed and not shed: its share is reserved (R162). In the safe state of SHR every class is shed. -/
def State.clsReserved (s : State) (c : Nat) : Bool := s.clsTgtEn c && !s.shr.shed.getLsbD c && !s.parity pageShr

/-- Whether a source is a requester port. -/
def isPortSrc (src : BitVec 5) : Bool := decide (src.toNat < 16)

/-- The current Tailwind boost of a class (R165). -/
def State.clsBoost (s : State) (c : Nat) : Nat :=
  if s.parity pageShr then 0 else (s.shr.classes[c]?.getD ClassSt.reset).boost.toNat

/-- The current level of a request (R132): 0 for the copies of a relayout, the only requests that a vane makes here. -/
def State.level (s : State) (r : Req) : Nat :=
  if isPortSrc r.src then (if s.clsReserved r.cls.toNat || decide (0 < s.clsBoost r.cls.toNat) then 2 else 1)
  else if r.src = srcDebug then 3 else if r.src = srcVane then 0 else 1

/-- The current effective priority of a request (R133). -/
def State.effPrio (s : State) (r : Req) : Nat :=
  if isPortSrc r.src then min 15 (s.clsBase r.cls.toNat + s.clsBoost r.cls.toNat)
  else if r.src = srcDebug ∨ r.src = srcVane then 0 else s.cfgField pageArb 0x040 31 28

/-- Lines of a request at its hub; a relayout copy is one strip. -/
def Req.slots (r : Req) : Nat := if r.src = srcVane then 1 else r.ops.length

/-- Whether a request holds queue slots: admitted, with member operations to come. -/
def Req.holdsSlots (r : Req) : Bool := r.phase == .admitted && decide (0 < r.jobs)

/-- Reserve occupancy of a hub: ingest, debug and vane requests, and the zero fill of V19, which is at level 0 (R161, R200). -/
def State.occReserve (s : State) (h : Fin 8) : Nat :=
  (s.reqs.filter fun r => r.holdsSlots && r.hub == h && !isPortSrc r.src).foldl (fun n r => n + r.slots) 0 +
    8 * (s.hubs[h].jobs.filter fun j => j.kind == JobKind.zero && j.level == 0).length

/-! ### Arrival at the hub node (R148) -/

/-- A request placed at the hub of its first line; DOWN when the map has none (R181). -/
def State.placeReq (s : State) (rid : Nat) (ops : List LineOp) (p : Option Place) : State :=
  match p with
  | none => s.finishReq rid rspDown
  | some p => s.modReq rid fun r => { r with phase := .waiting, hub := p.g, stamp := s.hubs[p.g].tick, tStamp := s.tb, refusals := 0, backoff := none, seen := false, ops := ops, entryLvl := BitVec.ofNat 2 (s.level r), entryEp := BitVec.ofNat 4 (s.effPrio r) }

/-- A request arrives at the node of its hub and is stamped. -/
def State.arriveHub (s : State) (rid : Nat) (ops : List LineOp) : State :=
  match ops with
  | [] => s.finishReq rid rspOk
  | o :: _ => s.placeReq rid ops (s.mapAddr (o.addr.toNat * 64))

/-- Addresses of a write's lines in P, for a granule it has claimed (R105, R106). -/
def State.pendingOps (s : State) (ops : List LineOp) : List LineOp :=
  ops.map fun o =>
    let a := o.addr.toNat * 64
    if s.inWindow a then { o with addr := BitVec.ofNat 34 (s.slotAddr (!(s.entry (s.granuleOf a)).cslot) a / 64) } else o

/-- The tuple line of a request with PI, resolved for its use; none for a request without PI, and for tuples in a POISONED
granule, which cannot be read. -/
def State.tupleLine (s : State) (r : Req) : Option Nat :=
  if r.pi = 0 then none
  else
    let a := s.tupleAddr r.src r.byteAddr / 64 * 64
    if s.inWindow a then
      if (s.entry (s.granuleOf a)).st = entPoisoned then none
      else some (if r.op = opcWrite then s.slotAddr (!(s.entry (s.granuleOf a)).cslot) a else s.readAddr a r.gv r.gid)
    else some a

/-- The units of a claim that are new in the pending mask and not written whole: they must be merged (R106). -/
def State.mergeUnits (s : State) (r : Req) (i : Nat) (before : LEntry) (units : List Nat) : List Nat :=
  let u0 := s.granule / 64
  units.filter fun u =>
    !before.pmask.getLsbD u &&
      !((List.range (u0 / 64)).all fun k =>
        let la := (s.winBase + i * s.granule + u * u0) / 64 + k
        r.op != opcXor && r.storeLines.any fun o => o.addr.toNat == la && o.be == BitVec.allOnes 64)

/-- A decided write goes to its hub: INFLIGHT counted, merges noted, addresses in P (R106, R107). -/
def State.decidedWrite (s : State) (rid : Nat) (r : Req) (cl : List (Nat × List Nat)) : State :=
  let before := cl.map fun c => (c.1, s.entry c.1, c.2)
  let s := cl.foldl (fun s c => s.claim rid r.gv r.gid c.1 c.2) s
  let s := if r.gv then
      let g := s.group r.gid.toNat
      s.setGroup r.gid.toNat { g with inflight := g.inflight + 1 }
    else s
  let ms := before.flatMap fun b => (s.mergeUnits r b.1 b.2.1 b.2.2).map fun u => (b.1, u, rid)
  let s := { s with ledger := { s.ledger with merges := s.ledger.merges ++ ms } }
  let s := s.modReq rid fun r => { r with ledgered := true, tuple := s.tupleLine r }
  s.arriveHub rid (s.pendingOps r.storeLines)

/-- Whether a window write is ABORTED before its entry is consulted: its group is not OPEN, or it names none after the freeze
(R105, R120). -/
def State.turnedAway (s : State) (r : Req) : Bool :=
  if r.gv then (s.group r.gid.toNat).st != .open_ else s.ledger.frozen

/-- Whether a decision on a write's granules waits for nothing but solo slots (R108). -/
def State.wantsSlots (s : State) (r : Req) : Bool :=
  r.phase == .ledger && isWriteOp r.op && !r.gv &&
    (s.claims r).all fun c => s.granuleCheck c.1 r.gv r.gid == .ok

/-- Whether an ungrouped write finds no solo slots: too few are free, or an older write waits for them (R108). -/
def State.lacksSlots (s : State) (rid : Nat) (r : Req) (n : Nat) : Bool :=
  !r.gv && (decide (256 < s.ledger.solos.length + n) ||
    s.reqs.any fun q => q.rid != rid && (r.ledgerAt == 0 || decide (q.ledgerAt < r.ledgerAt)) && s.wantsSlots q)

/-- The ledger decides a window write (R105 to R109, R119, R120). -/
def State.decideWrite (s : State) (rid : Nat) (r : Req) : State :=
  let cl := s.claims r
  let checks := cl.map fun c => (c.1, s.granuleCheck c.1 r.gv r.gid)
  if s.turnedAway r then s.finishReq rid rspAborted
  else if checks.any fun c => c.2 == .refuse rspConflict then s.ledgerConflict rid
  else if s.ledger.cfgHold then s.ledgerFull rid false
  else if checks.any fun c => c.2 == .refuse rspLedgerFull then s.ledgerFull rid true
  else match checks.find? fun c => c.2 == .demand with
    | some c => s.askDemand rid c.1
    | none =>
      if (checks.any fun c => c.2 == .wait) || s.lacksSlots rid r cl.length then s.waitLedger rid
      else s.decidedWrite rid r cl

/-- The granule of a request's tuples, when they lie in the window. -/
def State.tupleGran (s : State) (r : Req) : Option Nat :=
  if (r.op = opcRead ∧ r.pi ≠ 0) ∨ (r.op = opcWrite ∧ r.pi = 1) then
    let a := s.tupleAddr r.src r.byteAddr
    if s.inWindow a then some (s.granuleOf a) else none
  else none

/-- The granules whose entries a request's decision reads: that of its lines, and that of its tuples (R107, R111). -/
def State.granules (s : State) (r : Req) : List Nat :=
  ((if s.inWindow r.byteAddr then [s.granuleOf r.byteAddr] else []) ++ (s.tupleGran r).toList).eraseDups

/-- Whether a read waits for an open merge: of a unit of its lines, or of the unit of its tuples (R106, R111). -/
def State.readWaits (s : State) (r : Req) : Bool :=
  (r.readLines.any fun o => s.inWindow (o.addr.toNat * 64) && s.mergeOpen (o.addr.toNat * 64) r.gv r.gid) ||
    ((s.tupleGran r).isSome && s.mergeOpen (s.tupleAddr r.src r.byteAddr) r.gv r.gid)

/-- A READ of a POISONED granule: every beat poisoned, with the PI beat of PI = 01, whose tuples are read where they can be (R39,
R57, R105). -/
def State.readPoisoned (s : State) (rid : Nat) (r : Req) : State :=
  let s := s.modReq rid fun r => { r with out := (List.range r.lines).map fun k => (k, (0 : Line), true) }
  if r.pi ≠ 1 then s.finishReq rid rspPoison
  else
    match s.tupleLine r, (s.tupleLine r).bind s.mapAddr with
    | some ta, some p => (s.modReq rid fun r => { r with ledgered := true, readGrans := (s.tupleGran r).toList, tuple := some ta }).placeReq rid [] (some p)
    | _, _ => (s.modReq rid fun r => { r with out := r.out ++ [(r.lines, (0 : Line), true)] }).finishReq rid rspPoison

/-- The ledger resolves a window read (R111): POISON, a wait for a merge, or slot addresses. -/
def State.resolveRead (s : State) (rid : Nat) (r : Req) : State :=
  let windowed := s.inWindow r.byteAddr
  if s.readWaits r then ((s.flagReq rid flagMerge).waitLedger rid).modReq rid fun r => { r with guaranteed := false }
  else if windowed ∧ (s.entry (s.granuleOf r.byteAddr)).st = entPoisoned then s.readPoisoned rid r
  else
    let ops := if windowed then r.readLines.map fun o => { o with addr := BitVec.ofNat 34 (s.readAddr (o.addr.toNat * 64) r.gv r.gid / 64) } else r.readLines
    let s := s.modReq rid fun r => { r with ledgered := true, readGrans := s.granules r, tuple := s.tupleLine r }
    s.arriveHub rid ops

/-- Every entry that a request's decision reads is checked; the error mask meets the first one (R117, assumption 14). -/
def State.checkEntries (s : State) (r : Req) (ecc : BitVec 96) : State :=
  (s.granules r).zipIdx.foldl (fun (s : State) (i : Nat × Nat) => s.readEntry i.1 (if i.2 = 0 then ecc else 0)) s

/-- The record that a request's decision reads first in the group or the solo table: that of its own group, that of the owner of an entry
it meets, or for an ungrouped write that of the solo slot it would take (R105, R108, R111). -/
def State.tableRecord (s : State) (r : Req) : Option (Bool × Nat) :=
  if (s.granules r).isEmpty then none
  else if isWriteOp r.op && r.gv then some (false, r.gid.toNat)
  else match (s.granules r).find? fun i => (s.entry i).st == entOwned || (s.entry i).st == entSolo with
    | some i => some ((s.entry i).st == entSolo, (s.entry i).owner)
    | none => if isWriteOp r.op then some (true, s.soloSlot.getD 0) else none

/-- A request whose record cannot be corrected: FATAL (R119). Nothing is decided, and the request waits in the ledger, where it is taken
again (assumption 83). -/
def State.recordError (s : State) (rid : Nat) (solo : Bool) (k : Nat) : State :=
  ((s.tableError solo k).waitLedger rid).modReq rid fun r => { r with tableUc := false }

/-- A request placed by the time at which its wait in the ledger began. -/
def insertWaiter (r : Req) (l : List Req) : List Req :=
  match l with
  | [] => [r]
  | x :: rest => if r.ledgerAt < x.ledgerAt then r :: x :: rest else x :: insertWaiter r rest

/-- The requests that wait for a decision of the ledger, in the order in which they reached it (R108). -/
def State.waiters (s : State) : List Req := (s.reqs.filter fun r => r.phase == .ledger && decide (r.op.toNat < 4)).foldr insertWaiter []

/-- One waiting request taken again: its entries are read again, and it is decided. -/
def State.retryOne (s : State) (rid : Nat) : State :=
  match s.req rid with
  | some r =>
    if r.phase = .ledger then
      let s := if r.op = opcRead || !s.turnedAway r then s.checkEntries r 0 else s
      if r.op = opcRead then s.resolveRead rid r else s.decideWrite rid r
    else s
  | none => s

/-- Requests that wait in the ledger are taken again, in the order in which they reached it (R108). -/
def State.retryLedger (s : State) : State := s.waiters.foldl (fun (s : State) (r : Req) => s.retryOne r.rid) s

/-- A request that has passed its port reaches the ledger, or its hub when it touches no window (R54 steps 4 to 6). Where an entry
it reads turns out POISONED and frees a solo slot, the oldest waiting write takes that slot before it (R108). -/
def State.toLedger (s : State) (rid : Nat) : State :=
  match s.req rid with
  | none => s
  | some r =>
    match r.verdict with
    | some code => s.finishReq rid code
    | none =>
      let looks := !(s.granules r).isEmpty && (r.op == opcRead || !s.turnedAway r)
      let t := if looks then (s.checkEntries r r.ecc).telSys 0x0B none 1 else s
      let t := if t.ledger.solos.length < s.ledger.solos.length then t.retryLedger else t
      let t := t.modReq rid fun r => { r with ecc := 0 }
      match if r.tableUc then t.tableRecord r else none with
      | some (solo, k) => t.recordError rid solo k
      | none =>
      if (t.granules r).isEmpty then
        (t.modReq rid fun r => { r with tuple := t.tupleLine r }).arriveHub rid (if r.op = opcRead then r.readLines else r.storeLines)
      else if r.op = opcRead then t.resolveRead rid r
      else t.decideWrite rid r

/-- One claim given back: the entry as it was before it, unless it has been set POISONED meanwhile; no other claim was made on it
since, because a claim that is provisional bars others (R107, R117). -/
def State.undoClaim (s : State) (d : Decision) : State :=
  let e := s.entry d.granule
  let mine := e.owner == d.owner && e.st == (if d.solo then entSolo else entOwned)
  let t := if mine then s.setRawEntry d.granule d.before else s
  if d.solo then t.freeSolo d.owner
  else if mine ∧ (unpackEntry d.before).st ≠ entOwned then t.groupLosesEntry d.owner
  else t

/-- A decided write is in flight no more: its group's INFLIGHT falls and its merges are over (R107). -/
def State.dropInflight (s : State) (r : Req) : State :=
  let s := if r.gv ∧ r.decisions ≠ [] then
      let g := s.group r.gid.toNat
      s.setGroup r.gid.toNat { g with inflight := g.inflight - 1 }
    else s
  { s with ledger := { s.ledger with merges := s.ledger.merges.filter fun m => m.2.2 != r.rid } }

/-- A write that failed its PI check: each entry as it was before its claim (R107). -/
def State.undoClaims (s : State) (rid : Nat) : State :=
  match s.req rid with
  | none => s
  | some r => ((r.decisions.foldl State.undoClaim s).dropInflight r).modReq rid fun r => { r with decisions := [] }

end Sys2Proof.Machine
end

