-- ==== Sys2Proof/Machine/HubOps.lean ====
section
/-!
DEFINITION. What a group hub and its slices' queues do: delivery of member operations (R145, R206, R207), the check-line
cache (R220), strips as stored, read-through (R186), the mismatch ladder of R185, the stripe journal (R191, R192), write kinds
and parity (R189, R190, R194), void chunks (R199, R200), and the completion of a request's work.
-/
namespace Sys2Proof.Machine

/-! ### The check-line cache (R220) -/

/-- The check word of a cached line, when valid. -/
def Sched.cachedWord (x : Sched) (l j : Nat) : Option Check :=
  match x.ckc.find? fun k => k.line == l with
  | some k => if k.valid.getLsbD j then some (k.data.extractLsb' (16 * j) 16) else none
  | none => none

/-- Cached valid words laid over a line (R220). -/
def overlayWords (mem : Line) (k : CkLine) : Line :=
  (List.range 32).foldl (fun d j => if k.valid.getLsbD j then setWord d j (k.data.extractLsb' (16 * j) 16) else d) mem

/-- Whether an operation is the slice's own, on a whole check line: no job of a hub waits for it (R220). -/
def MemOp.own (o : MemOp) : Bool := o.jid == 0

/-- Whether an operation writes a check line that leaves the cache, or reads one (R220). -/
def MemOp.evicts (o : MemOp) : Bool := o.write && o.check && o.own
def MemOp.readsCk (o : MemOp) : Bool := !o.write && o.check && o.own

/-- Writes that a slice has queued or issued, oldest first. -/
def Sched.writesOut (x : Sched) : List MemOp :=
  (x.retry.filterMap fun c => match c with | .wr o => some o | _ => none) ++ x.wq

/-- A check line as it stands below the cache: as it waits to be written, else as it is stored (R207). -/
def State.ckBase (s : State) (c : Fin 80) (l : Nat) : Line :=
  match s.slices[c].sched.writesOut.reverse.find? fun o => o.evicts && o.line == l with
  | some o => o.data
  | none => s.rawLine c l

/-- A check line as it stands: that line under the cached valid words. -/
def State.checkLineNow (s : State) (c : Fin 80) (l : Nat) : Line :=
  match s.slices[c].sched.ckc.find? fun k => k.line == l with
  | some k => overlayWords (s.ckBase c l) k
  | none => s.ckBase c l

/-- Evicted check lines of a number taken out of a slice's writes: a later write of the line stands for them. -/
def Sched.dropEvicted (x : Sched) (l : Nat) : Sched :=
  { x with
    wq := x.wq.filter fun o => !(o.evicts && o.line == l)
    retry := x.retry.filter fun c => match c with
      | .wr o => !(o.evicts && o.line == l)
      | _ => true }

/-- A dirty check line written back; it stays valid and clean (R221). -/
def State.writeBackCk (s : State) (c : Fin 80) (l : Nat) : State :=
  match s.slices[c].sched.ckc.find? fun k => k.line == l with
  | some k =>
    if k.dirty then
      let d := overlayWords (s.ckBase c l) k
      let s := (s.setRawLine c l d).modSched c fun x => x.dropEvicted l
      s.modSched c fun x => { x with ckc := x.ckc.map fun k => if k.line = l then { k with valid := BitVec.allOnes 32, dirty := false, data := d } else k }
    else s
  | none => s

/-- Every dirty check line written back (R221). -/
def State.flushCk (s : State) (c : Fin 80) : State :=
  (s.slices[c].sched.ckc.map CkLine.line).foldl (fun s l => s.writeBackCk c l) s

/-- The line to evict from a full cache: clean before dirty, least recently used first; the cache holds the most recently
used line first (R220). -/
def evictee (l : List CkLine) : Option CkLine :=
  match l.reverse.find? fun k => !k.dirty with
  | some k => some k
  | none => l.getLast?

/-- An operation of a slice on one of its check lines (R220). -/
def State.ckOp (s : State) (c : Fin 80) (l : Nat) (write : Bool) (d : Line) (level : BitVec 2) : MemOp :=
  { jid := 0, group := s.slices[c].health.grp, member := 0, stripe := 0, line := l, write := write, check := true
    data := d, word := 0, level := level, epoch := 0, tEnter := s.tb, replay := false, also := [] }

/-- The write of an evicted check line, merged over what is stored (R220). Its LEVEL is 0, which no rule states (assumption 71). -/
def State.evictOp (s : State) (c : Fin 80) (k : CkLine) : MemOp := s.ckOp c k.line true (overlayWords (s.ckBase c k.line) k) 0

/-- Whether a read of a check line is queued or under way. -/
def Sched.readsLine (x : Sched) (l : Nat) : Bool :=
  let hit (o : MemOp) : Bool := o.readsCk && o.line == l
  x.rq.any hit || x.replayed.any hit || x.retry.any fun c => match c with
    | .rd o => hit o
    | _ => false

/-- A check line asked of the devices, at a level, unless a read of it is under way or the read queue is full (R206, R220). -/
def State.askCheck (s : State) (c : Fin 80) (l : Nat) (level : BitVec 2) : State :=
  if s.slices[c].sched.readsLine l || decide (64 ≤ s.slices[c].sched.rq.length) then s
  else s.modSched c fun x => { x with rq := x.rq ++ [s.ckOp c l false 0 level] }

/-- A dirty check line queued as a write, in the place of an earlier write of it that has not been issued (R207, R220). -/
def State.queueEvict (s : State) (c : Fin 80) (k : CkLine) : State :=
  let o := s.evictOp c k
  s.modSched c fun x =>
    if x.wq.any fun w => w.evicts && w.line == k.line then { x with wq := x.wq.map fun w => if w.evicts && w.line == k.line then { w with data := o.data } else w }
    else { x with wq := x.wq ++ [o] }

/-- Room made for one more check line: a clean line goes, else a dirty one is queued as a write. A copy of the ledger, which may need room
for more lines than the write queue has left, writes the others back within its step. -/
def State.makeCkRoom (s : State) (c : Fin 80) : State :=
  if s.slices[c].sched.ckc.length < 512 then s
  else match evictee s.slices[c].sched.ckc with
    | some k =>
      let s := if k.dirty then (if s.slices[c].sched.wq.length < 96 then s.queueEvict c k else s.writeBackCk c k.line) else s
      s.modSched c fun x => { x with ckc := x.ckc.filter fun j => j.line != k.line }
    | none => s

/-- Whether a cached line may leave now: a clean one, or a dirty one whose words are all valid and that the write queue takes (R220). -/
def Sched.leaves (x : Sched) (k : CkLine) : Bool := !k.dirty || (k.valid == BitVec.allOnes 32 && decide (x.wq.length < 96))

/-- Whether a check line finds room in the cache without an eviction that must wait (R220). -/
def State.ckRoom (s : State) (c : Fin 80) (l : Nat) : Bool :=
  let x := s.slices[c].sched
  (x.ckc.any fun k => k.line == l) || decide (x.ckc.length < 512) || (match evictee x.ckc with | some k => x.leaves k | none => true)

/-- The same for a step that a vane makes whole, whose reads are part of it: a dirty eviction waits while the write queue is full. -/
def State.vaneRoom (s : State) (c : Fin 80) (l : Nat) : Bool := s.ckRoom c l || decide (s.slices[c].sched.wq.length < 96)

/-- What an allocation that must wait asks for: a line to be evicted of which not every word is valid is first read (R220; its LEVEL is 0,
assumption 71). -/
def State.readEvictee (s : State) (c : Fin 80) : State :=
  match evictee s.slices[c].sched.ckc with
  | some k => if k.dirty && k.valid != BitVec.allOnes 32 then s.askCheck c k.line 0 else s
  | none => s

/-- A check word enters the cache: allocated without reading, its line dirty and most recently used (R208, R220). -/
def State.cacheWord (s : State) (c : Fin 80) (l j : Nat) (w : Check) : State :=
  match s.slices[c].sched.ckc.find? fun k => k.line == l with
  | some k =>
    s.modSched c fun x => { x with ckc := { k with valid := k.valid ||| (1#32 <<< j), dirty := true, data := setWord k.data j w } :: x.ckc.filter fun i => i.line != l }
  | none =>
    (s.makeCkRoom c).modSched c fun x => { x with ckc := { line := l, valid := 1#32 <<< j, dirty := true, data := setWord 0 j w } :: x.ckc }

/-- A cached line becomes the most recently used (R220). -/
def touchCk (l : List CkLine) (line : Nat) : List CkLine := (l.filter fun k => k.line == line) ++ l.filter fun k => k.line != line

/-- A check line as read, with what the read suffered, merged under the cached valid words; a line that is not cached enters the cache
clean (R220, R222). -/
def State.mergeCheck (s : State) (c : Fin 80) (l : Nat) (err : Line) : State :=
  let d := s.ckBase c l ^^^ err
  match s.slices[c].sched.ckc.find? fun k => k.line == l with
  | some k => s.modSched c fun x => { x with ckc := { k with valid := BitVec.allOnes 32, data := overlayWords d k } :: x.ckc.filter fun i => i.line != l }
  | none => (s.makeCkRoom c).modSched c fun x => { x with ckc := { line := l, valid := BitVec.allOnes 32, dirty := false, data := d } :: x.ckc }

/-- Whether the check word of a strip is valid in the cache. -/
def State.wordThere (s : State) (c : Fin 80) (stripe : Nat) : Bool :=
  (s.slices[c].sched.cachedWord (s.checkLine stripe) (s.checkIdx stripe)).isSome

/-- A strip whose check word is not in the cache: the check line is read at the read's level, which counts a miss, or merged from the write
queue where an eviction of it waits there (R207, R220). -/
def State.missWord (s : State) (c : Fin 80) (o : MemOp) : State :=
  let l := s.checkLine o.stripe
  if s.slices[c].sched.wq.any fun w => w.evicts && w.line == l then
    (if s.ckRoom c l then (s.mergeCheck c l 0).bumpCh c 5 else s.readEvictee c)
  else
    let t := s.askCheck c l o.level
    if t.slices[c].sched.rq.length = s.slices[c].sched.rq.length then s else t.bumpCh c 3

/-! ### Strips as stored -/

/-- A strip and its word driven into a slice: the data line written, the word cached (R208). -/
def State.putStrip (s : State) (c : Fin 80) (stripe : Nat) (d : Line) (w : Check) : State :=
  (s.setRawLine c (s.dataLine stripe) d).cacheWord c (s.checkLine stripe) (s.checkIdx stripe) w

/-- The latest data and word of a line that a slice holds queued or issued for writing. -/
def Sched.queuedWrite (x : Sched) (l : Nat) : Option MemOp :=
  x.writesOut.reverse.find? fun o => o.line == l && !o.check

/-- A strip and its check word as a slice would return them now. -/
def State.stripNow (s : State) (c : Fin 80) (stripe : Nat) : Line × Check :=
  match s.slices[c].sched.queuedWrite (s.dataLine stripe) with
  | some o => (o.data, o.word)
  | none =>
    let w := match s.slices[c].sched.cachedWord (s.checkLine stripe) (s.checkIdx stripe) with
      | some w => w
      | none => (s.checkLineNow c (s.checkLine stripe)).extractLsb' (16 * s.checkIdx stripe) 16
    (s.rawLine c (s.dataLine stripe), w)

/-- The strip of a member, classified as the hub would (R185, R418): `bad` before any replay. -/
def State.peekStrip (s : State) (g : Fin 8) (m : Fin 9) (stripe : Nat) : Strip :=
  match s.target g m stripe with
  | none => .gone
  | some c =>
    let (d, w) := s.stripNow c stripe
    if isPoisoned g m stripe d w then .poisoned
    else if w = checkWord g m stripe d then .got d
    else .bad d w

/-- Stored contents of a strip that takes part in an XOR (R419). -/
def Strip.stored (x : Strip) : Option Line :=
  match x with
  | .got d => some d
  | .poisoned => some poisonLine
  | _ => Option.none

/-- The value of one strip of a stripe, given all nine: itself, or its reconstruction when it is the only one that fails
and is not recorded lost. `none` stands for a line that cannot be delivered (R185, R187, R275, R419). -/
def stripValue (strips : Vector Strip 9) (lost : Bool) (m : Fin 9) : Option Line :=
  match strips[m] with
  | .got d => some d
  | .poisoned => none
  | _ =>
    let others := (allMembers.filter fun j => j != m).map fun j => strips[j].stored
    if lost || others.any Option.isNone then none
    else
      let r := xorLines (others.map fun o => o.getD 0)
      if r = poisonLine then none else some r

/-- The reconstruction of a strip from the stored contents of the other eight, where all of them have one. -/
def rebuilt (strips : Vector Strip 9) (m : Fin 9) : Option Line :=
  let others := (allMembers.filter fun j => j != m).map fun j => strips[j].stored
  if others.any Option.isNone then none else some (xorLines (others.map fun o => o.getD 0))

/-- Whether a strip may not be reconstructed: it is recorded lost (R275), or, until the verification pass over its group has
ended, its reconstruction does not match a stored check word (R339). -/
def State.noRebuild (s : State) (g : Fin 8) (stripe : Nat) (strips : Vector Strip 9) (m : Fin 9) : Bool :=
  s.isLost g stripe m ||
    (s.hubs[g].verify && match strips[m] with
      | .gone => true
      | .bad _ w => (match rebuilt strips m with | some r => checkWord g m stripe r != w | none => true)
      | _ => false)

/-- A strip that only the verification pass still bars is recorded with cause 3 (R339). -/
def State.noteUnsure (s : State) (g : Fin 8) (stripe : Nat) (strips : Vector Strip 9) (m : Fin 9) : State :=
  if s.noRebuild g stripe strips m && !s.isLost g stripe m then s.recordLoss g stripe stripe (memberMask [m]) 3 else s

/-- All nine strips of a stripe as they stand. -/
def State.peekStripe (s : State) (g : Fin 8) (stripe : Nat) : Vector Strip 9 :=
  Vector.ofFn fun m => s.peekStrip g m stripe

/-! ### Void chunks (R199, R200) -/

/-- Whether a stripe's chunk is void. -/
def State.isVoid (s : State) (g : Fin 8) (stripe : Nat) : Bool :=
  s.hubs[g].voids.any fun v => decide (v.1 ≤ stripe / 8) && decide (stripe / 8 < v.2)

/-- Whether the first write to a stripe's chunk zero-fills it: the chunk is void, or its map bit is lost (R200, R276). -/
def State.needsZero (s : State) (g : Fin 8) (stripe : Nat) : Bool := s.isVoid g stripe || s.mapGone g stripe

/-- One chunk taken out of the void ranges. -/
def unvoid (l : List (Nat × Nat)) (k : Nat) : List (Nat × Nat) :=
  l.flatMap fun v =>
    if v.1 ≤ k ∧ k < v.2 then (if v.1 < k then [(v.1, k)] else []) ++ (if k + 1 < v.2 then [(k + 1, v.2)] else [])
    else [v]

/-- A range of chunks taken out of the void ranges. -/
def cutRange (l : List (Nat × Nat)) (r : Nat × Nat) : List (Nat × Nat) :=
  l.flatMap fun v =>
    if overlaps v.1 v.2 r.1 r.2 then (if v.1 < r.1 then [(v.1, r.1)] else []) ++ (if r.2 < v.2 then [(r.2, v.2)] else [])
    else [v]

/-- Zero lines of one stripe as they are stored: data strip k holds the stored form of a zero line (R200, R469). -/
def State.zeroStripe (s : State) (g : Fin 8) (stripe : Nat) : List Line :=
  (List.range 8).map fun k => match s.portAddr g stripe k with
    | some a => s.encryptAt a 0
    | none => 0

/-- One counter of a hub advanced. -/
def State.hubFull (s : State) (g : Fin 8) : State :=
  (s.modHub g fun h => { h with fullCnt := satInc h.fullCnt }).telSys 0x08 (some g.val) 1

/-- Whether a kind is partial. -/
def partialKind (k : BitVec 3) : Bool := k == 1 || k == 2 || k == 3

/-- DEGWR at the first degraded write since the counters were cleared (R189). -/
def State.noteDegraded (s : State) (g : Fin 8) : State :=
  if s.hubs[g].degArmed then (s.modHub g fun h => { h with degArmed := false }).raise (pageGrp g) 5 else s

/-- The counters of a write kind (R189, R201, R443). -/
def State.countKind (s : State) (g : Fin 8) (k : BitVec 3) : State :=
  if k = 0 ∨ k = 5 then s.hubFull g
  else if partialKind k then
    let s := (s.modHub g fun h => { h with partCnt := satInc h.partCnt }).telSys 0x09 (some g.val) 1
    if k = 3 then s.noteDegraded g else s
  else s

/-- `n` journal entries opened and retired within one step, `open_` of them at once (R191, R506). -/
def State.passEntries (s : State) (g : Fin 8) (n open_ : Nat) : State :=
  s.modHub g fun h => { h with jseq := h.jseq + BitVec.ofNat 16 n, jpeak := BitVec.ofNat 10 (max h.jpeak.toNat (min 512 (h.journal.length + open_))) }

/-- One such entry. -/
def State.passEntry (s : State) (g : Fin 8) : State := s.passEntries g 1 1

/-- ARB_CFG.RESERVE_N as it acts. -/
def State.reserveN (s : State) : Nat := min 256 (max 8 (s.cfgField pageArb 0x040 8 0))

/-- Grants to source 0x19 within a step that the vane cluster makes whole at a hub, each in a phase of its own (R148): how many, how many of them waited, and how long the
longest waited, are free values (R127, R156; assumption 72). -/
def State.vaneGrants (s : State) (g : Fin 8) : State :=
  let n := (s.freeVal 16).toNat
  let late := min n (Config.freeValue 16 (s.free + 1)).toNat
  let ns : Reg := if n = 0 then 0 else Config.freeValue 32 (s.free + 2)
  let s := { s with free := s.free + 3 }
  let longest := if (s.fab.longest[25]).toNat < ns.toNat then s.fab.longest.set 25 ns else s.fab.longest
  let s := { s with fab := { s.fab with grants := bumpAt s.fab.grants 25 n, waits := bumpAt s.fab.waits 25 late, longest := longest } }
  (s.modHub g fun h => { h with grants := (h.grants + n) % s.reserveN, tick := h.tick + BitVec.ofNat 16 n }).telSys 0x05 (some g.val) n

/-- Whether the reserve of a hub has room for a level 0 operation; while it has none, none is made (R161). -/
def State.reserveRoom (s : State) (g : Fin 8) : Bool := decide (s.occReserve g < 128)

/-- A stripe that a relayout has done above BOUND and that is written again is to be done again (R264; assumption 73). -/
def State.redoStripe (s : State) (g : Fin 8) (stripe : Nat) : State :=
  match s.spr.rly[g] with
  | some r => if r.done.contains stripe then s.setRly g (some { r with done := r.done.filter fun k => k != stripe }) else s
  | none => s

/-- A whole stripe written from its eight data strips, on the members that can be reached. -/
def State.writeStripeNow (s : State) (g : Fin 8) (stripe : Nat) (data : List Line) : State :=
  allMembers.foldl (fun s m =>
    match s.target g m stripe with
    | some c =>
      let k := stripOf stripe m
      let d := if k = 8 then xorLines data else data.getD k 0
      s.putStrip c stripe d (checkWord g m stripe d)
    | none => s) s

/-- Writes to strips that hubs and vanes make under an entry of their own, at once. -/
def State.putStrips (s : State) (g : Fin 8) (stripe : Nat) (ws : List (Fin 9 × Line × Check × Bool)) : State :=
  ws.foldl (fun (s : State) (w : Fin 9 × Line × Check × Bool) => match s.target g w.1 stripe with
    | some c => if w.2.2.2 then s.cacheWord c (s.checkLine stripe) (s.checkIdx stripe) w.2.2.1 else s.putStrip c stripe w.2.1 w.2.2.1
    | none => s) s

/-- The bit of a chunk in the void map where that lies in the devices: its data strip and the parity of its stripe (R199). -/
def State.writeMapBit (s : State) (g : Fin 8) (chunk : Nat) : State :=
  match s.hubs[g].mapImage with
  | none => s
  | some x =>
    let i := chunk / 4096
    let stripe := x.at_.stripe + i
    let now : MapImage := { x with voids := s.hubs[g].voids }
    let put (m : Fin 9) : Fin 9 × Line × Check × Bool := (m, now.strip i m, checkWord g m stripe (now.strip i m), false)
    if x.stripes ≤ i then s else s.putStrips g stripe [put (dataMember stripe (chunk % 4096 / 512)), put (parityMember stripe)]

/-- With a group's last void chunk ZEROING clears and ZERO_DONE is raised (R200). -/
def State.noteZeroed (s : State) (g : Fin 8) : State :=
  if s.hubs[g].zeroing && s.hubs[g].voids.isEmpty then
    (s.modHub g fun h => { h with zeroing := false }).raise (pageGrp g) 6
  else s

/-- The map bit of a zero-filled chunk is cleared (R200). -/
def State.clearVoid (s : State) (g : Fin 8) (chunk : Nat) : State :=
  let s := s.modHub g fun h => { h with
    voids := unvoid h.voids chunk, mapDone := if h.mapLost.isEmpty then h.mapDone else h.mapDone ++ [(chunk, chunk + 1)] }
  (s.writeMapBit g chunk).noteZeroed g

/-- A write that leaves out a member because it retrains, or, admitted before the swap, because it resynchronises, marks its region stale
(R268). -/
def State.noteStale (s : State) (g : Fin 8) (gone : List (Fin 9)) (stripe : Nat) : State :=
  if gone.any fun m => ((s.member g m).retrain && (s.member g m).st == .absent) || (s.member g m).st == .resync then
    s.modHub g fun h => if h.stale.contains (stripe / 2048) then h else { h with stale := h.stale ++ [stripe / 2048] }
  else s

/-- A void chunk that a copy of the ledger writes into is zero-filled within that step: eight FULL writes, each with a ZERO entry, then the
map bit (R200). How many of the eight entries are open at once is a free value (assumption 8). -/
def State.zeroChunk (s : State) (g : Fin 8) (chunk : Nat) : State :=
  let s := (s.passEntries g 8 (1 + (s.freeVal 3).toNat)).tookFree
  let s := (List.range 8).foldl (fun s i =>
    let b := 8 * chunk + i
    ((s.writeStripeNow g b (s.zeroStripe g b)).hubFull g).noteStale g (s.goneMembers g s.hubs[g].epoch b) b) s
  s.clearVoid g chunk

/-! ### Lines as a vane or the ledger reads and writes them -/

/-- A stored line at a resolved address, as plaintext; none for poison (R118). -/
def State.lineNow (s : State) (a : Nat) : Option Line :=
  match s.mapAddr a with
  | none => none
  | some p =>
    if s.mapGone p.g p.stripe then none
    else if s.isVoid p.g p.stripe then some 0
    else (stripValue (s.peekStripe p.g p.stripe) (s.noRebuild p.g p.stripe (s.peekStripe p.g p.stripe) p.m) p.m).map (s.decryptAt a)

/-- A line written in place at its strip, with its parity, or its poison marking. -/
def State.putAt (s : State) (p : Place) (a : Nat) (v : Option Line) : State :=
  let s := s.redoStripe p.g p.stripe
  let s := if s.needsZero p.g p.stripe then s.zeroChunk p.g (p.stripe / 8) else s
  let strips := s.peekStripe p.g p.stripe
  let lost := s.noRebuild p.g p.stripe strips p.m
  let new := match v with
    | some d => s.encryptAt a d
    | none => poisonLine
  let word := match v with
    | some _ => checkWord p.g p.m p.stripe new
    | none => poisonWord p.g p.m p.stripe
  let pm := parityMember p.stripe
  let datas := (allMembers.filter fun m => m != pm).map fun m =>
    if m = p.m then new
    else match strips[m] with
      | .got d => d
      | .poisoned => poisonLine
      | .bad d _ => (stripValue strips (s.noRebuild p.g p.stripe strips m) m).getD d
      | _ => (stripValue strips (lost || s.noRebuild p.g p.stripe strips m) m).getD 0
  let s := match s.target p.g p.m p.stripe with
    | some c => s.putStrip c p.stripe new word
    | none => s
  match s.target p.g pm p.stripe with
  | some c => s.putStrip c p.stripe (xorLines datas) (checkWord p.g pm p.stripe (xorLines datas))
  | none => s

/-- Write a stripe at its place, where it has one; an address above the mapped slices has none. -/
def State.putPlaced (s : State) (a : Nat) (v : Option Line) : Option Place → State
  | none => s
  | some p => s.putAt p a v

/-- A line written in place by a copy of the ledger: strip and parity, or its poison marking (R114, R118). -/
def State.putLineNow (s : State) (a : Nat) (v : Option Line) : State :=
  s.putPlaced a v (s.mapAddr a)

/-! ### Stalls and the state of slices -/

/-- A member's slice is stalled by refresh ("Read-through policy"). The windows of a Lull and of a switch step are one step each
here, so nothing meets a slice inside one. -/
def Slice.stalled (x : Slice) : Bool := x.sched.inRef || x.sched.tLead

/-- A slice that takes operations now: powered, awake (R145). -/
def Slice.serves (x : Slice) : Bool := x.on && x.power == .active

/-- Operations at a slice. -/
def Sched.ops (x : Sched) : List MemOp :=
  x.rq ++ x.wq ++ x.fwds ++ x.replayed ++ x.retry.filterMap fun c => match c with
    | .rd o => some o
    | .wr o => some o
    | _ => none

/-- Operations that a hub holds for a slice (R146). -/
def State.heldFor (s : State) (g : Fin 8) (c : Fin 80) : Nat := (s.hubs[g].hold.filter fun o => o.1 == c).length

/-- Operations that have not left a hub: held ones, then those not placed yet. -/
def Hub.parked (h : Hub) : List (Fin 80 × MemOp) := h.hold ++ h.unplaced

/-- Whether an earlier operation of the same kind for the same slice has not left the hub. -/
def Hub.blocks (h : Hub) (c : Fin 80) (o : MemOp) : Bool := h.parked.any fun x => x.1 == c && x.2.write == o.write

/-! ### Delivery (R145, R206, R207) -/

/-- A path flag of the request that a member operation serves (R450). -/
def State.flagOp (s : State) (o : MemOp) (bit : Nat) : State :=
  match s.hubs[o.group].jobs.find? fun j => j.jid == o.jid with
  | some j => s.flagReq j.rid bit
  | none => s

/-- An operation enters a slice's queues: a read of a line queued for writing is answered from the queue; a write to a queued
line replaces its data in place. -/
def State.enqueue (s : State) (c : Fin 80) (o : MemOp) : State :=
  let o := { o with tEnter := s.tb }
  let x := s.slices[c].sched
  if o.write then
    let same (w : MemOp) : Bool := w.line == o.line && w.check == o.check && w.stripe == o.stripe && !w.evicts
    if x.wq.any same then
      s.modSched c fun x => { x with wq := x.wq.map fun w => if same w then { w with data := o.data, word := o.word, also := w.also ++ [o.jid] } else w }
    else s.modSched c fun x => { x with wq := x.wq ++ [o] }
  else
    match x.wq.reverse.find? fun w => w.line == o.line && !w.check with
    | some w => ((s.bumpCh c 5).flagOp o flagFwd).modSched c fun x => { x with fwds := x.fwds ++ [{ o with data := w.data, word := w.word }] }
    | none => s.modSched c fun x => { x with rq := x.rq ++ [o] }

/-- Whether a slice's queue has room for an operation (R206). -/
def Sched.room (x : Sched) (o : MemOp) : Bool :=
  if o.write then decide (x.wq.length < 96) else decide (x.rq.length < 64)

/-- An operation held for a slice, and counted once; while the hold is full it waits in the hub (R146). -/
def State.holdOp (s : State) (g : Fin 8) (c : Fin 80) (o : MemOp) : State :=
  if s.heldFor g c < 32 then
    { s.modHub g fun h => { h with hold := h.hold ++ [(c, o)] } with fab := { s.fab with holdCnt := satInc s.fab.holdCnt } }
  else s.modHub g fun h => { h with unplaced := h.unplaced ++ [(c, o)] }

/-- The hub delivers an operation to a slice, or keeps it (R145 to R147, R206). -/
def State.deliver (s : State) (g : Fin 8) (c : Fin 80) (o : MemOp) : State :=
  let s := if s.slices[c].stalled then s.flagOp o flagRefWait else s
  if s.pwr.agreed.getLsbD c.val && (s.pwr.phase == .prepare1 || s.pwr.phase == .prepare2) then
    (s.holdOp g c o).lateTraffic c.val
  else if s.slices[c].serves = false || s.asleepIn 1 || s.asleepIn 2 then (s.holdOp g c o).wakeBy 5
  else if (s.slices[c].sched.room o = false) || s.hubs[g].blocks c o then s.modHub g fun h => { h with unplaced := h.unplaced ++ [(c, o)] }
  else s.enqueue c o

/-- A held operation goes to its slice once that takes it (R146). -/
def State.placeHeld (s : State) (g : Fin 8) (o : Fin 80 × MemOp) (held : Bool) : State :=
  let takes := s.slices[o.1].serves && !s.asleepIn 1 && !s.asleepIn 2
  if takes && s.slices[o.1].sched.room o.2 && !s.hubs[g].blocks o.1 o.2 then s.enqueue o.1 o.2
  else if held then s.modHub g fun h => { h with hold := h.hold ++ [o] }
  else if takes then s.modHub g fun h => { h with unplaced := h.unplaced ++ [o] }
  else s.holdOp g o.1 o.2

/-- What a hub holds goes to the slices in order, as far as they take it (R146, R206). -/
def State.releaseHeld (s : State) (g : Fin 8) : State :=
  let hold := s.hubs[g].hold
  let rest := s.hubs[g].unplaced
  let s := s.modHub g fun h => { h with hold := [], unplaced := [] }
  let s := hold.foldl (fun (s : State) (o : Fin 80 × MemOp) => s.placeHeld g o true) s
  rest.foldl (fun (s : State) (o : Fin 80 × MemOp) => s.placeHeld g o false) s

/-! ### Jobs -/

/-- A job of a hub. -/
def State.job (s : State) (g : Fin 8) (jid : Nat) : Option Job := s.hubs[g].jobs.find? fun j => j.jid == jid

/-- One job changed. -/
def State.modJob (s : State) (g : Fin 8) (jid : Nat) (f : Job → Job) : State :=
  s.modHub g fun h => { h with jobs := h.jobs.map fun j => if j.jid = jid then f j else j }

/-- A fresh job. -/
def newJob (jid rid : Nat) (kind : JobKind) (stripe : Nat) (lines : List LineOp) (xor tuple : Bool) (level : BitVec 2) : Job :=
  { jid := jid, rid := rid, kind := kind, phase := .blocked, stripe := stripe, lines := lines, xor := xor, tuple := tuple
    level := level, rmwOnly := false, wkind := 0, strips := Vector.replicate 9 .none, recon := 0
    out := [], away := none, jidx := none, jwait := false, epoch := 0, dst := none, tRead := 0 }

/-- A job added at the end of its hub's list, in admission order, under the route epoch of its admission (R141, R144, R188). -/
def State.addJob (s : State) (g : Fin 8) (rid : Nat) (kind : JobKind) (stripe : Nat) (lines : List LineOp) (xor tuple : Bool) (level : BitVec 2) : State :=
  let j := { newJob s.ids rid kind stripe lines xor tuple level with epoch := s.hubs[g].epoch }
  { s.modHub g fun h => { h with jobs := h.jobs ++ [j] } with ids := s.ids + 1 }

/-- Whether a job stores. -/
def Job.stores (j : Job) : Bool := j.kind != .read

/-- The member of a line operation in a stripe. -/
def State.lineMember (s : State) (o : LineOp) : Fin 9 :=
  match s.mapAddr (o.addr.toNat * 64) with
  | some p => p.m
  | none => 0

/-- An open journal entry for a stripe (R191). -/
def Hub.entryFor (h : Hub) (stripe : Nat) : Option (Nat × JEntry) := h.journal.find? fun e => e.2.stripe.toNat == stripe

/-- Jobs of the same stripe admitted before this one. -/
def Hub.before (h : Hub) (j : Job) : List Job :=
  (h.jobs.takeWhile fun x => x.jid != j.jid).filter fun x => x.stripe == j.stripe

/-- Whether an earlier store still has to write the strip of member m (R188). -/
def Job.willWrite (j : Job) (members : List (Fin 9)) (h : Hub) (m : Fin 9) : Bool :=
  match j.jidx with
  | some k => match getKey h.journal k with
    | some e => e.wmask.getLsbD m.val && !e.done.getLsbD m.val
    | none => false
  | none => if j.out.isEmpty then members.contains m else j.out.any fun o => o.1 == m

/-- Nanoseconds left of a stall (R186). -/
def State.stallLeft (s : State) (c : Fin 80) : Nat := s.slices[c].sched.stallEnd.toNat - s.tb.toNat

/-- Operations queued at a slice, as RT_MODE 2 counts them (R186). -/
def State.queued (s : State) (c : Fin 80) : Nat := s.slices[c].sched.rq.length + s.slices[c].sched.wq.length

/-- Whether a read of a member that can be reached is served by read-through (R186): none is before the verification pass has ended, as what is
reconstructed is accepted only against the check word that lies on the stalled member (R339; assumption 95). -/
def State.readThrough (s : State) (g : Fin 8) (m : Fin 9) (stripe : Nat) : Bool :=
  match s.target g m stripe with
  | none => true
  | some c =>
    let mode := s.cfgField (pageGrp g) 0x040 1 0
    let minNs := s.cfgField (pageGrp g) 0x040 15 4
    let depth := max 2 (s.cfgField (pageGrp g) 0x040 31 24)
    let stall := s.slices[c].stalled && decide (minNs ≤ s.stallLeft c)
    let deep := decide (depth < s.queued c) && allMembers.all fun j => j == m || (match s.target g j stripe with
      | some d => decide (s.queued d ≤ depth / 2)
      | none => false)
    mode != 0 && !s.hubs[g].verify && (stall || (mode == 2 && deep))

/-- The members of a read that are to be read through, as its admission finds them (R186). -/
def State.throughMask (s : State) (g : Fin 8) (stripe : Nat) (lines : List LineOp) : BitVec 9 :=
  memberMask ((lines.map s.lineMember).filter fun m => s.readThrough g m stripe)

/-- A member read issued for a job; a strip that cannot be reached is gone at once. -/
def State.askStrip (s : State) (g : Fin 8) (jid : Nat) (m : Fin 9) : State :=
  match s.job g jid with
  | none => s
  | some j =>
    if j.strips[m] ≠ .none then s
    else match s.targetOf g j.epoch m j.stripe with
      | none => s.modJob g jid fun j => { j with strips := j.strips.set m .gone }
      | some c =>
        let s := s.modJob g jid fun j => { j with strips := j.strips.set m .pending }
        s.deliver g c { jid := jid, group := g, member := m, stripe := j.stripe, line := s.dataLine j.stripe, write := false, check := false, data := 0, word := 0, level := j.level, epoch := j.epoch, tEnter := s.tb, replay := false, also := [] }

/-- Several member reads issued. -/
def State.askStrips (s : State) (g : Fin 8) (jid : Nat) (l : List (Fin 9)) : State := l.foldl (fun s m => s.askStrip g jid m) s

/-- GRP counters (R201) that jobs advance. -/
def State.bumpRt (s : State) (g : Fin 8) : State := (s.modHub g fun h => { h with rtCnt := satInc h.rtCnt }).telSys 0x07 (some g.val) 1

/-! ### Repairs and poison (R185, R417) -/

/-- Detail of a strip in the error log (R423). -/
def stripDetail (stripe : Nat) (m : Fin 9) : BitVec 64 := BitVec.ofNat 64 (stripe % 2 ^ 32 + m.val * 2 ^ 32)

/-- A strip newly marked poisoned is logged (R423). -/
def State.logPoison (s : State) (g : Fin 8) (stripe : Nat) (m : Fin 9) : State :=
  s.logError { cls := clsUc, page := pageGrp g, code := 0x0004, detail := stripDetail stripe m }

/-- What R185 does for one bad strip of a stripe whose nine strips have been asked for, and the write it calls for. -/
def State.mendStrip (s : State) (g : Fin 8) (stripe : Nat) (strips : Vector Strip 9) (m : Fin 9) : State × List (Fin 9 × Line × Check × Bool) :=
  match strips[m] with
  | .bad d _ =>
    let others := (allMembers.filter fun j => j != m).map fun j => strips[j].stored
    if s.noRebuild g stripe strips m || others.any Option.isNone then
      -- the strip cannot be rebuilt: a data strip is marked poisoned
      if stripOf stripe m = 8 then (s, [])
      else ((s.noteUnsure g stripe strips m).logPoison g stripe m, [(m, poisonLine, poisonWord g m stripe, false)])
    else
      let r := xorLines (others.map fun o => o.getD 0)
      if r = d then
        let s := s.modHub g fun h => { h with cwfixCnt := satInc h.cwfixCnt }
        let s := (s.raise (pageGrp g) 3).logError { cls := clsCe, page := pageGrp g, code := 0x0002, detail := stripDetail stripe m }
        (s, [(m, d, checkWord g m stripe d, true)])
      else
        let s := s.modHub g fun h => { h with rcvCnt := satInc h.rcvCnt }
        let s := (s.raise (pageGrp g) 0).logError { cls := clsRcv, page := pageGrp g, code := 0x0003, detail := stripDetail stripe m }
        (s, [(m, r, if r = poisonLine ∧ stripOf stripe m ≠ 8 then poisonWord g m stripe else checkWord g m stripe r, false)])
  | _ => (s, [])

/-- Whether a strip failed its check. -/
def Strip.failed (x : Strip) : Bool := match x with | .bad _ _ => true | _ => false

/-- What two failed strips of a stripe raise, and what a failed strip beside an unreachable member loses (R185 step 5, R274). -/
def State.noteFailures (s : State) (g : Fin 8) (stripe : Nat) (strips : Vector Strip 9) (reachable : List (Fin 9)) : State :=
  let bad := allMembers.filter fun m => (strips[m]).failed
  let gone := allMembers.filter fun m => strips[m] == .gone && !reachable.contains m
  let s := s.raiseIf (decide (2 ≤ bad.length)) (pageGrp g) 2
  if bad ≠ [] ∧ gone ≠ [] then s.recordLoss g stripe stripe (memberMask (bad ++ gone)) 2 else s

/-- All mends of a stripe; when two strips have failed, DOUBLE is raised once. Parity is recomputed over what is stored where a strip could
not be rebuilt (R185 step 5, R339, R417). A loss is recorded where a failed strip meets an unreachable member (R274). -/
def State.mendStripe (s : State) (g : Fin 8) (stripe : Nat) (strips : Vector Strip 9) (reachable : List (Fin 9)) : State × List (Fin 9 × Line × Check × Bool) :=
  let bad := allMembers.filter fun m => (strips[m]).failed
  let (s, ws) := bad.foldl (fun (acc : State × List (Fin 9 × Line × Check × Bool)) m =>
    let (s, l) := acc.1.mendStrip g stripe strips m
    (s, acc.2 ++ l)) (s, [])
  let s := s.noteFailures g stripe strips reachable
  let pm := parityMember stripe
  let ws := if 2 ≤ bad.length ∨ ws.any (fun w => w.1 != pm && w.2.1 == poisonLine) = true then
      let stored (m : Fin 9) : Line := match strips[m] with
        | .got d => d
        | .poisoned => poisonLine
        | .bad _ _ => poisonLine
        | _ => 0
      let parity := xorLines ((allMembers.filter fun m => m != pm).map stored)
      (ws.filter fun w => w.1 != pm) ++ (if strips[pm] == .gone then [] else [(pm, parity, checkWord g pm stripe parity, false)])
    else ws
  (s, ws)

/-- Persistent mismatches of a stripe counted against the slices that returned them (R259). -/
def State.countStripe (s : State) (g : Fin 8) (stripe : Nat) (strips : Vector Strip 9) : State :=
  ((allMembers.filter fun m => (strips[m]).failed).filterMap fun m => s.target g m stripe).foldl State.countMismatch s

/-- A line that the block reads by itself within a step has its strip checked as any other: one that fails is mended (R185). -/
def State.mendPlace (s : State) : Option Place → State
  | none => s
  | some p =>
    if s.needsZero p.g p.stripe then s
    else
      let strips := s.peekStripe p.g p.stripe
      if (strips[p.m]).failed = false then s
      else
        let (s, ws) := s.mendStripe p.g p.stripe strips []
        ((s.putStrips p.g p.stripe ws).passEntry p.g).countStripe p.g p.stripe strips

/-- The line at an address, mended so. -/
def State.mendAt (s : State) (a : Nat) : State := s.mendPlace (s.mapAddr a)

/-! ### The journal (R191, R192) -/

/-- Entries of the partial kinds. -/
def Hub.partials (h : Hub) : Nat := (h.journal.filter fun e => e.2.kind == 1 || e.2.kind == 2 || e.2.kind == 3).length

/-- Whether an entry of a kind may open now. -/
def Hub.journalRoom (h : Hub) (k : BitVec 3) : Bool :=
  decide (h.journal.length < 512) && (!partialKind k || decide (h.partials < 448))

/-- The lowest free entry. -/
def Hub.freeEntry (h : Hub) : Nat := ((List.range 512).find? fun k => (getKey h.journal k).isNone).getD 0

/-- JWAIT at the onset of journal waiting (R192). -/
def State.noteJwait (s : State) (g : Fin 8) : State :=
  if s.hubs[g].jwaiting then s
  else (s.modHub g fun h => { h with jwaiting := true, jwaitCnt := satInc h.jwaitCnt }).raise (pageGrp g) 4

/-- A journal entry opened for a job. -/
def State.addEntry (s : State) (g : Fin 8) (jid : Nat) (e : JEntry) : State :=
  let k := s.hubs[g].freeEntry
  let s := s.modHub g fun h => { h with journal := setKey h.journal k { e with seq := h.jseq + 1 }, jseq := h.jseq + 1, jpeak := BitVec.ofNat 10 (max h.jpeak.toNat (h.journal.length + 1)) }
  s.modJob g jid fun j => { j with jidx := some k, jwait := false }

/-- A job that finds no entry free for its kind waits (R192). -/
def State.waitEntry (s : State) (g : Fin 8) (j : Job) : State :=
  let s := (s.modJob g j.jid fun j => { j with jwait := true }).flagReq j.rid flagJwait
  if partialKind j.wkind && decide (448 ≤ s.hubs[g].partials) then s.noteJwait g else s

/-- Where a job writes the strip of a member: the copy of a relayout goes to its destination (R264, R265). -/
def State.outTarget (s : State) (g : Fin 8) (j : Job) (m : Fin 9) : Option (Fin 80) :=
  match j.dst, s.spr.rly[g] with
  | some d, some r => if r.mem = m then (if r.dst = d ∧ s.fenced d = false then some d else none) else s.targetOf g j.epoch m j.stripe
  | some _, none => none
  | none, _ => s.targetOf g j.epoch m j.stripe

/-- The member writes of a job sent out. -/
def State.sendWrites (s : State) (g : Fin 8) (j : Job) (outs : List (Fin 9 × Line × Check × Bool)) : State :=
  outs.foldl (fun (s : State) (o : Fin 9 × Line × Check × Bool) =>
    match s.outTarget g j o.1 with
    | some c => s.deliver g c { jid := j.jid, group := g, member := o.1, stripe := j.stripe, line := if o.2.2.2 then s.checkLine j.stripe else s.dataLine j.stripe, write := true, check := o.2.2.2, data := o.2.1, word := o.2.2.1, level := j.level, epoch := j.epoch, tEnter := s.tb, replay := false, also := [] }
    | none => s) s

/-- Whether a read of a stripe that has asked for all nine strips is still at work: a repair waits for it (R32, R188). -/
def Hub.rebuilding (h : Hub) (stripe : Nat) : Bool :=
  h.jobs.any fun x => x.kind == JobKind.read && x.stripe == stripe && x.phase == JobPhase.reading && allMembers.all fun m => x.strips[m] != .none

/-- A job opens its journal entry and issues its member writes, or waits for room or for the stripe (R188, R191, R192). A write that
finds a member unreachable by now is a degraded one (R189). -/
def State.openEntry (s : State) (g : Fin 8) (jid : Nat) : State :=
  match s.job g jid with
  | none => s
  | some j =>
    if j.jidx.isSome then s
    else if (s.hubs[g].entryFor j.stripe).isSome || s.hubs[g].rebuilding j.stripe then s
    else
      let gone := s.goneMembers g j.epoch j.stripe
      let kind : BitVec 3 := if j.wkind.toNat ≤ 2 ∧ gone ≠ [] then 3 else j.wkind
      let away := match j.away with | some m => some m | none => gone.head?
      let j := { j with wkind := kind, away := away }
      let s := s.modJob g jid fun x => { x with wkind := kind, away := away }
      if s.hubs[g].journalRoom kind = false then s.waitEntry g j
      else
        let outs := j.out.filter fun o => (s.outTarget g j o.1).isSome
        let e : JEntry := { stripe := BitVec.ofNat 32 j.stripe, wmask := memberMask (outs.map (·.1)), done := 0, kind := kind, repoch := j.epoch.setWidth 2, absent := match away with | some m => BitVec.ofNat 4 m.val | none => 0xF, seq := 0 }
        let s := (s.countKind g kind).redoStripe g j.stripe
        let s := if kind = 4 then s else s.noteStale g gone j.stripe
        let s := (s.addEntry g jid e).modJob g jid fun j => { j with phase := .writing }
        s.sendWrites g j outs

/-- A repair of a stripe: a job of its own, ahead of every other of the stripe, whose entry is of kind REPAIR (R185). -/
def State.spawnRepair (s : State) (g : Fin 8) (stripe : Nat) (ws : List (Fin 9 × Line × Check × Bool)) (level : BitVec 2) : State :=
  if ws.isEmpty then s
  else
    let jid := s.ids
    let j := { newJob jid 0 .repair stripe [] false false level with out := ws, wkind := 4, phase := .writing, epoch := s.hubs[g].epoch }
    let s := { s.modHub g fun h => { h with jobs := j :: h.jobs } with ids := s.ids + 1 }
    s.openEntry g jid

/-! ### Zero fill (R200) -/

/-- Whether a chunk is being zero-filled. -/
def Hub.zeroes (h : Hub) (chunk : Nat) : Bool := h.jobs.any fun j => j.kind == JobKind.zero && j.stripe / 8 == chunk

/-- The write that zero-fills one stripe of a chunk, on all nine members. -/
def State.zeroJob (s : State) (g : Fin 8) (jid stripe : Nat) (level : BitVec 2) : Job :=
  let data := s.zeroStripe g stripe
  let strip (m : Fin 9) : Line := if stripOf stripe m = 8 then xorLines data else data.getD (stripOf stripe m) 0
  { newJob jid 0 .zero stripe [] false false level with
    out := allMembers.map fun m => (m, strip m, checkWord g m stripe (strip m), false), wkind := 5, phase := .writing, epoch := s.hubs[g].epoch }

/-- The zero fill of a void chunk begins: eight FULL writes, each with a ZERO entry of its own, ahead of what waits for the chunk (R200). -/
def State.spawnZero (s : State) (g : Fin 8) (chunk : Nat) (level : BitVec 2) : State :=
  let jids := (List.range 8).map fun i => s.ids + i
  let js := (List.range 8).map fun i => s.zeroJob g (s.ids + i) (8 * chunk + i) level
  let s := { s.modHub g fun h => { h with jobs := js ++ h.jobs } with ids := s.ids + 8 }
  jids.foldl (fun (s : State) (jid : Nat) => s.openEntry g jid) s

/-! ### The boundary window of a relayout (R264, R267) -/

/-- A checkpoint written for a group (R267). -/
def State.checkpoint (s : State) (g : Fin 8) (v : Nat) : State := { s with ao := { s.ao with ckpt := s.ao.ckpt.set g v } }

/-- How many chunks from `k` on, up to `e`, are void with no zero fill at work on them. -/
def State.voidRun (s : State) (g : Fin 8) (k e : Nat) : Nat :=
  ((s.hubs[g].jobs.filter fun j => j.kind == JobKind.zero && decide (k ≤ j.stripe / 8)).foldl (fun (n : Nat) j => min n (j.stripe / 8)) e) - k

/-- The first stripe from `b` on that a relayout does not pass at once: it passes void chunks that are not being zero-filled, and clean
regions of a resynchronisation. -/
def State.passTo (s : State) (g : Fin 8) (r : Relayout) : (fuel : Nat) → Nat → Nat
  | 0, b => b
  | fuel + 1, b =>
    if s.groupStripes ≤ b then s.groupStripes
    else match s.hubs[g].voids.find? fun v => decide (v.1 ≤ b / 8) && decide (b / 8 < v.2) && !s.hubs[g].zeroes (b / 8) with
      | some v => s.passTo g r fuel (8 * (b / 8 + s.voidRun g (b / 8) v.2))
      | none =>
        if r.kind = .resync ∧ r.full = false ∧ s.isStale g b = false then
          s.passTo g r fuel (match (s.hubs[g].stale.filter fun k => decide (b / 2048 < k)).foldl (fun (a : Option Nat) k => some (match a with | some x => min x k | none => k)) none with
            | some k => 2048 * k
            | none => s.groupStripes)
        else b

/-- As far as a relayout passes from a stripe on. -/
def State.passFrom (s : State) (g : Fin 8) (r : Relayout) (b : Nat) : Nat :=
  min s.groupStripes (s.passTo g r (s.hubs[g].voids.length + s.hubs[g].stale.length + 1) b)

/-- BOUND moved on, with the checkpoint at each multiple of 2,048 (R267). -/
def State.advanceTo (s : State) (g : Fin 8) (r : Relayout) (b : Nat) : State :=
  let s := s.setRly g (some { r with bound := b, done := r.done.filter fun k => decide (b ≤ k) })
  if b / 2048 = r.bound / 2048 then s else s.checkpoint g (b / 2048 * 2048)

/-- BOUND past every stripe that has retired with all those below it (R264). -/
def State.settleBound (s : State) (g : Fin 8) : (fuel : Nat) → State
  | 0 => s
  | fuel + 1 =>
    match s.spr.rly[g] with
    | none => s
    | some r =>
      let b := s.passFrom g r r.bound
      if r.done.contains b then (s.advanceTo g r (b + 1)).settleBound g fuel else s.advanceTo g r b

/-- The stripes that the relayout of a group has in hand: asked for, or at work at its hub. -/
def State.windowStripes (s : State) (g : Fin 8) : List Nat :=
  (s.reqs.filter fun r => r.src == srcVane && r.hub == g).map Req.ring

/-- The checkpoint of a relayout that has stopped, once its window is empty: after a suspension, and for a Squall (R267). -/
def State.checkpointStopped (s : State) (g : Fin 8) : State :=
  match s.spr.rly[g] with
  | some r => if (r.suspended || s.parity pageSpr || s.fab.wrst || s.mode.mode == .holdUp) && (s.windowStripes g).isEmpty then s.checkpoint g r.bound else s
  | none => s

/-- The destination has acknowledged a stripe of the window: it has retired (R264). -/
def State.relayRetired (s : State) (g : Fin 8) (j : Job) : State :=
  match j.dst, s.spr.rly[g] with
  | some d, some r =>
    if r.dst = d ∧ r.bound ≤ j.stripe then (s.setRly g (some { r with done := j.stripe :: r.done })).settleBound g 17 else s
  | _, _ => s

/-! ### The end of a job -/

/-- Whether a request's work at the hubs is over. -/
def Req.idle (r : Req) : Bool := r.phase == .admitted && r.jobs == 0

/-- Data bytes of a protection block of a read, when every line of it is good. -/
def blockBytes (out : List (Nat × Line × Bool)) (first n : Nat) : Option (List Byte) :=
  if (List.range n).any fun k => match out.find? fun o => o.1 == first + k with
    | some o => o.2.2
    | none => true
  then none
  else some ((List.range n).flatMap fun k => match out.find? fun o => o.1 == first + k with
    | some o => lineBytes o.2.1
    | none => [])

/-- A tuple of 8 bytes against its block (R58): the guard, the reference tag, and the skip on an application tag of 0xFFFF.
Tuple fields are big-endian. -/
def tupleOk (t : List Byte) (data : List Byte) (ref_ : BitVec 32) : Bool :=
  let be (l : List Byte) : Nat := l.foldl (fun a b => 256 * a + b.toNat) 0
  (be ((t.drop 2).take 2) == 0xFFFF) ||
    (be (t.take 2) == (crcT10 data).toNat && be ((t.drop 4).take 4) == ref_.toNat)

/-- The stored tuples of a READ, from the line operation that read them (R56, R195). -/
def State.storedTuples (s : State) (r : Req) (n : Nat) : Option (List Byte) :=
  match r.out.find? fun o => o.1 == r.lines with
  | some (_, d, false) => some (((lineBytes d).drop (s.tupleAddr r.src r.byteAddr % 64)).take (8 * n))
  | _ => none

/-- The outcome of a READ whose lines are in (R52, R54 steps 7 and 8, R57, R58). -/
def State.finishRead (s : State) (r : Req) : State :=
  let data := r.out.filter fun o => o.1 < r.lines
  let code := if data.any fun o => o.2.2 then rspPoison else rspOk
  if r.pi = 0 then s.finishReq r.rid code
  else
    let n := s.piBlocks r
    let per := s.piSize r.src / 64
    match s.storedTuples r n with
    | none => (s.modReq r.rid fun r => { r with out := (data.map fun o => (o.1, (0 : Line), true)) ++ (if r.pi = 1 then [(r.lines, (0 : Line), true)] else []) }).finishReq r.rid rspPoison
    | some ts =>
      let bad := (List.range n).any fun b => match blockBytes data (b * per) per with
        | some d => !tupleOk ((ts.drop (8 * b)).take 8) d (r.aux.setWidth 32 + BitVec.ofNat 32 b)
        | none => false
      if bad then (s.modReq r.rid fun r => { r with out := [] }).finishReq r.rid rspPiError
      else
        let pi := if r.pi = 1 then [(r.lines, lineOf (ts ++ fillBytes 0 (64 - ts.length)), false)] else []
        (s.modReq r.rid fun r => { r with out := data ++ pi }).finishReq r.rid code

/-- Whether a solo write's entry was set POISONED while it was in flight, even where it has been cleared since (R117). -/
def State.soloLost (s : State) (r : Req) : Bool :=
  r.decisions.any fun d => d.solo && (s.solo d.owner).isSome && !((s.entry d.granule).st == entSolo && (s.entry d.granule).owner == d.owner)

/-- A solo write whose entry was lost: its slots are freed and it returns LEDGER_FULL, which is no exhaustion (R117). LEDGER_FULL changes
nothing (R109): where it claimed another granule too, that one's entry becomes CLEAN with CSLOT unchanged, as at the freeze. -/
def State.refuseSolo (s : State) (r : Req) : State :=
  let s := r.decisions.foldl (fun (s : State) (d : Decision) => match s.solo d.owner with
    | some x => if d.solo then s.rollSolo d.owner x else s
    | none => s) s
  (s.ledgerFull r.rid false).retryLedger

/-- A request whose member operations are all done: a READ is assembled; a write lands. A solo write waits for SOLO_DONE
(R108); one whose granule became POISONED meanwhile returns LEDGER_FULL (R117), and one that the freeze has rolled back ABORTED, also where
its granule became POISONED before the freeze (R120; DESIGN CHOICE, assumption 86). A relayout copy leaves (R264). -/
def State.settleReq (s : State) (rid : Nat) : State :=
  match s.req rid with
  | none => s
  | some r =>
    if r.idle = false then s
    else if r.src = srcVane then (s.dropReq rid).checkpointStopped r.hub
    else if r.op = opcRead then (s.finishRead r).retryLedger
    else
      let s := s.dropInflight r
      let code := if r.xorBad then rspPoison else rspOk
      match r.decisions.find? fun d => d.solo with
      | none => (s.finishReq rid code).retryLedger
      | some _ =>
        if s.soloLost r then s.refuseSolo r
        else if r.decisions.all fun d => !d.solo || (s.solo d.owner).isNone then s.finishReq rid rspAborted
        else s

/-- One job of a request is over. -/
def State.endJob (s : State) (g : Fin 8) (jid : Nat) : State :=
  match s.job g jid with
  | none => s
  | some j =>
    let s := s.modHub g fun h => { h with jobs := h.jobs.filter fun x => x.jid != jid }
    if j.rid = 0 then s
    else (s.modReq j.rid fun r => { r with jobs := r.jobs - 1 }).settleReq j.rid

/-! ### Finishing the reads of a job -/

/-- Whether all nine strips of a job have been asked for. -/
def Job.askedAll (j : Job) : Bool := allMembers.all fun m => j.strips[m] != .none

/-- Whether a member read of a job is on its way. -/
def Job.waits (j : Job) : Bool := allMembers.any fun m => j.strips[m] == .pending

/-- Members whose strips failed or cannot be reached. -/
def Job.failing (j : Job) : List (Fin 9) :=
  allMembers.filter fun m => match j.strips[m] with
    | .bad _ _ => true
    | .gone => true
    | _ => false

/-- Lines delivered as POISON are counted and raised (R201, R418). -/
def State.countPoison (s : State) (g : Fin 8) (n : Nat) : State :=
  if n = 0 then s
  else (s.modHub g fun h => { h with poisonCnt := satAdd h.poisonCnt n }).raise (pageGrp g) 1

/-- Whether a line of a read job is rebuilt from the other strips. -/
def State.lineRebuilt (s : State) (g : Fin 8) (j : Job) (o : LineOp) : Bool :=
  (j.strips[s.lineMember o]).stored.isNone && (stripValue j.strips (s.noRebuild g j.stripe j.strips (s.lineMember o)) (s.lineMember o)).isSome

/-- A read job hands its lines to the request, with the mends its stripe calls for (R185, R186). While an entry is open on the stripe its
repair is under way, and none is begun. -/
def State.finishReadJob (s : State) (g : Fin 8) (j : Job) : State :=
  let stalledOnly := allMembers.filter fun m => j.recon.getLsbD m.val && (s.target g m j.stripe).isSome
  let mends := j.askedAll && !j.waits && (s.hubs[g].entryFor j.stripe).isNone
  let (s, ws) := if mends then s.mendStripe g j.stripe j.strips stalledOnly else (s, [])
  let out := j.lines.map fun o =>
    let m := s.lineMember o
    match stripValue j.strips (s.noRebuild g j.stripe j.strips m) m with
    | some d => (o.index, s.decryptAt (o.addr.toNat * 64) d, false)
    | none => (o.index, (0 : Line), true)
  let s := if j.tuple then s else s.countPoison g (out.filter fun o => o.2.2).length
  let s := (j.lines.map s.lineMember).foldl (fun (s : State) (m : Fin 9) => if j.strips[m] = Strip.gone then s.noteUnsure g j.stripe j.strips m else s) s
  let s := s.modReq j.rid fun r => { r with out := r.out ++ out }
  let rebuilt := j.lines.filter fun o => s.lineRebuilt g j o
  let s := (rebuilt.filter fun o => j.recon.getLsbD (s.lineMember o).val).foldl (fun (s : State) (_ : LineOp) => s.bumpRt g) s
  let s := if rebuilt.isEmpty then s else s.flagReq j.rid flagRecon
  let s := s.endJob g j.jid
  s.spawnRepair g j.stripe ws j.level

/-- The new value of one changed line, as it is stored: none where a poisoned line stays poisoned (R190, R194, R420). -/
def State.newStrip (s : State) (xor : Bool) (o : LineOp) (old : Option Line) : Option Line :=
  let a := o.addr.toNat * 64
  if o.poison then none
  else if xor then
    old.map fun d => s.encryptAt a (mergeBytes (s.decryptAt a d) (s.decryptAt a d ^^^ o.data) o.be)
  else if o.be = BitVec.allOnes 64 then some (s.encryptAt a o.data)
  else old.map fun d => s.encryptAt a (mergeBytes (s.decryptAt a d) o.data o.be)

/-- The stored contents of a strip for parity over what is stored (R190). -/
def storedForParity (strips : Vector Strip 9) (lost : Bool) (m : Fin 9) : Line :=
  match strips[m] with
  | .got d => d
  | .poisoned => poisonLine
  | .bad d _ => (stripValue strips lost m).getD (if (allMembers.filter fun j => j != m).all fun j => (strips[j].stored).isSome then d else poisonLine)
  | _ => (stripValue strips lost m).getD 0

/-- What a write job stores once its old strips are in (R189, R190, R194, R275, R420), and the repairs of old strips that fail their checks,
as for a read (R185). -/
def State.composeWrite (s : State) (g : Fin 8) (j : Job) : State × List (Fin 9 × Line × Check × Bool) × List (Fin 9 × Line × Check × Bool) :=
  let pm := parityMember j.stripe
  let away := s.goneMembers g j.epoch j.stripe
  let two := decide (2 ≤ away.length)
  let old (m : Fin 9) : Option Line := match j.strips[m] with
    | .got d => some d
    | .poisoned => none
    | _ => stripValue j.strips (s.noRebuild g j.stripe j.strips m) m
  let news := j.lines.map fun o => (s.lineMember o, o, s.newStrip j.xor o (old (s.lineMember o)))
  -- lines that stay poisoned, and lost lines that a write cannot reach
  let kept := (news.filter fun n => n.2.2.isNone && !n.2.1.poison).length
  let lostW := (news.filter fun n => two && away.contains n.1).length
  let s := { s with err := { s.err with keepCnt := if j.xor then s.err.keepCnt else satAdd s.err.keepCnt kept } }
  let s := { s with spr := { s.spr with lostWrCnt := satAdd s.spr.lostWrCnt lostW } }
  let s := if j.xor ∧ kept ≠ 0 then (s.modReq j.rid fun r => { r with xorBad := true }) else s
  -- strips of this stripe that failed: those that cannot be rebuilt become poisoned here (R190)
  let dead := allMembers.filter fun m => (j.strips[m]).failed && m != pm && (stripValue j.strips (s.noRebuild g j.stripe j.strips m) m).isNone
  let s := dead.foldl (fun s m => if news.any fun n => n.1 == m && n.2.2.isSome then s else (s.noteUnsure g j.stripe j.strips m).logPoison g j.stripe m) s
  let (s, mends) := (allMembers.filter fun m => (j.strips[m]).failed && !dead.contains m).foldl
    (fun (acc : State × List (Fin 9 × Line × Check × Bool)) m =>
      let (s, l) := acc.1.mendStrip g j.stripe j.strips m
      (s, acc.2 ++ l)) (s, [])
  let s := s.noteFailures g j.stripe j.strips (allMembers.filter fun m => !away.contains m)
  let value (m : Fin 9) : Line :=
    match news.find? fun n => n.1 == m with
    | some n => (match n.2.2 with
      | some d => d
      | none => if n.2.1.poison || dead.contains m then poisonLine else storedForParity j.strips (s.noRebuild g j.stripe j.strips m) m)
    | none => if dead.contains m then poisonLine else storedForParity j.strips (s.noRebuild g j.stripe j.strips m) m
  let datas := (allMembers.filter fun m => m != pm)
  let parity := if j.askedAll || j.wkind == 0 || j.wkind == 2 || (j.wkind == 3 && away.any fun m => m != pm && news.any fun n => n.1 == m) then xorLines (datas.map value)
    else (news.foldl (fun p n => p ^^^ value n.1 ^^^ ((old n.1).getD (storedForParity j.strips false n.1))) ((old pm).getD 0))
  let dataOut := news.filterMap fun n => match n.2.2 with
    | some d => some (n.1, d, checkWord g n.1 j.stripe d, false)
    | none => if n.2.1.poison then some (n.1, poisonLine, poisonWord g n.1 j.stripe, false) else none
  let deadOut := (dead.filter fun m => !(dataOut.any fun o => o.1 == m)).map fun m => (m, poisonLine, poisonWord g m j.stripe, false)
  let out := dataOut ++ deadOut
  let parityOut := if two || (out.isEmpty && !j.askedAll) then [] else [(pm, parity, checkWord g pm j.stripe parity, false)]
  (s, out ++ parityOut, mends)

/-- A write job composes its strips and opens its entry; a repair that its old strips call for goes first, under an entry of its own
(R185, R188). -/
def State.finishWriteReads (s : State) (g : Fin 8) (j : Job) : State :=
  let (s, out, mends) := s.composeWrite g j
  let out := out.filter fun o => (s.targetOf g j.epoch o.1 j.stripe).isSome
  let s := if out.isEmpty then s.endJob g j.jid else s.modJob g j.jid fun j => { j with out := out, phase := .writing }
  (s.spawnRepair g j.stripe mends j.level).openEntry g j.jid

/-- The strip a relayout writes to its destination: the value of the strip, or its poison marking (R264, R275, R419). -/
def relayStrip (g : Fin 8) (m : Fin 9) (stripe : Nat) (strips : Vector Strip 9) (lost : Bool) : Line × Check × Bool :=
  let bad : Line × Check × Bool := (poisonLine, poisonWord g m stripe, true)
  if stripOf stripe m = 8 then
    -- parity is over what is stored
    let others := (allMembers.filter fun j => j != m).map fun j => match strips[j] with
      | .got d => d
      | .poisoned | .bad _ _ => poisonLine
      | _ => 0
    let p := match strips[m] with
      | .got d => d
      | _ => xorLines others
    (p, checkWord g m stripe p, false)
  else match strips[m] with
    | .poisoned => (poisonLine, poisonWord g m stripe, false)
    | _ => match stripValue strips lost m with
      | some d => (d, checkWord g m stripe d, false)
      | none => bad

/-- Parity over the stored contents of a stripe that a relayout makes whole, given its strips, what is mended, and the new strip of the
member: none where it is not known or needs no write (R275). -/
def wholeParity (stripe : Nat) (strips : Vector Strip 9) (ws : List (Fin 9 × Line × Check × Bool)) (m : Fin 9) (d : Line) : Option Line :=
  let pm := parityMember stripe
  let now (i : Fin 9) : Option Line :=
    if i = m then some d
    else match ws.find? fun w => w.1 == i with
      | some w => some w.2.1
      | none => strips[i].stored
  let datas := (allMembers.filter fun i => i != pm).map now
  if pm = m ∨ datas.any Option.isNone = true then none else some (xorLines (datas.map fun o => o.getD 0))

/-- The writes of a relayout copy whose strips are in: the strip to the destination, and what R185 and R275 mend of the others. -/
def State.composeRelay (s : State) (g : Fin 8) (j : Job) (r : Relayout) : State × List (Fin 9 × Line × Check × Bool) :=
  let m := r.mem
  let copying := r.kind = .evacuate ∨ r.kind = .return_
  let wasLost := s.noRebuild g j.stripe j.strips m
  let s := if j.strips[m] = Strip.gone then s.noteUnsure g j.stripe j.strips m else s
  let bads := allMembers.filter fun i => (j.strips[i]).failed
  let dead := decide copying && (j.strips[m]).failed && (stripValue j.strips wasLost m).isNone
  let (s, ws) := if j.askedAll then s.mendStripe g j.stripe j.strips (if dead then allMembers else if copying then [m] else []) else (s, [])
  let s := if dead then s.recordLoss g j.stripe j.stripe (memberMask (bads ++ allMembers.filter fun i => j.strips[i] == Strip.gone)) 4 else s
  let out := relayStrip g m j.stripe j.strips wasLost
  let s := if out.2.2 && !copying then s.logPoison g j.stripe m else s
  -- the source of a copy is mended where it stands
  let s := s.putStrips g j.stripe (ws.filter fun w => w.1 == m)
  let ws := ws.filter fun w => w.1 != m
  let whole := (s.goneMembers g j.epoch j.stripe).all fun i => i == m
  let ws := if (wasLost || out.2.2 || !bads.isEmpty) && whole then
      match wholeParity j.stripe j.strips ws m out.1 with
      | some p => (ws.filter fun w => w.1 != parityMember j.stripe) ++ [(parityMember j.stripe, p, checkWord g (parityMember j.stripe) j.stripe p, false)]
      | none => ws
    else ws
  (s, (m, out.1, out.2.1, false) :: ws)

/-- A relayout copy writes its strips, under the entry it has held since before its first read (R264); one whose relayout is gone is
rolled back. -/
def State.finishRelay (s : State) (g : Fin 8) (j : Job) : State :=
  let back (s : State) : State := (s.modHub g fun h => { h with journal := match j.jidx with | some k => dropKey h.journal k | none => h.journal }).endJob g j.jid
  match j.dst, s.spr.rly[g] with
  | some d, some r =>
    if r.dst ≠ d then back s
    else
      let (s, out) := s.composeRelay g j r
      let outs := out.filter fun o => (s.outTarget g j o.1).isSome
      if outs.isEmpty then back s
      else
        let s := match j.jidx with
          | some k => s.modHub g fun h => { h with journal := h.journal.map fun (e : Nat × JEntry) => if e.1 = k then (k, { e.2 with wmask := memberMask (outs.map fun (o : Fin 9 × Line × Check × Bool) => o.1) }) else e }
          | none => s
        (s.modJob g j.jid fun j => { j with out := outs, phase := .writing }).sendWrites g j outs
  | _, _ => back s

/-- A stalled member is read directly after all when another strip of the stripe has failed (R187). -/
def State.readStalledBack (s : State) (g : Fin 8) (j : Job) : State :=
  if j.failing.length < 2 then s
  else
    let back := j.failing.filter fun (m : Fin 9) => j.recon.getLsbD m.val && (s.targetOf g j.epoch m j.stripe).isSome && j.strips[m] == Strip.gone
    let s := back.foldl (fun (s : State) (m : Fin 9) => s.modJob g j.jid fun j => { j with strips := j.strips.set m Strip.none, recon := j.recon &&& ~~~(1#9 <<< m.val) }) s
    s.askStrips g j.jid back

/-- A read that waits for a second stalled member proceeds by a direct read once its own member is available first (R187). -/
def State.readDirectAfterAll (s : State) (g : Fin 8) (j : Job) : State :=
  let held := allMembers.any fun m => j.strips[m] == Strip.pending && (match s.targetOf g j.epoch m j.stripe with
    | some c => s.slices[c].stalled
    | none => false)
  if j.kind ≠ JobKind.read ∨ held = false then s
  else
    let back := (j.lines.map s.lineMember).eraseDups.filter fun m => j.strips[m] == Strip.gone && (match s.targetOf g j.epoch m j.stripe with
      | some c => !s.slices[c].stalled
      | none => false)
    let s := back.foldl (fun (s : State) (m : Fin 9) => s.modJob g j.jid fun j => { j with strips := j.strips.set m Strip.none, recon := j.recon &&& ~~~(1#9 <<< m.val) }) s
    s.askStrips g j.jid back

/-- Whether the lines of a read are all in without a reconstruction. -/
def State.linesIn (s : State) (j : Job) : Bool := j.lines.all fun o => (j.strips[s.lineMember o].stored).isSome

/-- Whether a reconstruction may ask for the other strips of the stripe: no store on it is at work or comes first (R188). -/
def State.mayRebuild (s : State) (g : Fin 8) (j : Job) : Bool :=
  let h := s.hubs[g]
  j.stores || ((h.entryFor j.stripe).isNone && !((h.before j).any Job.stores) &&
    !(h.jobs.any fun x => x.stripe == j.stripe && x.stores && x.phase != .blocked))

/-- A job is finished when the last of its member reads has returned (R110, R161); a read whose lines are not all in waits until every
strip has been asked for. -/
def State.finishIfIn (s : State) (g : Fin 8) (j : Job) : State :=
  if j.waits then s
  else if j.kind = JobKind.read then (if s.linesIn j || j.failing.isEmpty || j.askedAll then s.finishReadJob g j else s)
  else if j.kind = JobKind.relay then s.finishRelay g j
  else s.finishWriteReads g j

/-- Something done with a job as it stands now. -/
def State.withJob (s : State) (g : Fin 8) (jid : Nat) (f : State → Job → State) : State :=
  match s.job g jid with
  | none => s
  | some j => f s j

/-- A job whose strips come in: more strips are asked for when one fails, and the job is finished when none is pending
(R185 to R188). -/
def State.progress (s : State) (g : Fin 8) (jid : Nat) : State :=
  s.withJob g jid fun s j =>
    if j.phase ≠ JobPhase.reading then s
    else
      let s := if j.failing ≠ [] ∧ j.askedAll = false ∧ s.mayRebuild g j = true then s.askStrips g jid allMembers else s
      let s := s.withJob g jid fun s j => s.readStalledBack g j
      let s := s.withJob g jid fun s j => s.readDirectAfterAll g j
      s.withJob g jid fun s j => s.finishIfIn g j

/-! ### Starting a job -/

/-- The kind of a write and the old strips it reads (R189, R194, R275). -/
def State.planWrite (s : State) (g : Fin 8) (j : Job) : BitVec 3 × List (Fin 9) × Option (Fin 9) :=
  let away := s.goneMembers g j.epoch j.stripe
  let pm := parityMember j.stripe
  let changed := j.lines.map s.lineMember
  let datas := allMembers.filter fun m => m != pm
  let whole (o : LineOp) : Bool := o.be == BitVec.allOnes 64 && !j.xor || o.poison
  let partialOld := (j.lines.filter fun o => !whole o).map s.lineMember
  let fullStripe := decide (j.lines.length = 8) && j.lines.all whole && !j.rmwOnly
  match away with
  | [] =>
    if fullStripe then (0, [], none)
    else if j.xor || j.rmwOnly || decide (changed.length ≤ 4) then (1, pm :: changed, none)
    else (2, (datas.filter fun m => !changed.contains m) ++ partialOld, none)
  | [u] =>
    if u = pm then (3, partialOld, some u)
    else if changed.contains u then
      (if partialOld.contains u then (3, allMembers, some u) else (3, (datas.filter fun m => !changed.contains m) ++ partialOld, some u))
    else (3, pm :: changed, some u)
  | u :: _ => (3, partialOld, some u)

/-- Whether a job must still wait for the stripe (R188). A store waits for every earlier operation on it: one that reads now may yet have to
ask for the whole stripe. -/
def State.jobWaits (s : State) (g : Fin 8) (j : Job) : Bool :=
  let h := s.hubs[g]
  let earlier := h.before j
  if j.tuple && j.stores && s.hubs.any (fun x => x.jobs.any fun y => y.rid == j.rid && !y.tuple) then true
  else if j.stores then
    (h.entryFor j.stripe).isSome || !earlier.isEmpty
  else
    let mine := j.lines.map s.lineMember
    let through := mine.any fun m => j.recon.getLsbD m.val || (s.target g m j.stripe).isNone
    if through then (h.entryFor j.stripe).isSome || earlier.any Job.stores || h.jobs.any fun x => x.stripe == j.stripe && x.stores && x.phase != .blocked
    else earlier.any fun e => e.stores && mine.any fun m => e.willWrite (e.lines.map s.lineMember) h m

/-- A read job starts: what is to be read through is gone from the start, the rest is asked for. A chunk whose map bit is lost reads POISON
(R276). -/
def State.startRead (s : State) (g : Fin 8) (j : Job) : State :=
  if s.mapGone g j.stripe then
    let s := s.modReq j.rid fun r => { r with out := r.out ++ j.lines.map fun o => (o.index, (0 : Line), true) }
    (if j.tuple then s else s.countPoison g j.lines.length).endJob g j.jid
  else if s.isVoid g j.stripe then
    (s.modReq j.rid fun r => { r with out := r.out ++ j.lines.map fun o => (o.index, (0 : Line), false) }).endJob g j.jid
  else
    let mine := j.lines.map s.lineMember
    let thru := mine.filter fun m => j.recon.getLsbD m.val || (s.target g m j.stripe).isNone
    let s := s.modJob g j.jid fun j => { j with phase := .reading, recon := memberMask thru, strips := thru.foldl (fun (v : Vector Strip 9) (m : Fin 9) => v.set m Strip.gone) j.strips }
    let s := s.askStrips g j.jid (mine.filter fun m => !thru.contains m)
    s.progress g j.jid

/-- A relayout copy starts: its REPAIR entry opens before the first member read, of the source or of the other eight members (R264). -/
def State.startRelay (s : State) (g : Fin 8) (j : Job) : State :=
  match j.dst, s.spr.rly[g] with
  | some d, some r =>
    if r.dst ≠ d ∨ j.stripe < r.bound then s.endJob g j.jid
    else if s.hubs[g].journalRoom 4 = false then s.waitEntry g j
    else
      let gone := (s.goneMembers g j.epoch j.stripe).filter fun m => m != r.mem
      let e : JEntry := { stripe := BitVec.ofNat 32 j.stripe, wmask := 1#9 <<< r.mem.val, done := 0, kind := 4, repoch := j.epoch.setWidth 2, absent := match gone with | m :: _ => BitVec.ofNat 4 m.val | [] => if r.kind = .rebuild ∨ r.kind = .resync then BitVec.ofNat 4 r.mem.val else 0xF, seq := 0 }
      let s := (s.addEntry g j.jid e).modJob g j.jid fun j => { j with phase := .reading, tRead := s.tb }
      let s := s.askStrips g j.jid (if r.kind = .evacuate ∨ r.kind = .return_ then [r.mem] else allMembers)
      s.progress g j.jid
  | _, _ => s.endJob g j.jid

/-- Lines of a write that are lost with their member: it has no effect on them, which is counted (R275). -/
def State.passLost (s : State) (g : Fin 8) (j : Job) : State :=
  let lost (o : LineOp) : Bool := s.isLost g j.stripe (s.lineMember o)
  let n := (j.lines.filter lost).length
  if n = 0 then s
  else ({ s with spr := { s.spr with lostWrCnt := satAdd s.spr.lostWrCnt n } }).modJob g j.jid fun j => { j with lines := j.lines.filter fun o => !lost o }

/-- A write asks for its old strips (R189); one of which no line is left is over. -/
def State.startWrite (s : State) (g : Fin 8) (j : Job) : State :=
  if j.lines.isEmpty then s.endJob g j.jid
  else
    let (k, reads, away) := s.planWrite g j
    let s := s.modJob g j.jid fun j => { j with phase := .reading, wkind := k, away := away }
    (s.askStrips g j.jid reads).progress g j.jid

/-- A job starts: void chunks are answered or, before a write, zero-filled, reads go out, a stalled member is read through (R186, R189,
R200). -/
def State.startJob (s : State) (g : Fin 8) (jid : Nat) : State :=
  match s.job g jid with
  | none => s
  | some j =>
    if j.phase ≠ .blocked then s
    else if s.jobWaits g j then s.flagReq j.rid flagJwait
    else
      if j.kind = .read then s.startRead g j
      else if j.kind = .relay then s.startRelay g j
      else
        if s.needsZero g j.stripe then (if s.hubs[g].zeroes (j.stripe / 8) then s else s.spawnZero g (j.stripe / 8) j.level)
        else (s.passLost g j).withJob g jid fun s j => s.startWrite g j

/-- One attempt at every waiting job of a hub, in admission order (R187, R188, R192). -/
def State.kick (s : State) (g : Fin 8) : State :=
  let s := s.releaseHeld g
  (s.hubs[g].jobs.map Job.jid).foldl (fun s jid =>
    match s.job g jid with
    | some j =>
      if j.phase = .blocked then s.startJob g jid
      else if j.phase = .reading then s.progress g jid
      else if j.phase = .writing ∧ j.jidx.isNone then s.openEntry g jid
      else s
    | none => s) s

/-! ### Returns from the slices -/

/-- A strip arrives for a job. -/
def State.stripArrives (s : State) (g : Fin 8) (jid : Nat) (m : Fin 9) (x : Strip) : State :=
  match s.job g jid with
  | none => s
  | some _ => (s.modJob g jid fun j => { j with strips := j.strips.set m x }).progress g jid

/-- A journal entry retires: a write that waits for one from now on is an onset once fewer than 448 are partial (R192), a relayout stripe is
done (R264), and a chunk whose eight zero writes are acknowledged is void no more (R200). -/
def State.retireEntry (s : State) (g : Fin 8) (j : Job) (k : Nat) : State :=
  let s := s.modHub g fun h => { h with journal := dropKey h.journal k }
  let s := s.modHub g fun h => if h.partials < 448 then { h with jwaiting := false } else h
  let s := (s.relayRetired g j).endJob g j.jid
  if j.kind == JobKind.zero && !s.hubs[g].zeroes (j.stripe / 8) then s.clearVoid g (j.stripe / 8) else s

/-- A member write of a job is acknowledged: its DONE bit; the entry retires when DONE equals WMASK (R191). -/
def State.writeAcked (s : State) (g : Fin 8) (jid : Nat) (m : Fin 9) : State :=
  match s.job g jid with
  | none => s
  | some j =>
    match j.jidx with
    | none => s
    | some k =>
      match getKey s.hubs[g].journal k with
      | none => s
      | some e =>
        let e := { e with done := e.done ||| (1#9 <<< m.val) }
        if e.done &&& e.wmask = e.wmask then s.retireEntry g j k
        else s.modHub g fun h => { h with journal := setKey h.journal k e }

/-! ### Work by stripes -/

/-- One line to be stored at a hub: whether the hub XORs it, whether its stripe takes the RMW kind, whether it holds tuples. -/
structure StoreLine where
  op    : LineOp
  xor   : Bool
  rmw   : Bool
  tuple : Bool
  deriving DecidableEq, Repr

/-- The work of one stripe: its hub, its stripe, its kind, its lines. -/
structure StripeWork where
  g      : Fin 8
  stripe : Nat
  xor    : Bool
  rmw    : Bool
  tuple  : Bool
  lines  : List LineOp
  deriving DecidableEq, Repr

/-- A line joins the work of its stripe. -/
def joinWork (l : List StripeWork) (w : StripeWork) : List StripeWork :=
  match l with
  | [] => [w]
  | x :: rest =>
    if x.g = w.g ∧ x.stripe = w.stripe ∧ x.xor = w.xor ∧ x.rmw = w.rmw ∧ x.tuple = w.tuple then { x with lines := x.lines ++ w.lines } :: rest
    else x :: joinWork rest w

/-- Lines gathered by stripe, in order. A line beyond the populated range, such as the tuple of a WRITE whose host has broken R56, has no
stripe and is not stored (DESIGN CHOICE, assumption 80). -/
def State.gather (s : State) (l : List StoreLine) : List StripeWork :=
  l.foldl (fun acc o => match s.mapAddr (o.op.addr.toNat * 64) with
    | some p => joinWork acc { g := p.g, stripe := p.stripe, xor := o.xor, rmw := o.rmw, tuple := o.tuple, lines := [o.op] }
    | none => acc) []

/-- Whether a hub is at work on a stripe: a job that has begun, an open entry (R188), or the zero fill of its chunk (R200). -/
def State.stripeBusy (s : State) (g : Fin 8) (stripe : Nat) : Bool :=
  (s.hubs[g].jobs.any fun j => j.stripe == stripe && j.phase != .blocked) || (s.hubs[g].entryFor stripe).isSome || s.hubs[g].zeroes (stripe / 8)

/-! ### Copies that a vane makes within one step (R113, R114) -/

/-- The stripe writes of one copy counted by their kinds, each under an entry (R189, R191, R201). -/
def State.countCopy (s : State) (w : StripeWork) : State :=
  let plan := s.planWrite w.g { newJob 0 0 .write w.stripe w.lines false false 0 with epoch := s.hubs[w.g].epoch }
  let s := if plan.1 = 3 then s.noteStale w.g (s.goneMembers w.g s.hubs[w.g].epoch w.stripe) w.stripe else s
  (s.countKind w.g plan.1).passEntry w.g

/-- Whether a vane may work on a stripe within one step: no job of the hub is at work on it (R188), its check words find room in the caches
(R220, R229), and, at level 0, its operations find room in the reserve (R161). -/
def State.stripeFree (s : State) (g : Fin 8) (stripe : Nat) (level0 : Bool) : Bool :=
  !s.stripeBusy g stripe && (!level0 || s.reserveRoom g) && allMembers.all fun m => match s.target g m stripe with
    | some c => s.vaneRoom c (s.checkLine stripe)
    | none => true

end Sys2Proof.Machine
end

