-- ==== Sys2Proof/Machine/TelOps.lean ====
section
/-!
DEFINITION. Precise sampling (R449 to R455): the selection of requests, sample and gap records, and the sample FIFO. Also the
measured latency of reads (R164) and the guarantee of R167, which are taken when a response is driven.
-/
namespace Sys2Proof.Machine

/-! ### Selection (R449) -/

/-- N of TEL_SAMP_CFG.SHIFT: 2 to the shift, 1 to 20. -/
def State.sampleN (s : State) : Nat := 2 ^ (min 20 (max 1 (s.cfgField pageTel 0x100 7 3)))

/-- One advance of the Galois LFSR with feedback mask 0x8020_0003. -/
def lfsrNext (l : BitVec 32) : BitVec 32 := if l.getLsbD 0 then (l >>> 1) ^^^ 0x80200003 else l >>> 1

/-- The down-counter reloaded, and the LFSR advanced. -/
def State.reloadSample (s : State) : State :=
  { s with tel := { s.tel with down := 1 + s.tel.lfsr.toNat % (2 * s.sampleN - 1), lfsr := lfsrNext s.tel.lfsr } }

/-- EN rises: the LFSR is loaded from the seed, 0 acting as 1, and the down-counter reloads from it. -/
def State.startSampling (s : State) : State :=
  let seed := s.cfg pageTel 0x104
  ({ s with tel := { s.tel with lfsr := if seed = 0 then 1 else seed } }).reloadSample

/-- Whether a request is eligible. -/
def State.eligible (s : State) (p : Fin 16) (op : BitVec 4) (cls : BitVec 3) : Bool :=
  s.cfgBit pageTel 0x100 0 && decide (op.toNat < 4) && s.cfgBit pageTel 0x100 (16 + p.val) &&
    s.cfgBit pageTel 0x100 (8 + cls.toNat)

/-- The sample number a request accepted now takes, if it is sampled, and the selection after it. -/
def State.sampleNext (s : State) (p : Fin 16) (op : BitVec 4) (cls : BitVec 3) : State × Option (BitVec 32) :=
  if s.eligible p op cls = false then (s, none)
  else if 1 < s.tel.down then ({ s with tel := { s.tel with down := s.tel.down - 1 } }, none)
  else
    let n := s.tel.seq
    (({ s with tel := { s.tel with seq := s.tel.seq + 1, sampCnt := satInc s.tel.sampCnt } }).reloadSample, some n)

/-! ### The sample FIFO (R452 to R454) -/

/-- The 32-bit words of a record, in ascending byte order. -/
def recordWords (r : List Byte) : List (BitVec 32) := (List.range 8).map fun k => wordOf 32 ((r.drop (4 * k)).take 4)

/-- A closing cause: the FILL bank becomes READ when the other bank is FREE, or the cause waits for it (R452). -/
def State.closeFill (s : State) : State :=
  if s.tel.fill.isEmpty then s
  else if s.tel.readBank then { s with tel := { s.tel with closeDue := true } }
  else ({ s with tel := { s.tel with fill := [], read := s.tel.fill.flatMap recordWords, readBank := true, closeDue := false } }).raise pageTel 0

/-- One record written to the FILL bank. -/
def State.writeRecord (s : State) (r : List Byte) : State :=
  let s := { s with tel := { s.tel with fillT := if s.tel.fill.isEmpty then s.tb else s.tel.fillT, fill := s.tel.fill ++ [r], tWrite := some s.tb } }
  if 2048 ≤ s.tel.fill.length then s.closeFill else s

/-- Whether a record that comes now must be dropped (R453). -/
def State.sampleBlocked (s : State) : Bool :=
  decide (2048 ≤ s.tel.fill.length) ||
    (match s.tel.tWrite with
     | some t => decide (s.tb.toNat < t.toNat + 2)
     | none => false)

/-- A record dropped: an episode begins or goes on (R453). -/
def State.dropRecord (s : State) (seq : BitVec 32) : State :=
  let t := s.tel
  let first := !t.dropping
  let s := { s with tel := { t with dropping := true, dropN := t.dropN + 1, dropT0 := if first then s.tb else t.dropT0, dropT1 := s.tb, dropSeq := if first then seq else t.dropSeq, dropCnt := satInc t.dropCnt } }
  s.raiseIf first pageTel 1

/-- The gap record of the episode (R451). -/
def State.gapRecord (s : State) : List Byte :=
  [0x02, 0, 0, 0] ++ natBytes (min s.tel.dropN 0xFFFFFFFF) 4 ++ bytesOf s.tel.dropT0 8 ++ bytesOf s.tel.dropT1 8 ++ [0, 0, 0, 0] ++ bytesOf s.tel.dropSeq 4

/-- A sample record offered to the FIFO: dropped, or written, after the gap record of an episode that ends (R453). -/
def State.offerRecord (s : State) (seq : BitVec 32) (r : List Byte) : State :=
  if s.sampleBlocked then s.dropRecord seq
  else if s.tel.dropping then
    let s := s.writeRecord s.gapRecord
    let s := { s with tel := { s.tel with dropping := false, dropN := 0, gapCnt := satInc s.tel.gapCnt } }
    if 2048 ≤ s.tel.fill.length then s.dropRecord seq else s.writeRecord r
  else s.writeRecord r

/-- The FIFO emptied (R455). -/
def State.clearSamples (s : State) : State :=
  { s with tel := { s.tel with fill := [], read := [], readBank := false, closeDue := false, underrun := false, dropping := false, dropN := 0 } }

/-! ### The sample record (R450) -/

/-- The record of a sampled request. -/
def State.sampleRecord (s : State) (r : Req) (seq : BitVec 32) (code : BitVec 4) (disc : Bool) : List Byte :=
  let lat := if disc then 0xFFFFFFFF else min (s.tb.toNat - r.tAccept.toNat) 0xFFFFFFFF
  [0x01, BitVec.ofNat 8 (r.src.toNat + r.cls.toNat * 32)] ++ natBytes (r.tag.toNat + r.op.toNat * 1024) 2 ++
    natBytes r.addr.toNat 5 ++ natBytes (r.len.toNat + r.grantLvl.toNat * 64) 1 ++
    natBytes (code.toNat + r.hub.val * 16 + (if disc then 128 else 0)) 1 ++
    natBytes (if r.ledgered then r.flags.toNat ||| 1 else r.flags.toNat) 1 ++ natBytes lat 4 ++ bytesOf r.tAccept 8 ++
    natBytes (min r.admitNs 65535) 2 ++ natBytes r.grantEp.toNat 1 ++ [0] ++ bytesOf seq 4

/-- The record of a request whose response is driven or discarded, if it was sampled. -/
def State.sampleDone (s : State) (r : Req) (code : BitVec 4) (disc : Bool) : State :=
  match r.sampled with
  | some n => s.offerRecord n (s.sampleRecord r n code disc)
  | none => s

/-! ### Measured latency and the guarantee (R164, R167) -/

/-- T_min and the maximum read latency of a PL, in ns (R166). -/
def plTmin (pl : Nat) : Nat := match pl with | 0 => 200 | 1 => 250 | 2 => 400 | _ => 1000
def plMaxNs (pl : Nat) : Nat := match pl with | 0 => 2500 | 1 => 3000 | 2 => 5000 | _ => 12000

/-- The slower of the PLs in force while a switch is in progress (R166). -/
def State.slowerPl (s : State) : Nat :=
  if s.pwr.switching then max s.pwr.pl.toNat s.pwr.plGoal.toNat else s.pwr.pl.toNat

/-- The pace floor of a PL, in MHz (R298). -/
def paceFloor (pl : Nat) : Nat := match pl with | 0 => 740 | 1 => 580 | 2 => 330 | _ => 125

/-- The units of a class average in a nanosecond. -/
def avgUnit : Nat := 2 ^ 32

/-- F_pace of a hub from a reading: the cycle ceiling of R129 over the measured cycle, at most 1, in 1/100,000. -/
def paceFactor (pl mhz : Nat) : Nat := min 100000 ((match pl with | 0 => 148 | 1 => 190 | 2 => 333 | _ => 889) * mhz)

/-- F_pace of a group at a PL in 1/100,000 (R169, R174). -/
def State.paceOf (s : State) (pl mon : Nat) : Nat :=
  if s.pwr.paceSeen.getLsbD mon then paceFactor pl (s.pwr.paceMhz[mon]?.getD 0).toNat else 100000

/-- Whether a pace monitor reads below the floor of the PL in operation (R299). -/
def State.paceBelow (s : State) (mon : Nat) : Bool :=
  s.pwr.paceSeen.getLsbD mon && decide ((s.pwr.paceMhz[mon]?.getD 0).toNat < paceFloor s.pwr.pl.toNat)

/-- SHR_STATUS.PACE_LOW: it follows its cause (R174). -/
def State.paceLow (s : State) : Bool := (List.range 16).any s.paceBelow

/-- SHR_STATUS.OVERCOMMIT; set in the safe state of SHR ("SHR page"). -/
def State.overcommit (s : State) : Bool := s.shr.overcommit || s.parity pageShr

/-- Whether a fence is pending at a hub (R143, R144). -/
def State.fencePending (s : State) (g : Fin 8) : Bool := !s.hubs[g].old.isEmpty

/-- A packet of the debug port overtakes another at a hub: its reads are guaranteed no more (R154, R167). -/
def State.voidHub (s : State) (g : Fin 8) : State := s.voidGuarantees fun r => r.hub == g

/-- What a change of the readings or of the PL in operation does (R168, R173, R174): a pace factor that moves by more than 1/64, or a
monitor that crosses its floor, triggers the feasibility check, and PACE is raised when PACE_LOW sets. The factor is compared with that of
the last reading (assumption 92). -/
def State.notePace (s old : State) : State :=
  let new (k : Nat) : Nat := s.paceOf s.pwr.pl.toNat k
  let was (k : Nat) : Nat := old.paceOf old.pwr.pl.toNat k
  let moved (k : Nat) : Bool := decide (k < 8) && (decide (100000 < 64 * (was k - new k)) || decide (100000 < 64 * (new k - was k)))
  let crossed (k : Nat) : Bool := s.paceBelow k != old.paceBelow k
  let noted := (List.range 16).filter fun k => moved k || crossed k
  let s := if noted.isEmpty then s else s.detectCut (maskOf 8 fun k => noted.contains k && decide (new k < was k))
  if s.paceLow && !old.paceLow then (s.raise pageShr 1).voidGuarantees fun _ => true else s

end Sys2Proof.Machine
end

