-- ==== Sys2Proof/Machine/PortOps.lean ====
section
/-!
DEFINITION. What a requester port does with a request: READY (R36, R37), the checks of R54 that are made at the port (R48,
R59, R98, R181), what holds a request back (R46, R47, R55), isolation (R60, R61), responses (R50 to R52), and the group
operations at the ledger (R101, R103, R104).
-/
namespace Sys2Proof.Machine

/-- The configuration page of a port number. -/
def srcPort (p : Fin 16) : BitVec 5 := BitVec.ofNat 5 p.val

/-- Requests of a port, in acceptance order. -/
def State.portReqs (s : State) (p : Fin 16) : List Req := s.reqs.filter fun r => r.src == srcPort p

/-- The request of a port under a tag (R49). -/
def State.byTag (s : State) (p : Fin 16) (tag : BitVec 10) : Option Req := (s.portReqs p).find? fun r => r.tag == tag

/-- Whether a request still stands at its port: its data incomplete, or held. -/
def Req.atPort (r : Req) : Bool := r.phase == .awaitData || r.phase == .held

/-! ### READY -/

/-- Pnn_REQ_READY (R36, R138, R406). -/
def State.reqReady (s : State) (p : Fin 16) : Bool :=
  let x := s.ports[p]
  !x.pinLow && !x.rstActive && !x.isolated && s.cfgBit (pagePort p) 0x040 0 && s.inService && !s.fab.wrst && !s.squall.active &&
    !s.asleepIn 2 && decide (((s.portReqs p).filter Req.atPort).length < 64) && decide ((s.portReqs p).length < 1024)

/-- The oldest accepted write of a port that still awaits data (R37). -/
def State.awaiting (s : State) (p : Fin 16) : Option Req := (s.portReqs p).find? fun r => r.phase == .awaitData

/-- Beats in a port's write-data buffer. -/
def State.bufferedBeats (s : State) (p : Fin 16) : Nat :=
  ((s.portReqs p).filter Req.atPort).foldl (fun n r => n + r.beats.length) 0

/-- Pnn_WD_READY (R37, R61, R64, R324). -/
def State.wdReady (s : State) (p : Fin 16) : Bool :=
  let x := s.ports[p]
  !x.pinLow && !x.rstActive && !x.isolated && s.inService && (s.awaiting p).isSome && decide (s.bufferedBeats p < 256)

/-! ### Checks at the port (R48, R54, R59, R98) -/

/-- Whether an opcode is reserved (R39). -/
def reservedOp (op : BitVec 4) : Bool :=
  !(op.toNat < 4 || op == opcOpen || op == opcCommit || op == opcAbort || op == opcBarrier)

/-- Whether a request is malformed (R48). -/
def State.malformed (s : State) (p : Fin 16) (op : BitVec 4) (r : ReqFields) : Bool :=
  let bytes := (r.len.toNat + 1) * 64
  reservedOp op || (decide (op.toNat < 4) && decide (63 < r.addr.toNat % 64 + r.len.toNat)) ||
    (r.pi != 0 && op != opcRead && op != opcWrite) || (r.pi == 2 && op == opcWrite) || r.pi == 3 ||
    (r.pi != 0 && (decide (r.addr.toNat * 64 % s.piSize (srcPort p) ≠ 0) || decide (bytes % s.piSize (srcPort p) ≠ 0))) ||
    ((op == opcCommit || op == opcAbort) && !r.gv)

/-- Whether an enabled window of a port grants an access to a page (R59). -/
def State.windowGrants (s : State) (p : Fin 16) (write : Bool) (page : Nat) : Bool :=
  (List.range 4).any fun n =>
    let b := s.cfg (pagePort p) (0x060 + 8 * n)
    let l := s.cfg (pagePort p) (0x064 + 8 * n)
    bitOf b 31 && bitOf b (if write then 29 else 30) && decide (fieldOf b 27 0 ≤ page) && decide (page ≤ fieldOf l 27 0)

/-- Whether every line of a request passes the window check, the slot area being denied (R59, R98). The line of a request's tuples is none
of its lines: one that lies in the slot area denies nothing (DESIGN CHOICE, assumption 84). -/
def State.windowPass (s : State) (p : Fin 16) (op : BitVec 4) (r : ReqFields) : Bool :=
  (List.range (r.len.toNat + 1)).all fun k =>
    let a := (r.addr.toNat + k) * 64
    s.windowGrants p (op != opcRead) (a / 4096) && !s.inSlotArea a

/-- Whether every line lies in the populated payload range or in the window (R54 step 3, R98). -/
def State.rangePass (s : State) (r : ReqFields) : Bool :=
  (List.range (r.len.toNat + 1)).all fun k =>
    let a := (r.addr.toNat + k) * 64
    s.inWindow a || decide (a < s.payloadEnd)

/-- The first of checks 1 to 3 of R54 that fails. -/
def State.portVerdict (s : State) (p : Fin 16) (op : BitVec 4) (r : ReqFields) : Option (BitVec 4) :=
  if s.malformed p op r then some rspDenied
  else if op.toNat < 4 then
    if s.windowPass p op r = false then some rspDenied
    else if s.rangePass r = false then some rspDown
    else none
  else none

/-! ### The freeze (R120) -/

/-- A group aborted: ABORTED-UNSWEPT, or FREE with no entry (R104). -/
def State.abortGroup (s : State) (gid : Nat) : State :=
  let s := s.setGroup gid { s.group gid with st := .aborted }.settle
  { s with ledger := { s.ledger with abortCnt := satInc s.ledger.abortCnt } }

/-- The ledger freeze, in one step. -/
def State.freezeLedger (s : State) : State :=
  let open_ := s.ledger.groups.filter fun g => g.2.st == .open_ || g.2.st == .committing
  let s := open_.foldl (fun s g => s.abortGroup g.1) s
  let s := (s.ledger.solos.filter fun x => !x.2.done).foldl (fun s x => s.rollSolo x.1 x.2) s
  let s := { s with ledger := { s.ledger with frozen := true } }
  -- commits that waited for the flip, and solo writes whose member writes are done, return ABORTED
  let s := s.mapReqs fun r =>
    if (r.phase == .ledger && r.op == opcCommit) || (r.idle && r.decisions.any fun d => d.solo) then { r with phase := .done rspAborted } else r
  s.retryLedger

/-- In a warm reset the ledger freezes once every accepted port request has completed and its response has gone (R120, R138). -/
def State.warmFreeze (s : State) : State :=
  if s.fab.wrst && !s.ledger.frozen && s.reqs.all (fun r => decide (16 ≤ r.src.toNat)) then s.freezeLedger else s

/-! ### Isolation and resets (R60, R61, R64, R65) -/

/-- Accepted writes of a port that still await data are dropped, without effect; their tags are free at once (assumption 66). -/
def State.dropAwaiting (s : State) (p : Fin 16) : State :=
  ({ s with reqs := s.reqs.filter fun r => !(r.src == srcPort p && r.phase == .awaitData) } : State).warmFreeze

/-- A port is isolated (R61). -/
def State.isolate (s : State) (p : Fin 16) (cause : BitVec 3) : State :=
  if s.ports[p].isolated then s
  else
    let s := s.modPort p fun x => { x with isolated := true, isoCause := cause }
    let s := (s.raise (pagePort p) 0).logError { cls := clsUc, page := pagePort p, code := 0x0040, detail := cause.setWidth 64 }
    s.dropAwaiting p

/-- The sequence lock of an owner released, its staged writes discarded, which raises SEQ_DROP (R65, R398). -/
def State.dropLockOf (s : State) (owner : BitVec 5) : State :=
  if s.regs.seq.held ∧ s.regs.seq.owner = owner then
    ({ s with regs := { s.regs with seq := SeqLock.reset } }).raiseIf (!s.regs.seq.staged.isEmpty) pageGlb 3
  else s

/-- A port reset starts: READY low, the epoch rises, writes without their data are dropped (R64 steps 1, 2 and 4). -/
def State.startPortReset (s : State) (p : Fin 16) : State :=
  if s.ports[p].rstActive then s
  else
    let s := s.modPort p fun x => { x with rstActive := true, rstDone := false, epoch := x.epoch + 1 }
    (s.dropAwaiting p).dropLockOf (srcPort p)

/-! ### Group operations at the ledger (R101, R103, R104) -/

/-- The first FREE group above the last one allocated (R101). -/
def State.nextGroup (s : State) : Option (BitVec 12) :=
  ((List.range 4096).find? fun k => (s.group ((s.ledger.lastAlloc.toNat + 1 + k) % 4096)).st == .free).map
    fun k => BitVec.ofNat 12 (s.ledger.lastAlloc.toNat + 1 + k)

/-- GROUP_OPEN at the ledger (R44, R101). -/
def State.openGroup (s : State) (rid : Nat) : State :=
  match s.nextGroup with
  | some gid =>
    let s := s.setGroup gid.toNat { st := .open_, entries := 0, inflight := (s.group gid.toNat).inflight }
    let s := { s with ledger := { s.ledger with lastAlloc := gid } }
    (s.modReq rid fun r => { r with gid := gid }).finishReq rid rspOk
  | none =>
    let s := { s with ledger := { s.ledger with exhaustCnt := satInc s.ledger.exhaustCnt } }
    (s.raise (pageLdg 0) 1).finishReq rid rspExhausted

/-- GROUP_COMMIT or GROUP_ABORT at the ledger (R45, R103, R104). A commit then waits for the flip. -/
def State.endGroup (s : State) (rid : Nat) (r : Req) : State :=
  if (s.group r.gid.toNat).st ≠ .open_ then s.finishReq rid rspAborted
  else if r.op = opcCommit then
    let s := s.setGroup r.gid.toNat { s.group r.gid.toNat with st := .committing }
    s.modReq rid fun r => { r with phase := .ledger }
  else (s.abortGroup r.gid.toNat).finishReq rid rspOk

/-- A group operation whose record cannot be corrected: FATAL (R119). It has no effect and stands at its port, from where it is forwarded
again (assumption 83). -/
def State.groupError (s : State) (rid : Nat) (r : Req) : State :=
  let k := if r.op = opcOpen then (s.nextGroup.getD 0).toNat else r.gid.toNat
  (s.tableError false k).modReq rid fun r => { r with phase := .held, tableUc := false }

/-! ### Forwarding (R46, R47, R55) -/

/-- Whether two requests touch a common line. -/
def Req.shares (a b : Req) : Bool :=
  decide (a.op.toNat < 4) && decide (b.op.toNat < 4) && decide (a.addr.toNat < b.addr.toNat + b.lines) &&
    decide (b.addr.toNat < a.addr.toNat + a.lines)

/-- The line of the tuples that a request with PI stores or reads (R56, R57). -/
def State.tupleOf (s : State) (r : Req) : Option Nat :=
  if (r.op = opcRead ∧ r.pi ≠ 0) ∨ (r.op = opcWrite ∧ r.pi = 1) then some (s.tupleAddr r.src r.byteAddr / 64) else none

/-- Whether a request touches a line: one of its own, or the line of its tuples. -/
def State.touches (s : State) (r : Req) (l : Nat) : Bool :=
  (decide (r.op.toNat < 4) && decide (r.addr.toNat ≤ l) && decide (l < r.addr.toNat + r.lines)) || s.tupleOf r == some l

/-- Whether two requests touch a common line through the tuples of one of them (R55). -/
def State.sharesTuple (s : State) (a b : Req) : Bool := (s.tupleOf a).any (s.touches b) || (s.tupleOf b).any (s.touches a)

/-- Whether an earlier request of the same port holds a later one at the port. -/
def Req.holds (a b : Req) : Bool :=
  (a.op == opcBarrier && a.verdict.isNone && (a.aux.getLsbD 0 || a.ord == b.ord)) ||
    (b.ord != 0 && a.ord == b.ord && isWriteOp a.op && !a.isDone) ||
    (a.shares b && !a.isDone) ||
    ((b.op == opcCommit || b.op == opcAbort) && isWriteOp a.op && a.gv && a.gid == b.gid)

/-- Whether a request must wait at its port. -/
def State.mustHold (s : State) (r : Req) : Bool :=
  s.reqs.any fun a => a.src == r.src && decide (a.rid < r.rid) && (a.holds r || (s.sharesTuple a r && !a.isDone))

/-- A request goes on into the core. -/
def State.forward (s : State) (rid : Nat) : State :=
  match s.req rid with
  | none => s
  | some r =>
    if r.op = opcOpen ∨ r.op = opcCommit ∨ r.op = opcAbort then
      if r.tableUc then s.groupError rid r
      else if r.op = opcOpen then s.openGroup rid else s.endGroup rid r
    else s.toLedger rid

/-- A request that is whole is answered when a port check failed, held, or forwarded. -/
def State.takeUp (s : State) (rid : Nat) : State :=
  match s.req rid with
  | none => s
  | some r =>
    match r.verdict with
    | some code => s.finishReq rid code
    | none =>
      if r.op = opcBarrier || s.mustHold r then s.modReq rid fun r => { r with phase := .held }
      else s.forward rid

/-- A held request tried again. -/
def State.retryHeld (s : State) (rid : Nat) : State :=
  match s.req rid with
  | none => s
  | some r => if r.phase = .held ∧ r.op ≠ opcBarrier ∧ s.mustHold r = false then s.forward rid else s

/-! ### Acceptance -/

/-- The hub that serves a request: that of its first line, resolved in the window as the ledger would now. -/
def State.servingHub (s : State) (r : ReqFields) : Option (Fin 8) :=
  let a := r.addr.toNat * 64
  (s.mapAddr (if s.inWindow a then s.readAddr a r.gv r.gid else a)).map Place.g

/-- Whether a read is guaranteed when it is accepted (R167, R173). -/
def State.guaranteedNow (s : State) (op : BitVec 4) (r : ReqFields) : Bool :=
  (match s.servingHub r with | some g => !s.fencePending g && !s.cutOpen g | none => true) &&
  op == opcRead && s.clsReserved r.cls.toNat && decide (r.len.toNat ≤ 7) && (r.pi == 0 || r.pi == 2) && !s.overcommit &&
    !s.paceLow && s.inService && (s.pwr.phase == .awake || s.pwr.phase == .prepare1 || s.pwr.phase == .prepare2 || s.pwr.phase == .rollback) &&
    decide (s.mode.tService.toNat + 100000 ≤ s.tb.toNat)

/-- A fresh request. -/
def newReq (rid : Nat) (src : BitVec 5) (op : BitVec 4) (r : ReqFields) (now : Time) (e : EntryRead := { ecc := 0, tableUc := false }) : Req :=
  { rid := rid, src := src, pepoch := 0, op := op, tag := r.tag, addr := r.addr, len := r.len, cls := r.cls, ord := r.ord
    gv := r.gv, gid := r.gid, pi := r.pi, aux := r.aux, tAccept := now, verdict := none, beats := [], ecc := e.ecc, tableUc := e.tableUc
    phase := .awaitData, hub := 0, stamp := 0, tStamp := 0, refusals := 0, backoff := none, seen := false, ops := []
    jobs := 0, out := [], ledgered := false, ledgerAt := 0, readGrans := [], decisions := [], tuple := none, xorBad := false
    sampled := none, flags := 0, entryLvl := 0, entryEp := 0, grantLvl := 0, grantEp := 0, admitNs := 0, guaranteed := false, dropped := false
    stuck := false, ring := 0 }

/-- The domain of a port's bank: 93 for P00 to P07, 94 for the rest (R309). -/
def portDomain (p : Fin 16) : Nat := if p.val < 8 then 93 else 94

/-- A request enters its port: counted, checked, sampled, and taken up once its data is whole. -/
def State.enterPort (s : State) (p : Fin 16) (op : BitVec 4) (f : ReqFields) (e : EntryRead) : State :=
  let rid := s.ids
  let verdict := s.portVerdict p op f
  let bad := s.malformed p op f
  let denied := !bad && verdict == some rspDenied
  let (s, n) := s.sampleNext p op f.cls
  let r : Req := { newReq rid (srcPort p) op f s.tb e with pepoch := s.ports[p].epoch, verdict := verdict, sampled := n, guaranteed := s.guaranteedNow op f, hub := (s.servingHub f).getD 0 }
  let s := { s with ids := s.ids + 1, reqs := s.reqs ++ [r] }
  let s := s.modPort p fun x => { x with malfCnt := if bad then satInc x.malfCnt else x.malfCnt, denyCnt := if denied then satInc x.denyCnt else x.denyCnt }
  let s := s.telSys 0x01 (some p.val) 1
  let s := if op.toNat < 4 then s.telSys 0x02 (some p.val) (f.len.toNat + 1) else s
  let s := (if s.asleepIn 1 then s.wakeBy 1 else s).lateTraffic (portDomain p)
  if beatsOf op f.len f.pi = 0 then s.takeUp rid else s

/-- A request presented at a port: not taken while READY is low; a tag in use is a protocol error (R34, R36, R38). -/
def State.present (s : State) (p : Fin 16) (op : BitVec 4) (f : ReqFields) (e : EntryRead) : State :=
  if s.reqReady p = false then s
  else if (s.byTag p f.tag).isSome then s.isolate p 3
  else s.enterPort p op f e

/-! ### Responses (R50 to R53) -/

/-- Responses and read-data beats of a request that is not driven. -/
def Req.discards (r : Req) : Nat := 1 + r.out.length

/-- Read-data beats that the block holds for a port (R60). -/
def State.sinkBeats (s : State) (p : Fin 16) : Nat :=
  ((s.portReqs p).filter Req.isDone).foldl (fun n r => n + r.out.length) 0

/-- PRT_SINK_LIMIT as it acts. -/
def State.sinkLimit (s : State) (p : Fin 16) : Nat := min 4032 (max 256 (s.cfgField (pagePort p) 0x04C 11 0))

/-- A port whose held read-data beats exceed its limit is isolated (R60). -/
def State.checkSink (s : State) (p : Fin 16) : State :=
  if s.sinkLimit p < s.sinkBeats p then s.isolate p 4 else s

/-- The response and beats of a completed request discarded and counted (R61, R64, R139). Its tag is free from then on: R49 ends the
use of a tag at a driven response alone, and R64 step 5 frees every tag at the end of a reset; that it ends at the discard, and
that of a dropped write at the drop, as PRT_OUTSTANDING and QUIESCENT show, is the model's choice (assumption 66). -/
def State.discardReq (s : State) (p : Fin 16) (r : Req) (code : BitVec 4) : State :=
  let s := (s.sampleDone r code true).modPort p fun x => { x with discardCnt := satAdd x.discardCnt r.discards }
  s.dropReq r.rid

/-- Whether a port drives no response: isolated or in reset. -/
def Port.mute (x : Port) : Bool := x.isolated || x.rstActive

/-- The measured latency of a READ joins its class (R164), and a missed guarantee is counted (R167). -/
def State.measureRead (s : State) (r : Req) : State :=
  if r.op ≠ opcRead then s
  else
    let ns := s.tb.toNat - r.tAccept.toNat
    let c := r.cls.toNat
    let x := s.shr.classes[c]?.getD ClassSt.reset
    let x := { x with sum := x.sum + ns, count := x.count + 1, maxNs := if x.maxNs.toNat < ns then BitVec.ofNat 32 (min ns 0xFFFFFFFF) else x.maxNs }
    let s := { s with shr := { s.shr with classes := s.shr.classes.setIfInBounds c x } }
    let s := (s.telSys 0x03 (some c) 1).telSys 0x04 (some c) ns
    let still := r.guaranteed && s.clsReserved c && !s.overcommit && !s.paceLow && s.inService && !s.fencePending r.hub
    if still && decide (plMaxNs s.slowerPl < ns) then
      ({ s with shr := { s.shr with missCnt := satInc s.shr.missCnt } }).raise pageShr 2
    else s

/-- A beat put in its place by index. -/
def insertBeat (b : Nat × Line × Bool) (l : List (Nat × Line × Bool)) : List (Nat × Line × Bool) :=
  match l with
  | [] => [b]
  | x :: rest => if b.1 ≤ x.1 then b :: x :: rest else x :: insertBeat b rest

/-- Beats in ascending index (R51). -/
def sortBeats (l : List (Nat × Line × Bool)) : List (Nat × Line × Bool) := l.foldr insertBeat []

/-- Beats as RD drives them, the last one marked (R51). -/
def rdBeats (l : List (Nat × Line × Bool)) : List RdBeat :=
  l.zipIdx.map fun b => { idx := BitVec.ofNat 7 b.1.1, data := b.1.2.1, poison := b.1.2.2, last := b.2 + 1 == l.length }

/-- The response of a completed request is driven, its beats in ascending index before it (R50 to R52); the group ID only for
GROUP_OPEN. -/
def State.driveRsp (s : State) (p : Fin 16) (r : Req) (code : BitVec 4) : State :=
  let beats := if r.op = opcRead ∧ (code = rspOk ∨ code = rspPoison) then rdBeats (sortBeats r.out) else []
  let rsp : RspOut := { tag := r.tag, code := code, gid := if r.op = opcOpen then (if code = rspOk then r.gid else 0) else 0, beats := beats }
  let s := (s.measureRead r).sampleDone r code false
  (s.modPort p fun x => { x with rsp := some rsp }).dropReq r.rid

/-- The response of a tag: driven, or discarded at a port that drives none. -/
def State.respond (s : State) (p : Fin 16) (tag : BitVec 10) : State :=
  let s := s.checkSink p
  match s.byTag p tag with
  | none => s
  | some r =>
    match r.phase with
    | .done code => if s.ports[p].mute then s.discardReq p r code else s.driveRsp p r code
    | _ => s

end Sys2Proof.Machine
end

