-- ==== Sys2Proof/Machine/RegOps.lean ====
section
/-!
DEFINITION. Apply points (R9, R380 to R382): shadows taken out and applied in one step, and what an applied value sets off in its
unit: a new ring ("ING page"), a feasibility check and a fresh average (R163, R164, R168).
-/
namespace Sys2Proof.Machine

/-- A stored value under the written bits of a shadow. -/
def mergeMask (old : Reg) (x : Shadow) : Reg := (old &&& ~~~x.mask) ||| (x.value &&& x.mask)

/-- A register's pending value where one exists, else its applied value (R378). -/
def State.pendingOr (s : State) (page ofs : Nat) : Reg :=
  match getKey s.regs.shadows (regKey page ofs) with
  | some x => mergeMask (s.stored page ofs) x
  | none => s.stored page ofs

/-- The apply point of a register. -/
def applyOf (page ofs : Nat) : Apply :=
  match regSpec page ofs with
  | some r => r.ap
  | none => .imm

/-- Offsets of a page with a shadow under an apply point. -/
def State.pendingAt (s : State) (page : Nat) (ap : Apply) : List Nat :=
  (s.regs.shadows.filter fun x => x.1 / 1024 == page && applyOf page (x.1 % 1024) == ap).map fun x => x.1 % 1024

/-- One shadow applied. -/
def State.applyShadow (s : State) (page ofs : Nat) : State :=
  let v := s.pendingOr page ofs
  let s := s.store page ofs v
  { s with regs := { s.regs with shadows := dropKey s.regs.shadows (regKey page ofs) } }

/-! ### Rings (R93) -/

/-- WRAP mode. -/
def State.ingWrap (s : State) (n : Fin 8) : Bool := s.cfgBit (pageIng n) 0x040 0

/-- Ring base, and ring size in bytes. -/
def State.ringBase (s : State) (n : Fin 8) : Nat := s.pairStored (pageIng n) 0x050
def State.ringSize (s : State) (n : Fin 8) : Nat := fieldOf (s.stored (pageIng n) 0x058) 23 0 * 4096

/-- The pointers at the start of a new ring ("ING page"). -/
def Ingest.newRing (x : Ingest) : Ingest :=
  { x with cwp := 0, rp := 0, wp := 0, pos := 0, seq := 0, trigPos := BitVec.allOnes 64, frozen := false, records := [] }

/-! ### Values applied -/

/-- What the applied values of a page set off, given the state before. A class whose TARGET_NS changes starts its average anew before the
epoch takes in what its reads took (R164, assumption 92); reads of a class whose TGT_EN is cleared are guaranteed no more (R167). -/
def State.appliedHook (s old : State) (page : Nat) (ofss : List Nat) : State :=
  if 0x20 ≤ page ∧ page < 0x28 then
    let n : Fin 8 := groupOf (page - 0x20)
    if s.ringBase n ≠ old.ringBase n ∨ s.ringSize n ≠ old.ringSize n then s.modIng n Ingest.newRing else s
  else if page = pageShr then
    let s := (List.range 8).foldl (fun (s : State) (c : Nat) =>
      if s.clsTarget c = old.clsTarget c then s
      else { s with shr := { s.shr with classes := s.shr.classes.setIfInBounds c { s.shr.classes[c]?.getD ClassSt.reset with avg := 0 } } }) s
    (s.voidGuarantees fun r => old.clsTgtEn r.cls.toNat && !s.clsTgtEn r.cls.toNat).feasTrigger
  else if page = pageLdg 0 ∧ ofss.contains 0x054 then s.feasTrigger
  else if page = pageSpr ∧ ofss.contains 0x044 then s.feasTrigger
  else s

/-- Every pending value of a page under one apply point takes effect in one step (R382). -/
def State.applyPoint (s : State) (page : Nat) (ap : Apply) : State :=
  let l := s.pendingAt page ap
  if l.isEmpty then s
  else
    let t := l.foldl (fun (t : State) (o : Nat) => t.applyShadow page o) s
    let t := t.modHeader page fun h => { h with applied := h.applied + 1 }
    t.appliedHook s page l

/-- Page indexes that hold registers. -/
def allPages : List Nat := (List.range 256).filter fun p => (pageKind p).isSome

/-- An apply point of several pages. -/
def State.applyPages (s : State) (pages : List Nat) (ap : Apply) : State :=
  pages.foldl (fun (s : State) (p : Nat) => s.applyPoint p ap) s

/-- What counts as idle for a page whose registers apply at IDLE: no request outstanding at a port ("PRT page"), an ingest port
OFF ("ING page"), no operation at a slice. -/
def State.unitIdle (s : State) (page : Nat) : Bool :=
  match pageKind page with
  | some (.prt, n) => !(s.reqs.any fun r => r.src.toNat == n)
  | some (.ing, n) => (s.ingest[n]?.map fun x => x.phase == .off).getD false
  | some (.ch, n) => (s.slices[n]?.map fun x => x.sched.ops.isEmpty).getD false
  | _ => false

end Sys2Proof.Machine
end

