-- ==== Sys2Proof/Machine/Ingest.lean ====
section
/-!
DEFINITION. Stream ingest ports: beats and segments (R70 to R73), records and descriptors (R74 to R76), the FIFO states (R77), the
drain (R78, R81 to R83), drops (R80), trigger and freeze (R84 to R86), reset and enabling (R88, R89, R92), and the meanings of
the ING commands.
-/
namespace Sys2Proof.Machine

/-! ### Configuration -/

/-- The cut-through threshold in bytes (R78, R93). -/
def State.cutBytes (s : State) (n : Fin 8) : Nat := min 16 (max 1 (s.cfgField (pageIng n) 0x040 20 16)) * 4096

/-- Source number of an ingest port (R127). -/
def srcIng (n : Fin 8) : BitVec 5 := BitVec.ofNat 5 (0x10 + n.val)

/-! ### Flags of descriptors (R75) -/

def ingSop : BitVec 16 := 0x01
def ingEop : BitVec 16 := 0x02
def ingSplit : BitVec 16 := 0x04
def ingSopClose : BitVec 16 := 0x08
def ingIdleClose : BitVec 16 := 0x10
def ingDisabled : BitVec 16 := 0x20
def ingTrig : BitVec 16 := 0x40
def ingFreeze : BitVec 16 := 0x80

/-- A descriptor line: fields, then the CRC32 over bytes 0 to 59 (R75). -/
def descriptor (type : Byte) (n : Fin 8) (flags : BitVec 16) (stripes : Nat) (seq : BitVec 64) (w16 : BitVec 64)
    (tFirst tLast : Time) (pos : BitVec 64) : Line :=
  let head := [type, BitVec.ofNat 8 n.val] ++ bytesOf flags 2 ++ natBytes stripes 4 ++ bytesOf seq 8 ++ bytesOf w16 8 ++
    bytesOf tFirst 8 ++ bytesOf tLast 8 ++ bytesOf pos 8 ++ fillBytes 0 12
  lineOf (head ++ bytesOf (crc32 head) 4)

/-- Stripes of a data record (R74). -/
def recordStripes (dataBytes : Nat) : Nat := (dataBytes + 64 + 511) / 512

/-- The trailer of a segment. -/
def trailer (n : Fin 8) (seq : BitVec 64) (x : Segment) : Line :=
  descriptor 1 n x.flags (recordStripes x.bytes.length) seq (pairOf (BitVec.ofNat 32 x.bytes.length) x.trigOfs) x.tFirst x.tLast x.pos

/-- The descriptor of a gap record. -/
def gapDescriptor (n : Fin 8) (seq : BitVec 64) (g : Gap) : Line := descriptor 2 n g.flags 1 seq g.bytes g.tFirst g.tLast g.pos

/-- Stripe `k` of a segment's record: its data, zeros, and the trailer as the last line (R73, R74). -/
def segmentStripe (n : Fin 8) (seq : BitVec 64) (x : Segment) (k : Nat) : List Line :=
  let last := x.closed && decide (k + 1 = recordStripes x.bytes.length)
  (List.range 8).map fun i =>
    if last && i == 7 then trailer n seq x
    else
      let bs := (x.bytes.drop (512 * k + 64 * i)).take 64
      lineOf (bs ++ fillBytes 0 (64 - bs.length))

/-! ### The banks -/

/-- The segment that is open, which is the newest. -/
def Ingest.openSeg (x : Ingest) : Option Segment :=
  match x.segs.getLast? with
  | some g => if g.closed then none else some g
  | none => none

/-- The newest segment changed. -/
def Ingest.modLast (x : Ingest) (f : Segment → Segment) : Ingest :=
  match x.segs.getLast? with
  | some g => { x with segs := x.segs.dropLast ++ [f g] }
  | none => x

/-- The open segment closed for reasons; the FIFO is IDLE (R72). -/
def Ingest.close (x : Ingest) (why : BitVec 16) : Ingest :=
  match x.openSeg with
  | some _ => { x.modLast fun g => { g with closed := true, flags := g.flags ||| why } with phase := .idle }
  | none => x

/-- Data held in the banks, in bytes. -/
def Ingest.heldBytes (x : Ingest) : Nat := x.segs.foldl (fun n g => n + (g.bytes.length - 512 * g.issued)) 0

/-- ING_STATUS.HELD: the data held in units of 64 bytes. The manual does not say how a part of a unit counts; that it is rounded down
is the model's choice (R93, assumption 67). -/
def Ingest.heldLines (x : Ingest) : Nat := x.heldBytes / 64

/-- Whether every record has been issued and acknowledged. -/
def Ingest.drained (x : Ingest) : Bool := x.segs.isEmpty && x.gapQ.isEmpty && x.records.isEmpty

/-! ### The drain (R78, R82, R83) -/

/-- What the drain issues next. -/
inductive DrainItem where
  | gap (g : Gap) (queued : Bool)
  | data (x : Segment)
  deriving DecidableEq, Repr

/-- The next stripe whose bytes are present, before the test of ring space. -/
def State.drainItem (s : State) (n : Fin 8) : Option DrainItem :=
  let x := s.ingest[n]
  match x.segs with
  | [] => x.gapQ.head?.map fun g => .gap g true
  | y :: _ =>
    match y.before with
    | g :: _ => some (.gap g false)
    | [] =>
      if y.closed then some (.data y)
      else if (decide (0 < y.issued) || decide (s.cutBytes n ≤ y.bytes.length)) && decide (512 * (y.issued + 1) ≤ y.bytes.length) then some (.data y)
      else none

/-- Whether the ring has space for an item (R82); WRAP ignores ING_RP (R83). -/
def State.ringSpace (s : State) (n : Fin 8) (gap : Bool) : Bool :=
  let x := s.ingest[n]
  s.ingWrap n || decide (x.wp.toNat + (if gap then 512 else 1024) ≤ x.rp.toNat + s.ringSize n)

/-- ING_STATUS.RING_FULL: a data stripe is held back by the test of R82. -/
def State.ringFull (s : State) (n : Fin 8) : Bool :=
  match s.drainItem n with
  | some (.data _) => !s.ringSpace n false
  | _ => false

/-- The cause of In_FULL_WARN: held data at the warning level, a ring without space, or a drop (R87). -/
def State.fullWarn (s : State) (n : Fin 8) : Bool :=
  let x := s.ingest[n]
  let lvl := min 32 (s.cfgField (pageIng n) 0x040 27 22)
  (lvl != 0 && decide (lvl * 4096 ≤ x.heldBytes)) || s.ringFull n || x.phase == .drop

/-- In_FULL_WARN takes up its cause at the edges of In_CLK that a command stands for, and holds its level between them (R87,
assumption 67). -/
def State.driveWarn (s : State) (n : Fin 8) : State := s.modIng n fun x => { x with warnPin := s.fullWarn n }

/-- The level of In_FULL_WARN: 0 in OFF (R87). -/
def State.warnLevel (s : State) (n : Fin 8) : Bool := s.ingest[n].warnPin && s.ingest[n].phase != .off

/-- OFF: In_FULL_WARN falls, and rises again at an edge of In_CLK only (R87). -/
def Ingest.enterOff (x : Ingest) : Ingest := { x with phase := .off, warnPin := false }

/-- The ring count that marks a stripe whose record In_RST_N discarded: it lies in no record. -/
def noRing : Nat := 2 ^ 65

/-- A stripe goes into the core as a full-stripe write (R78). Its packet's TAG and PEPOCH are 0, the model's choice: an ingest port has
neither tags nor an epoch (R130, assumption 68). -/
def State.issueStripe (s : State) (n : Fin 8) (lines : List Line) : State :=
  let x := s.ingest[n]
  let at_ := s.ringBase n + x.wp.toNat % (max 512 (s.ringSize n))
  let rid := s.ids
  let f : ReqFields := { tag := 0, addr := BitVec.ofNat 34 (at_ / 64), len := 7, cls := 0, ord := 0, gv := false, gid := 0, pi := 0, aux := 0 }
  let r : Req := { newReq rid (srcIng n) opcWrite f s.tb with ring := x.wp.toNat, beats := lines.map fun d => { data := d, be := BitVec.allOnes 64 } }
  let s := { s with ids := s.ids + 1, reqs := s.reqs ++ [r] }
  let s := s.modIng n fun x => { x with wp := x.wp + 512 }
  s.arriveHub rid r.storeLines

/-- The record a stripe belongs to: begun, or one stripe longer. -/
def Ingest.noteStripe (x : Ingest) (first last : Bool) : Ingest :=
  let w := x.wp.toNat
  if first then { x with records := x.records ++ [{ start := w, ends := w + 512, open_ := 1, issued := last }] }
  else match x.records.getLast? with
    | some r => { x with records := x.records.dropLast ++ [{ r with ends := w + 512, open_ := r.open_ + 1, issued := last }] }
    | none => x

/-- One stripe issued, when one is present and the ring has space. A bank is free when its last stripe has been issued. -/
def State.drainOnce (s : State) (n : Fin 8) : State :=
  let x := s.ingest[n]
  match s.drainItem n with
  | none => s
  | some (.gap g queued) =>
    if s.ringSpace n true = false then s
    else
      let line := gapDescriptor n x.seq g
      let s := s.modIng n fun x => { (x.noteStripe true true) with
        gapQ := if queued then x.gapQ.drop 1 else x.gapQ
        segs := if queued then x.segs else (match x.segs with | y :: rest => { y with before := y.before.drop 1 } :: rest | [] => [])
        seq := x.seq + 1, gapCnt := satInc x.gapCnt }
      s.issueStripe n (List.replicate 7 (0 : Line) ++ [line])
  | some (.data y) =>
    if s.ringSpace n false = false then s
    else
      let last := y.closed && decide (y.issued + 1 = recordStripes y.bytes.length)
      let lines := segmentStripe n x.seq y y.issued
      let s := s.modIng n fun x => { (x.noteStripe (y.issued == 0) last) with
        segs := if last then x.segs.drop 1 else (match x.segs with | y :: rest => { y with issued := y.issued + 1 } :: rest | [] => [])
        seq := if last then x.seq + 1 else x.seq, segCnt := if last then satInc x.segCnt else x.segCnt }
      s.issueStripe n lines

/-! ### CWP (R81) -/

/-- Records whose stripes are all acknowledged leave the front of the list; CWP moves to the end of the last. -/
def advanceCwp : List Record → BitVec 64 → List Record × BitVec 64
  | [], c => ([], c)
  | r :: rest, c => if r.issued ∧ r.open_ = 0 then advanceCwp rest (BitVec.ofNat 64 r.ends) else (r :: rest, c)

/-- CWP advanced, and EVENT at each multiple of 2^(NOTIFY+15) bytes that it crosses. -/
def State.settleCwp (s : State) (n : Fin 8) : State :=
  let x := s.ingest[n]
  let (rs, c) := advanceCwp x.records x.cwp
  let k := s.cfgField (pageIng n) 0x040 31 28
  let crossed := k != 0 && decide (x.cwp.toNat / 2 ^ (k + 15) < c.toNat / 2 ^ (k + 15))
  (s.modIng n fun x => { x with records := rs, cwp := c }).raiseIf crossed (pageIng n) 1

/-- One stripe of a record acknowledged. -/
def ackStripe (rs : List Record) (w : Nat) : List Record :=
  rs.map fun r => if r.start ≤ w ∧ w < r.ends then { r with open_ := r.open_ - 1 } else r

/-! ### Beats (R70 to R72, R80, R84, R85) -/

/-- Bytes a beat carries. -/
def beatBytes (b : IngFields) : Nat := if b.eop ∧ b.vbytes ≠ 0 then b.vbytes.toNat else 32

/-- A new segment opened by a beat, behind the gap records that are due. -/
def openSegment (x : Ingest) (b : IngFields) (now : Time) : Ingest :=
  { x with phase := .open_, gap := none, gapQ := []
           segs := x.segs ++ [{ bytes := [], closed := false, flags := if b.sop then ingSop else 0, trigOfs := 0xFFFFFFFF, tFirst := now, tLast := now, pos := x.pos, issued := 0, before := x.gapQ ++ x.gap.toList }] }

/-- A beat's bytes join the open segment, which may close with it. -/
def acceptBeat (x : Ingest) (b : IngFields) (now : Time) (trig freeze : Bool) : Ingest :=
  let x := x.modLast fun g => { g with
    trigOfs := if trig then BitVec.ofNat 32 g.bytes.length else g.trigOfs
    flags := if trig then g.flags ||| ingTrig else g.flags
    bytes := g.bytes ++ bytesOf b.data (beatBytes b), tLast := now }
  let x := { x with pos := x.pos + BitVec.ofNat 64 (beatBytes b) }
  let full := match x.openSeg with | some g => decide (65536 ≤ g.bytes.length) | none => false
  let why := (if b.eop then ingEop else if full then ingSplit else 0) ||| (if freeze then ingFreeze else 0)
  if why = 0 then x else x.close why

/-- A beat dropped: an episode begins or goes on. -/
def dropBeat (x : Ingest) (b : IngFields) (now : Time) (ringFull trig freeze : Bool) : Ingest :=
  let n := BitVec.ofNat 64 (beatBytes b)
  let g := x.gap.getD { bytes := 0, flags := if ringFull then ingEop else ingSop, tFirst := now, tLast := now, pos := x.pos }
  let g := { g with bytes := g.bytes + n, tLast := now, flags := g.flags ||| (if trig then ingTrig else 0) ||| (if freeze then ingFreeze else 0) }
  { x with phase := .drop, gap := some g, pos := x.pos + n, drop := x.drop + n }

/-- A trigger: the stream position of its beat, which is the position now, is latched; in WRAP mode the post-trigger count
starts (R84). -/
def Ingest.latchTrigger (x : Ingest) (wrap : Bool) : Ingest :=
  { x with trigSeen := true, trigPos := x.pos, trigPend := wrap }

/-- Whether the FIFO takes or drops beats. -/
def Ingest.listens (x : Ingest) : Bool := x.phase == .idle || x.phase == .open_ || x.phase == .drop

/-- A beat as the FIFO state dictates; without power to the ingest core it meets nothing (R24). -/
def State.takeBeat (s : State) (n : Fin 8) (b : IngFields) : State :=
  let x := s.ingest[n]
  if x.rstLow || !s.pwr.coreOn || s.mode.mode == .retention then s
  else if x.listens = false then s.modIng n fun x => { x with disc := satInc x.disc }
  else
    let full := s.ringFull n
    let byWrite := x.swTrig && !x.trigSeen
    let trig := x.pinTrig || byWrite
    let x := { x with swTrig := false, pinTrig := false }
    let x := if byWrite then x.latchTrigger (s.ingWrap n) else x
    let x := if b.sop then x.close ingSopClose else x
    let ends := x.pos.toNat + beatBytes b
    let freeze := x.trigPend && decide (x.trigPos.toNat + (s.cfg (pageIng n) 0x05C).toNat * 512 ≤ ends)
    let fresh := x.openSeg.isNone
    let dropIt := fresh && decide (2 ≤ x.segs.length)
    let begun := dropIt && x.gap.isNone
    let x := if dropIt then dropBeat x b s.tb full trig freeze
      else acceptBeat (if fresh then openSegment x b s.tb else x) b s.tb trig freeze
    let x := if freeze then { x with phase := .frozen, freezing := true, gapQ := x.gapQ ++ x.gap.toList, gap := none } else x
    (s.modIng n fun _ => x).raiseIf begun (pageIng n) 0

/-! ### Enabling and disabling (R77, R89, R92) -/

/-- Whether a ring is a designated Keep region: wholly inside one region in force (R198). -/
def State.ringDesignated (s : State) (n : Fin 8) : Bool :=
  (List.range 8).any fun k => s.keepRegActive k && decide ((s.keepRegion k).2.1 ≤ s.ringBase n) && decide (s.ringBase n + s.ringSize n ≤ (s.keepRegion k).2.2)

/-- The check of R92: 0, or CFG_ERR. -/
def State.ringError (s : State) (n : Fin 8) : BitVec 3 :=
  let b := s.ringBase n
  let e := b + s.ringSize n
  let inLedger := s.ledger.enabled && (overlaps b e s.winBase (s.winBase + s.winSize) || overlaps b e s.slotBase (s.slotBase + 2 * s.winSize))
  let inKeep := (List.range 8).any fun k => s.keepRegActive k && overlaps b e (s.keepRegion k).2.1 (s.keepRegion k).2.2 &&
    !(decide ((s.keepRegion k).2.1 ≤ b) && decide (e ≤ (s.keepRegion k).2.2))
  let inRing := (List.finRange 8).any fun (m : Fin 8) => m != n && s.ingest[m].phase != .off && overlaps b e (s.ringBase m) (s.ringBase m + s.ringSize m)
  if s.payloadEnd < e then 1
  else if inLedger then 2
  else if inKeep then 3
  else if inRing then 4
  else if s.ringSize n < 64 * 4096 then 5
  else 0

/-- Whether the Squall of DIAG_ENTER runs, which RUN has been left for: ports stay OFF, as DIAGNOSTIC keeps them (R24, R77, assumption 77). -/
def State.entersDiag (s : State) : Bool := s.squall.active && s.squall.cause == 4

/-- A port that would leave OFF: checked, then IDLE or FROZEN; refused, EN is cleared (R77, R92). -/
def State.leaveOff (s : State) (n : Fin 8) : State :=
  if s.ingest[n].phase ≠ .off ∨ s.ingest[n].enWanted = false ∨ s.inService = false ∨ s.entersDiag = true then s
  else
    let e := s.ringError n
    if e ≠ 0 then (s.modIng n fun x => { x with enWanted := false, cfgErr := e }).raise (pageIng n) 1
    else s.modIng n fun x => { x with cfgErr := 0, trigSeen := false, swTrig := false, pinTrig := false, phase := if x.frozen then .frozen else .idle }

/-- A change that may change EN of an ingest port, which triggers the feasibility check when it does (R168). -/
def State.noteEn (s : State) (n : Fin 8) (f : State → State) : State :=
  let t := f s
  if t.ingest[n].enWanted = s.ingest[n].enWanted then t else t.feasTrigger

/-- EN = 1 written; the safe state keeps EN cleared (R392). -/
def State.ingOn (s : State) (n : Fin 8) : State :=
  if s.parity (pageIng n) then s else s.noteEn n fun s => (s.modIng n fun x => { x with enWanted := true }).leaveOff n

/-- EN cleared: the open segment closes with DISABLE, a drop ends with its gap record, and the port drains (R77, R80, R89). That a
post-trigger count ends with it, TRIG_PENDING cleared and the ring not frozen, is the model's choice (assumption 67). -/
def State.ingOff (s : State) (n : Fin 8) : State := s.noteEn n fun s =>
  let x := s.ingest[n]
  let x := { x with enWanted := false }
  let x := if x.listens then
      let x := x.close ingDisabled
      { x with phase := .closing, gapQ := x.gapQ ++ (x.gap.map fun g => { g with flags := g.flags ||| ingDisabled }).toList, gap := none, trigPend := false }
    else if x.phase = .frozen ∧ x.freezing = false then x.enterOff
    else x
  s.modIng n fun _ => x

/-- The issue point behind the last record whose stripes have all been issued. -/
def Ingest.issueBack (x : Ingest) : BitVec 64 :=
  match (x.records.filter Record.issued).getLast? with
  | some r => BitVec.ofNat 64 r.ends
  | none => x.cwp

/-- What is unissued is discarded, and a record that is cut short with it: its issued stripes complete, but count for no record (R88,
R90). -/
def State.cutRecords (s : State) (n : Fin 8) : State :=
  (s.mapReqs fun r => if r.src == srcIng n && decide (s.ingest[n].issueBack.toNat ≤ r.ring) then { r with ring := noRing } else r).modIng n fun x =>
    { x with segs := [], gap := none, gapQ := [], records := x.records.filter Record.issued, wp := x.issueBack }

/-- HOLD-UP entry: OFF at once, unissued data and pending gaps discarded. CWP moves on to the end of the last whole record as the Squall
completes it (R90, R326). That EN reads 0 from here on, and that a post-trigger count ends, is the model's choice (assumption 67). -/
def State.ingHoldUp (s : State) (n : Fin 8) : State :=
  (s.cutRecords n).modIng n fun x => { x.enterOff with
    enWanted := false, trigPend := false, frozen := x.frozen || x.freezing, freezing := false }

/-- A drain stripe acknowledged; CWP follows in the same step (R81). -/
def State.ackDrain (s : State) (n : Fin 8) (r : Req) : State :=
  ((s.dropReq r.rid).modIng n fun x => { x with records := ackStripe x.records r.ring }).settleCwp n

/-- ING_RP written whole (R82, R83). -/
def State.writeRp (s : State) (n : Fin 8) (v : BitVec 64) : State :=
  let x := s.ingest[n]
  if s.ingWrap n then s
  else if x.cwp.toNat ≤ v.toNat + s.ringSize n ∧ v.toNat ≤ x.cwp.toNat then s.modIng n fun x => { x with rp := v }
  else s

/-- REARM (R86). In STOP mode it only re-enables the trigger, also while FROZEN is set; in WRAP mode it takes a trigger back with its count,
and FROZEN is left for IDLE even while records drain or with EN cleared: the model's choices where the rule's sentences differ or are
silent (assumption 67). A TRIG that waits for its beat goes on waiting. -/
def State.ingRearm (s : State) (n : Fin 8) : State :=
  s.modIng n fun x =>
    let x := { x with trigSeen := false }
    if s.ingWrap n then
      { x with
        trigPend := false, pinTrig := false, frozen := false, freezing := false, trigPos := BitVec.allOnes 64
        phase := if x.phase = .frozen then .idle else x.phase }
    else x

/-- TRIG: the next accepted or dropped beat is the trigger (R84). Written in OFF, CLOSING or FROZEN it is dropped, the model's choice
(assumption 67). -/
def State.ingTrigger (s : State) (n : Fin 8) : State :=
  s.modIng n fun x => if x.listens && !x.trigSeen then { x with swTrig := true } else x

/-- CLR_COUNTERS (R94). -/
def State.ingClear (s : State) (n : Fin 8) : State := s.modIng n fun x => { x with drop := 0, disc := 0, gapCnt := 0, segCnt := 0 }

/-! ### Meanings -/

/-- INGEST_BEAT (R70). -/
def execIngestBeat (n : Fin 8) (b : IngFields) (s : State) : Host.Outcome State Fault Refusal := .next ((s.takeBeat n b).driveWarn n)

/-- IDLE_CLOSE: no beat for IDLE_CLOSE_US (R72). -/
def execIdleClose (n : Fin 8) (s : State) : Host.Outcome State Fault Refusal :=
  .next (if s.cfgField (pageIng n) 0x040 15 8 = 0 then s else s.modIng n fun x => x.close ingIdleClose)

/-- DRAIN_STRIPE_ISSUE (R78). -/
def execDrainStripeIssue (n : Fin 8) (s : State) : Host.Outcome State Fault Refusal :=
  .next (if s.inService ∧ s.ingest[n].rstLow = false then s.drainOnce n else s)

/-- DRAIN_STRIPE_ACK: the oldest issued stripe whose writes are acknowledged; CWP follows in the same step (R81). -/
def execDrainStripeAck (n : Fin 8) (s : State) : Host.Outcome State Fault Refusal :=
  .next (
    match s.reqs.find? fun r => r.src == srcIng n && r.isDone with
    | none => s
    | some r => s.ackDrain n r)

/-- TRIGGER: In_TRIG rises at an edge of In_CLK (R84). One while In_RST_N is low is ignored, the model's choice (assumption 67). -/
def execTrigger (n : Fin 8) (s : State) : Host.Outcome State Fault Refusal :=
  .next (
    if s.cfgBit (pageIng n) 0x040 1 then (s.modIng n fun x => if x.listens && !x.trigSeen && !x.rstLow then { x.latchTrigger (s.ingWrap n) with pinTrig := true } else x).driveWarn n
    else s.driveWarn n)

/-- FREEZE_COMPLETE: every queued record is drained (R85). -/
def execFreezeComplete (n : Fin 8) (s : State) : Host.Outcome State Fault Refusal :=
  .next (
    let x := s.ingest[n]
    if x.freezing = false ∨ x.drained = false then s
    else (s.modIng n fun x => { x with freezing := false, frozen := true, trigPend := false, phase := if x.enWanted then x.phase else .off, warnPin := x.warnPin && x.enWanted }).raise (pageIng n) 1)

/-- INGEST_PORT_RESET: In_RST_N falls (R88). A trigger that waits for its beat loses its mark; TRIG_PENDING, ING_TRIG_POS and that a trigger
was taken stay; STATE reads IDLE from the fall on in a port that listens: the model's choices (assumption 67). -/
def execIngestPortReset (n : Fin 8) (s : State) : Host.Outcome State Fault Refusal :=
  .next ((s.cutRecords n).modIng n fun x =>
    { x with rstLow := true, swTrig := false, pinTrig := false, phase := if x.listens then .idle else x.phase })

/-- INGEST_PORT_RESET_RELEASE: In_RST_N rises (R88); a frozen ring stays FROZEN (R86). -/
def execIngestPortResetRelease (n : Fin 8) (s : State) : Host.Outcome State Fault Refusal :=
  .next (s.modIng n fun x =>
    { x with rstLow := false, phase := if x.enWanted && s.inService && x.listens then .idle else x.phase })

/-- CLOSING_COMPLETE: every queued record is acknowledged and CWP is final (R77). OFF is entered, and with it the pending values of the page
apply (R382); an EN = 1 written meanwhile is taken up after that. -/
def execClosingComplete (n : Fin 8) (s : State) : Host.Outcome State Fault Refusal :=
  .next (
    if s.ingest[n].phase ≠ .closing ∨ s.ingest[n].drained = false then s
    else s.noteEn n fun s => (((s.modIng n Ingest.enterOff).raise (pageIng n) 1).applyPoint (pageIng n) .idle).leaveOff n)

/-- ING_CMD.REARM (R86). -/
def execRearm (n : Fin 8) (s : State) : Host.Outcome State Fault Refusal :=
  .next (s.whenLive (pageIng n) fun s => s.ingRearm n)

/-- ING_CMD.TRIG (R84). -/
def execTrig (n : Fin 8) (s : State) : Host.Outcome State Fault Refusal :=
  .next (s.whenLive (pageIng n) fun s => s.ingTrigger n)

/-- ING_CMD.CLR_COUNTERS (R94). -/
def execIngClrCounters (n : Fin 8) (s : State) : Host.Outcome State Fault Refusal :=
  .next (s.whenLive (pageIng n) fun s => s.ingClear n)

end Sys2Proof.Machine
end

