-- ==== Sys2Proof/Machine/SliceOps.lean ====
section
/-!
DEFINITION. A slice's scheduler: the choice of the next command (R209, R210), Gusts (R211), the retry buffer (R223, R224), refresh
and the stall timeline (R212 to R219, R505), and device timing (R226).
-/
namespace Sys2Proof.Machine

/-! ### Configuration -/

/-- CH_SCHED fields. -/
def State.ageCapNs (s : State) (c : Fin 80) : Nat := max 1 (s.cfgField (pageCh c) 0x040 31 24) * 16
def State.hitCap (s : State) (c : Fin 80) : Nat := s.cfgField (pageCh c) 0x040 23 20
def State.pageIdleNs (s : State) (c : Fin 80) : Nat := s.cfgField (pageCh c) 0x040 15 8 * 8

/-- CH_GUST fields as they act. -/
def State.gustCutNs (s : State) (c : Fin 80) : Nat := max 1 (s.cfgField (pageCh c) 0x044 31 24) * 8
def State.wrAgeNs (s : State) (c : Fin 80) : Nat := max 1 (s.cfgField (pageCh c) 0x044 23 16) * 1000
def State.gustHwm (s : State) (c : Fin 80) : Nat := min 96 (max 16 (s.cfgField (pageCh c) 0x044 15 8))
def State.gustLwm (s : State) (c : Fin 80) : Nat := min (s.gustHwm c - 8) (s.cfgField (pageCh c) 0x044 7 0)

/-- tRFCab in ns by density code (R205). -/
def rfcAbNs (dens : BitVec 4) : Nat :=
  match dens.toNat with
  | 0 => 210 | 1 => 280 | 2 => 280 | _ => 380

/-- tLEAD in ns (R214). -/
def State.tLeadNs (s : State) : Nat := if s.pwr.pl = 3 then 50 else 40

/-- W_min of a slice (R214). -/
def State.wMin (s : State) (c : Fin 80) : Nat := s.tLeadNs + rfcAbNs s.slices[c].dens

/-! ### Timing values (R226) -/

/-- The sixteen timing fields: register offset, high bit, low bit, in register order. -/
def timingFields : List (Nat × Nat × Nat) :=
  [(0x050, 31, 24), (0x050, 23, 16), (0x050, 15, 8), (0x050, 7, 0), (0x054, 31, 24), (0x054, 23, 16), (0x054, 15, 8), (0x054, 7, 0),
   (0x058, 31, 24), (0x058, 23, 16), (0x058, 15, 8), (0x058, 7, 0), (0x05C, 31, 22), (0x05C, 21, 12), (0x05C, 11, 6), (0x05C, 5, 0)]

/-- A timing register put together from a value per field. -/
def timingWord (ofs : Nat) (f : Nat → Nat) : Reg :=
  (timingFields.zipIdx).foldl (fun (w : Reg) (x : (Nat × Nat × Nat) × Nat) =>
    if x.1.1 = ofs then w ||| fld (f x.2 % 2 ^ (x.1.2.1 - x.1.2.2 + 1)) x.1.2.2 else w) 0

/-- tRFCpb in ns by density code (R205). -/
def rfcPbNs (dens : BitVec 4) : Nat :=
  match dens.toNat with
  | 0 => 120 | 1 => 140 | 2 => 140 | _ => 190

/-- CK of a PL in units of 0.1 MHz (R203). -/
def ckOf (pl : BitVec 2) : Nat :=
  match pl.toNat with
  | 0 => 12000 | 1 => 9375 | 2 => 5334 | _ => 2000

/-- A time in ns as whole CK of a PL, rounded up (assumption 21). -/
def ckOfNs (pl : BitVec 2) (ns : Nat) : Nat := (ns * ckOf pl + 9999) / 10000

/-- The standard's value of a field for a slice at a PL: TRFCAB and TRFCPB by R205, the others from the standard. -/
def State.stdField (s : State) (c : Fin 80) (pl : BitVec 2) (k : Nat) : Nat :=
  match timingFields[k]? with
  | some x =>
    (if k = 12 then ckOfNs pl (rfcAbNs s.slices[c].dens) else if k = 13 then ckOfNs pl (rfcPbNs s.slices[c].dens)
      else Config.stdTiming s.slices[c].dens pl k) % 2 ^ (x.2.1 - x.2.2 + 1)
  | none => 0

/-- The standard's values loaded into a slice, in force at once; TCLAMP clears. -/
def State.loadTiming (s : State) (c : Fin 80) (pl : BitVec 2) : State :=
  let s := [0x050, 0x054, 0x058, 0x05C].foldl (fun (s : State) (o : Nat) =>
    let s := { s with regs := { s.regs with shadows := dropKey s.regs.shadows (regKey (pageCh c) o) } }
    s.store (pageCh c) o (timingWord o (s.stdField c pl))) s
  s.modSched c fun x => { x with tclamp := false }

/-- The written value of field `k`. -/
def State.timingNow (s : State) (c : Fin 80) (k : Nat) : Nat :=
  match timingFields[k]? with
  | some x => fieldOf (s.stored (pageCh c) x.1) x.2.1 x.2.2
  | none => 0

/-- Outside DIAGNOSTIC a field below the standard's value is raised to it (R15, R226). -/
def State.clampTiming (s : State) (c : Fin 80) : State :=
  if s.mode.mode = .diagnostic then s
  else
    let pl := s.slices[c].train.pl
    let low := (List.range 16).any fun k => decide (s.timingNow c k < s.stdField c pl k)
    if low = false then s
    else
      let up (k : Nat) : Nat := max (s.timingNow c k) (s.stdField c pl k)
      let t := [0x050, 0x054, 0x058, 0x05C].foldl (fun (t : State) (o : Nat) => t.store (pageCh c) o (timingWord o up)) s
      t.modSched c fun x => { x with tclamp := true }

/-! ### Timelines (R213, R216, R218, R505) -/

/-- Whether a slice's devices refresh: powered, initialised and out of self-refresh, in a role that answers (R218, R237, R505). A slice in
training at a bring-up does, whatever its devices are to return to when MAIN_PG falls (R29). -/
def Slice.refreshes (x : Slice) : Bool :=
  x.on && (x.power == .init || x.power == .active || x.power == .powerDown || x.train.st == 3) && x.health.role != roleFailed && x.health.role != roleUnavailable

/-- The member position that a slice stands in: its own while it has the role for one; before the roles are given, a home slice that has
completed its training stands in its home position (R178, R505). -/
def State.seatOf (s : State) (c : Fin 80) : Option (Fin 8 × Fin 9) :=
  let x := s.slices[c]
  if x.health.role = roleHome ∨ x.health.role = roleAttached then x.health.mem.map fun m => (x.health.grp, m)
  else if x.health.role = roleUnused ∧ c.val < 72 ∧ x.train.st = 4 then some (groupOf (c.val / 9), memberOf (c.val % 9))
  else none

/-- The member window that belongs to a slice, from this cycle or from the next one of its group's timeline; a slice in training is out of
that (R237). -/
def State.placeOf (s : State) (c : Fin 80) : Option (Fin 8 × Fin 9) :=
  match s.seatOf c with
  | none => none
  | some (g, m) =>
    let dst := match s.spr.rly[g] with
      | some r => r.dst == c
      | none => false
    if s.slices[c].refreshes && s.slices[c].train.st != 3 && s.populated g && (((s.member g m).slice == c && (s.member g m).st != .absent) || dst) then some (g, m)
    else none

/-- The member window a slice refreshes in, when it stands in its group's timeline. A slice attached in the current cycle takes the
member's windows from the next one (R218). -/
def State.windowOf (s : State) (c : Fin 80) : Option (Fin 8 × Fin 9) := if s.slices[c].sched.nextCyc then none else s.placeOf c

/-- The slices of a group that refresh in the window of a member. -/
def State.windowSlices (s : State) (g : Fin 8) (m : Fin 9) : List (Fin 80) :=
  allSlices.filter fun c => s.windowOf c == some (g, m)

/-- Those that do from the next cycle on. -/
def State.cycleSlices (s : State) (g : Fin 8) (m : Fin 9) : List (Fin 80) :=
  allSlices.filter fun c => s.placeOf c == some (g, m)

/-- Whether the window of a member, when it comes next, is in a new cycle of the timeline: the cycle ends with the window of M8 (R213). -/
def Timeline.turns (l : Timeline) (m : Fin 9) : Bool := decide (l.next = 0) || decide (m.val < l.next.val)

/-- The member whose boundary comes next: windows without a slice pass. -/
def State.nextDue (s : State) (g : Fin 8) : Option (Fin 9) :=
  ((List.range 9).map fun k => memberOf (s.hubs[g].line.next.val + k)).find? fun m =>
    !(if s.hubs[g].line.turns m then s.cycleSlices g m else s.windowSlices g m).isEmpty

/-- A group's timeline changed. -/
def State.modLine (s : State) (g : Fin 8) (f : Timeline → Timeline) : State := s.modHub g fun h => { h with line := f h.line }

/-- A slice starts to refresh, its own origin now; its group's timeline starts with it, when it does not run (R505). -/
def State.joinLine (s : State) (c : Fin 80) : State :=
  let s := s.modSched c fun x => { x with owed := 0, origin := s.tb, tLead := false, inRef := false }
  match s.windowOf c with
  | some (g, _) =>
    if s.hubs[g].line.running then s
    else s.modLine g fun _ => { Timeline.reset with running := true, origin := s.tb }
  | none => s

/-- The stall token released by a member that holds it. -/
def State.releaseToken (s : State) (c : Fin 80) : State :=
  match s.windowOf c with
  | some (g, m) => if s.hubs[g].line.token = some m then s.modLine g fun l => { l with token := none } else s
  | none => s

/-- The member that holds the stall token: one whose slice has left the timeline, or is not stalled, holds it no more (R22, R213). -/
def State.tokenHeld (s : State) (g : Fin 8) : Option (Fin 9) :=
  s.hubs[g].line.token.filter fun m => (s.windowSlices g m).any fun c => s.slices[c].sched.inRef || s.slices[c].sched.tLead

/-- Whether the token is free for a member, or its own (R213). -/
def State.tokenFor (s : State) (g : Fin 8) (m : Fin 9) : Bool := s.tokenHeld g == none || s.tokenHeld g == some m

/-- A window of `len` ns inserted at a boundary: the timeline behind it slides by its length (R216). The window is one step, at
whose end the token is free. -/
def State.insertWindow (s : State) (g : Fin 8) (len : Nat) : State :=
  s.modLine g fun l => { l with lag := l.lag - l.shrink + len, shrink := 0 }

/-- Whether a slice may take an inserted window now: its member may have the token, and the lag of the boundary at which the window opens
is within 3,906 ns (R216). A slice
on its own timeline needs no token. -/
def State.windowFree (s : State) (c : Fin 80) : Bool :=
  match s.windowOf c with
  | some (g, m) => s.hubs[g].line.running && s.tokenFor g m && decide (s.hubs[g].line.lag - s.hubs[g].line.shrink ≤ 3906)
  | none => true

/-- The inserted window of a slice. -/
def State.takeWindow (s : State) (c : Fin 80) (len : Nat) : State :=
  match s.windowOf c with
  | some (g, _) => s.insertWindow g len
  | none => s

/-! ### RB apply point and refresh (R214, R217, R219) -/

/-- The buffered RB values, the multiplier and the mode of a slice take effect (R219). -/
def State.applyRb (s : State) (c : Fin 80) : State :=
  let timing := (s.pendingAt (pageCh c) .rb).any fun o => decide (0x050 ≤ o) && decide (o ≤ 0x05C)
  let s := s.applyPoint (pageCh c) .rb
  let s := if timing then s.clampTiming c else s
  match s.slices[c].sched.nextMult, s.slices[c].sched.multOk with
  | some m, true =>
    let fell := decide (m.toNat < s.slices[c].sched.mult.toNat)
    let s := s.modSched c fun x => { x with mult := m, nextMult := none, multOk := false, perBank := decide (2 ≤ m.toNat), skip := false }
    let s := s.raise (pageCh c) 2
    if fell then s.feasTrigger else s
  | _, _ => s

/-- Commands other than reads and writes leave the buffer once driven (R223). -/
def Sched.dropDriven (x : Sched) : Sched :=
  { x with retry := x.retry.filter fun c => match c with
    | .rd _ => true
    | .wr _ => true
    | _ => false }

/-- What has been driven leaves the buffer, unless an alert has stopped the commands behind it (R223, R224). -/
def Sched.settle (x : Sched) : Sched := if x.alert.isSome then x else x.dropDriven

/-- A command enters the retry buffer; while that is full, a refresh goes without an entry (R223, assumption 71). -/
def State.pushCmd (s : State) (c : Fin 80) (k : Cmd) : State :=
  if 64 ≤ s.slices[c].sched.retry.length then s
  else s.modSched c fun x => { x with retry := x.retry ++ [k], peak := BitVec.ofNat 7 (max x.peak.toNat (x.retry.length + 1)) }

/-- PREab and REFab: rows closed, RB values applied between them, the stall begun (R214). A slice in S1 leaves power-down for it (R218). -/
def State.refreshNow (s : State) (c : Fin 80) : State :=
  let s := s.modSlice c fun x => { x with power := if x.power = .powerDown then .active else x.power, sched := x.sched.settle }
  let s := (s.pushCmd c .preAb).pushCmd c .refAb
  let s := s.modSched c fun x => { x with rows := [], owed := x.owed - 1, tLead := false, inRef := true, stallEnd := s.tb + BitVec.ofNat 64 (rfcAbNs s.slices[c].dens) }
  s.applyRb c

/-- A refresh that OWED = 8 forces (R217). -/
def State.forceRefresh (s : State) (c : Fin 80) : State :=
  if s.slices[c].sched.owed < 8 then s
  else
    let s := (s.refreshNow c).bumpCh c 6
    (s.raise (pageCh c) 1).logError { cls := clsCe, page := pageCh c, code := 0x0012, detail := 8 }

/-- Whether bursts are in flight: issued reads and writes. -/
def Sched.inFlight (x : Sched) : Bool :=
  !x.replayed.isEmpty || x.retry.any fun c => match c with
    | .rd _ => true
    | .wr _ => true
    | _ => false

/-- What a slice does at its boundary once the window is its own: all-bank refresh, the pass of every second cycle at 0.5×, or
the PREab of per-bank mode (R214, R215). The boundary of a cycle that is passed is an RB apply point as any other (R9, R213, R219). On its own
timeline the boundaries of a slice at 0.5× lie 7,812 ns apart, and it passes none (R505). -/
def State.atBoundary (s : State) (c : Fin 80) : State :=
  let x := s.slices[c].sched
  if x.perBank then
    (((s.modSched c Sched.settle).pushCmd c .preAb).modSched c fun x => { x with rows := [], pbDone := 0 }).applyRb c
  else if x.mult = 0 ∧ x.skip = true ∧ (s.windowOf c).isSome then ((s.modSched c fun x => { x with skip := false }).applyRb c).releaseToken c
  else
    let s := s.modSched c fun x => { x with owed := min 8 (x.owed + 1), skip := true }
    if x.inFlight then s.modSched c fun x => { x with tLead := true, stallEnd := s.tb + BitVec.ofNat 64 (s.wMin c) } else s.refreshNow c

/-- A new cycle of a group's timeline: slices attached in the last one stand in it from now on (R218). -/
def State.newCycle (s : State) (g : Fin 8) : State :=
  { s with slices := s.slices.map fun x => if x.health.grp = g then { x with sched := { x.sched with nextCyc := false } } else x }

/-- The boundary of a member's window: the token passes to it, the lag falls (R213, R216). -/
def State.windowBoundary (s : State) (g : Fin 8) (m : Fin 9) : State :=
  let s := if s.hubs[g].line.turns m then s.newCycle g else s
  let cs := s.windowSlices g m
  let wmin := cs.foldl (fun n c => max n (s.wMin c)) 0
  let own := s.tokenFor g m
  let allBank := cs.any fun (c : Fin 80) => !s.slices[c].sched.perBank
  let s := s.modLine g fun l =>
    let lag := l.lag - l.shrink
    { l with next := memberOf (m.val + 1), lag := lag, shrink := if 0 < lag then 434 - wmin else 0, token := if own && allBank then some m else l.token }
  if own then cs.foldl (fun (s : State) (c : Fin 80) => (s.atBoundary c).forceRefresh c) s
  else cs.foldl (fun (s : State) (c : Fin 80) => (s.modSched c fun x => { x with owed := if x.perBank then x.owed else min 8 (x.owed + 1) }).forceRefresh c) s

/-! ### Gusts (R211) -/

/-- Nanoseconds an operation has waited at its slice. -/
def State.waited (s : State) (o : MemOp) : Nat := s.tb.toNat - o.tEnter.toNat

/-- A Gust starts. -/
def State.startGust (s : State) (c : Fin 80) (cause : BitVec 3) : State :=
  (s.modSched c fun x => { x with gust := true, gustCause := cause, gustDone := 0 }).bumpCh c 4

/-- Whether an ordered drain has writes to serve, or check lines to write back (R211, R221). -/
def Sched.drainDue (x : Sched) : Bool := x.drain && (!x.wq.isEmpty || (x.flushing && x.ckc.any CkLine.dirty))

/-- The cause on which a Gust starts now. -/
def State.gustDue (s : State) (c : Fin 80) : BitVec 3 :=
  let x := s.slices[c].sched
  if s.gustHwm c ≤ x.wq.length then 1
  else if (match x.wq with | o :: _ => decide (s.wrAgeNs c ≤ s.waited o) | [] => false) then 2
  else if x.rq.isEmpty ∧ x.wq.isEmpty = false then 3
  else if x.drainDue then 4
  else 0

/-- Whether the Gust in progress ends. -/
def State.gustOver (s : State) (c : Fin 80) : Bool :=
  let x := s.slices[c].sched
  x.wq.isEmpty ||
    (match x.gustCause.toNat with
     | 1 => decide (x.wq.length ≤ s.gustLwm c)
     | 2 => decide (8 ≤ x.gustDone) && x.wq.all fun o => decide (s.waited o ≤ s.wrAgeNs c / 2)
     | 3 => decide (8 ≤ x.gustDone) && !x.rq.isEmpty
     | _ => false)

/-- The end of an ordered drain; where a flush is part of it, the dirty check lines are written back (R221). A drain for a Lull or a switch
step stands until its window opens (R243, R249). -/
def State.endDrain (s : State) (c : Fin 80) : State :=
  let x := s.slices[c].sched
  if x.drain && x.wq.isEmpty then
    let s := if x.flushing then s.flushCk c else s
    let more := s.slices[c].train.lullReq || s.slices[c].train.switching
    s.modSched c fun x => { x with drain := more, flushing := false }
  else s

/-- A Gust that is over ends, and with it an ordered drain. -/
def State.stopGust (s : State) (c : Fin 80) : State :=
  if s.slices[c].sched.gust && s.gustOver c then (s.endDrain c).modSched c fun x => { x with gust := false } else s

/-- A drain is ordered: it completes within a Gust of cause 4, which takes the place of one that runs for another cause; with nothing queued
it is over at once (R211, R221). -/
def State.orderDrain (s : State) (c : Fin 80) (flush : Bool) : State :=
  let s := s.modSched c fun x => { x with drain := true, flushing := x.flushing || flush }
  let on := s.slices[c].sched.gust && s.slices[c].sched.gustCause == 4
  let s := if on || s.slices[c].sched.drainDue = false then s else s.startGust c 4
  (s.stopGust c).endDrain c

/-- A drain that is over because its window opens, or the devices take no more writes; a flush that is part of it is done first. -/
def State.dropDrain (s : State) (c : Fin 80) : State :=
  let s := if s.slices[c].sched.flushing then s.flushCk c else s
  s.modSched c fun x => { x with drain := false, flushing := false }

/-- Gusts ended and started. -/
def State.turnGust (s : State) (c : Fin 80) : State :=
  let s := s.stopGust c
  if s.slices[c].sched.gust then s
  else
    let k := s.gustDue c
    if k = 0 then s else s.startGust c k

/-! ### The next command (R209, R210) -/

/-- The bank and row an operation needs. -/
def State.bankRow (s : State) (c : Fin 80) (o : MemOp) : Nat × Nat := ((s.placeLine c o.line).1, (s.placeLine c o.line).2.1)

/-- Whether an operation hits an open row. -/
def State.rowHit (s : State) (c : Fin 80) (o : MemOp) : Bool :=
  s.slices[c].sched.rows.any fun r => r.1 == (s.bankRow c o).1 && r.2.1 == (s.bankRow c o).2

/-- Where the passes over an operation are counted: by its queue and its LEVEL. -/
def MemOp.passIdx (o : MemOp) : Fin 8 := ⟨(if o.write then 4 else 0) + o.level.toNat, by have := o.level.isLt; split <;> omega⟩

/-- Rank of an operation for pick: aged first, then LEVEL, then row hit. -/
def State.pickKey (s : State) (c : Fin 80) (o : MemOp) : Nat :=
  if s.ageCapNs c ≤ s.waited o then 100
  else o.level.toNat * 2 + (if s.rowHit c o && decide (s.slices[c].sched.passed[o.passIdx] < s.hitCap c) then 1 else 0)

/-- An operation put before the first of lower rank; equal ranks keep their order. -/
def insertOp (key : MemOp → Nat) (o : MemOp) (l : List MemOp) : List MemOp :=
  match l with
  | [] => [o]
  | x :: rest => if key x ≤ key o then o :: x :: rest else x :: insertOp key o rest

/-- The order of pick over a queue whose oldest operation stands first. -/
def State.pickOrder (s : State) (c : Fin 80) (q : List MemOp) : List MemOp := q.foldr (insertOp (s.pickKey c)) []

/-- The operations in the order in which the slice would serve them now. -/
def State.serveOrder (s : State) (c : Fin 80) : List MemOp :=
  let x := s.slices[c].sched
  if x.gust then
    let urgent := (x.rq.filter fun o => decide (2 ≤ o.level.toNat) && decide (s.gustCutNs c ≤ s.waited o)).take 1
    urgent ++ s.pickOrder c x.wq
  else s.pickOrder c x.rq

/-- An open row that no queued operation has targeted for PAGE_IDLE (R210). -/
def State.idleRow (s : State) (c : Fin 80) : Option (Nat × Nat × Time) :=
  let x := s.slices[c].sched
  x.rows.find? fun r => !((x.rq ++ x.wq).any fun o => s.bankRow c o == (r.1, r.2.1)) && decide (r.2.2.toNat + s.pageIdleNs c ≤ s.tb.toNat)

/-- Such a row is closed, by a command of its own. R209 does not say where in its order that stands: the model puts it behind every operation
that can issue (DESIGN CHOICE, assumption 82). -/
def State.closeIdle (s : State) (c : Fin 80) : State :=
  match s.idleRow c with
  | some r => (s.modSched c fun x => { x with rows := x.rows.filter fun y => y.1 != r.1 }).pushCmd c (.pre r.1)
  | none => s

/-- Open rows after a column command to a bank: the row stays open, or the command carries auto-precharge (R210). -/
def State.rowsAfter (s : State) (c : Fin 80) (bank : Nat) : List (Nat × Nat × Time) :=
  let rows := s.slices[c].sched.rows
  if s.pageIdleNs c = 0 then rows.filter fun r => r.1 != bank else rows.map fun r => if r.1 = bank then (r.1, r.2.1, s.tb) else r

/-- The column command of an operation: it leaves its queue for the retry buffer. -/
def State.columnCmd (s : State) (c : Fin 80) (o : MemOp) : State :=
  let rows := s.rowsAfter c (s.bankRow c o).1
  let x := s.slices[c].sched
  let q := if o.write then x.wq else x.rq
  let passes := (q.takeWhile fun y => y != o).any fun y => y.level == o.level
  let s := s.modSched c fun x => { x with
    rq := if o.write then x.rq else x.rq.erase o
    wq := if o.write then x.wq.erase o else x.wq
    gustDone := if o.write then x.gustDone + 1 else x.gustDone
    passed := x.passed.set o.passIdx (if passes then x.passed[o.passIdx] + 1 else 0)
    rows := rows }
  (s.pushCmd c (if o.write then .wr o else .rd o)).kick o.group

/-- The row that an operation needs is opened: PRE where its bank has another row, else ACT (R210). -/
def State.openRow (s : State) (c : Fin 80) (o : MemOp) : State :=
  let b := s.bankRow c o
  if s.slices[c].sched.rows.any fun r => r.1 == b.1 then
    (s.modSched c fun x => { x with rows := x.rows.filter fun r => r.1 != b.1 }).pushCmd c (.pre b.1)
  else (s.modSched c fun x => { x with rows := x.rows ++ [(b.1, b.2, s.tb)] }).pushCmd c (.act b.1 b.2)

/-- The next command an operation needs: PRE, ACT or its column command; no ACT once a boundary has come. -/
def State.stepFor (s : State) (c : Fin 80) (o : MemOp) : State := if s.rowHit c o then s.columnCmd c o else s.openRow c o

/-- The read whose replay is to be issued, first in the retry buffer (R209, R225). -/
def Sched.replayHead (x : Sched) : Option MemOp :=
  x.retry.findSome? fun c => match c with
    | .rd o => if o.replay then some o else none
    | _ => none

/-- The next command of a replay: PRE and ACT where the row is no longer open, then the read, which leaves the buffer (R223, R225). -/
def State.replayStep (s : State) (c : Fin 80) (o : MemOp) : State :=
  if s.rowHit c o then
    let rows := s.rowsAfter c (s.bankRow c o).1
    s.modSched c fun x => { x with retry := x.retry.erase (.rd o), replayed := x.replayed ++ [o], rows := rows }
  else s.openRow c o

/-- Whether a slice may issue commands to its devices now. -/
def State.mayIssue (s : State) (c : Fin 80) : Bool :=
  let x := s.slices[c]
  x.serves && x.sched.alert.isNone && !x.sched.inRef && !x.health.cmdReset

/-- The next step of the operation that R209 chooses, where the retry buffer has room; `late` operations ahead of it cannot meet their
timing yet. -/
def State.issueNext (s : State) (c : Fin 80) (late : Nat) : State :=
  if 64 ≤ s.slices[c].sched.retry.length then
    (if s.slices[c].sched.fullSeen then s else (s.bumpCh c 2).modSched c fun x => { x with fullSeen := true })
  else
    let s := (s.modSched c fun x => { x with fullSeen := false }).turnGust c
    match (s.serveOrder c)[late]? with
    | some o => s.stepFor c o
    | none => ((s.stopGust c).endDrain c).closeIdle c

/-- One command issued: refresh that is due, a replay, or the next of the queues (R209). -/
def State.issueCmd (s : State) (c : Fin 80) (late : Nat) : State :=
  if s.mayIssue c = false then s
  else if 8 ≤ s.slices[c].sched.owed then s.forceRefresh c
  else if s.slices[c].sched.tLead then s.refreshNow c
  else
    let s := s.modSched c Sched.dropDriven
    match s.slices[c].sched.replayHead with
    | some o => s.replayStep c o
    | none => s.issueNext c late

end Sys2Proof.Machine
end

