-- ==== Sys2Proof/Machine/PhyOps.lean ====
section
/-!
DEFINITION. Lulls and full retrains (R242 to R247), PL changes and their switch steps (R248 to R250, R301, R302, R477), caps and
pace offset (R300, R303).
-/
namespace Sys2Proof.Machine

/-! ### Lulls (R242 to R246) -/

/-- Whether a vote or its rollback keeps Lull requests from being taken up (R308, R310). -/
def State.votes (s : State) : Bool := s.pwr.phase == .prepare1 || s.pwr.phase == .prepare2 || s.pwr.phase == .rollback

/-- A Lull requested: requests coalesce, and the drain Gust is ordered, during a vote once that is over (R242, R243, R310). -/
def State.requestLull (s : State) (c : Fin 80) : State :=
  if s.slices[c].refreshes = false then s
  else
    let s := s.modTrain c fun x => { x with lullReq := true }
    if s.votes then s else s.orderDrain c false

/-- Length of a Lull window (R243). -/
def State.lullNs (s : State) (c : Fin 80) : Nat := if s.slices[c].ranks.toNat ≤ 1 then 480 else 600

/-- Whether a slice serves a member. -/
def State.servesMember (s : State) (c : Fin 80) : Bool :=
  match s.slices[c].health.mem with
  | some m => (s.role c == roleHome || s.role c == roleAttached) && (s.member s.slices[c].health.grp m).slice == c &&
      (s.member s.slices[c].health.grp m).st != .absent
  | none => false

/-- Whether a slice is source or destination of a running or suspended relayout. -/
def State.inRelayout (s : State) (c : Fin 80) : Bool :=
  allGroups.any fun g => match s.spr.rly[g] with
    | some r => r.dst == c || r.src == some c
    | none => false

/-- A full retrain begins (R245). -/
def State.beginRetrain (s : State) (c : Fin 80) : State := (s.bumpTrn c 3).modTrain c fun x => { x with st := 5, lullReq := false }

/-- The member of a slice taken out of service for a full retrain (R245 steps 1 and 2). -/
def State.takeOut (s : State) (c : Fin 80) : State :=
  match s.slices[c].health.mem with
  | none => s
  | some m =>
    let g := s.slices[c].health.grp
    let s := (s.setFence c true).memberFails g m c true
    (s.followMembers.detectCut (1#8 <<< g.val)).beginRetrain c

/-- What follows a failed Lull of a slice, in the mode it failed in (R245 to R247). -/
def State.afterFailedLull (s : State) (c : Fin 80) : State :=
  if s.mode.mode = .bringUp then s.modTrain c fun x => { x with st := 3 }
  else if s.mode.mode = .diagnostic then s.beginRetrain c
  else if s.servesMember c then
    match s.slices[c].health.mem with
    | some m =>
      if s.otherUnreachable s.slices[c].health.grp m || s.inRelayout c then s else s.takeOut c
    | none => s
  else if s.inRelayout c || s.role c == roleAttached then s
  else s.beginRetrain c

/-- Whether a Lull window of a slice may open now. -/
def State.lullMayOpen (s : State) (c : Fin 80) : Bool :=
  let x := s.slices[c]
  x.train.lullReq && x.refreshes && !s.votes && !s.pwr.switching && !x.train.scanBusy && x.sched.wq.isEmpty && x.sched.alert.isNone &&
    !x.sched.inRef && !x.sched.tLead && s.windowFree c && (s.inService || s.mode.mode == .bringUp || s.mode.mode == .diagnostic) &&
    (x.train.st == 4)

/-- The delays of a slice's snapshot that its ranks have: of one rank, those of rank 0. -/
def State.fittedDelays (s : State) (c : Fin 80) : BitVec 72 := if s.slices[c].ranks.toNat ≤ 1 then 0x00003FFFF00003FFFF else BitVec.allOnes 72

/-- Delays after a Lull that adjusts: at least one of the fitted ones moves, each by one step away from the side that fails. Which ones and
which way are free values (R244, assumption 74). -/
def State.lullDelays (s : State) (c : Fin 80) (old : Vector (BitVec 6) 72) : Vector (BitVec 6) 72 :=
  let hit := s.freeVal 72 &&& s.fittedDelays c
  let hit := if hit = 0 then 1 else hit
  let up : BitVec 72 := Config.freeValue 72 (s.free + 3)
  Vector.ofFn fun i => if hit.getLsbD i.val then (if up.getLsbD i.val then old[i] + 1 else old[i] - 1) else old[i]

/-- The snapshot of the PL in operation after a Lull: a new oscillator baseline, and the delays that it moved (R243, R244); the baseline and
the CRC are free values (assumption 74). -/
def State.lullSnapshot (s : State) (c : Fin 80) (moved : Bool) : State :=
  let pl : Fin 4 := s.slices[c].train.pl.toFin
  let old := s.slices[c].train.snaps[pl]
  let x : Snapshot := { old with
    delays := if moved then s.lullDelays c old.delays else old.delays
    baseline := Config.freeValue 16 (s.free + 1), crc := Config.freeValue 16 (s.free + 2) }
  { s.modTrain c fun t => { t with snaps := t.snaps.set pl x } with free := s.free + 4 }

/-- A Lull runs in its window (R243, R244); the drain it ordered is over. -/
def State.runLull (s : State) (c : Fin 80) (e : LullEnd) : State :=
  let s := (s.takeWindow c (s.lullNs c)).bumpTrn c 0
  let s := ((s.pushCmd c .preAb).dropDrain c).modSched c fun x => { x with rows := [] }
  let s := s.modTrain c fun x => { x with lullReq := false, temp := x.tempNow, tLull := s.tb }
  match e with
  | .pass => (s.lullSnapshot c false).modTrain c fun x => { x with marginFail := false, drift := 0 }
  | .adjust => ((s.bumpTrn c 1).lullSnapshot c true).modTrain c fun x => { x with marginFail := false, drift := 0 }
  | .noWorkingSetting => (((s.bumpTrn c 2).modTrain c fun x => { x with marginFail := true }).raise (pageCh c) 4).afterFailedLull c

/-- A slice that must be retrained, and may be now, begins (R246). -/
def State.retryMargin (s : State) (c : Fin 80) : State :=
  let x := s.slices[c]
  match x.health.mem with
  | some m =>
    if x.train.marginFail && s.servesMember c && s.inService && !s.otherUnreachable x.health.grp m && !s.inRelayout c then s.takeOut c else s
  | none => s

/-! ### Readback (R232, R233) -/

/-- Half GiB per rank of a density code. -/
def densHalves (d : BitVec 4) : Nat := match d.toNat with | 0 => 2 | 1 => 3 | 2 => 4 | 3 => 6 | _ => 8

/-- REFUSE for what readback finds, 0 for none. -/
def refuseCode (d : Readback) : BitVec 3 :=
  if d.x8 then 1 else if 4 < d.dens.toNat then 2 else if d.unequal then 3 else if d.no5x then 4 else if d.disagree then 5 else 0

/-- CH_DEV_ID (R233, R254). -/
def devIdOf (d : Readback) : Reg :=
  if d.ranks = 0 then 0
  else fld d.mfr.toNat 24 ||| fld d.rev.toNat 16 ||| fld d.dens.toNat 12 ||| fld d.ranks.toNat 10 ||| flag d.x8 9 ||| flag d.lecc 8

/-- What a readback records (R233), and what a slice without training ends in: NOT_FITTED, REFUSED or SHORT; 0 where training goes on. -/
def State.readBack (s : State) (c : Fin 80) (d : Readback) : State × BitVec 4 :=
  let s := s.modTrain c fun x => { x with devId := devIdOf d, refuse := 0, leccCap := d.lecc }
  if d.ranks = 0 then (s.modTrain c fun x => { x with st := 8, failStep := 0, failPl := 0 }, 8)
  else if refuseCode d ≠ 0 then (s.modTrain c fun x => { x with st := 7, refuse := refuseCode d }, 7)
  else if d.ranks.toNat * densHalves d.dens < capHalves s.cap then (s.modTrain c fun x => { x with st := 9, failStep := 0, failPl := 0 }, 9)
  else (s.modSlice c fun x => { x with ranks := d.ranks, dens := d.dens }, 0)

/-! ### A full training ends (R235, R236, R240, R245, R247) -/

/-- Link ECC and data bus inversion as they act at the PL in operation (R232). -/
def State.setLink (s : State) (c : Fin 80) : State :=
  let x := s.slices[c].train
  let lecc := x.leccCap && s.cfgBit (pageCh c) 0x100 0
  s.modTrain c fun x => { x with lecc := lecc, dbi := !lecc && s.cfgBit (pageCh c) 0x100 1 && decide (x.pl.toNat ≤ 1) }

/-- A slice at a PL. The standard's timing is loaded at bring-up and at a PL switch; else host-written values stay (R226). -/
def State.atPl (s : State) (c : Fin 80) (pl : BitVec 2) : State :=
  let load := s.slices[c].train.pl != pl || s.mode.mode == .bringUp
  let s := (s.modTrain c fun x => { x with fsp := if x.pl = pl then x.fsp else !x.fsp, pl := pl }).setLink c
  if load then s.loadTiming c pl else s

/-- The PLs in the order of a full training: PL3 to PL0, at a retrain of a member the PL in operation first (R236, R245). -/
def trainOrder (first : Option (BitVec 2)) : List (BitVec 2) :=
  match first with
  | none => [3, 2, 1, 0]
  | some p => p :: ([3, 2, 1, 0].filter fun q => q != p)

/-- Delays that a training finds: free values, or, where a search that starts at saved settings succeeds, within 8 steps of these. Whether it
does is free for the read and for the write delays (R238, assumption 74). -/
def State.trainDelays (s : State) (saved : Option Snapshot) : Vector (BitVec 6) 72 :=
  let near : BitVec 2 := Config.freeValue 2 (s.free + 3)
  let v : BitVec 432 := Config.freeValue 432 (s.free + 4)
  Vector.ofFn fun i =>
    let d := v.extractLsb' (6 * i.val) 6
    match saved with
    | some x => if near.getLsbD (i.val / 36) then x.delays[i] + BitVec.ofNat 6 (d.toNat % 17) - 8 else d
    | none => d

/-- The snapshot that training writes for a PL: free values but for the timing (R235, assumption 74). -/
def State.takeSnapshot (s : State) (c : Fin 80) (pl : BitVec 2) (saved : Option Snapshot) : State :=
  let x : Snapshot := {
    delays := s.trainDelays saved, settings := s.freeVal 176
    timing := Vector.ofFn fun i => timingWord (0x050 + 4 * i.val) (s.stdField c pl)
    baseline := Config.freeValue 16 (s.free + 1), crc := Config.freeValue 16 (s.free + 2) }
  { s.modTrain c fun t => { t with snaps := t.snaps.set pl.toFin x, snapValid := t.snapValid ||| (1#4 <<< pl.toNat) } with free := s.free + 5 }

/-- A full training: the PLs in their order, and what the block has of each in a saved snapshot copy. -/
structure TrainPlan where
  order : List (BitVec 2)
  saved : BitVec 2 → Option Snapshot

/-- The snapshots of some PLs taken. -/
def State.takeSnapshots (s : State) (c : Fin 80) (l : List (BitVec 2)) (saved : BitVec 2 → Option Snapshot) : State :=
  l.foldl (fun (s : State) (p : BitVec 2) => s.takeSnapshot c p (saved p)) s

/-- READY with four snapshots, at the PL in operation. -/
def State.trained (s : State) (c : Fin 80) (x : TrainPlan) : State :=
  ((s.takeSnapshots c x.order x.saved).modTrain c fun x => { x with st := 4, marginFail := false, drift := 0, failStep := 0, failPl := 0 }).atPl c s.pwr.pl

/-- FAILED at a step, with the snapshots of the PLs that passed before (R236). -/
def State.trainFailed (s : State) (c : Fin 80) (x : TrainPlan) (step : BitVec 3) (pl : BitVec 2) : State :=
  ((s.takeSnapshots c (x.order.takeWhile fun p => p != pl) x.saved).modTrain c fun x => { x with st := 6, failStep := step, failPl := pl }).raise (pageCh c) 3

/-- Whether a slice's member is out of service, on it. -/
def State.isAbsent (s : State) (c : Fin 80) : Bool :=
  match s.slices[c].health.mem with
  | some m => (s.role c == roleHome || s.role c == roleAttached) && (s.member s.slices[c].health.grp m).slice == c && (s.member s.slices[c].health.grp m).st == .absent
  | none => false

/-- A retrain (R236, R245). -/
def State.retrainPlan (s : State) (c : Fin 80) : TrainPlan :=
  { order := trainOrder (if s.isAbsent c then some s.slices[c].train.pl else none), saved := fun _ => none }

/-- The rejoining of a member on its own slice: a resynchronisation is requested (R245 step 3, R268). -/
def State.rejoin (s : State) (c : Fin 80) : State :=
  match s.slices[c].health.mem with
  | none => s
  | some m =>
    let g := s.slices[c].health.grp
    let x := s.member g m
    if x.st = .absent ∧ x.retrain = true ∧ x.slice = c ∧ s.hasQueued g m = false then
      s.queueRly g { kind := .resync, mem := m, dst := c, src := none, bound := 0, running := false, suspended := false, done := [], full := s.hubs[g].staleLost, order := 0 }
    else s

/-! ### PL changes (R248, R249, R301, R302) -/

/-- Nominal VID code and minimum voltage in mV of a PL (R298). -/
def nominalVid (pl : BitVec 2) : BitVec 6 := match pl.toNat with | 0 => 0x23 | 1 => 0x1C | 2 => 0x14 | _ => 0x0A
def minMv (pl : BitVec 2) : Nat := match pl.toNat with | 0 => 820 | 1 => 750 | 2 => 670 | _ => 570

/-- The PL in force: the slower of the target and the cap (R301). -/
def State.plForce (s : State) : BitVec 2 := BitVec.ofNat 2 (max (s.cfgField pagePwr 0x050 1 0) s.pwr.plCap.toNat)

/-- A PL_HINT queued, in the place of one that is unsent (R288, R353, R358). -/
def State.queueHint (s : State) (pl : BitVec 2) : State :=
  if s.cfgBit pagePwr 0x040 2 then { s with brz := { s.brz with txHint := some pl, retries := s.brz.retries.set 3 0 } } else s

/-- PL_CAP set; a change of the PL in force is hinted (R358). -/
def State.setCap (s : State) (cap : BitVec 2) : State :=
  let t := { s with pwr := { s.pwr with plCap := cap } }
  if t.plForce = s.plForce then t else t.queueHint t.plForce

/-- The VID codes. -/
def State.setVid (s : State) (core slice : BitVec 6) : State := { s with pins := { s.pins with coreVid := core, sliceVid := slice } }

/-- Whether a slice takes part in a PL switch: in service or on its own timeline, not ABSENT nor in full retrain (R249). -/
def State.switches (s : State) (c : Fin 80) : Bool :=
  s.slices[c].refreshes && !s.isAbsent c && (s.slices[c].train.st == 4 || s.slices[c].train.st == 0xA)

/-- The slices whose step is still to come. -/
def State.stillSwitching (s : State) : List (Fin 80) := allSlices.filter fun c => s.slices[c].train.switching && s.switches c

/-- A slice takes up a PL: one that a margin scan holds elsewhere, at the scan's end (R249, R252). -/
def State.takeUpPl (s : State) (c : Fin 80) (pl : BitVec 2) : State :=
  if s.slices[c].train.scanBusy then
    s.modTrain c fun x => { x with scanPl := pl, scanTiming := Vector.ofFn fun i => timingWord (0x050 + 4 * i.val) (s.stdField c pl) }
  else s.atPl c pl

/-- A slice after a PL change: one that has come out of a full retrain meanwhile takes up the new PL, and each one that is at it runs a
Lull (R249, R250). -/
def State.afterSwitch (s : State) (c : Fin 80) (goal : BitVec 2) : State :=
  if s.switches c then
    let s := if s.slices[c].train.st = 4 ∧ s.slices[c].train.pl ≠ goal then s.takeUpPl c goal else s
    s.requestLull c
  else s

/-- The slices that have switched take no further part. -/
def State.clearSwitching (s : State) : State :=
  allSlices.foldl (fun (s : State) (c : Fin 80) => if s.slices[c].train.switching then s.modTrain c fun x => { x with switching := false, pllReady := false } else s) s

/-- The change ends: PL_DONE, and every slice that switched runs a Lull (R250, R302). -/
def State.plEnd (s : State) : State :=
  let goal := s.pwr.plGoal
  let s := ({ s with pwr := { s.pwr with switching := false, vfault := false } }).raise pagePwr 3
  allSlices.foldl (fun (s : State) (c : Fin 80) => s.afterSwitch c goal) s

/-- The last switch step is done, and the new PL is in operation (R302, R477). A change to a slower PL still holds its VID codes. -/
def State.plDone (s : State) : State :=
  let old := s
  let slower := decide (s.pwr.pl.toNat < s.pwr.plGoal.toNat)
  let goal := s.pwr.plGoal
  let s := { s with pwr := { s.pwr with pl := goal, steps := false, vidHold := slower }, pins := { s.pins with pwrPl := if slower then goal else s.pins.pwrPl } }
  let s := (s.notePace old).clearSwitching
  if slower then s else s.plEnd

/-- The steps may begin, or all are done, when nothing is left to wait for. -/
def State.plSettle (s : State) : State :=
  if s.pwr.switching = false ∨ s.pwr.vidHold = true then s
  else
    let l := s.stillSwitching
    let s := if s.pwr.steps = false ∧ s.pwr.waitFeas = false ∧ s.pwr.raising = false ∧ (l.all fun c => s.slices[c].train.pllReady) then
        { s with pwr := { s.pwr with steps := true } } else s
    if s.pwr.steps && l.isEmpty then s.plDone else s

/-- Whether V20 decides a PL change now (R301): awake in service, no vote, no switch, no warm reset that waits for its Squall (R250), PWR
not in its safe state. -/
def State.plMayDecide (s : State) : Bool :=
  s.inService && s.pwr.phase == .awake && !s.pwr.switching && !s.fab.wrst && !s.parity pagePwr && s.plForce != s.pwr.pl

/-- V20 decides a PL change (R302); one in progress goes on where it waits for nothing more (R250). -/
def State.decidePl (s : State) : State :=
  if s.plMayDecide = false then s.plSettle
  else
    let goal := s.plForce
    let faster := decide (goal.toNat < s.pwr.pl.toNat)
    let s := s.queueHint goal
    let s := { s with pwr := { s.pwr with plGoal := goal, switching := true, steps := false, vidHold := false, raising := faster, waitFeas := !faster, formerCore := s.pins.coreVid, formerSlice := s.pins.sliceVid } }
    let s := if faster then ({ s with pwr := { s.pwr with vofs := 0 } }).setVid (nominalVid goal) (nominalVid goal) else s
    let s := allSlices.foldl (fun (s : State) (c : Fin 80) => if s.switches c then s.modTrain c fun x => { x with switching := true, pllReady := false } else s) s
    s.feasTrigger.plSettle

/-- The rails have reached the target (R302 step 2, R477). -/
def State.railsUp (s : State) : State :=
  if s.pwr.switching && s.pwr.raising && decide (minMv s.pwr.plGoal ≤ s.pwr.coreMv.toNat) && decide (minMv s.pwr.plGoal ≤ s.pwr.sliceMv.toNat) then
    ({ s with pwr := { s.pwr with raising := false }, pins := { s.pins with pwrPl := s.pwr.plGoal } }).plSettle
  else s

/-- A faster change abandoned (R302 step 2). -/
def State.abandonPl (s : State) : State :=
  let ofs := s.pwr.formerCore - nominalVid s.pwr.pl
  let s := s.setVid s.pwr.formerCore s.pwr.formerSlice
  let s := { s with pwr := { s.pwr with switching := false, raising := false, steps := false, vfault := true, vofs := ofs.setWidth 3 } }
  (s.clearSwitching.setCap s.pwr.pl).raise pagePwr 4

/-- Whether it is a slice's turn to take its switch step: members in order, one at a time in a group (R249). -/
def State.stepTurn (s : State) (c : Fin 80) : Bool :=
  match s.windowOf c with
  | some (g, m) => s.stillSwitching.all fun d => match s.windowOf d with
      | some (h, n) => h != g || decide (m.val ≤ n.val)
      | none => true
  | none => true

/-- A switch step: PREab, the set point, the clocks, the snapshot with its timing; a buffered CH_TIMING write is discarded, and the drain
it ordered is over. -/
def State.switchStep (s : State) (c : Fin 80) : State :=
  let s := s.takeWindow c 300
  let s := ((s.pushCmd c .preAb).dropDrain c).modSched c fun x => { x with rows := [] }
  let s := s.takeUpPl c s.pwr.plGoal
  (s.modTrain c fun x => { x with switching := false, pllReady := false }).plSettle

/-! ### Temperature and pace (R300, R303) -/

/-- A reading in °C, two's complement. -/
def degC (v : BitVec 8) : Int := v.toInt

/-- The hottest slice reading, and the lowest slice that has it. -/
def State.hottest (s : State) : Fin 80 × BitVec 8 :=
  allSlices.foldl (fun (b : Fin 80 × BitVec 8) (c : Fin 80) => if degC b.2 < degC s.slices[c].train.tempNow then (c, s.slices[c].train.tempNow) else b) (0, s.slices[(0 : Fin 80)].train.tempNow)

/-- PWR_THERM.LIMIT as it acts. -/
def State.thermLimit (s : State) : Int := min 125 (max 85 (s.cfgField pagePwr 0x068 7 0))

/-- PWR_STATUS.THERM_HI (R300). -/
def State.thermHi (s : State) : Bool := decide (s.thermLimit ≤ degC s.hottest.2) || decide (s.thermLimit ≤ degC s.pwr.coreTemp)

/-- THERM_HI has set, where it was not: TEMP is raised, and the time of R300 begins. -/
def State.noteTherm (s old : State) : State :=
  if s.thermHi && !old.thermHi then ({ s with pwr := { s.pwr with thermT := s.tb } }).raise pagePwr 7 else s

/-- PL_CAP one PL slower than the PL in operation, down to PL3. -/
def State.capSlower (s : State) : State := s.setCap (BitVec.ofNat 2 (max s.pwr.plCap.toNat (min 3 (s.pwr.pl.toNat + 1))))

/-- PACE_ACT as it acts (R303, "PWR page"). -/
def State.paceAct (s : State) : Nat := if s.parity pagePwr then 0 else s.cfgField pagePwr 0x040 5 4

/-- Whether every monitor that has read is at least 5% above its floor. -/
def State.paceHigh (s : State) : Bool :=
  (List.range 16).all fun k => !s.pwr.paceSeen.getLsbD k || decide (105 * paceFloor s.pwr.pl.toNat ≤ 100 * (s.pwr.paceMhz[k]?.getD 0).toNat)

/-- One move of the pace offset. -/
def State.moveOffset (s : State) (up : Bool) : State :=
  { s with pwr := { s.pwr with vofs := if up then s.pwr.vofs + 1 else s.pwr.vofs - 1 }, pins := { s.pins with coreVid := if up then s.pins.coreVid + 1 else s.pins.coreVid - 1 } }

/-- V20's act on the pace: a code up, a code down, or a cap (R303). -/
def State.paceStep (s : State) : State :=
  if s.paceAct = 0 then s
  else if s.paceLow then
    if s.pwr.vofs.toNat < 5 then s.moveOffset true
    else if 2 ≤ s.paceAct then s.capSlower else s
  else if s.paceHigh ∧ s.pwr.vofs ≠ 0 then s.moveOffset false
  else s

end Sys2Proof.Machine
end

