-- ==== Sys2Proof/Machine/Phy.lean ====
section
/-!
DEFINITION. The meanings of the training and performance-level commands: drift tracking and Lulls (R241 to R247), margin scans
(R252), PL changes (R248, R249, R301, R302, R477), monitors (R288, R299, R300) and the pace offset (R303).
-/
namespace Sys2Proof.Machine

/-- OSCILLATOR_POLL (R241, R242). -/
def execOscillatorPoll (c : Fin 80) (drift : BitVec 8) (s : State) : Host.Outcome State Fault Refusal :=
  .next (
    if s.slices[c].refreshes = false || !(s.role c == roleHome || s.role c == roleAttached) || s.cfgField (pageCh c) 0x104 5 0 = 0 then s
    else
      let s := s.modTrain c fun x => { x with drift := drift }
      let lim := s.cfgField (pageCh c) 0x104 17 12
      if lim ≠ 0 ∧ lim ≤ drift.toInt.natAbs then s.requestLull c else s)

/-- LULL_INTERVAL_EXPIRY (R242). -/
def execLullIntervalExpiry (c : Fin 80) (s : State) : Host.Outcome State Fault Refusal :=
  .next (if s.cfgField (pageCh c) 0x104 31 22 = 0 then s else s.requestLull c)

/-- LULL_WINDOW (R243, R244). -/
def execLullWindow (c : Fin 80) (e : LullEnd) (s : State) : Host.Outcome State Fault Refusal :=
  .next (if s.lullMayOpen c then s.runLull c e else s)

/-- MARGIN_FAIL_RETRY: the retrain begins where it may, else a further Lull is requested (R246). -/
def execMarginFailRetry (c : Fin 80) (s : State) : Host.Outcome State Fault Refusal :=
  .next (
    if s.slices[c].train.marginFail = false || s.slices[c].train.st != 4 then s
    else
      let t := s.retryMargin c
      if t.slices[c].train.st = 5 then t else s.requestLull c)

/-- A full retrain that does not end in READY: the slice is declared failed, but in DIAGNOSTIC the slice of a member is left to the bring-up
of DIAG_EXIT (R245 to R247). -/
def State.retrainFailed (s : State) (c : Fin 80) : State :=
  if s.mode.mode = .diagnostic ∧ (s.role c = roleHome ∨ s.role c = roleAttached) then s else s.declareFailed c 1

/-- A full retrain that passed: READY, and a member rejoins (R245 step 3, R280). -/
def State.retrainPassed (s : State) (c : Fin 80) : State :=
  let s := s.trained c (s.retrainPlan c)
  let s := if s.role c = roleQuarantine then s.modHealth c fun h => { h with retrained := true, tested := false } else s
  s.rejoin c

/-- FULL_RETRAIN_DONE (R233, R245, R247): the readback before it, then its outcome. -/
def execFullRetrainDone (c : Fin 80) (e : RetrainEnd) (s : State) : Host.Outcome State Fault Refusal :=
  .next (
    if s.slices[c].train.st ≠ 5 then s
    else match s.readBack c e.dev, e.fin with
      | (s, 0), .pass => s.retrainPassed c
      | (s, 0), .fail step pl => (s.trainFailed c (s.retrainPlan c) step pl).retrainFailed c
      | (s, _), _ => (s.raise (pageCh c) 3).retrainFailed c)

/-- CH_TRN_CMD.LULL (R242). -/
def execLull (c : Fin 80) (s : State) : Host.Outcome State Fault Refusal :=
  .next (s.whenSlice c 0x108 1 fun s => s.requestLull c)

/-- A full retrain ordered by host firmware (R247). One ordered while a quarantined slice retrains is accepted and goes on in that. -/
def State.orderRetrain (s : State) (c : Fin 80) : State :=
  let ok (s : State) : State := s.modTrain c fun x => { x with cmdRefused := false }
  if s.role c = roleQuarantine then (if s.slices[c].train.st = 5 then ok s else (ok s).beginRetrain c)
  else if s.servesMember c && s.mode.mode == .run && s.slices[c].train.st == 4 then
    ((ok s).modTrain c fun x => { x with marginFail := true }).afterFailedLull c
  else s.modTrain c fun x => { x with cmdRefused := true }

/-- CH_TRN_CMD.RETRAIN (R247). -/
def execRetrain (c : Fin 80) (s : State) : Host.Outcome State Fault Refusal :=
  .next (s.whenSlice c 0x108 2 fun s => s.orderRetrain c)

/-- CH_SCAN_STATUS.ERR of a scan ordered now; 0 when it is allowed (R252). -/
def State.scanError (s : State) (c : Fin 80) : BitVec 3 :=
  let x := s.slices[c]
  let ctl := s.cfg (pageCh c) 0x140
  let mode := s.mode.mode == .diagnostic || (s.inService && (s.role c == roleSpareFree || s.role c == roleQuarantine))
  let lanes := if fieldOf ctl 25 24 = 0 then 8 else 17
  if mode = false then 1
  else if x.train.snapValid.getLsbD (fieldOf ctl 23 22) = false then 2
  else if lanes < fieldOf ctl 20 16 then 3
  else if x.train.st ≠ 4 then 4
  else 0

/-- The timing registers of a slice, as they stand. -/
def State.timingWords (s : State) (c : Fin 80) : Vector Reg 4 := Vector.ofFn fun i => s.stored (pageCh c) (0x050 + 4 * i.val)

/-- The timing registers of a slice set, in force at once. -/
def State.putTiming (s : State) (c : Fin 80) (v : Vector Reg 4) : State :=
  (List.finRange 4).foldl (fun (s : State) (i : Fin 4) => s.store (pageCh c) (0x050 + 4 * i.val) v[i]) s

/-- A slice moved to another PL for a scan, or back: its set point, clocks and timing (R252). -/
def State.scanMove (s : State) (c : Fin 80) (pl : BitVec 2) (timing : Vector Reg 4) : State :=
  if s.slices[c].train.pl = pl then s
  else ((s.modTrain c fun x => { x with pl := pl, fsp := !x.fsp }).setLink c).putTiming c timing

/-- A margin scan started at the scan's PL, or ended at once with ERR (R252). -/
def State.startScan (s : State) (c : Fin 80) : State :=
  let e := s.scanError c
  if e = 0 then
    let pl : BitVec 2 := BitVec.ofNat 2 (fieldOf (s.cfg (pageCh c) 0x140) 23 22)
    let s := s.modTrain c fun x => { x with scanBusy := true, scanErr := 0, st := 0xA, scanPl := x.pl, scanTiming := s.timingWords c }
    s.scanMove c pl (s.slices[c].train.snaps[pl.toFin]).timing
  else (s.modTrain c fun x => { x with scanErr := e }).raise (pageCh c) 5

/-- CH_TRN_CMD.SCAN (R252). -/
def execScan (c : Fin 80) (s : State) : Host.Outcome State Fault Refusal :=
  .next (s.whenSlice c 0x108 4 fun s => s.startScan c)

/-- SCAN_DONE: the slice is back at its PL; a retrain ordered meanwhile goes on (R247, R252). -/
def execScanDone (c : Fin 80) (res0 res1 res2 : Reg) (s : State) : Host.Outcome State Fault Refusal :=
  .next (
    if s.slices[c].train.scanBusy then
      let s := s.scanMove c s.slices[c].train.scanPl s.slices[c].train.scanTiming
      (s.modTrain c fun x => { x with scanBusy := false, st := if x.st = 0xA then 4 else x.st, res0 := res0, res1 := res1, res2 := res2 &&& 0xFFFFFF00 }).raise (pageCh c) 5
    else s)

/-- The six training counters cleared (R255). -/
def State.clearTrn (s : State) (c : Fin 80) : State := s.modSlice c fun x => { x with tcnt := Vector.replicate 6 0 }

/-- CH_TRN_CMD.CLR_COUNTERS (R255). -/
def execChTrnClrCounters (c : Fin 80) (s : State) : Host.Outcome State Fault Refusal :=
  .next (s.whenSlice c 0x108 8 fun s => s.clearTrn c)

/-- PL_CHANGE_DECISION (R301, R302). -/
def execPlChangeDecision (s : State) : Host.Outcome State Fault Refusal := .next s.decidePl

/-- STANDBY_PLL_LOCKED (R248). -/
def execStandbyPllLocked (c : Fin 80) (s : State) : Host.Outcome State Fault Refusal :=
  .next (
    if s.pwr.switching && s.slices[c].train.switching then (s.modTrain c fun x => { x with pllReady := true }).plSettle
    else s)

/-- SWITCH_STEP (R249): drained, in its turn, and not once MAIN_PG has fallen (R250). -/
def execSwitchStep (c : Fin 80) (s : State) : Host.Outcome State Fault Refusal :=
  .next (
    let x := s.slices[c]
    if s.pwr.steps && x.train.switching && s.switches c && s.inService && !s.fab.wrst && x.sched.alert.isNone && !x.sched.inRef && s.windowFree c && s.stepTurn c then
      if x.sched.wq.isEmpty then s.switchStep c else s.orderDrain c false
    else s)

/-- SUPPLY_MONITOR_UPDATE (R288, R302). -/
def execSupplyMonitorUpdate (coreMv sliceMv : BitVec 10) (pllOk : Bool) (s : State) : Host.Outcome State Fault Refusal :=
  .next (({ s with pwr := { s.pwr with coreMv := coreMv, sliceMv := sliceMv, pllOk := pllOk } }).railsUp.plSettle)

/-- VRAMP_EXPIRY (R302). -/
def execVrampExpiry (s : State) : Host.Outcome State Fault Refusal :=
  .next (if s.pwr.switching && s.pwr.raising then s.abandonPl else s)

/-- THERMAL_MONITOR_UPDATE (R242, R300). -/
def execThermalMonitorUpdate (c : Fin 80) (sliceT coreT : BitVec 8) (s : State) : Host.Outcome State Fault Refusal :=
  .next (
    let old := s
    let s := ({ s with pwr := { s.pwr with coreTemp := coreT } }).modTrain c fun x => { x with tempNow := sliceT }
    let dt := s.cfgField (pageCh c) 0x104 21 18
    let s := if dt ≠ 0 ∧ dt ≤ (degC sliceT - degC s.slices[c].train.temp).natAbs then s.requestLull c else s
    if s.thermHi = false then s
    else if old.thermHi = false then s.noteTherm old
    else if s.cfgBit pagePwr 0x040 3 && decide (s.pwr.thermT.toNat + 1000000 ≤ s.tb.toNat) then
      ({ s with pwr := { s.pwr with thermT := s.tb } }).capSlower
    else s)

/-- PACE_MONITOR_UPDATE (R174, R299). -/
def execPaceMonitorUpdate (mon : Fin 16) (mhz : BitVec 11) (s : State) : Host.Outcome State Fault Refusal :=
  .next (
    let t := { s with pwr := { s.pwr with paceMhz := s.pwr.paceMhz.set mon mhz, paceSeen := s.pwr.paceSeen ||| (1#16 <<< mon.val) } }
    t.notePace s)

/-- PACE_OFFSET_STEP (R303). -/
def execPaceOffsetStep (s : State) : Host.Outcome State Fault Refusal := .next s.paceStep

/-- VID_HOLD_EXPIRY: 2 µs after the last step of a slower change both codes take the nominal voltage, without offset, and the change ends
(R302, R477). -/
def execVidHoldExpiry (s : State) : Host.Outcome State Fault Refusal :=
  .next (
    if s.pwr.vidHold then
      let t := ({ s with pwr := { s.pwr with vidHold := false, vofs := 0 } }).setVid (nominalVid s.pwr.pl) (nominalVid s.pwr.pl)
      if s.pwr.switching then t.plEnd else t
    else s)

end Sys2Proof.Machine
end

