-- ==== Sys2Proof/Machine/Breeze.lean ====
section
/-!
DEFINITION. The Breeze sideband (R342 to R363): frames, matches and wakes, replies, the transmit queue, timeouts, and the page's
commands. A frame that the instance sends itself is one step of FRAME_SEND; FRAME_RECEIVED is a frame of another participant.
-/
namespace Sys2Proof.Machine

/-! ### Frames (R354) -/

/-- A frame from its fields, with its CRC. -/
def brzFrame (dest src cmd : Byte) (payload : List Byte) : List Byte :=
  let body := [dest, src, cmd, BitVec.ofNat 8 payload.length] ++ payload
  body ++ [crcFrame body]

/-- Addresses of R354. -/
def brzAll : Byte := 0xFF
def brzPower : Byte := 0x0F

/-- Command codes (R356). -/
def brzPing : Byte := 0x01
def brzStatus : Byte := 0x02
def brzWake : Byte := 0x03
def brzHint : Byte := 0x04
def brzToken : Byte := 0x05
def brzDone : Byte := 0x06
def brzPingReply : Byte := 0x81
def brzStatusReply : Byte := 0x82

/-- The instance's own address. -/
def State.brzOwn (s : State) : Byte := s.brz.addr.setWidth 8

/-- The peers that share the hold-up supply, as they act: the own bit is always set; alone in the safe state (R362, R392). -/
def State.brzPeers (s : State) : BitVec 8 :=
  (if s.parity pageBrz then 0 else s.brz.peers) ||| (1#8 <<< s.brz.addr.toNat)

/-- Whether a command code takes a payload length. -/
def brzLenOk (cmd : Byte) (n : Nat) : Bool :=
  if cmd = brzPing ∨ cmd = brzPingReply then decide (n ≤ 16)
  else if cmd = brzHint then n == 1
  else if cmd = brzStatusReply then n == 4
  else if cmd = brzStatus ∨ cmd = brzWake ∨ cmd = brzToken ∨ cmd = brzDone then n == 0
  else false

/-! ### Wires (R342, R346 to R348) -/

/-- The bus at rest: D0, D1 and RDY high, ACK pulled low by every listener. -/
def wiresIdle : BitVec 4 := 0xD

/-- Levels through one symbol, D0, D1, ACK and RDY from the top: a rail is low, or both for a claim; the listeners have latched it, pulled RDY
low and released ACK; the sender has released the rails; the listeners have pulled ACK low and released RDY (R347, R348). -/
def symbolWires (rails : BitVec 2) : List (BitVec 4) := [rails ++ 0b01#2, rails ++ 0b10#2, 0b1110, wiresIdle]

/-- The rails of a bit: D0 low for a 0, D1 for a 1. -/
def bitRails (b : Bool) : BitVec 2 := if b then 0b10 else 0b01

/-- The bits of a frame, each byte most significant bit first (R354). -/
def frameBits (f : List Byte) : List Bool := f.flatMap fun b => (List.range 8).map fun i => b.getLsbD (7 - i)

/-- The levels of the wires through a frame: its claim and its bits. -/
def frameWires (f : List Byte) : List (BitVec 4) := symbolWires 0 ++ (frameBits f).flatMap fun b => symbolWires (bitRails b)

/-- What a listener pulls low between two symbols: ACK (R346). -/
def pullsArmed : BitVec 4 := 0x2

/-- The Breeze interface changed. -/
def State.modBrz (s : State) (f : Breeze → Breeze) : State := { s with brz := f s.brz }

/-- The wires after some symbols of which the instance has taken part in each one. -/
def State.brzAfter (s : State) (l : List (BitVec 4)) : State :=
  s.modBrz fun x => { x with wires := l.getLast?.getD x.wires, pulls := pullsArmed }

/-- No frame is on the bus. -/
def State.brzFree (s : State) : State := s.modBrz fun x => { x with busy := false }

/-- The wires after a handshake that was not completed: what the instance pulls is low, the other levels are free values (assumption 87). -/
def State.brzBroken (s : State) (pulls : BitVec 4) : State :=
  (s.modBrz fun x => { x with wires := s.freeVal 4 &&& ~~~pulls, pulls := pulls, busy := false }).tookFree

/-! ### Errors and status -/

/-- A source of the page raised, while the core holds the page. -/
def State.brzRaise (s : State) (j : Nat) : State := s.raiseIf s.pwr.coreOn pageBrz j

/-- Two participants with one address: DUP_ADDR, and ERR (R351). -/
def State.brzDup (s : State) : State := ({ s with brz := { s.brz with dupAddr := true } }).brzRaise 2

/-- A frame dropped and counted (R356, R359). -/
def State.brzDrop (s : State) : State := { s with brz := { s.brz with dropCnt := satInc s.brz.dropCnt } }

/-- The sleep state in force (R304): none while it is entered or left. -/
def State.sleepState (s : State) : BitVec 2 := if s.pwr.phase = .asleep then s.pwr.asleep else 0

/-- The hotter of the core's and the slices' highest reading; 0x80 with the core off (R357). -/
def State.hottestAll (s : State) : Byte :=
  if s.pwr.coreOn = false then 0x80
  else if degC s.hottest.2 ≤ degC s.pwr.coreTemp then s.pwr.coreTemp else s.hottest.2

/-- The payload of STATUS_REPLY (R357). -/
def State.statusPayload (s : State) : List Byte :=
  [ BitVec.ofNat 8 (modeCode s.mode.mode + s.sleepState.toNat * 16 + s.pwr.pl.toNat * 64),
    maskOf 8 fun i =>
      match i with
      | 0 => s.ao.onVbk
      | 1 => s.ao.vbkLow
      | 2 => s.pins.mainPg
      | 3 => s.squall.token
      | 4 => s.squall.doneSent
      | 5 => s.pwr.coreOn && s.thermHi
      | 6 => s.pwr.coreOn && s.overcommit
      | _ => s.ao.lost,
    s.hottestAll, 0 ]

/-! ### Actions of matching frames (R356) -/

/-- A reply queued; a fifth is not answered (R359). -/
def State.brzReply (s : State) (f : List Byte) : State :=
  if s.brz.replies.length < 4 then { s with brz := { s.brz with replies := s.brz.replies ++ [f] } } else s.brzDrop

/-- A reply stored in the receive buffer, or an overrun (R356, R362). -/
def State.brzStore (s : State) (src cmd : Byte) (payload : List Byte) : State :=
  if s.brz.rxValid then { s with brz := { s.brz with rxOver := true } }
  else ({ s with brz := { s.brz with rxValid := true, rxSrc := src, rxCmd := cmd, rxLen := BitVec.ofNat 5 payload.length, rxData := payload } }).brzRaise 0

/-- Whether a source address is one of the peers (R361). -/
def State.brzPeer (s : State) (src : Byte) : Bool := decide (src.toNat < 8) && s.brzPeers.getLsbD src.toNat

/-- What a matching frame does besides waking. -/
def State.brzAct (s : State) (dest src cmd : Byte) (payload : List Byte) : State :=
  let own := dest == s.brzOwn
  if brzLenOk cmd payload.length = false then s.brzDrop
  else if cmd = brzPing then (if own then s.brzReply (brzFrame src s.brzOwn brzPingReply payload) else s)
  else if cmd = brzStatus then (if own then s.brzReply (brzFrame src s.brzOwn brzStatusReply s.statusPayload) else s)
  else if cmd = brzToken then
    (if s.brzPeer src then { s with squall := { s.squall with tokenSeen := s.squall.tokenSeen ||| (1#8 <<< src.toNat) } } else s)
  else if cmd = brzDone then
    (if s.brzPeer src then { s with squall := { s.squall with peerDone := s.squall.peerDone ||| (1#8 <<< src.toNat), heard := s.squall.heard ||| (1#8 <<< src.toNat) } } else s)
  else if cmd = brzPingReply ∨ cmd = brzStatusReply then s.brzStore src cmd payload
  else s

/-- The wake of a matching frame (R315, R360): in S1, S2, and RETENTION with MAIN_PG high, where REFCLK must still be seen. -/
def State.brzWakes (s : State) : State :=
  if s.mode.mode = .retention then
    (if s.pins.mainPg && !s.mode.refWait then
      { s with mode := { s.mode with refWait := true }, pwr := { s.pwr with wakeSrc := 4 }, pins := { s.pins with wakeOut := s.pins.wakeOut || s.ao.wakeEn } }
    else s)
  else s.wakeBy 4

/-- A frame with a good CRC at a listener (R351, R355). -/
def State.brzGood (s : State) (dest src cmd : Byte) (payload : List Byte) : State :=
  let s := if src = s.brzOwn then s.brzDup else s
  if dest = s.brzOwn ∨ dest = brzAll then (s.brzAct dest src cmd payload).brzWakes else s

/-- A whole frame with a good CRC from another participant, for an instance that has joined the bus; LEN above 16 is discarded
(R352). -/
def State.brzMatch (s : State) (dest src cmd : Byte) (payload : List Byte) : State :=
  if s.brz.joined = false then s
  else
    let s := (s.brzAfter (frameWires (brzFrame dest src cmd payload))).brzFree
    if payload.length ≤ 16 then s.brzGood dest src cmd payload else s

/-- A frame as its bytes (R352, R355): one with LEN above 16 and a collision are discarded, a bad CRC is counted. -/
def State.brzFrameIn (s : State) (bytes : List Byte) (collision : Bool) : State :=
  if s.brz.joined = false then s
  else
    let s := (s.brzAfter (frameWires bytes)).brzFree
    match bytes with
    | dest :: src :: cmd :: len :: rest =>
      if collision || decide (16 < len.toNat) || rest.length != len.toNat + 1 then s
      else if crcFrame (bytes.take (4 + len.toNat)) ≠ (rest.getLast?).getD 0 then
        { s with brz := { s.brz with crcCnt := satInc s.brz.crcCnt } }
      else s.brzGood dest src cmd (rest.take len.toNat)
    | _ => s

/-! ### Sending (R359) -/

/-- The kinds of frame in the transmit queue. -/
inductive TxKind where
  | done | token | reply | hint | host
  deriving DecidableEq, Repr

/-- The frame that is sent next. -/
def State.txNext (s : State) : Option TxKind :=
  if s.brz.txDone then some .done
  else if s.brz.txToken then some .token
  else if s.brz.replies.isEmpty = false then some .reply
  else if s.brz.txHint.isSome then some .hint
  else if s.brz.txHost.isSome then some .host
  else none

/-- The place of a kind in that order. -/
def TxKind.order (k : TxKind) : Fin 5 := match k with | .done => 0 | .token => 1 | .reply => 2 | .hint => 3 | .host => 4

/-- The bytes of the frame of a kind (R354, R356). -/
def State.txFrame (s : State) (k : TxKind) : List Byte :=
  match k with
  | .done => brzFrame brzAll s.brzOwn brzDone []
  | .token => brzFrame brzAll s.brzOwn brzToken []
  | .reply => s.brz.replies.headD []
  | .hint => brzFrame brzPower s.brzOwn brzHint [(s.brz.txHint.getD 0).setWidth 8]
  | .host => s.brz.txHost.getD []

/-- DEST and SRC of a frame as the number that arbitration compares: with a 0 dominant and the most significant bit first, the lowest one wins
(R350). -/
def headerRank (dest src : Byte) : Nat := 256 * dest.toNat + src.toNat
def frameRank (f : List Byte) : Nat := headerRank (f[0]?.getD 0) (f[1]?.getD 0)

/-- The retries of a kind begin anew, with another frame. -/
def State.freshRetries (s : State) (k : TxKind) : State := s.modBrz fun x => { x with retries := x.retries.set k.order 0 }

/-- The host frame ends with a RESULT, and TX_DONE is raised (R362). -/
def State.endHost (s : State) (result : BitVec 3) : State :=
  ({ s with brz := { s.brz with txHost := none, txResult := result } }).brzRaise 1

/-- A frame leaves the queue, sent or dropped. -/
def State.txRemove (s : State) (k : TxKind) (sent : Bool) : State :=
  let s := (s.freshRetries k).brzFree
  match k with
  | .done => { s with brz := { s.brz with txDone := false }, squall := { s.squall with doneSent := s.squall.doneSent || sent } }
  | .token => { s with brz := { s.brz with txToken := false } }
  | .reply => { s with brz := { s.brz with replies := s.brz.replies.drop 1 } }
  | .hint => { s with brz := { s.brz with txHint := none } }
  | .host => s.endHost (if sent then 1 else 3)

/-- At HOLD-UP entry the hint and the host frame are dropped (R359). -/
def State.brzHoldUp (s : State) : State :=
  let s := ((s.freshRetries .hint).freshRetries .host).modBrz fun x => { x with txHint := none }
  if s.brz.txHost.isSome then s.endHost 3 else s

/-- BRZ_CFG fields as they act. -/
def State.brzRetry (s : State) : Nat := fieldOf s.brz.cfg 7 6

/-- BRZ_CMD.SEND (R362). LEN above 16 is sent as 16. -/
def State.brzSend (s : State) : State :=
  let ctrl := s.stored pageBrz 0x054
  let cmd : Byte := ctrl.extractLsb' 16 8
  if cmd ≠ brzPing ∧ cmd ≠ brzStatus ∧ cmd ≠ brzWake then { s with brz := { s.brz with txResult := 2 } }
  else if s.brz.txHost.isSome then { s with brz := { s.brz with txResult := 4 } }
  else
    let data := (List.range 4).flatMap fun k => bytesOf (s.stored pageBrz (0x058 + 4 * k)) 4
    let f := brzFrame (ctrl.extractLsb' 24 8) s.brzOwn cmd (data.take (min 16 (fieldOf ctrl 4 0)))
    { s with brz := { s.brz with txHost := some f, txResult := 0 } }

/-- BRZ_CMD.RX_RELEASE (R362). -/
def State.brzRelease (s : State) : State := { s with brz := { s.brz with rxValid := false, rxOver := false } }

/-- BRZ_CMD.CLR_COUNTERS (R363). -/
def State.clearBrz (s : State) : State :=
  { s with brz := { s.brz with crcCnt := 0, toCnt := 0, arbCnt := 0, collCnt := 0, dropCnt := 0 } }

/-! ### Meanings -/

/-- The bus is claimed, by another participant or by the instance: both rails low, handshaked as a bit (R348). -/
def State.brzClaimed (s : State) : State :=
  (s.brzAfter (symbolWires 0)).modBrz fun x => { x with busy := true }

/-- BUS_CLAIM: a claim is taken, and a partial frame discarded (R348). -/
def execBusClaim (s : State) : Host.Outcome State Fault Refusal :=
  .next (if s.brz.joined then s.brzClaimed else s)

/-- FRAME_RECEIVED (R351, R352, R355). -/
def execFrameReceived (bytes : List Byte) (collision : Bool) (s : State) : Host.Outcome State Fault Refusal :=
  .next (s.brzFrameIn bytes collision)

/-- PING (R356). -/
def execPing (dest src : Byte) (payload : List Byte) (s : State) : Host.Outcome State Fault Refusal :=
  .next (s.brzMatch dest src brzPing payload)

/-- STATUS (R357). -/
def execStatus (dest src : Byte) (s : State) : Host.Outcome State Fault Refusal := .next (s.brzMatch dest src brzStatus [])

/-- WAKE (R360). -/
def execWake (dest src : Byte) (s : State) : Host.Outcome State Fault Refusal := .next (s.brzMatch dest src brzWake [])

/-- PL_HINT (R356). -/
def execPlHint (dest src payload : Byte) (s : State) : Host.Outcome State Fault Refusal := .next (s.brzMatch dest src brzHint [payload])

/-- SQUALL_TOKEN (R361). -/
def execSquallToken (dest src : Byte) (s : State) : Host.Outcome State Fault Refusal := .next (s.brzMatch dest src brzToken [])

/-- SQUALL_DONE (R361). -/
def execSquallDone (dest src : Byte) (s : State) : Host.Outcome State Fault Refusal := .next (s.brzMatch dest src brzDone [])

/-- PING_REPLY (R356). -/
def execPingReply (dest src : Byte) (payload : List Byte) (s : State) : Host.Outcome State Fault Refusal :=
  .next (s.brzMatch dest src brzPingReply payload)

/-- STATUS_REPLY (R356). -/
def execStatusReply (dest src : Byte) (payload : List Byte) (s : State) : Host.Outcome State Fault Refusal :=
  .next (s.brzMatch dest src brzStatusReply payload)

/-- Whether the instance may claim the bus, once that has been high for tIDLE (R348, R353). -/
def State.mayClaim (s : State) : Bool := s.brz.joined && !s.brz.stuck && !s.brz.busy

/-- A frame of the queue sent against rivals that claim at once with it: one with a lower DEST and SRC makes the instance withdraw and listen,
with its frame still to be sent (R350); a collision with a frame of the same DEST and SRC makes it abandon its own (R351). -/
def State.sendFrame (s : State) (k : TxKind) (rivals : List (Byte × Byte)) (collision : Bool) : State :=
  let f := s.txFrame k
  let rank (r : Byte × Byte) : Nat := headerRank r.1 r.2
  let s := s.brzClaimed
  if rivals.any fun r => decide (rank r < frameRank f) then s.modBrz fun x => { x with arbCnt := satInc x.arbCnt }
  else if collision && rivals.any fun r => rank r == frameRank f then
    (s.modBrz fun x => { x with collCnt := satInc x.collCnt }).brzDup.txRemove k false
  else ((s.brzAfter (frameWires f)).modBrz fun x => { x with sent := f }).txRemove k true

/-- FRAME_SEND: the instance claims the bus and sends the next frame in order (R348, R350, R351, R359). -/
def execFrameSend (rivals : List (Byte × Byte)) (collision : Bool) (s : State) : Host.Outcome State Fault Refusal :=
  .next (match s.txNext with
    | none => s
    | some k => if s.mayClaim then s.sendFrame k rivals collision else s)

/-- A handshake of the instance's own frame that was not completed in time: retried, or dropped after the last retry (R353). -/
def State.sendTimeout (s : State) (k : TxKind) : State :=
  let s := ((s.modBrz fun x => { x with toCnt := satInc x.toCnt }).brzBroken 0).brzRaise 2
  if s.brz.retries[k.order] < s.brzRetry then s.modBrz fun x => { x with retries := x.retries.set k.order (x.retries[k.order] + 1) }
  else s.txRemove k false

/-- HANDSHAKE_TIMEOUT as a sender or as a listener (R353). -/
def execHandshakeTimeout (sender : Bool) (s : State) : Host.Outcome State Fault Refusal :=
  .next (if s.brz.joined = false then s
    else if sender then (match s.txNext with | none => s | some k => s.sendTimeout k)
    else s.brzBroken pullsArmed)

/-- A wire has been low for four timeouts: every wire that the instance drives is released. Which wire it is is a free value. -/
def State.brzStuck (s : State) : State :=
  let low := 1#4 <<< (s.freeVal 2).toNat
  ({ s with brz := { s.brz with stuck := true, busy := false, pulls := 0, wires := Config.freeValue 4 (s.free + 1) &&& ~~~low }, free := s.free + 2 }).brzRaise 2

/-- The wire has been high for tIDLE: a listener arms again. -/
def State.brzUnstuck (s : State) : State :=
  let s := s.modBrz fun x => { x with stuck := false }
  if s.brz.joined then s.brzAfter [wiresIdle] else s

/-- STUCK: a wire low for four timeouts, or high again for tIDLE (R353). -/
def execStuck (low : Bool) (s : State) : Host.Outcome State Fault Refusal :=
  .next (if s.pins.aoValid = false then s else if low then s.brzStuck else s.brzUnstuck)

/-- SEND (R362). -/
def execSend (s : State) : Host.Outcome State Fault Refusal := .next (s.whenLive pageBrz fun s => s.brzSend)

/-- RX_RELEASE (R362). -/
def execRxRelease (s : State) : Host.Outcome State Fault Refusal := .next (s.whenLive pageBrz fun s => s.brzRelease)

/-- BRZ_CLR_COUNTERS (R363). -/
def execBrzClrCounters (s : State) : Host.Outcome State Fault Refusal := .next (s.whenLive pageBrz fun s => s.clearBrz)

/-- LISTENER_JOIN (R346): once the always-on domain holds valid contents; ACK is pulled low. -/
def execListenerJoin (s : State) : Host.Outcome State Fault Refusal :=
  .next (if s.pins.aoValid then (s.modBrz fun x => { x with joined := true }).brzAfter [wiresIdle] else s)

end Sys2Proof.Machine
end

