-- ==== Sys2Proof/Machine/ArbOps.lean ====
section
/-!
DEFINITION. Admission at a hub (R148 to R152): ticks and age, levels and effective priority (R132, R133), credit (R161, R162),
ranking, the packet header (R130), and what an admitted request asks of its hubs: merges (R106), the PI check of a write
(R58) and one job per stripe.
-/
namespace Sys2Proof.Machine

/-! ### Ticks and age -/

/-- Requests in front of a hub's arbiter. -/
def State.waitingAt (s : State) (h : Fin 8) : List Req := s.reqs.filter fun r => r.phase == .waiting && r.hub == h

/-- Age of a request: the counter less its stamp, at most 32,767 (R148). -/
def Hub.age (x : Hub) (r : Req) : Nat := min (x.tick - r.stamp).toNat 32767

/-- STARVED of a hub: some request waits at age 32,767 (R148). -/
def State.starvedAt (s : State) (h : Fin 8) : Bool := (s.waitingAt h).any fun r => s.hubs[h].age r == 32767

/-- The tick advances by 1; an age that has reached 32,767 stays there, and STARVE is raised when one reaches it (R148). -/
def State.advanceTick (s : State) (h : Fin 8) : State :=
  let s := s.modHub h fun x => { x with tick := x.tick + 1 }
  let x := s.hubs[h]
  let reached := (s.waitingAt h).any fun r => (x.tick - r.stamp).toNat == 32767
  let s := s.mapReqs fun r => if r.phase == .waiting && r.hub == h && decide (32767 < (x.tick - r.stamp).toNat) then { r with stamp := x.tick - 32767 } else r
  s.raiseIf reached pageArb 0

/-- Backoff of the n-th consecutive refusal, in ticks (R150). -/
def backoffTicks (n : Nat) : Nat := if 11 ≤ n then 8192 else 2 ^ (n + 2)

/-- Whether a request still backs off. -/
def Hub.backingOff (x : Hub) (r : Req) : Bool :=
  match r.backoff with
  | some t => decide ((t - x.tick).toNat ≠ 0) && decide ((t - x.tick).toNat ≤ 8192)
  | none => false

/-! ### Credit (R161, R162) -/

/-- Class-pool occupancy of a hub, in lines, for one class or for all. -/
def State.occ (s : State) (h : Fin 8) (c : Option Nat) : Nat :=
  (s.reqs.filter fun r => r.holdsSlots && r.hub == h && isPortSrc r.src && (c == none || c == some r.cls.toNat)).foldl (fun n r => n + r.slots) 0

/-- SHR_CFG.HWM in lines. -/
def State.hwm (s : State) : Nat := min 64 (max 1 (s.cfgField pageShr 0x040 12 6)) * 8

/-- has_credit (R162). -/
def State.hasCredit (s : State) (h : Fin 8) (r : Req) : Bool :=
  if isPortSrc r.src = false then true
  else
    let c := r.cls.toNat
    let n := r.slots
    let own := s.clsShare c * 8
    let held := (List.range 8).foldl (fun a k => if s.clsReserved k && k != c then a + (s.clsShare k * 8 - s.occ h (some k)) else a) 0
    if s.clsReserved c && decide (s.occ h (some c) + n ≤ own) then true
    else if 512 < s.occ h none + n + held then false
    else if s.occ h none < s.hwm then true
    else decide (s.occ h (some c) + n ≤ own)

/-! ### Candidates (R146, R149, R161, R206) -/

/-- The tuple line of a WRITE with PI: the b supplied tuples in their place (R56, R57). -/
def State.tupleOp (s : State) (r : Req) : List LineOp :=
  match r.op == opcWrite && r.pi == 1, r.tuple with
  | true, some ta =>
    let n := 8 * s.piBlocks r
    let at_ := s.tupleAddr r.src r.byteAddr % 64
    let beat := (r.beats.getD r.lines { data := 0, be := 0 }).data
    [{ addr := BitVec.ofNat 34 (ta / 64), index := r.lines, data := lineOf (fillBytes 0 at_ ++ (lineBytes beat).take n ++ fillBytes 0 (64 - at_ - n)), be := BitVec.ofNat 64 ((2 ^ n - 1) * 2 ^ at_), poison := false }]
  | _, _ => []

/-- The line operation that a READ with PI makes for its tuples (R57, R195). -/
def Req.tupleRead (r : Req) : List LineOp :=
  match r.op == opcRead && r.pi != 0, r.tuple with
  | true, some ta => [{ addr := BitVec.ofNat 34 (ta / 64), index := r.lines, data := 0, be := 0, poison := false }]
  | _, _ => []

/-- Whether a slice can take an operation of a hub: its hold is not full, and neither is the queue for it (R146, R206). -/
def State.sliceRoom (s : State) (g : Fin 8) (write : Bool) (c : Fin 80) : Bool :=
  decide (s.heldFor g c < 32) && !(s.hubs[g].unplaced.any fun x => x.1 == c && x.2.write == write) &&
    (if write then decide (s.slices[c].sched.wq.length < 96) else decide (s.slices[c].sched.rq.length < 64))

/-- Whether a member's slice can take an operation of a request. -/
def State.memberRoom (s : State) (g : Fin 8) (stripe : Nat) (write : Bool) (m : Fin 9) : Bool :=
  match s.target g m stripe with
  | none => true
  | some c => s.sliceRoom g write c

/-- Members that the work on a stripe reads, and members that it writes, as its hub would plan it now (R186, R189, R200). -/
def State.workMembers (s : State) (read : Bool) (w : StripeWork) : List (Fin 9) × List (Fin 9) :=
  let mine := w.lines.map s.lineMember
  if read then ((if mine.any fun m => s.readThrough w.g m w.stripe then allMembers else mine), [])
  else if s.needsZero w.g w.stripe then ([], allMembers)
  else
    let j := { newJob 0 0 .write w.stripe w.lines w.xor w.tuple 0 with rmwOnly := w.rmw, epoch := s.hubs[w.g].epoch }
    ((s.planWrite w.g j).2.1, parityMember w.stripe :: mine)

/-- Whether the slices that the work on a stripe goes to can take it (R146). -/
def State.workRoom (s : State) (read : Bool) (w : StripeWork) : Bool :=
  let ms := s.workMembers read w
  (ms.1.all fun m => s.memberRoom w.g w.stripe false m) && ms.2.all fun m => s.memberRoom w.g w.stripe true m

/-- Whether the slices of a relayout copy can take it: the reads, and the write at its destination (R206). -/
def State.copyRoom (s : State) (g : Fin 8) (stripe : Nat) : Bool :=
  match s.spr.rly[g] with
  | some r => ((if r.kind = .evacuate ∨ r.kind = .return_ then [r.mem] else allMembers).all fun m => s.memberRoom g stripe false m) && s.sliceRoom g true r.dst
  | none => true

/-- Whether the target slices of a request can take its operations (R146, R149, R206). -/
def State.slicesCanTake (s : State) (r : Req) : Bool :=
  if r.src = srcVane then s.copyRoom r.hub r.ring
  else
    let xor := r.op == opcXor
    let ops := r.ops ++ r.tupleRead ++ s.tupleOp r
    (s.gather (ops.map fun o => { op := o, xor := xor, rmw := xor, tuple := o.index == r.lines })).all fun w => s.workRoom (r.op == opcRead) w

/-- Whether a unit that a write touches still waits for a merge by another write (assumption 31). -/
def State.mergeBlocked (s : State) (r : Req) : Bool :=
  isWriteOp r.op && s.ledger.merges.any fun m => m.2.2 != r.rid &&
    (s.claims r).any fun c => c.1 == m.1 && c.2.contains m.2.1

/-- Whether a write with PI that leaves bytes as stored must wait for stores to its stripes (assumption 31). -/
def State.piBlocked (s : State) (r : Req) : Bool :=
  r.op == opcWrite && r.pi == 1 && (r.ops.any fun o => o.be != BitVec.allOnes 64) && r.ops.any fun o =>
    match s.mapAddr (o.addr.toNat * 64) with
    | some p => s.hubs[p.g].jobs.any fun j => j.stores && j.stripe == p.stripe
    | none => false

/-- Whether a request is a candidate at a phase (R149). -/
def State.isCandidate (s : State) (h : Fin 8) (r : Req) : Bool :=
  !s.hubs[h].backingOff r && s.slicesCanTake r &&
    (isPortSrc r.src || decide (s.occReserve h + r.slots ≤ 128)) && !s.mergeBlocked r && !s.piBlocked r

/-- Whether a is ranked above b: by level, EP and age, or by age alone for a reserved grant; ties by the lowest SRC, then by
acceptance (R151). -/
def State.ranksAbove (s : State) (h : Fin 8) (reserved : Bool) (a b : Req) : Bool :=
  let key (r : Req) : Nat :=
    let age := s.hubs[h].age r
    if reserved then age else (s.level r * 16 + s.effPrio r) * 32768 + age
  decide (key b < key a) || (key a == key b && (decide (a.src.toNat < b.src.toNat) || (a.src == b.src && decide (a.rid < b.rid))))

/-- The winner among candidates. -/
def State.winner (s : State) (h : Fin 8) (reserved : Bool) (cand : List Req) : Option Req :=
  cand.foldl (fun best r => match best with
    | none => some r
    | some b => if s.ranksAbove h reserved r b then some r else some b) none

/-! ### The packet header (R130) -/

/-- Whether a request covers whole stripes: eight whole lines from a stripe's first (FULL). -/
def Req.wholeStripes (r : Req) (first : Nat) : Bool :=
  decide (first % 8 = 0) && decide (r.ops.length % 8 = 0) && !r.ops.isEmpty &&
    (r.op == opcRead || (r.op != opcXor && r.ops.all fun o => o.be == BitVec.allOnes 64))

/-- Header bytes 0 to 14, and HPAR over them. LEVEL and EP are those at entry (R151); the tag and the port epoch of a request that no
port made are 0 (assumption 68). -/
def State.packetHeader (s : State) (h : Fin 8) (r : Req) : BitVec 128 :=
  let addr := match r.ops with
    | o :: _ => o.addr
    | [] => r.addr
  let ing := !isPortSrc r.src && r.src != srcDebug && r.src != srcVane
  let bs : List Byte :=
    natBytes (r.entryLvl.toNat + r.entryEp.toNat * 4 + (s.hubs[h].epoch.toNat % 4) * 64) 1 ++
    natBytes (r.src.toNat + (if r.gv then 32 else 0) + r.pi.toNat * 64) 1 ++
    natBytes (r.tag.toNat + r.op.toNat * 1024) 2 ++ natBytes (r.gid.toNat + r.cls.toNat * 4096) 2 ++
    natBytes h.val 1 ++ natBytes r.len.toNat 1 ++ natBytes addr.toNat 5 ++ natBytes r.pepoch.toNat 1 ++
    natBytes ((if r.ledgered then 1 else 0) + (if ing then 2 else 0) + (if r.wholeStripes addr.toNat then 4 else 0) + (if r.sampled.isSome then 8 else 0)) 1
  wordOf 128 (bs ++ [bs.foldl (· ^^^ ·) 0])

/-- The header captured when the watch matches (R411). -/
def State.captureHeader (s : State) (h : Fin 8) (r : Req) (hdr : BitVec 128) : State :=
  let c := s.cfg pageDbg 0x068
  if s.dbg.capArmed && decide (fieldOf c 26 24 = h.val) && (bitOf c 15 || decide (fieldOf c 20 16 = r.src.toNat)) &&
      (bitOf c 7 || decide (fieldOf c 11 8 = r.op.toNat)) then
    ({ s with dbg := { s.dbg with capArmed := false, captured := true, capData := hdr, capTime := s.tb } }).raise pageDbg 1
  else s

/-! ### What an admitted write stores (R41, R42, R56, R106) -/

/-- Whether the unit of a window address is merged by a request. -/
def State.mergedBy (s : State) (rid a : Nat) : Bool :=
  s.inWindow a && s.ledger.merges.any fun m => m.1 == s.granuleOf a && m.2.1 == s.unitOf a && m.2.2 == rid

/-- The address of a window byte in C, and in P. -/
def State.addrC (s : State) (a : Nat) : Nat := s.slotAddr (s.entry (s.granuleOf a)).cslot a
def State.addrP (s : State) (a : Nat) : Nat := s.slotAddr (!(s.entry (s.granuleOf a)).cslot) a

/-- A line of a merged unit as it is written to P: the enabled bytes over the line in C; poison in C is carried forward unless
all 64 bytes are enabled (R106, R118). The Bool says that a WRITE_XOR met a poisoned old line. -/
def State.mergedLine (s : State) (xor : Bool) (a : Nat) (o : LineOp) : LineOp × Bool :=
  let all : BitVec 64 := BitVec.allOnes 64
  if !xor && o.be == all then (o, false)
  else match s.lineNow (s.addrC a) with
    | none => ({ o with poison := true, be := all }, xor)
    | some d => ({ o with data := mergeBytes d (if xor then d ^^^ o.data else o.data) o.be, be := all }, false)

/-- Lines of the merged units of a write that the write itself does not carry, copied from C to P (R106). -/
def State.restOfUnits (s : State) (r : Req) (own : List Nat) : List LineOp :=
  let unit := s.granule / 64
  (s.ledger.merges.filter fun m => m.2.2 == r.rid).flatMap fun m =>
    (List.range (unit / 64)).filterMap fun k =>
      let a := s.winBase + m.1 * s.granule + m.2.1 * unit + 64 * k
      if own.contains (a / 64) then none
      else some (s.mergedLine false a { addr := BitVec.ofNat 34 (s.addrP a / 64), index := 0, data := 0, be := 0, poison := false }).1

/-- Every line an admitted write stores, and whether a WRITE_XOR met poison in C. -/
def State.storesOf (s : State) (r : Req) : List StoreLine × Bool :=
  let xor := r.op == opcXor
  let data := r.ops.map fun o =>
    let a := (r.addr.toNat + o.index) * 64
    if s.mergedBy r.rid a then
      let m := s.mergedLine xor a o
      (({ op := m.1, xor := false, rmw := xor, tuple := false } : StoreLine), m.2)
    else ({ op := o, xor := xor, rmw := xor, tuple := false }, false)
  let ta := s.tupleAddr r.src r.byteAddr / 64 * 64
  let tup := (s.tupleOp r).map fun o =>
    ({ op := if s.mergedBy r.rid ta then (s.mergedLine false ta o).1 else o, xor := false, rmw := false, tuple := true } : StoreLine)
  let own := (List.range r.lines).map (fun k => r.addr.toNat + k) ++ (if tup.isEmpty then [] else [ta / 64])
  let rest := (s.restOfUnits r own).map fun o => ({ op := o, xor := false, rmw := xor, tuple := false } : StoreLine)
  (data.map Prod.fst ++ rest ++ tup, data.any Prod.snd)

/-- The plaintext line that a write of PI lays its bytes over: C for a merged unit, else the line it writes (R58). -/
def State.underLine (s : State) (r : Req) (o : LineOp) : Option Line :=
  let a := (r.addr.toNat + o.index) * 64
  s.lineNow (if s.mergedBy r.rid a then s.addrC a else o.addr.toNat * 64)

/-- The PI check of a WRITE over every protection block (R58). A block whose guard cannot be computed, because a byte it does not enable lies
in a poisoned line, passes where its application tag is 0xFFFF: of the two rules that apply the model takes the skip (DESIGN CHOICE,
assumption 81). -/
def State.piWriteOk (s : State) (r : Req) : Bool :=
  if r.op ≠ opcWrite ∨ r.pi ≠ 1 then true
  else
    let per := s.piSize r.src / 64
    let beat := lineBytes (r.beats.getD r.lines { data := 0, be := 0 }).data
    (List.range (s.piBlocks r)).all fun b =>
      let t := (beat.drop (8 * b)).take 8
      let ops := (r.ops.drop (b * per)).take per
      let block := ops.map fun o =>
        if o.be == BitVec.allOnes 64 then some o.data
        else (s.underLine r o).map fun d => mergeBytes d o.data o.be
      if block.any Option.isNone then decide (((t.getD 2 0).toNat * 256 + (t.getD 3 0).toNat) = 0xFFFF)
      else tupleOk t (block.flatMap fun d => lineBytes (d.getD 0)) (r.aux.setWidth 32 + BitVec.ofNat 32 b)

/-! ### Admission -/

/-- Jobs for a request's stripes, and one attempt at each; what a READ reads through is settled here, at its admission (R186, R188). Their
operations keep the LEVEL of the packet header (R206). -/
def State.launch (s : State) (rid : Nat) (kind : JobKind) (work : List StripeWork) (lvl : BitVec 2) : State :=
  let s := s.modReq rid fun r => { r with phase := .admitted, jobs := work.length }
  let s := work.foldl (fun (s : State) (w : StripeWork) =>
    let jid := s.ids
    let s := s.addJob w.g rid kind w.stripe w.lines w.xor w.tuple lvl
    let through := if kind = .read then s.throughMask w.g w.stripe w.lines else 0
    s.modJob w.g jid fun j => { j with rmwOnly := w.rmw, recon := through }) s
  if work.isEmpty then s.settleReq rid
  else ((work.map StripeWork.g).eraseDups).foldl State.kick s

/-- Addresses that a hub reads by itself when a write is admitted: lines of C that it copies or lays bytes over (R106), and stored lines
under the bytes of a write with PI (R58). -/
def State.underneath (s : State) (r : Req) : List Nat :=
  let partly := r.ops.filter fun o => o.be != BitVec.allOnes 64 || r.op == opcXor
  let mine (o : LineOp) : Nat := (r.addr.toNat + o.index) * 64
  let merged := ((partly.map mine).filter fun a => s.mergedBy r.rid a).map s.addrC
  let own := (List.range r.lines).map fun k => r.addr.toNat + k
  let unit := s.granule / 64
  let rest := (s.ledger.merges.filter fun m => m.2.2 == r.rid).flatMap fun m =>
    (List.range (unit / 64)).filterMap fun k =>
      let a := s.winBase + m.1 * s.granule + m.2.1 * unit + 64 * k
      if own.contains (a / 64) then none else some (s.addrC a)
  let plain := if r.pi = 1 then (partly.filter fun o => !s.mergedBy r.rid (mine o)).map fun o => o.addr.toNat * 64 else []
  merged ++ rest ++ plain

/-- A relayout copy at work: one job of level 0 on its stripe (R264). -/
def State.startCopy (s : State) (rid : Nat) (r : Req) : State :=
  let dst := (s.spr.rly[r.hub]).map fun (y : Relayout) => y.dst
  let jid := s.ids
  let s := s.modReq rid fun r => { r with phase := .admitted, jobs := 1 }
  let s := s.addJob r.hub rid .relay r.ring [] false false 0
  (s.modJob r.hub jid fun j => { j with dst := dst, wkind := 4 }).kick r.hub

/-- The lines of a WRITE_XOR counted at their hubs (R201). -/
def State.countXor (s : State) (l : List StoreLine) : State :=
  (s.gather l).foldl (fun (s : State) (w : StripeWork) => s.modHub w.g fun h => { h with xorCnt := satAdd h.xorCnt w.lines.length }) s

/-- An admitted request asks its hubs for its work; a WRITE that fails its PI check changes nothing (R58, R107). -/
def State.startReq (s : State) (rid : Nat) (r : Req) : State :=
  if r.src = srcVane then s.startCopy rid r
  else if r.op = opcRead then
    s.launch rid .read (s.gather ((r.ops ++ r.tupleRead).map fun o => { op := o, xor := false, rmw := false, tuple := o.index == r.lines })) r.entryLvl
  else
    let s := (s.underneath r).foldl State.mendAt s
    if s.piWriteOk r = false then ((s.undoClaims rid).finishReq rid rspPiError).retryLedger
    else
      -- the claim of a write with PI stands now, so writes that waited on it are decided (R107)
      let s := if r.pi = 1 ∧ r.decisions ≠ [] then (s.modReq rid fun r => { r with phase := .admitted, jobs := 1 }).retryLedger else s
      let (stores, bad) := s.storesOf r
      let s := if bad then s.modReq rid fun r => { r with xorBad := true } else s
      let s := if r.op = opcXor then s.countXor (stores.take r.ops.length) else s
      s.launch rid .write (s.gather stores) r.entryLvl

/-- A debug-port packet may take a lane between two flits of a packet in transfer; whether one is in transfer is a matter of flits,
which the model does not hold, so the count is free (R154). -/
def State.mayPreempt (s : State) (r : Req) : State :=
  if r.src = srcDebug ∧ s.cfgBit pageFab 0x040 0 then
    let n := (s.freeVal 1).toNat
    let s := { s with fab := { s.fab with preemptCnt := satAdd s.fab.preemptCnt n } }.tookFree
    if n = 0 then s else s.voidHub r.hub
  else s

/-- A grant: counted, its header captured, its work begun (R151, R156). -/
def State.grant (s : State) (h : Fin 8) (r : Req) (reserved : Bool) (flit : Option (BitVec 128)) : State :=
  let lvl := s.level r
  let ep := s.effPrio r
  let ns := s.tb.toNat - r.tStamp.toNat
  let src := r.src.toNat
  let s := s.modHub h fun x => { x with grants := if reserved then 0 else (x.grants + 1) % s.reserveN }
  let longest := if (s.fab.longest[src]?.getD 0).toNat < ns then s.fab.longest.setIfInBounds src (BitVec.ofNat 32 (min ns 0xFFFFFFFF)) else s.fab.longest
  let s := { s with fab := { s.fab with grants := bumpAt s.fab.grants src, longest := longest } }
  let s := (s.mayPreempt r).telSys 0x05 (some h.val) 1
  let s := s.modReq r.rid fun r => { r with refusals := 0, backoff := none, grantLvl := BitVec.ofNat 2 lvl, grantEp := BitVec.ofNat 4 ep, admitNs := ns }
  let hdr := s.packetHeader h r
  match flit with
  | some e =>
    -- FLIT_PARITY: the packet is not delivered (R131)
    let seen := hdr ^^^ e
    let s := (s.raise pageFab 2).logError { cls := clsFatal, page := pageFab, code := 0x0050, detail := seen.extractLsb' 0 64, tail := some (seen.extractLsb' 64 64) }
    s.modReq r.rid fun r => { r with phase := .admitted, jobs := 1, dropped := true }
  | none => (s.captureHeader h r hdr).startReq r.rid r

/-- A refusal for want of credit (R150). -/
def State.refuse (s : State) (h : Fin 8) (r : Req) : State :=
  let t := s.hubs[h].tick + BitVec.ofNat 16 (backoffTicks (r.refusals + 1))
  let s := s.modReq r.rid fun r => { r with refusals := r.refusals + 1, backoff := some t }
  let s := (s.flagReq r.rid flagBackoff).telSys 0x06 (some h.val) 1
  if isPortSrc r.src then s.modPort ⟨r.src.toNat % 16, by omega⟩ fun x => { x with backoffCnt := satInc x.backoffCnt } else s

/-- One arbitration phase (R152). -/
def State.arbitrate (s : State) (h : Fin 8) (flit : Option (BitVec 128)) : State :=
  let s := s.advanceTick h
  let cand := (s.waitingAt h).filter fun r => s.isCandidate h r
  let poor := cand.filter fun r => !s.hasCredit h r
  let good := cand.filter fun r => s.hasCredit h r
  let reserved := s.hubs[h].grants % s.reserveN + 1 == s.reserveN
  let win := s.winner h reserved good
  -- a candidate not granted at its first phase is counted (R156)
  let late := cand.filter fun r => !r.seen && (win.map Req.rid) != some r.rid
  let s := late.foldl (fun (s : State) (r : Req) => { s with fab := { s.fab with waits := bumpAt s.fab.waits r.src.toNat } }) s
  let s := s.mapReqs fun r => if cand.any fun c => c.rid == r.rid then { r with seen := true } else r
  let s := poor.foldl (fun (s : State) (r : Req) => s.refuse h r) s
  match win with
  | none => s
  | some w =>
    match s.req w.rid with
    | some w => s.grant h w reserved flit
    | none => s

end Sys2Proof.Machine
end

