-- ==== Sys2Proof/Machine/Fabric.lean ====
section
/-!
DEFINITION. The meanings of the fabric and arbiter commands: arbitration phases (R148 to R152), route epochs and fences (R141 to
R143), late responses (R142), and the counters of FAB and ARB (R156, R158).
-/
namespace Sys2Proof.Machine

/-! ### Epoch swaps (R141, R142, R278) -/

/-- Whether an operation of a hub is cancelled at a swap: older epoch, fenced slice. -/
def State.cancels (s : State) (h : Fin 8) (c : Fin 80) (o : MemOp) : Bool :=
  o.group == h && !o.own && o.epoch != s.hubs[h].epoch && s.fenced c

/-- Operations of a retry buffer that are kept. -/
def keepCmd (drop : MemOp → Bool) (x : Cmd) : Bool :=
  match x with
  | .rd o => !drop o
  | .wr o => !drop o
  | _ => true

/-- The operations a swap cancels, with the slice they were addressed to; those that had not left the hub were never delivered. -/
def State.cancelled (s : State) (h : Fin 8) : List (Fin 80 × MemOp × Bool) :=
  ((s.hubs[h].parked.filter fun x => s.cancels h x.1 x.2).map fun x => (x.1, x.2, false)) ++
    allSlices.flatMap fun c => ((s.slices[c].sched.ops.filter fun o => s.cancels h c o).map fun o => (c, o, true))

/-- The cancelled operations taken out of the hub and the queues; those a slice had will come as late responses. -/
def State.removeCancelled (s : State) (h : Fin 8) : State :=
  let l := s.cancelled h
  let dropAt (c : Fin 80) (o : MemOp) : Bool := s.cancels h c o
  let kept (x : List (Fin 80 × MemOp)) : List (Fin 80 × MemOp) := x.filter fun x => !dropAt x.1 x.2
  let s' := s.modHub h fun x => { x with hold := kept x.hold, unplaced := kept x.unplaced }
  let touched := (l.filterMap fun x => if x.2.2 then some x.1 else none).eraseDups
  let s' := touched.foldl (fun (t : State) (c : Fin 80) =>
    let n := (l.filter fun x => x.2.2 && x.1 == c).length
    let t := t.modSched c fun q => { q with
      rq := q.rq.filter fun o => !dropAt c o
      wq := q.wq.filter fun o => !dropAt c o
      fwds := q.fwds.filter fun o => !dropAt c o
      replayed := q.replayed.filter fun o => !dropAt c o
      retry := q.retry.filter (keepCmd (dropAt c)) }
    t.modHealth c fun x => { x with late := x.late + n }) s'
  { s' with fab := { s'.fab with cancelCnt := satAdd s'.fab.cancelCnt l.length } }

/-- The journal entry of a job whose operations are reissued under the current epoch (R191, R278). -/
def State.reissueEntry (s : State) (h : Fin 8) (k : Nat) (e : JEntry) : State :=
  s.modHub h fun x => { x with journal := setKey x.journal k { e with repoch := x.epoch.setWidth 2 } }

/-- A member that a journal entry no longer asks for: a write becomes a degraded one, and a repair stays one (R142, R278). -/
def State.degradeEntry (s : State) (h : Fin 8) (j : Job) (m : Fin 9) (k : Nat) (e : JEntry) : State :=
  let s := if partialKind e.kind || e.kind == 0 then s.noteDegraded h else s
  let s := if e.kind = 4 then s else s.noteStale h [m] j.stripe
  let e := { e with kind := if partialKind e.kind || e.kind == 0 then 3 else e.kind, absent := BitVec.ofNat 4 m.val, wmask := e.wmask &&& ~~~(1#9 <<< m.val) }
  let s := s.reissueEntry h k e
  if e.done &&& e.wmask = e.wmask then s.retireEntry h j k else s

/-- A cancelled member write reissued: to the slice the new table names, or as a degraded write whose entry no longer asks for
it (R142, R278). -/
def State.reissueWrite (s : State) (h : Fin 8) (o : MemOp) (jid : Nat) : State :=
  s.withJob h jid fun s j =>
    match j.jidx with
    | none => s
    | some k => match getKey s.hubs[h].journal k with
      | none => s
      | some e => match s.outTarget h j o.member with
        | some c => (s.reissueEntry h k e).deliver h c { o with jid := jid, epoch := s.hubs[h].epoch, also := [] }
        | none => s.degradeEntry h j o.member k e

/-- A cancelled member read becomes a reconstruction (R142). -/
def State.reissueRead (s : State) (h : Fin 8) (o : MemOp) : State :=
  (s.modJob h o.jid fun j => { j with recon := j.recon ||| (1#9 <<< o.member.val) }).stripArrives h o.jid o.member .gone

/-- A cancelled operation reissued under the new epoch (R142). -/
def State.reissue (s : State) (h : Fin 8) (o : MemOp) : State :=
  if o.write then (o.jid :: o.also).foldl (fun s jid => s.reissueWrite h o jid) s else s.reissueRead h o

/-- The swap: the epoch rises, the staged table becomes current, and with it the roster generation and the signatures rise (R334); older
operations to fenced slices are cancelled and reissued (R141 step 2, R142). -/
def State.swapEpoch (s : State) (h : Fin 8) : State :=
  match s.hubs[h].staged with
  | none => s
  | some t =>
    if 2 ≤ s.hubs[h].old.length then s
    else
      let s := s.modHub h fun x => { x with old := x.old ++ [{ epoch := x.epoch, table := x.table }], epoch := x.epoch + 1, table := t, staged := none, cut := 0, rosterGen := x.rosterGen + 1 }
      let s := s.signGroup h
      let s := s.voidGuarantees fun r => r.hub == h
      let l := s.cancelled h
      let s := s.removeCancelled h
      let s := l.foldl (fun s x => s.reissue h x.2.1) s
      s.kick h

/-! ### Fences -/

/-- Whether work of one epoch is outstanding at a hub: jobs, and member operations at the slices or on their way (R141, R144). -/
def State.epochBusy (s : State) (h : Fin 8) (e : BitVec 16) : Bool :=
  (s.hubs[h].jobs.any fun j => j.epoch == e) || (s.hubs[h].parked.any fun x => x.2.epoch == e) ||
    allSlices.any fun c => s.slices[c].sched.ops.any fun o => o.group == h && !o.own && o.epoch == e

/-- Older-epoch member operations outstanding at a hub (FAB_RT_STATUS.OLD_OUT). -/
def State.oldOut (s : State) (h : Fin 8) : Nat :=
  let old (o : MemOp) : Bool := o.group == h && !o.own && o.epoch != s.hubs[h].epoch
  min 511 ((s.hubs[h].parked.filter fun x => old x.2).length +
    allSlices.foldl (fun n c => n + (s.slices[c].sched.ops.filter old).length) 0)

/-! ### Meanings -/

/-- ARB_PHASE: a phase of a hub's arbiter; nothing before the core is on (R152). -/
def execArbPhase (h : Fin 8) (flit : Option (BitVec 128)) (s : State) : Host.Outcome State Fault Refusal :=
  .next (if s.pwr.coreOn then s.arbitrate h flit else s)

/-- ARB_TICK_ADVANCE: while a request waits or backs off at the hub (R148). -/
def execArbTickAdvance (h : Fin 8) (s : State) : Host.Outcome State Fault Refusal :=
  .next (if (s.waitingAt h).isEmpty then s else s.advanceTick h)

/-- BACKOFF_EXPIRY: requests whose backoff has run out are candidates again (R150). -/
def execBackoffExpiry (h : Fin 8) (s : State) : Host.Outcome State Fault Refusal :=
  .next (
    let x := s.hubs[h]
    s.mapReqs fun r => if r.phase == .waiting && r.hub == h && !x.backingOff r then { r with backoff := none } else r)

/-- ROUTE_EPOCH_SWAP (R141 to R143). -/
def execRouteEpochSwap (h : Fin 8) (s : State) : Host.Outcome State Fault Refusal := .next (s.swapEpoch h)

/-- FENCE_DONE: no operation of the oldest live epoch is outstanding, so its table is retired (R141 step 4). -/
def execFenceDone (h : Fin 8) (s : State) : Host.Outcome State Fault Refusal :=
  .next (
    match s.hubs[h].old with
    | [] => s
    | o :: rest =>
      if s.epochBusy h o.epoch then s
      else (s.modHub h fun x => { x with old := rest }).raise pageFab 0)

/-- LATE_RESPONSE: the response of a cancelled operation is discarded and counted (R142, R279). -/
def execLateResponse (c : Fin 80) (s : State) : Host.Outcome State Fault Refusal :=
  .next (
    if s.slices[c].health.late = 0 then s
    else
      let s := s.modHealth c fun x => { x with late := x.late - 1 }
      let first := s.fab.lateArmed
      let s := { s with fab := { s.fab with lateCnt := satInc s.fab.lateCnt, lateArmed := false } }
      (s.raiseIf first pageFab 1).quarantine c)

/-- FAB counters cleared (R158). -/
def State.clearFab (s : State) : State := { s with fab := { s.fab with lateCnt := 0, holdCnt := 0, cancelCnt := 0, lateArmed := true } }

/-- ARB counters cleared (R159). -/
def State.clearArb (s : State) : State :=
  { s with fab := { s.fab with grants := Vector.replicate 26 0, waits := Vector.replicate 26 0, preemptCnt := 0 } }

/-- ARB_LONGEST cleared (R156). -/
def State.clearLongest (s : State) : State := { s with fab := { s.fab with longest := Vector.replicate 26 0 } }

/-- FAB_CMD.CLR_COUNTERS (R158). -/
def execFabClrCounters (s : State) : Host.Outcome State Fault Refusal :=
  .next (s.whenLive pageFab fun s => s.clearFab)

/-- ARB_CMD.CLR_COUNTERS (R156, R159). -/
def execArbClrCounters (s : State) : Host.Outcome State Fault Refusal :=
  .next (s.whenLive pageArb fun s => s.clearArb)

/-- ARB_CMD.CLR_LONGEST (R156). -/
def execClrLongest (s : State) : Host.Outcome State Fault Refusal :=
  .next (s.whenLive pageArb fun s => s.clearLongest)

end Sys2Proof.Machine
end

