-- ==== Sys2Proof/Machine/Ledger.lean ====
section
/-!
DEFINITION. The ledger's own steps: the flip (R103, R112), the end of a solo (R108), resolving an entry by the sweep or on demand
(R109, R113, R114), and the LDG commands (R117, R125, R126).
-/
namespace Sys2Proof.Machine

/-! ### Resolving an entry (R114) -/

/-- Whether an entry may be resolved, and if so whether its pending units become committed. -/
def State.resolvable (s : State) (i : Nat) : Option Bool :=
  let e := s.entry i
  if e.st = entOwned then
    match (s.group e.owner).st with
    | .committed => some true
    | .aborted => some false
    | _ => none
  else if e.st = entSolo then
    match s.solo e.owner with
    | some x => if x.done then some true else none
    | none => none
  else none

/-- Units set in a pending mask. -/
def pendingUnits (m : BitVec 64) : List Nat := (List.range 64).filter fun u => m.getLsbD u

/-- Window addresses of the lines of some units of a granule. -/
def State.unitLines (s : State) (i : Nat) (units : List Nat) : List Nat :=
  let unit := s.granule / 64
  units.flatMap fun u => (List.range (unit / 64)).map fun k => s.winBase + i * s.granule + u * unit + 64 * k

/-- The stripe writes that lines of one slot of a granule make. -/
def State.slotWork (s : State) (b : Bool) (lines : List Nat) : List StripeWork :=
  s.gather (lines.map fun a => { op := { addr := BitVec.ofNat 34 (s.slotAddr b a / 64), index := 0, data := 0, be := BitVec.allOnes 64, poison := false }, xor := false, rmw := false, tuple := false })

/-- Units copied from one slot of a granule to the other, line by line; a strip that fails its check is mended, and poison is carried
forward (R114, R118, R185). -/
def State.copyUnits (s : State) (i : Nat) (toB : Bool) (units : List Nat) : State :=
  let lines := s.unitLines i units
  let works := s.slotWork toB lines
  let s := works.foldl State.countCopy s
  let s := ((works.map StripeWork.g).eraseDups).foldl State.vaneGrants s
  lines.foldl (fun s a =>
    let s := s.mendAt (s.slotAddr (!toB) a)
    s.putLineNow (s.slotAddr toB a) (s.lineNow (s.slotAddr (!toB) a))) s

/-- The copy that resolves an entry: into the slot it names, and which units; none where nothing is copied (R114). -/
def State.resolveCopy (s : State) (i : Nat) : Option (Bool × List Nat) :=
  let e := s.entry i
  let units := pendingUnits e.pmask
  if s.resolvable i ≠ some true ∨ units.length = 64 then none
  else if units.length ≤ 32 then some (e.cslot, units)
  else some (!e.cslot, (List.range 64).filter fun u => !e.pmask.getLsbD u)

/-- Whether the stripes that a copy reads and writes are free for it (R161, R188). The sweep copies at level 0 (R132). -/
def State.copyFree (s : State) (i : Nat) (level0 : Bool) : Bool :=
  match s.resolveCopy i with
  | none => true
  | some (b, units) =>
    let lines := s.unitLines i units
    (s.slotWork b lines ++ s.slotWork (!b) lines).all fun w => s.stripeFree w.g w.stripe level0

/-- An entry leaves its owner (R114): ENTRIES drops by 1, or the solo slot is freed. -/
def State.leaveOwner (s : State) (e : LEntry) : State :=
  if e.st = entOwned then s.groupLosesEntry e.owner else s.freeSolo e.owner

/-- An entry resolved: the copy, then one update of the entry and of its owner (R114). -/
def State.resolveEntry (s : State) (i : Nat) : State :=
  let e := s.entry i
  match s.resolvable i with
  | none => s
  | some false => (s.setEntry i (cleanEntry e.cslot)).leaveOwner e
  | some true =>
    let units := pendingUnits e.pmask
    let k := units.length
    let lines := s.granule / 64 / 64
    let half := (halfOf i).val
    if k = 64 then (s.setEntry i (cleanEntry (!e.cslot))).leaveOwner e
    else if k ≤ 32 then
      let s := (s.copyUnits i e.cslot units).telSys 0x0E (some half) (k * lines)
      (s.setEntry i (cleanEntry e.cslot)).leaveOwner e
    else
      let rest := (List.range 64).filter fun u => !e.pmask.getLsbD u
      let s := (s.copyUnits i (!e.cslot) rest).telSys 0x0E (some half) (rest.length * lines)
      (s.setEntry i (cleanEntry (!e.cslot))).leaveOwner e

/-- The record of an entry's owner is read (R113, R114): with an uncorrectable error it is FATAL, else the work goes on. -/
def State.withOwner (s : State) (i : Nat) (tableUc : Bool) (f : State → State) : State :=
  let e := s.entry i
  if tableUc && (e.st == entOwned || e.st == entSolo) then s.tableError (e.st == entSolo) e.owner else f s

/-! ### The sweep (R113 to R116) -/

/-- Whether any group is unswept or any solo is done (R113). -/
def State.sweepActive (s : State) : Bool :=
  s.ledger.groups.any (fun g => g.2.st == .committed || g.2.st == .aborted) || s.ledger.solos.any fun x => x.2.done

/-- Whether V18 runs: in service, not paused for sleep, no Squall (R116, R324). -/
def State.sweepRuns (s : State) : Bool := s.sweepActive && s.inService && !s.ledger.paused && s.ledger.enabled

/-- The granule of the oldest done solo of a half. -/
def State.oldestSolo (s : State) (half : Fin 2) : Option Nat :=
  let l := (s.ledger.solos.filter fun x => x.2.done && x.2.granule % 2 == half.val).map Prod.snd
  (l.foldl (fun best x => match best with
    | none => some x
    | some b => if x.order < b.order then some x else some b) (none : Option Solo)).map Solo.granule

/-- A cursor. -/
def Ledger.cursor (l : Ledger) (half : Fin 2) : BitVec 18 := if half = 0 then l.sweep0 else l.sweep1

/-- A cursor set. -/
def Ledger.setCursor (l : Ledger) (half : Fin 2) (v : BitVec 18) : Ledger :=
  if half = 0 then { l with sweep0 := v } else { l with sweep1 := v }

/-- Whether a block of 64 entries of a half holds an OWNED or SOLO entry. -/
def State.blockBusy (s : State) (half : Fin 2) (block : Nat) : Bool :=
  s.ledger.entries.any fun e => e.1 % 2 == half.val && e.1 / 2 / 64 == block &&
    ((unpackEntry e.2).st == entOwned || (unpackEntry e.2).st == entSolo)

/-- The cursor moves on: past an empty block at once, else to the next entry. -/
def State.skipCursor (s : State) (half : Fin 2) : State :=
  let pos := (s.ledger.cursor half).toNat
  let next := if s.blockBusy half (pos / 64) then pos + 1 else (pos / 64 + 1) * 64
  { s with ledger := s.ledger.setCursor half (BitVec.ofNat 18 next) }

/-- An entry read (R117) and resolved; a demand slot taken for it is free, and what waits in the ledger is taken again (R109, R114). -/
def State.settleEntry (s : State) (i : Nat) (ecc : BitVec 96) : State :=
  let s := (s.readEntry i ecc).resolveEntry i
  ({ s with ledger := { s.ledger with demand := s.ledger.demand.filter fun x => x.2.1 != i } }).retryLedger

/-- One work item of the sweep in a half (R113). -/
def State.sweepOnce (s : State) (half : Fin 2) (ecc : BitVec 96) (tableUc : Bool) : State :=
  match s.oldestSolo half with
  | some i =>
    if s.granuleBusy i || !s.copyFree i true then s
    else s.withOwner i tableUc fun s => s.settleEntry i ecc
  | none =>
    let i := 2 * (s.ledger.cursor half).toNat + half.val
    if (s.entry i).st = entOwned ∧ (s.resolvable i).isSome then
      if s.granuleBusy i || !s.copyFree i true then s
      else s.withOwner i tableUc fun s => s.settleEntry i ecc
    else if s.blockBusy half (i / 128) then ((s.readEntry i ecc).skipCursor half).retryLedger
    else s.skipCursor half

/-! ### Meanings -/

/-- FLIP: INFLIGHT of a COMMITTING group is 0, so the group is COMMITTED-UNSWEPT in one update (R103, R112). -/
def execFlip (group : TableRead 12) (s : State) : Host.Outcome State Fault Refusal :=
  .next (
    let g := s.group group.num.toNat
    if g.st ≠ .committing ∨ g.inflight ≠ 0 ∨ s.ledger.frozen = true then s
    else if group.uc then s.tableError false group.num.toNat
    else
      let s := s.setGroup group.num.toNat { g with st := .committed }.settle
      let s := ({ s with ledger := { s.ledger with commitCnt := satInc s.ledger.commitCnt } }).telSys 0x0C none 1
      s.mapReqs fun r => if r.phase == .ledger && r.op == opcCommit && r.gid == group.num then { r with phase := .done rspOk } else r)

/-- The solos of a write marked done, its response, and the writes that waited for it (R108). -/
def State.endSolo (s : State) (r : Req) : State :=
  let s := r.decisions.foldl (fun (s : State) (d : Decision) => match s.solo d.owner with
    | some x => if d.solo then { s with ledger := { s.ledger with solos := setKey s.ledger.solos d.owner { x with done := true } } } else s
    | none => s) s
  (s.finishReq r.rid (if r.xorBad then rspPoison else rspOk)).retryLedger

/-- SOLO_DONE: the member writes of an ungrouped window write are acknowledged; its solos are marked done, it completes, and
waiting writes are decided (R108). -/
def execSoloDone (slot : TableRead 8) (s : State) : Host.Outcome State Fault Refusal :=
  .next (
    match s.reqs.find? fun r => r.idle && r.decisions.any fun d => d.solo && d.owner == slot.num.toNat with
    | none => s
    | some r => if slot.uc then s.tableError true slot.num.toNat else if s.soloLost r then s.refuseSolo r else s.endSolo r)

/-- DEMAND_RESOLUTION: the oldest demand slot of a half is served (R109). -/
def execDemandResolution (half : Fin 2) (e : EntryRead) (s : State) : Host.Outcome State Fault Refusal :=
  .next (
    match s.ledger.demand.find? fun d => d.1 == half.val with
    | none => s
    | some d =>
      if s.granuleBusy d.2.1 || !s.copyFree d.2.1 false then s
      else s.withOwner d.2.1 e.tableUc fun s => s.settleEntry d.2.1 e.ecc)

/-- SWEEP_STEP: the next work item of V18 in a half (R113). -/
def execSweepStep (half : Fin 2) (e : EntryRead) (s : State) : Host.Outcome State Fault Refusal :=
  .next (if s.sweepRuns then s.sweepOnce half e.ecc e.tableUc else s)

/-- LDG counters cleared (R126). -/
def State.clearLdg (s : State) : State :=
  { s with ledger := { s.ledger with commitCnt := 0, abortCnt := 0, conflictCnt := 0, fullCnt := 0, exhaustCnt := 0 } }

/-- Every POISONED entry becomes CLEAN; each entry is read for it, and its ECC checked (R117). -/
def State.clearAllPoison (s : State) : State :=
  let s := s.ledger.entries.foldl (fun (s : State) (e : Nat × BitVec 96) => s.readEntry e.1 0) s
  { s with ledger := { s.ledger with
    fill := 0, entries := s.ledger.entries.filter fun e => (unpackEntry e.2).st != entPoisoned && e.2 != 0 } }

/-- The entry in LDG_ENTRY_SEL is read, and becomes CLEAN when it is POISONED (R117). -/
def State.clearSelPoison (s : State) : State :=
  let i := s.cfgField (pageLdg 0) 0x064 18 0
  let s := s.readEntry i 0
  if (s.entry i).st = entPoisoned then s.setEntry i (cleanEntry false) else s

/-- The group in LDG_GRP_SEL is aborted when it is OPEN (R104). -/
def State.abortSelGroup (s : State) : State :=
  let gid := s.cfgField (pageLdg 0) 0x05C 11 0
  if (s.group gid).st = .open_ then (s.abortGroup gid).retryLedger else s

/-- LDG_CMD.CLR_COUNTERS (R126). -/
def execLdgClrCounters (s : State) : Host.Outcome State Fault Refusal := .next (s.whenLive (pageLdg 0) fun s => s.clearLdg)

/-- LDG_CMD.CLEAR_ALL_POISON (R117). -/
def execClearAllPoison (s : State) : Host.Outcome State Fault Refusal := .next (s.whenLive (pageLdg 0) fun s => s.clearAllPoison)

/-- LDG_CMD.CLEAR_POISON for the entry in LDG_ENTRY_SEL (R117). -/
def execClearPoison (s : State) : Host.Outcome State Fault Refusal := .next (s.whenLive (pageLdg 0) fun s => s.clearSelPoison)

/-- LDG_CMD.ABORT_GRP for the group in LDG_GRP_SEL (R104). -/
def execAbortGrp (s : State) : Host.Outcome State Fault Refusal := .next (s.whenLive (pageLdg 0) fun s => s.abortSelGroup)

end Sys2Proof.Machine
end

