-- ==== Sys2Proof/Machine/Shares.lean ====
section
/-!
DEFINITION. Regulation and the feasibility check: deliverable bandwidth and demand (R169), what fits (R170), shedding and restoring
(R171, R172), the regulation epoch with Tailwind (R163 to R165), and their commands.
-/
namespace Sys2Proof.Machine

/-! ### Deliverable bandwidth (R169) -/

/-- The PL the check looks at: the target once a change is decided (R170, R173). -/
def State.feasPl (s : State) : Nat := if s.pwr.switching then s.pwr.plGoal.toNat else s.pwr.pl.toNat

/-- P_PL × η_PL in 0.0001 GB/s. -/
def plPayload (pl : Nat) : Nat := match pl with | 0 => 1259520 | 1 => 1008000 | 2 => 600776 | _ => 230400

/-- Members of a group without data and without a running relayout that restores it. -/
def State.absentCount (s : State) (g : Fin 8) : Nat :=
  (allMembers.filter fun m => match (s.member g m).st with
    | .absent => true
    | .rebuilding | .resync => (match s.spr.rly[g] with | some r => !(r.mem == m && r.running) | none => true)
    | _ => false).length

/-- Whether a relayout of a group runs. -/
def State.rlyRunning (s : State) (g : Fin 8) : Bool := match s.spr.rly[g] with | some r => r.running | none => false

/-- SHR_HUB_STAT.DEG. The table of R169 has no row for a relayout that is suspended with no member away, which counts as none, nor for a
resynchronisation that runs, which counts as a rebuild (assumption 92). -/
def State.degCode (s : State) (g : Fin 8) : Nat :=
  if 2 ≤ s.absentCount g then 3 else if s.rlyRunning g then 2 else if s.absentCount g = 1 then 1 else 0

/-- F_deg in percent. -/
def degPct (d : Nat) : Nat := match d with | 0 => 100 | 1 => 60 | _ => 50

/-- tRFCab × 2^multiplier of the member with the largest refresh share, in ns of a doubled tREFI. An increase that waits for this
check counts (R173). -/
def State.refShare (s : State) (g : Fin 8) : Nat :=
  allMembers.foldl (fun n m =>
    let x := s.slices[(s.member g m).slice]
    let k := match x.sched.nextMult with | some v => max v.toNat x.sched.mult.toNat | none => x.sched.mult.toNat
    if (s.member g m).st = .absent then n else max n (rfcAbNs x.dens * 2 ^ k)) 0

/-- The scale of deliverable bandwidth below: 1/10,000 GB/s over 7,812 × 100 × 100,000. -/
def feasScale : Int := 78120000000

/-- D, exact: in 1/10,000 GB/s times `feasScale`. -/
def State.feasD (s : State) : Int :=
  let sum := s.popGroups.foldl (fun (d : Int) (g : Fin 8) =>
    d + (plPayload s.feasPl : Int) * ((7812 : Int) - s.refShare g) * degPct (s.degCode g) * s.paceOf s.feasPl g.val) 0
  let sweep : Nat := if s.cfgBit (pageLdg 0) 0x040 0 then 2 * min 64 (max 1 (s.cfgField (pageLdg 0) 0x054 6 0)) else 0
  sum - ((sweep + min 16 (s.cfgField pageSpr 0x044 7 0) : Nat) : Int) * 10000 * feasScale

/-! ### What fits (R170) -/

/-- SHR_SHED_ORDER as fields, and as it acts ("SHR_SHED_ORDER fields"). -/
def State.orderFields (s : State) : List Nat := (List.range 8).map fun k => s.cfgField pageShr 0x048 (4 * k + 2) (4 * k)
def State.orderErr (s : State) : Bool := !((List.range 8).all fun c => s.orderFields.contains c)
def State.shedOrder (s : State) : List Nat := if s.orderErr then List.range 8 else s.orderFields

/-- UMAX, HYST and SHR_ING.GBPS as they act. -/
def State.umax (s : State) : Nat := min 95 (max 50 (s.cfgField pageShr 0x040 31 24))
def State.hyst (s : State) : Nat := s.cfgField pageShr 0x040 23 20
def State.ingGbps (s : State) : Nat := min 64 (max 1 (s.cfgField pageShr 0x044 6 0))

/-- The number of enabled ingest ports. -/
def State.ingestOn (s : State) : Nat := (s.ingest.toList.filter fun x => x.enWanted).length

/-- Guaranteed classes outside a shed set. -/
def State.keptClasses (s : State) (shed : BitVec 8) : List Nat :=
  (List.range 8).filter fun c => s.clsTgtEn c && !shed.getLsbD c

/-- G with a shed set, in 1/1,280 GB/s. -/
def State.feasG (s : State) (shed : BitVec 8) : Nat :=
  (s.keptClasses shed).foldl (fun g c => g + 128 * s.cfgField pageShr (0x084 + 16 * c) 15 0) (s.ingestOn * s.ingGbps * 1290)

/-- Whether G is within a limit in percent of D. -/
def State.bandFits (s : State) (d : Int) (shed : BitVec 8) (pct : Nat) : Bool :=
  decide ((s.feasG shed : Int) * 1000000 * feasScale ≤ d * pct * 1280)

/-- Whether the reserved shares sum to at most 64. -/
def State.sharesFit (s : State) (shed : BitVec 8) : Bool :=
  decide ((s.keptClasses shed).foldl (fun n c => n + s.clsShare c) 0 ≤ 64)

/-- fits() of the pseudocode. -/
def State.fits (s : State) (d : Int) (shed : BitVec 8) (pct : Nat) : Bool := s.bandFits d shed pct && s.sharesFit shed

/-! ### Shedding and restoring (R171, R172) -/

/-- Guaranteed classes whose target is below T_min. -/
def State.lowTargets (s : State) : BitVec 8 :=
  maskOf 8 fun c => s.clsTgtEn c && decide (s.clsTarget c < plTmin s.feasPl)

/-- Shed classes restored in reverse order while each fits; the first that fails ends it. -/
def State.restore (s : State) (d : Int) (low : BitVec 8) : List Nat → BitVec 8 → BitVec 8
  | [], shed => shed
  | c :: rest, shed =>
    if shed.getLsbD c = false then s.restore d low rest shed
    else
      let t := shed &&& ~~~(1#8 <<< c)
      if low.getLsbD c = false ∧ s.fits d (t ||| low) (s.umax - s.hyst) = true then s.restore d low rest t else shed

/-- Classes shed in order until the rest fits, with the first reason: 1 bandwidth, 3 shares. -/
def State.shedMore (s : State) (d : Int) : List Nat → BitVec 8 → BitVec 3 → BitVec 8 × BitVec 3
  | [], shed, cause => (shed, cause)
  | c :: rest, shed, cause =>
    if s.fits d shed s.umax then (shed, cause)
    else if s.clsTgtEn c ∧ shed.getLsbD c = false then
      let why : BitVec 3 := if cause ≠ 0 then cause else if s.bandFits d shed s.umax = false then 1 else 3
      s.shedMore d rest (shed ||| (1#8 <<< c)) why
    else s.shedMore d rest shed cause

/-- The classes shed before this check, among those still guaranteed. -/
def State.prevShed (s : State) : BitVec 8 :=
  let old := match s.shr.nextShed with | some r => r.shed | none => s.shr.shed
  maskOf 8 fun c => s.clsTgtEn c && old.getLsbD c

/-- F_ref of a hub in 1/256; 0 when it is not populated (SHR_HUB_STAT). -/
def State.fRefByte (s : State) (g : Fin 8) : BitVec 8 :=
  if s.populated g then BitVec.ofNat 8 (min 255 ((7812 - s.refShare g) * 256 / 7812)) else 0

/-- Classes that a low target took out before this check, still shed. -/
def State.prevLow (s : State) : BitVec 8 :=
  s.prevShed &&& (match s.shr.nextShed with | some r => r.shedLow | none => s.shr.shedLow)

/-- The order in which shed classes are restored (R172): the reverse of the shedding order, in which the classes with a low target came
first (R171). -/
def State.restoreOrder (s : State) : List Nat :=
  let early (c : Nat) : Bool := (s.lowTargets ||| s.prevLow).getLsbD c
  let l := s.shedOrder.reverse
  (l.filter fun c => !early c) ++ l.filter early

/-- A feasibility check completes (R168 to R173). A check that sheds nothing new keeps the cause of the last shedding (assumption 36). -/
def State.feasCheck (s : State) : State :=
  let d := s.feasD
  let low := s.lowTargets
  let prev := s.prevShed
  let kept := s.restore d low s.restoreOrder prev
  let cause0 : BitVec 3 := if low &&& ~~~prev = 0 then 0 else 2
  let (shed, why) := s.shedMore d s.shedOrder (low ||| kept) cause0
  let res : FeasResult :=
    { shed := shed, shedLow := low ||| (kept &&& s.prevLow), residual := !s.fits d shed s.umax
      cause := if why ≠ 0 then why else (match s.shr.nextShed with | some r => r.cause | none => s.shr.cause)
      slices := allSlices.filterMap fun c => if s.slices[c].sched.multOk then none else s.slices[c].sched.nextMult.map fun m => (c, m)
      pl := if s.pwr.waitFeas then some s.pwr.plGoal else none
      hubs := s.shr.cutHubs ||| (match s.shr.nextShed with | some r => r.hubs | none => 0) }
  { s with shr := { s.shr with
      busy := s.shr.again, again := false, cutHubs := s.shr.cutNext, cutNext := 0, nextShed := some res
      feasD := BitVec.ofNat 16 (min 65535 (d / (1000 * feasScale)).toNat), feasG := BitVec.ofNat 16 (min 65535 (s.feasG shed / 128))
      fRef := Vector.ofFn s.fRefByte } }

/-! ### The regulation epoch (R163 to R165, R168, R171, R173) -/

/-- The result of the last check takes effect; in the safe state every class stays shed ("SHR page"). -/
def State.applyFeas (s : State) : State :=
  match s.shr.nextShed with
  | none => s
  | some r =>
    let r := if s.parity pageShr then { r with shed := 0xFF } else r
    let any_ := r.shed != 0
    let rise := any_ && !s.shr.overcommit
    let s := { s with shr := { s.shr with shed := r.shed, shedLow := r.shedLow, residual := r.residual, cause := r.cause, overcommit := any_, nextShed := none, ovcCnt := if rise then satInc s.shr.ovcCnt else s.shr.ovcCnt } }
    let s := if rise then (s.raise pageShr 0).voidGuarantees fun _ => true else s
    let s := s.voidGuarantees fun q => r.shed.getLsbD q.cls.toNat
    let s := r.slices.foldl (fun (s : State) (c : Fin 80 × BitVec 2) => s.modSched c.1 fun x => { x with multOk := x.multOk || x.nextMult == some c.2 }) s
    if r.pl == some s.pwr.plGoal && s.pwr.waitFeas then ({ s with pwr := { s.pwr with waitFeas := false } }).plSettle else s

/-- The class average after an epoch (R164), in 1/2^32 ns, which the division leaves rounded (assumption 69). -/
def avgAfter (a sum count shift : Nat) : Nat :=
  if count = 0 then a
  else
    let l := sum * avgUnit / count
    if a ≤ l then a + (l - a) / 2 ^ shift else a - (a - l) / 2 ^ shift

/-- The Tailwind boost for an average, in 1/2^32 ns, against a target in ns (R165). -/
def boostFor (a target : Nat) : BitVec 2 :=
  let t := target * avgUnit
  if 100 * a < 50 * t then 0 else if 100 * a < 75 * t then 1 else if 100 * a < 90 * t then 2 else 3

/-- The boost of a class at an epoch. -/
def State.boostOf (s : State) (c a : Nat) : BitVec 2 :=
  if s.clsTgtEn c then (if s.clsReserved c then boostFor a (s.clsTarget c) else 0)
  else if s.clsWatch c ∧ s.parity pageShr = false ∧ s.clsTarget c ≠ 0 then boostFor a (max (s.clsTarget c) (plTmin s.pwr.pl.toNat))
  else 0

/-- SHR_CFG.AVG_SHIFT as it acts. -/
def State.avgShift (s : State) : Nat := max 1 (s.cfgField pageShr 0x040 5 3)

/-- Averages, boosts, and the sums of the epoch that begins. -/
def State.tailwind (s : State) : State :=
  (List.range 8).foldl (fun (s : State) (c : Nat) =>
    let x := s.shr.classes[c]?.getD ClassSt.reset
    let a := avgAfter x.avg x.sum x.count s.avgShift
    { s with shr := { s.shr with classes := s.shr.classes.setIfInBounds c { x with avg := a, sum := 0, count := 0, boost := s.boostOf c a } } }) s

/-- REGULATION_EPOCH (R163, R165, R382); a PL change that waited for the check goes on (R302). -/
def execRegulationEpoch (s : State) : Host.Outcome State Fault Refusal :=
  .next (
    if s.pwr.coreOn = false || s.mode.mode == .retention then s
    else ((s.applyPages [pageArb, pageShr, pageLdg 0, pageSpr] .epoch).applyFeas).tailwind.plSettle)

/-- FEASIBILITY_CHECK (R168 to R173). -/
def execFeasibilityCheck (s : State) : Host.Outcome State Fault Refusal :=
  .next (if s.shr.busy && s.pwr.coreOn && s.mode.mode != .retention then s.feasCheck else s)

/-- SHR_CMD.RECHECK (R168). -/
def execRecheck (s : State) : Host.Outcome State Fault Refusal := .next (s.whenLive pageShr fun s => s.feasTrigger)

/-- SHR_CMD.CLR_COUNTERS (R177). -/
def State.clearShr (s : State) : State :=
  { s with shr := { s.shr with ovcCnt := 0, missCnt := 0, classes := s.shr.classes.map fun x => { x with maxNs := 0 } } }

/-- SHR_CLR_COUNTERS (R177). -/
def execShrClrCounters (s : State) : Host.Outcome State Fault Refusal := .next (s.whenLive pageShr fun s => s.clearShr)

end Sys2Proof.Machine
end

