-- ==== Sys2Proof/Machine/Group.lean ====
section
/-!
DEFINITION. The meanings of the group-hub commands: a strip returns (R185, R225, R253), a member write is acknowledged (R208, R220,
R191), background zero fill (R200), and GRP_CMD.CLR_COUNTERS (R202).
-/
namespace Sys2Proof.Machine

/-! ### A strip returns (R185, R225) -/

/-- Reads of a retry buffer that are on their way, with their places: those whose replay is still to be issued are not. -/
def Sched.retryReads (x : Sched) : List (Nat × MemOp) :=
  x.retry.zipIdx.filterMap fun p => match p.1 with
    | .rd o => if o.replay then none else some (p.2, o)
    | _ => none

/-- Writes of a retry buffer with their places. -/
def Sched.retryWrites (x : Sched) : List (Nat × MemOp) :=
  x.retry.zipIdx.filterMap fun p => match p.1 with
    | .wr o => some (p.2, o)
    | _ => none

/-- What the hub makes of a strip and its word (R185, R418); an uncorrectable link error counts as a mismatch (R253). -/
def judgeStrip (o : MemOp) (d : Line) (w : Check) (linkUc : Bool) : Strip :=
  if linkUc then .bad d w
  else if isPoisoned o.group o.member o.stripe d w then .poisoned
  else if w = checkWord o.group o.member o.stripe d then .got d
  else .bad d w

/-- The verdict goes to the job; a mismatch that persists counts against the slice (R185, R259). -/
def State.deliverStrip (s : State) (c : Fin 80) (o : MemOp) (x : Strip) : State :=
  let s := if x.failed then s.countMismatch c else s
  (s.stripArrives o.group o.jid o.member x).kick o.group

/-- A read answered from the write queue returns: there is nothing to replay (R207, R225). -/
def State.returnForwarded (s : State) (c : Fin 80) (k : Nat) (o : MemOp) (err : ReadErr) : State :=
  let s := s.modSched c fun x => { x with fwds := x.fwds.eraseIdx k }
  s.deliverStrip c o (judgeStrip o (o.data ^^^ err.data) (o.word ^^^ err.check) false)

/-- The strip and check word that a read of the devices returns, with its link errors counted (R220, R253), and the hub's verdict. -/
def State.fetchStrip (s : State) (c : Fin 80) (o : MemOp) (err : ReadErr) : State × Strip :=
  let w0 := (s.slices[c].sched.cachedWord (s.checkLine o.stripe) (s.checkIdx o.stripe)).getD 0
  let s := s.modSched c fun x => { x with ckc := touchCk x.ckc (s.checkLine o.stripe) }
  let lecc := s.slices[c].train.lecc
  let s := if lecc then s.bumpTrn c 4 err.linkCe.toNat else s
  let s := if lecc && err.linkUc then s.bumpTrn c 5 else s
  (s, judgeStrip o (s.rawLine c o.line ^^^ err.data) (w0 ^^^ err.check) (lecc && err.linkUc))

/-- A first read of the devices returns: a mismatch is to be replayed; else the read leaves the retry buffer (R185, R225). -/
def State.returnRead (s : State) (c : Fin 80) (k : Nat) (o : MemOp) (err : ReadErr) : State :=
  let (s, x) := s.fetchStrip c o err
  if x.failed then
    let s := (s.bumpCh c 1).flagOp o flagRetry
    s.modSched c fun y => { y with retry := y.retry.set k (.rd { o with replay := true }) }
  else (s.modSched c fun y => { y with retry := y.retry.eraseIdx k }).deliverStrip c o x

/-- A replayed read returns: a strip that is good now is logged; a mismatch has persisted (R185). -/
def State.returnReplay (s : State) (c : Fin 80) (k : Nat) (o : MemOp) (err : ReadErr) : State :=
  let (s, x) := s.fetchStrip c o err
  let s := s.modSched c fun y => { y with replayed := y.replayed.eraseIdx k }
  let s := if x.failed then s else s.logError { cls := clsCe, page := pageGrp o.group, code := 0x0001, detail := stripDetail o.stripe o.member }
  s.deliverStrip c o x

/-- A check line returns and is merged into the cache; where it must be allocated and an eviction waits, so does its return (R220, R229). -/
def State.returnCheck (s : State) (c : Fin 80) (o : MemOp) (err : ReadErr) (done : Sched → Sched) : State :=
  if s.ckRoom c o.line then
    let lecc := s.slices[c].train.lecc
    let s := if lecc then s.bumpTrn c 4 err.linkCe.toNat else s
    let s := if lecc && err.linkUc then s.bumpTrn c 5 else s
    (s.mergeCheck c o.line err.data).modSched c done
  else s.readEvictee c

/-- A first read of the devices returns: a check line is merged; a strip is judged with its check word, which is read first where the cache
has none (R220). -/
def State.returnFirst (s : State) (c : Fin 80) (k : Nat) (o : MemOp) (err : ReadErr) : State :=
  if o.readsCk then s.returnCheck c o err fun y => { y with retry := y.retry.eraseIdx k }
  else if s.wordThere c o.stripe then s.returnRead c k o err
  else s.missWord c o

/-- A replayed read returns. -/
def State.returnSecond (s : State) (c : Fin 80) (k : Nat) (o : MemOp) (err : ReadErr) : State :=
  if s.wordThere c o.stripe then s.returnReplay c k o err else s.missWord c o

/-- MEMBER_READ_RETURN: `index` counts the reads answered from the write queue first, then those of the retry buffer, then the replayed
ones. -/
def execMemberReadReturn (c : Fin 80) (index : Nat) (err : ReadErr) (s : State) : Host.Outcome State Fault Refusal :=
  .next (
    let x := s.slices[c].sched
    let reads := x.retryReads
    if s.slices[c].serves = false || x.alert.isSome || s.slices[c].health.cmdReset then s
    else match x.fwds[index]?, reads[index - x.fwds.length]?, x.replayed[index - x.fwds.length - reads.length]? with
      | some o, _, _ => s.returnForwarded c index o err
      | none, some (k, o), _ => s.returnFirst c k o err
      | none, none, some o => s.returnSecond c (index - x.fwds.length - reads.length) o err
      | none, none, none => s)

/-! ### A member write is acknowledged (R208) -/

/-- Hubs with a tuple line that waits for the rest of its request. -/
def State.tupleHubs (s : State) : List (Fin 8) :=
  allGroups.filter fun g => s.hubs[g].jobs.any fun j => j.tuple && j.phase == .blocked

/-- A driven write: an evicted check line lands, or the strip does and its word enters the cache; every write it stands for is acknowledged (R207, R208). -/
def State.landOp (s : State) (c : Fin 80) (k : Nat) (o : MemOp) : State :=
  let s := s.modSched c fun x => { x with retry := x.retry.eraseIdx k }
  let s := if o.evicts then s.setRawLine c o.line o.data
    else if o.check then s.cacheWord c o.line (s.checkIdx o.stripe) o.word else s.putStrip c o.stripe o.data o.word
  let s := (o.jid :: o.also).foldl (fun (s : State) (jid : Nat) => s.writeAcked o.group jid o.member) s
  let s := s.kick o.group
  (s.tupleHubs.foldl (fun (s : State) (g : Fin 8) => s.kick g) s).retryLedger

/-- MEMBER_WRITE_ACK: `index` counts the writes of the retry buffer. -/
def execMemberWriteAck (c : Fin 80) (index : Nat) (s : State) : Host.Outcome State Fault Refusal :=
  .next (
    let x := s.slices[c].sched
    if s.slices[c].serves = false || x.alert.isSome || s.slices[c].health.cmdReset then s
    else match x.retryWrites[index]? with
      | some (k, o) => if o.evicts || s.ckRoom c (s.checkLine o.stripe) then s.landOp c k o else s.readEvictee c
      | none => s)

/-! ### Zero fill (R200) -/

/-- Whether the members of a group are idle: nothing queued at any of them (slots that would be FRONT-STARVED). -/
def State.groupIdle (s : State) (g : Fin 8) : Bool :=
  allMembers.all fun m => match s.hubs[g].table[m].absent with
    | true => true
    | false => s.slices[s.hubs[g].table[m].slice].sched.ops.isEmpty

/-- Whether a job stores to or reads from a chunk. -/
def State.chunkBusy (s : State) (g : Fin 8) (chunk : Nat) : Bool :=
  s.hubs[g].jobs.any fun j => j.stripe / 8 == chunk && j.phase != .blocked

/-- ZERO_FILL_STEP: V19 begins the zero fill of the lowest void chunk of an idle group, at level 0 (R200). -/
def execZeroFillStep (g : Fin 8) (s : State) : Host.Outcome State Fault Refusal :=
  .next (
    if s.populated g && s.inService && s.pwr.phase == .awake && s.groupIdle g then
      match s.hubs[g].voids with
      | v :: _ => if s.chunkBusy g v.1 || !s.reserveRoom g then s else (s.spawnZero g v.1 0).vaneGrants g
      | [] => s
    else s)

/-! ### Counters (R202) -/

/-- The GRP counters and GRP_JRNL.PEAK cleared (R202). -/
def State.clearGrp (s : State) (g : Fin 8) : State :=
  s.modHub g fun h => { h with rtCnt := 0, rcvCnt := 0, cwfixCnt := 0, poisonCnt := 0, fullCnt := 0, partCnt := 0, xorCnt := 0, jwaitCnt := 0, jpeak := BitVec.ofNat 10 h.journal.length, degArmed := true }

/-- GRP_CMD.CLR_COUNTERS (R202). -/
def execGrpClrCounters (g : Fin 8) (s : State) : Host.Outcome State Fault Refusal :=
  .next (s.whenLive (pageGrp g) fun s => s.clearGrp g)

end Sys2Proof.Machine
end

