-- ==== Sys2Proof/Machine/RelayoutOps.lean ====
section
/-!
DEFINITION. Relayouts (R263 to R272): their start, one stripe, completion, suspension and checkpoints; Patrol (R282); and the
conditions of the SPR commands (R260, R269 to R271, R280, R281).
-/
namespace Sys2Proof.Machine

/-! ### Starting a relayout (R263) -/

/-- Relayouts at work in the block. -/
def State.rlyCount (s : State) : Nat := (allGroups.filter s.rlyRunning).length

/-- Whether the member of a queued relayout is in the state from which it starts (R256, R263, R269, R270). -/
def State.rlyReady (s : State) (g : Fin 8) (r : Relayout) : Bool :=
  let x := s.member g r.mem
  match r.kind with
  | .rebuild => x.st == .absent && !x.retrain
  | .resync => x.st == .absent
  | _ => x.st == .healthy

/-- Whether a queued relayout may start, an earlier one of another group aside. -/
def State.rlyMayStart (s : State) (g : Fin 8) (r : Relayout) : Bool := (s.spr.rly[g]).isNone && s.rlyReady g r

/-- The relayout of a group that starts now: the group's first in the queue, with no earlier one that could start instead. -/
def State.nextRly (s : State) (g : Fin 8) : Option Relayout :=
  match s.spr.queue.find? fun q => s.rlyMayStart q.1 q.2 with
  | some q => if q.1 = g then some q.2 else none
  | none => none

/-- A slice that rejoins takes up the PL in operation (R249). -/
def State.rejoinPl (s : State) (c : Fin 80) : State := if s.slices[c].train.st = 4 then s.atPl c s.pwr.pl else s

/-- A relayout begins: the member changes state and the attach swap is staged; an attached slice takes the member's refresh windows from
the group's next cycle (R218, R256, R263). -/
def State.beginRly (s : State) (g : Fin 8) (r : Relayout) : State :=
  let x := s.member g r.mem
  let src := match r.kind with
    | .evacuate | .return_ => some x.slice
    | _ => none
  let st : MemSt := match r.kind with
    | .rebuild => .rebuilding
    | .resync => .resync
    | .evacuate => .evacuating
    | .return_ => .returning
  let serving := match r.kind with
    | .rebuild | .resync => r.dst
    | _ => x.slice
  let s := { s with spr := { s.spr with queue := s.spr.queue.filter fun q => q != (g, r) } }
  let s := s.setRly g (some { r with src := src, bound := 0, running := true, suspended := false, done := [], full := r.kind == .resync && s.hubs[g].staleLost })
  let s := s.setMember g r.mem { st := st, slice := serving, retrain := false }
  let s := (if r.kind = .resync then (s.setFence r.dst false).rejoinPl r.dst else s.modSched r.dst fun x => { x with nextCyc := true }).modHealth r.dst fun h => { h with errLevel := 0, inService := true }
  let s := (s.stageRoute g r.mem { slice := r.dst, absent := false }).checkpoint g 0
  s.followMembers.detectCut (1#8 <<< g.val)

/-! ### Stripes that a vane reads by itself (R282, R339) -/

/-- What a member read of Patrol or of a verification shows after its replay; an uncorrectable link error counts as a mismatch (R253). -/
def strikeStrip (g : Fin 8) (m : Fin 9) (stripe : Nat) (e : Option StripErr) (lecc : Bool) (stored : Line × Check) : Strip :=
  let d := stored.1 ^^^ (e.map StripErr.data).getD 0
  let w := stored.2 ^^^ (e.map StripErr.check).getD 0
  if lecc && (e.map StripErr.linkUc).getD false then .bad d w
  else if isPoisoned g m stripe d w then .poisoned else if w = checkWord g m stripe d then .got d else .bad d w

/-- The error that a read of a member's strip suffers. -/
def errOf (errs : List StripErr) (m : Fin 9) : Option StripErr := errs.find? fun e => e.member == m

/-- All nine strips of a stripe as they return, with what their reads show after replay. -/
def State.readStripe (s : State) (g : Fin 8) (stripe : Nat) (errs : List StripErr) : Vector Strip 9 :=
  Vector.ofFn fun m => match s.target g m stripe with
    | none => Strip.gone
    | some c => strikeStrip g m stripe (errOf errs m) s.slices[c].train.lecc (s.stripNow c stripe)

/-- The counts of one such read: link errors, its replay, and the log entry of a replay that has mended it (R185, R225, R253). -/
def State.noteRead (s : State) (g : Fin 8) (stripe : Nat) (c : Fin 80) (e : StripErr) (x : Strip) : State :=
  let lecc := s.slices[c].train.lecc
  let s := if lecc then s.bumpTrn c 4 e.linkCe.toNat else s
  let s := if lecc && e.linkUc then s.bumpTrn c 5 else s
  let s := if e.replay || x.failed then s.bumpCh c 1 else s
  if e.replay && !x.failed then s.logError { cls := clsCe, page := pageGrp g, code := 0x0001, detail := stripDetail stripe e.member } else s

/-- The counts of all reads of a stripe. -/
def State.noteReads (s : State) (g : Fin 8) (stripe : Nat) (errs : List StripErr) (strips : Vector Strip 9) : State :=
  allMembers.foldl (fun (s : State) (m : Fin 9) => match errOf errs m, s.target g m stripe with
    | some e, some c => s.noteRead g stripe c e strips[m]
    | _, _ => s) s

/-- Parity rewritten over the stored contents when a lost stripe is made whole again (R275). -/
def State.reparity (s : State) (g : Fin 8) (stripe : Nat) : State :=
  let strips := s.peekStripe g stripe
  let pm := parityMember stripe
  let stored := (allMembers.filter fun m => m != pm).map fun m => strips[m].stored
  if stored.any Option.isNone then s
  else
    let p := xorLines (stored.map fun d => d.getD 0)
    s.putStrips g stripe [(pm, p, checkWord g pm stripe p, false)]

/-! ### The boundary window (R264) -/

/-- Whether a group's relayout works now: its swap has been made and no operation of an older epoch is beside it, so that no stripe and no
void chunk that it passes is written by two tables (R144, R268). -/
def State.rlyWorks (s : State) (g : Fin 8) : Option Relayout :=
  match s.spr.rly[g] with
  | some r => if r.running && s.inService && !s.parity pageSpr && !s.fab.wrst && s.hubs[g].staged.isNone && s.hubs[g].old.isEmpty then some r else none
  | none => none

/-- The lowest stripe of a relayout from `b` on that is not passed and not in the window. -/
def State.nextStripe (s : State) (g : Fin 8) (r : Relayout) (used : List Nat) : (fuel : Nat) → Nat → Nat
  | 0, b => b
  | fuel + 1, b =>
    let b := s.passFrom g r b
    if used.contains b then s.nextStripe g r used fuel (b + 1) else b

/-- A relayout copy asked of its hub, from the vane cluster at level 0 (R127, R132, R264). Its header carries the address of the stripe's
first line, and no tag (assumption 72). -/
def State.askCopy (s : State) (g : Fin 8) (stripe : Nat) : State :=
  let f : ReqFields := { tag := 0, addr := BitVec.ofNat 34 ((s.portAddr g stripe 0).getD 0 / 64), len := 0, cls := 0, ord := 0, gv := false, gid := 0, pi := 0, aux := 0 }
  let r : Req := { newReq s.ids srcVane opcRead f s.tb with phase := .waiting, hub := g, stamp := s.hubs[g].tick, tStamp := s.tb, ring := stripe }
  { s with ids := s.ids + 1, reqs := s.reqs ++ [r] }

/-- The next stripe of a relayout enters the boundary window, while that holds fewer than 16. -/
def State.openWindow (s : State) (g : Fin 8) : State :=
  match s.rlyWorks g with
  | none => s
  | some r =>
    let used := r.done ++ s.windowStripes g
    let b := s.nextStripe g r used 17 r.bound
    if 16 ≤ used.length ∨ s.groupStripes ≤ b then s else s.askCopy g b

/-- The window copies of a group that have not been granted are given up (R267, R271, R272). -/
def State.dropCopies (s : State) (g : Fin 8) : State :=
  { s with reqs := s.reqs.filter fun r => !(r.src == srcVane && r.hub == g && r.phase == .waiting) }

/-! ### Completion (R256, R269, R270) -/

/-- The end of a relayout: a final swap, the member HEALTHY, the roles (R257, R269, R270). -/
def State.completeRly (s : State) (g : Fin 8) (r : Relayout) : State :=
  let s := ((s.setRly g none).setMember g r.mem { st := .healthy, slice := r.dst, retrain := false }).endLosses g r.mem
  let s := (s.stageRoute g r.mem { slice := r.dst, absent := false }).checkpoint g 0
  let s := s.modHealth r.dst fun h => { h with role := if r.dst = homeSlice g r.mem then roleHome else roleAttached, grp := g, mem := some r.mem }
  let s := match r.kind, r.src with
    | .evacuate, some c => ((s.setFence c true).modHealth c fun h => { h with role := roleQuarantine, mem := none, tested := false, retrained := false }).ownLine c
    | .return_, some c => (s.ownLine c).freeSlice c
    | _, _ => s
  let s := if r.kind = .resync then s.modHub g fun h => { h with stale := [], staleLost := false } else s
  let s := { s with spr := { s.spr with doneCnt := satInc s.spr.doneCnt } }
  let s := ((s.raise pageSpr 1).followMembers).feasTrigger
  let s := s.recheckLevels g
  allMembers.foldl (fun (s : State) (m : Fin 9) => s.retryMargin (s.member g m).slice) s

/-! ### Suspension (R271) -/

/-- A group's relayout stopped; its checkpoint is written once its window is empty (R267). One that a command has suspended stays so until
another resumes it (R271, R272). -/
def State.haltRly (s : State) (g : Fin 8) (byCommand : Bool) : State :=
  match s.spr.rly[g] with
  | some r => ((s.setRly g (some { r with running := false, suspended := r.suspended || byCommand })).dropCopies g).checkpointStopped g
  | none => s

/-- SUSPEND of a relayout. -/
def State.suspendRly (s : State) (g : Fin 8) : State := s.haltRly g true

/-- The safe state of SPR suspends a relayout without a command (R392). -/
def State.stopRly (s : State) (g : Fin 8) : State := s.haltRly g false

/-! ### Patrol (R282) -/

/-- SPR_RATE.PATROL as it acts. -/
def State.patrolRate (s : State) : Nat := min 16 (s.cfgField pageSpr 0x044 7 0)

/-- Whether a group is scrubbed. -/
def State.patrols (s : State) (g : Fin 8) : Bool := s.populated g && allMembers.all fun m => (s.member g m).whole

/-- The first group that is scrubbed from a number on, up to the last. -/
def State.patrolFrom (s : State) (n : Nat) : Option (Fin 8) := allGroups.find? fun g => decide (n ≤ g.val) && s.patrols g

/-- Patrol's position set. -/
def State.setPatrol (s : State) (g : Fin 8) (stripe : Nat) : State :=
  { s with spr := { s.spr with patGrp := BitVec.ofNat 3 g.val, patPos := BitVec.ofNat 27 stripe } }

/-- A pass ends: counted and raised. -/
def State.patrolPass (s : State) (g : Fin 8) : State :=
  (({ s with spr := { s.spr with patCyc := satInc s.spr.patCyc } }).raise pageSpr 6).setPatrol g 0

/-- Void chunks passed. -/
def State.pastVoid (s : State) (g : Fin 8) : (fuel : Nat) → Nat → Nat
  | 0, b => b
  | fuel + 1, b => match s.hubs[g].voids.find? fun v => decide (v.1 ≤ b / 8) && decide (b / 8 < v.2) with
    | some v => s.pastVoid g fuel (8 * v.2)
    | none => b

/-- The group after `g`, or the end of the pass. -/
def State.patrolNext (s : State) (g : Fin 8) : State :=
  match s.patrolFrom (g.val + 1) with
  | some h => s.setPatrol h 0
  | none => match s.patrolFrom 0 with
    | some h => s.patrolPass h
    | none => s

/-- Parity of a scrubbed stripe whose strips are all good (R282). -/
def State.scrubParity (s : State) (g : Fin 8) (stripe : Nat) (strips : Vector Strip 9) : State :=
  let pm := parityMember stripe
  let p := xorLines ((allMembers.filter fun m => m != pm).map fun m => (strips[m].stored).getD 0)
  if strips[pm] = Strip.got p then s
  else
    let s := ((s.putStrips g stripe [(pm, p, checkWord g pm stripe p, false)]).passEntry g).raise pageSpr 6
    let s := { s with spr := { s.spr with pfixCnt := satInc s.spr.pfixCnt } }
    s.logError { cls := clsCe, page := pageSpr, code := 0x0021, detail := BitVec.ofNat 64 (stripe % 2 ^ 32 + g.val * 2 ^ 32) }

/-- Whether a stripe holds strips of a system copy that lies without parity: the copies of the one group there is (R197). -/
def State.bare (s : State) (g : Fin 8) (stripe : Nat) : Bool :=
  [s.keepA, s.keepB].any fun k => match k with
    | some k => !k.parity && k.grp == g && decide (k.at_.stripe ≤ stripe) && decide (stripe < k.at_.stripe + k.stripes)
    | none => false

/-- One stripe scrubbed: mismatches under R185, then parity (R282). A stripe whose strips have no parity has none to check (R197,
assumption 8). -/
def State.scrubStripe (s : State) (g : Fin 8) (stripe : Nat) (errs : List StripErr) : State :=
  if s.bare g stripe then s.vaneGrants g else
  let strips := s.readStripe g stripe errs
  let s := (s.vaneGrants g).noteReads g stripe errs strips
  if allMembers.all fun m => (strips[m].stored).isSome then s.scrubParity g stripe strips
  else
    let (s, ws) := s.mendStripe g stripe strips []
    ((s.putStrips g stripe ws).passEntry g).countStripe g stripe strips

/-- Patrol works on a group's next stripe. -/
def State.patrolStep (s : State) (g : Fin 8) (errs : List StripErr) : State :=
  let here := decide (s.spr.patGrp = BitVec.ofNat 3 g.val)
  let b := s.pastVoid g (s.hubs[g].voids.length + 1) (if here then s.spr.patPos.toNat else 0)
  if s.groupStripes ≤ b then s.patrolNext g
  else if s.stripeFree g b true = false then s
  else
    let s := s.scrubStripe g b errs
    if s.groupStripes ≤ b + 1 then s.patrolNext g else s.setPatrol g (b + 1)

/-- A step of the verification pass over a group: every stripe's XOR is checked; the pass ends when no member is unreachable
(R339). -/
def State.verifyStep (s : State) (g : Fin 8) (errs : List StripErr) : State :=
  let b := s.pastVoid g (s.hubs[g].voids.length + 1) s.hubs[g].verifyPos
  if s.groupStripes ≤ b then
    (if allMembers.all fun m => (s.member g m).whole then s.modHub g fun h => { h with verify := false, verifyPos := 0 } else s)
  else if s.stripeFree g b true = false then s
  else (s.scrubStripe g b errs).modHub g fun h => { h with verifyPos := b + 1 }

/-- The group Patrol is at: its position's, or the next eligible one. -/
def State.patrolGroup (s : State) : Option (Fin 8) := (s.patrolFrom s.spr.patGrp.toNat).or (s.patrolFrom 0)

/-- Where no group from the position on is scrubbed any more, the pass has ended and the next begins (R282). -/
def State.patrolWrap (s : State) (g : Fin 8) : State := if (s.patrolFrom s.spr.patGrp.toNat).isNone then s.patrolPass g else s

/-! ### SPR commands (R284) -/

/-- The result of an SPR command; each one raises CMD. -/
def State.sprResult (s : State) (r : BitVec 4) : State := ({ s with spr := { s.spr with result := r } }).raise pageSpr 5

/-- A command that is refused with a code, else done: 0 stands for no refusal. -/
def State.sprDo (s : State) (refuse : BitVec 4) (f : State → State) (ok : BitVec 4) : State :=
  if s.inService = false then s.sprResult 3 else if refuse = 0 then (f s).sprResult ok else s.sprResult refuse

/-- Whether a relayout requested now starts at once: 0 accepted, 6 queued. -/
def State.rlyNow (s : State) (g : Fin 8) : BitVec 4 :=
  if (s.spr.rly[g]).isNone && s.spr.queue.isEmpty && decide (s.rlyCount < 2) then 0 else 6

/-- A slice number as a command argument. -/
def sliceArg (c : BitVec 7) : Option (Fin 80) := if h : c.toNat < 80 then some ⟨c.toNat, h⟩ else none

/-- A member number as a command argument, of a populated group. -/
def State.memberArg (s : State) (g : Fin 8) (m : BitVec 4) : Option (Fin 9) :=
  if h : m.toNat < 9 then (if s.populated g then some ⟨m.toNat, h⟩ else none) else none

/-- FAIL (R258, R260). -/
def State.cmdFail (s : State) (c : BitVec 7) : State :=
  match sliceArg c with
  | none => s.sprDo 2 id 0
  | some c =>
    let refuse : BitVec 4 :=
      if s.role c = roleUnused then 2
      else if s.role c = roleFailed ∨ s.role c = roleUnavailable then 3
      else if s.servesMember c ∧ (match s.slices[c].health.mem with | some m => s.otherUnreachable s.slices[c].health.grp m | none => false) = true then 5
      else 0
    s.sprDo refuse (fun s => s.declareFailed c 6) 0

/-- The spare an argument asks for: the named slice while it is SPARE_FREE, or the choice of R262; or the result that refuses. -/
def State.spareArg (s : State) (g : Fin 8) (m : Fin 9) (c : BitVec 7) : BitVec 4 ⊕ Option (Fin 80) :=
  if c = 0x7F then .inr (s.chooseSpare g m)
  else match sliceArg c with
    | none => .inl 2
    | some c => if s.role c = roleSpareFree then .inr (some c) else .inl 4

/-- EVACUATE (R260, R262, R269). -/
def State.cmdEvacuate (s : State) (g : Fin 8) (m : BitVec 4) (c : BitVec 7) : State :=
  match s.memberArg g m with
  | none => s.sprDo 2 id 0
  | some m => match s.spareArg g m c with
    | .inl e => s.sprDo e id 0
    | .inr d =>
      let refuse : BitVec 4 := if s.otherUnreachable g m then 5 else if (s.member g m).st ≠ .healthy ∨ s.spareAsked g m = true then 3 else 0
      match d with
      | some d => s.sprDo refuse (fun s => s.grantSpare g m true d) (s.rlyNow g)
      | none => s.sprDo refuse (fun s => { s with spr := { s.spr with requests := s.spr.requests ++ [{ grp := g, mem := m, evac := true }] } }) 6

/-- RETURN (R270). -/
def State.cmdReturn (s : State) (g : Fin 8) (m : BitVec 4) : State :=
  match s.memberArg g m with
  | none => s.sprDo 2 id 0
  | some m =>
    let home := homeSlice g m
    let x := s.member g m
    let ok := x.st = .healthy ∧ x.slice ≠ home ∧ s.role home = roleSpareFree ∧ (s.spr.rly[g]).isNone ∧ (s.spr.queue.any fun q => q.1 == g) = false
    s.sprDo (if ok then 0 else 3) (fun s =>
      let s := s.modHealth home fun h => { h with role := roleAttached, grp := g, mem := some m, errLevel := 0 }
      (s.queueRly g { kind := .return_, mem := m, dst := home, src := some x.slice, bound := 0, running := false, suspended := false, done := [], full := false, order := 0 }).noteSpareCount) (s.rlyNow g)

/-- Whether a group's relayout has been resumed and waits for a vane (R263). -/
def State.rlyWaits (s : State) (g : Fin 8) : Bool := match s.spr.rly[g] with | some r => !r.running && !r.suspended | none => false

/-- SUSPEND (R271). -/
def State.cmdSuspend (s : State) (g : Fin 8) : State :=
  s.sprDo (if s.populated g = false then 2 else if s.rlyRunning g || s.rlyWaits g then 0 else 3) (fun s => s.suspendRly g) 0

/-- Whether a group's relayout has been suspended by a command. -/
def State.rlyHeld (s : State) (g : Fin 8) : Bool := match s.spr.rly[g] with | some r => r.suspended | none => false

/-- Whether a group's relayout is suspended, by a command or by the safe state of SPR (R271, R392). -/
def State.rlyStopped (s : State) (g : Fin 8) : Bool := s.rlyHeld g || (s.parity pageSpr && (s.spr.rly[g]).isSome)

/-- RESUME (R271): it continues at once, which takes bandwidth from its hub (R173), or waits for a vane (R263). In the safe state of SPR
relayouts stay suspended (R392). -/
def State.cmdResume (s : State) (g : Fin 8) : State :=
  let room := decide (s.rlyCount < 2)
  s.sprDo (if s.populated g = false then 2 else if s.rlyHeld g && !s.parity pageSpr then 0 else 3) (fun s => match s.spr.rly[g] with
    | some r =>
      let s := s.setRly g (some { r with suspended := false, running := room })
      if room then s.detectCut (1#8 <<< g.val) else s
    | none => s) (if room then 0 else 6)

/-- TEST (R280). -/
def State.cmdTest (s : State) (c : BitVec 7) : State :=
  match sliceArg c with
  | none => s.sprDo 2 id 0
  | some c => s.sprDo (if s.role c = roleQuarantine then 0 else 3) (fun s => s.modHealth c fun h => { h with role := roleTesting }) 0

/-- ADMIT (R281). -/
def State.cmdAdmit (s : State) (c : BitVec 7) : State :=
  match sliceArg c with
  | none => s.sprDo 2 id 0
  | some c =>
    let h := s.slices[c].health
    s.sprDo (if h.role = roleQuarantine ∧ h.retrained = true ∧ h.tested = true then 0 else 3)
      (fun s => ((s.setFence c false).modHealth c fun h => { h with errLevel := 0 }).freeSlice c) 0

/-- ATTACH (R262). -/
def State.cmdAttach (s : State) (g : Fin 8) (m : BitVec 4) (c : BitVec 7) : State :=
  match s.memberArg g m with
  | none => s.sprDo 2 id 0
  | some m => match s.spr.requests.find? fun r => r.grp == g && r.mem == m with
    | none => s.sprDo 3 id 0
    | some r => match s.spareArg g m c with
      | .inl e => s.sprDo e id 0
      | .inr none => s.sprDo 4 id 0
      | .inr (some d) => s.sprDo 0 (fun s => ({ s with spr := { s.spr with requests := s.spr.requests.erase r } }).grantSpare g m r.evac d) (s.rlyNow g)

/-- SPR_CMD.GO (R284): SPR_CMD_ARG executed. -/
def State.sprGo (s : State) : State :=
  let a := s.cfg pageSpr 0x048
  let g : Fin 8 := groupOf (fieldOf a 26 24)
  let m : BitVec 4 := BitVec.ofNat 4 (fieldOf a 19 16)
  let c : BitVec 7 := BitVec.ofNat 7 (fieldOf a 6 0)
  match fieldOf a 31 28 with
  | 1 => s.cmdFail c
  | 2 => s.cmdEvacuate g m c
  | 3 => s.cmdReturn g m
  | 4 => s.cmdSuspend g
  | 5 => s.cmdResume g
  | 6 => s.cmdTest c
  | 7 => s.cmdAdmit c
  | 8 => s.cmdAttach g m c
  | _ => s.sprDo 2 id 0

/-- The loss map and SPR_LOSS_STAT cleared (R277). -/
def State.clearLoss (s : State) : State := { s with spr := { s.spr with loss := [], dropped := 0 } }

/-- SPR command CLR_LOSS, as every SPR command accepted in RUN and DEGRADED only (R277, R284). -/
def State.cmdClearLoss (s : State) : State := s.sprDo 0 (fun s => s.clearLoss) 0

/-- The SPR counters, and CH_MISMATCH_CNT and CH_FAIL_TIME of every slice, cleared (R285). -/
def State.clearSpr (s : State) : State :=
  { s with
    spr := { s.spr with patCyc := 0, failCnt := 0, doneCnt := 0, pfixCnt := 0, lostWrCnt := 0 }
    slices := s.slices.map fun x => { x with health := { x.health with mismatch := 0, failTime := 0 } } }

/-- SPR command CLR_COUNTERS (R284, R285). -/
def State.cmdClearSpr (s : State) : State := s.sprDo 0 (fun s => s.clearSpr) 0

end Sys2Proof.Machine
end

