-- ==== Sys2Proof/Machine/Security.lean ====
section
/-!
DEFINITION. The OTP row (R459 to R464), the key ladder and key slots (R461, R465, R466), and microcode patches (R471, R472).
-/
namespace Sys2Proof.Machine

/-! ### Words of the OTP row (R459, R460) -/

/-- What a read of one main word finds: its state (0 BLANK, 1 PROGRAMMED, 2 INCOMPLETE, 3 REDIRECTED), its data, the spare used,
and what its ECC check found. -/
structure OtpRead where
  st    : BitVec 2
  data  : BitVec 64
  spare : BitVec 3
  ce    : Bool
  uc    : Bool
  deriving DecidableEq, Repr

/-- The ECC check of a physical word (R460). -/
def otpCheck (st : BitVec 2) (spare : Nat) (w : OtpWord) : OtpRead :=
  match secdedCheck 64 w.data.toNat w.ecc with
  | .clean => { st := st, data := w.data, spare := BitVec.ofNat 3 spare, ce := false, uc := false }
  | .corrected d => { st := st, data := BitVec.ofNat 64 d, spare := BitVec.ofNat 3 spare, ce := true, uc := false }
  | .uncorrectable => { st := st, data := 0, spare := BitVec.ofNat 3 spare, ce := false, uc := true }

/-- The highest-numbered spare with D set that targets a word. -/
def Security.spareFor (x : Security) (i : Nat) : Option (Nat × OtpWord) :=
  ((List.range 8).reverse.filterMap fun k => (x.spares[k]?).map fun w => (k, w)).find? fun kw => kw.2.done && kw.2.target.toNat == i

/-- Main word `i` as it reads. W0 and W1 hold the shipped identity. -/
def Security.otp (x : Security) (i : Nat) : OtpRead :=
  if i < 2 then { st := 1, data := Config.instanceId.extractLsb' (64 * i) 64, spare := 0, ce := false, uc := false }
  else match x.spareFor i with
    | some (k, w) => otpCheck 3 k w
    | none =>
      let w := x.words[i]?.getD OtpWord.blank
      if w.done then otpCheck 1 0 w
      else { st := if w.begun then 2 else 0, data := 0, spare := 0, ce := false, uc := false }

/-- Root words are not readable through the OTP page (R459). -/
def otpProtected (i : Nat) : Bool := decide (4 ≤ i) && decide (i < 12)

/-- A read of a word counted: corrected, or uncorrectable with ECC raised (R460). -/
def State.countOtp (s : State) (i : Nat) : State :=
  let r := s.sec.otp i
  if r.uc then ({ s with sec := { s.sec with otpUc := satInc s.sec.otpUc } }).raise pageOtp 1
  else if r.ce then { s with sec := { s.sec with otpCe := satInc s.sec.otpCe } }
  else s

/-- Spares still BLANK. -/
def Security.freeSpares (x : Security) : List (Fin 8) := (List.finRange 8).filter fun k => !(x.spares[k]).begun

/-- Check 5 of R462. -/
def State.otpSupplyOk (s : State) : Bool :=
  decide (800 ≤ s.pwr.coreMv.toNat) && s.pwr.pllOk && s.pins.mainPg &&
    (s.mode.mode == .run || s.mode.mode == .degraded || s.mode.mode == .diagnostic)

/-- FEATURES bits as the last bring-up took them (R459). -/
def State.feature (s : State) (i : Nat) : Bool := s.sec.features.getLsbD i

/-- The end of every command of the OTP page: the key is cleared (R462). -/
def State.endOtp (s : State) (result : BitVec 3) : State :=
  ({ s with sec := { s.sec with otpResult := result } }).store pageOtp 0x05C 0

/-- A physical word as a program leaves it before its read-back: B set, data and ECC given, D clear. -/
def begunWord (d : BitVec 64) (target : BitVec 6) : OtpWord :=
  { data := d, ecc := secdedEcc 64 d.toNat, begun := true, done := false, target := target }

/-- OTP_CMD.PROGRAM (R462): the checks in order, then the program begins in the word or in the lowest blank spare. -/
def State.otpProgram (s : State) : State :=
  if s.parity pageOtp ∨ s.sec.otpBusy then s
  else
    let i := s.cfgField pageOtp 0x050 5 0
    let d := pairOf (s.cfg pageOtp 0x054) (s.cfg pageOtp 0x058)
    if s.cfg pageOtp 0x05C ≠ 0x0000A5C3 then s.endOtp 5
    else if i < 2 ∨ (i < 12 ∧ s.feature 3) then s.endOtp 4
    else
      let s := s.countOtp i
      let st := (s.sec.otp i).st
      if st = 1 ∨ st = 3 then ({ s with sec := { s.sec with otpRe := satInc s.sec.otpRe } }).endOtp 1
      else if st = 2 ∧ s.sec.freeSpares.isEmpty then s.endOtp 6
      else if s.otpSupplyOk = false then s.endOtp 2
      else
        match (if st = 2 then s.sec.freeSpares.head? else none) with
        | some k => { s with sec := { s.sec with otpBusy := true, otpSpare := some k, spares := s.sec.spares.set k (begunWord d (BitVec.ofNat 6 i)) } }
        | none => { s with sec := { s.sec with otpBusy := true, otpSpare := none, otpIndex := BitVec.ofNat 6 i, words := s.sec.words.setIfInBounds i (begunWord d 0) } }

/-- PROGRAM_DONE (R463): D on a match, else VERIFY; PROG_DONE is raised in either case. -/
def State.otpDone (s : State) (ok : Bool) : State :=
  if s.sec.otpBusy then
    let x := s.sec
    let i := x.otpIndex.toNat
    let x := match x.otpSpare with
      | some k => { x with spares := x.spares.set k { x.spares[k] with done := ok } }
      | none => { x with words := x.words.setIfInBounds i { x.words[i]?.getD OtpWord.blank with done := ok } }
    (({ s with sec := { x with otpBusy := false, otpSpare := none } }).endOtp (if ok then 0 else 7)).raise pageOtp 0
  else s

/-- A program cut short (R464): D is not set and the word stays INCOMPLETE. -/
def State.otpInterrupt (s : State) : State :=
  if s.sec.otpBusy then ({ s with sec := { s.sec with otpBusy := false, otpSpare := none } }).endOtp 3
  else s

/-! ### Roots and keys (R461, R465, R466) -/

/-- The 32 bytes of root `r`, key byte 0 first. -/
def Security.rootBytes (x : Security) (r : Nat) : List Nat :=
  (List.range 4).flatMap fun k => (bytesOf (x.otp (4 + 4 * r + k)).data 8).map BitVec.toNat

/-- Whether a root key is valid (R461). -/
def Security.rootOk (x : Security) (r : Nat) : Bool :=
  ((List.range 4).all fun k => ((x.otp (4 + 4 * r + k)).st == 1 || (x.otp (4 + 4 * r + k)).st == 3) && !(x.otp (4 + 4 * r + k)).uc) &&
    (x.rootBytes r).any (· != 0)

/-- INSTANCE_ID as 16 bytes. -/
def instanceBytes : List Nat := (bytesOf Config.instanceId 16).map BitVec.toNat

/-- The labels of R465. -/
def labelXts : List Nat := [0x55, 0x4C, 0x38, 0x30, 0x20, 0x58, 0x54, 0x53]
def labelKeep : List Nat := [0x55, 0x4C, 0x38, 0x30, 0x20, 0x4B, 0x45, 0x45, 0x50]

/-- A slot key. -/
def Security.slotKey (x : Security) (root : Bool) (ctx : List Byte) : List Byte :=
  (deriveKey (x.rootBytes (if root then 1 else 0)) labelXts (instanceBytes ++ ctx.map BitVec.toNat)).map (BitVec.ofNat 8)

/-- The candidates for the Keep key in order: 0 ROOT0, 1 ROOT1, 2 the ROM root (R465, R469). -/
def Security.keepRoots (x : Security) : List Nat := [0, 1, 2].filter fun r => r == 2 || x.rootOk r

/-- The bytes of a Keep root candidate. -/
def Security.keepRootBytes (x : Security) (r : Nat) : List Nat :=
  if r = 2 then (bytesOf Config.romRoot 32).map BitVec.toNat else x.rootBytes r

/-- The Keep root candidate as the 256-bit value that a Keep copy names. -/
def Security.keepRootVal (x : Security) (r : Nat) : BitVec 256 := wordOf 256 ((x.keepRootBytes r).map (BitVec.ofNat 8))

/-- V22 derives the Keep key from the first candidate (R465, R466). -/
def State.deriveKeep (s : State) : State :=
  let r := s.sec.keepRoots.headD 2
  { s with sec := { s.sec with keepRoot := BitVec.ofNat 2 r, keepKey := (deriveKey (s.sec.keepRootBytes r) labelKeep (instanceBytes ++ List.replicate 32 0)).map (BitVec.ofNat 8) } }

/-- One key slot changed. -/
def State.modSlot (s : State) (k : Fin 16) (f : KeySlot → KeySlot) : State :=
  { s with sec := { s.sec with slots := s.sec.slots.set k (f s.sec.slots[k]) } }

/-- The slot SEC_KEY_ARG names. -/
def State.slotArg (s : State) : Fin 16 := ⟨s.cfgField pageSec 0x048 3 0 % 16, by omega⟩

/-- Whether an enabled region names a slot. -/
def State.slotInUse (s : State) (k : Fin 16) : Bool :=
  (List.range 16).any fun n => s.cfgBit pageSec (0x100 + 8 * n) 31 && s.cfgField pageSec (0x104 + 8 * n) 31 28 == k.val

/-- A command of the SEC page ends: its result, and CMD_DONE. -/
def State.secEnd (s : State) (result : BitVec 3) : State :=
  ({ s with sec := { s.sec with cmdResult := result } }).raise pageSec 0

/-- The context registers as 32 bytes, CTX0 byte 0 first. -/
def State.kdfContext (s : State) : List Byte := (List.range 8).flatMap fun k => bytesOf (s.cfg pageSec (0x060 + 4 * k)) 4

/-- SEC_CMD.KEY_DERIVE (R466). -/
def State.keyDerive (s : State) : State :=
  if s.parity pageSec then s
  else if s.sec.cmdBusy then s.secEnd 1
  else
    let k := s.slotArg
    let root := s.cfgBit pageSec 0x048 8
    let s := (List.range 4).foldl (fun (s : State) (j : Nat) => s.countOtp (4 + 4 * (if root then 1 else 0) + j)) s
    if s.sec.rootOk (if root then 1 else 0) = false then s.secEnd 2
    else if s.slotInUse k then s.secEnd 3
    else
      let s := s.modSlot k fun _ => { st := 1, root := root, ctx := s.kdfContext, key := [] }
      { s with sec := { s.sec with cmdBusy := true, deriving_ := some k } }

/-- A derivation ends: the slot is READY. -/
def State.keyDone (s : State) : State :=
  match s.sec.deriving_ with
  | none => s
  | some k =>
    let s := s.modSlot k fun x => { x with st := 2, key := s.sec.slotKey x.root x.ctx }
    ({ s with sec := { s.sec with cmdBusy := false, deriving_ := none } }).secEnd 0

/-- SEC_CMD.KEY_CLEAR (R466). -/
def State.keyClear (s : State) : State :=
  if s.parity pageSec then s
  else if s.sec.cmdBusy then s.secEnd 1
  else if s.slotInUse s.slotArg then s.secEnd 3
  else (s.modSlot s.slotArg fun _ => KeySlot.empty).secEnd 0

/-! ### Patches (R471, R472) -/

/-- SEC_PATCH_BASE. -/
def State.patchBase (s : State) : Nat := s.cfgPair pageSec 0x080

/-- SEC_CMD.PATCH_LOAD: V22 begins to read the image. -/
def State.patchLoad (s : State) : State :=
  if s.parity pageSec then s
  else if s.sec.cmdBusy then s.secEnd 1
  else { s with sec := { s.sec with cmdBusy := true, loading := true } }

/-- A line as V22 reads it, as source 0x19: none for POISON. -/
def State.vaneLine (s : State) (a : Nat) : Option Line :=
  if s.inWindow a then
    (if (s.entry (s.granuleOf a)).st = entPoisoned then none else s.lineNow (s.readAddr a false 0))
  else s.lineNow a

/-- Whether a line address is populated (R181). -/
def State.lineThere (s : State) (a : Nat) : Bool := s.inWindow a || decide (a < s.payloadEnd)

/-- A field of an image. -/
def imageField (img : List Byte) (ofs n : Nat) : Nat := (wordOf (8 * n) ((img.drop ofs).take n)).toNat

/-- ASCII "UL80PTCH" (R471). -/
def patchMagic : List Byte := [0x55, 0x4C, 0x38, 0x30, 0x50, 0x54, 0x43, 0x48]

/-- Whether a length is one a patch may have (R471). -/
def patchLength (n : Nat) : Bool := n % 64 == 0 && decide (256 ≤ n) && decide (n ≤ 65536)

/-- GLB_UCODE_ID.ROM_BUILD (R401). -/
def romBuild : Nat := 0x0031

/-- Checks 6 to 9 of R472: the REASON of the first that fails, else 0. -/
def State.patchChecks (s : State) (img : List Byte) : BitVec 4 :=
  let build := imageField img 10 2
  let who := imageField img 16 8
  if imageField img 8 2 ≠ romBuild then 6
  else if build = 0 ∨ build < (s.sec.features.extractLsb' 32 16).toNat then 7
  else if who ≠ 0 ∧ who ≠ (s.sec.otp 2).data.toNat then 8
  else if Config.patchSignatureOk img = false then 9
  else 0

/-- The load ends with a REASON. -/
def State.patchEnd (s : State) (reason : BitVec 4) : State :=
  ({ s with sec := { s.sec with cmdBusy := false, loading := false, patchReason := reason } }).secEnd (if reason = 0 then 0 else 4)

/-- The lines of a range as V22 reads them. -/
def State.vaneLines (s : State) (a n : Nat) : List (Option Line) := (List.range n).map fun k => s.vaneLine (a + 64 * k)

/-- The bytes of lines; a poisoned line delivers the poison pattern. -/
def linesBytes (l : List (Option Line)) : List Byte := (l.map fun x => lineBytes (x.getD poisonLine)).flatten

/-- The image read, once its length is known to be possible and its lines are there (R472). -/
def State.patchTake (s : State) (head : List Byte) (len : Nat) : State :=
  let s := { s with sec := { s.sec with patchSeen := BitVec.ofNat 16 (imageField head 10 2) } }
  if head.take 8 ≠ patchMagic ∨ patchLength len = false then s.patchEnd 5
  else
    let lines := s.vaneLines s.patchBase (len / 64)
    let img := linesBytes lines
    let why := s.patchChecks img
    if why ≠ 0 then s.patchEnd why
    else if lines.any fun x => x.isNone then s.patchEnd 0xA
    else ({ s with sec := { s.sec with image := img, taken := false } }).patchEnd 0

/-- The header read: the length it gives must lie where lines are. -/
def State.patchHead (s : State) (head : List Byte) : State :=
  let len := imageField head 12 4
  if patchLength len && !((List.range (len / 64)).all fun k => s.lineThere (s.patchBase + 64 * k)) then s.patchEnd 4
  else s.patchTake head len

/-- The checks of R472 in order, and what an accepted image does. V22 reads the image as source 0x19, which passes the arbiters of its
hubs (R127). -/
def State.patchFinish (s : State) : State :=
  if s.sec.loading = false then s
  else if s.feature 0 then s.patchEnd 1
  else if s.sec.image.isEmpty = false then s.patchEnd 2
  else if s.inService = false then s.patchEnd 3
  else if s.patchBase % 4096 ≠ 0 ∨ s.lineThere s.patchBase = false then s.patchEnd 4
  else
    let t := s.popGroups.foldl State.vaneGrants s
    t.patchHead (linesBytes [s.vaneLine s.patchBase])

/-- A load cut short by HOLD-UP entry or a warm reset (R472 reason 0xB). -/
def State.patchInterrupt (s : State) : State := if s.sec.loading then s.patchEnd 0xB else s

/-- The vanes take up the accepted image: PATCH_BUILD (R5, R472). -/
def State.patchTakeUp (s : State) : State :=
  if s.sec.image.isEmpty || s.sec.taken then s
  else { s with sec := { s.sec with taken := true }, mode := { s.mode with patchBuild := BitVec.ofNat 16 (imageField s.sec.image 10 2) } }

/-! ### Meanings -/

/-- OTP_CMD.PROGRAM (R462). -/
def execProgram (s : State) : Host.Outcome State Fault Refusal := .next (s.whenLive pageOtp fun s => s.otpProgram)

/-- PROGRAM_DONE (R463). -/
def execProgramDone (ok : Bool) (s : State) : Host.Outcome State Fault Refusal := .next (s.otpDone ok)

/-- SUPPLY_TRIP: the detector trips during a program (R464). A reset that arrives does the same without SUPPLY. -/
def execSupplyTrip (s : State) : Host.Outcome State Fault Refusal :=
  .next (if s.sec.otpBusy then s.otpInterrupt.raise pageOtp 2 else s)

/-- The three OTP counters cleared (R475). -/
def State.clearOtp (s : State) : State := { s with sec := { s.sec with otpCe := 0, otpUc := 0, otpRe := 0 } }

/-- OTP_CMD.CLR_COUNTERS (R475). -/
def execOtpClrCounters (s : State) : Host.Outcome State Fault Refusal := .next (s.whenLive pageOtp fun s => s.clearOtp)

/-- SEC_CMD.KEY_DERIVE (R466). -/
def execKeyDerive (s : State) : Host.Outcome State Fault Refusal := .next (s.whenLive pageSec fun s => s.keyDerive)

/-- KEY_DERIVE_DONE (R466). -/
def execKeyDeriveDone (s : State) : Host.Outcome State Fault Refusal := .next s.keyDone

/-- SEC_CMD.KEY_CLEAR (R466). -/
def execKeyClear (s : State) : Host.Outcome State Fault Refusal := .next (s.whenLive pageSec fun s => s.keyClear)

/-- SEC_CMD.PATCH_LOAD (R472). -/
def execPatchLoad (s : State) : Host.Outcome State Fault Refusal := .next (s.whenLive pageSec fun s => s.patchLoad)

/-- PATCH_LOAD_DONE (R472). -/
def execPatchLoadDone (s : State) : Host.Outcome State Fault Refusal := .next s.patchFinish

/-- PATCH_TAKE_UP (R472, R5). -/
def execPatchTakeUp (s : State) : Host.Outcome State Fault Refusal := .next s.patchTakeUp

/-- SEC_DENY_CNT cleared and DENY armed again (R473). -/
def State.clearDeny (s : State) : State := { s with sec := { s.sec with denyCnt := 0, denyArmed := true } }

/-- SEC_CMD.CLR_DENY (R473). -/
def execClrDeny (s : State) : Host.Outcome State Fault Refusal := .next (s.whenLive pageSec fun s => s.clearDeny)

end Sys2Proof.Machine
end

