-- ==== Sys2Proof/Machine/ResetOps.lean ====
section
/-!
DEFINITION. What a cold reset, a warm reset and RETENTION leave of the block (R28, R290, R296, R385, R387, R388, R394, and the
counter rules of the chapters), and what ends with them: the sequence lock (R398), mailbox commands (R404), debug operations (R410).
-/
namespace Sys2Proof.Machine

/-- How the core loses its state: cold reset, warm reset, or RETENTION entry. -/
inductive ResetKind where
  | cold | warm | retention
  deriving DecidableEq, Repr

/-! ### Registers -/

/-- Registers outside LK and BOOT that keep their values over a warm reset: ring base and size (R89), DBG_DATA (R413). -/
def warmKeeps (page ofs : Nat) : Bool :=
  (decide (0x20 ≤ page) && decide (page < 0x28) && (ofs == 0x050 || ofs == 0x054 || ofs == 0x058)) ||
    (page == pageDbg && decide (0x100 ≤ ofs) && decide (ofs < 0x140))

/-- The bits of a register that a warm reset leaves (R394). -/
def warmMask (page ofs : Nat) : Reg :=
  if warmKeeps page ofs then 0xFFFFFFFF
  else match regSpec page ofs with
    | some r => if r.ap == .boot then 0xFFFFFFFF else r.lk
    | none => 0

/-- The applied values after a warm reset. -/
def warmApplied (l : List (Nat × Reg)) : List (Nat × Reg) :=
  l.filterMap fun x =>
    let m := warmMask (x.1 / 1024) (x.1 % 1024)
    let r := regReset (x.1 / 1024) (x.1 % 1024)
    let v := (x.2 &&& m) ||| (r &&& ~~~m)
    if v = r then none else some (x.1, v)

/-- The register space after a reset: BOOT shadows survive a warm reset only (R385). -/
def Regs.afterReset (x : Regs) (k : ResetKind) : Regs :=
  match k with
  | .warm => { Regs.reset with
      applied := warmApplied x.applied
      shadows := x.shadows.filter fun e => applyOf (e.1 / 1024) (e.1 % 1024) == .boot
      boot := x.boot }
  | _ => Regs.reset

/-! ### Units -/

/-- Training state after a reset other than cold: a slice declared failed or UNAVAILABLE is not tried again, any other starts
anew (R30). -/
def Slice.keptState (x : Slice) : BitVec 4 := if x.health.role = roleFailed ∨ x.health.role = roleUnavailable then x.train.st else 0

/-- A slice after a reset. Device contents, signature and snapshots stay; so does what the signature says of its role (R334). -/
def Slice.afterReset (x : Slice) (k : ResetKind) : Slice :=
  let power : SliceSt := if x.power = .selfRefresh then .selfRefresh else .off
  match k with
  | .cold => { Slice.reset with
      power := power, ranks := x.ranks, dens := x.dens, sig := x.sig, pasr := x.pasr, lost := x.lost
      train := { Train.reset with snapValid := x.train.snapValid, snaps := x.train.snaps } }
  | .retention => { Slice.reset with
      power := power, ranks := x.ranks, dens := x.dens, sig := x.sig, pasr := x.pasr, lost := x.lost
      train := { Train.reset with snapValid := x.train.snapValid, snaps := x.train.snaps, leccCap := x.train.leccCap, devId := x.train.devId, lecc := x.train.lecc, dbi := x.train.dbi, st := x.keptState }
      health := { Health.reset with role := x.health.role, grp := x.health.grp, mem := x.health.mem, inService := x.health.inService } }
  | .warm => { x with
      sched := { Sched.reset with peak := x.sched.peak }
      train := { Train.reset with snapValid := x.train.snapValid, snaps := x.train.snaps, leccCap := x.train.leccCap, devId := x.train.devId, lecc := x.train.lecc, dbi := x.train.dbi, st := x.keptState, scanErr := x.train.scanErr, res0 := x.train.res0, res1 := x.train.res1, res2 := x.train.res2, tempNow := x.train.tempNow }
      snapBank := SliceBank.reset }

/-- An ingest port after a reset: a warm reset keeps pointers, SEQ, position, trigger position and FROZEN (R89, R94). -/
def Ingest.afterReset (x : Ingest) (k : ResetKind) : Ingest :=
  match k with
  | .warm => { Ingest.reset with
      rstLow := x.rstLow, frozen := x.frozen || x.freezing, trigPos := x.trigPos, pos := x.pos, cwp := x.cwp, rp := x.rp, wp := x.cwp
      seq := x.seq, drop := x.drop, disc := x.disc, gapCnt := x.gapCnt, segCnt := x.segCnt }
  | _ => { Ingest.reset with rstLow := x.rstLow }

/-- The ledger after a reset: its counters survive a warm reset (R126). -/
def Ledger.afterReset (x : Ledger) (k : ResetKind) : Ledger :=
  match k with
  | .warm => { Ledger.reset with
      commitCnt := x.commitCnt, abortCnt := x.abortCnt, conflictCnt := x.conflictCnt, fullCnt := x.fullCnt, exhaustCnt := x.exhaustCnt
      ce0 := x.ce0, ce1 := x.ce1, uc0 := x.uc0, uc1 := x.uc1, fill := x.fill, entries := x.entries, sweep0 := x.sweep0, sweep1 := x.sweep1 }
  | _ => Ledger.reset

/-- A hub after a reset: the void map lies in the devices, the roster generation in the signatures (R199, R334). -/
def Hub.afterReset (x : Hub) (g : Fin 8) (k : ResetKind) : Hub :=
  let z := { Hub.reset g with voids := x.voids, mapLost := x.mapLost, mapDone := x.mapDone, rosterGen := x.rosterGen }
  match k with
  | .warm => { z with
      retained := x.retained, voidQ := x.voidQ, stale := x.stale, staleLost := x.staleLost, jpeak := x.jpeak, jseq := x.jseq, degArmed := x.degArmed
      rtCnt := x.rtCnt, rcvCnt := x.rcvCnt, cwfixCnt := x.cwfixCnt, poisonCnt := x.poisonCnt, fullCnt := x.fullCnt, partCnt := x.partCnt
      xorCnt := x.xorCnt, jwaitCnt := x.jwaitCnt }
  | _ => z

/-- The fabric after a reset: the ARB counts clear at cold and warm reset, the FAB counters and the fence bits at cold reset (R156 to
R158). ARB_PREEMPT_CNT goes on over a warm reset (DESIGN CHOICE, assumption 68). -/
def Fabric.afterReset (x : Fabric) (k : ResetKind) : Fabric :=
  match k with
  | .warm => { Fabric.reset with
      fence := x.fence, lateCnt := x.lateCnt, holdCnt := x.holdCnt, cancelCnt := x.cancelCnt, lateArmed := x.lateArmed, preemptCnt := x.preemptCnt }
  | _ => Fabric.reset

/-- Regulation after a reset (R177). -/
def Shares.afterReset (x : Shares) (k : ResetKind) : Shares :=
  match k with
  | .warm => { Shares.reset with
      ovcCnt := x.ovcCnt, missCnt := x.missCnt
      classes := Vector.ofFn fun (c : Fin 8) => { ClassSt.reset with maxNs := (x.classes[c]).maxNs } }
  | _ => Shares.reset

/-- Members and relayouts stand until a restore sets them; the counters survive a warm reset (R272, R285). -/
def Spares.afterReset (x : Spares) (k : ResetKind) : Spares :=
  let z := { Spares.reset with members := x.members, rly := x.rly, queue := x.queue, requests := x.requests, order := x.order }
  match k with
  | .cold => Spares.reset
  | .retention => z
  | .warm => { z with
      loss := x.loss, dropped := x.dropped, patCyc := x.patCyc, failCnt := x.failCnt, doneCnt := x.doneCnt, pfixCnt := x.pfixCnt
      lostWrCnt := x.lostWrCnt }

/-- The power manager after a reset: monitors go on measuring over a warm reset, and a request on PWR_REQ goes on waiting (R306, R322). -/
def Power.afterReset (x : Power) (k : ResetKind) : Power :=
  match k with
  | .warm => { Power.reset with
      coreOn := true, sleepCnt := x.sleepCnt, refuseCnt := x.refuseCnt, coreMv := x.coreMv, sliceMv := x.sliceMv, pllOk := x.pllOk
      paceMhz := x.paceMhz, coreTemp := x.coreTemp, wakeSrc := x.wakeSrc, result := x.result, target := x.target, refuser := x.refuser, reason := x.reason
      reqWaits := x.reqWaits }
  | .retention => { Power.reset with phase := .squall }
  | .cold => Power.reset

/-- The error log at the start of a bring-up (R430), with what a warm reset leaves (R438). -/
def ErrLog.afterReset (x : ErrLog) (k : ResetKind) : ErrLog :=
  match k with
  | .warm => { ErrLog.reset with
      first := x.first, ceCnt := x.ceCnt, rcvCnt := x.rcvCnt, ucCnt := x.ucCnt, fatalCnt := x.fatalCnt, ovfCnt := x.ovfCnt, keepCnt := x.keepCnt }
  | _ => ErrLog.reset

/-- Telemetry after a reset (R455, R458). -/
def Telemetry.afterReset (x : Telemetry) (k : ResetKind) : Telemetry :=
  match k with
  | .warm => { Telemetry.reset with sys := x.sys, sysOvf := x.sysOvf, sampCnt := x.sampCnt, dropCnt := x.dropCnt, gapCnt := x.gapCnt }
  | _ => Telemetry.reset

/-- Security after a reset: the row is permanent; slots and regions come back with a restore only (R470). -/
def Security.afterReset (x : Security) (k : ResetKind) : Security :=
  let z := { Security.reset with words := x.words, spares := x.spares }
  match k with
  | .warm => { z with
      otpResult := x.otpResult, features := x.features, otpCe := x.otpCe, otpUc := x.otpUc, otpRe := x.otpRe, image := x.image
      keepRoot := x.keepRoot, keepKey := x.keepKey, denyCnt := x.denyCnt, denyArmed := x.denyArmed, patchReason := x.patchReason, patchSeen := x.patchSeen }
  | _ => z

/-- A mailbox after a reset: RESULT and RDATA clear at every bring-up but the one DIAG_EXIT begins (R404, R413). -/
def Vane.afterReset (x : Vane) (k : ResetKind) : Vane :=
  match k with
  | .warm =>
    if x.keepRes then { Vane.reset with
      doneBit := x.doneBit, code := x.code, reason := x.reason, seq := x.seq, rdata := x.rdata, cmdCnt := x.cmdCnt, refuseCnt := x.refuseCnt }
    else { Vane.reset with cmdCnt := x.cmdCnt, refuseCnt := x.refuseCnt }
  | _ => Vane.reset

/-- The debug port after a reset (R408, R413). -/
def Debug.afterReset (x : Debug) (k : ResetKind) : Debug :=
  match k with
  | .warm => { Debug.reset with touched := x.touched, capArmed := x.capArmed, captured := x.captured, capData := x.capData, capTime := x.capTime }
  | _ => Debug.reset

/-- The Breeze receive buffer and BRZ_TX_STATUS cleared, as at every bring-up (R363). -/
def Breeze.clear (x : Breeze) : Breeze :=
  { x with rxValid := false, rxOver := false, rxSrc := 0, rxCmd := 0, rxLen := 0, rxData := [], txHost := none, txResult := 0 }

/-- The whole core after a reset. The always-on domain, the pins, the devices and the Keep copies are outside it. A port whose reset pin is
low comes out of it with RST_ACTIVE set, RST_DONE clear and EPOCH as reset (DESIGN CHOICE, assumption 66). -/
def State.coreReset (s : State) (k : ResetKind) : State :=
  { s with
    regs := s.regs.afterReset k
    ports := s.ports.map fun x => { Port.reset with pinLow := x.pinLow, rstActive := x.pinLow, rstDone := !x.pinLow }
    reqs := []
    ingest := s.ingest.map fun x => x.afterReset k
    ledger := s.ledger.afterReset k
    hubs := Vector.ofFn fun (g : Fin 8) => s.hubs[g].afterReset g k
    fab := s.fab.afterReset k
    shr := s.shr.afterReset k
    slices := s.slices.map fun x => x.afterReset k
    spr := s.spr.afterReset k
    pwr := s.pwr.afterReset k
    err := s.err.afterReset k
    tel := s.tel.afterReset k
    sec := s.sec.afterReset k
    vanes := s.vanes.map fun x => x.afterReset k
    dbg := s.dbg.afterReset k
    brz := s.brz.clear
    test := if k = .retention then TestAccess.reset else s.test }

/-! ### What resets and HOLD-UP end -/

/-- The sequence lock freed and its staged writes discarded (R398). -/
def State.freeLock (s : State) : State :=
  ({ s with regs := { s.regs with seq := SeqLock.reset } }).raiseIf (!s.regs.seq.staged.isEmpty) pageGlb 3

/-- A mailbox command ends: return words, then CODE and REASON, SEQ, DONE and MBOX in one step (R404). A return word that the command
table does not name is a free value. -/
def State.mboxEnd (s : State) (v : Fin 24) (code : BitVec 4) (reason : BitVec 8) (words : List Reg) : State :=
  let rdata : Vector Reg 4 := Vector.ofFn fun i => (words[i.val]?).getD (Config.freeValue 32 (s.free + i.val))
  let s := { s with free := s.free + 4 }
  (s.modVane v fun x => { x with
    busy := false, doneBit := true, code := code, reason := reason, seq := x.seq + 1, rdata := rdata, abortReq := false
    refuseCnt := if code = 0 then x.refuseCnt else satInc x.refuseCnt }).raise pageGlb 2

/-- Every mailbox command in progress ends with ABORTED, except a DIAG_ENTER whose Squall has begun (R404). -/
def State.mboxStop (s : State) : State :=
  let diag := s.squall.active && s.squall.cause == 4
  (List.finRange 24).foldl (fun (s : State) (v : Fin 24) => if s.vanes[v].busy && !(diag && v.val == 23) then s.mboxEnd v 4 0 [] else s) s

/-- Whether a request is not admitted yet: a group operation once forwarded is (R325). -/
def Req.notAdmitted (r : Req) : Bool :=
  r.phase == .awaitData || r.phase == .held || r.phase == .waiting || (r.phase == .ledger && decide (r.op.toNat < 4))

/-- A debug operation in progress ends with ABORTED: any at a reset in DIAGNOSTIC, one not yet admitted at HOLD-UP entry (R408,
R410). -/
def State.dbgStop (s : State) (any : Bool) : State :=
  let mine (r : Req) : Bool := r.src == srcDebug
  if s.dbg.busy && (any || s.reqs.any fun r => mine r && r.notAdmitted) then
    ({ s with dbg := { s.dbg with busy := false, direct := false, code := rspAborted }, reqs := s.reqs.filter fun r => !mine r }).raise pageDbg 0
  else s

/-- What ends at once at HOLD-UP entry and at a warm reset besides traffic (R398, R404, R464, R472). -/
def State.endCommands (s : State) : State := (s.freeLock.mboxStop.patchInterrupt).otpInterrupt

end Sys2Proof.Machine
end

