-- ==== Sys2Proof/Machine/SquallOps.lean ====
section
/-!
DEFINITION. HOLD-UP entry and the start of a warm-reset Squall: what stops, what is ended, and what the Squall has still to do
(R120, R138, R312, R323 to R325, R335).
-/
namespace Sys2Proof.Machine

/-! ### What a Squall begins with -/

/-- The unacknowledged entries of the error log, oldest first: they open the Squall error log (R429). -/
def ErrLog.unackEntries (e : ErrLog) : List LogEntry := e.unackSlots.filterMap fun k => e.ring[k]?.getD none

/-- The residency counters summed, in µs, with what CLR_RES took away (R320, R444). -/
def AlwaysOn.residency (x : AlwaysOn) : Nat := x.res.toList.foldl (fun n v => n + v.toNat) 0 + x.resLife

/-- Slices that the Squall brings into self-refresh. In BRING-UP only those that have completed training (R29, R335). -/
def State.squallTodo (s : State) : BitVec 80 :=
  maskOf 80 fun c => match s.slices[c]? with
    | some x => (x.power == .active || x.power == .powerDown) && (s.mode.mode != .bringUp || x.train.st == 4)
    | none => false

/-- Slices asleep in S2, which power on to write their masks, and those of the copy groups to be written to (R335). -/
def State.sleepers (s : State) : BitVec 80 :=
  maskOf 80 fun c => match s.slices[c]? with
    | some x => x.power == .selfRefresh && s.mode.mode != .bringUp
    | none => false

/-- A PL switch stops where it is: slices that have switched stay at the new PL (R250). -/
def State.stopSwitch (s : State) : State :=
  let s := { s with pwr := { s.pwr with switching := false, steps := false, raising := false, waitFeas := false, vidHold := false } }
  s.clearSwitching

/-- A vote ends with RESULT PREEMPTED, without rollback (R312). -/
def State.preemptVote (s : State) : State :=
  if s.pwr.phase = .prepare1 ∨ s.pwr.phase = .prepare2 ∨ s.pwr.phase = .rollback then
    { s with pwr := { s.pwr with result := 4, asked := 0, agreed := 0, asker := .none } }
  else s

/-- The Squall's record. What Breeze shows of a token and of peers goes on: a HOLD-UP entry starts it anew (R357, R361). -/
def State.beginSquall (s : State) (cause : BitVec 8) (save : Bool) : State :=
  let pl := if s.pwr.switching then BitVec.ofNat 2 (max s.pwr.pl.toNat s.pwr.plGoal.toNat) else s.pwr.pl
  { s with
    squall := { Squall.reset with
      active := true, cause := cause, save := save, saveTime := s.tb, pl := pl
      log := s.err.unackEntries, token := s.squall.token, doneSent := s.squall.doneSent, tokenSeen := s.squall.tokenSeen
      peerDone := s.squall.peerDone, heard := s.squall.heard, todo := s.squallTodo, gen := s.squall.gen }
    ao := { s.ao with resSave := s.ao.residency } }

/-- The issue of relayout stripes stops; each relayout's checkpoint is written once its window is empty (R267, R272, R324). -/
def State.stopCopies (s : State) : State :=
  allGroups.foldl (fun (s : State) (g : Fin 8) => (s.dropCopies g).checkpointStopped g) s

/-- The drain Gust of a slice that is about to enter self-refresh, with the flush that is part of it (R211, R221). -/
def State.drainNow (s : State) (c : Fin 80) : State := if s.slices[c].power = .active then (s.orderDrain c true).dropDrain c else s

/-- A drain Gust ordered at every slice in service (R211, R221). -/
def State.drainAll (s : State) : State :=
  allSlices.foldl (fun (s : State) (c : Fin 80) => if s.slices[c].serves then s.orderDrain c true else s) s

/-! ### HOLD-UP (R324, R325) -/

/-- Requests not admitted end: those of a port with ABORTED, others without an answer (R325). What they claimed in the ledger is left
to the freeze, which aborts their groups and rolls their solos back (R120). -/
def State.abortWaiting (s : State) : State :=
  (s.reqs.filter Req.notAdmitted).foldl (fun (s : State) (r : Req) =>
    let s := s.dropInflight r
    if isPortSrc r.src then s.finishReq r.rid rspAborted else s.dropReq r.rid) { s with ledger := { s.ledger with demand := [] } }

/-- The Squall token taken, which is broadcast (R340). -/
def State.takeToken (s : State) : State :=
  { s with squall := { s.squall with token := true }, brz := { s.brz with txToken := true } }

/-- PWR_ACK for S3, once HOLD-UP is entered (R306). -/
def State.ackS3 (s : State) : State :=
  if s.pins.pwrReq && s.pins.pwrReqState == 3 then { s with pins := { s.pins with pwrAck := true } } else s

/-- HOLD-UP entered, in one step (R324). MEM_RST_N is released (R231). -/
def State.enterHoldUp (s : State) (cause : BitVec 8) : State :=
  let asleep := s.pwr.phase == .asleep || s.pwr.phase == .entering || s.pwr.phase == .waking || (s.squall.active && s.squall.cause == 3)
  let s := (s.endCommands.dbgStop false).beginSquall cause s.inService
  let s := s.preemptVote.stopSwitch
  let s := (List.finRange 8).foldl (fun (s : State) (n : Fin 8) => s.ingHoldUp n) s
  let s := s.abortWaiting.freezeLedger
  let s := s.brzHoldUp
  let s := { s with
    squall := { s.squall with
      todo := if asleep then s.squall.todo ||| s.sleepers else s.squall.todo, token := false, doneSent := false, tokenSeen := 0, peerDone := 0 }
    fab := { s.fab with wrst := false }, mode := { s.mode with memRstLow := false, refWait := false }, ao := { s.ao with lpMode := false } }
  let s := allSlices.foldl (fun (s : State) (c : Fin 80) => if s.slices[c].power = .powerDown then s.modSlice c fun x => { x with power := .active } else s) s
  let s := { s with pwr := { s.pwr with phase := .squall, after := none, reqWaits := false, warmNext := false, wakeSoon := 0 } }
  let s := (s.setMode .holdUp).stopCopies
  let s := if s.brzPeers == (1#8 <<< s.brz.addr.toNat) then s.takeToken else s
  s.ackS3

/-! ### Warm reset (R138, R139, R489) -/

/-- A warm-reset Squall starts in RUN or DEGRADED (R138): the slices drain, the relayouts stop at their windows (R211, R267). -/
def State.startWarm (s : State) : State :=
  let s := (s.beginSquall 3 true).stopSwitch
  let s := { s with fab := { s.fab with wrst := true } }
  let s := (List.finRange 8).foldl (fun (s : State) (n : Fin 8) => s.ingOff n) s
  (s.drainAll.stopCopies.endCommands).warmFreeze

/-- Slices in service go into full-array self-refresh, keeping their contents. -/
def State.parkSlices (s : State) : State :=
  allSlices.foldl (fun (s : State) (c : Fin 80) =>
    let x := s.slices[c]
    if (x.power = .active ∨ x.power = .powerDown) ∧ (x.train.st = 4 ∨ s.mode.mode ≠ .bringUp) then (s.drainNow c).modSlice c fun x => { x with power := .selfRefresh } else s) s

/-- A bring-up starts (R401): its record, the VID codes of R288 and PWR_PL (R477). -/
def State.beginBringup (s : State) (k : BuKind) : State :=
  let s := s.setMode .bringUp
  let m := s.mode
  let s := { s with mode := { m with
    buKind := k, stuck := false, cause := 0, buSlice := 0x7F, keepSrc := 0, shortGrp := 0, step := 1, ucodeOk := false
    retained := false, memRstLow := false, refWait := false, served := false, warmed := false } }
  { s with pins := { s.pins with coreVid := 0x23, sliceVid := 0x23, pwrPl := 0 }, squall := { s.squall with active := false, token := false } }

/-- The slices that a bring-up has to do with: those of populated groups, and the spares. -/
def State.wanted (s : State) (c : Fin 80) : Bool := decide (c.val < 9 * s.groups) || decide (72 ≤ c.val)

/-- The domains of those slices on. -/
def State.powerSlices (s : State) : State :=
  allSlices.foldl (fun (s : State) (c : Fin 80) => if s.slices[c].on == s.wanted c then s else s.modSlice c fun x => { x with on := s.wanted c }) s

/-- The Breeze register copies at their reset values (R362); the address strap is sampled again at the next bring-up. -/
def Breeze.resetCopies (x : Breeze) : Breeze :=
  { x with cfg := Breeze.reset.cfg, peers := Breeze.reset.peers, conc := Breeze.reset.conc, tokenWait := Breeze.reset.tokenWait }

/-- The sleep sequencer in a bring-up: a resume is still in SQUALL (R311). -/
def BuKind.phase (k : BuKind) : SleepPhase := if k = .resume then .squall else .awake

/-- The snapshot SRAM of a slice after a loss of the always-on domain. -/
def Train.loseSnaps (x : Train) : Train := { x with snapValid := 0, snaps := Train.reset.snaps }

/-- The always-on domain initialised when its contents are invalid: AO_LOST, AO_VALID, the address strap (R293, R491). -/
def State.initAo (s : State) : State :=
  if s.pins.aoValid then { s with ao := { s.ao with lost := false } }
  else
    let s := { s with
      ao := { AlwaysOn.reset with lost := true, vbkLow := s.ao.vbkLow, onVbk := s.ao.onVbk }
      pins := { s.pins with aoValid := true }
      brz := { s.brz.resetCopies with addr := Config.brzAddrStrap }
      tb := 0 }
    allSlices.foldl (fun (s : State) (c : Fin 80) => s.modTrain c Train.loseSnaps) s

/-- A warm bring-up begins: the core is reset and BOOT values are taken from their shadows, GLB_MAP first (R239, R385, R403).
With the always-on contents lost it runs as a cold bring-up (R293). -/
def State.warmBringup (s : State) (k : BuKind) : State :=
  let s := ((s.parkSlices.coreReset .warm).beginBringup (if s.pins.aoValid then k else .cold)).initAo
  let s := (s.applyPoint pageGlb .boot).powerSlices
  { s with mode := { s.mode with step := 2, warmed := true }, pwr := { s.pwr with phase := s.mode.buKind.phase } }

end Sys2Proof.Machine
end

