-- ==== Sys2Proof/Machine/PowerOps.lean ====
section
/-!
DEFINITION. Sleep: the vote (R305 to R312), entering and leaving S1 and S2 (R313 to R316), the PWR_REQ handshake (R306); the always-on
supply (R291 to R293) and the PWR commands (R320, R322).
-/
namespace Sys2Proof.Machine

/-! ### The vote (R308, R309) -/

/-- The domains of tier 1. -/
def tier1 : BitVec 100 := maskOf 100 fun d => decide (88 ≤ d)

/-- The domains of tier 2: the hubs, and the slices whose domain is on. -/
def State.tier2 (s : State) : BitVec 100 :=
  maskOf 100 fun d => if d < 80 then (s.slices[d]?.map Slice.on).getD false else decide (d < 88)

/-- Port banks with a tag in use. -/
def State.busyBanks (s : State) : BitVec 100 :=
  maskOf 100 fun d => s.reqs.any fun r => decide (r.src.toNat < 16) && d == (if r.src.toNat < 8 then 93 else 94)

/-- Slices whose queue or hold is not empty (R147). -/
def State.busyQueues (s : State) : BitVec 100 :=
  maskOf 100 fun d => (s.slices[d]?.map fun x => !x.sched.ops.isEmpty).getD false || s.hubs.toList.any fun h => h.parked.any fun o => o.1.val == d

/-- A vote starts: PREPARE to tier 1. -/
def State.startVote (s : State) (target : BitVec 2) (asker : Asker) : State :=
  { s with pwr := { s.pwr with
    phase := .prepare1, target := target, asker := asker, asked := tier1, agreed := 0, busyAt := s.busyBanks, vetoBy := 0x7F, vetoWhy := 0 } }

/-- Whether a relayout runs, or is queued and not suspended (R273). -/
def State.relayoutBusy (s : State) : Bool :=
  (s.spr.rly.toList.any fun r => match r with | some x => !x.suspended | none => false) || s.spr.queue.any fun q => !q.2.suspended

/-- Whether a PL switch, a full retrain or a margin scan is in progress (R251). -/
def State.trainingBusy (s : State) : Bool :=
  s.pwr.switching || s.slices.toList.any fun x => x.train.st == 5 || x.train.scanBusy

/-- Whether a group is OPEN or COMMITTING (R124). -/
def State.groupsOpen (s : State) : Bool := s.ledger.groups.any fun g => g.2.st == .open_ || g.2.st == .committing

/-- Whether an ingest port of a range has EN = 1 (R91). -/
def State.ingestEn (s : State) (from_ : Nat) : Bool := (s.ingest.toList.drop from_).take 4 |>.any fun x => x.enWanted

/-- VB's reason, the first of MODE, CFG_PARITY and RELAYOUT (R309, R310). -/
def State.vbReason (s : State) : Option (BitVec 4) :=
  if s.inService = false ∨ s.pwr.target = 0 ∨ s.entersDiag = true then some 0xB
  else if s.parity pageSpr || s.parity pagePwr || s.parity pageGlb then some 0xC
  else if s.relayoutBusy then some 6
  else none

/-- Why a domain refuses, if it does (R309). -/
def State.refusal (s : State) (d : Nat) : Option (BitVec 4) :=
  let why (b : Bool) (r : BitVec 4) : Option (BitVec 4) := if b then some r else none
  if d < 80 then why (s.pwr.busyAt.getLsbD d) 1
  else if d < 88 then why ((s.hubs[d - 80]?.map fun h => !h.journal.isEmpty || !h.parked.isEmpty).getD false) 1
  else if d = 88 then why (s.hubs.toList.any fun h => !h.old.isEmpty) 7
  else if d = 89 then why (s.pwr.target == 3 && s.groupsOpen) 4
  else if d = 91 then why s.trainingBusy 5
  else if d = 92 then s.vbReason
  else if d = 93 ∨ d = 94 then why (s.pwr.busyAt.getLsbD d) 1
  else if d = 95 then why (s.ingestEn 0) 3
  else if d = 96 then why (s.ingestEn 4) 3
  else if d = 98 then why (s.sec.otpBusy || s.sec.loading) 8
  else if d = 99 then why (s.pwr.target == 3 && s.ao.vbkLow) 9
  else none

/-- PREPARE to tier 2, once tier 1 has agreed and no level 0 operation is outstanding at a hub. -/
def State.votePromote (s : State) : State :=
  if s.pwr.phase = .prepare1 ∧ s.pwr.asked = 0 ∧ (s.hubs.toList.all fun h => h.jobs.all fun j => j.level != 0) then
    { s with pwr := { s.pwr with phase := .prepare2, asked := s.tier2, busyAt := s.busyQueues } }
  else s

/-- COMMIT, with the last AGREE: S1 or S2 is entered, the slices draining for S2 (R314), or Squall begins for S3. A sleep state ends every
guarantee of latency (R167). -/
def State.voteCommit (s : State) : State :=
  if s.pwr.phase = .prepare2 ∧ s.pwr.asked = 0 then
    if s.pwr.target = 3 then ({ s with pwr := { s.pwr with phase := .squall, result := 1 } }).enterHoldUp 2
    else
      let s := ({ s with pwr := { s.pwr with phase := .entering, asleep := s.pwr.target, wakeSoon := 0 } }).voidGuarantees fun _ => true
      if s.pwr.asleep = 2 then s.drainAll else s
  else s

/-- A domain answers its PREPARE, or has not answered in time. The ledger's sweep pauses as domain 89 agrees (R116). -/
def State.answerVote (s : State) (d : Fin 100) (timeout : Bool) : State :=
  let s := s.votePromote
  if (s.pwr.phase = .prepare1 ∨ s.pwr.phase = .prepare2) ∧ s.pwr.asked.getLsbD d.val = true then
    if timeout then s.voteRefuse d.val 0xA
    else match s.refusal d.val with
      | some r => s.voteRefuse d.val r
      | none =>
        let s := { s with pwr := { s.pwr with asked := s.pwr.asked &&& ~~~(1#100 <<< d.val), agreed := s.pwr.agreed ||| (1#100 <<< d.val) } }
        let s := if d.val = 89 then { s with ledger := { s.ledger with paused := true } } else s
        s.votePromote.voteCommit
  else s

/-! ### Rollback (R310) and what follows a vote or a wake -/

/-- Held operations of every hub go to their slices. -/
def State.releaseAll (s : State) : State := allGroups.foldl (fun (s : State) (g : Fin 8) => s.releaseHeld g) s

/-- The vote that waited for the vote or wake that has ended (R305, R306), or the warm reset (R312). -/
def State.afterSleep (s : State) : State :=
  if s.pwr.warmNext then ({ s with pwr := { s.pwr with warmNext := false, after := none } }).startWarm
  else match s.pwr.after with
    | some (t, a) => ({ s with pwr := { s.pwr with after := none } }).startVote t a
    | none =>
      if s.pwr.reqWaits && s.pins.pwrReq then ({ s with pwr := { s.pwr with reqWaits := false } }).startVote s.pins.pwrReqState .pwrReq
      else s

/-- PWR_ACK and PWR_NACK driven. -/
def State.setAck (s : State) (ack nack : Bool) : State := { s with pins := { s.pins with pwrAck := ack, pwrNack := nack } }

/-- What a refused vote leaves, by whom and why (R310); a doze vote raises nothing (R307). -/
def State.noteRefusal (s : State) (asker : Asker) (refuser : BitVec 7) (why : BitVec 4) : State :=
  let s := { s with pwr := { s.pwr with result := 2, refuser := refuser, reason := why, refuseCnt := satInc s.pwr.refuseCnt } }
  let s := s.raiseIf (asker != .doze) pagePwr 1
  if asker == .pwrReq && s.pins.pwrReq then s.setAck true true else s

/-- Lulls requested during a vote are taken up (R308, R310). -/
def State.resumeLulls (s : State) : State :=
  allSlices.foldl (fun (s : State) (c : Fin 80) => if s.slices[c].train.lullReq then s.requestLull c else s) s

/-- Every domain is back in service (R310). -/
def State.rollbackDone (s : State) : State :=
  if s.pwr.phase = .rollback then
    let t := ({ s with
      pwr := { s.pwr with phase := .awake, asked := 0, agreed := 0, asker := .none }
      ledger := { s.ledger with paused := false } }).releaseAll.resumeLulls
    if s.pwr.vetoBy = 0x7F then ({ t with pwr := { t.pwr with result := 4 } }).afterSleep
    else (t.noteRefusal s.pwr.asker s.pwr.vetoBy s.pwr.vetoWhy).afterSleep
  else s

/-! ### Requests for sleep (R305 to R307) -/

/-- PWR_DOORBELL.RING (R305). From COMMIT on, the state being entered is the state in force. -/
def State.doorbell (s : State) : State :=
  let t := BitVec.ofNat 2 (s.cfgField pagePwr 0x044 1 0)
  let result (r : BitVec 3) : State := { s with pwr := { s.pwr with result := r } }
  match s.pwr.phase with
  | .awake => if t = 0 then result 5 else s.startVote t .doorbell
  | .asleep | .entering =>
    if t = s.pwr.asleep then result 5
    else if t = 0 then s.wakeBy 2
    else ({ s with pwr := { s.pwr with after := some (t, .doorbell) } }).wakeBy 2
  | _ => result 3

/-- A PWR_REQ for state 0 in S1 or S2 is answered by NACK with reason MODE (R306). -/
def State.refuseAwake (s : State) : State := ({ s with pwr := { s.pwr with result := 2, refuser := 92, reason := 0xB } }).setAck true true

/-- PWR_REQ rises (R306). -/
def State.pwrReqUp (s : State) (st : BitVec 2) : State :=
  if s.pins.pwrReq then s
  else
    let s := { s with pins := { s.pins with pwrReq := true, pwrReqState := st } }
    match s.pwr.phase with
    | .awake => if s.pwr.coreOn then s.startVote st .pwrReq else { s with pwr := { s.pwr with reqWaits := true } }
    | .asleep =>
      if st = s.pwr.asleep then s.setAck true false
      else if st = 0 then s.refuseAwake
      else ({ s with pwr := { s.pwr with after := some (st, .pwrReq) } }).wakeBy 3
    | _ => { s with pwr := { s.pwr with reqWaits := true } }

/-- PWR_REQ falls: ACK and NACK fall at once, or the block wakes and lowers ACK when it is back in service (R306). -/
def State.pwrReqDown (s : State) : State :=
  if s.pins.pwrReq = false then s
  else
    let s := { s with pins := { s.pins with pwrReq := false }, pwr := { s.pwr with reqWaits := false } }
    if (s.pwr.phase = .asleep ∨ s.pwr.phase = .entering) ∧ s.pins.pwrAck = true ∧ s.pins.pwrNack = false then s.wakeBy 3
    else s.setAck false false

/-- The automatic S1 vote (R307). -/
def State.doze (s : State) : State :=
  if s.cfgField pagePwr 0x040 31 24 ≠ 0 ∧ s.inService = true ∧ s.pwr.phase = .awake ∧ s.busyBanks = 0 ∧ s.squall.active = false then s.startVote 1 .doze else s

/-! ### Entering and leaving S1 and S2 (R313 to R316) -/

/-- No slice has work in its queues or its retry buffer. -/
def State.slicesQuiet (s : State) : Bool := s.slices.toList.all fun x => x.sched.ops.isEmpty && x.sched.retry.isEmpty

/-- A slice goes into power-down (R313). -/
def State.dozeSlice (s : State) (c : Fin 80) : State :=
  if s.slices[c].power = .active then s.modSlice c fun x => { x with power := .powerDown } else s

/-- A slice writes back its check lines, enters self-refresh and switches its logic off (R295, R296, R314). A FAILED slice does so too; with
no exit index its devices stay in it (R316). -/
def State.napSlice (s : State) (c : Fin 80) : State :=
  let s := if s.slices[c].power = .active then (s.drainNow c).modSlice c fun x => { x with power := .selfRefresh } else s
  (s.modSlice c fun x => { x with on := false }).modSched c fun x => { x with rows := [] }

/-- Every stall timeline stops (R218). -/
def State.stopLines (s : State) : State :=
  allGroups.foldl (fun (s : State) (g : Fin 8) => s.modLine g fun l => { l with running := false, token := none }) s

/-- The entry into S1 or S2 is complete (R311, R314); a request that waited for it is answered, or wakes the block (R306). -/
def State.entryDone (s : State) : State :=
  if s.pwr.phase ≠ .entering ∨ s.slicesQuiet = false then s
  else
    let s := if s.pwr.asleep = 1 then allSlices.foldl (fun (s : State) (c : Fin 80) => s.dozeSlice c) s
      else (allSlices.foldl (fun (s : State) (c : Fin 80) => s.napSlice c) s).stopLines
    let soon := s.pwr.wakeSoon
    let asker := s.pwr.asker
    let s := { s with pwr := { s.pwr with phase := .asleep, result := 1, asker := .none, asked := 0, agreed := 0, wakeSoon := 0, sleepCnt := satInc s.pwr.sleepCnt } }
    let s := s.raise pagePwr 0
    let s := if (asker = .pwrReq ∨ s.pwr.reqWaits = true ∧ s.pins.pwrReqState = s.pwr.asleep) ∧ s.pins.pwrReq = true then
        ({ s with pwr := { s.pwr with reqWaits := false } }).setAck true false
      else s
    let s := if s.pwr.reqWaits ∧ s.pins.pwrReq = true ∧ s.pins.pwrReqState = 0 then ({ s with pwr := { s.pwr with reqWaits := false } }).refuseAwake else s
    let soon := if s.pwr.reqWaits && soon == 0 then 3 else soon
    if soon = 0 then s else s.wakeBy soon

/-- Slice domains on again, except those that are UNUSED or UNAVAILABLE; devices leave power-down (R313, R316). -/
def State.wakeSlices (s : State) : State :=
  allSlices.foldl (fun (s : State) (c : Fin 80) =>
    if s.role c = roleUnused ∨ s.role c = roleUnavailable then s
    else s.modSlice c fun x => { x with on := true, power := if x.power = .powerDown then .active else x.power }) s

/-- Whether every slice that serves a member is in service again: out of power-down, or in S2 its verification Lull complete (R313, R316). -/
def State.membersAwake (s : State) : Bool :=
  allSlices.all fun c => !s.servesMember c || (s.slices[c].on && s.slices[c].power == .active && (s.pwr.asleep == 1 || !s.slices[c].train.lullReq))

/-- The wake is complete: service, WAKE raised, WAKE_OUT low (R311, R316, R435). -/
def State.wakeDone (s : State) : State :=
  if s.pwr.phase ≠ .waking ∨ s.membersAwake = false then s
  else
    let s := { s with
      pwr := { s.pwr with phase := .awake, asleep := 0 }
      pins := { s.pins with wakeOut := false, pwrAck := s.pins.pwrAck && s.pins.pwrReq, pwrNack := s.pins.pwrNack && s.pins.pwrReq }
      ledger := { s.ledger with paused := false } }
    (s.raise pagePwr 2).releaseAll.afterSleep

/-! ### The always-on supply (R290 to R293) -/

/-- The edge pins of WAKE_OUT and AO_VALID, which are driven from VMAIN_AO and read low on VBK; the system bumps carry the level itself
(R478). -/
def State.edgeWakeOut (s : State) : Bool := s.pins.wakeOut && !s.ao.onVbk
def State.edgeAoValid (s : State) : Bool := s.pins.aoValid && !s.ao.onVbk

/-- The always-on domain moves to VBK (R291). -/
def State.toVbk (s : State) : State :=
  if s.ao.onVbk then s
  else ({ s with ao := { s.ao with onVbk := true, swover := satInc s.ao.swover } }).raiseIf s.pwr.coreOn pagePwr 5

/-- The always-on domain returns to VMAIN_AO; not in RETENTION, where the regulator stays in LP mode, until a resume has begun (R291,
R292). -/
def State.fromVbk (s : State) : State := if s.ao.lpMode && !s.mode.refWait then s else { s with ao := { s.ao with onVbk := false } }

/-- VBK crosses 1.6 V (R293). -/
def State.setVbkLow (s : State) (low : Bool) : State :=
  ({ s with ao := { s.ao with vbkLow := low } }).raiseIf (low && !s.ao.vbkLow && s.pwr.coreOn) pagePwr 6

/-- The Breeze counters and DUP_ADDR cleared, as by a cold reset and by a brown-out (R362, R363). -/
def Breeze.clearCounts (x : Breeze) : Breeze :=
  { x with dupAddr := false, crcCnt := 0, toCnt := 0, arbCnt := 0, collCnt := 0, dropCnt := 0 }

/-- A Squall stops: its record is gone, and no header has been written by it (R28, R335). -/
def State.stopSquall (s : State) : State :=
  { s with squall := { Squall.reset with gen := s.squall.gen }, fab := { s.fab with wrst := false } }

/-- The core off, waiting for a cold bring-up. -/
def State.coldState (s : State) : State :=
  let s := (s.otpInterrupt.coreReset .cold).beginBringup .cold
  { s.stopSquall with
    mode := { s.mode with coldLow := true, patchBuild := 0, tService := 0 }
    pwr := { s.pwr with coreOn := false }
    tb := 0 }

/-- What the CH page shows of training, after the latches that hold it are lost. -/
def Train.loseLatch (x : Train) : Train :=
  { Train.reset with
    st := x.st, snapValid := x.snapValid, snaps := x.snaps, pl := x.pl, fsp := x.fsp, leccCap := x.leccCap, lecc := x.lecc, dbi := x.dbi, tempNow := x.tempNow }

/-- And of health. -/
def Health.loseLatch (x : Health) : Health :=
  { Health.reset with role := x.role, tested := x.tested, retrained := x.retrained, grp := x.grp, mem := x.mem, inService := x.inService }

/-- What a slice whose logic is off in S2 keeps in retention latches on the always-on rail: registers, headers, counters, status, held
writes. Its role, its place, its training state and what its devices hold lie elsewhere (R292, R296; assumption 78). -/
def State.loseLatch (s : State) (c : Fin 80) : State :=
  let keep (k : Nat) : Bool := k / 1024 != pageCh c
  let r := s.regs
  { s with regs := { r with
      applied := r.applied.filter fun x => keep x.1, shadows := r.shadows.filter fun x => keep x.1, lowHeld := r.lowHeld.filter fun x => keep x.1
      headers := r.headers.filter fun x => x.1 != pageCh c, napHeld := r.napHeld.filter fun a => pageOf a.addr != pageCh c } }.modSlice c fun x =>
    { x with
      sched := Sched.reset, train := x.train.loseLatch, health := x.health.loseLatch, bank := SliceBank.reset, snapBank := SliceBank.reset
      cnt := Vector.replicate 8 0, tcnt := Vector.replicate 6 0 }

/-- The retention latches lost: of every slice whose logic is off in S2. -/
def State.loseLatches (s : State) : State :=
  if s.pwr.asleep ≠ 2 then s
  else allSlices.foldl (fun (s : State) (c : Fin 80) =>
    if s.slices[c].on = false ∧ s.role c ≠ roleUnused ∧ s.role c ≠ roleUnavailable then s.loseLatch c else s) s

/-- A brown-out of the always-on domain: its contents are cleared, AO_VALID falls; a Squall in progress stops as at a cold reset
(R292, R293, R335). -/
def State.brownOut (s : State) : State :=
  let low := s.ao.vbkLow
  let s := { s with
    ao := { AlwaysOn.reset with vbkLow := low, lost := s.ao.lost }
    pins := { s.pins with aoValid := false }
    squall := { s.squall with token := false, doneSent := false, tokenSeen := 0, peerDone := 0, heard := 0 }
    brz := { s.brz.resetCopies.clearCounts with
      wires := Breeze.reset.wires, pulls := Breeze.reset.pulls, sent := [], busy := false, joined := false, stuck := false, txDone := false
      txToken := false, replies := [], txHint := none, retries := Vector.replicate 5 0 } }
  let s := (allSlices.foldl (fun (s : State) (c : Fin 80) => s.modTrain c Train.loseSnaps) s).loseLatches
  if s.mode.mode = .holdUp then s.coldState else s

/-! ### PWR commands -/

/-- CLR_RES: the residency counters and PWR_SWOVER_CNT; the timebase at a restore still counts what they held (R320, R444). -/
def State.clearRes (s : State) : State :=
  { s with ao := { s.ao with res := Vector.replicate 7 0, resNs := 0, frac := 0, resLife := s.ao.residency, swover := 0 } }

/-- CLR_COUNTERS (R322). -/
def State.clearPwr (s : State) : State := { s with pwr := { s.pwr with sleepCnt := 0, refuseCnt := 0 } }

/-- CLR_VOFS (R303). -/
def State.clearVofs (s : State) : State :=
  { s with pwr := { s.pwr with vofs := 0 }, pins := { s.pins with coreVid := s.pins.coreVid - s.pwr.vofs.setWidth 6 } }

end Sys2Proof.Machine
end

