-- ==== Sys2Proof/Machine/KeepOps.lean ====
section
/-!
DEFINITION. The Keep copies (R197, R278, R331 to R334): what a save writes, the header and its CRCs, the device signatures, whether a
copy can be read again, and the rewriting of an impaired copy.
-/
namespace Sys2Proof.Machine

/-! ### What a save holds -/

/-- The bits of a register that the register record holds: LK bits, and every bit of a BOOT register or of an encryption region
(R331, R470). -/
def recordMask (page : Nat) (r : RegSpec) : Reg :=
  if r.ap == .boot || (page == pageSec && decide (0x100 ≤ r.ofs)) then r.rw else r.lk

/-- Registers of a page that the record holds. -/
def recordSpecs (page : Nat) : List (Nat × Reg) :=
  match pageKind page with
  | some (k, n) => ((kindSpecs k n).map fun r => (r.ofs, recordMask page r)).filter fun x => x.2 != 0
  | none => []

/-- The register record (R331). The Breeze copies are read where they lie (R362). -/
def State.regRecord (s : State) : List (Nat × Reg) :=
  allPages.flatMap fun p => (recordSpecs p).map fun x => (regKey p x.1, (if p = pageBrz then s.cfg p x.1 else s.stored p x.1) &&& x.2)

/-- The ingest ring record of one port (R90, R331). -/
def State.ringSave (s : State) (n : Fin 8) : RingSave :=
  { base := BitVec.ofNat 64 (s.ringBase n), size := s.stored (pageIng n) 0x058, wrap := s.ingWrap n
    keep := if s.ringDesignated n then some s.ingest[n] else none }

/-- The sections of a save (R331). -/
def State.keepSections (s : State) : KeepSections :=
  { fill := s.ledger.fill, entries := s.ledger.entries, groups := s.ledger.groups, solos := s.ledger.solos
    journals := s.hubs.map Hub.journal, loss := s.spr.loss, lossDrop := s.spr.dropped
    stale := s.hubs.map fun h => (h.stale, h.staleLost), members := s.spr.members, rly := s.spr.rly, queue := s.spr.queue
    requests := s.spr.requests, ckpt := s.ao.ckpt
    roles := s.slices.map fun x => x.health.role, rings := Vector.ofFn fun (n : Fin 8) => s.ringSave n
    regs := s.regRecord, locked := s.regs.locked
    slots := ((List.finRange 16).filter fun (k : Fin 16) => s.sec.slots[k].st == 2).map fun (k : Fin 16) => (k, s.sec.slots[k].root, s.sec.slots[k].ctx)
    patch := s.sec.image, log := s.squall.log, snaps := s.slices.map fun x => (x.train.snapValid, x.train.snaps) }

/-- SECTION_CRC of each of the eleven sections, in table order; that of a ledger image that is not written is 0 (R331, R332). -/
def sectionCrcs (x : KeepSections) (ledger : Bool) (save : Nat) : List (BitVec 32) :=
  (List.range 11).map fun n => if n = 0 ∧ ledger = false then 0 else crc32 (x.bytes save n)

/-! ### The header (R332) -/

/-- ASCII "UL80KEEP". -/
def keepMagic : List Byte := [0x55, 0x4C, 0x38, 0x30, 0x4B, 0x45, 0x45, 0x50]

/-- GLB_VERSION and GLB_UCODE_ID (R401). -/
def glbVersion : Reg := 0x00020400
def State.ucodeId (s : State) : Reg := fld romBuild 16 ||| s.mode.patchBuild.setWidth 32

/-- INSTANCE_ID as its 16 bytes. -/
def instanceId : List Byte := bytesOf Config.instanceId 16

/-- Bytes 0 to 507 followed by HDR_CRC. -/
def sealHeader (b : List Byte) : List Byte := b ++ bytesOf (crc32 b) 4

/-- FLAGS of the header of a copy. -/
def State.keepFlags (s : State) (complete impaired : Bool) : Reg :=
  flag complete 0 ||| flag (s.ledger.enabled && !s.ledger.tableBad) 2 ||| flag (!s.sec.image.isEmpty) 3 ||| flag impaired 4 ||| flag s.squall.logOvf 5 |||
    flag (s.squall.cause == 3) 6 ||| flag s.regs.locked 7

/-- The header of a copy. -/
def State.keepHeader (s : State) (copy : Nat) (flags : Reg) (crcs : List (BitVec 32)) (open_ : Nat) : List Byte :=
  let b := keepMagic ++ natBytes 0x00010000 4 ++ bytesOf flags 4 ++ bytesOf (s.squall.gen + 1) 8 ++ bytesOf s.squall.saveTime 8 ++ instanceId ++
    bytesOf glbVersion 4 ++ bytesOf s.ucodeId 4 ++ bytesOf (s.stored pageGlb 0x050) 4 ++ bytesOf (s.stored (pageGrp 0) 0x0A0 ||| 0x00800000) 4 ++
    bytesOf (s.stored (pageLdg 0) 0x040) 4 ++ natBytes s.winBase 8 ++ natBytes s.slotBase 8 ++
    [s.squall.cause, s.squall.pl.setWidth 8, BitVec.ofNat 8 copy, BitVec.ofNat 8 s.squall.log.length] ++ crcs.flatMap (fun c => bytesOf c 4) ++
    natBytes open_ 4
  sealHeader (padTo 508 b)

/-- A field of a header, `n` bytes at `ofs`. -/
def hdrField (h : List Byte) (ofs n : Nat) : Nat := imageField h ofs n

/-- A flag of a header. -/
def hdrFlag (h : List Byte) (i : Nat) : Bool := (hdrField h 12 4).testBit i

/-- A header with FLAGS and COPY rewritten, and its CRC with them. -/
def reflag (h : List Byte) (flags copy : Nat) : List Byte :=
  sealHeader (patchBytes (patchBytes (h.take 508) 12 (natBytes flags 4)) 86 [BitVec.ofNat 8 copy])

/-- Whether a header is valid but for the key that decrypts it (R333). -/
def headerValid (h : List Byte) : Bool :=
  h.length == 512 && h.take 8 == keepMagic && hdrField h 8 4 == 0x00010000 && (h.drop 508) == bytesOf (crc32 (h.take 508)) 4 && hdrFlag h 0 &&
    ((h.drop 32).take 16) == instanceId

/-! ### Placement (R197, R278, R328) -/

/-- The group and the members of a system copy. -/
def State.copyPlace (s : State) (b : Bool) : Fin 8 × List (Fin 9) :=
  if s.groups = 1 then (0, if b then [4, 5, 6, 7] else [0, 1, 2, 3])
  else (if b then s.keepGroups.2 else s.keepGroups.1, allMembers)

/-- Members of a copy that cannot be written. -/
def State.copyAway (s : State) (b : Bool) : List (Fin 9) := (s.copyPlace b).2.filter fun m => s.unreachable (s.copyPlace b).1 m

/-- Members that a copy may miss and still be whole. -/
def State.copySpareable (s : State) : Nat := if s.groups = 1 then 0 else 1

/-- Slices that hold part of a system copy. -/
def State.copySlices (s : State) : List (Fin 80) :=
  [false, true].flatMap fun b =>
    let (g, ms) := s.copyPlace b
    (ms.filter fun m => !s.unreachable g m).map fun m => s.hubs[g].table[m].slice

/-- Where a run of stripes of a Keep reserve is laid now, on every slice that a member has for them: of a relayout whose BOUND lies in the
run, on source and destination. -/
def State.layAt (s : State) (g : Fin 8) (ms : List (Fin 9)) (stripe n : Nat) : Laid :=
  { stripe := stripe, line := s.dataLine stripe, check := s.checkLine stripe
    marks := ms.flatMap fun m => ([s.target g m stripe, s.target g m (stripe + n - 1)].filterMap id).eraseDups.map fun c => (m, c, s.slices[c].lost[7]) }

/-! ### The void map (R199) -/

/-- The stripes that a void map takes, in whole check lines. -/
def State.mapStripes (s : State) : Nat := (s.groupStripes / 8 / 4096 / 32 + 1) * 32

/-- The void map of a group written whole. -/
def State.layMap (s : State) (g : Fin 8) : State :=
  let x : MapImage := { voids := s.hubs[g].voids, stripes := s.mapStripes, at_ := s.layAt g allMembers (s.reserveStripe + 32768) s.mapStripes }
  let covers (i : Nat) : Bool := decide (i < x.stripes)
  ((s.clearLaid x.at_ covers).modHub g fun h => { h with mapImage := some x }).wordsLaid g x.at_ covers x.strip

/-- Chunks that are void no more, because the block has written every stripe of them, and the map that says so. -/
def State.fillChunks (s : State) (g : Fin 8) (l : List (Nat × Nat)) : State :=
  let v := l.foldl cutRange s.hubs[g].voids
  if v = s.hubs[g].voids then s else ((s.modHub g fun h => { h with voids := v }).layMap g).noteZeroed g

/-! ### Signatures (R234, R334) -/

/-- The signature written to every die, in self-refresh too. -/
def State.signSlices (s : State) : State :=
  allSlices.foldl (fun (s : State) (c : Fin 80) =>
    if s.slices[c].power = .off then s else s.modSlice c fun x => { x with sig := some (s.signatureOf c) }) s

/-- Slices whose signature names a member. -/
def State.signedFor (s : State) (g : Fin 8) (m : Fin 9) : List (Fin 80) :=
  allSlices.filter fun c => match s.slices[c].sig with
    | some x => x.group.toNat == g.val && x.member.toNat == m.val
    | none => false

/-- Whether every populated member has a slice that carries its signature (R238). -/
def State.allSigned (s : State) : Bool := s.popGroups.all fun g => allMembers.all fun m => !(s.signedFor g m).isEmpty

/-- The highest roster generation that the signatures of a group carry (R338). -/
def State.rosterTop (s : State) (g : Fin 8) : Nat :=
  allSlices.foldl (fun n c => match s.slices[c].sig with
    | some x => if x.group.toNat = g.val ∧ x.member.toNat < 9 then max n x.gen else n
    | none => n) 0

/-- Whether a slice carries the group's highest roster generation. -/
def State.rosterOk (s : State) (g : Fin 8) (c : Fin 80) : Bool :=
  match s.slices[c].sig with
  | some x => x.gen == s.rosterTop g
  | none => false

/-- Where the signatures put a member: a slice that serves it, else a relayout destination. -/
def State.signedSlice (s : State) (g : Fin 8) (m : Fin 9) : Option (Fin 80 × Bool) :=
  let l := s.signedFor g m
  let isDest (c : Fin 80) : Bool := (s.slices[c].sig.map Signature.dest).getD false
  match l.find? fun c => !isDest c && s.rosterOk g c with
  | some c => some (c, false)
  | none => match l.find? fun c => isDest c && s.rosterOk g c with
    | some c => some (c, true)
    | none => l.head?.map fun c => (c, isDest c)

/-! ### The save (R326, R327) -/

/-- Whether an entry of a stripe journal is open. -/
def State.journalsEmpty (s : State) : Bool := s.hubs.toList.all fun h => h.journal.isEmpty

/-- Whether the slices of the copies are out of self-refresh (R335). -/
def State.copiesReach (s : State) : Bool := s.copySlices.all fun c => s.slices[c].power == .active

/-- Whether a Squall needs the Squall token for its save: one that a warm reset or DIAG_ENTER begins shares no hold-up supply (R340). -/
def Squall.mayWrite (x : Squall) : Bool := x.token || x.cause == 3 || x.cause == 4

/-- Whether the sections of a save are final. -/
def State.saveReady (s : State) : Bool :=
  s.squall.active && s.squall.save && !s.squall.headers && s.squall.mayWrite && s.squall.drained && (s.journalsEmpty || s.squall.limit) && s.copiesReach

/-- A copy as a save writes it. -/
def State.writeCopy (s : State) (b : Bool) (crcs : List (BitVec 32)) (save : Nat) : KeepCopy :=
  let away := (s.copyAway b).length
  let whole := decide (away ≤ s.copySpareable)
  let open_ := s.hubs.toList.foldl (fun n h => n + h.journal.length) 0
  let (g, ms) := s.copyPlace b
  let parity := decide (s.groups ≠ 1)
  { header := s.keepHeader (if b then 1 else 0) (s.keepFlags whole (whole && decide (0 < away))) crcs open_
    secs := s.keepSections, ledger := s.ledger.enabled, save := save, root := s.sec.keepRootVal s.sec.keepRoot.toNat, key := s.sec.keepKey
    grp := g, parity := parity, at_ := s.layAt g ms s.reserveStripe (copyEnd / (if parity then 512 else 256)) }

/-- A copy set. -/
def State.setCopy (s : State) (b : Bool) (k : KeepCopy) : State := if b then { s with keepB := some k } else { s with keepA := some k }

/-- The stripe writes of a copy counted, each of kind FULL under an entry (R189, R191). With one group both copies are in one write of each
stripe. How many entries are open at once is a free value (assumption 8). -/
def State.countLaid (s : State) (b : Bool) (k : KeepCopy) : State :=
  if b && !k.parity then s
  else
    let s := (s.passEntries k.grp k.stripes (1 + (s.freeVal 9).toNat)).tookFree
    (s.modHub k.grp fun h => { h with fullCnt := satAdd h.fullCnt k.stripes }).telSys 0x08 (some k.grp.val) k.stripes

/-- A copy in its place: strips and check words on its slices, its chunks void no more (R197, R327, R331). -/
def State.layCopy (s : State) (b : Bool) (k : KeepCopy) : State :=
  let s := ((s.clearLaid k.at_ k.covers).setCopy b k).wordsLaid k.grp k.at_ k.covers k.strip
  (s.fillChunks k.grp k.chunks).countLaid b k

/-- The checkpoints that a save takes (R267, R327). -/
def State.checkpointAll (s : State) : State :=
  allGroups.foldl (fun (s : State) (g : Fin 8) => match s.spr.rly[g] with
    | some r => s.checkpoint g r.bound
    | none => s) s

/-- The hubs through which a save writes (R132, R327). -/
def State.copyHubs (s : State) : List (Fin 8) := [(s.copyPlace false).1, (s.copyPlace true).1].eraseDups

/-- The save: checkpoints, signatures, and both copies, each header last (R267, R327). Its stripe writes pass the arbiters of their hubs
from the vane cluster (R127). -/
def State.saveCopies (s : State) : State :=
  let s := s.copyHubs.foldl State.vaneGrants s.checkpointAll.signSlices
  let save := s.free
  let s := s.tookFree
  let crcs := sectionCrcs s.keepSections s.ledger.enabled save
  let t := (s.layCopy false (s.writeCopy false crcs save)).layCopy true (s.writeCopy true crcs save)
  { t with squall := { t.squall with headers := true } }

/-! ### Reading a copy again (R278, R333, R469) -/

/-- GENERATION of a copy. -/
def KeepCopy.gen (k : KeepCopy) : Nat := hdrField k.header 16 8

/-- Whether a copy is marked consumed. -/
def KeepCopy.consumed (k : KeepCopy) : Bool := hdrFlag k.header 1

/-- The members that hold a copy (R197). -/
def KeepCopy.members (k : KeepCopy) : List (Fin 9) :=
  if k.parity then allMembers else if hdrField k.header 86 1 = 1 then [4, 5, 6, 7] else [0, 1, 2, 3]

/-- The slice that a member's strips of a copy are read from: the signatures name it, with the newest roster, and it is READY (R334, R338). -/
def State.keepSeat (s : State) (g : Fin 8) (m : Fin 9) : Option (Fin 80) :=
  match s.signedSlice g m with
  | some (c, false) => if s.rosterOk g c && s.slices[c].power == .active && s.slices[c].train.st == 4 then some c else none
  | _ => none

/-- How a strip of a copy reads: as it was written, as something else that its check word vouches for, or not at all. -/
inductive StripRead where
  | same | other | failed
  deriving DecidableEq, Repr

/-- Strip `i` of a copy as slice `c` returns it for member `m`. -/
def State.readKept (s : State) (k : KeepCopy) (i : Nat) (m : Fin 9) (c : Fin 80) : StripRead :=
  let stripe := k.at_.stripe + i
  let d := s.rawLine c (k.at_.line + i)
  let w := (s.checkLineNow c (k.at_.check + i / 32)).extractLsb' (16 * (i % 32)) 16
  if d = k.strip i m ∧ w = checkWord k.grp m stripe d then .same
  else if w = checkWord k.grp m stripe d ∨ isPoisoned k.grp m stripe d w = true then .other
  else .failed

/-- Whether a slice still holds what was laid on it for a member. -/
def State.holdsLaid (s : State) (x : Laid) (m : Fin 9) (c : Fin 80) : Bool := x.marks.contains (m, c, s.slices[c].lost[7])

/-- The stripes, counted from the first, of which a byte of slice `c` has been written one by one since they were laid. -/
def State.touched (s : State) (x : Laid) (c : Fin 80) : List Nat :=
  (s.mem.filterMap fun e =>
    if e.1 / 2 ^ 33 = c.val then
      let l := e.1 % 2 ^ 33 / 64
      (x.wordAt (e.1 % 64 / 2) l).or (x.dataAt l)
    else none).eraseDups

/-- Whether the bytes of some stripes of a copy read as they were written: at most one strip of a stripe is missing where parity covers it, none
where it does not (R278). A section that reads as something else fails its CRC (R333). -/
def State.rangeReads (s : State) (k : KeepCopy) (a b : Nat) : Bool :=
  let seats := k.members.map fun m => (m, s.keepSeat k.grp m)
  let live := seats.filterMap fun x => x.2.map fun c => (x.1, c)
  let dead := seats.length - live.length
  let spare := if k.parity then 1 else 0
  let look := if live.all fun x => s.holdsLaid k.at_ x.1 x.2 then
      (live.flatMap fun x => s.touched k.at_ x.2).eraseDups.filter fun i => decide (a ≤ i) && decide (i < b)
    else List.range' a (b - a)
  decide (dead ≤ spare) && look.all fun i =>
    let r := live.map fun x => s.readKept k i x.1 x.2
    !r.contains .other && decide (dead + r.count .failed ≤ spare)

/-- Whether the header of a copy, or a section of it, reads as it was written. -/
def State.headerReads (s : State) (k : KeepCopy) : Bool := s.rangeReads k 0 (512 / k.unit)
def State.sectionReads (s : State) (k : KeepCopy) (n : Nat) : Bool := s.rangeReads k (sectionStart n / k.unit) (sectionStart (n + 1) / k.unit)

/-- A copy whose header is valid here, read under a root that is still a candidate (R333, R469). -/
def State.validCopy (s : State) (k : Option KeepCopy) : Option KeepCopy :=
  match k with
  | some x => if s.headerReads x && (s.sec.keepRoots.any fun r => s.sec.keepRootVal r == x.root) && headerValid x.header then some x else none
  | none => none

/-! ### Marking and rewriting (R123, R278, R403) -/

/-- A copy marked consumed (R123). -/
def KeepCopy.consume (k : KeepCopy) : KeepCopy := { k with header := reflag k.header (hdrField k.header 12 4 ||| 2) (hdrField k.header 86 1) }

/-- The header of a copy written again: where the copy still lies as it was laid, and on slices that have taken members over since. -/
def State.layHeader (s : State) (b : Bool) (k : KeepCopy) : State :=
  let n := 512 / k.unit
  let first (i : Nat) : Bool := decide (i < n)
  let s := ((s.clearLaid k.at_ first).setCopy b k).wordsLaid k.grp k.at_ first k.strip
  if s.dataLine k.at_.stripe = k.at_.line then
    (List.range n).foldl (fun (s : State) (i : Nat) =>
      let stripe := k.at_.stripe + i
      let moved := k.members.filter fun m => match s.target k.grp m stripe with
        | some c => !s.holdsLaid k.at_ m c
        | none => false
      s.putStrips k.grp stripe (moved.map fun m => (m, k.strip i m, checkWord k.grp m stripe (k.strip i m), false))) s
  else s

/-- A copy read again, by its place. -/
def State.copyAt (s : State) (b : Bool) : Option KeepCopy := if b then s.keepB else s.keepA

/-- What an impaired copy is rewritten from: the copy in use, which is the other one while its header is valid and no older, else itself
(R278). -/
def State.copyInUse (s : State) (b : Bool) (k : KeepCopy) : Option KeepCopy :=
  match s.copyAt (!b) with
  | some y => if headerValid y.header ∧ k.gen ≤ y.gen then some y else if headerValid k.header then some k else none
  | none => if headerValid k.header then some k else none

/-- A member is whole again: a copy that lies on it is rewritten in full, once none of its members is unreachable (R278). -/
def State.mendCopy (s : State) (g : Fin 8) (m : Fin 9) (b : Bool) : State :=
  match s.copyAt b with
  | none => s
  | some k =>
    if k.grp ≠ g ∨ k.members.contains m = false ∨ (k.members.any fun j => s.unreachable g j) = true then s
    else match s.copyInUse b k with
      | none => s
      | some y =>
        let flags := hdrField y.header 12 4
        let header := reflag y.header (flags - (if hdrFlag y.header 4 then 16 else 0)) (if b then 1 else 0)
        s.layCopy b { y with header := header, grp := g, parity := k.parity, at_ := s.layAt g k.members k.at_.stripe (copyEnd / k.unit) }

/-- What a rebuild or a resynchronisation that has completed does to the copies. -/
def State.mendKeep (s : State) (g : Fin 8) (r : Relayout) : State :=
  if r.kind = .rebuild ∨ r.kind = .resync then (s.mendCopy g r.mem false).mendCopy g r.mem true else s

end Sys2Proof.Machine
end

