-- ==== Sys2Proof/Machine/RestoreOps.lean ====
section
/-!
DEFINITION. What a bring-up restores (R90, R97, R122, R199, R272, R333, R336 to R339, R403, R470): which copy it takes, the register
record, the ledger, members and relayouts, open journal entries, voids, rings and the log.
-/
namespace Sys2Proof.Machine

/-! ### Which copy (R333, R339, R403) -/

/-- What a bring-up restores from: nothing as at first initialisation, nothing under R339, or a copy: which one, whether a section of it is
taken from the other one, and the sections that are absent, by their order in R331. Both copies of one GENERATION are of one save and hold the
same sections. -/
inductive KeepPick where
  | fresh
  | without
  | copy (b : Bool) (k : KeepCopy) (mixed : Bool) (gone : BitVec 11)
  deriving DecidableEq, Repr

/-- The valid copy with the larger GENERATION. -/
def State.bestCopy (s : State) : Option (Bool × KeepCopy) :=
  match s.validCopy s.keepA, s.validCopy s.keepB with
  | some a, some b => if a.gen < b.gen then some (true, b) else some (false, a)
  | some a, none => some (false, a)
  | none, some b => some (true, b)
  | none, none => none

/-- The newest save that the Keep area holds, as a training looks for it before every slice of a copy is READY (R238, assumption 74). -/
def State.newestCopy (s : State) : Option KeepCopy :=
  match s.keepA.filter fun k => headerValid k.header, s.keepB.filter fun k => headerValid k.header with
  | some a, some b => some (if a.gen < b.gen then b else a)
  | some a, none => some a
  | none, b => b

/-- The highest GENERATION found, for the next save (R332). -/
def State.genFound (s : State) : BitVec 64 :=
  match s.bestCopy with
  | some x => BitVec.ofNat 64 x.2.gen
  | none => s.squall.gen

/-- Whether the map in force differs from the one a header records (R403). A resume and a recovery take the map from the devices. -/
def State.mapDiffers (s : State) (k : KeepCopy) : Bool := s.mode.warmed && BitVec.ofNat 32 (hdrField k.header 56 4) != s.stored pageGlb 0x050

/-- Whether it differs from the one that the signatures record, where no header says which it was: what the devices hold was laid out under
that one (R334, R403; assumption 88). -/
def State.sigMapDiffers (s : State) : Bool :=
  s.mode.warmed && match s.slices.toList.findSome? Slice.sig with
    | some x => x.ngrp.toNat != s.ngrp || x.cap.toNat != s.cap
    | none => false

/-- The sections of a copy that fail their CRC: a ledger image that was not written is none of them (R332, R333). -/
def State.badSections (s : State) (k : KeepCopy) : List Nat := (List.range 11).filter fun n => !(n == 0 && !k.ledger) && !s.sectionReads k n

/-- A copy with its sections: one that fails its CRC is taken from the other copy, where that is valid, of the same GENERATION, and reads it
(R333). -/
def State.pickSections (s : State) (b : Bool) (k : KeepCopy) : KeepPick :=
  let bad := s.badSections k
  let mate (n : Nat) : Bool := match s.validCopy (s.copyAt (!b)) with
    | some y => y.gen == k.gen && !(n == 0 && !y.ledger) && s.sectionReads y n
    | none => false
  .copy b k (bad.any mate) (maskOf 11 fun n => bad.contains n && !mate n)

/-- What this bring-up restores from. -/
def State.keepPick (s : State) : KeepPick :=
  if s.mode.buKind = .cold ∨ s.mode.buKind = .coldInit then .fresh
  else match s.bestCopy with
    | some (b, k) => if s.mapDiffers k then .fresh else if k.consumed then .without else s.pickSections b k
    | none => if s.allSigned && !s.sigMapDiffers then .without else .fresh

/-- KEEP_SRC (R339). -/
def KeepPick.src (p : KeepPick) : BitVec 3 :=
  match p with
  | .fresh => 0
  | .copy b _ mixed _ => if mixed then 3 else if b then 2 else 1
  | .without => 4

/-- The copy that is restored, and it with section `n` where that is not absent. -/
def KeepPick.kept (p : KeepPick) : Option KeepCopy := match p with | .copy _ k _ _ => some k | _ => none
def KeepPick.part (p : KeepPick) (n : Nat) : Option KeepCopy := match p with | .copy _ k _ gone => if gone.getLsbD n then none else some k | _ => none

/-- The sections that are absent. -/
def KeepPick.absent (p : KeepPick) : List Nat := match p with | .copy _ _ _ gone => (List.range 11).filter fun n => gone.getLsbD n | _ => []

/-- Each absent section is logged (R333, R423). -/
def State.logSections (s : State) (p : KeepPick) : State :=
  p.absent.foldl (fun (s : State) (n : Nat) => s.logError { cls := clsUc, page := pageGlb, code := 0x0070, detail := BitVec.ofNat 64 n }) s

/-! ### The register record (R331, R388) -/

/-- One entry of the record applied. -/
def State.putRecord (s : State) (x : Nat × Reg) : State :=
  let page := x.1 / 1024
  let ofs := x.1 % 1024
  if page = pageBrz then
    { s with brz :=
      if ofs = 0x044 then { s.brz with peers := x.2.setWidth 8 }
      else if ofs = 0x048 then { s.brz with conc := x.2.setWidth 4 }
      else if ofs = 0x04C then { s.brz with tokenWait := x.2.setWidth 16 }
      else s.brz }
  else match regSpec page ofs with
    | some r => s.store page ofs ((s.stored page ofs &&& ~~~(recordMask page r)) ||| (x.2 &&& recordMask page r))
    | none => s

/-- GLB_LOCK (R388). -/
def State.setLock (s : State) : State := ({ s with regs := { s.regs with locked := true } }).store pageGlb 0x054 1

/-- The record of a copy, and LOCK unless the bring-up is warm. -/
def State.restoreRegs (s : State) (k : KeepCopy) : State :=
  let s := k.secs.regs.foldl State.putRecord s
  if hdrFlag k.header 7 && s.mode.buKind != .warm then s.setLock else s

/-- BOOT fields of the GRP0 page as this bring-up leaves them (R392). -/
def State.noteBoot (s : State) : State :=
  { s with regs := { s.regs with boot := ((kindSpecs .grp 0).filter fun r => r.ap == .boot).map fun r => (regKey (pageGrp 0) r.ofs, s.stored (pageGrp 0) r.ofs) } }

/-- Key slots derived again from their saved roots and contexts (R470). -/
def State.restoreSlots (s : State) (k : KeepCopy) : State :=
  k.secs.slots.foldl (fun (s : State) (x : Fin 16 × Bool × List Byte) =>
    if s.sec.rootOk (if x.2.1 then 1 else 0) then
      { s with sec := { s.sec with slots := s.sec.slots.set x.1 { st := 2, root := x.2.1, ctx := x.2.2, key := s.sec.slotKey x.2.1 x.2.2 } } }
    else s) s

/-- The saved patch (R336 step 5, R472): the reason it fails on, or 0. A recovery after a cold reset does not reload it. One whose section is
absent fails as an empty image does. -/
def State.patchAgain (s : State) (p : KeepPick) : BitVec 4 :=
  match p.kept with
  | some k =>
    if s.mode.buKind == .coldRetained || !hdrFlag k.header 3 then 0
    else s.patchChecks (match p.part 10 with | some k => k.secs.patch | none => [])
  | none => 0

/-- The patch taken up again. A warm bring-up without a saved patch leaves the one in the patch RAM, which only a cold reset takes away
(R5). -/
def State.restorePatch (s : State) (p : KeepPick) : State :=
  let img := match p.part 10 with
    | some k => if s.mode.buKind = .coldRetained then [] else k.secs.patch
    | none => []
  if img.isEmpty ∧ s.mode.buKind = .warm then { s with sec := { s.sec with taken := s.mode.patchBuild != 0 } }
  else { s with
    sec := { s.sec with image := img, taken := !img.isEmpty }
    mode := { s.mode with patchBuild := if img.isEmpty then 0 else BitVec.ofNat 16 (imageField img 10 2) } }

/-! ### Members and relayouts (R257, R258, R272, R338, R339) -/

/-- A role given to a slice. -/
def State.setRole (s : State) (c : Fin 80) (r : BitVec 4) : State := s.modHealth c fun h => { h with role := r }

/-- A slice as the place of a member. -/
def State.placeAt (s : State) (c : Fin 80) (g : Fin 8) (m : Fin 9) : State := s.modHealth c fun h => { h with grp := g, mem := some m }

/-- Roles and members at first initialisation. -/
def State.firstMembers (s : State) : State :=
  let s := { s with spr := { s.spr with
    members := Vector.ofFn fun g => Vector.ofFn fun m => Member.home g m, rly := Vector.replicate 8 none, queue := [], requests := [] } }
  let s := allSlices.foldl (fun (s : State) (c : Fin 80) =>
    (s.setRole c (if 72 ≤ c.val then roleSpareFree else if s.wanted c then roleHome else roleUnused)).modHealth c fun h => { h with mem := none, errLevel := 0 }) s
  s.popGroups.foldl (fun (s : State) (g : Fin 8) => allMembers.foldl (fun (s : State) (m : Fin 9) => s.placeAt (homeSlice g m) g m) s) s

/-- The relayout record of a copy. Relayouts go on from the always-on checkpoints, after a cold reset from the recorded ones
(R272, R338). A slice test that was cut short leaves its slice in QUARANTINE. -/
def State.recordedMembers (s : State) (k : KeepCopy) : State :=
  let ck := if s.mode.buKind = .coldRetained then k.secs.ckpt else s.ao.ckpt
  let s := { s with
    spr := { s.spr with
      members := k.secs.members, queue := k.secs.queue, requests := k.secs.requests
      rly := Vector.ofFn fun (g : Fin 8) => (k.secs.rly[g]).map fun r => { r with bound := ck[g], done := [], full := r.full || (r.kind == .resync && s.hubs[g].staleLost) } }
    ao := { s.ao with ckpt := ck } }
  let s := allSlices.foldl (fun (s : State) (c : Fin 80) => s.setRole c (if k.secs.roles[c] = roleTesting then roleQuarantine else k.secs.roles[c])) s
  let s := s.popGroups.foldl (fun (s : State) (g : Fin 8) =>
    let s := allMembers.foldl (fun (s : State) (m : Fin 9) => s.placeAt (s.member g m).slice g m) s
    match s.spr.rly[g] with
    | some r => s.placeAt r.dst g r.mem
    | none => s) s
  s.spr.queue.foldl (fun (s : State) (q : Fin 8 × Relayout) => s.placeAt q.2.dst q.1 q.2.mem) s

/-- A slice that missed a route change: its member is ABSENT, and it serves no member by itself. -/
def State.missedSwap (s : State) (g : Fin 8) (m : Fin 9) : State :=
  let c := (s.member g m).slice
  if (s.member g m).st = .absent ∨ s.rosterOk g c = true then s
  else ((s.setRole c roleQuarantine).setFence c true).memberFails g m c false

/-- The roster checked after a cold reset, and where the relayout record is absent, so that nothing says where members had moved (R338,
assumption 89). -/
def State.checkRoster (s : State) (recorded : Bool) : State :=
  if s.mode.buKind = .coldRetained ∨ recorded = false then s.popGroups.foldl (fun (s : State) (g : Fin 8) => allMembers.foldl (fun (s : State) (m : Fin 9) => s.missedSwap g m) s) s
  else s

/-- A member as its signature gives it: in place, or ABSENT with a rebuild from stripe 0 onto its destination (R339). -/
def State.signedMember (s : State) (g : Fin 8) (m : Fin 9) : State :=
  match s.signedSlice g m with
  | none => s.setMember g m { st := .absent, slice := homeSlice g m, retrain := false }
  | some (c, dest) =>
    let s := s.placeAt c g m
    if dest then
      let s := (s.setMember g m { st := .absent, slice := homeSlice g m, retrain := false }).setRole c roleAttached
      s.queueRly g { kind := .rebuild, mem := m, dst := c, src := none, bound := 0, running := false, suspended := false, done := [], full := false, order := 0 }
    else (s.setMember g m { st := .healthy, slice := c, retrain := false }).setRole c (if c = homeSlice g m then roleHome else roleAttached)

/-- The role a slice without a member takes from its signature. -/
def State.signedRole (s : State) (c : Fin 80) : BitVec 4 :=
  match s.slices[c].sig with
  | some x =>
    if x.role = roleFailed ∨ x.role = roleUnavailable ∨ x.role = roleUnused then x.role
    else if x.role = roleQuarantine ∨ x.role = roleTesting then roleQuarantine else roleSpareFree
  | none => if 72 ≤ c.val then roleSpareFree else if s.wanted c then roleUnavailable else roleUnused

/-- Members and roles without a save (R339). -/
def State.signedMembers (s : State) : State :=
  let s := { s with spr := { s.spr with rly := Vector.replicate 8 none, queue := [], requests := [] } }
  let s := allSlices.foldl (fun (s : State) (c : Fin 80) => (s.setRole c (s.signedRole c)).modHealth c fun h => { h with mem := none, errLevel := 0 }) s
  s.popGroups.foldl (fun (s : State) (g : Fin 8) => allMembers.foldl (fun (s : State) (m : Fin 9) =>
    let s := s.signedMember g m
    if (s.member g m).st = .healthy ∧ s.rosterOk g (s.member g m).slice = false then s.missedSwap g m else s) s) s

/-- The TRAIN_FAIL of a slice (R240). -/
def State.logTrain (s : State) (c : Fin 80) : State :=
  let t := s.slices[c].train
  s.logError { cls := clsRcv, page := pageCh c, code := 0x0011, detail := BitVec.ofNat 64 (t.failStep.toNat + t.failPl.toNat * 16 + t.st.toNat * 256) }

/-- A slice that did not reach READY in this bring-up (R240). -/
def State.notReady (s : State) (c : Fin 80) : State :=
  let x := s.slices[c]
  if s.wanted c = false ∨ x.health.role = roleFailed ∨ x.health.role = roleUnavailable ∨ x.health.role = roleUnused then s
  else if x.train.st = 6 then (s.logTrain c).declareFailed c 7
  else if x.train.st = 8 ∨ x.train.st = 9 then
    match x.health.mem with
    | some m => ((s.logTrain c).setRole c roleUnavailable).memberFails x.health.grp m c false
    | none => s.setRole c roleUnavailable
  else s

/-- A member that lacks its data and for which nothing is under way asks afresh (R272). -/
def State.askAgain (s : State) (g : Fin 8) (m : Fin 9) : State :=
  let x := s.member g m
  if x.st ≠ .absent ∨ s.spareAsked g m = true then s
  else if x.retrain ∧ s.slices[x.slice].train.st = 4 then ((s.setFence x.slice false).rejoin x.slice)
  else s.requestSpare g m false

/-- Fence bits: of the slices that serve no member by reason of a failure, and of a member's own slice that waits for its retrain (R141,
R245, R279); a slice that this bring-up returns to service is fenced no more (R157). -/
def State.fenceRoles (s : State) : State :=
  allSlices.foldl (fun (s : State) (c : Fin 80) =>
    if s.role c = roleUnused ∨ s.role c = roleUnavailable then s
    else s.setFence c (s.role c == roleFailed || s.role c == roleQuarantine || s.role c == roleTesting || s.isAbsent c)) s

/-- The order in which the slices' ends of training are looked at: a spare that is not there is known before a member asks for one (R178). -/
def sparesFirst : List (Fin 80) := allSlices.drop 72 ++ allSlices.take 72

/-- Members, roles and relayouts as the bring-up finds them. -/
def State.restoreMembers (s : State) (p : KeepPick) : State :=
  let s := match p with
    | .fresh => s.firstMembers
    | .without => s.signedMembers
    | .copy .. => match p.part 6 with
      | some k => (s.recordedMembers k).checkRoster true
      | none => s.firstMembers.checkRoster false
  let s := sparesFirst.foldl (fun (s : State) (c : Fin 80) => s.notReady c) s
  let s := s.fenceRoles
  let s := s.popGroups.foldl (fun (s : State) (g : Fin 8) => allMembers.foldl (fun (s : State) (m : Fin 9) => s.askAgain g m) s) s
  s.serveRequests.noteSpareCount

/-- Members of a group that have a trained slice (R30). -/
def State.readyMembers (s : State) (g : Fin 8) : Nat :=
  (allMembers.filter fun m => s.slices[(s.member g m).slice].train.st == 4 && s.role (s.member g m).slice != roleFailed).length

/-- Whether some populated group has eight members that could be trained. -/
def State.someGroup (s : State) : Bool := s.popGroups.any fun g => decide (8 ≤ s.readyMembers g)

/-- The route tables: home tables, then one epoch swap per hub that restores every attachment and destination (R256, R272), before the hub
admits anything: EPOCH reads 0 after it (R157). -/
def State.restoreRoutes (s : State) : State :=
  allGroups.foldl (fun (s : State) (g : Fin 8) =>
    let s := s.modHub g fun h => { h with staged := none, table := homeTable g }
    let s := allMembers.foldl (fun (s : State) (m : Fin 9) =>
      let x := s.member g m
      let dst := match s.spr.rly[g] with
        | some r => if r.mem = m then r.dst else x.slice
        | none => x.slice
      let r : Route := { slice := if x.st = .absent then x.slice else dst, absent := x.st == .absent }
      if s.populated g && r != (homeTable g)[m] then s.stageRoute g m r else s) s
    (s.swapEpoch g).modHub g fun h => { h with epoch := 0, old := [] }) s

/-! ### The ledger (R97, R122, R126) -/

/-- The window check that fails, with the window enabled: of several, the one with the lowest code (assumption 93). -/
def State.ledgerError (s : State) : BitVec 3 :=
  if s.cfgBit (pageLdg 0) 0x040 0 = false then 0
  else if s.cfgField (pageLdg 0) 0x040 2 1 = 3 then 1
  else if s.winBase % s.winSize ≠ 0 then 2
  else if s.slotBase % s.winSize ≠ 0 then 3
  else if s.payloadEnd < s.slotBase + 2 * s.winSize then 4
  else if s.bandsRetained s.slotBase (s.slotBase + 2 * s.winSize) = false then 5
  else if overlaps s.winBase (s.winBase + s.winSize) s.slotBase (s.slotBase + 2 * s.winSize) then 6
  else 0

/-- The saved groups, with nothing in flight. -/
def restoreGroups (l : List (Nat × GroupRec)) : List (Nat × GroupRec) :=
  l.filterMap fun x =>
    let g := ({ x.2 with inflight := 0 } : GroupRec).settle
    if g = freeGroup then none else some (x.1, g)

/-- The ledger set up and loaded. -/
def State.restoreLedger (s : State) (p : KeepPick) : State :=
  let e := s.ledgerError
  let on := s.cfgBit (pageLdg 0) 0x040 0 && e == 0
  let bare := { s.ledger with enabled := on, cfgErr := e, fill := 0, entries := [], groups := [], solos := [], frozen := false, paused := false }
  let l : Ledger :=
    if on = false then { bare with image := 3, sweep0 := 0, sweep1 := 0 }
    else match p with
      | .fresh => { bare with image := 0, sweep0 := 0, sweep1 := 0 }
      | .without => { bare with image := 2, fill := ({ pmask := 0, owner := 0, st := entPoisoned, cslot := false } : LEntry).pack, sweep0 := 0, sweep1 := 0 }
      | .copy _ k _ _ =>
        if hdrFlag k.header 2 ∧ ((List.range 3).all fun n => (p.part n).isSome) = true then
          let keep := s.mode.buKind == .warm
          { bare with
            image := 1, fill := k.secs.fill, entries := k.secs.entries, groups := restoreGroups k.secs.groups, solos := k.secs.solos
            soloOrder := k.secs.solos.foldl (fun n x => max n (x.2.order + 1)) 0
            sweep0 := if keep then s.ledger.sweep0 else 0, sweep1 := if keep then s.ledger.sweep1 else 0 }
        else { bare with image := 2, fill := ({ pmask := 0, owner := 0, st := entPoisoned, cslot := false } : LEntry).pack, sweep0 := 0, sweep1 := 0 }
  ({ s with ledger := l }).raiseIf (e != 0) (pageLdg 0) 2

/-! ### Open journal entries (R337) -/

/-- Strips that hold neither data nor poison. -/
def failing (strips : Vector Strip 9) : List (Fin 9) := allMembers.filter fun m => (strips[m].stored).isNone

/-- Data strips of a stripe given up: marked poisoned where they can be written, logged, and recorded with cause 3. Parity is rewritten with
poison in the place of each, so that one on an unreachable member is rebuilt as poison too (R190, R337 step 5). -/
def State.giveUpStrips (s : State) (g : Fin 8) (stripe : Nat) (l : List (Fin 9)) : State :=
  let pm := parityMember stripe
  let data := l.filter fun m => m != pm
  let strips := s.peekStripe g stripe
  let p := xorLines ((allMembers.filter fun m => m != pm).map fun m => if data.contains m then poisonLine else (strips[m].stored).getD 0)
  let s := s.putStrips g stripe ((data.map fun m => (m, poisonLine, poisonWord g m stripe, false)) ++ [(pm, p, checkWord g pm stripe p, false)])
  let s := data.foldl (fun (s : State) (m : Fin 9) => s.logPoison g stripe m) s
  if data.isEmpty then s else s.recordLoss g stripe stripe (memberMask data) 3

/-- One entry that was saved open resolved. -/
def State.resolveOpen (s : State) (g : Fin 8) (e : JEntry) : State :=
  let stripe := e.stripe.toNat
  let strips := s.peekStripe g stripe
  let whole := e.wmask &&& ~~~e.done == 0
  match failing strips with
  | [] => s.reparity g stripe
  | [m] =>
    if whole then
      match strips[m], rebuilt strips m with
      | .bad _ _, some d =>
        (s.putStrips g stripe [(m, d, if d = poisonLine then poisonWord g m stripe else checkWord g m stripe d, false)]).reparity g stripe
      | _, _ => s
    else s.giveUpStrips g stripe [m]
  | l => s.giveUpStrips g stripe l

/-- Every entry of a save resolved. -/
def State.resolveJournals (s : State) (p : KeepPick) : State :=
  match p.part 3 with
  | some k => allGroups.foldl (fun (s : State) (g : Fin 8) =>
      if s.populated g then (k.secs.journals[g]).foldl (fun (s : State) (e : Nat × JEntry) => s.resolveOpen g e.2) s else s) s
  | none => s

/-! ### Voids (R199, R335) -/

/-- The chunks of eighth `q`, as a range. -/
def State.eighthChunks (s : State) (q : Nat) : Nat × Nat :=
  let n := s.eighthStrips / 8
  (q * n, (q + 1) * n)

/-- A range joined to rising, disjoint ranges that end at or before its start. -/
def joinRange (l : List (Nat × Nat)) (r : Nat × Nat) : List (Nat × Nat) :=
  if r.2 ≤ r.1 then l
  else match l with
    | [] => [r]
    | [x] => if x.2 = r.1 then [(x.1, r.2)] else [x, r]
    | x :: y :: rest => x :: joinRange (y :: rest) r

/-- The parts of ranges that lie within a range. -/
def clipRanges (l : List (Nat × Nat)) (r : Nat × Nat) : List (Nat × Nat) :=
  (l.map fun x => (max x.1 r.1, min x.2 r.2)).filter fun x => decide (x.1 < x.2)

/-- The void chunks with every chunk of the eighths of a mask added. -/
def State.voidEighths (s : State) (l : List (Nat × Nat)) (mask : BitVec 8) : List (Nat × Nat) :=
  (List.range 8).foldl (fun acc q =>
    if mask.getLsbD q then joinRange acc (s.eighthChunks q) else (clipRanges l (s.eighthChunks q)).foldl joinRange acc) []

/-- The eighths this bring-up marks void: all at first initialisation, none after a warm reset, else those not retained. -/
def State.voidMask (s : State) (p : KeepPick) : BitVec 8 :=
  match p with
  | .fresh => 0xFF
  | _ => if s.mode.buKind = .warm then 0 else ~~~s.retBands

/-- The chunks whose map bits a bring-up writes (R199). -/
def State.mapWritten (s : State) (mask : BitVec 8) : List (Nat × Nat) :=
  ((List.range 8).filter fun q => mask.getLsbD q).map s.eighthChunks

/-- The void map of a group in the devices, where this bring-up writes it (R199); the chunks that hold it are not void. -/
def State.layVoids (s : State) (g : Fin 8) (mask : BitVec 8) : State :=
  let first := (s.reserveStripe + 32768) / 8
  if mask = 0 then s else (s.modHub g fun h => { h with voids := cutRange h.voids (first, first + s.mapStripes / 8) }).layMap g

/-- The void maps, and what GRP_RET shows. -/
def State.restoreVoids (s : State) (p : KeepPick) : State :=
  let mask := s.voidMask p
  s.popGroups.foldl (fun (s : State) (g : Fin 8) =>
    State.layVoids (s.modHub g fun h =>
      let l := s.voidEighths h.voids mask
      { h with
        mapLost := if mask = 0xFF then [] else h.mapLost, mapDone := if mask = 0xFF ∨ h.mapLost = [] then [] else h.mapDone ++ s.mapWritten mask
        voids := l, zeroing := !l.isEmpty, retained := s.retBands, voidQ := mask }) g mask) s

/-! ### Loss, stale maps, rings, log -/

/-- The losses of a group that a loss map holds. -/
def lossesOf (l : List Loss) (g : Fin 8) : List (Nat × Nat × BitVec 9) :=
  (l.filter fun x => x.group.toNat == g.val).map fun x => (x.first.toNat, x.last.toNat, x.members)

/-- The loss map set, and the losses that stand with it (R275). -/
def State.setLosses (s : State) (l : List Loss) (dropped : BitVec 16) : State :=
  allGroups.foldl (fun (s : State) (g : Fin 8) => s.modHub g fun h => { h with lost := lossesOf l g }) { s with spr := { s.spr with loss := l, dropped := dropped } }

/-- The loss map and the stale maps of a copy; without one they start empty (R336, R339). A stale map whose section is absent is lost
(R268, R333). -/
def State.restoreLoss (s : State) (p : KeepPick) : State :=
  let s := match p.part 4 with
    | some k => s.setLosses k.secs.loss k.secs.lossDrop
    | none => s.setLosses [] 0
  allGroups.foldl (fun (s : State) (g : Fin 8) => s.modHub g fun h => match p.part 5 with
    | some k => { h with stale := (k.secs.stale[g]).1, staleLost := (k.secs.stale[g]).2 }
    | none => { h with stale := [], staleLost := p.kept.isSome }) s

/-- The ring state of a designated Keep region; a WRAP ring comes back FROZEN (R90). -/
def ringBack (old saved : Ingest) (wrap : Bool) : Ingest :=
  { Ingest.reset with
    rstLow := old.rstLow, enWanted := old.enWanted, cwp := saved.cwp, wp := saved.cwp, rp := saved.rp, seq := saved.seq, pos := saved.pos
    trigPos := saved.trigPos, frozen := wrap || saved.frozen, disc := old.disc }

/-- The ingest ring record applied; a warm reset has left rings as they were (R89, R90). -/
def State.restoreRings (s : State) (p : KeepPick) : State :=
  match p.part 7 with
  | some k =>
    if s.mode.buKind = .warm then s
    else (List.finRange 8).foldl (fun (s : State) (n : Fin 8) =>
      let r := k.secs.rings[n]
      let s := ((s.store (pageIng n) 0x050 (loWord r.base)).store (pageIng n) 0x054 (hiWord r.base)).store (pageIng n) 0x058 r.size
      match r.keep with
      | some x =>
        let cfg := s.stored (pageIng n) 0x040
        (s.store (pageIng n) 0x040 ((cfg &&& ~~~1#32) ||| flag r.wrap 0)).modIng n fun old => ringBack old x r.wrap
      | none => s) s
  | none => s

/-- The Squall error log of a copy (R429). -/
def State.restoreLog (s : State) (p : KeepPick) : State :=
  match p.kept with
  | some k => { s with err := { s.err with sqLog := k.secs.log, sqValid := true, sqOvf := hdrFlag k.header 5, sqCause := BitVec.ofNat 8 (hdrField k.header 84 1) } }
  | none => s

/-! ### The timebase (R444) -/

/-- Instants that the block keeps across a restart of the timebase move with it. -/
def State.shiftTimes (s : State) (d : Time) : State :=
  { s with
    slices := s.slices.map fun x => { x with
      sched := { x.sched with origin := x.sched.origin + d, stallEnd := x.sched.stallEnd + d }
      train := { x.train with tLull := x.train.tLull + d } }
    hubs := s.hubs.map fun h => { h with line := { h.line with origin := h.line.origin + d } }
    pwr := { s.pwr with thermT := s.pwr.thermT + d }
    tb := s.tb + d }

/-- The timebase restarts at SAVE_TIME plus what the residency counters have counted, or plus 1 when they were lost. -/
def State.restoreTime (s : State) (p : KeepPick) : State :=
  match p.kept with
  | some k =>
    if s.mode.buKind = .warm then s
    else
      let t := hdrField k.header 24 8 + (if s.ao.lost then 1 else 1000 * (s.ao.residency - s.ao.resSave))
      s.shiftTimes (BitVec.ofNat 64 t - s.tb)
  | none => s

/-- Verification passes: in every group after a recovery without a save or without its journals, else in the groups that DIAGNOSTIC wrote
directly (R333, R339, R407). -/
def State.restoreVerify (s : State) (p : KeepPick) : State :=
  s.popGroups.foldl (fun (s : State) (g : Fin 8) =>
    if p == .without || p.absent.contains 3 || s.dbg.touched.getLsbD g.val then s.modHub g fun h => { h with verify := true, verifyPos := 0 } else s) s

/-- Both headers marked consumed (R123, R403). -/
def State.markConsumed (s : State) : State :=
  let mark (s : State) (b : Bool) (k : Option KeepCopy) : State := match k with
    | some x => s.layHeader b x.consume
    | none => s
  mark (mark s false (s.validCopy s.keepA)) true (s.validCopy s.keepB)

end Sys2Proof.Machine
end

