-- ==== Sys2Proof/Machine/Squall.lean ====
section
/-!
DEFINITION. The meanings of the Squall's steps (R323 to R330, R335, R340), of the MAIN_PG and REFCLK events (R27, R336, R486) and of the
warm and cold resets (R28, R138, R139, R488, R489).
-/
namespace Sys2Proof.Machine

/-! ### Bring-ups begin -/

/-- GLB_MAP.NGRP and CAP as the signatures give them, while the register is at its reset value (R334, R338). -/
def State.mapFromSig (s : State) : State :=
  match s.slices.toList.findSome? Slice.sig with
  | some x => s.store pageGlb 0x050 (fld x.ngrp.toNat 0 ||| fld x.cap.toNat 4 ||| 0x100)
  | none => s

/-- STATE of every slice that a bring-up has to do with. The probe, initialisation and training begin at PL3 (R236, R238). -/
def State.stateAll (s : State) (st : BitVec 4) : State :=
  allSlices.foldl (fun (s : State) (c : Fin 80) => if s.wanted c then s.modTrain c fun x => { x with st := st, pl := if st = 0 then 0 else 3 } else s) s

/-- A cold bring-up shows PROBE until the microcode is checked (R238). -/
def State.startProbe (s : State) : State := if s.mode.buKind = .cold then s.stateAll 1 else s

/-- The core powers on: the regulator leaves LP mode, the domains come on, the receive buffer and BRZ_TX_STATUS are cleared, the microcode
check follows (R336 step 1, R363, R491). -/
def State.coreUp (s : State) : State :=
  let s := { s with
    ao := { s.ao with lpMode := false }, pwr := { s.pwr with coreOn := true, phase := s.mode.buKind.phase }, brz := s.brz.clear }
  let s := s.mapFromSig.powerSlices
  let s := s.startProbe
  { s with mode := { s.mode with step := 2, refWait := false, coldLow := false } }

/-- A cold bring-up begins (R488). -/
def State.startCold (s : State) : State := s.initAo.coreUp

/-- A resume begins with MAIN_PG: BRING-UP, waiting for REFCLK (R336). Contents lost, it runs as a cold bring-up (R293). -/
def State.startResume (s : State) : State :=
  let s := s.beginBringup (if s.pins.aoValid then .resume else .cold)
  { s with
    mode := { s.mode with refWait := true }
    pwr := { s.pwr with wakeSrc := 6 }
    pins := { s.pins with wakeOut := s.pins.wakeOut || s.ao.wakeEn } }

/-! ### MAIN_PG and REFCLK -/

/-- MAIN_PG has been low for 100 ns (R324). With COLD_RST_N low there is no Squall (R490). In RETENTION a resume that a Breeze match began is
given up, and the domain is on the regulator again (R25, R291). -/
def State.mainPgFall (s : State) : State :=
  if s.pins.mainPg = false then s
  else
    let s := { s with pins := { s.pins with mainPg := false } }
    if s.mode.coldLow then s
    else match s.mode.mode with
      | .holdUp => { s with squall := { s.squall with rose := false } }
      | .retention => { s with mode := { s.mode with refWait := false }, ao := { s.ao with onVbk := true } }
      | _ => s.enterHoldUp 1

/-- MAIN_PG rises (R27, R336, R488). -/
def State.mainPgRise (s : State) : State :=
  if s.pins.mainPg then s
  else
    let s := { s with pins := { s.pins with mainPg := true } }
    match s.mode.mode with
    | .holdUp => { s with squall := { s.squall with rose := true } }
    | .retention => s.startResume
    | _ => if s.mode.coldLow ∧ s.pins.coldRstN = true then s.startCold else s

/-- The REFCLK detector has seen REFCLK toggle for 10 µs (R336, R486). -/
def State.refclkSeen (s : State) : State :=
  if s.mode.refWait = false then s
  else
    let s := if s.mode.mode = .retention then s.beginBringup (if s.pins.aoValid then .resume else .cold) else s
    s.initAo.coreUp

/-! ### The Squall's steps -/

/-- A warm-reset Squall has nothing left to complete: every accepted request has its response, the ingest ports have closed (R89,
R138). -/
def State.settleWarm (s : State) : State :=
  if s.fab.wrst && s.ledger.frozen && !s.squall.drained && (s.reqs.all fun r => r.isDone) && (s.ingest.toList.all fun x => x.phase != .closing && !x.freezing) then
    { s with squall := { s.squall with drained := true }, reqs := [] }
  else s

/-- A request left at the end of HOLD-UP: its response is discarded and counted; a drain stripe is acknowledged (R81); else nobody waits for it
(R325). -/
def State.leaveReq (s : State) (r : Req) : State :=
  if isPortSrc r.src then
    s.discardReq (⟨r.src.toNat % 16, by omega⟩ : Fin 16) r (match r.phase with | .done code => code | _ => rspAborted)
  else match (List.finRange 8).find? fun n => srcIng n == r.src with
    | some n => if r.isDone then s.ackDrain n r else s.dropReq r.rid
    | none => s.dropReq r.rid

/-- The last admitted request has completed: the port banks go off (R325). -/
def State.requestsDone (s : State) : State :=
  if s.mode.mode = .holdUp ∧ s.squall.drained = false ∧ (s.squall.limit || s.reqs.all fun r => r.isDone || r.dropped) = true then
    let s := s.reqs.foldl State.leaveReq s
    { s with squall := { s.squall with drained := true } }
  else s

/-- The retained bands as a Squall masks them: in BRING-UP as GRP_KEEP_CFG was written, but where the register record has been restored, which
a patch that fails then holds (R335, R336). -/
def State.squallBands (s : State) : BitVec 8 :=
  if s.mode.served || (s.mode.stuck && s.mode.cause == 4) then s.retBands else (s.pendingOr (pageGrp 0) 0x0A0).extractLsb' 16 8 ||| 0x80

/-- Whether a slice serves a member, or is the destination of a relayout. Before a bring-up has restored the roles, a home slice does, and
one whose signature names a member (R29, R334). -/
def State.keepsData (s : State) (c : Fin 80) : Bool :=
  (s.slices[c].health.mem.isSome && (s.role c == roleHome || s.role c == roleAttached)) ||
    (s.spr.rly.toList.any fun r => match r with | some x => x.dst == c | none => false) ||
    (!s.mode.served && (decide (c.val < 9 * s.groups) || (match s.slices[c].sig with | some x => decide (x.member.toNat < 9) | none => false)))

/-- The segments of a slice that are masked: none in a warm reset (R328). -/
def State.squallMask (s : State) (c : Fin 80) : BitVec 8 :=
  if s.squall.cause = 3 then 0 else if s.keepsData c then ~~~s.squallBands else 0xFF

/-- Whether a slice may enter self-refresh now (R328). -/
def State.mayRetain (s : State) (c : Fin 80) : Bool :=
  s.squall.active && s.squall.cause != 4 && s.squall.todo.getLsbD c.val && s.squall.drained &&
    (s.slices[c].sched.ops.isEmpty || s.squall.limit) && (s.squall.headers || !s.squall.save || !s.copySlices.contains c)

/-- A slice flushes its check lines, writes its masks, enters self-refresh and is switched off. -/
def State.retainSlice (s : State) (c : Fin 80) : State :=
  let mask := s.squallMask c
  let s := s.drainNow c
  let s := if mask = 0 then s else s.loseContents c mask
  let s := s.modSlice c fun x => { x with power := .selfRefresh, pasr := mask, on := false, sched := { x.sched with rows := [] } }
  { s with squall := { s.squall with todo := s.squall.todo &&& ~~~(1#80 <<< c.val) } }

/-- Slices that are not in self-refresh when the core goes off lose what their devices hold (R29). -/
def State.loseRest (s : State) : State :=
  allSlices.foldl (fun (s : State) (c : Fin 80) => if s.slices[c].power = .selfRefresh ∨ s.wanted c = false then s else s.loseContents c 0xFF) s

/-- RETENTION: domains 0 to 98 off, the regulator in LP mode; SQUALL_DONE is broadcast (R291, R292, R328, R340). The patch RAM goes off with
the core: PATCH_BUILD reads 0 until a resume reloads the patch (assumption 90). -/
def State.enterRetention (s : State) : State :=
  let rose := s.squall.rose
  let s := s.loseRest.coreReset .retention
  let s := { s with
    mode := { s.mode with mode := .retention, patchBuild := 0 }
    ao := { s.ao with lpMode := true, onVbk := true }
    squall := { s.squall with active := false, rose := false }
    brz := { s.brz with txDone := true } }
  if rose && s.pins.mainPg then s.startResume else s

/-- The last slice is in self-refresh (R328); a warm reset goes on to its bring-up (R335). -/
def State.squallDone (s : State) : State :=
  if s.squall.active && s.squall.cause != 4 && s.squall.todo == 0 && s.squall.drained && (s.squall.headers || !s.squall.save) then
    (if s.squall.cause = 3 then s.warmBringup .warm else s.enterRetention)
  else s

/-! ### The token (R340) -/

/-- Peers of lower rank, and those of them that count as done. -/
def State.lowerPeers (s : State) : List Nat := (List.range s.brz.addr.toNat).filter fun a => s.brzPeers.getLsbD a

/-- Whether the instance may take the Squall token. -/
def State.mayTake (s : State) : Bool :=
  let l := s.lowerPeers
  decide (l.length + 1 ≤ (l.filter fun a => (s.squall.heard ||| s.squall.peerDone).getLsbD a).length + max 1 s.brz.conc.toNat)

/-! ### Resets -/

/-- A cold reset: any mode, at once (R28, R488). The always-on contents, the devices and the Keep copies stay; the Breeze copies
return to their reset values (R290). -/
def State.coldReset (s : State) : State :=
  let s := s.coldState
  { s with
    brz := { s.brz.resetCopies.clearCounts with txDone := false, txToken := false, replies := [], txHint := none, retries := Vector.replicate 5 0 }
    pins := { s.pins with coldRstN := false, pwrAck := false, pwrNack := false, wakeOut := false } }

/-- COLD_RST_N rises: the cold bring-up begins, with MAIN_PG high (R488). -/
def State.coldRise (s : State) : State :=
  if s.pins.coldRstN || !s.mode.coldLow then s
  else
    let s := { s with pins := { s.pins with coldRstN := true } }
    if s.pins.mainPg then s.startCold else s

/-- What a full retrain in DIAGNOSTIC leaves of a slice for the bring-up that follows: one that failed stays FAILED, one that is not
fitted or too small stays so, and one that was refused is trained again (R240, R246, R247). -/
def State.keepFailed (old : State) (s : State) : State :=
  allSlices.foldl (fun (s : State) (c : Fin 80) =>
    let x := old.slices[c].train
    if x.st = 6 ∨ x.st = 8 ∨ x.st = 9 then s.modTrain c fun y => { y with st := x.st, failStep := x.failStep, failPl := x.failPl }
    else if x.st = 7 then s.modTrain c fun y => { y with snapValid := 0 }
    else s) s

/-- A warm reset in DIAGNOSTIC, and DIAG_EXIT (R407, R408): no Squall and no save; the bring-up restores the save of DIAG_ENTER. -/
def State.leaveDiag (s : State) : State := s.keepFailed ((s.endCommands.dbgStop true).warmBringup .warm)

/-- A recognised fall of WARM_RST_N (R489). -/
def State.warmReset (s : State) : State :=
  if s.mode.coldLow then s
  else match s.mode.mode with
    | .holdUp | .retention => s
    | .bringUp => if s.pwr.coreOn then (s.endCommands.dbgStop true).warmBringup s.mode.buKind else s
    | .diagnostic => s.leaveDiag
    | _ =>
      if s.fab.wrst then s
      else match s.pwr.phase with
        | .prepare1 | .prepare2 => { s with pwr := { s.pwr with phase := .rollback, vetoBy := 0x7F, vetoWhy := 0, warmNext := true } }
        | .rollback => { s with pwr := { s.pwr with vetoBy := 0x7F, warmNext := true } }
        | .entering | .asleep | .waking => ({ s with pwr := { s.pwr with warmNext := true } }).wakeBy 7
        | _ => s.startWarm

/-- WRST_LIMIT_US has passed (R138, R139): a write whose data is not whole ends ABORTED; a port whose responses wait has them
discarded. -/
def State.warmLimit (s : State) : State :=
  if s.fab.wrst = false then s
  else
    let late := (s.reqs.filter fun r => isPortSrc r.src && r.isDone).map fun r => r.src
    let s := s.mapReqs fun r => if r.phase == .awaitData then { r with phase := .done rspAborted } else r
    let s := (s.reqs.filter fun r => r.isDone && late.contains r.src).foldl State.leaveReq s
    s.warmFreeze

/-! ### Meanings -/

/-- MAIN_PG_FALL (R324). -/
def execMainPgFall (s : State) : Host.Outcome State Fault Refusal := .next s.mainPgFall

/-- ADMITTED_REQUESTS_DONE (R325). -/
def execAdmittedRequestsDone (s : State) : Host.Outcome State Fault Refusal := .next s.requestsDone

/-- OPEN_ENTRY_LIMIT: entries still open are saved open (R326). -/
def execOpenEntryLimit (s : State) : Host.Outcome State Fault Refusal :=
  .next (if s.squall.active then { s with squall := { s.squall with limit := true } } else s)

/-- SAVE_HEADER_WRITE (R327). -/
def execSaveHeaderWrite (s : State) : Host.Outcome State Fault Refusal :=
  .next (let s := s.settleWarm; if s.saveReady then s.saveCopies else s)

/-- SELF_REFRESH_ENTRY (R328). -/
def execSelfRefreshEntry (c : Fin 80) (s : State) : Host.Outcome State Fault Refusal :=
  .next (let s := s.settleWarm; if s.mayRetain c then s.retainSlice c else s)

/-- SQUALL_COMPLETE (R328). -/
def execSquallComplete (s : State) : Host.Outcome State Fault Refusal := .next s.squallDone

/-- SQUALL_TOKEN_TAKE (R340). -/
def execSquallTokenTake (s : State) : Host.Outcome State Fault Refusal :=
  .next (if s.mode.mode = .holdUp ∧ s.squall.active = true ∧ s.squall.token = false ∧ s.mayTake = true then s.takeToken else s)

/-- TOKEN_WAIT_EXPIRY: a peer counts as done (R340). -/
def execTokenWaitExpiry (peer : BitVec 3) (s : State) : Host.Outcome State Fault Refusal :=
  .next (if s.mode.mode = .holdUp then { s with squall := { s.squall with peerDone := s.squall.peerDone ||| (1#8 <<< peer.toNat) } } else s)

/-- MAIN_PG_RISE (R27, R336). -/
def execMainPgRise (s : State) : Host.Outcome State Fault Refusal := .next s.mainPgRise

/-- REFCLK_DETECT (R486). -/
def execRefclkDetect (s : State) : Host.Outcome State Fault Refusal := .next s.refclkSeen

/-- WARM_RESET (R138, R489). -/
def execWarmReset (s : State) : Host.Outcome State Fault Refusal := .next s.warmReset

/-- WRST_LIMIT_EXPIRY (R139). -/
def execWrstLimitExpiry (s : State) : Host.Outcome State Fault Refusal := .next s.warmLimit

/-- COLD_RESET (R28, R488). -/
def execColdReset (s : State) : Host.Outcome State Fault Refusal := .next s.coldReset

/-- COLD_BRINGUP_START: COLD_RST_N rises (R488). -/
def execColdBringupStart (s : State) : Host.Outcome State Fault Refusal := .next s.coldRise

end Sys2Proof.Machine
end

