-- ==== Sys2Proof/Machine/Bringup.lean ====
section
/-!
DEFINITION. The meanings of the bring-up's steps (R233, R236, R238 to R240, R316, R336, R338, R401, R403, R491 to R493):
microcode check, device reset, training of a slice, exit from self-refresh, and entry to RUN or DEGRADED.
-/
namespace Sys2Proof.Machine

/-- Whether a bring-up runs and is not stuck. -/
def State.bringsUp (s : State) : Bool :=
  s.mode.mode == .bringUp && s.pwr.coreOn && !s.mode.refWait && !s.mode.stuck && !s.mode.coldLow

/-- Whether devices keep their training in this bring-up (R239). -/
def State.keepsTraining (s : State) : Bool := s.mode.buKind == .warm || s.mode.buKind == .resume

/-- BRING-UP cannot complete (R30). -/
def State.stickBringup (s : State) (cause : BitVec 3) (slice : BitVec 7) : State :=
  ({ s with
    mode := { s.mode with stuck := true, cause := cause, buSlice := slice, step := 0xF }
    pins := { s.pins with wakeOut := false } }).raise pageGlb 1

/-! ### Microcode and probe (R238, R336 step 2) -/

/-- The signature that initialisation writes to a die: the place of a home slice, or of a spare (R234, R238, R334). -/
def State.firstSignature (s : State) (c : Fin 80) : Signature :=
  if c.val < 72 then
    { s.signatureOf c with
      group := BitVec.ofNat 3 (c.val / 9), member := BitVec.ofNat 4 (c.val % 9), role := roleHome, dest := false, gen := s.hubs[groupOf (c.val / 9)].rosterGen }
  else { s.signatureOf c with member := 0xF, role := roleSpareFree, dest := false }

/-- The device reset of a cold bring-up: every device loses its contents and its signature. -/
def State.resetDevices (s : State) : State :=
  let s := allSlices.foldl (fun (s : State) (c : Fin 80) =>
    (s.loseContents c 0xFF).modSlice c fun x => { x with power := .off, sig := none, pasr := 0 }) s
  let s := allGroups.foldl (fun (s : State) (g : Fin 8) => s.modHub g fun h => { h with mapImage := none }) s
  { s.stateAll 2 with mode := { s.mode with buKind := .coldInit, memRstLow := true, step := 3 }, keepA := none, keepB := none }

/-- A first initialisation: the map that a signature gave is in force no more (R338, R403). -/
def State.dropMap (s : State) : State := ((s.stateAll 0).store pageGlb 0x050 (regReset pageGlb 0x050)).powerSlices

/-- Slices that are to be trained in full with their data kept: in TRAINING, each on a timeline of its own (R237, R239). -/
def State.startTraining (s : State) (l : List (Fin 80)) : State :=
  l.foldl (fun (s : State) (c : Fin 80) => (s.modTrain c fun x => { x with st := 3, pl := 3 }).joinLine c) s

/-- Slices that a bring-up tries: none declared failed or UNAVAILABLE (R30). -/
def State.mayTrain (s : State) : List (Fin 80) :=
  allSlices.filter fun c => s.wanted c && s.role c != roleFailed && s.role c != roleUnavailable

/-- The slices that a warm or resume bring-up trains for a snapshot that is not valid (R239). -/
def State.mustTrain (s : State) : List (Fin 80) :=
  s.mayTrain.filter fun c =>
    let x := s.slices[c]
    x.on && x.power == .selfRefresh && x.train.st == 0 && x.train.snapValid != 0xF

/-- The outcome of the probe (R238). Once the devices have been reset, a warm reset restarts behind the probe, and resets them again only
where that was cut short (R25). -/
def State.probed (s : State) : State :=
  match s.mode.buKind with
  | .cold =>
    if s.allSigned then ({ s with mode := { s.mode with buKind := .coldRetained, retained := true } }).startTraining s.mayTrain
    else s.dropMap.resetDevices
  | .coldInit => if allSlices.any fun c => s.wanted c && s.slices[c].power == .off then s.resetDevices else s
  | .coldRetained => s.startTraining s.mayTrain
  | _ => s.startTraining s.mustTrain

/-- The ROM microcode is checked, the FEATURES word taken and the Keep key derived; a cold bring-up goes on to the probe. -/
def State.microcodeChecked (s : State) (ok : Bool) : State :=
  if s.bringsUp = false ∨ s.mode.ucodeOk = true then s
  else if ok = false then s.stickBringup 1 0x7F
  else
    let s := { s with sec := { s.sec with features := (s.sec.otp 3).data }, mode := { s.mode with ucodeOk := true, step := 3 } }
    let s := s.deriveKeep
    let s : State := { s with pwr := { s.pwr with pl := s.plForce }, pins := { s.pins with pwrPl := s.plForce } }
    s.probed

/-- MEM_RST_N rises: the devices initialise, take the signature and refresh on timelines of their own (R234, R238, R505). -/
def State.deviceResetEnd (s : State) : State :=
  if s.bringsUp = false ∨ s.mode.memRstLow = false then s
  else
    let s := { s with mode := { s.mode with memRstLow := false, step := 4 } }.stateAll 3
    allSlices.foldl (fun (s : State) (c : Fin 80) =>
      if s.wanted c then (s.modSlice c fun x => { x with power := .init, sig := some (s.firstSignature c) }).joinLine c else s) s

/-! ### Training (R233, R236, R239, R240) -/

/-- The timeline of a group that does not run yet starts with its first slice. -/
def State.startLine (s : State) (c : Fin 80) : State :=
  match s.windowOf c with
  | some (g, _) => if s.hubs[g].line.running then s else s.joinLine c
  | none => s

/-- Whether a refused device holds the bring-up, while other slices still read theirs back. -/
def State.refusing (s : State) : Bool := s.mode.mode == .bringUp && s.mode.stuck && s.mode.cause == 2 && s.pwr.coreOn

/-- The snapshot copy of the newest save, which a recovery takes settings from for the PLs that follow PL3 (R238). -/
def State.savedSnap (s : State) (c : Fin 80) (pl : BitVec 2) : Option Snapshot :=
  if s.mode.buKind ≠ .coldRetained ∨ pl = 3 then none
  else match s.newestCopy with
    | some k => if (k.secs.snaps[c]).1.getLsbD pl.toNat then some (k.secs.snaps[c]).2[pl.toFin] else none
    | none => none

/-- The full training of a slice in a bring-up. -/
def State.trainPlan (s : State) (c : Fin 80) : TrainPlan := { order := trainOrder none, saved := s.savedSnap c }

/-- A slice in service in this bring-up: one that refreshes already goes on to its group's timeline, any other starts to refresh (R505). -/
def State.enterLine (s : State) (c : Fin 80) (refreshes : Bool) : State := if refreshes then s.startLine c else s.joinLine c

/-- Whether a slice is due for full training in this bring-up. -/
def State.trainDue (s : State) (c : Fin 80) : Bool :=
  let x := s.slices[c]
  (s.bringsUp || s.refusing) && s.mode.ucodeOk && !s.mode.memRstLow && s.wanted c && x.on && (x.train.st == 0 || x.train.st == 3) &&
    x.health.role != roleFailed && x.health.role != roleUnavailable &&
    (!s.keepsTraining || x.train.st == 3 || x.train.snapValid != 0xF || x.power == .off || x.power == .init)

/-- A refused device holds the block in BRING-UP; GLB_BRINGUP names the lowest one. -/
def State.refuseSlice (s : State) (c : Fin 80) : State :=
  let low := BitVec.ofNat 7 (min c.val (if s.mode.cause = 2 then s.mode.buSlice.toNat else 0x7F))
  if s.mode.stuck then { s with mode := { s.mode with buSlice := low } } else s.stickBringup 2 low

/-- A slice trained in full, or not, as its readback and its training go. Devices that were never initialised before hold no
contents (R493). -/
def State.trainSlice (s : State) (c : Fin 80) (d : Readback) (e : TrainEnd) : State :=
  let s := if s.mode.stuck then s else { s with mode := { s.mode with step := 4 } }
  let x := s.readBack c d
  let s := if x.2 = 0 then x.1 else x.1.raise (pageCh c) 3
  if x.2 = 7 then s.refuseSlice c
  else if x.2 ≠ 0 then s
  else
    let s := if s.keepsTraining ∧ (s.slices[c].power = .off ∨ s.slices[c].power = .init) then s.loseContents c 0xFF else s
    match e with
    | .pass => ((s.trained c (s.trainPlan c)).modSlice c fun x => { x with power := .active, pasr := 0 }).enterLine c s.slices[c].refreshes
    | .fail step pl => s.trainFailed c (s.trainPlan c) step pl

/-! ### Exit from self-refresh (R316, R335, R336) -/

/-- The exit order. -/
def State.exitOrder (s : State) : List (Fin 80) :=
  let ng := s.groups
  let serving := (List.range (9 * ng)).map fun i => (s.member (groupOf (i % ng)) (memberOf (i / ng))).slice
  let rest := allSlices.filter fun c => s.wanted c && !serving.contains c
  serving ++ (rest.filter fun c => s.role c != roleQuarantine) ++ rest.filter fun c => s.role c == roleQuarantine

/-- Whether a slice is to leave self-refresh: at an S2 wake, spares behind its end too, with its snapshot in a warm or resume bring-up, or so
that a save can reach its copy slices. -/
def State.exits (s : State) (c : Fin 80) : Bool :=
  let x := s.slices[c]
  x.power == .selfRefresh && s.wanted c && x.health.role != roleFailed && x.health.role != roleUnavailable &&
    (((s.pwr.phase == .waking && s.pwr.asleep == 2 || s.inService && s.pwr.phase == .awake) && x.on && x.health.role != roleUnused) ||
      (s.bringsUp && s.mode.ucodeOk && s.keepsTraining && x.on && x.train.snapValid == 0xF && x.train.st == 0) ||
      (s.mode.mode == .holdUp && s.squall.save && !s.squall.headers && s.squall.todo.getLsbD c.val && s.copySlices.contains c))

/-- Whether it is the slice's turn. -/
def State.exitTurn (s : State) (c : Fin 80) : Bool := (s.exitOrder.find? s.exits) == some c

/-- Whether the devices of a slice are below S, as GLB_MAP is in force now (R179, R233). -/
def State.isShort (s : State) (c : Fin 80) : Bool := decide (s.slices[c].ranks.toNat * densHalves s.slices[c].dens < capHalves s.cap)

/-- A slice leaves self-refresh: on to its verification Lull, in HOLD-UP to the save alone. One that is too small for the map of this
bring-up stays in it, and is SHORT. -/
def State.exitSlice (s : State) (c : Fin 80) : State :=
  if s.mode.mode = .holdUp then s.modSlice c fun x => { x with power := .active, on := true }
  else if s.mode.mode = .bringUp ∧ s.isShort c = true then
    (s.modTrain c fun x => { x with st := 9, failStep := 0, failPl := 0 }).raise (pageCh c) 3
  else
    let s := s.modSlice c fun x => { x with power := .active, on := true, pasr := 0, train := { x.train with st := if s.mode.mode = .bringUp then 4 else x.train.st } }
    ((s.atPl c s.pwr.pl).joinLine c).requestLull c

/-! ### Entry to RUN or DEGRADED (R25, R30, R336, R401, R403) -/

/-- Whether a slice has come to the end of its part of the bring-up. -/
def State.settled (s : State) (c : Fin 80) : Bool :=
  let x := s.slices[c]
  !s.wanted c || x.health.role == roleFailed || x.health.role == roleUnavailable || (x.train.st == 4 && x.power == .active && !x.train.lullReq) ||
    x.train.st == 6 || x.train.st == 8 || x.train.st == 9

/-- Groups with two or more members unreachable. -/
def State.shortGroups (s : State) : BitVec 8 :=
  maskOf 8 fun g => s.populated (groupOf g) && decide (2 ≤ (allMembers.filter fun m => s.unreachable (groupOf g) m).length)

/-- Domains of slices that are in no use go off (R297, "domain map"). -/
def State.offUnused (s : State) : State :=
  allSlices.foldl (fun (s : State) (c : Fin 80) =>
    if s.wanted c = false ∨ s.role c = roleUnavailable then s.modSlice c fun x => { x with on := false } else s) s

/-- Slices that have entered service since the last cold bring-up (R258). -/
def State.noteService (s : State) : State :=
  allSlices.foldl (fun (s : State) (c : Fin 80) => if s.servesMember c then s.modHealth c fun h => { h with inService := true } else s) s

/-- Service begins. -/
def State.enterService (s : State) (p : KeepPick) (gen : BitVec 64) : State :=
  let s := (allSlices.foldl (fun (s : State) (c : Fin 80) => s.startLine c) s).noteService
  let s := s.markConsumed.signSlices
  let s := { s with
    mode := { s.mode with keepSrc := p.src, shortGrp := s.shortGroups, step := 0, served := true, tService := s.tb }
    squall := { s.squall with gen := gen, heard := 0 }
    dbg := { s.dbg with touched := 0 }
    pins := { s.pins with wakeOut := false, coreVid := nominalVid s.pwr.pl, sliceVid := nominalVid s.pwr.pl } }
  let s := { s with pwr := { s.pwr with phase := .awake } }
  let s := (s.setMode (if s.allWhole then .run else .degraded)).raise pageGlb 1
  let s := s.raiseIf (s.keepCfgErr != 0 || (List.range 8).any fun n => (s.keepRegion n).1 && s.keepRegBad n) (pageGrp 0) 7
  let s := (List.finRange 8).foldl (fun (s : State) (n : Fin 8) => s.leaveOff n) s
  s.feasTrigger.afterSleep

/-- Link ECC and data bus inversion as the applied CH_TRN_CFG has them (R232). -/
def State.setLinks (s : State) : State :=
  allSlices.foldl (fun (s : State) (c : Fin 80) => if s.slices[c].train.st = 4 then s.setLink c else s) s

/-- What is restored before the patch: registers and GLB_LOCK, the ledger, and the open journal entries, which are resolved on the members
as they are served now (R336 step 4). -/
def State.restoreFirst (s : State) (p : KeepPick) : State :=
  let s := match p.part 8 with
    | some k => (s.restoreRegs k).restoreSlots k
    | none => s
  let s := (if s.mode.warmed then s.applyPages allPages .boot else s).noteBoot
  let s := ((s.logSections p).restoreLoss p).restoreMembers p
  ((s.restoreLedger p).restoreRoutes).resolveJournals p

/-- What is restored and set before service. -/
def State.restoreAll (s : State) (p : KeepPick) : State :=
  let s := (((s.restoreFirst p).restorePatch p).restoreVoids p).restoreRings p
  (((s.restoreLog p).restoreTime p).restoreVerify p).offUnused.setLinks

/-- Whether a bring-up has trained its slices and goes on to what it restores. -/
def State.trainedAll (s : State) : Bool := s.bringsUp && s.mode.ucodeOk && !s.mode.memRstLow && allSlices.all s.settled

/-- GLB_BRINGUP.STEP: with the last slice trained the restore or the first initialisation is next (R401). What follows it passes within
BRINGUP_COMPLETE. -/
def State.stepNow (s : State) : BitVec 4 := if s.trainedAll then (if s.keepPick == .fresh then 6 else 5) else s.mode.step

/-- The bring-up completes, or sticks; with a patch that fails, after what is restored before it. -/
def State.bringupDone (s : State) : State :=
  if s.trainedAll = false then s
  else
    let p := s.keepPick
    let gen := s.genFound
    let t := s.restoreAll p
    let why := s.patchAgain p
    if t.someGroup = false then s.stickBringup 3 0x7F
    else if why ≠ 0 then
      let u := s.restoreFirst p
      ({ u with sec := { u.sec with patchReason := why } }).stickBringup 4 0x7F
    else t.enterService p gen

/-! ### Meanings -/

/-- MICROCODE_CHECK_DONE (R30, R238, R336). -/
def execMicrocodeCheckDone (ok : Bool) (s : State) : Host.Outcome State Fault Refusal := .next (s.microcodeChecked ok)

/-- DEVICE_RESET_END (R238). -/
def execDeviceResetEnd (s : State) : Host.Outcome State Fault Refusal := .next s.deviceResetEnd

/-- SLICE_TRAINING_DONE (R233, R236, R239, R240). -/
def execSliceTrainingDone (c : Fin 80) (dev : Readback) (e : TrainEnd) (s : State) : Host.Outcome State Fault Refusal :=
  .next (if s.trainDue c then s.trainSlice c dev e else s)

/-- SELF_REFRESH_EXIT (R316, R317, R335, R336). -/
def execSelfRefreshExit (c : Fin 80) (s : State) : Host.Outcome State Fault Refusal := .next (if s.exitTurn c then s.exitSlice c else s)

/-- BRINGUP_COMPLETE (R25, R30, R336, R401, R403). -/
def execBringupComplete (s : State) : Host.Outcome State Fault Refusal := .next s.bringupDone

end Sys2Proof.Machine
end

