-- ==== Sys2Proof/Machine/Errors.lean ====
section
/-!
DEFINITION. The ERR commands (R426, R428, R438) and the entry windows of the ERR page (R437).
-/
namespace Sys2Proof.Machine

/-- The oldest unacknowledged entry acknowledged. -/
def State.ackOne (s : State) : State := { s with err := { s.err with unack := s.err.unack - 1 } }

/-- Every entry acknowledged. -/
def State.ackEvery (s : State) : State := { s with err := { s.err with unack := 0 } }

/-- FIRST_VALID cleared, ERR_FIRST armed again. -/
def State.clearFirst (s : State) : State := { s with err := { s.err with first := none } }

/-- The six ERR counters cleared. -/
def State.clearErr (s : State) : State :=
  { s with err := { s.err with ceCnt := 0, rcvCnt := 0, ucCnt := 0, fatalCnt := 0, ovfCnt := 0, keepCnt := 0 } }

/-- ERR_CMD.ACK (R426). -/
def execAck (s : State) : Host.Outcome State Fault Refusal := .next (s.whenLive pageErr fun s => s.ackOne)

/-- ERR_CMD.ACK_ALL (R426). -/
def execAckAll (s : State) : Host.Outcome State Fault Refusal := .next (s.whenLive pageErr fun s => s.ackEvery)

/-- ERR_CMD.CLR_FIRST (R428). -/
def execClrFirst (s : State) : Host.Outcome State Fault Refusal := .next (s.whenLive pageErr fun s => s.clearFirst)

/-- ERR_CMD.CLR_COUNTERS (R438). -/
def execErrClrCounters (s : State) : Host.Outcome State Fault Refusal := .next (s.whenLive pageErr fun s => s.clearErr)

end Sys2Proof.Machine
end

