-- ==== Sys2Proof/Machine/Ports.lean ====
section
/-!
DEFINITION. The meanings of the requester-port commands: requests (R39 to R48), write data (R37, R38), responses (R50), barriers
and forwarding (R46, R47, R55), port reset (R64), counters (R68) and watchdogs (R62, R63). A command whose occasion is absent
changes nothing (assumption 3).
-/
namespace Sys2Proof.Machine

/-- READ (R40). -/
def execOpRead (p : Fin 16) (r : ReqFields) (e : EntryRead) (s : State) : Host.Outcome State Fault Refusal :=
  .next (s.present p opcRead r e)

/-- WRITE (R41). -/
def execOpWrite (p : Fin 16) (r : ReqFields) (e : EntryRead) (s : State) : Host.Outcome State Fault Refusal :=
  .next (s.present p opcWrite r e)

/-- WRITE_XOR (R42). -/
def execOpWriteXor (p : Fin 16) (r : ReqFields) (e : EntryRead) (s : State) : Host.Outcome State Fault Refusal :=
  .next (s.present p opcXor r e)

/-- FILL (R43). -/
def execOpFill (p : Fin 16) (r : ReqFields) (e : EntryRead) (s : State) : Host.Outcome State Fault Refusal :=
  .next (s.present p opcFill r e)

/-- GROUP_OPEN (R44). -/
def execGroupOpen (p : Fin 16) (r : GroupReq) (s : State) : Host.Outcome State Fault Refusal :=
  .next (s.present p opcOpen r.req { ecc := 0, tableUc := r.tableUc })

/-- GROUP_COMMIT (R45, R46). -/
def execGroupCommit (p : Fin 16) (r : GroupReq) (s : State) : Host.Outcome State Fault Refusal :=
  .next (s.present p opcCommit r.req { ecc := 0, tableUc := r.tableUc })

/-- GROUP_ABORT (R45, R46). -/
def execGroupAbort (p : Fin 16) (r : GroupReq) (s : State) : Host.Outcome State Fault Refusal :=
  .next (s.present p opcAbort r.req { ecc := 0, tableUc := r.tableUc })

/-- BARRIER (R47). -/
def execOpBarrier (p : Fin 16) (r : ReqFields) (s : State) : Host.Outcome State Fault Refusal :=
  .next (s.present p opcBarrier r { ecc := 0, tableUc := false })

/-- A reserved opcode: accepted as malformed (R48). -/
def execReservedOpcode (p : Fin 16) (op : BitVec 4) (r : ReqFields) (s : State) : Host.Outcome State Fault Refusal :=
  .next (s.present p op r { ecc := 0, tableUc := false })

/-- WRITE_DATA_BEAT: the beat joins the oldest accepted write that awaits data, or is a protocol error (R37, R38). -/
def execWriteDataBeat (p : Fin 16) (b : WdFields) (s : State) : Host.Outcome State Fault Refusal :=
  .next (
    if s.wdReady p = false then s
    else match s.awaiting p with
      | none => s
      | some r =>
        let final := r.beats.length + 1 == beatsOf r.op r.len r.pi
        if b.tag ≠ r.tag then s.isolate p 1
        else if b.last ≠ final then s.isolate p 2
        else
          let s := s.modReq r.rid fun r => { r with beats := r.beats ++ [{ data := b.data, be := b.be }] }
          if final then s.takeUp r.rid else s)

/-- RESPONSE (R50). The last one of a warm-reset Squall lets the ledger freeze (R138). -/
def execResponse (p : Fin 16) (tag : BitVec 10) (s : State) : Host.Outcome State Fault Refusal :=
  .next (s.respond p tag).warmFreeze

/-- BARRIER_COMPLETE: no covered earlier request is left, so the barrier returns OK and held requests flow (R47). -/
def execBarrierComplete (p : Fin 16) (tag : BitVec 10) (s : State) : Host.Outcome State Fault Refusal :=
  .next (
    match s.byTag p tag with
    | none => s
    | some r =>
      let covered := s.reqs.any fun a => a.src == r.src && decide (a.rid < r.rid) && (r.aux.getLsbD 0 || a.ord == r.ord)
      if r.op ≠ opcBarrier ∨ r.phase ≠ .held ∨ covered = true then s
      else
        let s := (s.finishReq r.rid rspOk).respond p tag
        (((s.portReqs p).map Req.rid).foldl State.retryHeld s).warmFreeze)

/-- GROUP_COMMIT_FORWARD (R46). -/
def execGroupCommitForward (p : Fin 16) (tag : BitVec 10) (s : State) : Host.Outcome State Fault Refusal :=
  .next (
    match s.byTag p tag with
    | some r => if r.op = opcCommit ∨ r.op = opcAbort then s.retryHeld r.rid else s
    | none => s)

/-- ORDERED_FORWARD (R55). -/
def execOrderedForward (p : Fin 16) (tag : BitVec 10) (s : State) : Host.Outcome State Fault Refusal :=
  .next (
    match s.byTag p tag with
    | some r => if r.op = opcCommit ∨ r.op = opcAbort then s else s.retryHeld r.rid
    | none => s)

/-- PORT_RESET_PIN: Pnn_RST_N falls (R64). -/
def execPortResetPin (p : Fin 16) (s : State) : Host.Outcome State Fault Refusal :=
  .next (
    if s.ports[p].pinLow then s
    else (s.modPort p fun x => { x with pinLow := true }).startPortReset p)

/-- PRT_CMD.PORT_RESET (R64). -/
def execPortReset (p : Fin 16) (s : State) : Host.Outcome State Fault Refusal :=
  .next (s.whenLive (pagePort p) fun s => s.startPortReset p)

/-- PORT_RESET_DRAIN_DONE: every accepted request has completed, so responses are discarded, tags freed and isolation ended
(R64 steps 3, 5 and 6); the safe state of the page keeps the port isolated (R392). -/
def execPortResetDrainDone (p : Fin 16) (s : State) : Host.Outcome State Fault Refusal :=
  .next (
    if s.ports[p].rstActive = false ∨ (s.portReqs p).any (fun r => !r.isDone) then s
    else
      let s := (s.portReqs p).foldl (fun s r => match r.phase with
        | .done code => s.discardReq p r code
        | _ => s) s
      ((s.modPort p fun x => { x with rstActive := false, rstDone := true, isolated := s.parity (pagePort p) }).raise (pagePort p) 1).warmFreeze)

/-- PORT_RESET_RELEASE: Pnn_RST_N rises (R64, R66). -/
def execPortResetRelease (p : Fin 16) (s : State) : Host.Outcome State Fault Refusal :=
  .next (s.modPort p fun x => { x with pinLow := false })

/-- PRT counters cleared (R68). -/
def State.clearPrt (s : State) (p : Fin 16) : State :=
  s.modPort p fun x => { x with discardCnt := 0, denyCnt := 0, backoffCnt := 0, malfCnt := 0 }

/-- PRT_CMD.CLR_COUNTERS (R68). -/
def execPrtClrCounters (p : Fin 16) (s : State) : Host.Outcome State Fault Refusal :=
  .next (s.whenLive (pagePort p) fun s => s.clearPrt p)

/-- WD_TIMEOUT: a write has awaited data for PRT_WD_LIMIT (R62). -/
def execWdTimeout (p : Fin 16) (tag : BitVec 10) (s : State) : Host.Outcome State Fault Refusal :=
  .next (
    match s.byTag p tag with
    | some r => if r.phase = .awaitData then s.isolate p 5 else s
    | none => s)

/-- TAG_WATCHDOG: a tag has been in use beyond PRT_WDOG_LIMIT (R63). -/
def execTagWatchdog (p : Fin 16) (tag : BitVec 10) (s : State) : Host.Outcome State Fault Refusal :=
  .next (
    match s.byTag p tag with
    | some r =>
      if r.stuck then s
      else (s.modReq r.rid fun r => { r with stuck := true }).logError { cls := clsFatal, page := pagePort p, code := 0x0041, detail := tag.setWidth 64 }
    | none => s)

end Sys2Proof.Machine
end

