-- ==== Sys2Proof/Machine/Flags.lean ====
section
/-!
DEFINITION. The flag computations of the interrupt tree: INT_STATUS, the summaries, the routing of sources and the interrupt outputs
(R372, R402, R432 to R435).
-/
namespace Sys2Proof.Machine

/-- INT_RAW of a page. -/
def State.intRaw (s : State) (page : Nat) : Reg := (s.header page).intRaw

/-- INT_STATUS: INT_RAW AND INT_EN (R372). -/
def State.intStatus (s : State) (page : Nat) : Reg := s.intRaw page &&& s.intEn page

/-- Whether a page's bit of the summaries is set; an absent page and a VANE page read 0 (R402). -/
def State.summaryBit (s : State) (page : Nat) : Bool :=
  (s.pageOn page || s.sliceNaps page) && s.intStatus page != 0

/-- GLB_INT_SUMMARY word `w` (R402). -/
def State.summary (s : State) (w : Nat) : Reg := maskOf 32 fun p => s.summaryBit (32 * w + p)

/-- GLB_INT_TOP (R402). -/
def State.intTop (s : State) : Reg := maskOf 32 fun w => decide (w < 8) && s.summary w != 0

/-- Source numbers of a page that route to IRQ_ERROR_N (R433). -/
def errorList (k : Kind) (n : Nat) : List Nat :=
  match k with
  | .err => [1, 2, 3, 4]
  | .prt => [0]
  | .ing => [0]
  | .grp => [0, 1, 2, 7]
  | .ch => [1, 3, 4]
  | .ldg => if n = 0 then [0, 2] else [0]
  | .fab => [2]
  | .shr => [2]
  | .spr => [0, 3]
  | .pwr => [4, 6]
  | .brz => [2]
  | .sec | .otp => List.range (kindSources k n)
  | _ => []

/-- The same as a mask. -/
def errorSources (page : Nat) : Reg :=
  match pageKind page with
  | some (k, n) => (errorList k n).foldl (fun m j => m ||| flag true j) 0
  | none => 0

/-- Whether some source of a routing is set and enabled. -/
def State.anySource (s : State) (err : Bool) : Bool :=
  (List.range 256).any fun p =>
    s.summaryBit p && (s.intStatus p &&& (if err then errorSources p else ~~~(errorSources p))) != 0

/-- IRQ_ERROR_N and IRQ_EVENT_N as driven: false while asserted; inactive while domain 88 is off (R434). -/
def State.irqErrorN (s : State) : Bool := !(s.pwr.coreOn && s.cfgBit pageErr 0x040 3 && s.anySource true)
def State.irqEventN (s : State) : Bool := !(s.pwr.coreOn && s.cfgBit pageErr 0x040 2 && s.anySource false)

/-- IRQ_FATAL_N as driven (R416, R434). -/
def State.irqFatalN (s : State) : Bool := !(s.pwr.coreOn && s.err.fatal)

end Sys2Proof.Machine
end

