-- ==== Sys2Proof/Machine/Telemetry.lean ====
section
/-!
DEFINITION. The TEL commands (R440, R445, R452, R454, R455, R458), pops of the sample FIFO, and the slots of the slice banks
(R439 to R442, R446, R447).
-/
namespace Sys2Proof.Machine

/-! ### Snapshots and clears -/

/-- A slice bank as a snapshot takes it: the retained values in S2, zero for a slice whose domain is off. -/
def Slice.bankSeen (x : Slice) (nap : Bool) : SliceBank := if x.on || nap then x.bank else SliceBank.reset

/-- A snapshot of every bank, every OVF bit and the timebase; while SNAP_BUSY is set it has no effect (R445). -/
def State.snapAll (s : State) : State :=
  if s.tel.snapBusy then s
  else
    let nap := s.asleepIn 2
    { s with
      tel := { s.tel with snapSys := s.tel.sys, snapOvf := s.tel.sysOvf, snapTime := s.tb, snapBusy := true }
      slices := s.slices.map fun x => { x with snapBank := x.bankSeen nap } }

/-- The capture completes. -/
def State.snapDone (s : State) : State :=
  if s.tel.snapBusy then { s with tel := { s.tel with snapBusy := false, snapValid := true } } else s

/-- Every 48-bit counter, every OVF bit and the three 32-bit counters cleared (R458). -/
def State.clearTel (s : State) : State :=
  { s with
    tel := { s.tel with sys := Vector.replicate 8 0, sysOvf := 0, sampCnt := 0, dropCnt := 0, gapCnt := 0 }
    slices := s.slices.map fun x => { x with bank := SliceBank.reset } }

/-- Every OVF bit cleared (R440). -/
def State.clearOvf (s : State) : State :=
  { s with tel := { s.tel with sysOvf := 0 }, slices := s.slices.map fun x => { x with bank := { x.bank with ovf := 0 } } }

/-! ### The sample FIFO -/

/-- UNDERRUN cleared. -/
def State.clearUnderrun (s : State) : State := { s with tel := { s.tel with underrun := false } }

/-- One pop: the word, and the state after it (R454). A READ bank whose last word goes becomes FREE, and a closing cause that
waited for it takes effect (R452). -/
def State.popWord (s : State) : State × Reg :=
  match s.tel.read with
  | w :: rest =>
    let s := { s with tel := { s.tel with read := rest, lastPop := w, readBank := !rest.isEmpty } }
    (if rest.isEmpty && s.tel.closeDue then s.closeFill else s, w)
  | [] => ({ s with tel := { s.tel with underrun := true } }, s.tel.lastPop)

/-- The FILL bank closes TEL_SAMP_FLUSH.US after its first record (R452). -/
def State.fillTimeout (s : State) : State :=
  let us := s.cfgField pageTel 0x108 15 0
  if us ≠ 0 ∧ s.tel.fillT.toNat + us * 1000 ≤ s.tb.toNat then s.closeFill else s

/-! ### Slots (R446, R447) -/

/-- Why a slot is WASTED, as the event that counts it, 0 for a slot that is not. -/
def State.wasteOf (s : State) (c : Fin 80) (f : SlotFacts) : Nat :=
  let x := s.slices[c]
  let training := x.train.st == 5 || x.train.scanBusy || (s.mode.mode == .bringUp && s.mode.ucodeOk && (x.train.st == 0 || x.train.st == 3) && x.power != .selfRefresh)
  if x.sched.tLead || x.sched.inRef || f.perBankWait then 0x05
  else if f.lull then 0x06
  else if f.switch_ then 0x07
  else if training then 0x08
  else if x.sched.alert.isSome || f.replayed then 0x09
  else if f.checkRead || f.checkWrite then 0x0A
  else if f.conflict then 0x0B
  else if f.turnaround then 0x0C
  else 0

/-- Whether no operation waits for a slice, in its queues or in a hub hold. -/
def State.frontStarved (s : State) (c : Fin 80) : Bool :=
  s.slices[c].sched.rq.isEmpty && s.slices[c].sched.wq.isEmpty && s.hubs.toList.all fun h => h.parked.all fun o => o.1 != c

/-- The class of a slot, as the event that counts it: RETIRED, WASTED, FRONT-STARVED or BACK-STARVED. -/
def State.slotClass (s : State) (c : Fin 80) (f : SlotFacts) : Nat :=
  if (f.stripRead || f.stripWrite) && !f.replayed then 0x01
  else if s.wasteOf c f ≠ 0 then 0x02
  else if s.frontStarved c then 0x03
  else 0x04

/-- What an event adds in a slot (R442). -/
def State.slotAmount (s : State) (c : Fin 80) (f : SlotFacts) (ev : Nat) : Nat :=
  let one (b : Bool) : Nat := if b then 1 else 0
  let k := s.slotClass c f
  match ev with
  | 0x01 | 0x02 | 0x03 | 0x04 => one (k == ev)
  | 0x05 | 0x06 | 0x07 | 0x08 | 0x09 | 0x0A | 0x0B | 0x0C => one (k == 0x02 && s.wasteOf c f == ev)
  | 0x10 => one f.stripRead
  | 0x11 => one f.stripWrite
  | 0x12 => one f.checkRead
  | 0x13 => one f.checkWrite
  | 0x14 => f.acts.toNat
  | 0x15 => one f.rowHit
  | 0x16 => one f.level0
  | 0x17 => one f.level23
  | 0x18 => s.slices[c].sched.rq.length
  | 0x19 => s.slices[c].sched.wq.length
  | 0x1A => one f.refAb
  | 0x1B => one f.refPb
  | 0x1C => one f.gustBegun
  | 0x1D => one f.fwd
  | _ => 0

/-- One counter of a slice bank advanced: index 0 to 3 programmable, 4 the slot counter. The first wrap since its OVF bit was
clear raises OVF (R440). -/
def State.bumpBank (s : State) (c : Fin 80) (k n : Nat) : State :=
  let b := s.slices[c].bank
  let (v, wrap) := bump48 (if k = 4 then b.slot else b.cnt[k]?.getD 0) n
  let first := wrap && !b.ovf.getLsbD k
  let ovf := if wrap then b.ovf ||| (1#5 <<< k) else b.ovf
  let s := s.modSlice c fun x => { x with bank := if k = 4 then { b with slot := v, ovf := ovf } else { b with cnt := b.cnt.setIfInBounds k v, ovf := ovf } }
  s.raiseIf first pageTel 2

/-- Whether the clock of a slice runs (R448). -/
def State.sliceClock (s : State) (c : Fin 80) : Bool := s.slices[c].on && s.pwr.coreOn && s.mode.mode != .retention

/-- One slot. -/
def State.slot (s : State) (c : Fin 80) (f : SlotFacts) : State :=
  if s.sliceClock c = false then s
  else
    let add := (List.range 4).map fun k => s.slotAmount c f (s.cfgField pageTel 0x060 (8 * k + 7) (8 * k))
    let s := s.bumpBank c 4 1
    if s.cfgBit pageTel 0x040 0 && !s.parity pageTel then
      (List.range 4).foldl (fun (s : State) (k : Nat) => s.bumpBank c k (add.getD k 0)) s
    else s

/-! ### Meanings -/

/-- TEL_CMD.SNAP (R445). -/
def execSnap (s : State) : Host.Outcome State Fault Refusal := .next (s.whenLive pageTel fun s => s.snapAll)

/-- SNAP_CAPTURE_DONE (R445). -/
def execSnapCaptureDone (s : State) : Host.Outcome State Fault Refusal := .next s.snapDone

/-- TEL_CMD.CLR_CNT (R458). -/
def execClrCnt (s : State) : Host.Outcome State Fault Refusal := .next (s.whenLive pageTel fun s => s.clearTel)

/-- TEL_CMD.CLR_OVF (R440). -/
def execClrOvf (s : State) : Host.Outcome State Fault Refusal := .next (s.whenLive pageTel fun s => s.clearOvf)

/-- TEL_CMD.FLUSH (R452). -/
def execFlush (s : State) : Host.Outcome State Fault Refusal := .next (s.whenLive pageTel fun s => s.closeFill)

/-- TEL_CMD.CLR_UNDERRUN (R454). -/
def execClrUnderrun (s : State) : Host.Outcome State Fault Refusal := .next (s.whenLive pageTel fun s => s.clearUnderrun)

/-- TEL_CMD.CLR_SAMP (R455). -/
def execClrSamp (s : State) : Host.Outcome State Fault Refusal := .next (s.whenLive pageTel fun s => s.clearSamples)

/-- SAMPLE_POP: a word read at TEL_SAMPLE_POP, returned on the lanes of 0x110 (R454). -/
def execSamplePop (s : State) : Host.Outcome State Fault Refusal :=
  .next (if s.pageOn pageTel then
    let (t, w) := s.popWord
    { t with regs := { t.regs with rdata := w.setWidth 64, rerr := false } } else s)

/-- FILL_BANK_TIMEOUT (R452). -/
def execFillBankTimeout (s : State) : Host.Outcome State Fault Refusal := .next s.fillTimeout

/-- SLOT_BOUNDARY (R446). -/
def execSlotBoundary (c : Fin 80) (f : SlotFacts) (s : State) : Host.Outcome State Fault Refusal := .next (s.slot c f)

end Sys2Proof.Machine
end

