-- ==== Sys2Proof/Machine/Vanes.lean ====
section
/-!
DEFINITION. The vane mailboxes (R404 to R409, R504) and the debug port (R410 to R413), with the meanings of their commands.
-/
namespace Sys2Proof.Machine

/-! ### The command set (R405) -/

def opPing : Byte := 0x01
def opDiagEnter : Byte := 0x10
def opDiagExit : Byte := 0x11
def opSweep : Byte := 0x12
def opBist : Byte := 0x13
def opPattern : Byte := 0x20
def opPatrol : Byte := 0x40

/-- Whether an OP is listed for a vane. -/
def opListed (v : Fin 24) (op : Byte) : Bool :=
  op == opPing || ((op == opDiagEnter || op == opDiagExit || op == opSweep || op == opBist) && v.val == 23) ||
    (op == opPattern && decide (v.val < 16)) || (op == opPatrol && v.val == 19)

/-- Whether the block's mode is listed for an OP. -/
def State.opMode (s : State) (op : Byte) : Bool :=
  match s.mode.mode with
  | .bringUp => op == opPing
  | .run => op == opPing || op == opDiagEnter || op == opSweep || op == opPatrol
  | .degraded => op == opPing || op == opSweep || op == opPatrol
  | .diagnostic => op == opPing || op == opDiagExit || op == opSweep || op == opBist || op == opPattern
  | _ => false

/-- Whether an OP can be aborted. -/
def opAbortable (op : Byte) : Bool := op == opBist || op == opPattern

/-- Whether the arguments of PATTERN are in range: a slice of the vane's own, READY, and lines of it (R405). -/
def State.patternArgs (s : State) (v : Fin 24) (a : Vector Reg 4) : Bool :=
  let c := fieldOf a[0] 6 0
  c / 5 == v.val && ((s.slices[c]?.map fun x => x.train.st == 4).getD false) && a[3] != 0 &&
    decide (a[2].toNat + a[3].toNat ≤ s.sliceLines)

/-- Whether the arguments of an OP are in range; bits above an argument's field are reserved (R10). -/
def State.opArgs (s : State) (v : Fin 24) (op : Byte) (a : Vector Reg 4) : Bool :=
  op != opPattern || s.patternArgs v a

/-- REASON of a refused DIAG_ENTER: the first condition of R26 that fails (R406); 0 when it is accepted. S1 and S2 are no vote: the
conditions can hold there. -/
def State.diagReason (s : State) : BitVec 8 :=
  if s.mode.mode ≠ .run then 1
  else if s.reqs.any (fun r => isPortSrc r.src) then 2
  else if s.ingest.toList.any (fun x => x.enWanted || x.phase != .off) then 3
  else if s.groupsOpen then 4
  else if s.spr.rly.toList.any Option.isSome || !s.spr.queue.isEmpty then 5
  else if s.pwr.phase = .prepare1 ∨ s.pwr.phase = .prepare2 ∨ s.pwr.phase = .rollback ∨ s.pwr.switching = true then 6
  else 0

/-! ### What the commands do when they are accepted -/

/-- A line of a slice that a test has overwritten: its value is free. -/
def State.spoilLine (s : State) (c : Fin 80) (seed line : Nat) : State := s.setRawLine c line (Config.lostLine seed c.val line)

/-- The bit of DBG_DIAG_TOUCHED of a slice that serves a member set (R410). -/
def State.touchGroup (s : State) (c : Fin 80) : State :=
  if s.slices[c].health.mem.isSome then { s with dbg := { s.dbg with touched := s.dbg.touched ||| (1#8 <<< s.slices[c].health.grp.val) } } else s

/-- PATTERN destroys the lines of its range (R405). -/
def State.runPattern (s : State) (a : Vector Reg 4) : State :=
  let c := sliceOf (fieldOf a[0] 6 0)
  let seed := s.free
  let s := (s.tookFree).touchGroup c
  (List.range a[3].toNat).foldl (fun (s : State) (k : Nat) => s.spoilLine c seed (a[2].toNat + k)) s

/-- A group record of the group table with free contents. -/
def freeRecord (n : Nat) : GroupRec :=
  let st := match (Config.freeValue 3 n).toNat with
    | 1 => GroupSt.open_ | 2 => GroupSt.committing | 3 => GroupSt.committed | 4 => GroupSt.aborted | _ => GroupSt.free
  { st := st, entries := (Config.freeValue 20 n).toNat, inflight := (Config.freeValue 16 n).toNat }

/-- The ledger half tables overwritten: every entry of the half is free (R504). -/
def State.spoilHalf (s : State) (half : Nat) : State :=
  let n := s.free
  let old := s.ledger.entries.filter fun e => e.1 % 2 != half
  let new := (List.range 262144).map fun k => (2 * k + half, Config.freeValue 96 (n + k))
  { s with free := n + 262144, ledger := { s.ledger with entries := new.foldl (fun l e => setKey l e.1 e.2) old } }

/-- The group and solo tables overwritten (R504). -/
def State.spoilTables (s : State) : State :=
  let n := s.free
  let solos := s.ledger.solos.map fun x => (x.1, { x.2 with granule := (Config.freeValue 19 (n + x.1)).toNat })
  { s with free := n + 4096, ledger := { s.ledger with groups := (List.range 4096).map (fun k => (k, freeRecord (n + k))), solos := solos } }

/-- Journal entries in use overwritten (R504). -/
def State.spoilJournals (s : State) : State :=
  let n := s.free
  let spoil (k : Nat) (e : JEntry) : JEntry :=
    { e with stripe := Config.freeValue 32 (n + k), wmask := Config.freeValue 9 (n + k), done := Config.freeValue 9 (n + k) }
  { s with free := n + 512, hubs := s.hubs.map fun h => { h with journal := h.journal.map fun e => (e.1, spoil e.1 e.2) } }

/-- Cached check words overwritten, at all slices; the queues and retry buffers are empty in DIAGNOSTIC (R26, R504). -/
def State.spoilCaches (s : State) : State :=
  let n := s.free
  { s.tookFree with slices := s.slices.map fun x => { x with sched := { x.sched with ckc := x.sched.ckc.map fun k => { k with data := Config.lostLine n 80 k.line } } } }

/-- Words of the sample FIFO overwritten (R504). -/
def State.spoilFifo (s : State) : State :=
  let n := s.free
  let r := (List.range s.tel.read.length).map fun k => Config.freeValue 32 (n + k)
  let f := (List.range s.tel.fill.length).map fun k => bytesOf (Config.freeValue 256 (n + k)) 32
  { s with free := n + r.length + f.length, tel := { s.tel with read := r, fill := f } }

/-- BIST overwrites the sets it covers (R504). -/
def State.runBist (s : State) (sets : Reg) : State :=
  let s := if bitOf sets 0 then s.spoilHalf 0 else s
  let s := if bitOf sets 1 then s.spoilHalf 1 else s
  let s := if bitOf sets 2 then s.spoilTables else s
  let s := if bitOf sets 3 then s.spoilJournals else s
  let s := if bitOf sets 4 then s.spoilCaches else s
  if bitOf sets 5 then s.spoilFifo else s

/-- DIAG_ENTER accepted: V23 runs a diagnostic-entry Squall, in which no traffic is left to drain; the slices drain and write back their
check lines (R211, R221, R323, R406). In S1 and S2 the vane's operations wake the block first (R315; assumption 77). In a warm-reset
Squall the command ends as a command in progress at the warm reset does (R404; assumption 77). -/
def State.enterDiag (s : State) (v : Fin 24) : State :=
  if s.fab.wrst then s.mboxEnd v 4 0 []
  else
    let s := (s.beginSquall 4 true).drainAll
    { s with squall := { s.squall with drained := true } }.wakeBy 5

/-- DIAG_EXIT: the command ends with OK as the warm bring-up begins, and its outcome stays to be read (R404, R407). -/
def State.exitDiag (s : State) : State :=
  let v : Fin 24 := 23
  let s := s.mboxEnd v 0 0 []
  (s.modVane v fun x => { x with keepRes := true }).leaveDiag

/-- What an accepted command does at once. -/
def State.mboxStart (s : State) (v : Fin 24) (op : Byte) (a : Vector Reg 4) : State :=
  if op = opDiagEnter then s.enterDiag v
  else if op = opDiagExit then s.exitDiag
  else if op = opBist then s.runBist a[0]
  else if op = opPattern then s.runPattern a
  else s

/-- A ring that the vane takes: OP, mode and arguments are checked, and a refused command completes at once (R405, R406). -/
def State.mboxTake (s : State) (v : Fin 24) (op : Byte) (a : Vector Reg 4) : State :=
  if s.parity (pageVane v) then s.mboxEnd v 1 0xE []
  else if opListed v op = false then s.mboxEnd v 2 0 []
  else if op = opDiagEnter ∧ s.diagReason ≠ 0 then s.mboxEnd v 1 s.diagReason []
  else if s.opMode op = false then s.mboxEnd v 1 0xF []
  else if s.opArgs v op a = false then s.mboxEnd v 3 0 []
  else s.mboxStart v op a

/-- A ring (R404): lost while the mailbox is BUSY, else accepted. -/
def State.mboxRing (s : State) (v : Fin 24) (op : Byte) (a : Vector Reg 4) : State :=
  if s.vanes[v].busy then s.modVane v fun x => { x with ringLost := true, refuseCnt := satInc x.refuseCnt }
  else
    let s := s.modVane v fun x => { x with
      busy := true, doneBit := false, ringLost := false, op := op, args := a, abortReq := false, cmdCnt := satInc x.cmdCnt }
    s.mboxTake v op a

/-- The arguments a vane latches: the applied values (R404). -/
def State.mboxArgs (s : State) (v : Fin 24) : Vector Reg 4 := Vector.ofFn fun k => s.stored (pageVane v) (0x04C + 4 * k.val)

/-- VANE_MBOX_DOORBELL.RING with the applied command and arguments. -/
def State.mboxDoorbell (s : State) (v : Fin 24) : State :=
  s.mboxRing v ((s.stored (pageVane v) 0x048).setWidth 8) (s.mboxArgs v)

/-- VANE_MBOX_DOORBELL.ABORT (R404). -/
def State.mboxAbort (s : State) (v : Fin 24) : State :=
  if s.vanes[v].busy && opAbortable s.vanes[v].op then s.modVane v fun x => { x with abortReq := true } else s

/-- VANE counters cleared (R413). -/
def State.clearVane (s : State) (v : Fin 24) : State := s.modVane v fun x => { x with cmdCnt := 0, refuseCnt := 0 }

/-! ### The end of a command -/

/-- VANE_ID (R409). -/
def State.vaneId (s : State) (v : Fin 24) : Reg :=
  let role := if v.val < 16 then 0 else if v.val < 18 then 1 else v.val - 16
  flag (s.mode.patchBuild != 0 && Config.patchTouchesVane s.mode.patchBuild v.val) 20 ||| fld role 16 ||| fld v.val 0

/-- SPR_PATROL_POS (R284). -/
def State.patrolPosReg (s : State) : Reg := fld s.spr.patGrp.toNat 29 ||| s.spr.patPos.setWidth 32

/-- DIAGNOSTIC is entered once the diagnostic-entry Squall has saved, every slice flushed (R221); RDATA0 is the timebase at entry (R405, R406). -/
def State.diagEntered (s : State) (v : Fin 24) : State :=
  if s.squall.active && s.squall.cause == 4 && (s.squall.headers || !s.squall.save) then
    let t := s.drainAll
    let t := { t with squall := { t.squall with active := false }, dbg := { t.dbg with touched := 0 } }
    (t.setMode .diagnostic).mboxEnd v 0 0 [loWord s.tb]
  else s

/-- What an ended command returns and does; `r0` to `r2` are what a sweep or a test found. -/
def State.mboxFinish (s : State) (v : Fin 24) (r0 r1 r2 : Reg) : State :=
  let x := s.vanes[v]
  if x.busy = false then s
  else if x.abortReq then s.mboxEnd v 4 0 []
  else if x.op = opPing then s.mboxEnd v 0 0 [s.vaneId v, s.ucodeId]
  else if x.op = opDiagEnter then s.diagEntered v
  else if x.op = opSweep then s.mboxEnd v 0 0 [r0]
  else if x.op = opBist then s.mboxEnd v 0 0 [x.args[0] &&& r0, x.args[0] &&& ~~~r0]
  else if x.op = opPattern then s.mboxEnd v 0 0 [r0, r1, r2 &&& 0xFFFF]
  else if x.op = opPatrol then
    let pos := s.patrolPosReg
    (({ s with spr := { s.spr with patGrp := 0, patPos := 0 } }).mboxEnd v 0 0 [pos])
  else s

/-! ### Debug operations (R410) -/

/-- The line address in DBG_ADDR. -/
def State.dbgAddr (s : State) : Nat := s.pairStored pageDbg 0x044

/-- The slice of a direct operation. -/
def State.dbgSlice (s : State) : Option (Fin 80) := sliceArg ((s.stored pageDbg 0x050).extractLsb' 16 7)

/-- Whether BIST runs on the slice queues (R504). -/
def State.bistQueues (s : State) : Bool := s.vanes[23].busy && s.vanes[23].op == opBist && bitOf s.vanes[23].args[0] 4

/-- Whether the mode allows a debug operation. -/
def State.dbgMode (s : State) (direct : Bool) : Bool :=
  s.mode.mode == .diagnostic && !(direct && s.bistQueues) || (!direct && s.inService)

/-- DBG_STATUS.ERR of a GO of operation `op`: the first check that fails, 0 for none. -/
def State.dbgError (s : State) (op : Nat) : BitVec 3 :=
  let direct := op == 2 || op == 3
  if bitOf (s.stored pageDbg 0x040) 31 = false ∨ s.parity pageDbg = true ∨ s.feature 1 = true then 1
  else if s.dbgMode direct = false then 2
  else if direct && (match s.dbgSlice with | some c => s.slices[c].train.st != 4 | none => true) then 3
  else if (if direct then decide (s.sliceLines ≤ fieldOf (s.stored pageDbg 0x04C) 26 0)
      else !(s.inWindow s.dbgAddr || decide (s.dbgAddr < s.payloadEnd))) then 4
  else if 3 < op then 5
  else if s.dbg.busy then 6
  else 0

/-- The line in DBG_DATA0–15. -/
def State.dbgLine (s : State) : Line := lineOf ((List.range 16).flatMap fun k => bytesOf (s.stored pageDbg (0x100 + 4 * k)) 4)

/-- A line put into DBG_DATA0–15. -/
def State.setDbgLine (s : State) (d : Line) : State :=
  (List.range 16).foldl (fun (s : State) (k : Nat) => s.store pageDbg (0x100 + 4 * k) (d.extractLsb' (32 * k) 32)) s

/-- DBG_BE. -/
def State.dbgBe (s : State) : BitVec 64 := pairOf (s.stored pageDbg 0x058) (s.stored pageDbg 0x05C)

/-- A READ or WRITE goes out as a request of source 0x18 for one line, at level 3, with no PI (R127, R132, R410); inside the window it
is denied in DIAGNOSTIC. -/
def State.dbgRequest (s : State) (op : BitVec 4) : State :=
  let a := s.dbgAddr
  let f : ReqFields := { tag := 0, addr := BitVec.ofNat 34 (a / 64), len := 0, cls := 0, ord := 0, gv := false, gid := 0, pi := 0, aux := 0 }
  let beats := if op = opcWrite then [{ data := s.dbgLine, be := s.dbgBe : Beat }] else []
  let r : Req := { newReq s.ids srcDebug op f s.tb with phase := .held, beats := beats }
  let rid := s.ids
  let s := { s with ids := s.ids + 1, reqs := s.reqs ++ [r] }
  if s.mode.mode = .diagnostic ∧ s.inWindow a = true then s.finishReq rid rspDenied else s.toLedger rid

/-- DIRECT_READ: the raw slice line. -/
def State.directGet (s : State) : State :=
  match s.dbgSlice with
  | some c => s.setDbgLine (s.rawLine c (fieldOf (s.stored pageDbg 0x04C) 26 0))
  | none => s

/-- DIRECT_WRITE: the enabled bytes, raw; the group of a serving slice is marked. -/
def State.directPut (s : State) : State :=
  match s.dbgSlice with
  | some c =>
    let l := fieldOf (s.stored pageDbg 0x04C) 26 0
    (s.setRawLine c l (mergeBytes (s.rawLine c l) s.dbgLine s.dbgBe)).touchGroup c
  | none => s

/-- What an operation does once GO is taken. -/
def State.dbgStart (s : State) (op : Nat) : State :=
  if op = 0 then s.dbgRequest opcRead
  else if op = 1 then s.dbgRequest opcWrite
  else if op = 2 then s.directGet
  else s.directPut

/-- DBG_GO.GO with an operation: refused with ERR, or begun (R410). -/
def State.dbgGo (s : State) (op : Nat) : State :=
  let e := s.dbgError op
  if e ≠ 0 then ({ s with dbg := { s.dbg with err := e } }).raise pageDbg 0
  else
    let s := { s with dbg := { s.dbg with busy := true, direct := op == 2 || op == 3, err := 0 } }
    s.dbgStart op

/-- The operation in progress ends: its code, the line read, and DONE. -/
def State.dbgFinish (s : State) : State :=
  if s.dbg.busy = false then s
  else if s.dbg.direct then ({ s with dbg := { s.dbg with busy := false, direct := false, code := 0 } }).raise pageDbg 0
  else
    match s.reqs.find? fun r => r.src == srcDebug with
    | none => s
    | some r => match r.phase with
      | .done code =>
        let s := s.dropReq r.rid
        let s := if r.op = opcRead ∧ (code = rspOk ∨ code = rspPoison) then
            (match r.out with
             | o :: _ => s.setDbgLine o.2.1
             | [] => s)
          else s
        let poison := if r.op = opcRead then code == rspPoison else s.dbg.poison
        ({ s with dbg := { s.dbg with busy := false, code := code, poison := poison } }).raise pageDbg 0
      | _ => s

/-- DBG_GO.CAP_ARM (R411). -/
def State.capArm (s : State) : State := { s with dbg := { s.dbg with capArmed := true, captured := false } }

/-- DBG_GO.GO with the operation in DBG_OP. -/
def State.dbgDoorbell (s : State) : State := s.dbgGo (fieldOf (s.stored pageDbg 0x050) 31 28)

/-! ### Meanings -/

/-- A ring on a vane's page. -/
def State.ringOn (s : State) (v : Fin 24) (op : Byte) (a : Vector Reg 4) : State := s.whenLive (pageVane v) fun s => s.mboxRing v op a

/-- MBOX_PING (R405). -/
def execMboxPing (v : Fin 24) (s : State) : Host.Outcome State Fault Refusal := .next (s.ringOn v opPing (s.mboxArgs v))

/-- DIAG_ENTER (R406). -/
def execDiagEnter (s : State) : Host.Outcome State Fault Refusal := .next (s.ringOn 23 opDiagEnter (s.mboxArgs 23))

/-- DIAG_EXIT (R407). -/
def execDiagExit (s : State) : Host.Outcome State Fault Refusal := .next (s.ringOn 23 opDiagExit (s.mboxArgs 23))

/-- CFG_SWEEP (R405); the faults it finds come as CFG_PARITY_SWEEP. -/
def execCfgSweep (s : State) : Host.Outcome State Fault Refusal := .next (s.ringOn 23 opSweep (s.mboxArgs 23))

/-- BIST (R504). -/
def execBist (sets : BitVec 6) (s : State) : Host.Outcome State Fault Refusal :=
  .next (s.ringOn 23 opBist ((s.mboxArgs 23).set 0 (sets.setWidth 32)))

/-- PATTERN (R405). -/
def execPattern (v : Fin 24) (slice : BitVec 7) (pat : BitVec 2) (seed : BitVec 16) (first count : BitVec 32) (s : State) :
    Host.Outcome State Fault Refusal :=
  .next (s.ringOn v opPattern (#v[slice.setWidth 32, fld seed.toNat 16 ||| pat.setWidth 32, first, count]))

/-- PATROL_RESTART (R405). -/
def execPatrolRestart (s : State) : Host.Outcome State Fault Refusal := .next (s.ringOn 19 opPatrol (s.mboxArgs 19))

/-- BAD_OP: a ring whose OP is not listed for the vane (R405). -/
def execBadOp (v : Fin 24) (op : Byte) (s : State) : Host.Outcome State Fault Refusal :=
  .next (if opListed v op then s else s.ringOn v op (s.mboxArgs v))

/-- ABORT (R404). -/
def execAbort (v : Fin 24) (s : State) : Host.Outcome State Fault Refusal := .next (s.whenLive (pageVane v) fun s => s.mboxAbort v)

/-- VANE_MBOX_DOORBELL.CLR_COUNTERS (R413). -/
def execVaneClrCounters (v : Fin 24) (s : State) : Host.Outcome State Fault Refusal := .next (s.whenLive (pageVane v) fun s => s.clearVane v)

/-- MBOX_DONE (R404). -/
def execMboxDone (v : Fin 24) (r0 r1 r2 : Reg) (s : State) : Host.Outcome State Fault Refusal := .next (s.mboxFinish v r0 r1 r2)

/-- DBG_READ (R410). -/
def execDbgRead (s : State) : Host.Outcome State Fault Refusal := .next (s.whenLive pageDbg fun s => s.dbgGo 0)

/-- DBG_WRITE (R410). -/
def execDbgWrite (s : State) : Host.Outcome State Fault Refusal := .next (s.whenLive pageDbg fun s => s.dbgGo 1)

/-- DIRECT_READ (R410). -/
def execDirectRead (s : State) : Host.Outcome State Fault Refusal := .next (s.whenLive pageDbg fun s => s.dbgGo 2)

/-- DIRECT_WRITE (R410). -/
def execDirectWrite (s : State) : Host.Outcome State Fault Refusal := .next (s.whenLive pageDbg fun s => s.dbgGo 3)

/-- DBG_DONE (R410). -/
def execDbgDone (s : State) : Host.Outcome State Fault Refusal := .next s.dbgFinish

/-- CAP_ARM (R411). -/
def execCapArm (s : State) : Host.Outcome State Fault Refusal := .next (s.whenLive pageDbg fun s => s.capArm)

end Sys2Proof.Machine
end

