-- ==== Sys2Proof/Machine/RegRead.lean ====
section
/-!
DEFINITION. What every register reads as: the header (R371, R372, R400), and for each page the RO and ST fields of its field map,
computed from the state. A register that is not computed here reads its applied value (R8, R381).
-/
namespace Sys2Proof.Machine

/-- A number in a field of `w` bits, saturating. -/
def satField (v w sh : Nat) : Reg := fld (min v (2 ^ w - 1)) sh

/-- Word `k` of a list of bytes. -/
def wordAt (bs : List Byte) (k : Nat) : Reg := wordOf 32 ((bs.drop (4 * k)).take 4)

/-- Slice `k` of 32 slices from a word on, as a mask. -/
def State.sliceMask (s : State) (w : Nat) (f : Slice → Bool) : Reg :=
  maskOf 32 fun i => match s.slices[32 * w + i]? with
    | some x => f x
    | none => false

/-! ### The common header (R372, R400) -/

/-- Whether a page has a field of type LK. -/
def hasLk (page : Nat) : Bool :=
  match pageKind page with
  | some (k, n) => (kindSpecs k n).any fun r => r.lk != 0
  | none => false

/-- Whether a page holds a value pending under an apply code; writes held in S2 count (R296). -/
def State.pendsAt (s : State) (page : Nat) (ap : Apply) : Bool :=
  !(s.pendingAt page ap).isEmpty ||
    s.regs.napHeld.any fun a => pageOf a.addr == page && applyOf page (offsetOf 512 a.addr) == ap && ap != .imm

/-- A header register; `base` is the page's own index. -/
def State.readHeader (s : State) (page ofs : Nat) (k : Kind) (n : Nat) : Reg :=
  let h := s.header page
  match ofs with
  | 0x000 => fld page 24 ||| fld (kindSpanCode k) 22 ||| fld (kindCode k) 0
  | 0x004 => 0x00000200
  | 0x008 => fld n 24 ||| fld (kindInstances k) 16 ||| fld (kindSources k n) 8 ||| flag (kindSecure k) 0
  | 0x010 => flag h.parity 31 ||| flag (s.regs.locked && hasLk page) 30 ||| flag h.accessErr 29 ||| fld h.errCause.toNat 26 ||| fld h.errOfs.toNat 0
  | 0x014 => flag (s.pendsAt page .boot) 19 ||| flag (s.pendsAt page .epoch) 18 ||| flag (s.pendsAt page .rb) 17 |||
      flag (s.pendsAt page .idle) 16 ||| h.applied.setWidth 32
  | 0x020 => h.intRaw
  | 0x024 => s.intEn page
  | 0x028 => s.intStatus page
  | _ => 0

/-! ### GLB (R401) -/

/-- Groups with a member that is neither HEALTHY nor RETURNING (GLB_MODE.DEG_GRP). -/
def State.degGroups (s : State) : BitVec 8 :=
  maskOf 8 fun g => s.populated (groupOf g) && !(allMembers.all fun m => (s.member (groupOf g) m).whole)

/-- GLB_MODE.BU_KIND. -/
def buKindCode (k : BuKind) : Nat := match k with | .cold => 0 | .warm => 1 | .resume => 2 | .coldRetained => 3 | .coldInit => 0

/-- Lease remaining in whole µs. -/
def State.leaseUs (s : State) : Nat :=
  if s.regs.seq.held then (s.regs.seq.tLease.toNat + 10000000 - s.tb.toNat) / 1000 else 0

/-- GLB page. -/
def State.readGlb (s : State) (ofs : Nat) : Reg :=
  let m := s.mode
  match ofs with
  | 0x040 => glbVersion
  | 0x044 => s.ucodeId
  | 0x048 => fld s.degGroups.toNat 16 ||| fld (buKindCode m.buKind) 10 ||| fld (modeCode m.mode) 0
  | 0x04C => flag m.stuck 31 ||| fld m.cause.toNat 28 ||| fld m.buSlice.toNat 20 ||| fld m.keepSrc.toNat 16 ||| fld m.shortGrp.toNat 8 |||
      fld (if m.stuck then 0xF else s.stepNow.toNat) 4
  | 0x054 => flag s.regs.locked 0
  | 0x058 => flag s.regs.seq.held 31 ||| flag s.regs.seq.overflow 30 ||| fld (if s.regs.seq.held then s.regs.seq.owner.toNat else 0) 24
  | 0x05C => satField s.leaseUs 14 16 ||| fld s.regs.seq.staged.length 0
  | 0x060 => s.intTop
  | _ => if 0x080 ≤ ofs ∧ ofs < 0x0A0 then s.summary ((ofs - 0x080) / 4) else s.stored pageGlb ofs

/-! ### PWR (R321) -/

/-- PWR_SLEEP_STATUS.PHASE (R311). -/
def sleepPhaseCode (p : SleepPhase) : Nat :=
  match p with
  | .awake => 0 | .prepare1 => 1 | .prepare2 => 2 | .rollback => 3 | .entering => 4 | .asleep => 5 | .waking => 6 | .squall => 7

/-- PWR page. -/
def State.readPwr (s : State) (ofs : Nat) : Reg :=
  let p := s.pwr
  let mon := s.cfgField pagePwr 0x05C 3 0
  let dom (w : Nat) : Reg := maskOf 32 fun i => decide (32 * w + i < 100) && s.domainOn (32 * w + i)
  match ofs with
  | 0x04C => fld (sleepPhaseCode p.phase) 28 ||| fld p.result.toNat 25 ||| fld p.target.toNat 22 ||| fld s.sleepState.toNat 20 |||
      fld p.refuser.toNat 12 ||| fld p.reason.toNat 8 ||| fld p.wakeSrc.toNat 4
  | 0x054 => fld p.pl.toNat 30 ||| fld p.plCap.toNat 28 ||| flag p.switching 27 ||| flag p.vfault 26 ||| flag s.ao.onVbk 25 |||
      flag s.ao.vbkLow 24 ||| flag s.ao.lost 23 ||| flag s.thermHi 22 ||| fld p.vofs.toNat 16 ||| fld s.pins.coreVid.toNat 8 |||
      fld s.pins.sliceVid.toNat 0
  | 0x058 => fld p.sliceMv.toNat 16 ||| fld p.coreMv.toNat 0
  | 0x060 => flag (s.paceBelow mon) 31 ||| fld (paceFloor p.pl.toNat) 16 ||| fld (p.paceMhz[mon]?.getD 0).toNat 0
  | 0x064 => fld p.coreTemp.toNat 24 ||| fld s.hottest.2.toNat 16 ||| fld s.hottest.1.val 0
  | 0x080 => dom 0 | 0x084 => dom 1 | 0x088 => dom 2 | 0x08C => dom 3
  | 0x090 => p.sleepCnt
  | 0x094 => p.refuseCnt
  | 0x098 => s.ao.swover
  | _ =>
    if 0x0A0 ≤ ofs ∧ ofs < 0x0D8 then
      let v := s.ao.res[(ofs - 0x0A0) / 8]?.getD 0
      if ofs % 8 = 0 then loWord v else hiWord v
    else s.stored pagePwr ofs

/-! ### BRZ (R362) -/

/-- BRZ page. -/
def State.readBrz (s : State) (ofs : Nat) : Reg :=
  let b := s.brz
  match ofs with
  | 0x040 => b.cfg
  | 0x044 => (b.peers ||| (1#8 <<< b.addr.toNat)).setWidth 32
  | 0x048 => b.conc.setWidth 32
  | 0x04C => b.tokenWait.setWidth 32
  | 0x050 => fld b.addr.toNat 29 ||| flag b.busy 28 ||| flag b.stuck 27 ||| flag s.squall.token 26 ||| flag b.dupAddr 25 |||
      fld s.squall.peerDone.toNat 16 ||| fld s.squall.tokenSeen.toNat 8 ||| fld b.wires.toNat 0
  | 0x06C => flag b.txHost.isSome 31 ||| fld b.txResult.toNat 28
  | 0x070 => flag b.rxValid 31 ||| flag b.rxOver 30 ||| fld b.rxSrc.toNat 16 ||| fld b.rxCmd.toNat 8 ||| fld b.rxLen.toNat 0
  | 0x074 => wordAt b.rxData 0 | 0x078 => wordAt b.rxData 1 | 0x07C => wordAt b.rxData 2 | 0x080 => wordAt b.rxData 3
  | 0x090 => b.crcCnt | 0x094 => b.toCnt | 0x098 => b.arbCnt | 0x09C => b.collCnt | 0x0A0 => b.dropCnt
  | _ => s.stored pageBrz ofs

/-! ### SEC and OTP (R473, R474) -/

/-- SEC_STATUS.REG_ERR: enabled regions that name a slot not READY. -/
def State.regErr (s : State) : BitVec 16 :=
  maskOf 16 fun n => s.cfgBit pageSec (0x100 + 8 * n) 31 && !s.regionReady n

/-- SEC page. -/
def State.readSec (s : State) (ofs : Nat) : Reg :=
  let x := s.sec
  match ofs with
  | 0x040 => flag (x.rootOk 0) 31 ||| flag (x.rootOk 1) 30 ||| fld x.keepRoot.toNat 28 ||| fld s.regErr.toNat 0
  | 0x044 => (List.range 16).foldl (fun r k => r ||| fld ((x.slots[k]?.map KeySlot.st).getD 0).toNat (2 * k)) 0
  | 0x050 => flag (x.cmdBusy || x.loading) 31 ||| fld x.cmdResult.toNat 28
  | 0x088 => fld x.patchReason.toNat 28 ||| fld x.patchSeen.toNat 0
  | 0x08C => x.denyCnt
  | _ => s.stored pageSec ofs

/-- The word in OTP_READ_SEL. -/
def State.otpSel (s : State) : Nat := s.cfgField pageOtp 0x040 5 0

/-- OTP page; root words read zero (R461). -/
def State.readOtp (s : State) (ofs : Nat) : Reg :=
  let x := s.sec
  let i := s.otpSel
  let r := x.otp i
  let hidden := otpProtected i
  match ofs with
  | 0x044 => if hidden then 0 else loWord r.data
  | 0x048 => if hidden then 0 else hiWord r.data
  | 0x04C => fld r.st.toNat 30 ||| flag hidden 29 ||| flag r.ce 28 ||| flag r.uc 27 ||| fld (if r.st = 3 then r.spare.toNat else 0) 0
  | 0x064 => flag x.otpBusy 31 ||| flag s.otpSupplyOk 30 ||| fld x.otpResult.toNat 27 ||| fld x.freeSpares.length 0
  | 0x068 => x.otpCe
  | 0x06C => x.otpUc
  | 0x070 => x.otpRe
  | _ => s.stored pageOtp ofs

/-! ### ERR (R437) -/

/-- The entry in ERR_LOG_SEL: of the ring, or of the restored Squall log. -/
def State.selEntry (s : State) : Option LogEntry :=
  let sel := s.cfg pageErr 0x04C
  let k := fieldOf sel 6 0
  if bitOf sel 31 then s.err.sqLog[k]? else s.err.ring[k]?.getD none

/-- Word `k` of an entry; zero for none. -/
def entryWord (e : Option LogEntry) (k : Nat) : Reg :=
  match e with
  | some x => wordAt x.bytes k
  | none => 0

/-- ERR page. -/
def State.readErr (s : State) (ofs : Nat) : Reg :=
  let e := s.err
  match ofs with
  | 0x048 => flag e.fatal 31 ||| flag (e.unack == 32) 30 ||| flag e.first.isSome 29 ||| fld e.unack 16 ||| fld e.oldest 8 ||| fld e.next.toNat 0
  | 0x0A0 => flag e.sqValid 31 ||| flag e.sqOvf 30 ||| fld e.sqCause.toNat 16 ||| satField e.sqLog.length 7 0
  | 0x0B0 => e.ceCnt | 0x0B4 => e.rcvCnt | 0x0B8 => e.ucCnt | 0x0BC => e.fatalCnt | 0x0C0 => e.ovfCnt | 0x0C4 => e.keepCnt
  | _ =>
    if 0x050 ≤ ofs ∧ ofs < 0x070 then entryWord s.selEntry ((ofs - 0x050) / 4)
    else if 0x080 ≤ ofs ∧ ofs < 0x0A0 then entryWord e.first ((ofs - 0x080) / 4)
    else s.cfg pageErr ofs

/-! ### TEL (R457) -/

/-- One half of a 48-bit counter with its OVF bit. -/
def counterHalf (ofs : Nat) (v : BitVec 48) (ovf : Bool) : Reg :=
  if ofs % 8 = 0 then v.extractLsb' 0 32 else flag ovf 31 ||| (v.extractLsb' 32 16).setWidth 32

/-- The slice bank in view (R445). -/
def State.bankView (s : State) : SliceBank :=
  match s.slices[s.cfgField pageTel 0x064 6 0]? with
  | none => SliceBank.reset
  | some x => if s.cfgBit pageTel 0x064 31 then x.snapBank else x.bankSeen (s.asleepIn 2)

/-- The system counters and OVF bits in view (R445). -/
def State.sysView (s : State) : Vector (BitVec 48) 8 × BitVec 8 :=
  if s.cfgBit pageTel 0x064 31 then (s.tel.snapSys, s.tel.snapOvf) else (s.tel.sys, s.tel.sysOvf)

/-- Whether a slice has an OVF bit set. -/
def Slice.anyOvf (x : Slice) : Bool := x.bank.ovf != 0

/-- TEL page; the words that pop are taken elsewhere. -/
def State.readTel (s : State) (ofs : Nat) : Reg :=
  let t := s.tel
  match ofs with
  | 0x04C => flag t.snapValid 31 ||| flag t.snapBusy 30 ||| flag (t.sysOvf != 0 || s.slices.toList.any Slice.anyOvf) 29
  | 0x050 => loWord t.snapTime | 0x054 => hiWord t.snapTime
  | 0x058 => loWord s.tb | 0x05C => hiWord s.tb
  | 0x068 => (s.bankView.slot).extractLsb' 0 32
  | 0x06C => flag (s.bankView.ovf.getLsbD 0) 31 ||| (s.bankView.slot.extractLsb' 32 16).setWidth 32
  | 0x090 => s.sliceMask 0 Slice.anyOvf | 0x094 => s.sliceMask 1 Slice.anyOvf | 0x098 => s.sliceMask 2 Slice.anyOvf
  | 0x09C => t.sysOvf.setWidth 32
  | 0x10C => flag t.underrun 31 ||| flag t.dropping 30 ||| fld t.fill.length 16 ||| fld t.read.length 0
  | 0x118 => t.sampCnt | 0x11C => t.dropCnt | 0x120 => t.gapCnt
  | _ =>
    if 0x070 ≤ ofs ∧ ofs < 0x090 then
      let k := (ofs - 0x070) / 8
      counterHalf ofs (s.bankView.cnt[k]?.getD 0) (s.bankView.ovf.getLsbD (k + 1))
    else if 0x0C0 ≤ ofs ∧ ofs < 0x100 then
      let k := (ofs - 0x0C0) / 8
      counterHalf ofs (s.sysView.1[k]?.getD 0) (s.sysView.2.getLsbD k)
    else s.stored pageTel ofs

/-! ### FAB, ARB and SHR (R157, R159, R176) -/

/-- The hub in FAB_RT_SEL. -/
def State.fabHub (s : State) : Fin 8 := groupOf (s.cfgField pageFab 0x044 2 0)

/-- One route of FAB_RT_MAP. -/
def routeBits (r : Route) : Nat := r.slice.val + (if r.absent then 0x4000 else 0)

/-- FAB page. -/
def State.readFab (s : State) (ofs : Nat) : Reg :=
  let h := s.hubs[s.fabHub]
  let f := s.fab
  match ofs with
  | 0x05C => fld h.epoch.toNat 16 ||| fld h.old.length 10 ||| flag (!h.old.isEmpty) 9 ||| fld (s.oldOut s.fabHub) 0
  | 0x060 => f.fence.extractLsb' 0 32 | 0x064 => f.fence.extractLsb' 32 32 | 0x068 => (f.fence.extractLsb' 64 16).setWidth 32
  | 0x06C => f.lateCnt | 0x070 => f.holdCnt | 0x074 => f.cancelCnt
  | 0x07C => flag f.wrst 16 ||| maskOf 32 fun g => (s.hubs[g]?.map fun x => !x.parked.isEmpty).getD false
  | _ =>
    if 0x048 ≤ ofs ∧ ofs < 0x05C then
      let k := (ofs - 0x048) / 4
      let half (m : Nat) : Nat := (h.table[m]?.map routeBits).getD 0
      fld (half (2 * k)) 0 ||| fld (half (2 * k + 1)) 16
    else s.cfg pageFab ofs

/-- ARB_STATUS.COMBI: in BRING-UP and DIAGNOSTIC, and at a hub in recovery, decisions are combinational (R144, R153). The rule does not
name HOLD-UP; that every mode outside RUN and DEGRADED reads 1 is the model's choice (assumption 68). -/
def State.combi (s : State) (g : Fin 8) : Bool := !s.inService || s.fencePending g

/-- ARB page. -/
def State.readArb (s : State) (ofs : Nat) : Reg :=
  match ofs with
  | 0x048 => (maskOf 8 fun h => s.starvedAt (groupOf h)).setWidth 32 <<< 16 ||| (maskOf 8 fun h => s.combi (groupOf h)).setWidth 32
  | 0x050 => (s.hubs[groupOf (s.cfgField pageArb 0x04C 2 0)]).tick.setWidth 32
  | 0x054 => s.fab.preemptCnt
  | _ =>
    if 0x100 ≤ ofs ∧ ofs < 0x2A0 then
      let k := (ofs - 0x100) / 16
      match ofs % 16 with
      | 0 => s.fab.grants[k]?.getD 0
      | 4 => s.fab.waits[k]?.getD 0
      | 8 => s.fab.longest[k]?.getD 0
      | _ => 0
    else s.cfg pageArb ofs

/-- Classes that are guaranteed and not shed. -/
def State.guarMask (s : State) : BitVec 8 := maskOf 8 s.clsReserved

/-- The shed set; every class in the safe state ("SHR page"). -/
def State.shedMask (s : State) : BitVec 8 := if s.parity pageShr then 0xFF else s.shr.shed

/-- SHR page. -/
def State.readShr (s : State) (ofs : Nat) : Reg :=
  let x := s.shr
  let h : Fin 8 := groupOf (s.cfgField pageShr 0x060 2 0)
  match ofs with
  | 0x050 => flag s.overcommit 31 ||| flag s.paceLow 30 ||| flag x.busy 29 ||| flag x.residual 28 ||| flag s.orderErr 27 |||
      fld x.cause.toNat 24 ||| fld s.shedMask.toNat 16 ||| fld s.guarMask.toNat 8
  | 0x054 => x.feasD.setWidth 32
  | 0x058 => x.feasG.setWidth 32
  | 0x064 => fld (min 255 (s.paceOf s.pwr.pl.toNat h.val * 128 / 100000)) 24 ||| fld x.fRef[h].toNat 16 ||| fld (s.degCode h) 10 ||| satField (s.occ h none) 10 0
  | 0x068 => x.ovcCnt
  | 0x06C => x.missCnt
  | _ =>
    if 0x080 ≤ ofs ∧ ofs < 0x100 ∧ 8 ≤ ofs % 16 then
      let c := (ofs - 0x080) / 16
      let y := x.classes[c]?.getD ClassSt.reset
      if ofs % 16 = 8 then
        satField (y.avg / avgUnit) 16 16 ||| flag (s.shedMask.getLsbD c) 3 ||| flag (s.clsReserved c) 2 ||| fld (s.clsBoost c) 0
      else y.maxNs
    else s.stored pageShr ofs

/-! ### LDG (R125) -/

/-- LDG_GRP_INFO.STATE (R100). -/
def groupCode (g : GroupSt) : Nat := match g with | .free => 0 | .open_ => 1 | .committing => 2 | .committed => 3 | .aborted => 4

/-- Entries of a half that are not CLEAN. -/
def State.dirtyIn (s : State) (half : Nat) : Nat :=
  let l := s.ledger.entries.filter fun e => e.1 % 2 == half
  let listed := (l.filter fun e => (unpackEntry e.2).st != entClean).length
  if (unpackEntry s.ledger.fill).st = entClean then listed else listed + (262144 - l.length)

/-- The entry in LDG_ENTRY_SEL after ECC correction; the ECC bits as stored. -/
def State.selLedger (s : State) : BitVec 96 :=
  let v := s.rawEntry (s.cfgField (pageLdg 0) 0x064 18 0)
  match secdedCheck 88 (v.extractLsb' 0 88).toNat (v.extractLsb' 88 8) with
  | .corrected d => (v.extractLsb' 88 8) ++ BitVec.ofNat 88 d
  | _ => v

/-- LDG pages. -/
def State.readLdg (s : State) (n ofs : Nat) : Reg :=
  let x := s.ledger
  let grp := s.group (s.cfgField (pageLdg 0) 0x05C 11 0)
  let halves : Reg :=
    match ofs with
    | 0x0A0 => fld (min 16 (s.demandBusy (halfOf n))) 24 ||| satField (s.dirtyIn n) 19 0
    | 0x0A4 => (x.cursor (halfOf n)).setWidth 32
    | 0x0A8 => if n = 0 then x.ce0 else x.ce1
    | 0x0AC => if n = 0 then x.uc0 else x.uc1
    | _ => s.stored (pageLdg (halfOf n)) ofs
  if n ≠ 0 then halves
  else match ofs with
    | 0x060 => fld (groupCode grp.st) 29 ||| satField grp.entries 20 0
    | 0x068 => (s.selLedger).extractLsb' 0 32 | 0x06C => (s.selLedger).extractLsb' 32 32 | 0x070 => (s.selLedger).extractLsb' 64 32
    | 0x074 => fld (x.groups.filter fun g => g.2.st == .open_ || g.2.st == .committing).length 16 |||
        fld (4096 - (x.groups.filter fun g => g.2.st != .free).length) 0
    | 0x078 => flag x.frozen 31 ||| flag s.sweepActive 30 ||| flag x.cfgHold 29 ||| fld x.cfgErr.toNat 24 ||| fld x.image.toNat 16
    | 0x080 => x.commitCnt | 0x084 => x.abortCnt | 0x088 => x.conflictCnt | 0x08C => x.fullCnt | 0x090 => x.exhaustCnt
    | _ => halves

/-! ### DBG and VANE (R412, R409) -/

/-- DBG page. -/
def State.readDbg (s : State) (ofs : Nat) : Reg :=
  let d := s.dbg
  match ofs with
  | 0x060 => flag d.busy 31 ||| flag d.captured 30 ||| flag d.capArmed 29 ||| fld d.code.toNat 24 ||| flag d.poison 23 ||| fld d.err.toNat 20
  | 0x064 => d.touched.setWidth 32
  | 0x06C => d.capData.extractLsb' 0 32 | 0x070 => d.capData.extractLsb' 32 32
  | 0x074 => d.capData.extractLsb' 64 32 | 0x078 => d.capData.extractLsb' 96 32
  | 0x07C => loWord d.capTime | 0x080 => hiWord d.capTime
  | _ => s.stored pageDbg ofs

/-- VANE_STATUS.STATE: a command, or idle or background work, which the manual gives no way to tell apart: a free value (R409). -/
def State.vaneState (s : State) (v : Fin 24) : Nat := if s.vanes[v].busy then 2 else (s.freeVal 1).toNat

/-- VANE pages. -/
def State.readVane (s : State) (v : Fin 24) (ofs : Nat) : Reg :=
  let x := s.vanes[v]
  match ofs with
  | 0x040 => s.vaneId v
  | 0x044 => fld (s.vaneState v) 30 ||| satField (Config.busyPct v.val s.tb.toNat).toNat 7 16
  | 0x060 => flag x.doneBit 31 ||| flag x.busy 30 ||| flag x.ringLost 29 ||| fld x.code.toNat 24 ||| fld x.reason.toNat 16 ||| fld x.seq.toNat 0
  | 0x064 => x.rdata[0] | 0x068 => x.rdata[1] | 0x06C => x.rdata[2] | 0x070 => x.rdata[3]
  | 0x074 => x.cmdCnt
  | 0x078 => x.refuseCnt
  | _ => s.stored (pageVane v) ofs

/-! ### SPR (R284) -/

/-- Member state codes (R256). -/
def memberCode (x : MemSt) : Nat :=
  match x with | .healthy => 0 | .absent => 1 | .rebuilding => 2 | .resync => 3 | .evacuating => 4 | .returning => 5

/-- SPR_GRPg_RLY.KIND. -/
def rlyKindCode (k : RlyKind) : Nat := match k with | .rebuild => 1 | .resync => 2 | .evacuate => 3 | .return_ => 4

/-- A per-group register of SPR. -/
def State.readSprGroup (s : State) (g : Fin 8) (k : Nat) : Reg :=
  let st (m : Fin 9) : Nat := if s.populated g then memberCode (s.member g m).st else 0
  let r := s.spr.rly[g]
  match k with
  | 0 => (allMembers.filter fun m => decide (m.val < 8)).foldl (fun v m => v ||| fld (st m) (4 * m.val)) 0
  | 4 => match r with
    | some x => flag x.full 31 ||| fld x.dst.val 24 ||| fld ((x.src.map fun c => c.val).getD 0x7F) 16 ||| fld x.mem.val 12 |||
        fld (rlyKindCode x.kind) 8 ||| fld (st 8) 0
    | none => fld 0x7F 24 ||| fld 0x7F 16 ||| fld 0xF 12 ||| fld (st 8) 0
  | 8 => match r with
    | some x => BitVec.ofNat 32 x.bound
    | none => 0
  | _ => BitVec.ofNat 32 s.ao.ckpt[g]

/-- The loss-map entry in SPR_LOSS_SEL as bytes. -/
def State.selLoss (s : State) : List Byte :=
  match s.spr.loss[s.cfgField pageSpr 0x08C 7 0]? with
  | some l => l.bytes
  | none => []

/-- SPR page. -/
def State.readSpr (s : State) (ofs : Nat) : Reg :=
  let x := s.spr
  let free (y : Slice) : Bool := y.health.role == roleSpareFree
  let quar (y : Slice) : Bool := y.health.role == roleQuarantine || y.health.role == roleTesting
  let groups (f : Fin 8 → Bool) : Nat := (maskOf 8 fun g => f (groupOf g)).toNat
  match ofs with
  | 0x050 => fld x.result.toNat 24
  | 0x054 => fld s.freeSpares.length 24 ||| fld (groups s.rlyRunning) 16 ||| fld (groups s.rlyStopped) 8 |||
      fld (groups fun g => (x.queue.any fun q => q.1 == g) || (match x.rly[g] with | some r => !r.running && !s.rlyStopped g | none => false)) 0
  | 0x058 => s.sliceMask 0 free | 0x05C => s.sliceMask 1 free | 0x060 => s.sliceMask 2 free
  | 0x064 => s.sliceMask 0 quar | 0x068 => s.sliceMask 1 quar | 0x06C => s.sliceMask 2 quar
  | 0x070 => s.patrolPosReg
  | 0x074 => x.patCyc | 0x078 => x.failCnt | 0x07C => x.doneCnt | 0x080 => x.pfixCnt | 0x084 => x.lostWrCnt
  | 0x088 => flag (decide (256 ≤ x.loss.length)) 31 ||| fld x.dropped.toNat 9 ||| satField x.loss.length 9 0
  | 0x090 => wordAt s.selLoss 0 | 0x094 => wordAt s.selLoss 1 | 0x098 => wordAt s.selLoss 2 | 0x09C => wordAt s.selLoss 3
  | _ =>
    if 0x100 ≤ ofs ∧ ofs < 0x180 then s.readSprGroup (groupOf ((ofs - 0x100) / 16)) (ofs % 16)
    else s.stored pageSpr ofs

/-! ### PRT and ING (R67, R93) -/

/-- PRT pages. -/
def State.readPrt (s : State) (p : Fin 16) (ofs : Nat) : Reg :=
  let x := s.ports[p]
  let l := s.portReqs p
  match ofs with
  | 0x048 => fld x.epoch.toNat 24 ||| fld x.isoCause.toNat 8 ||| flag x.isolated 7 ||| flag (l.any Req.stuck) 6 ||| flag x.rstActive 5 |||
      flag x.rstDone 4 ||| flag l.isEmpty 3 |||
      flag (s.cfgBit (pagePort p) 0x040 0 && !x.isolated && !x.rstActive && !x.pinLow && s.inService && !s.asleepIn 2) 0
  | 0x080 => satField l.length 11 0
  | 0x084 => x.discardCnt | 0x088 => x.denyCnt | 0x08C => x.backoffCnt | 0x090 => x.malfCnt
  | _ => s.stored (pagePort p) ofs

/-- ING_STATUS.STATE (R77). -/
def ingCode (p : IngPhase) : Nat := match p with | .off => 0 | .idle => 1 | .open_ => 2 | .drop => 3 | .closing => 4 | .frozen => 5

/-- ING pages. -/
def State.readIng (s : State) (n : Fin 8) (ofs : Nat) : Reg :=
  let x := s.ingest[n]
  match ofs with
  | 0x044 => flag x.enWanted 0
  | 0x04C => flag x.frozen 31 ||| flag (x.phase == .drop) 30 ||| flag (s.ringFull n) 29 ||| flag (s.fullWarn n) 28 |||
      flag x.trigPend 27 ||| fld x.cfgErr.toNat 24 ||| fld (ingCode x.phase) 16 ||| satField x.heldLines 12 0
  | 0x060 => loWord x.cwp | 0x064 => hiWord x.cwp
  | 0x068 => loWord x.rp | 0x06C => hiWord x.rp
  | 0x070 => loWord x.trigPos | 0x074 => hiWord x.trigPos
  | 0x078 => loWord x.pos | 0x07C => hiWord x.pos
  | 0x080 => loWord x.drop | 0x084 => hiWord x.drop
  | 0x088 => x.disc | 0x08C => x.gapCnt | 0x090 => x.segCnt
  | _ => s.stored (pageIng n) ofs

/-! ### GRP (R201) -/

/-- The stripe of V19's next zero fill. -/
def State.zeroPos (s : State) (g : Fin 8) : Reg :=
  match s.hubs[g].voids with
  | [] => 0xFFFFFFFF
  | r :: _ => BitVec.ofNat 32 (8 * r.1)

/-- Whether a member's serving slice is stalled. -/
def State.memberStalled (s : State) (g : Fin 8) (m : Fin 9) : Bool :=
  let x := s.slices[(s.member g m).slice]
  s.populated g && x.on && x.stalled

/-- The journal entry in GRP_JRNL_SEL as bytes. -/
def State.selJournal (s : State) (g : Fin 8) : List Byte :=
  journalEntry s.hubs[g].journal (s.cfgField (pageGrp g) 0x058 8 0)

/-- GRP pages. -/
def State.readGrp (s : State) (g : Fin 8) (ofs : Nat) : Reg :=
  let h := s.hubs[g]
  let ms (f : Fin 9 → Bool) : Nat := (maskOf 9 fun m => f (memberOf m)).toNat
  match ofs with
  | 0x044 => flag (s.populated g) 31 ||| flag (!h.voids.isEmpty) 30 ||| flag (s.populated g && s.keepGroups.1 == g) 29 |||
      flag (s.populated g && s.keepGroups.2 == g) 28 ||| fld (ms (s.memberStalled g)) 16 |||
      fld (ms fun m => s.populated g && s.unreachable g m) 0
  | 0x04C => fld h.jpeak.toNat 16 ||| fld h.journal.length 0
  | 0x050 => s.zeroPos g
  | 0x054 => fld h.voidQ.toNat 8 ||| fld h.retained.toNat 0
  | 0x05C => wordAt (s.selJournal g) 0 | 0x060 => wordAt (s.selJournal g) 1
  | 0x064 => wordAt (s.selJournal g) 2 | 0x068 => wordAt (s.selJournal g) 3
  | 0x070 => h.rtCnt | 0x074 => h.rcvCnt | 0x078 => h.cwfixCnt | 0x07C => h.poisonCnt
  | 0x080 => h.fullCnt | 0x084 => h.partCnt | 0x088 => h.xorCnt | 0x08C => h.jwaitCnt
  | 0x0A4 =>
    if g = 0 then
      fld (maskOf 8 fun n => (s.keepRegion n).1 && s.keepRegBad n).toNat 16 ||| fld (maskOf 8 s.keepRegActive).toNat 8 ||| fld s.keepCfgErr 0
    else 0
  | _ => s.cfg (pageGrp g) ofs

/-! ### CH (R227, R254, R283) -/

/-- The lag of a slice's group timeline (R216). -/
def State.lagOf (s : State) (c : Fin 80) : Nat :=
  match s.windowOf c with
  | some (g, _) => s.hubs[g].line.lag
  | none => 0

/-- Milliseconds since a slice's last Lull. -/
def State.sinceLull (s : State) (c : Fin 80) : Nat := (s.tb.toNat - s.slices[c].train.tLull.toNat) / 1000000

/-- CH pages: scheduling registers. -/
def State.readChSched (s : State) (c : Fin 80) (ofs : Nat) : Reg :=
  let y := s.slices[c]
  let x := y.sched
  match ofs with
  | 0x04C => flag x.hot 31 ||| flag x.perBank 30 ||| fld x.mult.toNat 28 ||| satField x.owed 4 24 ||| fld x.rr.toNat 16 ||| satField (s.lagOf c) 16 0
  | 0x060 => flag x.gust 31 ||| fld x.gustCause.toNat 28 ||| satField x.wq.length 8 16 ||| satField x.rq.length 7 0
  | 0x064 => fld x.peak.toNat 16 ||| satField x.retry.length 7 0
  | 0x068 => satField (x.ckc.filter CkLine.dirty).length 10 16 ||| satField x.ckc.length 10 0
  | 0x09C => flag x.tclamp 0
  | _ =>
    if 0x070 ≤ ofs ∧ ofs < 0x090 then y.cnt[(ofs - 0x070) / 4]?.getD 0
    else s.stored (pageCh c) ofs

/-- The member that a slice shows: one that is FAILED, in quarantine or not there serves none (R257, R283). -/
def Health.shown (x : Health) : Option (Fin 9) := if x.role = roleHome ∨ x.role = roleAttached then x.mem else none

/-- CH pages: member registers. -/
def State.readChMember (s : State) (c : Fin 80) (ofs : Nat) : Reg :=
  let h := s.slices[c].health
  match ofs with
  | 0x0C8 => fld h.role.toNat 28 ||| flag h.tested 27 ||| fld (if h.shown.isSome then h.grp.val else 0) 24 |||
      fld ((h.shown.map fun m => m.val).getD 0xF) 20 ||| fld h.cause.toNat 16 ||| satField h.errLevel 8 0
  | 0x0CC => h.mismatch
  | 0x0D0 => loWord h.failTime | 0x0D4 => hiWord h.failTime
  | _ => s.stored (pageCh c) ofs

/-- CH pages: training registers. -/
def State.readChTrain (s : State) (c : Fin 80) (ofs : Nat) : Reg :=
  let y := s.slices[c]
  let x := y.train
  match ofs with
  | 0x10C => fld x.st.toNat 28 ||| fld x.snapValid.toNat 24 ||| fld x.pl.toNat 22 ||| flag x.fsp 21 ||| flag x.marginFail 20 |||
      flag x.lullReq 19 ||| flag x.switching 18 ||| flag x.lecc 17 ||| flag x.dbi 16 ||| fld x.failStep.toNat 13 ||| fld x.failPl.toNat 11 |||
      fld x.refuse.toNat 8 ||| flag x.cmdRefused 7
  | 0x110 => x.devId
  | 0x114 => fld x.temp.toNat 24 ||| fld x.drift.toNat 16 ||| satField (s.sinceLull c) 16 0
  | 0x144 => flag x.scanBusy 31 ||| fld x.scanErr.toNat 28
  | 0x148 => x.res0 | 0x14C => x.res1 | 0x150 => x.res2
  | _ =>
    if 0x118 ≤ ofs ∧ ofs < 0x130 then y.tcnt[(ofs - 0x118) / 4]?.getD 0
    else s.stored (pageCh c) ofs

/-! ### Any page -/

/-- A port, mailbox or slice number of a page's instance. -/
def portOf (n : Nat) : Fin 16 := ⟨n % 16, by omega⟩
def vaneOf (n : Nat) : Fin 24 := ⟨n % 24, by omega⟩

/-- What a register of a page reads as, its offset folded below the page's span. -/
def State.regRead (s : State) (page ofs : Nat) : Reg :=
  match pageKind page with
  | none => 0
  | some (k, n) =>
    if ofs < 0x040 then s.readHeader page ofs k n
    else match k with
      | .glb => s.readGlb ofs
      | .pwr => s.readPwr ofs
      | .brz => s.readBrz ofs
      | .sec => s.readSec ofs
      | .otp => s.readOtp ofs
      | .err => s.readErr ofs
      | .tel => s.readTel ofs
      | .fab => s.readFab ofs
      | .arb => s.readArb ofs
      | .shr => s.readShr ofs
      | .ldg => s.readLdg n ofs
      | .dbg => s.readDbg ofs
      | .spr => s.readSpr ofs
      | .prt => s.readPrt (portOf n) ofs
      | .ing => s.readIng (groupOf n) ofs
      | .grp => s.readGrp (groupOf n) ofs
      | .vane => s.readVane (vaneOf n) ofs
      | .ch =>
        if ofs < 0x0C0 then s.readChSched (sliceOf n) ofs
        else if ofs < 0x100 then s.readChMember (sliceOf n) ofs
        else s.readChTrain (sliceOf n) ofs

end Sys2Proof.Machine
end

