-- ==== Sys2Proof/Machine/Slices.lean ====
section
/-!
DEFINITION. The meanings of the channel-slice commands: command issue and Gusts (R209, R211), refresh (R212 to R217), parity
alerts and replay (R224), check-line flush (R221) and the CH counters (R228).
-/
namespace Sys2Proof.Machine

/-- SLICE_COMMAND_ISSUE (R209). -/
def execSliceCommandIssue (c : Fin 80) (late : Nat) (s : State) : Host.Outcome State Fault Refusal := .next (s.issueCmd c late)

/-- GUST_WR_AGE: the oldest write has waited WR_AGE (R211 cause 2). -/
def execGustWrAge (c : Fin 80) (s : State) : Host.Outcome State Fault Refusal :=
  .next (
    let old := match s.slices[c].sched.wq with
      | o :: _ => decide (s.wrAgeNs c ≤ s.waited o)
      | [] => false
    if old && !s.slices[c].sched.gust && s.mayIssue c then s.startGust c 2 else s)

/-- The boundary of a slice on its own timeline (R218). -/
def State.ownBoundary (s : State) (c : Fin 80) : State := if s.slices[c].sched.inRef then s else (s.atBoundary c).forceRefresh c

/-- REFRESH_BOUNDARY: the boundary of the member window due next, or of a slice on its own timeline, as one is that takes a member's windows
only from the next cycle on (R214, R218). -/
def execRefreshBoundary (c : Fin 80) (s : State) : Host.Outcome State Fault Refusal :=
  .next (
    if s.slices[c].refreshes = false || s.slices[c].health.cmdReset then s
    else match s.placeOf c with
      | some (g, m) =>
        let joined := !s.slices[c].sched.nextCyc
        if s.hubs[g].line.running && s.nextDue g == some m && (joined || s.hubs[g].line.turns m) then s.windowBoundary g m
        else if joined then s
        else s.ownBoundary c
      | none => s.ownBoundary c)

/-- TLEAD_EXPIRY: refresh takes the bus (R214, R154). -/
def execTleadExpiry (c : Fin 80) (s : State) : Host.Outcome State Fault Refusal :=
  .next (if s.slices[c].sched.tLead then (s.refreshNow c).bumpCh c 7 else s)

/-- REFRESH_STALL_END: tRFCab after REFab the stall ends and the token is free (R214); in S1 the slice returns to power-down (R218). -/
def execRefreshStallEnd (c : Fin 80) (s : State) : Host.Outcome State Fault Refusal :=
  .next (
    if s.slices[c].sched.inRef = false then s
    else
      let s := (s.modSched c fun x => { x with inRef := false }).releaseToken c
      let s := if s.pwr.phase == .asleep && s.pwr.asleep == 1 && s.slices[c].power == .active then s.modSlice c fun x => { x with power := .powerDown } else s
      s.kick s.slices[c].health.grp)

/-- REFpb commands between two boundaries of a slice: eight per tREFI_eff, over the 3,906 ns of its group's cycle and what inserted windows
make it longer, or over one tREFI_eff on its own timeline (R213, R215, R216, R505). -/
def State.perBankQuota (s : State) (c : Fin 80) : Nat :=
  match s.windowOf c with
  | some (g, _) => 8 * 2 ^ (s.slices[c].sched.mult.toNat - 1) * (3906 + s.hubs[g].line.lag) / 3906
  | none => 8

/-- PER_BANK_REFRESH: REFpb to the next bank pair, eight per interval (R215). -/
def execPerBankRefresh (c : Fin 80) (s : State) : Host.Outcome State Fault Refusal :=
  .next (
    let x := s.slices[c].sched
    if s.slices[c].refreshes = false || x.perBank = false || decide (s.perBankQuota c ≤ x.pbDone) then s
    else
      let pair := x.pbDone % 8
      ((s.modSched c Sched.settle).pushCmd c (.refPb pair)).modSched c fun x => { x with pbDone := x.pbDone + 1, rows := x.rows.filter fun r => r.1 % 8 != pair })

/-- The multiplier code a device status calls for (R212). -/
def tempMult (t : DevTemp) : BitVec 2 :=
  match t with
  | .low => 0 | .nominal => 1 | .need2x => 2 | .need4x => 3 | .aboveLimit => 3

/-- REFRESH_RATE_POLL: the multiplier follows the worst status; an increase waits for the feasibility result (R212, R173). -/
def execRefreshRatePoll (c : Fin 80) (worst : DevTemp) (field : BitVec 8) (s : State) : Host.Outcome State Fault Refusal :=
  .next (
    if s.slices[c].refreshes = false then s
    else
      let x := s.slices[c].sched
      let want := BitVec.ofNat 2 (max (tempMult worst).toNat (s.cfgField (pageCh c) 0x048 1 0))
      let hot := worst == .aboveLimit
      let rise := hot && !x.hot
      let first := hot && !x.hotSeen
      let s := s.modSched c fun x => { x with rr := field, hot := hot, hotSeen := x.hotSeen || hot }
      let s := s.raiseIf rise (pageCh c) 2
      let s := if first then s.logError { cls := clsCe, page := pageCh c, code := 0x0013, detail := field.setWidth 64 } else s
      if want = x.mult then s.modSched c fun x => { x with nextMult := none, multOk := false }
      else if x.nextMult = some want then s
      else if want.toNat < x.mult.toNat then s.modSched c fun x => { x with nextMult := some want, multOk := true }
      else (s.modSched c fun x => { x with nextMult := some want, multOk := false }).feasTrigger)

/-- Whether a slice issues commands to its devices at all: powered, and out of self-refresh (R224). -/
def Slice.drives (x : Slice) : Bool := x.on && (x.power == .init || x.power == .active || x.power == .powerDown)

/-- PARITY_ALERT on a command of the retry buffer: nothing is driven until it is reissued (R224). -/
def execParityAlert (c : Fin 80) (index : Nat) (s : State) : Host.Outcome State Fault Refusal :=
  .next (
    if s.slices[c].drives = false || s.slices[c].health.cmdReset || s.slices[c].sched.alert.isSome || decide (s.slices[c].sched.retry.length ≤ index) then s
    else ((s.modSched c fun x => { x with alert := some index }).bumpCh c 0).raise (pageCh c) 0)

/-- The buffer of a slice that has been declared failed, cleared by its vane with the slice's own operations on check lines; the hub's reads
and writes leave with the swap that cancels them (R142, R224). -/
def Sched.clearBuffer (x : Sched) : Sched :=
  { x.dropDriven with
    alert := none
    rq := x.rq.filter fun o => !o.own
    wq := x.wq.filter fun o => !o.own
    replayed := x.replayed.filter fun o => !o.own
    retry := x.dropDriven.retry.filter fun c => match c with
      | .rd o => !o.own
      | .wr o => !o.own
      | _ => false }

/-- REPLAY_REISSUE: the alerted command and those after it are reissued; a second alert or a bad copy is a PHY fault (R224). -/
def execReplayReissue (c : Fin 80) (again copyBad : Bool) (s : State) : Host.Outcome State Fault Refusal :=
  .next (
    if s.slices[c].sched.alert.isNone then s
    else if again || copyBad then
      let s := s.modSched c Sched.clearBuffer
      (s.declareFailed c 4).modHealth c fun h => { h with cmdReset := true }
    else s.modSched c fun x => { x with alert := none })

/-- The flush of CH_CMD.CKC_FLUSH: a drain is ordered, and the flush completes within its Gust (R221). -/
def State.orderFlush (s : State) (c : Fin 80) : State := s.orderDrain c true

/-- CKC_FLUSH (R221). -/
def execCkcFlush (c : Fin 80) (s : State) : Host.Outcome State Fault Refusal :=
  .next (s.whenSlice c 0x06C 2 fun s => s.orderFlush c)

/-- The CH counters and PEAK cleared (R228). -/
def State.clearCh (s : State) (c : Fin 80) : State :=
  s.modSlice c fun x => { x with cnt := Vector.replicate 8 0, sched := { x.sched with peak := 0 } }

/-- CH_CMD.CLR_COUNTERS (R228). -/
def execChClrCounters (c : Fin 80) (s : State) : Host.Outcome State Fault Refusal :=
  .next (s.whenSlice c 0x06C 1 fun s => s.clearCh c)

end Sys2Proof.Machine
end

