-- ==== Sys2Proof/Machine/RegWrite.lean ====
section
/-!
DEFINITION. Accesses at the register port: denial (R8, R389, R456), access errors (R374), the sequence lock (R395 to R398), lanes and
aliases (R377 to R379), shadows and pairs (R380 to R383), topology fields (R387), the actions of W1 fields, and configuration
parity (R390 to R392).
-/
namespace Sys2Proof.Machine

/-! ### Presence, errors and denial -/

/-- Whether a page answers with its registers: its domain is on, or it is a slice page kept in S2 (R296, R370). -/
def State.pageThere (s : State) (page : Nat) : Bool := s.pageOn page || s.sliceNaps page

/-- The register offset an address reaches, folded; the span of an absent page does not matter. -/
def addrOfs (a : BitVec 20) : Nat :=
  match pageKind (pageOf a) with
  | some (k, _) => offsetOf (kindSpan k) a
  | none => 0

/-- The first access error since CLR_ERR recorded (R374). -/
def State.accessError (s : State) (page : Nat) (cause : BitVec 3) (a : BitVec 20) : State :=
  s.modHeader page fun h => if h.accessErr then h else { h with accessErr := true, errCause := cause, errOfs := a.extractLsb' 0 12 }

/-- SEC_DENY counted; the first since CLR_DENY raises DENY (R389, "SEC page"). -/
def State.countDeny (s : State) : State :=
  ({ s with sec := { s.sec with denyCnt := satInc s.sec.denyCnt, denyArmed := false } }).raiseIf s.sec.denyArmed pageSec 1

/-- A bit of TEL_USER_EN as it acts: 0 under FEATURES.TEL_USER_DIS (R459). -/
def State.telUser (s : State) (i : Nat) : Bool := s.cfgBit pageTel 0x044 i && !s.feature 2

/-- Whether R456 denies a non-secure access to the TEL page. -/
def State.telDenied (s : State) (a : Access) (write : Bool) : Bool :=
  pageOf a.addr == pageTel && !a.secure &&
    (if write then addrOfs a.addr != 0x044 && !s.telUser 1
     else decide (0x040 ≤ addrOfs a.addr) && !s.telUser 0)

/-- Whether an access is a non-secure one to a secure-only page (R389). -/
def secureOnly (a : Access) : Bool :=
  !a.secure && (match pageKind (pageOf a.addr) with | some (k, _) => kindSecure k | none => false)

/-- Whether an access is a byte or a halfword. -/
def isNarrow (a : Access) : Bool := decide (a.size.toNat < 2)

/-- The word accesses of a doubleword, the lower address first (R376); any other access is itself. -/
def accessParts (a : Access) : List Access :=
  if a.size = 3 then [{ a with size := 2 }, { a with addr := a.addr + 4, size := 2 }] else [a]

/-- A denied access: an aligned doubleword is two, the lower half first (R376, R389). -/
def State.denyParts (s : State) (a : Access) : State :=
  if isAligned a then (accessParts a).foldl (fun (s : State) (_ : Access) => s.countDeny) s else s.countDeny

/-! ### Header actions (R372, R373, R386) -/

/-- Bits of INT_RAW cleared (R373). -/
def State.clearRaw (s : State) (page : Nat) (bits : Reg) : State := s.modHeader page fun h => { h with intRaw := h.intRaw &&& ~~~bits }

/-- PAGE_CTRL.CLR_ERR. -/
def State.clearErrFlag (s : State) (page : Nat) : State :=
  s.modHeader page fun h => { h with accessErr := false, errCause := 0, errOfs := 0 }

/-- Whether a register of the register space has LK fields. -/
def lkAt (key : Nat) : Bool :=
  match regSpec (key / 1024) (key % 1024) with
  | some r => r.lk != 0
  | none => false

/-- PAGE_CTRL.DISCARD: the low words held of a page, and its shadows but for those of registers with LK fields while GLB_LOCK is set
(R386). -/
def State.discardPage (s : State) (page : Nat) : State :=
  { s with regs := { s.regs with
    shadows := s.regs.shadows.filter fun x => x.1 / 1024 != page || (s.regs.locked && lkAt x.1)
    lowHeld := s.regs.lowHeld.filter fun x => x.1 / 1024 != page } }

/-! ### The sequence lock (R395 to R398) -/

/-- A requester ID as the block takes it (R366). -/
def ownerId (id : BitVec 5) : BitVec 5 := if id.toNat < 16 ∨ id = 0x18 then id else 0x1F

/-- Whether the lease of 10 ms is over. -/
def State.leaseOver (s : State) : Bool := s.regs.seq.held && decide (s.regs.seq.tLease.toNat + 10000000 ≤ s.tb.toNat)

/-- The lock freed when its lease is over. -/
def State.expireLease (s : State) : State := if s.leaseOver then s.freeLock else s

/-- ACQUIRE (R395); a renewal in the instant of expiry is refused (R398). -/
def State.seqAcquire (s : State) (id : BitVec 5) : State :=
  let id := ownerId id
  if s.leaseOver ∧ s.regs.seq.owner = id then s.freeLock
  else
    let s := s.expireLease
    if s.regs.seq.held then
      (if s.regs.seq.owner = id then { s with regs := { s.regs with seq := { s.regs.seq with tLease := s.tb } } } else s)
    else { s with regs := { s.regs with seq := { SeqLock.reset with held := true, owner := id, tLease := s.tb } } }

/-! ### RW fields -/

/-- The value that a write combines with: the pending value where one exists, else the applied one (R378). -/
def State.baseValue (s : State) (page ofs : Nat) : Reg :=
  match getKey s.regs.lowHeld (regKey page ofs) with
  | some v => v
  | none =>
    if ofs = 0x024 then (s.header page).intEn
    else if page = pageGlb ∧ ofs = 0x054 then flag s.regs.locked 0
    else if page = pageBrz ∧ ofs < 0x050 then s.cfg page ofs
    else if 0x20 ≤ page ∧ page < 0x28 ∧ (ofs = 0x044 ∨ ofs = 0x068 ∨ ofs = 0x06C) then s.readIng (groupOf (page - 0x20)) ofs
    else s.pendingOr page ofs

/-- The copies of the always-on domain (R362). -/
def State.storeBrz (s : State) (ofs : Nat) (v : Reg) : State :=
  if ofs = 0x040 then { s with brz := { s.brz with cfg := v } }
  else if ofs = 0x044 then { s with brz := { s.brz with peers := v.setWidth 8 } }
  else if ofs = 0x048 then { s with brz := { s.brz with conc := v.setWidth 4 } }
  else { s with brz := { s.brz with tokenWait := v.setWidth 16 } }

/-- A value of apply point IMM takes effect, with what it sets off in its unit. -/
def State.storeImm (s : State) (page ofs : Nat) (v : Reg) : State :=
  if ofs = 0x024 then s.modHeader page fun h => { h with intEn := v }
  else if page = pageGlb ∧ ofs = 0x054 then (if bitOf v 0 then { s with regs := { s.regs with locked := true } } else s)
  else if page = pageBrz ∧ ofs < 0x050 then s.storeBrz ofs v
  else if page = pageErr ∧ ofs = 0x040 then
    let s := s.store page ofs v
    { s with ao := { s.ao with wakeEn := bitOf v 4 } }
  else if page = pagePwr ∧ ofs = 0x068 then (s.store page ofs v).noteTherm s
  else if page = pageTel ∧ ofs = 0x100 then
    let rises := bitOf v 0 && !s.cfgBit pageTel 0x100 0
    let s := s.store page ofs v
    if rises then s.startSampling else s
  else if 0x20 ≤ page ∧ page < 0x28 ∧ ofs = 0x044 then
    (if bitOf v 0 then s.ingOn (groupOf (page - 0x20)) else s.ingOff (groupOf (page - 0x20)))
  else s.store page ofs v

/-- A value enters its register's apply process (R380, R381). -/
def State.enterValue (s : State) (page ofs : Nat) (v mask : Reg) (ap : Apply) : State :=
  if ap = .imm then s.storeImm page ofs v
  else
    let old : Reg := match getKey s.regs.shadows (regKey page ofs) with
      | some x => x.mask
      | none => 0
    { s with regs := { s.regs with shadows := setKey s.regs.shadows (regKey page ofs) { value := v, mask := old ||| mask } } }

/-- The high word of a pair enters with the low word held, if one is (R383). ING_RP acts as one value (R82). -/
def State.enterHigh (s : State) (page ofs : Nat) (v mask : Reg) (ap : Apply) : State :=
  let lo := getKey s.regs.lowHeld (regKey page (ofs - 4))
  let base := s.baseValue page (ofs - 4)
  let s := { s with regs := { s.regs with lowHeld := dropKey s.regs.lowHeld (regKey page (ofs - 4)) } }
  if 0x20 ≤ page ∧ page < 0x28 ∧ ofs = 0x06C then s.writeRp (groupOf (page - 0x20)) (pairOf base v)
  else
    let s := match lo, regSpec page (ofs - 4) with
      | some w, some r => s.enterValue page (ofs - 4) w r.rw ap
      | _, _ => s
    s.enterValue page ofs v mask ap

/-- What an alias stores (R378). -/
def aliasValue (al : Alias) (old v : Reg) : Reg :=
  match al with
  | .plain => v
  | .set => old ||| v
  | .clr => old &&& ~~~v
  | .tgl => old ^^^ v

/-- The bits of a register that a write may change: a region of the SEC page that is enabled takes only EN (R467). -/
def State.regionMask (s : State) (page ofs : Nat) (m : Reg) : Reg :=
  if page = pageSec ∧ 0x100 ≤ ofs ∧ s.cfgBit pageSec (ofs / 8 * 8) 31 = true then
    (if ofs % 8 = 0 then m &&& flag true 31 else 0)
  else m

/-- A write to the RW fields of a register: the addressed lanes, without SX fields from a non-secure requester (R8) and without LK
fields while GLB_LOCK is set (R387). -/
def State.writeRw (s : State) (a : Access) (r : RegSpec) : State :=
  let page := pageOf a.addr
  let m := r.rw &&& laneMask a.addr a.size
  let denied := !a.secure && (m &&& r.sx) != 0
  let s := if denied then s.countDeny else s
  let m := if a.secure then m else m &&& ~~~r.sx
  let locked := s.regs.locked && (m &&& r.lk) != 0
  let s := if locked then s.accessError page 3 a.addr else s
  let m := if s.regs.locked then m &&& ~~~r.lk else m
  let m := s.regionMask page r.ofs m
  if m = 0 then s
  else
    let base := s.baseValue page r.ofs
    let v := mergeMask base { value := aliasValue (aliasOf a.addr) base (laneWord a.addr a.wdata), mask := m }
    if r.lo then { s with regs := { s.regs with lowHeld := setKey s.regs.lowHeld (regKey page r.ofs) v } }
    else if r.hi then s.enterHigh page r.ofs v m r.ap
    else s.enterValue page r.ofs v m r.ap

/-! ### W1 fields -/

/-- An action when its bit is written 1. -/
def actIf (v : Reg) (k : Nat) (f : State → State) (s : State) : State := if bitOf v k then f s else s

/-- Actions of a page that exists once. -/
def State.actUnit (s : State) (page ofs : Nat) (v : Reg) : State :=
  let on (k : Nat) (f : State → State) (s : State) : State := actIf v k f s
  if page = pagePwr then
    (if ofs = 0x048 then on 0 (fun s => s.doorbell) s
     else on 3 (fun s => s.clearRes) (on 2 (fun s => s.clearPwr) (on 1 (fun s => s.setCap 0) (on 0 (fun s => s.clearVofs) s))))
  else if page = pageBrz then on 2 (fun s => s.clearBrz) (on 1 (fun s => s.brzRelease) (on 0 (fun s => s.brzSend) s))
  else if page = pageSec then
    on 3 (fun s => s.clearDeny) (on 2 (fun s => s.patchLoad) (on 1 (fun s => s.keyClear) (on 0 (fun s => s.keyDerive) s)))
  else if page = pageOtp then on 1 (fun s => s.clearOtp) (on 0 (fun s => s.otpProgram) s)
  else if page = pageErr then
    on 3 (fun s => s.clearErr) (on 2 (fun s => s.clearFirst) (on 1 (fun s => s.ackEvery) (on 0 (fun s => s.ackOne) s)))
  else if page = pageTel then
    on 5 (fun s => s.clearSamples) (on 4 (fun s => s.clearUnderrun) (on 3 (fun s => s.closeFill) (on 2 (fun s => s.clearOvf)
      (on 1 (fun s => s.clearTel) (on 0 (fun s => s.snapAll) s)))))
  else if page = pageFab then on 0 (fun s => s.clearFab) s
  else if page = pageArb then on 1 (fun s => s.clearLongest) (on 0 (fun s => s.clearArb) s)
  else if page = pageShr then on 1 (fun s => s.clearShr) (on 0 (fun s => s.feasTrigger) s)
  else if page = pageLdg 0 then
    on 3 (fun s => s.clearLdg) (on 2 (fun s => s.clearAllPoison) (on 1 (fun s => s.clearSelPoison) (on 0 (fun s => s.abortSelGroup) s)))
  else if page = pageDbg then on 1 (fun s => s.capArm) (on 0 (fun s => s.dbgDoorbell) s)
  else if page = pageSpr then on 2 (fun s => s.cmdClearLoss) (on 1 (fun s => s.cmdClearSpr) (on 0 (fun s => s.sprGo) s))
  else s

/-- Actions of a page that exists once per port, group, vane or slice. -/
def State.actInstance (s : State) (k : Kind) (n ofs : Nat) (v : Reg) : State :=
  let on (k : Nat) (f : State → State) (s : State) : State := actIf v k f s
  match k with
  | .prt => on 1 (fun s => s.clearPrt (portOf n)) (on 0 (fun s => s.startPortReset (portOf n)) s)
  | .ing => on 2 (fun s => s.ingClear (groupOf n)) (on 1 (fun s => s.ingRearm (groupOf n)) (on 0 (fun s => s.ingTrigger (groupOf n)) s))
  | .grp => on 0 (fun s => s.clearGrp (groupOf n)) s
  | .vane => on 2 (fun s => s.clearVane (vaneOf n)) (on 1 (fun s => s.mboxAbort (vaneOf n)) (on 0 (fun s => s.mboxDoorbell (vaneOf n)) s))
  | .ch =>
    if ofs = 0x06C then on 1 (fun s => s.orderFlush (sliceOf n)) (on 0 (fun s => s.clearCh (sliceOf n)) s)
    else on 3 (fun s => s.clearTrn (sliceOf n)) (on 2 (fun s => s.startScan (sliceOf n)) (on 1 (fun s => s.orderRetrain (sliceOf n))
      (on 0 (fun s => s.requestLull (sliceOf n)) s)))
  | _ => s

/-! ### Writes -/

/-- A write past denial, alignment and the sequence lock, all but the actions of GLB_SEQ_LOCK. -/
def State.performWrite (s : State) (a : Access) : State :=
  let page := pageOf a.addr
  let ofs := addrOfs a.addr
  let bits := laneWord a.addr a.wdata &&& laneMask a.addr a.size
  match pageKind page with
  | none => s
  | some (k, n) =>
    if s.pageThere page = false ∨ s.pageSafe page = true then s
    else if (match regSpec page ofs with | some r => isNarrow a && r.action | none => false) then s.accessError page 1 a.addr
    else if s.sliceNaps page then s.holdWrite a
    else if ofs = 0x020 then (if aliasOf a.addr = Alias.clr then s.clearRaw page bits else s)
    else match regSpec page ofs with
      | none => s
      | some r =>
        let v := if aliasOf a.addr = Alias.plain ∨ aliasOf a.addr = Alias.set then bits &&& r.w1 else 0
        if v = 0 then s.writeRw a r
        else if ofs = 0x00C then actIf v 1 (fun s => s.clearErrFlag page) (actIf v 0 (fun s => s.discardPage page) s)
        else if ofs = 0x02C then s.raiseMask page v
        else (s.actUnit page ofs v).actInstance k n ofs v

/-- RELEASE (R397): with COMMIT and no overflow, every staged write in order, but for pages in their safe state (R398). -/
def State.seqRelease (s : State) (id : BitVec 5) (commit : Bool) : State :=
  if s.leaseOver then s.freeLock
  else if s.regs.seq.held = false ∨ s.regs.seq.owner ≠ ownerId id then s
  else
    let l := if commit && !s.regs.seq.overflow then s.regs.seq.staged else []
    let s := { s with regs := { s.regs with seq := SeqLock.reset } }
    l.foldl (fun (s : State) (a : Access) => if s.parity (pageOf a.addr) then s else s.performWrite a) s

/-- A write of GLB_SEQ_LOCK; ACQUIRE with RELEASE has no effect (R401). -/
def State.seqCommand (s : State) (id : BitVec 5) (v : Reg) : State :=
  if bitOf v 0 && bitOf v 1 then s
  else if bitOf v 0 then s.seqAcquire id
  else if bitOf v 1 then s.seqRelease id (bitOf v 2)
  else s

/-- A write staged for the holder; the 65th is ignored (R396). -/
def State.stage (s : State) (a : Access) : State :=
  if s.regs.seq.staged.length < 64 then { s with regs := { s.regs with seq := { s.regs.seq with staged := s.regs.seq.staged ++ [a] } } }
  else { s with regs := { s.regs with seq := { s.regs.seq with overflow := true } } }

/-- A row of its own that stands for a write of RW fields: while the sequence lock is held it is a write of the holder's, and is staged; a
write of another requester is a row of REGISTER_WRITE (R396, assumption 94). -/
def State.rowWrite (s : State) (l : List Access) (f : State → State) : State :=
  let s := s.expireLease
  if s.regs.seq.held then l.foldl (fun (s : State) (a : Access) => s.stage { a with reqid := s.regs.seq.owner }) s else f s

/-- One aligned write of a word or less to a page that takes writes: under the sequence lock (R396), or performed. No register has
both RW and W1 fields. -/
def State.offerWrite (s : State) (a : Access) : State :=
  let page := pageOf a.addr
  let ofs := addrOfs a.addr
  match regSpec page ofs with
  | none => s.performWrite a
  | some r =>
    if page = pageGlb ∧ ofs = 0x058 ∧ isNarrow a = false then
      (if aliasOf a.addr = Alias.plain ∨ aliasOf a.addr = Alias.set then s.seqCommand a.reqid (laneWord a.addr a.wdata) else s.expireLease)
    else
    let s := s.expireLease
    if s.regs.seq.held ∧ r.rw ≠ 0 then
      (if s.regs.seq.owner = ownerId a.reqid then s.stage a else s.accessError page 4 a.addr)
    else s.performWrite a

/-- The one response of the access, CP_RDATA and CP_RERR; CP_RVALID stands for this step alone, so no state holds it (R364, R365). -/
def State.respondPort (s : State) (v : BitVec 64) (err : Bool) : State := { s with regs := { s.regs with rdata := v, rerr := err } }

/-- Whether the register port takes accesses, which is CP_READY between steps: not in RETENTION, nor with its domain off (R364, R367). -/
def State.portOpen (s : State) : Bool := s.pwr.coreOn && s.mode.mode != .retention

/-- A write at the register port, or of REGACC. Each half of a doubleword is taken or denied on its own (R376, R456). -/
def State.regWrite (s : State) (a : Access) : State :=
  if s.portOpen = false then s
  else
    let s := s.respondPort 0 false
    let page := pageOf a.addr
    if s.mode.mode = .holdUp ∨ s.pageThere page = false then s
    else if secureOnly a then s.denyParts a
    else if isAligned a = false then (if s.telDenied a true then s else (s.accessError page 2 a.addr).respondPort 0 true)
    else if s.pageSafe page then s
    else (accessParts a).foldl (fun (s : State) (x : Access) => if s.telDenied x true then s else s.offerWrite x) s

/-- Writes held for slice pages in S2 made at wake, in order (R296). -/
def State.replayHeld (s : State) : State :=
  let l := s.regs.napHeld
  l.foldl (fun (s : State) (a : Access) => s.performWrite a) { s with regs := { s.regs with napHeld := [] } }

/-! ### Configuration parity (R390 to R392) -/

/-- The class a page's fault is logged with. -/
def faultClass (page : Nat) : BitVec 2 := if page = pageGlb then clsFatal else if 0x80 ≤ page then clsRcv else clsUc

/-- What entering the safe state does at once; what it goes on doing, each unit reads from `State.parity` and `State.cfg`. -/
def State.enterSafe (s : State) (page : Nat) : State :=
  match pageKind page with
  | some (.shr, _) =>
    let rise := !s.shr.overcommit
    let s := { s with shr := { s.shr with shed := 0xFF, overcommit := true, ovcCnt := if rise then satInc s.shr.ovcCnt else s.shr.ovcCnt } }
    (s.raiseIf rise pageShr 0).voidGuarantees fun _ => true
  | some (.ldg, 0) => ({ s with ledger := { s.ledger with cfgHold := true } }).raise page 2
  | some (.prt, n) => s.isolate (portOf n) 6
  | some (.ing, n) => ((s.ingOff (groupOf n)).modIng (groupOf n) fun x => { x with cfgErr := 6 }).raise page 1
  | some (.grp, _) => s.raise page 7
  | some (.spr, _) => allGroups.foldl State.stopRly s
  | some (.ch, n) => s.declareFailed (sliceOf n) 5
  | _ => s

/-- A parity fault found in a page: logged, CFG_PARITY raised, what is staged or pending for the page discarded, and the safe state. -/
def State.parityFault (s : State) (page ofs : Nat) : State :=
  let s := s.modHeader page fun h => { h with parity := true }
  let s := (s.raise pageErr 4).logError { cls := faultClass page, page := page, code := 0x0060, detail := BitVec.ofNat 64 ofs }
  let other (a : Access) : Bool := pageOf a.addr != page
  let s := { s with regs := { s.regs with
    shadows := s.regs.shadows.filter fun x => x.1 / 1024 != page
    lowHeld := s.regs.lowHeld.filter fun x => x.1 / 1024 != page
    napHeld := s.regs.napHeld.filter other
    seq := { s.regs.seq with staged := s.regs.seq.staged.filter other } } }
  s.enterSafe page

/-- Whether a register carries parity: it has an RW field (R390). -/
def hasParity (page ofs : Nat) : Bool :=
  match regSpec page ofs with
  | some r => r.rw != 0
  | none => false

/-! ### Reads -/

/-- Whether a register is a word of an error-log window, which the log SRAM holds. -/
def isLogWindow (page ofs : Nat) : Bool := page == pageErr && decide (0x050 ≤ ofs) && decide (ofs < 0x070)

/-- An uncorrectable error of the log SRAM in the selected entry: the entry reads all zero from now on, and LOG_ECC is logged in a fresh
slot (R430). -/
def State.logLost (s : State) : State :=
  let sel := s.cfg pageErr 0x04C
  let k := fieldOf sel 6 0
  let s := if bitOf sel 31 then s else { s with err := { s.err with ring := s.err.ring.setIfInBounds k none } }
  s.logError { cls := clsUc, page := pageErr, code := 0x0080, detail := BitVec.ofNat 64 (k % 32) }

/-- Whether a register shows a free value, so that the next read takes a new one. -/
def showsFree (page ofs : Nat) : Bool := (decide (0x30 ≤ page) && decide (page < 0x48) && ofs == 0x044)

/-- The lanes of a word that a read returns, without SX fields for a non-secure requester (R8, R377). -/
def readMask (a : Access) (r : Option RegSpec) : Reg :=
  let sx : Reg := match r with
    | some r => if a.secure then 0 else r.sx
    | none => 0
  laneMask a.addr a.size &&& ~~~sx

/-- One aligned read of a word or less from a page that answers: the state after it, the word, and CP_RERR. `fault`: the stored bits
of the register fail their parity check (R391), or the log SRAM its ECC (R431). -/
def State.readPart (s : State) (a : Access) (fault : Bool) : State × Reg × Bool :=
  let page := pageOf a.addr
  let ofs := addrOfs a.addr
  let r := regSpec page ofs
  if fault && hasParity page ofs then ((s.accessError page 5 a.addr).parityFault page ofs, 0, true)
  else if (match r with | some r => r.pop | none => false) then
    (if isNarrow a then (s.accessError page 1 a.addr, 0, false)
     else
       let (t, w) := s.popWord
       (t, w, false))
  else if fault && isLogWindow page ofs then (s.logLost, 0, false)
  else
    let v := s.regRead page ofs &&& readMask a r
    let s := if page = pageOtp ∧ (ofs = 0x044 ∨ ofs = 0x048) ∧ otpProtected s.otpSel = false ∧ isNarrow a = false then s.countOtp s.otpSel else s
    (if showsFree page ofs then s.tookFree else s, v, false)

/-- A read at the register port, or of REGACC. A part that R456 denies reads zero. A fault strikes the first
part of a doubleword that it can strike. -/
def State.regReadAccess (s : State) (a : Access) (fault : Bool) : State :=
  if s.portOpen = false then s
  else
    let s := s.respondPort 0 false
    let page := pageOf a.addr
    if s.pageThere page = false then s
    else if secureOnly a then s.denyParts a
    else if isAligned a = false then (if s.telDenied a false then s else (s.accessError page 2 a.addr).respondPort 0 true)
    else
      let parts := (accessParts a).filter fun x => !s.telDenied x false
      let strikes (x : Access) : Bool := hasParity page (addrOfs x.addr) || isLogWindow page (addrOfs x.addr)
      let hit := parts.find? strikes
      parts.foldl (fun (t : State) (x : Access) =>
        let (u, v, e) := t.readPart x (fault && hit == some x)
        u.respondPort (t.regs.rdata ||| toLanes x.addr v) (t.regs.rerr || e)) s

end Sys2Proof.Machine
end

