-- ==== Sys2Proof/Machine/Power.lean ====
section
/-!
DEFINITION. The meanings of the PWR commands and of the events of supplies and sleep (R291 to R293, R300, R303, R305 to R316, R320,
R322).
-/
namespace Sys2Proof.Machine

/-- SWITCHOVER: VMAIN_AO falls below 0.70 V (R291). -/
def execSwitchover (s : State) : Host.Outcome State Fault Refusal := .next s.toVbk

/-- VMAIN_AO_RETURN: above 0.74 V for 100 µs (R291). -/
def execVmainAoReturn (s : State) : Host.Outcome State Fault Refusal := .next s.fromVbk

/-- BROWN_OUT (R292, R293). -/
def execBrownOut (s : State) : Host.Outcome State Fault Refusal := .next s.brownOut

/-- VBK_LOW: VBK crosses 1.6 V, down or up (R293). -/
def execVbkLow (low : Bool) (s : State) : Host.Outcome State Fault Refusal := .next (s.setVbkLow low)

/-- DOORBELL: PWR_DOORBELL.RING (R305). -/
def execDoorbell (s : State) : Host.Outcome State Fault Refusal := .next (s.whenLive pagePwr fun s => s.doorbell)

/-- PWR_REQ_RISE with PWR_REQ_STATE (R306). -/
def execPwrReqRise (st : BitVec 2) (s : State) : Host.Outcome State Fault Refusal := .next (s.pwrReqUp st)

/-- PWR_REQ_FALL (R306). -/
def execPwrReqFall (s : State) : Host.Outcome State Fault Refusal := .next s.pwrReqDown

/-- DOZE_IDLE_EXPIRY (R307). -/
def execDozeIdleExpiry (s : State) : Host.Outcome State Fault Refusal := .next s.doze

/-- VOTE_ANSWER (R308, R309). -/
def execVoteAnswer (d : Fin 100) (s : State) : Host.Outcome State Fault Refusal := .next (s.answerVote d false)

/-- VOTE_TIMEOUT (R308). -/
def execVoteTimeout (d : Fin 100) (s : State) : Host.Outcome State Fault Refusal := .next (s.answerVote d true)

/-- ROLLBACK_COMPLETE (R310). -/
def execRollbackComplete (s : State) : Host.Outcome State Fault Refusal := .next s.rollbackDone

/-- SLEEP_ENTRY_COMPLETE (R313, R314). -/
def execSleepEntryComplete (s : State) : Host.Outcome State Fault Refusal := .next s.entryDone

/-- SLEEP_WAKE: the slice domains come on again, and what was written to their pages in S2 is made (R296, R316). -/
def execSleepWake (s : State) : Host.Outcome State Fault Refusal :=
  .next (if s.pwr.phase = .waking then s.wakeSlices.replayHeld else s)

/-- WAKE_COMPLETE (R316). -/
def execWakeComplete (s : State) : Host.Outcome State Fault Refusal := .next s.wakeDone

/-- PWR_CMD.CLR_RES (R320). -/
def execClrRes (s : State) : Host.Outcome State Fault Refusal := .next (s.whenLive pagePwr fun s => s.clearRes)

/-- PWR_CMD.CLR_COUNTERS (R322). -/
def execPwrClrCounters (s : State) : Host.Outcome State Fault Refusal := .next (s.whenLive pagePwr fun s => s.clearPwr)

/-- PWR_CMD.CLR_CAP (R300). -/
def execClrCap (s : State) : Host.Outcome State Fault Refusal := .next (s.whenLive pagePwr fun s => s.setCap 0)

/-- PWR_CMD.CLR_VOFS (R303). -/
def execClrVofs (s : State) : Host.Outcome State Fault Refusal := .next (s.whenLive pagePwr fun s => s.clearVofs)

end Sys2Proof.Machine
end

