-- ==== Sys2Proof/Machine/Registers.lean ====
section
/-!
DEFINITION. The meanings of the register-port commands (R372 to R398), and of the ingest commands that write RW registers (R82, R89, R92).
-/
namespace Sys2Proof.Machine

/-- REGISTER_WRITE: one write at the register port (R364 to R397). An access that is taken shows that CP_RST_N is high. -/
def execRegisterWrite (a : Access) (s : State) : Host.Outcome State Fault Refusal :=
  .next ({ s with pins := { s.pins with cpRstN := true } }.regWrite a)

/-- REGISTER_READ: one read at the register port (R364, R391). -/
def execRegisterRead (a : Access) (fault : Bool) (s : State) : Host.Outcome State Fault Refusal :=
  .next ({ s with pins := { s.pins with cpRstN := true } }.regReadAccess a fault)

/-- IDLE_APPLY: the unit of a page is idle, and the page's IDLE shadows take effect (R382). -/
def execIdleApply (page : BitVec 8) (s : State) : Host.Outcome State Fault Refusal :=
  .next (if s.pageOn page.toNat && s.unitIdle page.toNat then s.applyPoint page.toNat .idle else s)

/-- A command of a page's header: where the page takes writes, or at wake for a slice page in S2 (R296). -/
def State.whenHeader (s : State) (page ofs : Nat) (v : Reg) (f : State → State) : State :=
  if s.pageLive page then f s
  else if s.sliceNaps page && s.mode.mode != .holdUp then s.holdWrite (wordWrite page ofs v)
  else s

/-- INT_RAW_CLEAR: 1s written through the CLR alias of INT_RAW (R373). -/
def execIntRawClear (page : BitVec 8) (bits : Reg) (s : State) : Host.Outcome State Fault Refusal :=
  .next (s.whenHeader page.toNat 0x820 bits fun s => s.clearRaw page.toNat bits)

/-- INT_FORCE (R372). -/
def execIntForce (page : BitVec 8) (bits : Reg) (s : State) : Host.Outcome State Fault Refusal :=
  .next (s.whenHeader page.toNat 0x02C bits fun s => s.raiseMask page.toNat bits)

/-- PAGE_CTRL.CLR_ERR (R374). -/
def execClrErr (page : BitVec 8) (s : State) : Host.Outcome State Fault Refusal :=
  .next (s.whenHeader page.toNat 0x00C 2 fun s => s.clearErrFlag page.toNat)

/-- PAGE_CTRL.DISCARD (R386). -/
def execDiscard (page : BitVec 8) (s : State) : Host.Outcome State Fault Refusal :=
  .next (s.whenHeader page.toNat 0x00C 1 fun s => s.discardPage page.toNat)

/-- ING_CTRL.EN = 1 (R92). -/
def execIngEnable (n : Fin 8) (s : State) : Host.Outcome State Fault Refusal :=
  .next (s.whenLive (pageIng n) fun s => s.rowWrite [wordWrite (pageIng n) 0x044 1] fun s => s.ingOn n)

/-- ING_CTRL.EN = 0 (R89). -/
def execIngDisable (n : Fin 8) (s : State) : Host.Outcome State Fault Refusal :=
  .next (s.whenLive (pageIng n) fun s => s.rowWrite [wordWrite (pageIng n) 0x044 0] fun s => s.ingOff n)

/-- ING_RP written through its HI word (R82). -/
def execIngRpWrite (n : Fin 8) (rp : BitVec 64) (s : State) : Host.Outcome State Fault Refusal :=
  .next (s.whenLive (pageIng n) fun s =>
    s.rowWrite [wordWrite (pageIng n) 0x068 (loWord rp), wordWrite (pageIng n) 0x06C (hiWord rp)] fun s => s.writeRp n rp)

/-- GLB_LOCK: 1 written (R387). -/
def execGlbLock (s : State) : Host.Outcome State Fault Refusal :=
  .next (s.whenLive pageGlb fun s => s.rowWrite [wordWrite pageGlb 0x054 1] fun s => s.storeImm pageGlb 0x054 1)

/-- ACQUIRE (R395). -/
def execAcquire (reqid : BitVec 5) (s : State) : Host.Outcome State Fault Refusal := .next (s.whenLive pageGlb fun s => s.seqAcquire reqid)

/-- RELEASE with COMMIT (R397). -/
def execCommit (reqid : BitVec 5) (s : State) : Host.Outcome State Fault Refusal := .next (s.whenLive pageGlb fun s => s.seqRelease reqid true)

/-- RELEASE without COMMIT (R397). -/
def execRelease (reqid : BitVec 5) (s : State) : Host.Outcome State Fault Refusal := .next (s.whenLive pageGlb fun s => s.seqRelease reqid false)

/-- LEASE_EXPIRY: the lease is over 10 ms after it was taken or renewed (R395, R398). -/
def execLeaseExpiry (s : State) : Host.Outcome State Fault Refusal := .next s.expireLease

/-- CP_RESET: CP_RST_N goes low (R398). -/
def execCpReset (s : State) : Host.Outcome State Fault Refusal :=
  .next (({ s with pins := { s.pins with cpRstN := false } }).freeLock)

/-- CFG_PARITY_SWEEP: V23's sweep reaches a register, and finds a fault or not (R390, R391). -/
def execCfgParitySweep (page : BitVec 8) (ofs : BitVec 10) (fault : Bool) (s : State) : Host.Outcome State Fault Refusal :=
  .next (
    let o := addrOfs (BitVec.ofNat 20 (page.toNat * 4096 + ofs.toNat))
    if fault && s.pageThere page.toNat && hasParity page.toNat o then s.parityFault page.toNat o else s)

end Sys2Proof.Machine
end

