-- ==== Sys2Proof/Machine/Relayout.lean ====
section
/-!
DEFINITION. The meanings of the commands of member failure and rebuild (R258 to R285).
-/
namespace Sys2Proof.Machine

/-- CH_SLOW_LIMIT as it acts, in ns. -/
def State.slowLimitNs (s : State) (c : Fin 80) : Nat := min 500 (max 5 (s.cfgField (pageCh c) 0x0C4 15 0)) * 1000

/-- Whether an operation has been at a slice for CH_SLOW_LIMIT, or belongs to a window stripe whose first member read lies that far back
(R258, R266). An operation of the slice's own, on a check line, is none of the hub's. -/
def State.tooSlow (s : State) (c : Fin 80) (o : MemOp) : Bool :=
  let late (t : Time) : Bool := decide (s.slowLimitNs c ≤ s.tb.toNat - t.toNat)
  !o.own && (late o.tEnter || match s.job o.group o.jid with
    | some j => j.kind == JobKind.relay && late j.tRead
    | none => false)

/-- SLOW_LIMIT_EXPIRY: an operation delivered to a slice, or the window stripe it belongs to, has taken CH_SLOW_LIMIT (R258, R261, R266). -/
def execSlowLimitExpiry (c : Fin 80) (s : State) : Host.Outcome State Fault Refusal :=
  .next (if s.slices[c].sched.ops.any fun o => s.tooSlow c o then s.declareFailed c 3 else s)

/-- ERR_LEVEL_LEAK (R259). -/
def execErrLevelLeak (c : Fin 80) (s : State) : Host.Outcome State Fault Refusal :=
  .next (s.modHealth c fun h => { h with errLevel := h.errLevel - 1 })

/-- RELAYOUT_START (R263): on V16 or V17, in the order of the requests; a resumed relayout that waits goes first, and takes
bandwidth from its hub again (R173). None starts in the safe state of SPR (R392). -/
def execRelayoutStart (g : Fin 8) (s : State) : Host.Outcome State Fault Refusal :=
  .next (
    if s.inService = false || s.parity pageSpr || s.pwr.phase != .awake || decide (2 ≤ s.rlyCount) then s
    else match s.spr.rly[g] with
      | some r => if r.running || r.suspended then s else (s.setRly g (some { r with running := true })).detectCut (1#8 <<< g.val)
      | none => match s.nextRly g with
        | some r => s.beginRly g r
        | none => s)

/-- RELAYOUT_STRIPE: BOUND moves past what is done or passed at once, and the next stripe enters the boundary window where the rate limit
lets one enter now (R264). -/
def execRelayoutStripe (g : Fin 8) (due : Bool) (s : State) : Host.Outcome State Fault Refusal :=
  .next (
    if (s.rlyWorks g).isNone then s
    else if due then (s.settleBound g 17).openWindow g
    else s.settleBound g 17)

/-- RELAYOUT_COMPLETE (R256, R269, R270). -/
def execRelayoutComplete (g : Fin 8) (s : State) : Host.Outcome State Fault Refusal :=
  .next (match s.rlyWorks g with
    | some r => if s.groupStripes ≤ r.bound then (s.completeRly g r).mendKeep g r else s
    | none => s)

/-- QUARANTINE_PROBE: the vane of a FAILED slice reads its mode register, by an ordinary command (R279, R224). -/
def execQuarantineProbe (c : Fin 80) (answered : Bool) (s : State) : Host.Outcome State Fault Refusal :=
  .next (
    if s.role c = roleFailed ∧ s.slices[c].on = true ∧ s.inService = true ∧ s.pwr.phase = .awake then
      let s := (s.modHealth c fun h => { h with cmdReset := false }).pushCmd c .mrr
      if answered then s.quarantine c else s
    else s)

/-- SPR command FAIL (R258, R260). -/
def execSprFail (c : BitVec 7) (s : State) : Host.Outcome State Fault Refusal := .next (s.whenLive pageSpr fun s => s.cmdFail c)

/-- SPR command EVACUATE (R269). -/
def execEvacuate (g : Fin 8) (m : BitVec 4) (c : BitVec 7) (s : State) : Host.Outcome State Fault Refusal :=
  .next (s.whenLive pageSpr fun s => s.cmdEvacuate g m c)

/-- SPR command RETURN (R270). -/
def execReturnHome (g : Fin 8) (m : BitVec 4) (s : State) : Host.Outcome State Fault Refusal :=
  .next (s.whenLive pageSpr fun s => s.cmdReturn g m)

/-- SPR command SUSPEND (R271). -/
def execSuspend (g : Fin 8) (s : State) : Host.Outcome State Fault Refusal := .next (s.whenLive pageSpr fun s => s.cmdSuspend g)

/-- SPR command RESUME (R271). -/
def execResume (g : Fin 8) (s : State) : Host.Outcome State Fault Refusal := .next (s.whenLive pageSpr fun s => s.cmdResume g)

/-- SPR command TEST (R280). -/
def execSliceTest (c : BitVec 7) (s : State) : Host.Outcome State Fault Refusal := .next (s.whenLive pageSpr fun s => s.cmdTest c)

/-- SLICE_TEST_DONE: the contents are destroyed; TESTED on a pass, and QUARANTINE in either case (R280). -/
def execSliceTestDone (c : Fin 80) (pass : Bool) (s : State) : Host.Outcome State Fault Refusal :=
  .next (
    if s.role c = roleTesting then
      let s := (s.loseContents c 0xFF).modSched c fun x => { x with ckc := [] }
      s.modHealth c fun h => { h with role := roleQuarantine, tested := h.tested || pass }
    else s)

/-- SPR command ADMIT (R281). -/
def execAdmit (c : BitVec 7) (s : State) : Host.Outcome State Fault Refusal := .next (s.whenLive pageSpr fun s => s.cmdAdmit c)

/-- SPR command ATTACH (R262). -/
def execAttach (g : Fin 8) (m : BitVec 4) (c : BitVec 7) (s : State) : Host.Outcome State Fault Refusal :=
  .next (s.whenLive pageSpr fun s => s.cmdAttach g m c)

/-- SPR_CMD.CLR_LOSS (R277). -/
def execClrLoss (s : State) : Host.Outcome State Fault Refusal := .next (s.whenLive pageSpr fun s => s.cmdClearLoss)

/-- SPR_CMD.CLR_COUNTERS (R285). -/
def execSprClrCounters (s : State) : Host.Outcome State Fault Refusal := .next (s.whenLive pageSpr fun s => s.cmdClearSpr)

/-- PATROL_STRIPE: V19 scrubs the next stripe, when it is in group `g` (R282); a group whose verification pass has not ended is
verified first, whatever the rate (R339). -/
def execPatrolStripe (g : Fin 8) (errs : List StripErr) (s : State) : Host.Outcome State Fault Refusal :=
  .next (
    if s.inService = false ∨ s.pwr.phase ≠ .awake ∨ s.populated g = false then s
    else if s.hubs[g].verify then s.verifyStep g errs
    else if s.patrolRate ≠ 0 ∧ s.patrolGroup = some g then (s.patrolWrap g).patrolStep g errs
    else s)

end Sys2Proof.Machine
end

