-- ==== Sys2Proof/Machine/TestAccess.lean ====
section
/-!
DEFINITION. Test access (R500 to R503): the TAP's instructions, REGACC, and the IEEE 1500 wrapper.
-/
namespace Sys2Proof.Machine

/-- Whether domain 88, where the TAP and the wrapper lie, is on: with the core, or held in cold reset with the main rails up. -/
def State.tapOn (s : State) : Bool := s.pwr.coreOn || (s.mode.coldLow && s.pins.mainPg)

/-- The TAP instructions (R500). -/
def irIdcode : Byte := 0x01
def irSample : Byte := 0x02
def irExtest : Byte := 0x03
def irClamp : Byte := 0x04
def irHighz : Byte := 0x05
def irRegacc : Byte := 0x10
def irBypass : Byte := 0xFF

/-- The IDCODE register (R501). -/
def State.idcode (s : State) : BitVec 54 :=
  0x2C080000 ||| (((s.sec.otp 2).data.extractLsb' 0 11).setWidth 54 <<< 1) ||| 1

/-- What REGACC captures: BUSY clear, since an access completes in its step, then the last access (R502). -/
def TestAccess.capture (t : TestAccess) : BitVec 54 :=
  (t.rdData.setWidth 54) ||| (t.rdAddr.setWidth 54 <<< 32) ||| (if t.rerr then 1#54 <<< 52 else 0)

/-- The instruction as it acts: EXTEST, CLAMP and HIGHZ only while COLD_RST_N is low, and an unlisted code as BYPASS (R500, R501). -/
def State.tapActs (s : State) (ir : Byte) : Byte :=
  if ir = irExtest ∨ ir = irClamp ∨ ir = irHighz then (if s.mode.coldLow then ir else irBypass)
  else if ir = irIdcode ∨ ir = irSample ∨ ir = irRegacc then ir
  else irBypass

/-- A data register selected, as it stands at Capture-DR. -/
def State.selectDr (s : State) (ir : Byte) (dr : BitVec 54) (len : Nat) : State :=
  { s with test := { s.test with ir := ir, dr := dr, drLen := len } }

/-- An instruction selected, with its data register (R500). What the boundary cells hold is a free value. -/
def State.loadIr (s : State) (ir : Byte) : State :=
  if s.tapOn = false then s
  else
    let act := s.tapActs ir
    if act = irIdcode then s.selectDr ir s.idcode 32
    else if act = irRegacc then s.selectDr ir s.test.capture 54
    else if act = irSample ∨ act = irExtest then (s.selectDr ir (s.freeVal 54) Config.boundaryLen).tookFree
    else s.selectDr ir 0 1

/-- The register access of REGACC (R502): a word, as requester 0x18, non-secure under FEATURES.DBG_DIS. The register port's own last
response is not touched. -/
def State.regacc (s : State) (x : RegaccDr) : State :=
  if s.tapOn = false then s
  else
    let w := x.word
    let addr : BitVec 20 := w.extractLsb' 33 20
    let a : Access := { addr := addr, size := 2, wdata := toLanes addr (w.extractLsb' 0 32), secure := w.getLsbD 32 && !s.feature 1, reqid := 0x18 }
    let t := s.respondPort 0 false
    let t := if w.getLsbD 53 then t.regWrite a else t.regReadAccess a x.parityFault
    let rerr := t.regs.rerr
    let data := laneWord addr t.regs.rdata
    let t := t.respondPort s.regs.rdata s.regs.rerr
    let t := { t with test := { t.test with rerr := rerr, rdAddr := addr, rdData := data } }
    t.selectDr irRegacc t.test.capture 54

/-- TAP_RESET (R500). -/
def execTapReset (s : State) : Host.Outcome State Fault Refusal := .next (s.loadIr irIdcode)

/-- IDCODE (R501). -/
def execIdcode (s : State) : Host.Outcome State Fault Refusal := .next (s.loadIr irIdcode)

/-- SAMPLE_PRELOAD (R500). -/
def execSamplePreload (s : State) : Host.Outcome State Fault Refusal := .next (s.loadIr irSample)

/-- EXTEST (R501). -/
def execExtest (s : State) : Host.Outcome State Fault Refusal := .next (s.loadIr irExtest)

/-- CLAMP (R501). -/
def execClamp (s : State) : Host.Outcome State Fault Refusal := .next (s.loadIr irClamp)

/-- HIGHZ (R501). -/
def execHighz (s : State) : Host.Outcome State Fault Refusal := .next (s.loadIr irHighz)

/-- BYPASS (R500). -/
def execBypass (s : State) : Host.Outcome State Fault Refusal := .next (s.loadIr irBypass)

/-- REGACC: one Update-DR (R502). -/
def execRegacc (w : RegaccDr) (s : State) : Host.Outcome State Fault Refusal := .next (s.regacc w)

/-- WS_BYPASS (R503). -/
def execWsBypass (s : State) : Host.Outcome State Fault Refusal :=
  .next (if s.tapOn then { s with test := { s.test with scan := false } } else s)

/-- SCAN_TEST_INSTRUCTION: accepted only while COLD_RST_N is low; the always-on contents go as at a brown-out (R503). -/
def execScanTestInstruction (s : State) : Host.Outcome State Fault Refusal :=
  .next (if s.tapOn && s.mode.coldLow then ({ s with test := { s.test with scan := true } }).brownOut else s)

end Sys2Proof.Machine
end

