-- ==== Sys2Proof/Machine/Dispatch.lean ====
section
/-!
DEFINITION. The meaning of every command: one arm for each row of the command table.
-/
namespace Sys2Proof.Machine

/-- What a command does to the block, its queue apart. -/
def exec (i : Instr) (s : State) : Host.Outcome State Fault Refusal :=
  match i with
  | .opRead p r e => Sys2Proof.Machine.execOpRead p r e s
  | .opWrite p r e => Sys2Proof.Machine.execOpWrite p r e s
  | .opWriteXor p r e => Sys2Proof.Machine.execOpWriteXor p r e s
  | .opFill p r e => Sys2Proof.Machine.execOpFill p r e s
  | .groupOpen p r => Sys2Proof.Machine.execGroupOpen p r s
  | .groupCommit p r => Sys2Proof.Machine.execGroupCommit p r s
  | .groupAbort p r => Sys2Proof.Machine.execGroupAbort p r s
  | .opBarrier p r => Sys2Proof.Machine.execOpBarrier p r s
  | .reservedOpcode p op r => Sys2Proof.Machine.execReservedOpcode p op r s
  | .writeDataBeat p b => Sys2Proof.Machine.execWriteDataBeat p b s
  | .response p tag => Sys2Proof.Machine.execResponse p tag s
  | .barrierComplete p tag => Sys2Proof.Machine.execBarrierComplete p tag s
  | .groupCommitForward p tag => Sys2Proof.Machine.execGroupCommitForward p tag s
  | .orderedForward p tag => Sys2Proof.Machine.execOrderedForward p tag s
  | .portResetPin p => Sys2Proof.Machine.execPortResetPin p s
  | .portReset p => Sys2Proof.Machine.execPortReset p s
  | .portResetDrainDone p => Sys2Proof.Machine.execPortResetDrainDone p s
  | .portResetRelease p => Sys2Proof.Machine.execPortResetRelease p s
  | .prtClrCounters p => Sys2Proof.Machine.execPrtClrCounters p s
  | .wdTimeout p tag => Sys2Proof.Machine.execWdTimeout p tag s
  | .tagWatchdog p tag => Sys2Proof.Machine.execTagWatchdog p tag s
  | .ingestBeat n b => Sys2Proof.Machine.execIngestBeat n b s
  | .idleClose n => Sys2Proof.Machine.execIdleClose n s
  | .drainStripeIssue n => Sys2Proof.Machine.execDrainStripeIssue n s
  | .drainStripeAck n => Sys2Proof.Machine.execDrainStripeAck n s
  | .trigger n => Sys2Proof.Machine.execTrigger n s
  | .freezeComplete n => Sys2Proof.Machine.execFreezeComplete n s
  | .ingestPortReset n => Sys2Proof.Machine.execIngestPortReset n s
  | .ingestPortResetRelease n => Sys2Proof.Machine.execIngestPortResetRelease n s
  | .ingEnable n => Sys2Proof.Machine.execIngEnable n s
  | .ingDisable n => Sys2Proof.Machine.execIngDisable n s
  | .closingComplete n => Sys2Proof.Machine.execClosingComplete n s
  | .rearm n => Sys2Proof.Machine.execRearm n s
  | .trig n => Sys2Proof.Machine.execTrig n s
  | .ingClrCounters n => Sys2Proof.Machine.execIngClrCounters n s
  | .ingRpWrite n rp => Sys2Proof.Machine.execIngRpWrite n rp s
  | .flip group => Sys2Proof.Machine.execFlip group s
  | .soloDone slot => Sys2Proof.Machine.execSoloDone slot s
  | .demandResolution half e => Sys2Proof.Machine.execDemandResolution half e s
  | .sweepStep half e => Sys2Proof.Machine.execSweepStep half e s
  | .ldgClrCounters => Sys2Proof.Machine.execLdgClrCounters s
  | .clearAllPoison => Sys2Proof.Machine.execClearAllPoison s
  | .clearPoison => Sys2Proof.Machine.execClearPoison s
  | .abortGrp => Sys2Proof.Machine.execAbortGrp s
  | .arbPhase h flit => Sys2Proof.Machine.execArbPhase h flit s
  | .arbTickAdvance h => Sys2Proof.Machine.execArbTickAdvance h s
  | .backoffExpiry h => Sys2Proof.Machine.execBackoffExpiry h s
  | .routeEpochSwap h => Sys2Proof.Machine.execRouteEpochSwap h s
  | .fenceDone h => Sys2Proof.Machine.execFenceDone h s
  | .lateResponse c => Sys2Proof.Machine.execLateResponse c s
  | .fabClrCounters => Sys2Proof.Machine.execFabClrCounters s
  | .arbClrCounters => Sys2Proof.Machine.execArbClrCounters s
  | .clrLongest => Sys2Proof.Machine.execClrLongest s
  | .warmReset => Sys2Proof.Machine.execWarmReset s
  | .wrstLimitExpiry => Sys2Proof.Machine.execWrstLimitExpiry s
  | .regulationEpoch => Sys2Proof.Machine.execRegulationEpoch s
  | .feasibilityCheck => Sys2Proof.Machine.execFeasibilityCheck s
  | .recheck => Sys2Proof.Machine.execRecheck s
  | .shrClrCounters => Sys2Proof.Machine.execShrClrCounters s
  | .memberReadReturn c index err => Sys2Proof.Machine.execMemberReadReturn c index err s
  | .memberWriteAck c index => Sys2Proof.Machine.execMemberWriteAck c index s
  | .zeroFillStep g => Sys2Proof.Machine.execZeroFillStep g s
  | .grpClrCounters g => Sys2Proof.Machine.execGrpClrCounters g s
  | .sliceCommandIssue c late => Sys2Proof.Machine.execSliceCommandIssue c late s
  | .gustWrAge c => Sys2Proof.Machine.execGustWrAge c s
  | .refreshBoundary c => Sys2Proof.Machine.execRefreshBoundary c s
  | .tleadExpiry c => Sys2Proof.Machine.execTleadExpiry c s
  | .refreshStallEnd c => Sys2Proof.Machine.execRefreshStallEnd c s
  | .perBankRefresh c => Sys2Proof.Machine.execPerBankRefresh c s
  | .refreshRatePoll c worst field => Sys2Proof.Machine.execRefreshRatePoll c worst field s
  | .parityAlert c index => Sys2Proof.Machine.execParityAlert c index s
  | .replayReissue c again copyBad => Sys2Proof.Machine.execReplayReissue c again copyBad s
  | .ckcFlush c => Sys2Proof.Machine.execCkcFlush c s
  | .chClrCounters c => Sys2Proof.Machine.execChClrCounters c s
  | .oscillatorPoll c drift => Sys2Proof.Machine.execOscillatorPoll c drift s
  | .lullIntervalExpiry c => Sys2Proof.Machine.execLullIntervalExpiry c s
  | .lullWindow c e => Sys2Proof.Machine.execLullWindow c e s
  | .marginFailRetry c => Sys2Proof.Machine.execMarginFailRetry c s
  | .fullRetrainDone c e => Sys2Proof.Machine.execFullRetrainDone c e s
  | .lull c => Sys2Proof.Machine.execLull c s
  | .retrain c => Sys2Proof.Machine.execRetrain c s
  | .scan c => Sys2Proof.Machine.execScan c s
  | .scanDone c res0 res1 res2 => Sys2Proof.Machine.execScanDone c res0 res1 res2 s
  | .chTrnClrCounters c => Sys2Proof.Machine.execChTrnClrCounters c s
  | .plChangeDecision => Sys2Proof.Machine.execPlChangeDecision s
  | .standbyPllLocked c => Sys2Proof.Machine.execStandbyPllLocked c s
  | .switchStep c => Sys2Proof.Machine.execSwitchStep c s
  | .supplyMonitorUpdate coreMv sliceMv pllOk => Sys2Proof.Machine.execSupplyMonitorUpdate coreMv sliceMv pllOk s
  | .vrampExpiry => Sys2Proof.Machine.execVrampExpiry s
  | .thermalMonitorUpdate c sliceT coreT => Sys2Proof.Machine.execThermalMonitorUpdate c sliceT coreT s
  | .paceMonitorUpdate mon mhz => Sys2Proof.Machine.execPaceMonitorUpdate mon mhz s
  | .paceOffsetStep => Sys2Proof.Machine.execPaceOffsetStep s
  | .deviceResetEnd => Sys2Proof.Machine.execDeviceResetEnd s
  | .sliceTrainingDone c dev e => Sys2Proof.Machine.execSliceTrainingDone c dev e s
  | .slowLimitExpiry c => Sys2Proof.Machine.execSlowLimitExpiry c s
  | .errLevelLeak c => Sys2Proof.Machine.execErrLevelLeak c s
  | .relayoutStart g => Sys2Proof.Machine.execRelayoutStart g s
  | .relayoutStripe g due => Sys2Proof.Machine.execRelayoutStripe g due s
  | .relayoutComplete g => Sys2Proof.Machine.execRelayoutComplete g s
  | .quarantineProbe c answered => Sys2Proof.Machine.execQuarantineProbe c answered s
  | .sprFail c => Sys2Proof.Machine.execSprFail c s
  | .evacuate g m c => Sys2Proof.Machine.execEvacuate g m c s
  | .returnHome g m => Sys2Proof.Machine.execReturnHome g m s
  | .suspend g => Sys2Proof.Machine.execSuspend g s
  | .resume g => Sys2Proof.Machine.execResume g s
  | .sliceTest c => Sys2Proof.Machine.execSliceTest c s
  | .sliceTestDone c pass => Sys2Proof.Machine.execSliceTestDone c pass s
  | .admitSlice c => Sys2Proof.Machine.execAdmit c s
  | .attach g m c => Sys2Proof.Machine.execAttach g m c s
  | .clrLoss => Sys2Proof.Machine.execClrLoss s
  | .sprClrCounters => Sys2Proof.Machine.execSprClrCounters s
  | .patrolStripe g errs => Sys2Proof.Machine.execPatrolStripe g errs s
  | .switchover => Sys2Proof.Machine.execSwitchover s
  | .vmainAoReturn => Sys2Proof.Machine.execVmainAoReturn s
  | .brownOut => Sys2Proof.Machine.execBrownOut s
  | .vbkLow low => Sys2Proof.Machine.execVbkLow low s
  | .doorbell => Sys2Proof.Machine.execDoorbell s
  | .pwrReqRise st => Sys2Proof.Machine.execPwrReqRise st s
  | .pwrReqFall => Sys2Proof.Machine.execPwrReqFall s
  | .dozeIdleExpiry => Sys2Proof.Machine.execDozeIdleExpiry s
  | .voteAnswer d => Sys2Proof.Machine.execVoteAnswer d s
  | .voteTimeout d => Sys2Proof.Machine.execVoteTimeout d s
  | .rollbackComplete => Sys2Proof.Machine.execRollbackComplete s
  | .sleepEntryComplete => Sys2Proof.Machine.execSleepEntryComplete s
  | .sleepWake => Sys2Proof.Machine.execSleepWake s
  | .wakeComplete => Sys2Proof.Machine.execWakeComplete s
  | .clrRes => Sys2Proof.Machine.execClrRes s
  | .pwrClrCounters => Sys2Proof.Machine.execPwrClrCounters s
  | .clrCap => Sys2Proof.Machine.execClrCap s
  | .clrVofs => Sys2Proof.Machine.execClrVofs s
  | .mainPgFall => Sys2Proof.Machine.execMainPgFall s
  | .admittedRequestsDone => Sys2Proof.Machine.execAdmittedRequestsDone s
  | .openEntryLimit => Sys2Proof.Machine.execOpenEntryLimit s
  | .saveHeaderWrite => Sys2Proof.Machine.execSaveHeaderWrite s
  | .selfRefreshEntry c => Sys2Proof.Machine.execSelfRefreshEntry c s
  | .squallComplete => Sys2Proof.Machine.execSquallComplete s
  | .squallTokenTake => Sys2Proof.Machine.execSquallTokenTake s
  | .tokenWaitExpiry peer => Sys2Proof.Machine.execTokenWaitExpiry peer s
  | .mainPgRise => Sys2Proof.Machine.execMainPgRise s
  | .refclkDetect => Sys2Proof.Machine.execRefclkDetect s
  | .bringupComplete => Sys2Proof.Machine.execBringupComplete s
  | .busClaim => Sys2Proof.Machine.execBusClaim s
  | .frameReceived bytes collision => Sys2Proof.Machine.execFrameReceived bytes collision s
  | .ping dest src payload => Sys2Proof.Machine.execPing dest src payload s
  | .status dest src => Sys2Proof.Machine.execStatus dest src s
  | .wake dest src => Sys2Proof.Machine.execWake dest src s
  | .plHint dest src payload => Sys2Proof.Machine.execPlHint dest src payload s
  | .squallToken dest src => Sys2Proof.Machine.execSquallToken dest src s
  | .squallDone dest src => Sys2Proof.Machine.execSquallDone dest src s
  | .pingReply dest src payload => Sys2Proof.Machine.execPingReply dest src payload s
  | .statusReply dest src payload => Sys2Proof.Machine.execStatusReply dest src payload s
  | .frameSend rivals collision => Sys2Proof.Machine.execFrameSend rivals collision s
  | .handshakeTimeout sender => Sys2Proof.Machine.execHandshakeTimeout sender s
  | .stuck low => Sys2Proof.Machine.execStuck low s
  | .send => Sys2Proof.Machine.execSend s
  | .rxRelease => Sys2Proof.Machine.execRxRelease s
  | .brzClrCounters => Sys2Proof.Machine.execBrzClrCounters s
  | .registerWrite a => Sys2Proof.Machine.execRegisterWrite a s
  | .idleApply page => Sys2Proof.Machine.execIdleApply page s
  | .intRawClear page bits => Sys2Proof.Machine.execIntRawClear page bits s
  | .intForce page bits => Sys2Proof.Machine.execIntForce page bits s
  | .clrErr page => Sys2Proof.Machine.execClrErr page s
  | .discard page => Sys2Proof.Machine.execDiscard page s
  | .glbLock => Sys2Proof.Machine.execGlbLock s
  | .acquire reqid => Sys2Proof.Machine.execAcquire reqid s
  | .commit reqid => Sys2Proof.Machine.execCommit reqid s
  | .release reqid => Sys2Proof.Machine.execRelease reqid s
  | .leaseExpiry => Sys2Proof.Machine.execLeaseExpiry s
  | .cpReset => Sys2Proof.Machine.execCpReset s
  | .cfgParitySweep page ofs fault => Sys2Proof.Machine.execCfgParitySweep page ofs fault s
  | .mboxPing v => Sys2Proof.Machine.execMboxPing v s
  | .diagEnter => Sys2Proof.Machine.execDiagEnter s
  | .diagExit => Sys2Proof.Machine.execDiagExit s
  | .cfgSweep => Sys2Proof.Machine.execCfgSweep s
  | .bist sets => Sys2Proof.Machine.execBist sets s
  | .pattern v slice pat seed first count => Sys2Proof.Machine.execPattern v slice pat seed first count s
  | .patrolRestart => Sys2Proof.Machine.execPatrolRestart s
  | .abort v => Sys2Proof.Machine.execAbort v s
  | .vaneClrCounters v => Sys2Proof.Machine.execVaneClrCounters v s
  | .mboxDone v r0 r1 r2 => Sys2Proof.Machine.execMboxDone v r0 r1 r2 s
  | .dbgRead => Sys2Proof.Machine.execDbgRead s
  | .dbgWrite => Sys2Proof.Machine.execDbgWrite s
  | .directRead => Sys2Proof.Machine.execDirectRead s
  | .directWrite => Sys2Proof.Machine.execDirectWrite s
  | .dbgDone => Sys2Proof.Machine.execDbgDone s
  | .capArm => Sys2Proof.Machine.execCapArm s
  | .ack => Sys2Proof.Machine.execAck s
  | .ackAll => Sys2Proof.Machine.execAckAll s
  | .clrFirst => Sys2Proof.Machine.execClrFirst s
  | .errClrCounters => Sys2Proof.Machine.execErrClrCounters s
  | .snap => Sys2Proof.Machine.execSnap s
  | .snapCaptureDone => Sys2Proof.Machine.execSnapCaptureDone s
  | .clrCnt => Sys2Proof.Machine.execClrCnt s
  | .clrOvf => Sys2Proof.Machine.execClrOvf s
  | .flush => Sys2Proof.Machine.execFlush s
  | .clrUnderrun => Sys2Proof.Machine.execClrUnderrun s
  | .clrSamp => Sys2Proof.Machine.execClrSamp s
  | .samplePop => Sys2Proof.Machine.execSamplePop s
  | .fillBankTimeout => Sys2Proof.Machine.execFillBankTimeout s
  | .program => Sys2Proof.Machine.execProgram s
  | .programDone matched => Sys2Proof.Machine.execProgramDone matched s
  | .supplyTrip => Sys2Proof.Machine.execSupplyTrip s
  | .otpClrCounters => Sys2Proof.Machine.execOtpClrCounters s
  | .keyDerive => Sys2Proof.Machine.execKeyDerive s
  | .keyDeriveDone => Sys2Proof.Machine.execKeyDeriveDone s
  | .keyClear => Sys2Proof.Machine.execKeyClear s
  | .patchLoad => Sys2Proof.Machine.execPatchLoad s
  | .patchLoadDone => Sys2Proof.Machine.execPatchLoadDone s
  | .patchTakeUp => Sys2Proof.Machine.execPatchTakeUp s
  | .clrDeny => Sys2Proof.Machine.execClrDeny s
  | .coldReset => Sys2Proof.Machine.execColdReset s
  | .coldBringupStart => Sys2Proof.Machine.execColdBringupStart s
  | .tapReset => Sys2Proof.Machine.execTapReset s
  | .idcode => Sys2Proof.Machine.execIdcode s
  | .samplePreload => Sys2Proof.Machine.execSamplePreload s
  | .extest => Sys2Proof.Machine.execExtest s
  | .clamp => Sys2Proof.Machine.execClamp s
  | .highz => Sys2Proof.Machine.execHighz s
  | .bypass => Sys2Proof.Machine.execBypass s
  | .regacc word => Sys2Proof.Machine.execRegacc word s
  | .wsBypass => Sys2Proof.Machine.execWsBypass s
  | .scanTestInstruction => Sys2Proof.Machine.execScanTestInstruction s
  | .registerRead a parityFault => Sys2Proof.Machine.execRegisterRead a parityFault s
  | .selfRefreshExit c => Sys2Proof.Machine.execSelfRefreshExit c s
  | .microcodeCheckDone ok => Sys2Proof.Machine.execMicrocodeCheckDone ok s
  | .listenerJoin => Sys2Proof.Machine.execListenerJoin s
  | .badOp v op => Sys2Proof.Machine.execBadOp v op s
  | .vidHoldExpiry => Sys2Proof.Machine.execVidHoldExpiry s
  | .slotBoundary c f => Sys2Proof.Machine.execSlotBoundary c f s

end Sys2Proof.Machine
end

