-- ==== Sys2Proof/Machine/Tick.lean ====
section
/-!
DEFINITION. What one tick of 1 ns does when no command waits: the timebase (R444), residency (R320), the telemetry events that are
summed every tick (R443), and the response buffers' limit (R60).
-/
namespace Sys2Proof.Machine

/-- The residency counter that a moment falls in (R320): ACTIVE, S1, S2, RETENTION, HOLD-UP, BRING-UP, DIAGNOSTIC. -/
def State.resClass (s : State) : Nat :=
  match s.mode.mode with
  | .run | .degraded => s.sleepState.toNat
  | .retention => 3
  | .holdUp => 4
  | .bringUp => 5
  | .diagnostic => 6

/-- Microseconds added to a residency counter. -/
def AlwaysOn.addRes (x : AlwaysOn) (k us : Nat) : AlwaysOn := { x with res := x.res.setIfInBounds k (x.res[k]?.getD 0 + BitVec.ofNat 64 us) }

/-- One nanosecond in RETENTION: with each period of SLOWCLK, which is 1,000,000,000 ÷ 32,768 ns, 1,000,000 ÷ 32,768 µs are added, the fraction
carried. -/
def AlwaysOn.tickSlow (x : AlwaysOn) : AlwaysOn :=
  let t := x.slow + 32768
  if t < 1000000000 then { x with slow := t }
  else
    let f := x.frac + 1000000
    ({ x with slow := t - 1000000000, frac := f % 32768 } : AlwaysOn).addRes 3 (f / 32768)

/-- One nanosecond while REFCLK runs. -/
def AlwaysOn.tickFast (x : AlwaysOn) (k : Nat) : AlwaysOn :=
  if x.resNs + 1 < 1000 then { x with resNs := x.resNs + 1 } else ({ x with resNs := 0 } : AlwaysOn).addRes k 1

/-- One nanosecond of residency, while the always-on domain holds valid contents (R320). -/
def State.tickResidency (s : State) : State :=
  if s.pins.aoValid = false then s
  else { s with ao := if s.mode.mode = .retention then s.ao.tickSlow else s.ao.tickFast s.resClass }

/-- Open journal entries, OVERCOMMIT and pending fences, summed each tick (R443 0x0A, 0x12, 0x13). -/
def State.tickSums (s : State) : State :=
  let s := allGroups.foldl (fun (s : State) (g : Fin 8) =>
    let s := s.telSys 0x0A (some g.val) s.hubs[g].journal.length
    if s.fencePending g then s.telSys 0x13 (some g.val) 1 else s) s
  if s.overcommit then s.telSys 0x12 none 1 else s

/-- Vane running time (R443 0x11): a vane with a command runs; of its other work the manual gives no measure, a free value. -/
def State.tickVanes (s : State) : State :=
  let w : BitVec 24 := s.freeVal 24
  (List.finRange 24).foldl (fun (s : State) (v : Fin 24) =>
    if s.vanes[v].busy || w.getLsbD v.val then s.telSys 0x11 (some v.val) 1 else s) s.tookFree

/-- One tick of the block. The timebase stands while the core is off. -/
def State.tick (s : State) : State :=
  let s := s.tickResidency
  if s.pwr.coreOn = false ∨ s.mode.mode = .retention then s
  else
    let s := { s with tb := s.tb + 1 }
    (List.finRange 16).foldl (fun (s : State) (p : Fin 16) => s.checkSink p) s.tickSums.tickVanes

end Sys2Proof.Machine
end

