-- ==== Sys2Proof/Safety.lean ====
section
/-!
DEFINITION. What a run must keep. `Part` names the parts of the state, `touches` gives for every command the parts it may change, and
`Inv` is the invariant that every step keeps: the canonical form of memory, the sequence lock, the requests in flight and the sizes of
the block's buffers.
-/
namespace Sys2Proof.Machine

/-- A command answers a next state that has a property. -/
def Completes (c : Instr) (s : State) (P : State → Prop) : Prop := ∃ t, exec c s = .next t ∧ P t

/-- What identifies a request: its number, source, tag and opcode. -/
def Req.key (r : Req) : Nat × BitVec 5 × BitVec 10 × BitVec 4 := (r.rid, r.src, r.tag, r.op)

/-- The parts of the state that a frame speaks of. -/
inductive Part where
  /-- The commands that wait. -/
  | pending
  /-- The timebase. -/
  | tb
  /-- The counter of free values drawn. -/
  | free
  /-- The next request number. -/
  | ids
  /-- The block mode and the bring-up in progress. -/
  | mode
  /-- Pins. -/
  | pins
  /-- Applied register values. -/
  | regApplied
  /-- Shadow values. -/
  | regShadows
  /-- Low words held for 64-bit registers. -/
  | regLow
  /-- Page headers: raw flags, enables, forced flags, access error and parity flags. -/
  | regHeaders
  /-- Values that wait for the next bring-up. -/
  | regBoot
  /-- Writes held for slice pages in S2. -/
  | regHeld
  /-- The configuration lock. -/
  | regLock
  /-- The sequence lock and its staged writes. -/
  | regSeq
  /-- The register port response. -/
  | regResponse
  /-- Ports. -/
  | ports
  /-- Requests in the block. -/
  | reqs
  /-- Ingest streams. -/
  | ingest
  /-- The ledger, all but the table marking. -/
  | ledger
  /-- The marking of a bad ledger table entry. -/
  | ledgerTable
  /-- Group hubs: tables, jobs, journals, voids. -/
  | hubs
  /-- The fabric: fences, arbitration counts, late responses. -/
  | fab
  /-- Shares and regulation. -/
  | shr
  /-- Slices: scheduler, training, health, power, counters. -/
  | slices
  /-- Spares: relayouts, queue, patrol, loss. -/
  | spr
  /-- The always-on domain, all but the error sequence number. -/
  | ao
  /-- The sequence number of error log entries. -/
  | errSeq
  /-- The power manager. -/
  | pwr
  /-- The Squall in progress, all but its log copy. -/
  | squall
  /-- The copy of the error log a Squall saves. -/
  | squallLog
  /-- Keep copy A. -/
  | keepA
  /-- Keep copy B. -/
  | keepB
  /-- The Breeze port. -/
  | brz
  /-- The error log. -/
  | err
  /-- Telemetry event counters. -/
  | telCount
  /-- Telemetry, all but the event counters. -/
  | tel
  /-- Security: the one-time row, keys, patch image. -/
  | sec
  /-- Vane mailboxes. -/
  | vanes
  /-- The debug port. -/
  | dbg
  /-- The test access port. -/
  | test
  /-- The devices: every byte of memory. -/
  | mem
  /-- Which requests are in the block: the number, source, tag and opcode of each, in order. -/
  | reqList
  deriving DecidableEq, Repr

/-- A part is the same in two states. -/
def Part.same (p : Part) (s t : State) : Prop :=
  match p with
  | .pending => t.pending = s.pending
  | .tb => t.tb = s.tb
  | .free => t.free = s.free
  | .ids => t.ids = s.ids
  | .mode => t.mode = s.mode
  | .pins => t.pins = s.pins
  | .regApplied => t.regs.applied = s.regs.applied
  | .regShadows => t.regs.shadows = s.regs.shadows
  | .regLow => t.regs.lowHeld = s.regs.lowHeld
  | .regHeaders => t.regs.headers = s.regs.headers
  | .regBoot => t.regs.boot = s.regs.boot
  | .regHeld => t.regs.napHeld = s.regs.napHeld
  | .regLock => t.regs.locked = s.regs.locked
  | .regSeq => t.regs.seq = s.regs.seq
  | .regResponse => t.regs.rdata = s.regs.rdata ∧ t.regs.rerr = s.regs.rerr
  | .ports => t.ports = s.ports
  | .reqs => t.reqs = s.reqs
  | .ingest => t.ingest = s.ingest
  | .ledger => { t.ledger with tableBad := false } = { s.ledger with tableBad := false }
  | .ledgerTable => t.ledger.tableBad = s.ledger.tableBad
  | .hubs => t.hubs = s.hubs
  | .fab => t.fab = s.fab
  | .shr => t.shr = s.shr
  | .slices => t.slices = s.slices
  | .spr => t.spr = s.spr
  | .ao => { t.ao with errSeq := 0 } = { s.ao with errSeq := 0 }
  | .errSeq => t.ao.errSeq = s.ao.errSeq
  | .pwr => t.pwr = s.pwr
  | .squall => { t.squall with log := [], logOvf := false } = { s.squall with log := [], logOvf := false }
  | .squallLog => t.squall.log = s.squall.log ∧ t.squall.logOvf = s.squall.logOvf
  | .keepA => t.keepA = s.keepA
  | .keepB => t.keepB = s.keepB
  | .brz => t.brz = s.brz
  | .err => t.err = s.err
  | .telCount => t.tel.sys = s.tel.sys ∧ t.tel.sysOvf = s.tel.sysOvf
  | .tel => { t.tel with sys := Vector.replicate 8 0, sysOvf := 0 } = { s.tel with sys := Vector.replicate 8 0, sysOvf := 0 }
  | .sec => t.sec = s.sec
  | .vanes => t.vanes = s.vanes
  | .dbg => t.dbg = s.dbg
  | .test => t.test = s.test
  | .mem => t.mem = s.mem
  | .reqList => t.reqs.map Req.key = s.reqs.map Req.key

/-- Nothing outside the parts listed differs. -/
def Frame (l : List Part) (s t : State) : Prop := ∀ p : Part, p ∉ l → p.same s t

/-! ### What each command may change -/

/-- What logging an event touches (R421 to R430). -/
def logParts : List Part := [.free, .regHeaders, .ledgerTable, .errSeq, .squall, .squallLog, .err]

/-- What a request entering the ledger touches. -/
def requestParts : List Part := [.ids, .reqs, .ledger, .telCount]

/-- What declaring a slice failed touches (R258). -/
def failParts : List Part := [.mode, .reqs, .hubs, .fab, .shr, .slices, .spr]

/-- What a reset of the core touches (R25). -/
def resetParts : List Part := [.regApplied, .regShadows, .regLow, .regHeaders, .regBoot, .regHeld, .regLock, .regSeq, .regResponse, .ports, .reqs, .ingest, .ledger, .ledgerTable, .hubs, .fab, .shr, .slices, .spr, .pwr, .brz, .err, .telCount, .tel, .sec, .vanes, .dbg, .test, .reqList]

/-- What the beginning of a HOLD-UP touches (R28, R29, R335). -/
def squallParts : List Part := [.free, .ids, .mode, .pins, .regApplied, .regHeaders, .regSeq, .reqs, .ingest, .ledger, .ledgerTable, .fab, .slices, .ao, .errSeq, .pwr, .squall, .squallLog, .brz, .err, .telCount, .sec, .vanes, .dbg, .reqList]

/-- What a register write touches: a write can ring any doorbell (R364 to R416). -/
def writeParts : List Part := [.tb, .free, .ids, .mode, .pins, .regApplied, .regShadows, .regLow, .regHeaders, .regBoot, .regHeld, .regLock, .regSeq, .regResponse, .ports, .reqs, .ingest, .ledger, .ledgerTable, .hubs, .fab, .shr, .slices, .spr, .ao, .errSeq, .pwr, .squall, .squallLog, .brz, .err, .telCount, .tel, .sec, .vanes, .dbg, .test, .mem, .reqList]

/-- The parts of the state that a command may change. Every other part is as it was. -/
def touches : Instr → List Part
  | .opRead _ _ _ => logParts ++ requestParts ++ [.pins, .ports, .pwr, .tel, .reqList]
  | .opWrite _ _ _ => logParts ++ requestParts ++ [.pins, .ports, .pwr, .tel, .reqList]
  | .opWriteXor _ _ _ => logParts ++ requestParts ++ [.pins, .ports, .pwr, .tel, .reqList]
  | .opFill _ _ _ => logParts ++ requestParts ++ [.pins, .ports, .pwr, .tel, .reqList]
  | .groupOpen _ _ => logParts ++ requestParts ++ [.pins, .ports, .pwr, .tel, .reqList]
  | .groupCommit _ _ => logParts ++ requestParts ++ [.pins, .ports, .pwr, .tel, .reqList]
  | .groupAbort _ _ => logParts ++ requestParts ++ [.pins, .ports, .pwr, .tel, .reqList]
  | .opBarrier _ _ => logParts ++ requestParts ++ [.pins, .ports, .pwr, .tel, .reqList]
  | .reservedOpcode _ _ _ => logParts ++ requestParts ++ [.pins, .ports, .pwr, .tel, .reqList]
  | .writeDataBeat _ _ => logParts ++ requestParts ++ [.ports, .reqList]
  | .response _ _ => logParts ++ requestParts ++ [.ports, .shr, .tel, .reqList]
  | .barrierComplete _ _ => logParts ++ requestParts ++ [.ports, .shr, .tel, .reqList]
  | .groupCommitForward _ _ => logParts ++ requestParts
  | .orderedForward _ _ => logParts ++ requestParts
  | .portResetPin _ => logParts ++ requestParts ++ [.regSeq, .ports, .reqList]
  | .portReset _ => logParts ++ requestParts ++ [.regSeq, .ports, .reqList]
  | .portResetDrainDone _ => logParts ++ requestParts ++ [.ports, .tel, .reqList]
  | .portResetRelease _ => [.ports]
  | .prtClrCounters _ => [.ports]
  | .wdTimeout _ _ => logParts ++ requestParts ++ [.ports, .reqList]
  | .tagWatchdog _ _ => logParts ++ [.reqs]
  | .ingestBeat _ _ => [.regHeaders, .ingest]
  | .idleClose _ => [.ingest]
  | .drainStripeIssue _ => [.ids, .reqs, .ingest, .reqList]
  | .drainStripeAck _ => [.regHeaders, .reqs, .ingest, .reqList]
  | .trigger _ => [.ingest]
  | .freezeComplete _ => [.regHeaders, .ingest]
  | .ingestPortReset _ => [.reqs, .ingest]
  | .ingestPortResetRelease _ => [.ingest]
  | .ingEnable _ => [.regHeaders, .regSeq, .ingest, .shr]
  | .ingDisable _ => [.regHeaders, .regSeq, .ingest, .shr]
  | .closingComplete _ => [.regApplied, .regShadows, .regHeaders, .reqs, .ingest, .shr]
  | .rearm _ => [.ingest]
  | .trig _ => [.ingest]
  | .ingClrCounters _ => [.ingest]
  | .ingRpWrite _ _ => [.regHeaders, .regSeq, .ingest]
  | .flip _ => logParts ++ [.reqs, .ledger, .telCount]
  | .soloDone _ => logParts ++ requestParts
  | .demandResolution _ _ => logParts ++ failParts ++ requestParts ++ [.mem]
  | .sweepStep _ _ => logParts ++ failParts ++ requestParts ++ [.mem]
  | .ldgClrCounters => [.ledger]
  | .clearAllPoison => logParts ++ [.ledger]
  | .clearPoison => logParts ++ [.ledger]
  | .abortGrp => logParts ++ requestParts
  | .arbPhase _ _ => logParts ++ failParts ++ requestParts ++ [.pins, .ports, .ao, .pwr, .dbg, .mem, .reqList]
  | .arbTickAdvance _ => [.regHeaders, .reqs, .hubs]
  | .backoffExpiry _ => [.reqs]
  | .routeEpochSwap _ => logParts ++ requestParts ++ [.pins, .hubs, .fab, .slices, .spr, .ao, .pwr, .mem, .reqList]
  | .fenceDone _ => [.regHeaders, .hubs]
  | .lateResponse _ => [.regHeaders, .fab, .slices]
  | .fabClrCounters => [.fab]
  | .arbClrCounters => [.fab]
  | .clrLongest => [.fab]
  | .warmReset => writeParts
  | .wrstLimitExpiry => logParts ++ requestParts ++ [.ports, .ingest, .tel, .reqList]
  | .regulationEpoch => [.pins, .regApplied, .regShadows, .regHeaders, .reqs, .ingest, .shr, .slices, .pwr, .mem]
  | .feasibilityCheck => [.shr]
  | .recheck => [.shr]
  | .shrClrCounters => [.shr]
  | .memberReadReturn _ _ _ => logParts ++ failParts ++ requestParts ++ [.pins, .ao, .pwr, .mem, .reqList]
  | .memberWriteAck _ _ => logParts ++ requestParts ++ [.pins, .hubs, .fab, .slices, .spr, .ao, .pwr, .mem, .reqList]
  | .zeroFillStep _ => [.free, .ids, .pins, .regHeaders, .reqs, .hubs, .fab, .slices, .spr, .pwr, .telCount]
  | .grpClrCounters _ => [.hubs]
  | .sliceCommandIssue _ _ => logParts ++ requestParts ++ [.pins, .regApplied, .regShadows, .ingest, .hubs, .fab, .shr, .slices, .spr, .ao, .pwr, .mem, .reqList]
  | .gustWrAge _ => [.slices]
  | .refreshBoundary _ => logParts ++ [.regApplied, .regShadows, .reqs, .ingest, .hubs, .shr, .slices]
  | .tleadExpiry _ => [.regApplied, .regShadows, .regHeaders, .reqs, .ingest, .shr, .slices]
  | .refreshStallEnd _ => logParts ++ requestParts ++ [.pins, .hubs, .fab, .slices, .spr, .ao, .pwr, .mem, .reqList]
  | .perBankRefresh _ => [.slices]
  | .refreshRatePoll _ _ _ => logParts ++ [.shr, .slices]
  | .parityAlert _ _ => [.regHeaders, .slices]
  | .replayReissue _ _ _ => logParts ++ failParts
  | .ckcFlush _ => [.regHeld, .slices, .mem]
  | .chClrCounters _ => [.regHeld, .slices]
  | .oscillatorPoll _ _ => [.slices, .mem]
  | .lullIntervalExpiry _ => [.slices, .mem]
  | .lullWindow _ _ => logParts ++ failParts ++ [.mem]
  | .marginFailRetry _ => logParts ++ failParts ++ [.mem]
  | .fullRetrainDone _ _ => logParts ++ failParts ++ [.regApplied, .regShadows]
  | .lull _ => [.regHeld, .slices, .mem]
  | .retrain _ => logParts ++ failParts ++ [.regHeld]
  | .scan _ => [.regApplied, .regHeaders, .regHeld, .slices]
  | .scanDone _ _ _ _ => [.regApplied, .regHeaders, .slices]
  | .chTrnClrCounters _ => [.regHeld, .slices]
  | .plChangeDecision => [.pins, .regApplied, .regShadows, .regHeaders, .reqs, .shr, .slices, .pwr, .brz, .mem]
  | .standbyPllLocked _ => [.pins, .regApplied, .regShadows, .regHeaders, .reqs, .shr, .slices, .pwr, .mem]
  | .switchStep _ => [.pins, .regApplied, .regShadows, .regHeaders, .reqs, .hubs, .shr, .slices, .pwr, .mem]
  | .supplyMonitorUpdate _ _ _ => [.pins, .regApplied, .regShadows, .regHeaders, .reqs, .shr, .slices, .pwr, .mem]
  | .vrampExpiry => [.pins, .regHeaders, .slices, .pwr, .brz]
  | .thermalMonitorUpdate _ _ _ => [.regHeaders, .slices, .pwr, .brz, .mem]
  | .paceMonitorUpdate _ _ => [.regHeaders, .reqs, .shr, .pwr]
  | .paceOffsetStep => [.pins, .pwr, .brz]
  | .deviceResetEnd => [.mode, .hubs, .slices]
  | .sliceTrainingDone _ _ _ => [.free, .mode, .pins, .regApplied, .regShadows, .regHeaders, .hubs, .slices, .mem]
  | .slowLimitExpiry _ => logParts ++ failParts
  | .errLevelLeak _ => [.slices]
  | .relayoutStart _ => failParts ++ [.regApplied, .regShadows, .regHeaders, .ao]
  | .relayoutStripe _ _ => [.ids, .reqs, .spr, .ao, .reqList]
  | .relayoutComplete _ => logParts ++ failParts ++ [.ao, .keepA, .keepB, .telCount, .mem]
  | .quarantineProbe _ _ => [.regHeaders, .slices]
  | .sprFail _ => logParts ++ failParts
  | .evacuate _ _ _ => [.regHeaders, .slices, .spr]
  | .returnHome _ _ => [.regHeaders, .slices, .spr]
  | .suspend _ => [.regHeaders, .reqs, .spr, .ao, .reqList]
  | .resume _ => [.regHeaders, .reqs, .shr, .spr]
  | .sliceTest _ => [.regHeaders, .slices, .spr]
  | .sliceTestDone _ _ => [.free, .slices, .mem]
  | .admitSlice _ => [.regHeaders, .fab, .slices, .spr]
  | .attach _ _ _ => [.regHeaders, .slices, .spr]
  | .clrLoss => [.regHeaders, .spr]
  | .sprClrCounters => [.regHeaders, .slices, .spr]
  | .patrolStripe _ _ => logParts ++ failParts ++ [.telCount, .mem]
  | .switchover => [.regHeaders, .ao]
  | .vmainAoReturn => [.ao]
  | .brownOut => resetParts ++ [.tb, .mode, .pins, .ao, .errSeq, .squall, .squallLog]
  | .vbkLow _ => [.regHeaders, .ao]
  | .doorbell => [.pins, .pwr]
  | .pwrReqRise _ => [.pins, .pwr]
  | .pwrReqFall => [.pins, .pwr]
  | .dozeIdleExpiry => [.pwr]
  | .voteAnswer _ => squallParts ++ [.mem]
  | .voteTimeout _ => squallParts ++ [.mem]
  | .rollbackComplete => logParts ++ requestParts ++ [.pins, .regApplied, .regSeq, .ingest, .hubs, .fab, .shr, .slices, .ao, .pwr, .sec, .vanes, .mem, .reqList]
  | .sleepEntryComplete => [.pins, .regHeaders, .hubs, .slices, .pwr, .mem]
  | .sleepWake => writeParts
  | .wakeComplete => logParts ++ requestParts ++ [.pins, .regApplied, .regSeq, .ingest, .hubs, .fab, .shr, .slices, .ao, .pwr, .sec, .vanes, .mem, .reqList]
  | .clrRes => [.ao]
  | .pwrClrCounters => [.pwr]
  | .clrCap => [.pwr, .brz]
  | .clrVofs => [.pins, .pwr]
  | .mainPgFall => squallParts
  | .admittedRequestsDone => [.regHeaders, .ports, .reqs, .ingest, .squall, .tel, .reqList]
  | .openEntryLimit => [.squall]
  | .saveHeaderWrite => [.free, .regHeaders, .reqs, .hubs, .fab, .slices, .ao, .squall, .keepA, .keepB, .telCount, .mem, .reqList]
  | .selfRefreshEntry _ => [.free, .reqs, .slices, .squall, .mem, .reqList]
  | .squallComplete => resetParts ++ [.tb, .free, .mode, .pins, .ao, .errSeq, .squall, .mem]
  | .squallTokenTake => [.squall, .brz]
  | .tokenWaitExpiry _ => [.squall]
  | .mainPgRise => [.tb, .mode, .pins, .regApplied, .regHeaders, .slices, .ao, .errSeq, .pwr, .squall, .brz]
  | .refclkDetect => [.tb, .mode, .pins, .regApplied, .regHeaders, .slices, .ao, .errSeq, .pwr, .squall, .brz]
  | .bringupComplete => squallParts ++ failParts ++ [.tb, .regShadows, .regBoot, .regLock, .keepA, .keepB, .mem]
  | .busClaim => [.brz]
  | .frameReceived _ _ => [.mode, .pins, .regHeaders, .pwr, .squall, .brz]
  | .ping _ _ _ => [.mode, .pins, .regHeaders, .pwr, .squall, .brz]
  | .status _ _ => [.mode, .pins, .regHeaders, .pwr, .squall, .brz]
  | .wake _ _ => [.mode, .pins, .regHeaders, .pwr, .squall, .brz]
  | .plHint _ _ _ => [.mode, .pins, .regHeaders, .pwr, .squall, .brz]
  | .squallToken _ _ => [.mode, .pins, .regHeaders, .pwr, .squall, .brz]
  | .squallDone _ _ => [.mode, .pins, .regHeaders, .pwr, .squall, .brz]
  | .pingReply _ _ _ => [.mode, .pins, .regHeaders, .pwr, .squall, .brz]
  | .statusReply _ _ _ => [.mode, .pins, .regHeaders, .pwr, .squall, .brz]
  | .frameSend _ _ => [.regHeaders, .squall, .brz]
  | .handshakeTimeout _ => [.free, .regHeaders, .squall, .brz]
  | .stuck _ => [.free, .regHeaders, .brz]
  | .send => [.brz]
  | .rxRelease => [.brz]
  | .brzClrCounters => [.brz]
  | .registerWrite _ => writeParts
  | .idleApply _ => [.regApplied, .regShadows, .regHeaders, .reqs, .ingest, .shr]
  | .intRawClear _ _ => [.regHeaders, .regHeld]
  | .intForce _ _ => [.regHeaders, .regHeld]
  | .clrErr _ => [.regHeaders, .regHeld]
  | .discard _ => [.regShadows, .regLow, .regHeld]
  | .glbLock => [.regApplied, .regHeaders, .regLock, .regSeq, .ingest, .shr, .ao, .pwr, .brz, .tel]
  | .acquire _ => [.regHeaders, .regSeq]
  | .commit _ => writeParts
  | .release _ => writeParts
  | .leaseExpiry => [.regHeaders, .regSeq]
  | .cpReset => [.pins, .regHeaders, .regSeq]
  | .cfgParitySweep _ _ _ => logParts ++ failParts ++ requestParts ++ [.regShadows, .regLow, .regHeld, .regSeq, .ports, .ingest, .ao, .reqList]
  | .mboxPing _ => resetParts ++ logParts ++ [.tb, .mode, .pins, .ao, .mem]
  | .diagEnter => resetParts ++ logParts ++ [.tb, .mode, .pins, .ao, .mem]
  | .diagExit => resetParts ++ logParts ++ [.tb, .mode, .pins, .ao, .mem]
  | .cfgSweep => resetParts ++ logParts ++ [.tb, .mode, .pins, .ao, .mem]
  | .bist _ => resetParts ++ logParts ++ [.tb, .mode, .pins, .ao, .mem]
  | .pattern _ _ _ _ _ _ => resetParts ++ logParts ++ [.tb, .mode, .pins, .ao, .mem]
  | .patrolRestart => resetParts ++ logParts ++ [.tb, .mode, .pins, .ao, .mem]
  | .abort _ => [.vanes]
  | .vaneClrCounters _ => [.vanes]
  | .mboxDone _ _ _ _ => [.free, .mode, .regHeaders, .slices, .spr, .squall, .vanes, .dbg, .mem]
  | .dbgRead => logParts ++ requestParts ++ [.regApplied, .dbg, .mem, .reqList]
  | .dbgWrite => logParts ++ requestParts ++ [.regApplied, .dbg, .mem, .reqList]
  | .directRead => logParts ++ requestParts ++ [.regApplied, .dbg, .mem, .reqList]
  | .directWrite => logParts ++ requestParts ++ [.regApplied, .dbg, .mem, .reqList]
  | .dbgDone => [.regApplied, .regHeaders, .reqs, .dbg, .reqList]
  | .capArm => [.dbg]
  | .ack => [.err]
  | .ackAll => [.err]
  | .clrFirst => [.err]
  | .errClrCounters => [.err]
  | .snap => [.slices, .tel]
  | .snapCaptureDone => [.tel]
  | .clrCnt => [.slices, .telCount, .tel]
  | .clrOvf => [.slices, .telCount]
  | .flush => [.regHeaders, .tel]
  | .clrUnderrun => [.tel]
  | .clrSamp => [.tel]
  | .samplePop => [.regHeaders, .regResponse, .tel]
  | .fillBankTimeout => [.regHeaders, .tel]
  | .program => [.regApplied, .regHeaders, .sec]
  | .programDone _ => [.regApplied, .regHeaders, .sec]
  | .supplyTrip => [.regApplied, .regHeaders, .sec]
  | .otpClrCounters => [.sec]
  | .keyDerive => [.regHeaders, .sec]
  | .keyDeriveDone => [.regHeaders, .sec]
  | .keyClear => [.regHeaders, .sec]
  | .patchLoad => [.regHeaders, .sec]
  | .patchLoadDone => [.free, .regHeaders, .hubs, .fab, .telCount, .sec]
  | .patchTakeUp => [.mode, .sec]
  | .clrDeny => [.sec]
  | .coldReset => resetParts ++ [.tb, .mode, .pins, .squall, .squallLog]
  | .coldBringupStart => [.tb, .mode, .pins, .regApplied, .slices, .ao, .errSeq, .pwr, .brz]
  | .tapReset => [.free, .test]
  | .idcode => [.free, .test]
  | .samplePreload => [.free, .test]
  | .extest => [.free, .test]
  | .clamp => [.free, .test]
  | .highz => [.free, .test]
  | .bypass => [.free, .test]
  | .regacc _ => writeParts
  | .wsBypass => [.test]
  | .scanTestInstruction => resetParts ++ [.tb, .mode, .pins, .ao, .errSeq, .squall, .squallLog]
  | .registerRead _ _ => logParts ++ failParts ++ requestParts ++ [.pins, .regShadows, .regLow, .regHeld, .regSeq, .regResponse, .ports, .ingest, .ao, .tel, .sec, .reqList]
  | .selfRefreshExit _ => [.regApplied, .regShadows, .regHeaders, .hubs, .slices, .mem]
  | .microcodeCheckDone _ => [.free, .mode, .pins, .regApplied, .regHeaders, .hubs, .slices, .pwr, .keepA, .keepB, .sec, .mem]
  | .listenerJoin => [.brz]
  | .badOp _ _ => resetParts ++ logParts ++ [.tb, .mode, .pins, .ao, .mem]
  | .vidHoldExpiry => [.pins, .regApplied, .regShadows, .regHeaders, .slices, .pwr, .mem]
  | .slotBoundary _ _ => [.regHeaders, .slices]

/-! ### The invariant -/

/-- The sequence lock holds at most 64 staged writes, and none while it is free (R396). -/
def seqOk (q : SeqLock) : Prop := q.staged.length ≤ 64 ∧ (q.held = false → q.staged = [] ∧ q.overflow = false)

/-- Requests in flight: their numbers have been given out, no two share one, and no two of one port share a tag (R36, R38). -/
def reqsOk (ids : Nat) (l : List Req) : Prop :=
  (∀ r ∈ l, r.rid < ids) ∧ (l.map Req.rid).Nodup ∧ (∀ r ∈ l, ∀ r' ∈ l, r.src = r'.src → r.src.toNat < 16 → r.tag = r'.tag → r.rid = r'.rid)

/-- What every step keeps. -/
structure Inv (s : State) : Prop where
  /-- Memory has its canonical form. -/
  mem : Memory.wf s.mem = true
  /-- The sequence lock. -/
  seq : seqOk s.regs.seq
  /-- Breeze holds at most 4 replies (R356). -/
  replies : s.brz.replies.length ≤ 4
  /-- The requests in flight. -/
  reqs : reqsOk s.ids s.reqs
  /-- The error log has 32 entries (R421). -/
  unack : s.err.unack ≤ 32
  /-- A Squall saves at most 112 log entries. -/
  squall : s.squall.log.length ≤ 112
  /-- The bank of the sample FIFO being filled has 2048 records (R452). -/
  fill : s.tel.fill.length ≤ 2048

end Sys2Proof.Machine
end

