-- ==== Sys2Proof/Certificates/Slice0/Obligations.lean ====
section
/-!
DEFINITION. The statements about the block, chapter by chapter. Each says under which conditions on the state and the operands its commands
complete with their own effect, and what that effect is; the last ones are about every command and every step.
-/
open Sys2Proof Sys2Proof.Machine

/-! ### Requester ports -/

/-- A request presented at a port that is ready, under a tag that is free, is accepted: it takes a fresh request number, joins the
requests in flight under its port, tag and opcode, and the port's counters of malformed and denied requests follow the port checks
(R34, R36, R39, R48). -/
def Obligations.PortAcceptsRequest : Prop :=
  ∀ (p : Fin 16) (f : ReqFields) (e : EntryRead) (uc : Bool) (op : BitVec 4) (c : Instr) (s : State),
    s.reqReady p = true → s.byTag p f.tag = none →
    (c, op) ∈ [(Instr.opRead p f e, opcRead), (Instr.opWrite p f e, opcWrite), (Instr.opWriteXor p f e, opcXor), (Instr.opFill p f e, opcFill),
      (Instr.groupOpen p ⟨f, uc⟩, opcOpen), (Instr.groupCommit p ⟨f, uc⟩, opcCommit), (Instr.groupAbort p ⟨f, uc⟩, opcAbort), (Instr.opBarrier p f, opcBarrier),
      (Instr.reservedOpcode p op f, op)] →
    Completes c s fun t =>
      s.ids < t.ids ∧
      t.reqs.map Req.key = s.reqs.map Req.key ++ [(s.ids, srcPort p, f.tag, op)] ∧
      t.ports[p].malfCnt = (if s.malformed p op f then satInc s.ports[p].malfCnt else s.ports[p].malfCnt) ∧
      t.ports[p].denyCnt = (if !s.malformed p op f && s.portVerdict p op f == some rspDenied then satInc s.ports[p].denyCnt else s.ports[p].denyCnt) ∧
      (∀ q : Fin 16, q ≠ p → t.ports[q] = s.ports[q])

/-- A request presented while READY is low is not taken: nothing changes. One whose tag is in use isolates its port with cause 3
(R36, R38, R61). -/
def Obligations.PortTurnsAway : Prop :=
  ∀ (p : Fin 16) (f : ReqFields) (e : EntryRead) (uc : Bool) (op : BitVec 4) (s : State) (c : Instr),
    c ∈ [Instr.opRead p f e, Instr.opWrite p f e, Instr.opWriteXor p f e, Instr.opFill p f e, Instr.groupOpen p ⟨f, uc⟩, Instr.groupCommit p ⟨f, uc⟩,
      Instr.groupAbort p ⟨f, uc⟩, Instr.opBarrier p f, Instr.reservedOpcode p op f] →
    (s.reqReady p = false → exec c s = .next s) ∧
    (s.reqReady p = true → (s.byTag p f.tag).isSome = true →
      Completes c s fun t => t.ports[p].isolated = true ∧ t.ports[p].isoCause = 3 ∧ t.ids = s.ids ∧
        t.portReqs p = (s.portReqs p).filter fun r => r.phase != .awaitData)

/-- A write-data beat with the tag of the oldest write that awaits data, its LAST bit right, joins that write and no other request; one that
is not the last changes nothing else. The last one lets the write go on: a write that failed a check at the port answers its code, one that an
earlier request of its port holds waits, and any other reaches the ledger with all its beats (R37, R54, R55). -/
def Obligations.WriteBeatJoinsItsWrite : Prop :=
  ∀ (p : Fin 16) (b : WdFields) (r : Req) (s : State),
    s.wdReady p = true → s.awaiting p = some r → s.req r.rid = some r → b.tag = r.tag →
    (b.last = false → r.beats.length + 1 ≠ beatsOf r.op r.len r.pi →
      exec (.writeDataBeat p b) s = .next (s.modReq r.rid fun r => { r with beats := r.beats ++ [{ data := b.data, be := b.be }] })) ∧
    (b.last = true → r.beats.length + 1 = beatsOf r.op r.len r.pi →
      ∀ (r' : Req) (u : State), r' = { r with beats := r.beats ++ [{ data := b.data, be := b.be }] } → u = s.modReq r.rid (fun _ => r') →
        (∀ code, r.verdict = some code → exec (.writeDataBeat p b) s = .next (u.finishReq r.rid code)) ∧
        (r.verdict = none → r.op ≠ opcBarrier → u.mustHold r' = true → exec (.writeDataBeat p b) s = .next (u.modReq r.rid fun x => { x with phase := .held })) ∧
        (r.verdict = none → isWriteOp r.op = true → u.mustHold r' = false → exec (.writeDataBeat p b) s = .next (u.toLedger r.rid)) ∧
        Completes (.writeDataBeat p b) s fun t => t.reqs.map Req.key = s.reqs.map Req.key ∧ t.ports = s.ports ∧ t.mem = s.mem)

/-- Write data that breaks the protocol isolates the port: a tag that is not the oldest awaiting write's with cause 1, a wrong LAST
with cause 2, and a write that has waited for its data beyond the limit with cause 5 (R38, R61, R62). -/
def Obligations.WriteDataErrorsIsolate : Prop :=
  ∀ (p : Fin 16) (b : WdFields) (r : Req) (tag : BitVec 10) (s : State),
    (s.wdReady p = true → s.awaiting p = some r → b.tag ≠ r.tag →
      Completes (.writeDataBeat p b) s fun t => t.ports[p].isolated = true ∧ t.ports[p].isoCause = 1) ∧
    (s.wdReady p = true → s.awaiting p = some r → b.tag = r.tag → b.last ≠ (r.beats.length + 1 == beatsOf r.op r.len r.pi) →
      Completes (.writeDataBeat p b) s fun t => t.ports[p].isolated = true ∧ t.ports[p].isoCause = 2) ∧
    (s.byTag p tag = some r → r.phase = .awaitData → s.ports[p].isolated = false →
      Completes (.wdTimeout p tag) s fun t => t.ports[p].isolated = true ∧ t.ports[p].isoCause = 5 ∧ s.ports[p].epoch = t.ports[p].epoch)

/-- A port reset, by its pin or by PRT_CMD, lowers READY and raises the epoch by one; the drain ends it when every accepted request
has completed, which frees every tag; the pin's release and CLR_COUNTERS change only their own fields (R64, R66, R68). -/
def Obligations.PortResetCommands : Prop :=
  ∀ (p : Fin 16) (s : State),
    (s.ports[p].pinLow = false → s.ports[p].rstActive = false → Completes (.portResetPin p) s fun t =>
      t.ports = s.ports.set p { s.ports[p] with pinLow := true, rstActive := true, rstDone := false, epoch := s.ports[p].epoch + 1 } ∧ t.reqReady p = false ∧
      t.portReqs p = (s.portReqs p).filter fun r => r.phase != .awaitData) ∧
    (s.pageLive (pagePort p) = true → s.ports[p].rstActive = false → Completes (.portReset p) s fun t =>
      t.ports = s.ports.set p { s.ports[p] with rstActive := true, rstDone := false, epoch := s.ports[p].epoch + 1 } ∧ t.reqReady p = false ∧
      t.portReqs p = (s.portReqs p).filter fun r => r.phase != .awaitData) ∧
    (s.ports[p].rstActive = true → (s.portReqs p).all Req.isDone = true → Completes (.portResetDrainDone p) s fun t =>
      t.portReqs p = [] ∧ t.ports[p].rstActive = false ∧ t.ports[p].rstDone = true ∧ t.ports[p].isolated = s.parity (pagePort p) ∧ t.ports[p].epoch = s.ports[p].epoch) ∧
    exec (.portResetRelease p) s = .next { s with ports := s.ports.set p { s.ports[p] with pinLow := false } } ∧
    (s.pageLive (pagePort p) = true → exec (.prtClrCounters p) s =
      .next { s with ports := s.ports.set p { s.ports[p] with discardCnt := 0, denyCnt := 0, backoffCnt := 0, malfCnt := 0 } })

/-- When a request's response is driven, the tag is freed and the response port shows its tag and code, the read data of a READ that ends OK or
POISON in ascending index with the last beat marked, and no beat with any other code or opcode (R50, R51, R52). -/
def Obligations.ResponseFreesTag : Prop :=
  ∀ (p : Fin 16) (tag : BitVec 10) (r : Req) (code : BitVec 4) (s : State),
    s.byTag p tag = some r → r.phase = .done code → s.ports[p].mute = false → s.sinkBeats p ≤ s.sinkLimit p →
    Completes (.response p tag) s fun t =>
      (∃ x, t.ports[p].rsp = some x ∧ x.tag = r.tag ∧ x.code = code ∧ 
        (r.op = opcRead → code ∈ [rspOk, rspPoison] → x.beats = rdBeats (sortBeats r.out)) ∧
        ((r.op ≠ opcRead ∨ code ∉ [rspOk, rspPoison]) → x.beats = []) ∧
        (x.gid = if r.op = opcOpen ∧ code = rspOk then r.gid else 0)) ∧
      t.reqs.map Req.key = (s.reqs.filter fun a => a.rid != r.rid).map Req.key

/-- A barrier that nothing holds any more answers OK; a held commit of an open group goes to the ledger and the group is committing;
where the group's record has an uncorrectable error the commit stays held and the error is FATAL; a held read or write that nothing before it holds
goes on to the ledger; a tag in use beyond its limit is reported once as FATAL and its request stays, marked as reported (R46, R47, R55, R63, R103,
R119). -/
def Obligations.HeldRequestsGoOn : Prop :=
  ∀ (p : Fin 16) (tag : BitVec 10) (r : Req) (s : State),
    s.byTag p tag = some r → s.req r.rid = some r →
    (r.op = opcBarrier → r.phase = .held → (s.reqs.any fun a => a.src == r.src && decide (a.rid < r.rid) && (r.aux.getLsbD 0 || a.ord == r.ord)) = false →
      s.ports[p].mute = false → (s.finishReq r.rid rspOk).sinkBeats p ≤ s.sinkLimit p →
      Completes (.barrierComplete p tag) s fun t => ∃ x, t.ports[p].rsp = some x ∧ x.tag = tag ∧ x.code = rspOk ∧ x.beats = []) ∧
    (r.op = opcCommit → r.phase = .held → s.mustHold r = false → (s.group r.gid.toNat).st = .open_ → r.tableUc = false →
      exec (.groupCommitForward p tag) s =
        .next ((s.setGroup r.gid.toNat { s.group r.gid.toNat with st := .committing }).modReq r.rid fun r => { r with phase := .ledger })) ∧
    (r.op = opcCommit → r.phase = .held → s.mustHold r = false → r.tableUc = true → Completes (.groupCommitForward p tag) s fun t =>
      t.ledger.groups = s.ledger.groups ∧ t.err.fatalCnt = satInc s.err.fatalCnt ∧ (t.byTag p tag).map Req.phase = some .held) ∧
    (isWriteOp r.op = true ∨ r.op = opcRead → r.phase = .held → s.mustHold r = false →
      exec (.orderedForward p tag) s = .next (s.toLedger r.rid)) ∧
    (r.stuck = false → Completes (.tagWatchdog p tag) s fun t =>
      t.err.fatalCnt = satInc s.err.fatalCnt ∧ t.reqs = s.reqs.map fun a => if a.rid = r.rid then { a with stuck := true } else a) ∧
    (r.stuck = true → exec (.tagWatchdog p tag) s = .next s)

/-! ### Stream ingest -/

/-- A beat at an ingest port out of reset, with power to the core: refused and counted while the port is OFF, CLOSING or FROZEN; the first of a new segment in
IDLE opens the segment with its 32 bytes; with two segments still held it is dropped and its bytes are counted (R70, R71, R72, R80). -/
def Obligations.IngestBeatAsThePhaseSays : Prop :=
  ∀ (n : Fin 8) (b : IngFields) (s : State), s.ingest[n].rstLow = false → s.pwr.coreOn = true → s.mode.mode ≠ .retention →
    (s.ingest[n].listens = false →
      exec (.ingestBeat n b) s = .next (({ s with ingest := s.ingest.set n { s.ingest[n] with disc := satInc s.ingest[n].disc } } : State).driveWarn n)) ∧
    (s.ingest[n].phase = .idle → s.ingest[n].openSeg = none → s.ingest[n].segs.length < 2 → s.ingest[n].trigPend = false → s.ingest[n].swTrig = false →
      s.ingest[n].pinTrig = false → b.eop = false →
      Completes (.ingestBeat n b) s fun t => t.ingest[n].phase = .open_ ∧ t.ingest[n].openSeg.map (fun g => g.bytes) = some (bytesOf b.data 32) ∧
        t.ingest[n].pos = s.ingest[n].pos + 32 ∧ t.ingest[n].segs.length = s.ingest[n].segs.length + 1 ∧ ∀ m : Fin 8, m ≠ n → t.ingest[m] = s.ingest[m]) ∧
    (s.ingest[n].listens = true → s.ingest[n].openSeg = none → 2 ≤ s.ingest[n].segs.length → s.ingest[n].trigPend = false → s.ingest[n].swTrig = false →
      Completes (.ingestBeat n b) s fun t => t.ingest[n].phase = .drop ∧ t.ingest[n].gap.isSome = true ∧ t.ingest[n].segs = s.ingest[n].segs ∧
        t.ingest[n].drop = s.ingest[n].drop + BitVec.ofNat 64 (beatBytes b))

/-- The drain: a stripe that is present and has room in the ring goes into the core as one write and the write pointer moves by 512;
the acknowledgement of an issued stripe takes it out and CWP follows the records that are complete (R78, R81, R82). -/
def Obligations.IngestDrain : Prop :=
  ∀ (n : Fin 8) (s : State),
    (s.inService = true → s.ingest[n].rstLow = false →
      ((∃ g q, s.drainItem n = some (.gap g q) ∧ s.ringSpace n true = true) ∨ (∃ y, s.drainItem n = some (.data y) ∧ s.ringSpace n false = true)) →
      Completes (.drainStripeIssue n) s fun t => t.ids = s.ids + 1 ∧ t.ingest[n].wp = s.ingest[n].wp + 512 ∧ t.ingest[n].cwp = s.ingest[n].cwp ∧
        t.reqs.map Req.key = s.reqs.map Req.key ++ [(s.ids, srcIng n, 0, opcWrite)]) ∧
    (∀ r : Req, (s.reqs.find? fun r => r.src == srcIng n && r.isDone) = some r →
      Completes (.drainStripeAck n) s fun t => t.reqs = (s.reqs.filter fun a => a.rid != r.rid) ∧ t.ingest[n].wp = s.ingest[n].wp ∧
        t.ingest[n].cwp = (advanceCwp (ackStripe s.ingest[n].records r.ring) s.ingest[n].cwp).2)

/-- The commands of an ingest stream leave every other stream as it is. Idle closing closes the open segment; a trigger pin latches the stream
position and marks the next beat; a ring that is drained freezes; the port reset discards what is unissued and keeps CWP and the drop count, and its
release ends it; enabling takes a port whose ring is in order out of OFF, and disabling closes its segment and lets it drain; with CLOSING at its
end the port is OFF and its pending values apply; REARM enables the trigger, and in WRAP mode unfreezes the ring; TRIG waits for the next beat;
CLR_COUNTERS clears the four counters; ING_RP takes a value that the ring allows (R72, R77, R82 to R94, R382). -/
def Obligations.IngestCommands : Prop :=
  ∀ (n : Fin 8) (v : BitVec 64) (s : State),
    (s.cfgField (pageIng n) 0x040 15 8 ≠ 0 → s.ingest[n].openSeg.isSome = true → Completes (.idleClose n) s fun t =>
      t.ingest[n].phase = .idle ∧ t.ingest[n].openSeg = none ∧ t.ingest[n].segs.length = s.ingest[n].segs.length ∧ ∀ m : Fin 8, m ≠ n → t.ingest[m] = s.ingest[m]) ∧
    (s.cfgBit (pageIng n) 0x040 1 = true → s.ingest[n].listens = true → s.ingest[n].trigSeen = false → s.ingest[n].rstLow = false →
      exec (.trigger n) s = .next (({ s with ingest := s.ingest.set n { s.ingest[n] with
        trigSeen := true, trigPos := s.ingest[n].pos, trigPend := s.ingWrap n, pinTrig := true } } : State).driveWarn n)) ∧
    (s.ingest[n].freezing = true → s.ingest[n].drained = true → Completes (.freezeComplete n) s fun t =>
      t.ingest[n].frozen = true ∧ t.ingest[n].freezing = false ∧ t.ingest[n].trigPend = false ∧
      t.ingest[n].phase = (if s.ingest[n].enWanted then s.ingest[n].phase else .off) ∧ (t.intRaw (pageIng n)).getLsbD 1 = true ∧
      ∀ m : Fin 8, m ≠ n → t.ingest[m] = s.ingest[m]) ∧
    Completes (.ingestPortReset n) s (fun t => t.ingest[n].rstLow = true ∧ t.ingest[n].segs = [] ∧ t.ingest[n].gap = none ∧ t.ingest[n].gapQ = [] ∧
      t.ingest[n].cwp = s.ingest[n].cwp ∧ t.ingest[n].drop = s.ingest[n].drop ∧ ∀ m : Fin 8, m ≠ n → t.ingest[m] = s.ingest[m]) ∧
    Completes (.ingestPortResetRelease n) s (fun t => t.ingest[n].rstLow = false ∧ t.ingest[n].segs = s.ingest[n].segs ∧
      ∀ m : Fin 8, m ≠ n → t.ingest[m] = s.ingest[m]) ∧
    (s.pageLive (pageIng n) = true → s.regs.seq.held = false →
      (s.parity (pageIng n) = false → s.ingest[n].phase = .off → s.inService = true → s.entersDiag = false → s.ringError n = 0 →
        Completes (.ingEnable n) s fun t => t.ingest[n].enWanted = true ∧ t.ingest[n].cfgErr = 0 ∧
          t.ingest[n].phase = (if s.ingest[n].frozen then .frozen else .idle) ∧ ∀ m : Fin 8, m ≠ n → t.ingest[m] = s.ingest[m]) ∧
      (s.ingest[n].listens = true → Completes (.ingDisable n) s fun t =>
        t.ingest[n].enWanted = false ∧ t.ingest[n].phase = .closing ∧ t.ingest[n].openSeg = none ∧ t.ingest[n].gap = none ∧
          ∀ m : Fin 8, m ≠ n → t.ingest[m] = s.ingest[m]) ∧
      (s.ingWrap n = false → s.ingest[n].cwp.toNat ≤ v.toNat + s.ringSize n → v.toNat ≤ s.ingest[n].cwp.toNat →
        exec (.ingRpWrite n v) s = .next { s with ingest := s.ingest.set n { s.ingest[n] with rp := v } })) ∧
    (s.ingest[n].phase = .closing → s.ingest[n].drained = true → s.ingest[n].enWanted = false → Completes (.closingComplete n) s fun t =>
      t.ingest[n].phase = .off ∧ t.ingest[n].enWanted = false ∧ t.pendingAt (pageIng n) .idle = [] ∧ (t.intRaw (pageIng n)).getLsbD 1 = true ∧
      ∀ m : Fin 8, m ≠ n → t.ingest[m] = s.ingest[m]) ∧
    (s.pageLive (pageIng n) = true →
      (s.ingWrap n = false → exec (.rearm n) s = .next { s with ingest := s.ingest.set n { s.ingest[n] with trigSeen := false } }) ∧
      (s.ingWrap n = true → Completes (.rearm n) s fun t => t.ingest[n].trigSeen = false ∧ t.ingest[n].trigPend = false ∧ t.ingest[n].frozen = false ∧
        t.ingest[n].trigPos = BitVec.allOnes 64 ∧ ∀ m : Fin 8, m ≠ n → t.ingest[m] = s.ingest[m]) ∧
      (s.ingest[n].listens = true → s.ingest[n].trigSeen = false →
        exec (.trig n) s = .next { s with ingest := s.ingest.set n { s.ingest[n] with swTrig := true } }) ∧
      exec (.ingClrCounters n) s = .next { s with ingest := s.ingest.set n { s.ingest[n] with drop := 0, disc := 0, gapCnt := 0, segCnt := 0 } })

/-! ### The commit ledger -/

/-- The flip commits a group whose writes are all acknowledged in one update: COMMITTED-UNSWEPT, or FREE with no entry; the commit is
counted, every waiting commit of the group answers OK, and no memory changes; where the group's record has an uncorrectable error, it is FATAL and
nothing of the flip happens (R103, R112, R119). -/
def Obligations.FlipCommits : Prop :=
  ∀ (gid : BitVec 12) (s : State),
    (s.group gid.toNat).st = .committing → (s.group gid.toNat).inflight = 0 → s.ledger.frozen = false →
    (Completes (.flip ⟨gid, false⟩) s fun t =>
      (t.group gid.toNat).st = (if (s.group gid.toNat).entries = 0 then .free else .committed) ∧
      (∀ g, g ≠ gid.toNat → t.group g = s.group g) ∧
      t.ledger.commitCnt = satInc s.ledger.commitCnt ∧ t.ledger.entries = s.ledger.entries ∧ t.mem = s.mem ∧
      t.reqs = s.reqs.map fun r => if r.phase == .ledger && r.op == opcCommit && r.gid == gid then { r with phase := .done rspOk } else r) ∧
    Completes (.flip ⟨gid, true⟩) s fun t => t.ledger.groups = s.ledger.groups ∧ t.ledger.entries = s.ledger.entries ∧ t.reqs = s.reqs ∧ t.mem = s.mem ∧
      t.err.fatalCnt = satInc s.err.fatalCnt

/-- How an entry is resolved: an aborted one becomes CLEAN with CSLOT as it was; a committed one with every unit pending becomes CLEAN
with CSLOT inverted; neither copies anything (R104, R114). -/
def Obligations.ResolvingWithoutCopy : Prop :=
  ∀ (i : Nat) (s : State),
    (s.resolvable i = some false → (s.resolveEntry i).entry i = cleanEntry (s.entry i).cslot ∧ (s.resolveEntry i).mem = s.mem) ∧
    (s.resolvable i = some true → (s.entry i).pmask = BitVec.allOnes 64 →
      (s.resolveEntry i).entry i = cleanEntry (!(s.entry i).cslot) ∧ (s.resolveEntry i).mem = s.mem)

/-- The ledger's own steps: a solo write whose member writes are acknowledged completes and marks its solos done; the oldest demand of a
half, and the work item of the sweep, are read and resolved where no read holds the granule, no write on it is in flight and the stripes are free,
the granule has no demand any more, and waiting requests are tried again; where the record of the solo, or of the entry's owner, has an
uncorrectable error, a completion or a demand is FATAL and nothing else of the step happens; with nothing to resolve at the cursor, the entry is read and,
where its ECC is right, the cursor moves by one, or past a block with no owned entry at once (R108, R109, R110, R113, R114, R117, R119). -/
def Obligations.LedgerSteps : Prop :=
  ∀ (slot : BitVec 8) (half : Fin 2) (ecc : BitVec 96) (s : State),
    (∀ r : Req, (s.reqs.find? fun r => r.idle && r.decisions.any fun d => d.solo && d.owner == slot.toNat) = some r →
      (s.soloLost r = false → Completes (.soloDone ⟨slot, false⟩) s fun t => ∃ u : State, t = u.retryLedger ∧
        (∀ d ∈ r.decisions, d.solo = true → (s.solo d.owner).isSome = true → (u.solo d.owner).map Solo.done = some true) ∧
        u.reqs = s.reqs.map fun a => if a.rid = r.rid then { a with phase := .done (if r.xorBad then rspPoison else rspOk) } else a) ∧
      Completes (.soloDone ⟨slot, true⟩) s fun t => t.err.fatalCnt = satInc s.err.fatalCnt ∧ t.reqs = s.reqs ∧ t.mem = s.mem ∧
        t.ledger.entries = s.ledger.entries ∧ t.ledger.solos = s.ledger.solos ∧ t.ledger.groups = s.ledger.groups ∧ t.ledger.demand = s.ledger.demand) ∧
    (∀ d : Nat × Nat × Nat, (s.ledger.demand.find? fun d => d.1 == half.val) = some d → s.granuleBusy d.2.1 = false → s.copyFree d.2.1 false = true →
      (Completes (.demandResolution half ⟨ecc, false⟩) s fun t => ∃ u : State, t = u.retryLedger ∧
        u.ledger.entries = ((s.readEntry d.2.1 ecc).resolveEntry d.2.1).ledger.entries ∧ u.mem = ((s.readEntry d.2.1 ecc).resolveEntry d.2.1).mem ∧
        ∀ x ∈ u.ledger.demand, x.2.1 ≠ d.2.1) ∧
      ((s.entry d.2.1).st = entOwned ∨ (s.entry d.2.1).st = entSolo → Completes (.demandResolution half ⟨ecc, true⟩) s fun t =>
        t.err.fatalCnt = satInc s.err.fatalCnt ∧ t.reqs = s.reqs ∧ t.mem = s.mem ∧
        t.ledger.entries = s.ledger.entries ∧ t.ledger.solos = s.ledger.solos ∧ t.ledger.groups = s.ledger.groups ∧ t.ledger.demand = s.ledger.demand)) ∧
    (s.sweepRuns = true →
      (∀ i : Nat, s.oldestSolo half = some i → s.granuleBusy i = false → s.copyFree i true = true →
        Completes (.sweepStep half ⟨ecc, false⟩) s fun t => ∃ u : State, t = u.retryLedger ∧
          u.ledger.entries = ((s.readEntry i ecc).resolveEntry i).ledger.entries ∧ u.mem = ((s.readEntry i ecc).resolveEntry i).mem ∧
          ∀ x ∈ u.ledger.demand, x.2.1 ≠ i) ∧
      ∀ pos : Nat, pos = (s.ledger.cursor half).toNat → s.oldestSolo half = none → (s.resolvable (2 * pos + half.val)).isNone = true →
        (s.blockBusy half (pos / 64) = true → Completes (.sweepStep half ⟨ecc, false⟩) s fun t => ∃ u : State, t = u.retryLedger ∧
          u.ledger.entries = (s.readEntry (2 * pos + half.val) ecc).ledger.entries ∧ u.mem = s.mem ∧
          ((s.readEntry (2 * pos + half.val) ecc) = s → u.ledger.cursor half = s.ledger.cursor half + 1)) ∧
        (s.blockBusy half (pos / 64) = false → exec (.sweepStep half ⟨ecc, false⟩) s = .next { s with
          ledger := s.ledger.setCursor half (BitVec.ofNat 18 ((pos / 64 + 1) * 64)) }))

/-- The LDG commands: CLR_COUNTERS clears the five counters and nothing else; CLEAR_ALL_POISON reads every entry and leaves no POISONED entry;
CLEAR_POISON reads the selected entry and makes a POISONED one CLEAN; both leave the groups as they are where the ECC of the entries read is right;
ABORT_GRP aborts the selected OPEN group and counts it (R104, R117, R126). -/
def Obligations.LedgerCommands : Prop :=
  ∀ s : State, s.pageLive (pageLdg 0) = true →
    exec .ldgClrCounters s = .next { s with ledger := { s.ledger with commitCnt := 0, abortCnt := 0, conflictCnt := 0, fullCnt := 0, exhaustCnt := 0 } } ∧
    Completes .clearAllPoison s (fun t => (∀ i, (t.entry i).st ≠ entPoisoned) ∧ t.mem = s.mem ∧
      ((∀ e ∈ s.ledger.entries, s.readEntry e.1 0 = s) → t.ledger.groups = s.ledger.groups)) ∧
    (((s.readEntry (s.cfgField (pageLdg 0) 0x064 18 0) 0).entry (s.cfgField (pageLdg 0) 0x064 18 0)).st = entPoisoned →
      Completes .clearPoison s fun t => t.entry (s.cfgField (pageLdg 0) 0x064 18 0) = cleanEntry false ∧ t.mem = s.mem ∧
        (s.readEntry (s.cfgField (pageLdg 0) 0x064 18 0) 0 = s → t.ledger.groups = s.ledger.groups)) ∧
    ((s.group (s.cfgField (pageLdg 0) 0x05C 11 0)).st = .open_ →
      Completes .abortGrp s fun t => ∃ u : State, t = u.retryLedger ∧ u.ledger.abortCnt = satInc s.ledger.abortCnt ∧
        (u.group (s.cfgField (pageLdg 0) 0x05C 11 0)).st = if (s.group (s.cfgField (pageLdg 0) 0x05C 11 0)).entries = 0 then .free else .aborted)

/-! ### Fabric and admission -/

/-- An arbitration phase with one request waiting at the hub, which is a candidate and has credit: it is granted. The grant is counted
for its source and its work begins (R150, R151, R152, R156). With nothing waiting only the tick advances (R148). -/
def Obligations.ArbiterGrants : Prop :=
  ∀ (h : Fin 8) (flit : Option (BitVec 128)) (r : Req) (s : State), s.pwr.coreOn = true →
    ((s.advanceTick h).waitingAt h = [r] → (s.advanceTick h).req r.rid = some r → (s.advanceTick h).isCandidate h r = true →
      (s.advanceTick h).hasCredit h r = true →
      Completes (.arbPhase h none) s fun t => ∃ u : State, t = u.startReq r.rid { r with seen := true } ∧
        u.fab.grants = bumpAt s.fab.grants r.src.toNat ∧ u.reqs.map Req.key = s.reqs.map Req.key ∧ u.mem = s.mem) ∧
    (s.waitingAt h = [] → exec (.arbPhase h flit) s = .next (s.advanceTick h))

/-- The tick of a hub at which requests wait counts on, backoffs that have run out end, a swap makes the staged table current under the
next epoch, a fence is done when its epoch is idle, and a late response is counted; the counter
commands of the fabric and of the arbiter clear their own counters and nothing else (R141, R142, R148, R150, R156, R158, R159). -/
def Obligations.FabricSteps : Prop :=
  ∀ (h : Fin 8) (c : Fin 80) (s : State),
    (s.waitingAt h ≠ [] → Completes (.arbTickAdvance h) s fun t => t.hubs[h].tick = s.hubs[h].tick + 1 ∧
      (∀ g : Fin 8, g ≠ h → t.hubs[g] = s.hubs[g]) ∧ t.reqs.map Req.key = s.reqs.map Req.key) ∧
    exec (.backoffExpiry h) s = .next { s with reqs := s.reqs.map fun r =>
      if r.phase == .waiting && r.hub == h && !s.hubs[h].backingOff r then { r with backoff := none } else r } ∧
    (∀ tbl, s.hubs[h].staged = some tbl → s.hubs[h].old.length < 2 → Completes (.routeEpochSwap h) s fun t =>
      ∃ (u : State) (l : List (Fin 80 × MemOp × Bool)), t = (l.foldl (fun s x => s.reissue h x.2.1) u).kick h ∧
        u.hubs[h].epoch = s.hubs[h].epoch + 1 ∧ u.hubs[h].table = tbl ∧ u.hubs[h].staged = none) ∧
    (∀ o rest, s.hubs[h].old = o :: rest → s.epochBusy h o.epoch = false →
      Completes (.fenceDone h) s fun t => t.hubs = s.hubs.set h { s.hubs[h] with old := rest }) ∧
    (s.slices[c].health.late ≠ 0 → Completes (.lateResponse c) s fun t =>
      t.fab = { s.fab with lateCnt := satInc s.fab.lateCnt, lateArmed := false } ∧ t.slices[c].health.late = s.slices[c].health.late - 1 ∧ t.hubs = s.hubs) ∧
    (s.pageLive pageFab = true → exec .fabClrCounters s = .next { s with fab := { s.fab with lateCnt := 0, holdCnt := 0, cancelCnt := 0, lateArmed := true } }) ∧
    (s.pageLive pageArb = true → exec .arbClrCounters s =
      .next { s with fab := { s.fab with grants := Vector.replicate 26 0, waits := Vector.replicate 26 0, preemptCnt := 0 } }) ∧
    (s.pageLive pageArb = true → exec .clrLongest s = .next { s with fab := { s.fab with longest := Vector.replicate 26 0 } })

/-! ### Shares -/

/-- A feasibility check that is asked for completes: it changes the regulation state only, hands its result to the next epoch, and says that
the result does not fit only when the kept demand exceeds the deliverable bandwidth or the shares do not fit. At the epoch the result takes
effect: its classes are shed, and OVERCOMMIT says whether any is. RECHECK asks for a check; CLR_COUNTERS clears the SHR counters and the class
maxima and nothing else (R163, R168 to R173, R177). -/
def Obligations.RegulationSteps : Prop :=
  ∀ s : State,
    (s.shr.busy = true → s.pwr.coreOn = true → s.mode.mode ≠ .retention →
    Completes .feasibilityCheck s fun t =>
          t = { s with shr := t.shr } ∧ t.shr.busy = s.shr.again ∧ t.shr.again = false ∧ t.shr.shed = s.shr.shed ∧ t.shr.classes = s.shr.classes ∧
          ∃ r, t.shr.nextShed = some r ∧ r.residual = !s.fits s.feasD r.shed s.umax) ∧
    (∀ r, s.pwr.coreOn = true → s.mode.mode ≠ .retention → s.shr.nextShed = some r → s.parity pageShr = false →
      Completes .regulationEpoch s fun t => t.shr.shed = r.shed ∧ t.shr.overcommit = (r.shed != 0) ∧ t.shr.residual = r.residual ∧
        t.shr.nextShed = none ∧ ((∀ c : Fin 80, s.slices[c].sched.flushing = false) → t.mem = s.mem)) ∧
    (s.pageLive pageShr = true → Completes .recheck s fun t => t.shr.busy = true ∧ t = { s with shr := t.shr }) ∧
    (s.pageLive pageShr = true → exec .shrClrCounters s =
      .next { s with shr := { s.shr with ovcCnt := 0, missCnt := 0, classes := s.shr.classes.map fun x => { x with maxNs := 0 } } })

/-! ### Groups and striping -/

/-- A strip stored in a slice reads back as it was stored, and the store reaches no byte outside the 64 bytes of its data line, when its
check word finds room in the check-line cache (R180, R208, R220). -/
def Obligations.StripStoreReachesOneLine : Prop :=
  ∀ (s : State) (c : Fin 80) (stripe : Nat) (d : Line) (w : Check),
    Memory.wf s.mem = true →
    ((s.slices[c].sched.ckc.any fun k => k.line == s.checkLine stripe) = true ∨ s.slices[c].sched.ckc.length < 512) →
    (s.putStrip c stripe d w).rawLine c (s.dataLine stripe) = d ∧
    ∀ a : Nat, (a < sliceByte c (64 * s.dataLine stripe) ∨ sliceByte c (64 * s.dataLine stripe) + 64 ≤ a) →
      Memory.read (s.putStrip c stripe d w).mem a = Memory.read s.mem a

/-- A member read returns: one answered from the write queue goes to its job at once; one of the devices whose check word is cached takes the strip's
verdict to its job and leaves the retry buffer, but when its strip fails its check for the first time it stays there, marked for its replay, and
reaches no job; a replayed one takes whatever its strip is now to its job; where the check word is not cached the strip waits for the read of its
check line, and a check line that finds room is merged into the cache. A member write that is driven leaves the retry buffer and lands: its strip in the devices
and its word in the check-line cache, or the check line that it evicts; each job it stands for has one write acknowledged, and what waited for
that goes on (R185, R207, R208, R220, R225). -/
def Obligations.MemberOperationsReturn : Prop :=
  ∀ (c : Fin 80) (index k : Nat) (o : MemOp) (err : ReadErr) (s : State),
    s.slices[c].serves = true → s.slices[c].sched.alert = none → s.slices[c].health.cmdReset = false →
    (s.slices[c].sched.fwds[index]? = some o → (judgeStrip o (o.data ^^^ err.data) (o.word ^^^ err.check) false).failed = false →
      Completes (.memberReadReturn c index err) s fun t => ∃ u : State,
        t = (u.stripArrives o.group o.jid o.member (judgeStrip o (o.data ^^^ err.data) (o.word ^^^ err.check) false)).kick o.group ∧
        u.slices[c].sched.fwds = s.slices[c].sched.fwds.eraseIdx index ∧ u.mem = s.mem ∧ u.hubs = s.hubs) ∧
    (s.slices[c].sched.fwds[index]? = none → s.slices[c].sched.retryReads[index - s.slices[c].sched.fwds.length]? = some (k, o) → o.readsCk = true →
      s.ckRoom c o.line = true → s.slices[c].train.lecc = false → exec (.memberReadReturn c index err) s =
        .next ((s.mergeCheck c o.line err.data).modSched c fun y => { y with retry := y.retry.eraseIdx k })) ∧
    (s.slices[c].sched.fwds[index]? = none → s.slices[c].sched.retryReads[index - s.slices[c].sched.fwds.length]? = some (k, o) → o.readsCk = false →
      s.wordThere c o.stripe = false → exec (.memberReadReturn c index err) s = .next (s.missWord c o)) ∧
    (s.slices[c].sched.fwds[index]? = none → s.slices[c].sched.retryReads[index - s.slices[c].sched.fwds.length]? = some (k, o) → o.readsCk = false →
      s.wordThere c o.stripe = true →
      (((s.fetchStrip c o err).2.failed = true →
        Completes (.memberReadReturn c index err) s fun t => t.hubs = s.hubs ∧ t.reqs.map Req.key = s.reqs.map Req.key ∧
          t.slices[c].sched.retry = s.slices[c].sched.retry.set k (.rd { o with replay := true })) ∧
      ((s.fetchStrip c o err).2.failed = false →
        Completes (.memberReadReturn c index err) s fun t => ∃ u : State,
          t = (u.stripArrives o.group o.jid o.member (s.fetchStrip c o err).2).kick o.group ∧
          u.slices[c].sched.retry = s.slices[c].sched.retry.eraseIdx k ∧ u.hubs = s.hubs))) ∧
    (s.slices[c].sched.fwds[index]? = none → s.slices[c].sched.retryReads[index - s.slices[c].sched.fwds.length]? = none →
      s.slices[c].sched.replayed[index - s.slices[c].sched.fwds.length - s.slices[c].sched.retryReads.length]? = some o → s.wordThere c o.stripe = true →
      Completes (.memberReadReturn c index err) s fun t => ∃ u : State,
        t = (u.stripArrives o.group o.jid o.member (s.fetchStrip c o err).2).kick o.group ∧
        ((s.fetchStrip c o err).2.failed = false → u.hubs = s.hubs ∧ u.slices[c].sched.replayed =
          s.slices[c].sched.replayed.eraseIdx (index - s.slices[c].sched.fwds.length - s.slices[c].sched.retryReads.length))) ∧
    (∀ (u v w : State), s.slices[c].sched.retryWrites[index]? = some (k, o) → (o.evicts || s.ckRoom c (s.checkLine o.stripe)) = true →
      u = s.modSched c (fun x => { x with retry := x.retry.eraseIdx k }) →
      v = (if o.evicts then u.setRawLine c o.line o.data else if o.check then u.cacheWord c o.line (s.checkIdx o.stripe) o.word
        else u.putStrip c o.stripe o.data o.word) →
      w = ((o.jid :: o.also).foldl (fun (x : State) (j : Nat) => x.writeAcked o.group j o.member) v).kick o.group →
      exec (.memberWriteAck c index) s = .next (w.tupleHubs.foldl State.kick w).retryLedger)

/-- Zero fill begins at the lowest void chunk of an idle group, which stays void until its writes are acknowledged: eight stripe writes that no
request asked for, and no byte of the devices yet. CLR_COUNTERS of a group clears its counters, sets the journal's peak to its fill and changes
nothing else (R200, R202). -/
def Obligations.GroupHubCommands : Prop :=
  ∀ (g : Fin 8) (s : State),
    (∀ v rest, s.populated g = true → s.inService = true → s.pwr.phase = .awake → s.groupIdle g = true → s.hubs[g].voids = v :: rest →
      s.chunkBusy g v.1 = false → s.reserveRoom g = true → (∀ m : Fin 9, (s.targetOf g s.hubs[g].epoch m (8 * v.1)).isSome = true) →
      Completes (.zeroFillStep g) s fun t => t.ids = s.ids + 8 ∧ t.hubs[g].zeroes v.1 = true ∧ t.hubs[g].voids = s.hubs[g].voids ∧ t.reqs = s.reqs ∧
        t.mem = s.mem) ∧
    (s.pageLive (pageGrp g) = true → exec (.grpClrCounters g) s = .next { s with hubs := s.hubs.set g { s.hubs[g] with rtCnt := 0, rcvCnt := 0, cwfixCnt := 0, poisonCnt := 0, fullCnt := 0, partCnt := 0, xorCnt := 0, jwaitCnt := 0, jpeak := BitVec.ofNat 10 s.hubs[g].journal.length, degArmed := true } })

/-! ### Slice scheduling -/

/-- One command issue: with no refresh due, a replay goes first, and its read leaves the retry buffer once its row is open. Else, where the buffer
has room, the operation that stands at its place in the serving order gets its next command, which joins the buffer: with its bank closed the
activation of its row, with another row open there the precharge of the bank, and with its row open its column command, with which it leaves its
queue (R209, R210, R223, R225). -/
def Obligations.SliceIssuesNextCommand : Prop :=
  ∀ (c : Fin 80) (late : Nat) (o : MemOp) (s w u : State),
    s.mayIssue c = true → s.slices[c].sched.owed < 8 → s.slices[c].sched.tLead = false → w = s.modSched c Sched.dropDriven →
    (w.slices[c].sched.replayHead = some o → w.rowHit c o = true →
      Completes (.sliceCommandIssue c late) s fun t => t.slices[c].sched.retry = w.slices[c].sched.retry.erase (.rd o) ∧
        t.slices[c].sched.replayed = w.slices[c].sched.replayed ++ [o] ∧ t.mem = s.mem) ∧
    (w.slices[c].sched.replayHead = none → w.slices[c].sched.retry.length < 64 → u = (w.modSched c fun x => { x with fullSeen := false }).turnGust c →
      (u.serveOrder c)[late]? = some o →
      ((u.slices[c].sched.rows.find? fun r => r.1 == (u.bankRow c o).1) = none →
        Completes (.sliceCommandIssue c late) s fun t =>
          t.slices[c].sched.retry = u.slices[c].sched.retry ++ [.act (u.bankRow c o).1 (u.bankRow c o).2] ∧
          t.slices[c].sched.rows = u.slices[c].sched.rows ++ [((u.bankRow c o).1, (u.bankRow c o).2, u.tb)] ∧ t.mem = u.mem ∧
          ∀ d : Fin 80, d ≠ c → t.slices[d] = u.slices[d]) ∧
      (u.rowHit c o = false → (u.slices[c].sched.rows.any fun r => r.1 == (u.bankRow c o).1) = true →
        Completes (.sliceCommandIssue c late) s fun t =>
          t.slices[c].sched.retry = u.slices[c].sched.retry ++ [.pre (u.bankRow c o).1] ∧
          t.slices[c].sched.rows = u.slices[c].sched.rows.filter (fun r => r.1 != (u.bankRow c o).1) ∧ t.mem = u.mem) ∧
      (u.rowHit c o = true →
        Completes (.sliceCommandIssue c late) s fun t => ∃ v : State, t = v.kick o.group ∧ v.mem = u.mem ∧
          v.slices[c].sched.retry = u.slices[c].sched.retry ++ [if o.write then .wr o else .rd o] ∧
          v.slices[c].sched.rq = (if o.write then u.slices[c].sched.rq else u.slices[c].sched.rq.erase o) ∧
          v.slices[c].sched.wq = (if o.write then u.slices[c].sched.wq.erase o else u.slices[c].sched.wq)))

/-- Refresh of a slice: at the boundary of its own timeline with nothing in flight, and when the lead time of a refresh is over, its rows
close and the stall begins; with bursts in flight the boundary starts the lead time; the stall's end frees the slice and its token; a per-bank refresh
closes the pair's rows, counts and enters the retry buffer behind what is still in it, where that has room. The rate poll records
the field read; a status that asks for the multiplier in force withdraws a change, one that asks for a higher one waits for the feasibility
check it starts (R173, R212, R214, R215). -/
def Obligations.RefreshSteps : Prop :=
  ∀ (c : Fin 80) (worst : DevTemp) (field : BitVec 8) (s : State),
    (s.slices[c].refreshes = true → s.slices[c].health.cmdReset = false → s.placeOf c = none → s.slices[c].sched.inRef = false →
      s.slices[c].sched.perBank = false → s.slices[c].sched.owed < 7 →
      (s.slices[c].sched.inFlight = false → Completes (.refreshBoundary c) s fun t =>
        t.slices[c].sched.inRef = true ∧ t.slices[c].sched.rows = [] ∧ t.slices[c].sched.owed = s.slices[c].sched.owed) ∧
      (s.slices[c].sched.inFlight = true → Completes (.refreshBoundary c) s fun t => t.slices[c].sched =
        { s.slices[c].sched with owed := s.slices[c].sched.owed + 1, skip := true, tLead := true, stallEnd := s.tb + BitVec.ofNat 64 (s.wMin c) })) ∧
    (s.slices[c].sched.tLead = true → Completes (.tleadExpiry c) s fun t =>
      t.slices[c].sched.inRef = true ∧ t.slices[c].sched.tLead = false ∧ t.slices[c].sched.rows = [] ∧ t.slices[c].sched.owed = s.slices[c].sched.owed - 1) ∧
    (s.slices[c].sched.inRef = true → Completes (.refreshStallEnd c) s fun t => ∃ u : State, t = u.kick u.slices[c].health.grp ∧
      u.slices[c].sched.inRef = false ∧ u.slices[c].sched.wq = s.slices[c].sched.wq ∧ u.mem = s.mem ∧
      ∀ g : Fin 8, ∀ m, s.windowOf c = some (g, m) → u.hubs[g].line.token ≠ some m) ∧
    (s.slices[c].refreshes = true → s.slices[c].sched.perBank = true → s.slices[c].sched.pbDone < s.perBankQuota c →
      Completes (.perBankRefresh c) s fun t => t.slices[c].sched.pbDone = s.slices[c].sched.pbDone + 1 ∧ t.mem = s.mem ∧
        t.slices[c].sched.rows = s.slices[c].sched.rows.filter (fun r => r.1 % 8 != s.slices[c].sched.pbDone % 8) ∧
        t.slices[c].sched.retry = s.slices[c].sched.settle.retry ++ (if 64 ≤ s.slices[c].sched.settle.retry.length then [] else [.refPb (s.slices[c].sched.pbDone % 8)])) ∧
    (s.slices[c].refreshes = true →
    (BitVec.ofNat 2 (max (tempMult worst).toNat (s.cfgField (pageCh c) 0x048 1 0)) = s.slices[c].sched.mult →
        Completes (.refreshRatePoll c worst field) s fun t => t.slices[c].sched.rr = field ∧ t.slices[c].sched.hot = (worst == .aboveLimit) ∧
          t.slices[c].sched.nextMult = none ∧ t.slices[c].sched.mult = s.slices[c].sched.mult) ∧
      (∀ want : BitVec 2, want = BitVec.ofNat 2 (max (tempMult worst).toNat (s.cfgField (pageCh c) 0x048 1 0)) →
        s.slices[c].sched.mult.toNat < want.toNat → s.slices[c].sched.nextMult ≠ some want →
        Completes (.refreshRatePoll c worst field) s fun t => t.slices[c].sched.rr = field ∧ t.slices[c].sched.nextMult = some want ∧
          t.slices[c].sched.multOk = false ∧ t.slices[c].sched.mult = s.slices[c].sched.mult ∧ t.shr.busy = true))

/-- A parity alert marks the command of the retry buffer, whose commands stay; the reissue clears the mark, and a second alert or a bad
copy ends the slice's commands with a reset of its command state; a Gust starts when the oldest write has waited its age; CKC_FLUSH orders a
drain in a Gust of cause 4, also while a Gust of another cause runs, and with no write queued it writes every dirty check line back at once; CLR_COUNTERS clears the counters and the peak
(R211, R221, R224, R228). -/
def Obligations.SliceCommands : Prop :=
  ∀ (c : Fin 80) (index : Nat) (s : State),
    (s.slices[c].drives = true → s.slices[c].health.cmdReset = false → s.slices[c].sched.alert = none → index < s.slices[c].sched.retry.length →
      Completes (.parityAlert c index) s fun t => t.slices[c].sched = { s.slices[c].sched with alert := some index } ∧ t.mem = s.mem) ∧
    (s.slices[c].sched.alert = some index →
      exec (.replayReissue c false false) s = .next (s.modSched c fun x => { x with alert := none }) ∧
      Completes (.replayReissue c true false) s (fun t => t.slices[c].health.cmdReset = true) ∧
      Completes (.replayReissue c false true) s (fun t => t.slices[c].health.cmdReset = true)) ∧
    (∀ o rest, s.slices[c].sched.gust = false → s.slices[c].sched.wq = o :: rest → s.wrAgeNs c ≤ s.waited o → s.mayIssue c = true →
      Completes (.gustWrAge c) s fun t =>
      t.slices[c].sched = { s.slices[c].sched with gust := true, gustCause := 2, gustDone := 0 } ∧ t.mem = s.mem) ∧
    (s.pageLive (0x80 + c.val) = true → s.slices[c].sched.wq ≠ [] → (s.slices[c].sched.gust = false ∨ s.slices[c].sched.gustCause ≠ 4) → Completes (.ckcFlush c) s fun t =>
      t.slices[c].sched = { s.slices[c].sched with drain := true, flushing := true, gust := true, gustCause := 4, gustDone := 0 } ∧ t.mem = s.mem) ∧
    (s.pageLive (0x80 + c.val) = true → s.slices[c].sched.wq = [] → Completes (.ckcFlush c) s fun t =>
      t.slices[c].sched.flushing = false ∧ t.slices[c].sched.ckc = (s.flushCk c).slices[c].sched.ckc ∧ t.mem = (s.flushCk c).mem) ∧
    (s.pageLive (0x80 + c.val) = true → exec (.chClrCounters c) s =
      .next (s.modSlice c fun x => { x with cnt := Vector.replicate 8 0, sched := { x.sched with peak := 0 } }))

/-! ### PHY and training -/

/-- Lulls: the oscillator's drift is recorded, and one beyond the limit requests a Lull, as an interval's end and CH_TRN_CMD.LULL do; outside a
vote the request orders a drain, in one it waits for its end; a window that may open runs the Lull, and one that passes leaves no drift, no
failed margin and no open row (R241, R242, R243, R244, R308). -/
def Obligations.LullCommands : Prop :=
  ∀ (c : Fin 80) (drift : BitVec 8) (s : State), s.slices[c].refreshes = true →
    ((s.role c = roleHome ∨ s.role c = roleAttached) → s.cfgField (pageCh c) 0x104 5 0 ≠ 0 →
      Completes (.oscillatorPoll c drift) s fun t => t.slices[c].train.drift = drift ∧ t.slices[c].train.st = s.slices[c].train.st ∧
        (s.cfgField (pageCh c) 0x104 17 12 ≠ 0 → s.cfgField (pageCh c) 0x104 17 12 ≤ drift.toInt.natAbs → t.slices[c].train.lullReq = true)) ∧
    (∀ x : Instr, (x = .lullIntervalExpiry c ∧ s.cfgField (pageCh c) 0x104 31 22 ≠ 0) ∨ (x = .lull c ∧ s.pageLive (0x80 + c.val) = true) →
      (s.votes = false → Completes x s fun t =>
        t.slices[c].train.lullReq = true ∧ t.slices[c].sched.drain = true ∧ ∀ d : Fin 80, d ≠ c → t.slices[d] = s.slices[d]) ∧
      (s.votes = true → Completes x s fun t =>
        t.slices[c].train.lullReq = true ∧ t.slices[c].sched = s.slices[c].sched ∧ ∀ d : Fin 80, d ≠ c → t.slices[d] = s.slices[d])) ∧
    (s.lullMayOpen c = true → Completes (.lullWindow c .pass) s fun t =>
      t.slices[c].train.lullReq = false ∧ t.slices[c].sched.drain = false ∧ t.slices[c].train.marginFail = false ∧ t.slices[c].train.drift = 0 ∧ t.slices[c].train.tLull = s.tb ∧
      t.slices[c].sched.rows = [])

/-- Full retrains: one ordered for a slice in quarantine begins at once, or goes on in the one that runs, one for a slice that serves no member
otherwise is refused; after a failed
margin the member is taken out for a retrain where no other is unreachable, and waits for a further Lull where it may not be; a retrain begins with
a readback, and one that passes leaves the slice READY with four snapshots; one that fails keeps the step and the set point that failed, and a slice
in quarantine is then FAILED; a margin scan that is allowed runs at its own PL, and its end returns the slice to the PL it had and leaves the three
result words, whose last has its low byte zero; CLR_COUNTERS clears the six training counters and nothing else (R233, R236, R245, R246, R247, R252,
R255). -/
def Obligations.TrainingCommands : Prop :=
  ∀ (c : Fin 80) (dev : Readback) (step : BitVec 3) (pl : BitVec 2) (r0 r1 r2 : Reg) (s : State),
    (s.pageLive (0x80 + c.val) = true → s.role c = roleQuarantine → s.slices[c].train.st ≠ 5 →
      Completes (.retrain c) s fun t => t.slices[c].train.st = 5 ∧ t.slices[c].train.cmdRefused = false ∧ t.slices[c].train.lullReq = false) ∧
    (s.pageLive (0x80 + c.val) = true → s.role c = roleQuarantine → s.slices[c].train.st = 5 →
      exec (.retrain c) s = .next (s.modTrain c fun x => { x with cmdRefused := false })) ∧
    (s.pageLive (0x80 + c.val) = true → s.role c ≠ roleQuarantine → s.servesMember c = false →
      exec (.retrain c) s = .next (s.modTrain c fun x => { x with cmdRefused := true })) ∧
    (∀ m, s.slices[c].train.marginFail = true → s.slices[c].train.st = 4 → s.inService = true → s.servesMember c = true → s.slices[c].health.mem = some m →
      s.otherUnreachable s.slices[c].health.grp m = false → s.inRelayout c = false → s.spr.rly[s.slices[c].health.grp] = none →
      Completes (.marginFailRetry c) s fun t => t.slices[c].train.st = 5 ∧ t.fab.fence.getLsbD c.val = true ∧
        (t.member s.slices[c].health.grp m).st = .absent ∧ (t.member s.slices[c].health.grp m).retrain = true) ∧
    (s.slices[c].refreshes = true → s.slices[c].train.marginFail = true → s.slices[c].train.st = 4 → s.inService = false →
      Completes (.marginFailRetry c) s fun t => t.slices[c].train.lullReq = true ∧ t.slices[c].train.st = 4) ∧
    (s.slices[c].train.st = 5 → dev.ranks ≠ 0 → refuseCode dev = 0 → capHalves s.cap ≤ dev.ranks.toNat * densHalves dev.dens →
      (s.slices[c].health.mem = none → Completes (.fullRetrainDone c ⟨dev, .pass⟩) s fun t => t.slices[c].train.st = 4 ∧ t.slices[c].train.snapValid = 0xF ∧
        t.slices[c].train.marginFail = false ∧ t.slices[c].train.devId = devIdOf dev ∧ t.slices[c].ranks = dev.ranks ∧ t.slices[c].dens = dev.dens) ∧
      (s.mode.mode = .diagnostic → (s.role c = roleHome ∨ s.role c = roleAttached) → Completes (.fullRetrainDone c ⟨dev, .fail step pl⟩) s fun t =>
        t.slices[c].train.st = 6 ∧ t.slices[c].train.failStep = step ∧ t.slices[c].train.failPl = pl ∧ t.slices[c].health = s.slices[c].health) ∧
      (s.role c = roleQuarantine → s.slices[c].health.mem = none → Completes (.fullRetrainDone c ⟨dev, .fail step pl⟩) s fun t =>
        t.slices[c].train.st = 6 ∧ t.slices[c].health.role = roleFailed ∧ t.slices[c].health.cause = 1)) ∧
    (s.pageLive (0x80 + c.val) = true → s.scanError c = 0 → Completes (.scan c) s fun t =>
      t.slices[c].train.scanBusy = true ∧ t.slices[c].train.scanErr = 0 ∧ t.slices[c].train.st = 0xA ∧ t.slices[c].train.scanPl = s.slices[c].train.pl ∧
      t.slices[c].train.pl = BitVec.ofNat 2 (fieldOf (s.cfg (pageCh c) 0x140) 23 22) ∧ t.mem = s.mem) ∧
    (s.slices[c].train.scanBusy = true → Completes (.scanDone c r0 r1 r2) s fun t =>
      t.slices[c].train.scanBusy = false ∧ t.slices[c].train.st = (if s.slices[c].train.st = 0xA then 4 else s.slices[c].train.st) ∧
      t.slices[c].train.pl = s.slices[c].train.scanPl ∧ t.slices[c].train.res0 = r0 ∧ t.slices[c].train.res1 = r1 ∧
      t.slices[c].train.res2 = r2 &&& 0xFFFFFF00 ∧ t.mem = s.mem) ∧
    (s.pageLive (0x80 + c.val) = true → exec (.chTrnClrCounters c) s = .next (s.modSlice c fun x => { x with tcnt := Vector.replicate 6 0 }))

/-- Performance levels: a change that may be decided starts towards the level in force; a monitor update is recorded, and the rails at the
target end the wait for them; a standby PLL that locks is noted; a switch step gives its slice the target level; a ramp that fails is
abandoned with the former codes; the hold of a slower change ends at the nominal codes, and with it the change, which raises PL_DONE (R248, R249, R288, R301, R302, R477). -/
def Obligations.PerformanceLevelSteps : Prop :=
  ∀ (c : Fin 80) (core slice : BitVec 10) (ok : Bool) (s : State),
    (s.plMayDecide = true → Completes .plChangeDecision s fun t => t.pwr.plGoal = s.plForce ∧ t.pwr.pl = s.pwr.pl ∧ t.pwr.switching = true ∧
      t.pwr.raising = decide (s.plForce.toNat < s.pwr.pl.toNat) ∧ t.mem = s.mem) ∧
    Completes (.supplyMonitorUpdate core slice ok) s (fun t => t.pwr.coreMv = core ∧ t.pwr.sliceMv = slice ∧ t.pwr.pllOk = ok ∧
      (s.pwr.switching = true → s.pwr.raising = true → minMv s.pwr.plGoal ≤ core.toNat → minMv s.pwr.plGoal ≤ slice.toNat → t.pwr.raising = false)) ∧
    (s.pwr.switching = true → s.slices[c].train.switching = true → s.pwr.steps = false → s.pwr.waitFeas = true →
      exec (.standbyPllLocked c) s = .next (s.modTrain c fun x => { x with pllReady := true })) ∧
    (s.pwr.steps = true → s.slices[c].train.switching = true → s.switches c = true → s.inService = true → s.fab.wrst = false → s.slices[c].train.scanBusy = false →
      s.slices[c].sched.alert = none → s.slices[c].sched.inRef = false → s.windowFree c = true → s.stepTurn c = true → s.slices[c].sched.wq = [] →
      Completes (.switchStep c) s fun t => t.slices[c].train.pl = s.pwr.plGoal ∧ t.slices[c].train.switching = false ∧ t.slices[c].sched.rows = []) ∧
    (s.pwr.switching = true → s.pwr.raising = true → Completes .vrampExpiry s fun t =>
      t.pwr.switching = false ∧ t.pwr.vfault = true ∧ t.pwr.pl = s.pwr.pl ∧ t.pins.coreVid = s.pwr.formerCore ∧ t.pins.sliceVid = s.pwr.formerSlice) ∧
    (s.pwr.vidHold = true →
      (s.pwr.switching = false → exec .vidHoldExpiry s = .next { s with
        pwr := { s.pwr with vidHold := false, vofs := 0 }, pins := { s.pins with coreVid := nominalVid s.pwr.pl, sliceVid := nominalVid s.pwr.pl } }) ∧
      (s.pwr.switching = true → Completes .vidHoldExpiry s fun t => t.pwr.switching = false ∧ t.pwr.vidHold = false ∧ t.pwr.vofs = 0 ∧ t.pwr.pl = s.pwr.pl ∧
        t.pins.coreVid = nominalVid s.pwr.pl ∧ t.pins.sliceVid = nominalVid s.pwr.pl ∧ (t.intRaw pagePwr).getLsbD 3 = true))

/-- Monitors: temperatures and pace readings are recorded as they are read; the pace offset moves up by one code while pace is low and the
offset is below 5 (R299, R300, R303). -/
def Obligations.MonitorReadings : Prop :=
  ∀ (c : Fin 80) (sliceT coreT : BitVec 8) (mon : Fin 16) (mhz : BitVec 11) (s : State),
    Completes (.thermalMonitorUpdate c sliceT coreT) s (fun t => t.pwr.coreTemp = coreT ∧ t.slices[c].train.tempNow = sliceT ∧
      (s.slices[c].sched.flushing = false → t.mem = s.mem)) ∧
    Completes (.paceMonitorUpdate mon mhz) s (fun t => t.pwr.paceMhz = s.pwr.paceMhz.set mon mhz ∧ t.pwr.paceSeen = s.pwr.paceSeen ||| (1#16 <<< mon.val) ∧
      t.slices = s.slices) ∧
    (s.paceAct ≠ 0 → s.paceLow = true → s.pwr.vofs.toNat < 5 → exec .paceOffsetStep s = .next { s with
      pwr := { s.pwr with vofs := s.pwr.vofs + 1 }, pins := { s.pins with coreVid := s.pins.coreVid + 1 } })

/-! ### Failure and rebuild -/

/-- Failure steps: a slice that has kept an operation, or holds back a window stripe, beyond its limit is declared failed; a slice that serves no member is then FAILED with
its cause, time and count; the error level leaks by one; the probe of a failed slice is a command of its retry buffer, and one that is answered
takes the slice to QUARANTINE (R224, R258, R259, R261, R266, R279). -/
def Obligations.FailureSteps : Prop :=
  ∀ (c : Fin 80) (cause : BitVec 4) (s : State),
    ((s.slices[c].sched.ops.any fun o => s.tooSlow c o) = true → exec (.slowLimitExpiry c) s = .next (s.declareFailed c 3)) ∧
    (s.slices[c].health.mem = none → s.role c ≠ roleFailed → s.role c ≠ roleUnused → s.role c ≠ roleUnavailable → cause ≠ 7 →
      (s.declareFailed c cause).slices[c].health = { s.slices[c].health with role := roleFailed, cause := cause, failTime := s.tb, cmdReset := false } ∧
      (s.declareFailed c cause).spr.failCnt = satInc s.spr.failCnt ∧ (s.declareFailed c cause).fab.fence.getLsbD c.val = true ∧
      (s.declareFailed c cause).mem = s.mem) ∧
    exec (.errLevelLeak c) s = .next (s.modHealth c fun h => { h with errLevel := h.errLevel - 1 }) ∧
    (s.role c = roleFailed → s.slices[c].on = true → s.inService = true → s.pwr.phase = .awake →
      Completes (.quarantineProbe c true) s (fun t => t.slices[c].health =
        { s.slices[c].health with cmdReset := false, role := roleQuarantine, mem := none, tested := false, retrained := false }) ∧
      exec (.quarantineProbe c false) s = .next ((s.modHealth c fun h => { h with cmdReset := false }).pushCmd c .mrr))

/-- The life of a relayout. It starts when a vane is free, a resumed one with a feasibility check of its hub: its member changes state by its kind, keeps its serving slice or takes the new one, and the
swap to the new slice is staged. The next stripe behind the boundary enters the window as a copy that waits at the group's hub when the rate lets one enter, and the boundary
moves past a stripe that has retired. When it has passed the last stripe the member is HEALTHY on the new slice, which has the role for it, the
relayout is over and counted, a copy in the group's Keep reserve that a rebuild has made whole is rewritten, and with no such copy no memory changes
(R173, R256, R257, R263, R264, R278). -/
def Obligations.RelayoutSteps : Prop :=
  ∀ (g : Fin 8) (r : Relayout) (s : State),
    (s.inService = true → s.parity pageSpr = false → s.pwr.phase = .awake → s.rlyCount < 2 →
      (s.spr.rly[g] = some r → r.running = false → r.suspended = false →
        exec (.relayoutStart g) s = .next ((s.setRly g (some { r with running := true })).detectCut (1#8 <<< g.val))) ∧
      (s.spr.rly[g] = none → s.nextRly g = some r → Completes (.relayoutStart g) s fun t => ∃ x, t.spr.rly[g] = some x ∧
        x.mem = r.mem ∧ x.dst = r.dst ∧ x.kind = r.kind ∧ x.running = true ∧ x.bound = 0 ∧ x.done = [] ∧
        (t.member g r.mem).st = (match r.kind with | .rebuild => .rebuilding | .resync => .resync | .evacuate => .evacuating | .return_ => .returning) ∧
        (t.member g r.mem).slice = (match r.kind with | .rebuild | .resync => r.dst | _ => (s.member g r.mem).slice) ∧
        t.hubs[g].nextTable[r.mem] = { slice := r.dst, absent := false } ∧ t.spr.queue = s.spr.queue.filter (fun q => q != (g, r)) ∧ t.mem = s.mem)) ∧
    (s.rlyWorks g = some r → s.hubs[g].voids = [] → (r.kind = .resync → r.full = true) → r.bound < s.groupStripes →
      (r.done = [] → s.windowStripes g = [] → Completes (.relayoutStripe g true) s fun t => t.spr.rly[g] = some r ∧ t.ids = s.ids + 1 ∧
        t.reqs.map Req.key = s.reqs.map Req.key ++ [(s.ids, srcVane, 0, opcRead)] ∧ t.windowStripes g = [r.bound] ∧
        (∃ q ∈ t.reqs, q.rid = s.ids ∧ q.phase = .waiting ∧ q.hub = g) ∧ t.mem = s.mem) ∧
      (∀ due, r.done = [r.bound] → Completes (.relayoutStripe g due) s fun t => t.spr.rly[g] = some { r with bound := r.bound + 1, done := [] } ∧ t.mem = s.mem)) ∧
    (s.rlyWorks g = some r → s.groupStripes ≤ r.bound → exec (.relayoutComplete g) s = .next ((s.completeRly g r).mendKeep g r) ∧
      (r.src ≠ some r.dst → (∀ c : Fin 80, s.slices[c].health.errLevel = 0 ∧ s.slices[c].train.marginFail = false) →
        Completes (.relayoutComplete g) s fun t => t.spr.rly[g] = none ∧ t.member g r.mem = { st := .healthy, slice := r.dst, retrain := false } ∧
          t.slices[r.dst].health.role = (if r.dst = homeSlice g r.mem then roleHome else roleAttached) ∧ t.slices[r.dst].health.mem = some r.mem ∧
          t.spr.doneCnt = satInc s.spr.doneCnt ∧ (s.keepA = none → s.keepB = none → t.mem = s.mem)))

/-- The SPR commands on slices and members, where they are allowed: the result is given and the act is done; a suspended relayout writes its
checkpoint once no copy of its window is at work (R258, R262, R267, R269, R270, R271, R280, R281, R284). -/
def Obligations.SpareCommands : Prop :=
  ∀ (g : Fin 8) (m : Fin 9) (d : Fin 80) (s : State), s.pageLive pageSpr = true → s.inService = true → s.populated g = true →
    (s.role d ≠ roleUnused → s.role d ≠ roleFailed → s.role d ≠ roleUnavailable → s.slices[d].health.mem = none →
      exec (.sprFail (BitVec.ofNat 7 d.val)) s = .next ((s.declareFailed d 6).sprResult 0)) ∧
    (s.otherUnreachable g m = false → (s.member g m).st = .healthy → s.spareAsked g m = false → s.role d = roleSpareFree →
      Completes (.evacuate g (BitVec.ofNat 4 m.val) (BitVec.ofNat 7 d.val)) s fun t =>
        t.spr.result = s.rlyNow g ∧ t.slices[d].health.role = roleAttached ∧ t.slices[d].health.mem = some m ∧ t.slices[d].health.grp = g ∧
        t.spr.queue.length = s.spr.queue.length + 1) ∧
    ((s.member g m).st = .healthy → (s.member g m).slice ≠ homeSlice g m → s.role (homeSlice g m) = roleSpareFree → s.spr.rly[g] = none →
      (s.spr.queue.any fun q => q.1 == g) = false →
      Completes (.returnHome g (BitVec.ofNat 4 m.val)) s fun t => t.spr.result = s.rlyNow g ∧ t.slices[homeSlice g m].health.role = roleAttached ∧
        t.spr.queue.length = s.spr.queue.length + 1) ∧
    (∀ r, s.spr.rly[g] = some r → r.running = true → Completes (.suspend g) s fun t =>
      t.spr.result = 0 ∧ t.spr.rly[g] = some { r with running := false, suspended := true } ∧ 
      t.ao.ckpt = (if (s.dropCopies g).windowStripes g = [] then s.ao.ckpt.set g r.bound else s.ao.ckpt)) ∧
    (∀ r, s.spr.rly[g] = some r → r.suspended = true → s.parity pageSpr = false → Completes (.resume g) s fun t =>
      t.spr.result = (if s.rlyCount < 2 then 0 else 6) ∧ t.spr.rly[g] = some { r with suspended := false, running := decide (s.rlyCount < 2) }) ∧
    (s.role d = roleQuarantine → Completes (.sliceTest (BitVec.ofNat 7 d.val)) s fun t =>
      t.spr.result = 0 ∧ t.slices[d].health = { s.slices[d].health with role := roleTesting }) ∧
    (s.role d = roleQuarantine → s.slices[d].health.retrained = true → s.slices[d].health.tested = true →
      Completes (.admitSlice (BitVec.ofNat 7 d.val)) s fun t => t.spr.result = 0 ∧ t.fab.fence.getLsbD d.val = false ∧
        (s.spr.requests = [] → t.slices[d].health.role = roleSpareFree)) ∧
    (∀ r, (s.spr.requests.find? fun r => r.grp == g && r.mem == m) = some r → s.role d = roleSpareFree →
      Completes (.attach g (BitVec.ofNat 4 m.val) (BitVec.ofNat 7 d.val)) s fun t => t.spr.result = s.rlyNow g ∧ t.slices[d].health.role = roleAttached ∧
        t.slices[d].health.mem = some m ∧ t.spr.requests = s.spr.requests.erase r)

/-- The end of a slice test leaves QUARANTINE, and TESTED only by a pass; patrol reads the stripe it is at and goes on to the next one; parity that
does not match is mended and counted, and a stripe that is right keeps its contents; a group still to be verified is verified
first; in RUN and DEGRADED, CLR_LOSS clears the loss map and CLR_COUNTERS the SPR counters and the mismatch counts and failure times of every slice,
in other modes they are refused, and either raises CMD (R277, R280, R282, R284, R285, R339). -/
def Obligations.SpareMaintenance : Prop :=
  ∀ (c : Fin 80) (pass : Bool) (g : Fin 8) (errs : List StripErr) (s : State),
    (s.role c = roleTesting → Completes (.sliceTestDone c pass) s fun t =>
      t.slices[c].health = { s.slices[c].health with role := roleQuarantine, tested := s.slices[c].health.tested || pass } ∧
      t.slices[c].sched.ckc = [] ∧ (∀ d : Fin 80, d ≠ c → t.slices[d] = s.slices[d]) ∧ ∀ x ∈ t.mem, x ∈ s.mem) ∧
    (s.inService = true → s.pwr.phase = .awake → s.populated g = true → s.hubs[g].verify = false → s.patrolRate ≠ 0 → s.patrolGroup = some g →
      exec (.patrolStripe g errs) s = .next ((s.patrolWrap g).patrolStep g errs) ∧
      ∀ b : Nat, s.spr.patGrp = BitVec.ofNat 3 g.val → s.spr.patPos.toNat = b → s.hubs[g].voids = [] → s.stripeFree g b true = true →
        b + 1 < s.groupStripes →
        (Completes (.patrolStripe g errs) s fun t => t.spr.patGrp = s.spr.patGrp ∧ t.spr.patPos = BitVec.ofNat 27 (b + 1)) ∧
        ∀ p : Line, s.bare g b = false → (∀ m : Fin 9, ((s.readStripe g b [])[m].stored).isSome = true) →
          p = xorLines ((allMembers.filter fun m => m != parityMember b).map fun m => ((s.readStripe g b [])[m].stored).getD 0) →
          ((s.readStripe g b [])[parityMember b] = .got p → exec (.patrolStripe g []) s = .next ((s.vaneGrants g).setPatrol g (b + 1))) ∧
          ((s.readStripe g b [])[parityMember b] ≠ .got p → Completes (.patrolStripe g []) s fun t => t.spr.pfixCnt = satInc s.spr.pfixCnt ∧
            (t.readStripe g b [])[parityMember b] = .got p)) ∧
    (s.inService = true → s.pwr.phase = .awake → s.populated g = true → s.hubs[g].verify = true →
      exec (.patrolStripe g errs) s = .next (s.verifyStep g errs)) ∧
    (s.pageLive pageSpr = true →
      (s.inService = true →
        exec .clrLoss s = .next (({ s with spr := { s.spr with loss := [], dropped := 0, result := 0 } } : State).raise pageSpr 5) ∧
        exec .sprClrCounters s = .next (({ s with
          spr := { s.spr with patCyc := 0, failCnt := 0, doneCnt := 0, pfixCnt := 0, lostWrCnt := 0, result := 0 }
          slices := s.slices.map fun x => { x with health := { x.health with mismatch := 0, failTime := 0 } } } : State).raise pageSpr 5)) ∧
      (s.inService = false → ∀ c : Instr, c = .clrLoss ∨ c = .sprClrCounters →
        exec c s = .next (({ s with spr := { s.spr with result := 3 } } : State).raise pageSpr 5)))

/-! ### Supplies and sleep -/

/-- The always-on supply and the PWR commands: a switchover to VBK is counted and, with the core on, raised; the return leaves VBK,
in RETENTION once a resume has begun; a
brown-out clears the always-on contents and the PHY snapshots and lowers AO_VALID while the devices keep theirs, and one in HOLD-UP stops the
Squall and leaves the core off in a cold BRING-UP; VBK_LOW follows VBK and
is raised as it sets; CLR_RES, CLR_COUNTERS, CLR_CAP and CLR_VOFS clear their own fields (R291, R292, R293, R335, R300, R303, R320, R322). -/
def Obligations.SupplyCommands : Prop :=
  ∀ s : State,
    (s.ao.onVbk = false → Completes .switchover s fun t => t.ao = { s.ao with onVbk := true, swover := satInc s.ao.swover } ∧
      (s.pwr.coreOn = true → (t.intRaw pagePwr).getLsbD 5 = true)) ∧
    (s.ao.lpMode = false ∨ s.mode.refWait = true → exec .vmainAoReturn s = .next { s with ao := { s.ao with onVbk := false } }) ∧
    (s.mode.mode ≠ .holdUp → Completes .brownOut s fun t => t.pins.aoValid = false ∧
      t.ao = { AlwaysOn.reset with vbkLow := s.ao.vbkLow, lost := s.ao.lost } ∧ (∀ c : Fin 80, t.slices[c].train.snapValid = 0) ∧
      t.mem = s.mem ∧ t.mode = s.mode) ∧
    (s.mode.mode = .holdUp → Completes .brownOut s fun t => t.pins.aoValid = false ∧ t.mode.mode = .bringUp ∧ t.mode.buKind = .cold ∧
      t.mode.coldLow = true ∧ t.pwr.coreOn = false ∧ t.squall.active = false ∧ t.mem = s.mem) ∧
    (∀ low, Completes (.vbkLow low) s fun t => t.ao = { s.ao with vbkLow := low } ∧
      (low = true → s.ao.vbkLow = false → s.pwr.coreOn = true → (t.intRaw pagePwr).getLsbD 6 = true)) ∧
    (s.pageLive pagePwr = true →
      Completes .clrRes s (fun t => t.ao.res = Vector.replicate 7 0 ∧ t.ao.swover = 0 ∧ t.ao.vbkLow = s.ao.vbkLow ∧ t.pwr = s.pwr) ∧
      exec .pwrClrCounters s = .next { s with pwr := { s.pwr with sleepCnt := 0, refuseCnt := 0 } } ∧
      Completes .clrCap s (fun t => t.pwr = { s.pwr with plCap := 0 } ∧ t.pins = s.pins) ∧
      exec .clrVofs s = .next { s with pwr := { s.pwr with vofs := 0 }, pins := { s.pins with coreVid := s.pins.coreVid - s.pwr.vofs.setWidth 6 } })

/-- Asking for a sleep state. A request that may be taken starts a vote whose PREPARE goes to tier 1; PWR_DOORBELL for S0 while awake is
NO_CHANGE and during a vote BUSY. A domain that does not refuse agrees, the last one commits, and one that refuses or does not answer in
time ends the vote with its number and the reason. The rollback ends awake with the sweep going on, and shows who refused (R305 to R311). -/
def Obligations.SleepVote : Prop :=
  ∀ (st : BitVec 2) (d : Fin 100) (s : State),
    (s.pageLive pagePwr = true → s.pwr.phase = .awake →
      (s.cfgField pagePwr 0x044 1 0 ≠ 0 → exec .doorbell s = .next (s.startVote (BitVec.ofNat 2 (s.cfgField pagePwr 0x044 1 0)) .doorbell)) ∧
      (s.cfgField pagePwr 0x044 1 0 = 0 → exec .doorbell s = .next { s with pwr := { s.pwr with result := 5 } })) ∧
    (s.pageLive pagePwr = true → s.pwr.phase ∈ [.prepare1, .prepare2, .rollback] →
      exec .doorbell s = .next { s with pwr := { s.pwr with result := 3 } }) ∧
    (s.pins.pwrReq = false → s.pwr.phase = .awake → s.pwr.coreOn = true → Completes (.pwrReqRise st) s fun t =>
      t.pins = { s.pins with pwrReq := true, pwrReqState := st } ∧ t.pwr.phase = .prepare1 ∧ t.pwr.target = st ∧ t.pwr.asker = .pwrReq ∧ t.pwr.asked = tier1) ∧
    (s.pins.pwrReq = true → s.pwr.phase = .awake → Completes .pwrReqFall s fun t =>
      t.pins = { s.pins with pwrReq := false, pwrAck := false, pwrNack := false } ∧ t.pwr = { s.pwr with reqWaits := false }) ∧
    (s.cfgField pagePwr 0x040 31 24 ≠ 0 → s.inService = true → s.pwr.phase = .awake → s.busyBanks = 0 → s.squall.active = false →
      Completes .dozeIdleExpiry s fun t => t.pwr.phase = .prepare1 ∧ t.pwr.target = 1 ∧ t.pwr.asker = .doze ∧ t.pwr.asked = tier1) ∧
    ((s.pwr.phase = .prepare1 ∨ s.pwr.phase = .prepare2) → s.pwr.asked.getLsbD d = true →
      (s.refusal d = none → s.pwr.asked &&& ~~~(1#100 <<< d.val) ≠ 0 → Completes (.voteAnswer d) s fun t =>
        t.pwr = { s.pwr with asked := s.pwr.asked &&& ~~~(1#100 <<< d.val), agreed := s.pwr.agreed ||| (1#100 <<< d.val) } ∧
        t.ledger.paused = (s.ledger.paused || d.val == 89) ∧ t.slices = s.slices) ∧
      (s.pwr.phase = .prepare2 → s.refusal d = none → s.pwr.asked &&& ~~~(1#100 <<< d.val) = 0 → s.pwr.target ≠ 3 → Completes (.voteAnswer d) s fun t =>
        t.pwr.phase = .entering ∧ t.pwr.asleep = s.pwr.target ∧ t.mode = s.mode) ∧
      (∀ why, s.refusal d = some why → Completes (.voteAnswer d) s fun t =>
        t.pwr = { s.pwr with phase := .rollback, vetoBy := BitVec.ofNat 7 d, vetoWhy := why } ∧ t.ledger = s.ledger) ∧
      Completes (.voteTimeout d) s (fun t => t.pwr = { s.pwr with phase := .rollback, vetoBy := BitVec.ofNat 7 d, vetoWhy := 0xA } ∧ t.ledger = s.ledger)) ∧
    (s.pwr.phase = .rollback → s.pwr.vetoBy ≠ 0x7F → s.pwr.warmNext = false → s.pwr.after = none → s.pwr.reqWaits = false →
      Completes .rollbackComplete s fun t => t.pwr.phase = .awake ∧ t.pwr.result = 2 ∧ t.pwr.refuser = s.pwr.vetoBy ∧ t.pwr.reason = s.pwr.vetoWhy ∧
        t.pwr.refuseCnt = satInc s.pwr.refuseCnt ∧ t.ledger.paused = false ∧ ((∀ c : Fin 80, s.slices[c].sched.flushing = false) → t.mem = s.mem))

/-- Entering S1 or S2 once the slices are quiet: every active slice into power-down, or into self-refresh with its logic off; ENTERED is
counted. A wake switches the slices in use on again; when every member's slice serves, the block is awake, with WAKE raised and WAKE_OUT
low (R311, R313, R314, R316, R435). -/
def Obligations.SleepSteps : Prop :=
  ∀ s : State,
    (s.pwr.phase = .entering → s.slicesQuiet = true → s.pwr.wakeSoon = 0 → s.pwr.reqWaits = false → Completes .sleepEntryComplete s fun t =>
      t.pwr.phase = .asleep ∧ t.pwr.result = 1 ∧ t.pwr.sleepCnt = satInc s.pwr.sleepCnt ∧ (t.intRaw pagePwr).getLsbD 0 = true ∧
      (s.pwr.asleep = 1 → ∀ c : Fin 80, t.slices[c].power = if s.slices[c].power = .active then .powerDown else s.slices[c].power) ∧
      (s.pwr.asleep = 2 → ∀ c : Fin 80, t.slices[c].on = false ∧
        (s.slices[c].power = .active → t.slices[c].power = .selfRefresh))) ∧
    (s.pwr.phase = .waking → s.regs.napHeld = [] → Completes .sleepWake s fun t =>
      (∀ c : Fin 80, s.role c ≠ roleUnused → s.role c ≠ roleUnavailable → t.slices[c].on = true ∧ t.slices[c].power ≠ .powerDown) ∧
      t.pwr = s.pwr ∧ t.mem = s.mem) ∧
    (s.pwr.phase = .waking → s.membersAwake = true → s.pwr.warmNext = false → s.pwr.after = none → s.pwr.reqWaits = false →
      Completes .wakeComplete s fun t => t.pwr = { s.pwr with phase := .awake, asleep := 0 } ∧ t.pins.wakeOut = false ∧ t.ledger.paused = false ∧
        (t.intRaw pagePwr).getLsbD 2 = true ∧ t.mem = s.mem)

/-- Who refuses a sleep vote. In a vote for S3 the ledger refuses with GROUPS_OPEN if any group is OPEN or COMMITTING and agrees otherwise; the
two ingest domains refuse with INGEST_EN if one of their four ports has EN = 1 and agree otherwise; and what the domain says is what its answer
does (R91, R124, R308, R309). -/
def Obligations.SleepVoteRefusals : Prop :=
  ∀ s : State,
    (s.pwr.target = 3 → s.refusal 89 = if ∃ g ∈ s.ledger.groups, g.2.st = .open_ ∨ g.2.st = .committing then some 4 else none) ∧
    (s.refusal 95 = if ∃ n : Fin 8, n.val < 4 ∧ s.ingest[n].enWanted = true then some 3 else none) ∧
    (s.refusal 96 = if ∃ n : Fin 8, 4 ≤ n.val ∧ s.ingest[n].enWanted = true then some 3 else none) ∧
    (∀ d : Fin 100, d.val ∈ [89, 95, 96] → s.pwr.phase = .prepare1 ∨ s.pwr.phase = .prepare2 → s.pwr.asked.getLsbD d = true →
      (∀ why, s.refusal d = some why → Completes (.voteAnswer d) s fun t => t.pwr.phase = .rollback ∧ t.pwr.vetoBy = BitVec.ofNat 7 d ∧ t.pwr.vetoWhy = why) ∧
      (s.refusal d = none → Completes (.voteAnswer d) s fun t => t.pwr.phase ≠ .rollback ∧ t.pwr.agreed.getLsbD d = true))

/-! ### Squall, retention, resets and bring-up -/

/-- HOLD-UP: a loss of MAIN_PG in any mode but HOLD-UP and RETENTION, out of cold reset, is one step that starts a Squall with cause 1,
which saves if the block was in service, frees the sequence lock, turns every ingest port OFF with only its wholly issued records left, freezes the
ledger and leaves the devices' contents (R90, R120, R312, R324, R398). -/
def Obligations.HoldUpEntry : Prop :=
  ∀ s : State, s.pins.mainPg = true → s.mode.coldLow = false → s.mode.mode ≠ .holdUp → s.mode.mode ≠ .retention →
    Completes .mainPgFall s fun t =>
      t.mode.mode = .holdUp ∧ t.pins.mainPg = false ∧ t.squall.active = true ∧ t.squall.cause = 1 ∧ t.squall.save = s.inService ∧ t.squall.saveTime = s.tb ∧
      t.pwr.phase = .squall ∧ t.regs.seq = SeqLock.reset ∧ (∀ n : Fin 8, t.ingest[n].phase = .off ∧ t.ingest[n].segs = [] ∧ ∀ x ∈ t.ingest[n].records, x.issued = true) ∧ t.ledger.frozen = true ∧
      t.mem = s.mem ∧ t.tb = s.tb

/-- The steps of a Squall: the requests are drained, the open-entry limit noted, both copies are written whole, with the ledger and the
error log they save, in the place of what those stripes held, each slice that may goes into self-refresh under its masks and is switched off, the token is taken and broadcast, a
peer that is not heard counts as done; the last slice's entry leads to RETENTION with the core off, or after a warm reset to its bring-up, which is
cold when the always-on contents are lost (R291, R293, R325 to R328, R332, R335, R340). -/
def Obligations.SquallSteps : Prop :=
  ∀ (c : Fin 80) (peer : BitVec 3) (s : State),
    (s.mode.mode = .holdUp → s.squall.drained = false → (s.squall.limit = true ∨ ∀ r ∈ s.reqs, r.isDone = true ∨ r.dropped = true) →
      Completes .admittedRequestsDone s fun t => t.squall = { s.squall with drained := true } ∧ t.reqs = [] ∧ t.mode = s.mode ∧ t.mem = s.mem) ∧
    (s.squall.active = true → exec .openEntryLimit s = .next { s with squall := { s.squall with limit := true } }) ∧
    (s.fab.wrst = false → s.saveReady = true → Completes .saveHeaderWrite s fun t => t.squall = { s.squall with headers := true } ∧
      ∃ a b, t.keepA = some a ∧ t.keepB = some b ∧ t.mem = ((s.clearLaid a.at_ a.covers).clearLaid b.at_ b.covers).mem ∧ a.header.take 8 = keepMagic ∧ a.secs = b.secs ∧ a.secs.fill = s.ledger.fill ∧
        a.secs.entries = s.ledger.entries ∧ a.secs.members = s.spr.members ∧ a.secs.log = s.squall.log) ∧
    (s.fab.wrst = false → s.mayRetain c = true → Completes (.selfRefreshEntry c) s fun t =>
      t.slices[c].power = .selfRefresh ∧ t.slices[c].pasr = s.squallMask c ∧ t.slices[c].on = false ∧ t.squall.todo.getLsbD c.val = false ∧
      t.squall.todo = s.squall.todo &&& ~~~(1#80 <<< c.val)) ∧
    (s.squall.active = true → s.squall.todo = 0 → s.squall.drained = true → (s.squall.headers = true ∨ s.squall.save = false) →
      (s.squall.cause = 3 → Completes .squallComplete s fun t => t.mode.mode = .bringUp ∧
        t.mode.buKind = (if s.pins.aoValid then .warm else .cold) ∧ t.mode.warmed = true ∧ t.reqs = []) ∧
      (s.squall.cause ≠ 3 → s.squall.cause ≠ 4 → s.squall.rose = false → Completes .squallComplete s fun t => t.mode.mode = .retention ∧
        t.pwr.coreOn = false ∧ t.ao.lpMode = true ∧ t.ao.onVbk = true ∧ t.squall.active = false ∧ t.brz.txDone = true ∧ t.reqs = [])) ∧
    (s.mode.mode = .holdUp → s.squall.active = true → s.squall.token = false → s.mayTake = true →
      exec .squallTokenTake s = .next { s with squall := { s.squall with token := true }, brz := { s.brz with txToken := true } }) ∧
    (s.mode.mode = .holdUp → Completes (.tokenWaitExpiry peer) s fun t => t = { s with squall := { s.squall with
      peerDone := s.squall.peerDone ||| (1#8 <<< peer.toNat) } })

/-- Bring-up: MAIN_PG rising in RETENTION starts a resume, cold if the always-on contents are lost; REFCLK seen powers the core on; a good
microcode check takes the FEATURES word and, on a cold bring-up, keeps the devices when they carry a full set of signatures and resets
them when they do not; a bad one sticks the bring-up with cause 1; the devices start at the end of their reset, with the signature of their place;
a slice that is due trains, or records the step it failed at, and a refused one sticks the bring-up; a slice leaves self-refresh in turn, READY, or
stays in it as SHORT, and in HOLD-UP it is only switched on (R30, R179, R233, R234, R236, R238, R239, R316, R335, R336, R486). -/
def Obligations.BringupSteps : Prop :=
  ∀ (c : Fin 80) (dev : Readback) (step : BitVec 3) (pl : BitVec 2) (s : State),
    (s.pins.mainPg = false → s.mode.mode = .retention → Completes .mainPgRise s fun t =>
      t.mode.mode = .bringUp ∧ t.mode.refWait = true ∧ t.mode.buKind = (if s.pins.aoValid then .resume else .cold) ∧ t.pwr.wakeSrc = 6 ∧ t.pins.mainPg = true) ∧
    (s.mode.refWait = true → s.mode.mode = .bringUp → Completes .refclkDetect s fun t =>
      t.pwr.coreOn = true ∧ t.mode.refWait = false ∧ t.mode.step = 2 ∧ t.ao.lpMode = false ∧ t.pins.aoValid = true ∧ t.mem = s.mem) ∧
    (s.bringsUp = true → s.mode.ucodeOk = false →
      Completes (.microcodeCheckDone false) s (fun t => t.mode.stuck = true ∧ t.mode.cause = 1 ∧ (t.intRaw pageGlb).getLsbD 1 = true) ∧
      (s.mode.buKind ≠ .cold → (s.mode.buKind = .coldInit → (allSlices.any fun d => s.wanted d && s.slices[d].power == .off) = false) →
        Completes (.microcodeCheckDone true) s fun t => t.mode = { s.mode with ucodeOk := true, step := 3 } ∧
        t.sec.features = (s.sec.otp 3).data ∧ t.pwr.pl = s.plForce ∧ t.pins.pwrPl = s.plForce ∧ t.mem = s.mem) ∧
      (s.mode.buKind = .cold → s.allSigned = false → Completes (.microcodeCheckDone true) s fun t => t.mode.ucodeOk = true ∧ t.mode.memRstLow = true ∧
        t.mode.buKind = .coldInit ∧ t.keepA = none ∧ t.keepB = none ∧ ∀ d : Fin 80, t.slices[d].sig = none ∧ t.slices[d].power = .off) ∧
      (s.mode.buKind = .cold → s.allSigned = true → Completes (.microcodeCheckDone true) s fun t =>
        t.mode = { s.mode with ucodeOk := true, step := 3, buKind := .coldRetained, retained := true } ∧ t.keepA = s.keepA ∧ t.keepB = s.keepB ∧ t.mem = s.mem)) ∧
    (s.bringsUp = true → s.mode.memRstLow = true → Completes .deviceResetEnd s fun t => t.mode = { s.mode with memRstLow := false, step := 4 } ∧
      (∀ d : Fin 80, t.slices[d].power = (if s.wanted d then .init else s.slices[d].power) ∧
        t.slices[d].sig = if s.wanted d then some (s.firstSignature d) else s.slices[d].sig) ∧ t.mem = s.mem) ∧
    (s.trainDue c = true → dev.ranks ≠ 0 → refuseCode dev = 0 → capHalves s.cap ≤ dev.ranks.toNat * densHalves dev.dens →
      Completes (.sliceTrainingDone c dev .pass) s (fun t => t.slices[c].train.st = 4 ∧ t.slices[c].train.snapValid = 0xF ∧ t.slices[c].power = .active ∧
        t.slices[c].ranks = dev.ranks ∧ t.slices[c].dens = dev.dens ∧ t.slices[c].train.devId = devIdOf dev) ∧
      Completes (.sliceTrainingDone c dev (.fail step pl)) s (fun t => t.slices[c].train.st = 6 ∧ t.slices[c].train.failStep = step ∧
        t.slices[c].train.failPl = pl ∧ (t.intRaw (pageCh c)).getLsbD 3 = true)) ∧
    (s.trainDue c = true → dev.ranks ≠ 0 → refuseCode dev ≠ 0 → Completes (.sliceTrainingDone c dev .pass) s fun t =>
      t.slices[c].train.st = 7 ∧ t.slices[c].train.refuse = refuseCode dev ∧ t.mode.stuck = true) ∧
    (s.exitTurn c = true →
      (s.mode.mode = .holdUp → exec (.selfRefreshExit c) s = .next (s.modSlice c fun x => { x with power := .active, on := true })) ∧
      (s.mode.mode ≠ .holdUp → (s.mode.mode = .bringUp → s.isShort c = false) → Completes (.selfRefreshExit c) s fun t =>
        t.slices[c].power = .active ∧ t.slices[c].on = true ∧ t.slices[c].pasr = 0 ∧ t.slices[c].train.st = 4 ∧
        (s.slices[c].sched.flushing = false → t.mem = s.mem)) ∧
      (s.mode.mode = .bringUp → s.isShort c = true → Completes (.selfRefreshExit c) s fun t =>
        t.slices[c].power = s.slices[c].power ∧ t.slices[c].train.st = 9 ∧ (t.intRaw (pageCh c)).getLsbD 3 = true ∧ t.mem = s.mem))

/-- The end of a bring-up: with every slice settled, some group with eight members and no saved patch refused, service begins in RUN or
DEGRADED from the copy chosen; with no such group it sticks with cause 3 as it stands, and with a saved patch refused with cause 4 and the reason, with the ledger, the hubs and
the members as they are restored before the patch (R25, R30, R336, R339, R472). -/
def Obligations.BringupEnds : Prop :=
  ∀ s : State, s.bringsUp = true → s.mode.ucodeOk = true → s.mode.memRstLow = false → allSlices.all s.settled = true →
    ((s.restoreAll s.keepPick).someGroup = true → s.patchAgain s.keepPick = 0 → Completes .bringupComplete s fun t =>
      (t.mode.mode = .run ∨ t.mode.mode = .degraded) ∧ t.mode.served = true ∧ t.mode.keepSrc = s.keepPick.src ∧ t.mode.step = 0 ∧ t.pins.wakeOut = false) ∧
    ((s.restoreAll s.keepPick).someGroup = false → Completes .bringupComplete s fun t =>
      t.mode.stuck = true ∧ t.mode.cause = 3 ∧ t.mode.buSlice = 0x7F ∧ t.slices = s.slices ∧ t.mem = s.mem) ∧
    ((s.restoreAll s.keepPick).someGroup = true → s.patchAgain s.keepPick ≠ 0 → Completes .bringupComplete s fun t =>
      t.mode.stuck = true ∧ t.mode.cause = 4 ∧ t.mode.buSlice = 0x7F ∧ t.sec.patchReason = s.patchAgain s.keepPick ∧
      t.ledger = (s.restoreFirst s.keepPick).ledger ∧ t.hubs = (s.restoreFirst s.keepPick).hubs ∧ t.spr = (s.restoreFirst s.keepPick).spr ∧
      t.mem = (s.restoreFirst s.keepPick).mem)

/-- Resets: a cold reset, in any mode, is a cold BRING-UP with the core off, no request and no timebase, and the always-on contents, the
devices and the Keep copies stay; its end with MAIN_PG high powers the core on; a warm reset in service starts a Squall that saves, writes no
memory where no check line is dirty, and does nothing in HOLD-UP or RETENTION; past the limit no write waits for data (R28, R138, R139, R488, R489). -/
def Obligations.ResetCommands : Prop :=
  ∀ s : State,
    Completes .coldReset s (fun t => t.mode.mode = .bringUp ∧ t.mode.buKind = .cold ∧ t.mode.coldLow = true ∧ t.pwr.coreOn = false ∧ t.tb = 0 ∧
      t.reqs = [] ∧ t.pins.coldRstN = false ∧ t.squall.active = false ∧ t.ao = s.ao ∧ t.mem = s.mem ∧ t.keepA = s.keepA ∧ t.keepB = s.keepB) ∧
    (s.pins.coldRstN = false → s.mode.coldLow = true → s.pins.mainPg = true → Completes .coldBringupStart s fun t =>
      t.pins.coldRstN = true ∧ t.pins.aoValid = true ∧ t.pwr.coreOn = true ∧ t.mode.coldLow = false ∧ t.mode.step = 2 ∧ t.mem = s.mem) ∧
    (s.mode.coldLow = false → s.inService = true → s.fab.wrst = false → s.pwr.phase = .awake → Completes .warmReset s fun t =>
      t.fab.wrst = true ∧ t.squall.active = true ∧ t.squall.cause = 3 ∧ t.squall.save = true ∧ t.regs.seq = SeqLock.reset ∧
      (∀ n : Fin 8, t.ingest[n].enWanted = false) ∧ t.mode = s.mode ∧
      ((∀ c : Fin 80, s.slices[c].sched.ckc.any CkLine.dirty = false) → t.mem = s.mem)) ∧
    (s.mode.mode = .holdUp ∨ s.mode.mode = .retention → exec .warmReset s = .next s) ∧
    (s.fab.wrst = true → Completes .wrstLimitExpiry s fun t => t.mode = s.mode ∧ ∀ r ∈ t.reqs, r.phase ≠ .awaitData)

/-! ### Breeze -/

/-- Frames of other participants, at an instance that has joined the bus. Whatever the frame, the wires end at rest with the instance's ACK low and
the bus is free. The bytes of a frame with its CRC right act as that frame, with the CRC wrong they are counted and change nothing else outside the
interface; a collision is discarded; PING and STATUS queue their replies, a fifth reply is dropped and counted; WAKE wakes from
S1 or S2; PL_HINT has no action of its own; SQUALL_TOKEN and SQUALL_DONE of a peer are recorded; a reply fills the free receive buffer
(R346, R347, R352, R354 to R357, R359 to R361). -/
def Obligations.BreezeFrames : Prop :=
  ∀ (dest src cmd b : Byte) (payload bytes : List Byte) (s : State), s.brz.joined = true → payload.length ≤ 16 →
    let rest : Breeze := { s.brz with busy := false, wires := wiresIdle, pulls := pullsArmed }
    exec (.frameReceived (brzFrame dest src cmd payload) false) s = .next (s.brzMatch dest src cmd payload) ∧
    (crcFrame ([dest, src, cmd, BitVec.ofNat 8 payload.length] ++ payload) ≠ b →
      exec (.frameReceived ([dest, src, cmd, BitVec.ofNat 8 payload.length] ++ payload ++ [b]) false) s =
        .next { s with brz := { rest with crcCnt := satInc s.brz.crcCnt } }) ∧
    exec (.frameReceived bytes true) s = .next { s with brz := rest } ∧
    (src ≠ s.brzOwn →
      (s.brz.replies.length < 4 →
        Completes (.ping s.brzOwn src payload) s (fun t => t.brz = { rest with replies := s.brz.replies ++ [brzFrame src s.brzOwn brzPingReply payload] }) ∧
        Completes (.status s.brzOwn src) s (fun t => t.brz = { rest with replies := s.brz.replies ++ [brzFrame src s.brzOwn brzStatusReply s.statusPayload] })) ∧
      (4 ≤ s.brz.replies.length →
        Completes (.ping s.brzOwn src payload) s (fun t => t.brz = { rest with dropCnt := satInc s.brz.dropCnt }) ∧
        Completes (.status s.brzOwn src) s (fun t => t.brz = { rest with dropCnt := satInc s.brz.dropCnt })) ∧
      (s.mode.mode ≠ .retention → s.pwr.phase = .asleep → Completes (.wake s.brzOwn src) s fun t =>
        t.pwr = { s.pwr with phase := .waking, wakeSrc := 4 } ∧ t.brz = rest) ∧
      Completes (.plHint s.brzOwn src b) s (fun t => t.brz = rest ∧ t.squall = s.squall ∧ t.pwr.pl = s.pwr.pl) ∧
      (s.brzPeer src = true →
        Completes (.squallToken s.brzOwn src) s (fun t => t.brz = rest ∧
          t.squall = { s.squall with tokenSeen := s.squall.tokenSeen ||| (1#8 <<< src.toNat) }) ∧
        Completes (.squallDone s.brzOwn src) s (fun t => t.brz = rest ∧ t.squall = { s.squall with
          peerDone := s.squall.peerDone ||| (1#8 <<< src.toNat), heard := s.squall.heard ||| (1#8 <<< src.toNat) })) ∧
      (s.brz.rxValid = false →
        Completes (.pingReply s.brzOwn src payload) s (fun t => t.brz = { rest with
          rxValid := true, rxSrc := src, rxCmd := brzPingReply, rxLen := BitVec.ofNat 5 payload.length, rxData := payload }) ∧
        (payload.length = 4 → Completes (.statusReply s.brzOwn src payload) s fun t => t.brz = { rest with
          rxValid := true, rxSrc := src, rxCmd := brzStatusReply, rxLen := 4, rxData := payload })))

/-- The sender. The instance joins once its always-on contents are valid, and pulls ACK low; a claim marks the bus busy. The frame next in order is
sent as its bytes when the bus is free and leaves the queue; a rival with a lower DEST and SRC makes it withdraw and wait, one with the same pair and
other bits makes it abandon the frame, with a duplicate address noted. A handshake timeout as a sender is counted and tried again while retries of
that frame are left, else the frame is dropped; as a listener it arms again. A wire held low releases what the instance drives until it is high again.
SEND queues the frame of the page, refuses a command code that software may not send, and a second host frame; RX_RELEASE and CLR_COUNTERS change
their own fields (R346, R348, R350, R351, R353, R354, R359, R362, R363). -/
def Obligations.BreezeSender : Prop :=
  ∀ (k : TxKind) (rivals : List (Byte × Byte)) (collision : Bool) (s : State),
    let armed : Breeze := { s.brz with wires := wiresIdle, pulls := pullsArmed }
    (s.pins.aoValid = true →
      exec .listenerJoin s = .next { s with brz := { armed with joined := true } } ∧
      Completes (.stuck true) s (fun t => t.brz.stuck = true ∧ t.brz.pulls = 0 ∧ t.brz.busy = false ∧ t.brz.wires ≠ 0xF ∧
        t.brz.replies = s.brz.replies ∧ t.brz.txHost = s.brz.txHost) ∧
      (s.brz.joined = true → exec (.stuck false) s = .next { s with brz := { armed with stuck := false } })) ∧
    (s.pageLive pageBrz = true →
      (let cmd : Byte := (s.stored pageBrz 0x054).extractLsb' 16 8
       (cmd ∈ [brzPing, brzStatus, brzWake] → s.brz.txHost = none → Completes .send s fun t => t.brz.txResult = 0 ∧ t.brz.txHost = some
          (brzFrame ((s.stored pageBrz 0x054).extractLsb' 24 8) s.brzOwn cmd (((List.range 4).flatMap fun k => bytesOf (s.stored pageBrz (0x058 + 4 * k)) 4).take
            (min 16 (fieldOf (s.stored pageBrz 0x054) 4 0))))) ∧
       (cmd ∈ [brzPing, brzStatus, brzWake] → s.brz.txHost.isSome = true → exec .send s = .next { s with brz := { s.brz with txResult := 4 } }) ∧
       (cmd ∉ [brzPing, brzStatus, brzWake] → exec .send s = .next { s with brz := { s.brz with txResult := 2 } })) ∧
      exec .rxRelease s = .next { s with brz := { s.brz with rxValid := false, rxOver := false } } ∧
      exec .brzClrCounters s = .next { s with brz := { s.brz with crcCnt := 0, toCnt := 0, arbCnt := 0, collCnt := 0, dropCnt := 0 } }) ∧
    (s.brz.joined = true →
      exec .busClaim s = .next { s with brz := { armed with busy := true } } ∧
      Completes (.handshakeTimeout false) s (fun t => t.brz.busy = false ∧ t.brz.pulls = pullsArmed ∧ t.brz.wires &&& pullsArmed = 0) ∧
      (s.txNext = some k →
        (s.brz.retries[k.order] < s.brzRetry → Completes (.handshakeTimeout true) s fun t =>
          t.brz = { s.brz with
            toCnt := satInc s.brz.toCnt, busy := false, pulls := 0, wires := t.brz.wires, retries := s.brz.retries.set k.order (s.brz.retries[k.order] + 1) }) ∧
        (s.brzRetry ≤ s.brz.retries[k.order] → Completes (.handshakeTimeout true) s fun t => t.brz.toCnt = satInc s.brz.toCnt ∧
          t.brz.retries = s.brz.retries.set k.order 0 ∧ t.brz.sent = s.brz.sent ∧ t.squall.doneSent = s.squall.doneSent) ∧
        (s.brz.stuck = false → s.brz.busy = false →
          ((∃ r ∈ rivals, headerRank r.1 r.2 < frameRank (s.txFrame k)) →
            exec (.frameSend rivals collision) s = .next { s with brz := { armed with busy := true, arbCnt := satInc s.brz.arbCnt } }) ∧
          ((∀ r ∈ rivals, frameRank (s.txFrame k) ≤ headerRank r.1 r.2) →
            (collision = true → (∃ r ∈ rivals, headerRank r.1 r.2 = frameRank (s.txFrame k)) → Completes (.frameSend rivals collision) s fun t =>
              t.brz.collCnt = satInc s.brz.collCnt ∧ t.brz.dupAddr = true ∧ t.brz.sent = s.brz.sent ∧ t.squall.doneSent = s.squall.doneSent) ∧
            (collision = false → Completes (.frameSend rivals collision) s fun t => t.brz.sent = s.txFrame k ∧
              t.brz.retries = s.brz.retries.set k.order 0 ∧ t.brz.busy = false ∧ t.brz.wires = wiresIdle ∧ t.brz.pulls = pullsArmed ∧
              t.brz.txDone = (s.brz.txDone && k != .done) ∧ t.brz.txToken = (s.brz.txToken && k != .token) ∧
              t.brz.replies = (if k = .reply then s.brz.replies.drop 1 else s.brz.replies) ∧
              t.brz.txHint = (if k = .hint then none else s.brz.txHint) ∧ t.brz.txHost = (if k = .host then none else s.brz.txHost) ∧
              t.squall.doneSent = (s.squall.doneSent || k == .done))))))

/-! ### Registers -/

/-- Register writes. A word written by a secure requester to a register of one word that takes effect at once gives that register its new
value, SET, CLR and TGL aliases combining it with the old one, and changes no other stored register, on every page but GLB, BRZ, ERR, TEL and those of
the ingest ports; on BRZ, ERR and TEL its RW fields read back so. One whose apply point is later is
pending and changes no stored register; a misaligned access answers with an error, and the first one is recorded; a write by a non-secure requester to a
secure page is counted, each half of a doubleword, and does nothing; a page that is absent takes no write (R8, R372, R374, R376, R377, R378, R380,
R381, R389). -/
def Obligations.RegisterWriteEffects : Prop :=
  ∀ (a : Access) (s : State),
    s.portOpen = true → s.mode.mode ≠ .holdUp →
    (s.pageThere (pageOf a.addr) = false → Completes (.registerWrite a) s fun t => t.regs = { s.regs with rdata := 0, rerr := false } ∧ t.sec = s.sec) ∧
    (s.pageThere (pageOf a.addr) = true → secureOnly a = true → Completes (.registerWrite a) s fun t =>
      t.sec.denyCnt = (if isAligned a ∧ a.size = 3 then satInc (satInc s.sec.denyCnt) else satInc s.sec.denyCnt) ∧ t.regs.applied = s.regs.applied ∧ t.regs.shadows = s.regs.shadows ∧ t.regs.rdata = 0 ∧ t.regs.rerr = false) ∧
    (s.pageThere (pageOf a.addr) = true → a.secure = true → isAligned a = false → (s.header (pageOf a.addr)).accessErr = false →
      Completes (.registerWrite a) s fun t => t.regs.rerr = true ∧ (t.header (pageOf a.addr)).accessErr = true ∧
        (t.header (pageOf a.addr)).errCause = 2 ∧ (t.header (pageOf a.addr)).errOfs = a.addr.extractLsb' 0 12 ∧ t.regs.applied = s.regs.applied) ∧
    ∀ (r : RegSpec), regSpec (pageOf a.addr) (addrOfs a.addr) = some r → (pageKind (pageOf a.addr)).isSome = true → s.pageThere (pageOf a.addr) = true → s.pageSafe (pageOf a.addr) = false → s.sliceNaps (pageOf a.addr) = false → a.secure = true →
      isAligned a = true → a.size = 2 → s.regs.seq.held = false →
      0x040 ≤ addrOfs a.addr → addrOfs a.addr < 0x400 → r.rw &&& laneMask a.addr a.size ≠ 0 → r.w1 = 0 → (s.regs.locked = true → r.lk = 0) → r.lo = false → r.hi = false →
      ¬(pageOf a.addr = pageSec ∧ 0x100 ≤ addrOfs a.addr) → ¬(pageOf a.addr = pageGlb ∧ addrOfs a.addr = 0x058) →
      let base := s.baseValue (pageOf a.addr) (addrOfs a.addr)
      let v := mergeMask base { value := aliasValue (aliasOf a.addr) base (laneWord a.addr a.wdata), mask := r.rw &&& laneMask a.addr a.size }
      (r.ap = .imm → pageOf a.addr ∉ [pageGlb, pageBrz, pageErr, pageTel] → ¬(0x20 ≤ pageOf a.addr ∧ pageOf a.addr < 0x28) → Completes (.registerWrite a) s fun t =>
        t.stored (pageOf a.addr) (addrOfs a.addr) = v ∧ t.regs.rdata = 0 ∧ t.regs.rerr = false ∧ t.regs.shadows = s.regs.shadows ∧ t.mem = s.mem ∧
        ∀ p o, o < 0x400 → (p, o) ≠ (pageOf a.addr, addrOfs a.addr) → t.stored p o = s.stored p o) ∧
      (r.ap = .imm → pageOf a.addr ∈ [pageBrz, pageErr, pageTel] → ¬(pageOf a.addr = pageBrz ∧ addrOfs a.addr = 0x044) → Completes (.registerWrite a) s fun t =>
        t.regRead (pageOf a.addr) (addrOfs a.addr) &&& r.rw = v &&& r.rw ∧ t.regs.rdata = 0 ∧ t.regs.rerr = false ∧ t.regs.shadows = s.regs.shadows ∧ t.mem = s.mem) ∧
      (r.ap ≠ .imm → Completes (.registerWrite a) s fun t => t.pendingOr (pageOf a.addr) (addrOfs a.addr) = mergeMask (s.stored (pageOf a.addr) (addrOfs a.addr))
          { value := v, mask := (match getKey s.regs.shadows (regKey (pageOf a.addr) (addrOfs a.addr)) with | some x => x.mask | none => 0) ||| (r.rw &&& laneMask a.addr a.size) } ∧
        t.regs.applied = s.regs.applied ∧ t.regs.rdata = 0 ∧ t.regs.rerr = false ∧ t.mem = s.mem)

/-- Register reads: a word read by a secure requester returns what the register shows on its lanes with no error, or, where its parity
check fails, zeros and CP_RERR with the page in its safe state; a page that is absent reads as zero; once a page's unit is idle, every
register that waits for it takes its pending value. A fault that the parity sweep finds sets and raises CFG_PARITY, and nothing pending or staged for
the page is left as its safe state is entered (R367, R370, R377, R382, R390, R391, R392, R398). -/
def Obligations.RegisterReadEffects : Prop :=
  ∀ (a : Access) (page : BitVec 8) (ofs : BitVec 10) (s : State),
    (s.portOpen = true → s.pageThere (pageOf a.addr) = false → Completes (.registerRead a false) s fun t => t.regs = { s.regs with rdata := 0, rerr := false } ∧ t.sec = s.sec) ∧
    (s.portOpen = true → s.pageThere (pageOf a.addr) = true → a.secure = true → isAligned a = true → a.size.toNat < 3 →
      let asked : State := { s with pins := { s.pins with cpRstN := true }, regs := { s.regs with rdata := 0, rerr := false } }
      ((∀ r, regSpec (pageOf a.addr) (addrOfs a.addr) = some r → r.pop = false) → Completes (.registerRead a false) s fun t =>
        t.regs.rdata = toLanes a.addr (asked.regRead (pageOf a.addr) (addrOfs a.addr) &&& laneMask a.addr a.size) ∧ t.regs.rerr = false ∧
        t.regs.applied = s.regs.applied ∧ t.mem = s.mem) ∧
      (hasParity (pageOf a.addr) (addrOfs a.addr) = true → Completes (.registerRead a true) s fun t => t.regs.rdata = 0 ∧ t.regs.rerr = true ∧
        ∃ u : State, u.parity (pageOf a.addr) = true ∧ { t with regs := { t.regs with rdata := 0, rerr := false } } = { (u.enterSafe (pageOf a.addr)) with
          regs := { (u.enterSafe (pageOf a.addr)).regs with rdata := 0, rerr := false } })) ∧
    (s.pageOn page.toNat = true → s.unitIdle page.toNat = true → Completes (.idleApply page) s fun t =>
      t.pendingAt page.toNat .idle = [] ∧ t.mem = s.mem ∧ ∀ o ∈ s.pendingAt page.toNat .idle, t.stored page.toNat o = s.pendingOr page.toNat o) ∧
    (let o := addrOfs (BitVec.ofNat 20 (page.toNat * 4096 + ofs.toNat))
     s.pageThere page.toNat = true → hasParity page.toNat o = true → Completes (.cfgParitySweep page ofs true) s fun t => ∃ u : State,
      t = u.enterSafe page.toNat ∧ u.parity page.toNat = true ∧ (u.intRaw pageErr).getLsbD 4 = true ∧ u.regs.applied = s.regs.applied ∧
      (∀ x ∈ u.regs.shadows, x.1 / 1024 ≠ page.toNat) ∧ (∀ x ∈ u.regs.seq.staged, pageOf x.addr ≠ page.toNat) ∧ u.mem = s.mem)

/-- The commands of a page's header: INT_RAW bits written 1 clear, INT_FORCE sets the sources the page has, CLR_ERR clears the access
error, DISCARD drops the page's low words and its shadows but those that GLB_LOCK protects, the applied values and the headers stay; GLB_LOCK locks where the sequence lock is free (R372,
R373, R374, R386, R387). -/
def Obligations.HeaderCommands : Prop :=
  ∀ (page : BitVec 8) (bits : Reg) (s : State), s.pageLive page.toNat = true →
    Completes (.intRawClear page bits) s (fun t => t.intRaw page.toNat = s.intRaw page.toNat &&& ~~~bits ∧ t.intEn page.toNat = s.intEn page.toNat ∧
      ∀ p, p ≠ page.toNat → t.header p = s.header p) ∧
    Completes (.intForce page bits) s (fun t => t.intRaw page.toNat = s.intRaw page.toNat ||| (bits &&& sourceMask page.toNat) ∧
      t.intEn page.toNat = s.intEn page.toNat ∧ ∀ p, p ≠ page.toNat → t.header p = s.header p) ∧
    Completes (.clrErr page) s (fun t => t.header page.toNat = { s.header page.toNat with accessErr := false, errCause := 0, errOfs := 0 } ∧
      ∀ p, p ≠ page.toNat → t.header p = s.header p) ∧
    Completes (.discard page) s (fun t => t.regs.applied = s.regs.applied ∧
      (∀ x, x ∈ t.regs.shadows ↔ x ∈ s.regs.shadows ∧ (x.1 / 1024 ≠ page.toNat ∨ (s.regs.locked = true ∧ lkAt x.1 = true))) ∧
      (∀ x, x ∈ t.regs.lowHeld ↔ x ∈ s.regs.lowHeld ∧ x.1 / 1024 ≠ page.toNat) ∧ ∀ p, t.header p = s.header p) ∧
    (page.toNat = pageGlb → s.regs.seq.held = false → exec .glbLock s = .next { s with regs := { s.regs with locked := true } })

/-- The sequence lock. A free lock is given for a lease of 10 ms; the holder's ACQUIRE renews it and another requester's does nothing;
the holder's word written to a register with RW fields is staged, the 65th is not, and another's is refused with cause 4; GLB_LOCK, ING_ENABLE,
ING_DISABLE and ING_RP_WRITE are staged while the lock is held, as the holder's writes (the model's choice, assumption 94); RELEASE with
COMMIT makes the staged writes in order, but those for pages in their safe state, unless the lock overflowed, RELEASE without it none, and either frees the lock; the lease's end, once
10 ms have passed, and CP_RST_N free it with nothing made (R395 to R398). -/
def Obligations.SequenceLock : Prop :=
  ∀ (id : BitVec 5) (a : Access) (r : RegSpec) (s : State),
    (s.pageLive pageGlb = true → s.leaseOver = false →
      (s.regs.seq.held = false → exec (.acquire id) s = .next { s with regs := { s.regs with seq := { SeqLock.reset with held := true, owner := ownerId id, tLease := s.tb } } }) ∧
      (s.regs.seq.held = true → s.regs.seq.owner = ownerId id →
        exec (.acquire id) s = .next { s with regs := { s.regs with seq := { s.regs.seq with tLease := s.tb } } } ∧
        exec (.release id) s = .next { s with regs := { s.regs with seq := SeqLock.reset } } ∧
        (s.regs.seq.overflow = true → exec (.commit id) s = .next { s with regs := { s.regs with seq := SeqLock.reset } }) ∧
        (s.regs.seq.overflow = false → exec (.commit id) s = .next (s.regs.seq.staged.foldl
          (fun (t : State) (x : Access) => if t.parity (pageOf x.addr) then t else t.performWrite x) { s with regs := { s.regs with seq := SeqLock.reset } }))) ∧
      (s.regs.seq.held = true → s.regs.seq.owner ≠ ownerId id →
        exec (.acquire id) s = .next s ∧ exec (.commit id) s = .next s ∧ exec (.release id) s = .next s)) ∧
    (s.regs.seq.held = true → s.leaseOver = false → regSpec (pageOf a.addr) (addrOfs a.addr) = some r → r.rw ≠ 0 → ¬(pageOf a.addr = pageGlb ∧ addrOfs a.addr = 0x058) →
      (s.regs.seq.owner = ownerId a.reqid → s.regs.seq.staged.length < 64 →
        s.offerWrite a = { s with regs := { s.regs with seq := { s.regs.seq with staged := s.regs.seq.staged ++ [a] } } }) ∧
      (s.regs.seq.owner = ownerId a.reqid → 64 ≤ s.regs.seq.staged.length → s.offerWrite a = { s with regs := { s.regs with seq := { s.regs.seq with overflow := true } } }) ∧
      (s.regs.seq.owner ≠ ownerId a.reqid → s.offerWrite a = s.accessError (pageOf a.addr) 4 a.addr)) ∧
    (s.regs.seq.held = true → s.leaseOver = false → s.regs.seq.staged.length < 64 → ∀ (n : Fin 8) (c : Instr) (p o : Nat) (w : Reg),
      (c, p, o, w) ∈ [(Instr.glbLock, pageGlb, 0x054, (1 : Reg)), (.ingEnable n, pageIng n, 0x044, 1), (.ingDisable n, pageIng n, 0x044, 0)] → s.pageLive p = true →
      exec c s = .next { s with regs := { s.regs with seq := { s.regs.seq with staged := s.regs.seq.staged ++ [{ wordWrite p o w with reqid := s.regs.seq.owner }] } } }) ∧
    (∀ (n : Fin 8) (v : BitVec 64), s.regs.seq.held = true → s.leaseOver = false → s.regs.seq.staged.length < 63 → s.pageLive (pageIng n) = true →
      exec (.ingRpWrite n v) s = .next { s with regs := { s.regs with seq := { s.regs.seq with staged := s.regs.seq.staged ++
        [{ wordWrite (pageIng n) 0x068 (loWord v) with reqid := s.regs.seq.owner }, { wordWrite (pageIng n) 0x06C (hiWord v) with reqid := s.regs.seq.owner }] } } }) ∧
    (s.leaseOver = true → Completes .leaseExpiry s fun t => t.regs.seq = SeqLock.reset ∧ t.regs.applied = s.regs.applied ∧ t.mem = s.mem ∧
      (s.regs.seq.staged ≠ [] → (t.intRaw pageGlb).getLsbD 3 = true)) ∧
    Completes .cpReset s (fun t => t.regs.seq = SeqLock.reset ∧ t.pins.cpRstN = false ∧ t.regs.applied = s.regs.applied ∧ t.mem = s.mem)

/-! ### Mailboxes and the debug port -/

/-- The mailbox. A ring of an idle mailbox, its page in order, whose OP, mode and arguments are right leaves the mailbox BUSY with the
command counted; one whose OP is not listed ends at once with CODE 2, one that the mode refuses with CODE 1 and REASON 0x0F; a ring while BUSY
is lost; ABORT asks BIST and PATTERN to stop; CLR_COUNTERS clears the page's two counters (R404, R405). -/
def Obligations.MailboxRings : Prop :=
  ∀ (v : Fin 24) (op : Byte) (c : Instr) (s : State), s.pageLive (pageVane v) = true → s.parity (pageVane v) = false →
    (s.vanes[v].busy = false → (c, v, op) ∈ [(Instr.mboxPing v, v, opPing), (Instr.cfgSweep, 23, opSweep), (Instr.patrolRestart, 19, opPatrol)] → s.opMode op = true →
      exec c s = .next (s.modVane v fun x => { x with
        busy := true, doneBit := false, ringLost := false, op := op, args := s.mboxArgs v, abortReq := false, cmdCnt := satInc x.cmdCnt })) ∧
    (s.vanes[v].busy = false → Machine.opListed v op = false → Completes (.badOp v op) s fun t => t.vanes[v].busy = false ∧ t.vanes[v].doneBit = true ∧
      t.vanes[v].code = 2 ∧ t.vanes[v].reason = 0 ∧ t.vanes[v].seq = s.vanes[v].seq + 1 ∧ t.vanes[v].refuseCnt = satInc s.vanes[v].refuseCnt ∧ t.mem = s.mem) ∧
    (s.vanes[v].busy = false → (c, v, op) ∈ [(Instr.mboxPing v, v, opPing), (Instr.cfgSweep, 23, opSweep), (Instr.patrolRestart, 19, opPatrol), (Instr.diagExit, 23, opDiagExit)] →
      s.opMode op = false → Completes c s fun t => t.vanes[v].busy = false ∧ t.vanes[v].doneBit = true ∧ t.vanes[v].code = 1 ∧ t.vanes[v].reason = 0xF ∧
        t.vanes[v].cmdCnt = satInc s.vanes[v].cmdCnt ∧ t.mode = s.mode ∧ t.mem = s.mem) ∧
    (s.vanes[v].busy = true → (c, v, op) ∈ [(Instr.mboxPing v, v, opPing), (Instr.cfgSweep, 23, opSweep), (Instr.patrolRestart, 19, opPatrol), (Instr.diagEnter, 23, opDiagEnter)] →
      exec c s = .next (s.modVane v fun x => { x with ringLost := true, refuseCnt := satInc x.refuseCnt })) ∧
    (s.vanes[v].busy = true → opAbortable s.vanes[v].op = true → exec (.abort v) s = .next (s.modVane v fun x => { x with abortReq := true })) ∧
    exec (.vaneClrCounters v) s = .next (s.modVane v fun x => { x with cmdCnt := 0, refuseCnt := 0 })

/-- DIAGNOSTIC. DIAG_ENTER that no condition of R26 refuses starts a Squall with cause 4, and writes no memory where no check line is dirty;
in a warm-reset Squall it ends ABORTED (the model's choice, log 77). DIAG_EXIT ends OK and begins the warm bring-up, which is cold while
AO_VALID is low; BIST and PATTERN run in DIAGNOSTIC alone, and PATTERN loses the lines it names and changes no byte outside them; a command ends
with the code and the words of its OP, in one step (R26, R404 to R407, R504). -/
def Obligations.DiagnosticCommands : Prop :=
  ∀ (v : Fin 24) (sets : BitVec 6) (slice : BitVec 7) (pat : BitVec 2) (seed : BitVec 16) (first count r0 r1 r2 : Reg) (s : State),
    (s.pageLive (pageVane 23) = true → s.parity (pageVane 23) = false → s.vanes[(23 : Fin 24)].busy = false →
      (s.diagReason = 0 → s.fab.wrst = false → Completes .diagEnter s fun t => t.squall.active = true ∧ t.squall.cause = 4 ∧ t.squall.save = true ∧
        t.squall.drained = true ∧ t.vanes[(23 : Fin 24)].busy = true ∧ t.vanes[(23 : Fin 24)].op = opDiagEnter ∧ t.mode = s.mode ∧
        ((∀ c : Fin 80, s.slices[c].sched.ckc.any CkLine.dirty = false) → t.mem = s.mem)) ∧
      (s.diagReason = 0 → s.fab.wrst = true → Completes .diagEnter s fun t => t.vanes[(23 : Fin 24)].busy = false ∧ t.vanes[(23 : Fin 24)].doneBit = true ∧
        t.vanes[(23 : Fin 24)].code = 4 ∧ t.mode = s.mode ∧ t.squall = s.squall ∧ t.mem = s.mem) ∧
      (s.diagReason ≠ 0 → Completes .diagEnter s fun t => t.vanes[(23 : Fin 24)].code = 1 ∧ t.vanes[(23 : Fin 24)].reason = s.diagReason ∧
        t.vanes[(23 : Fin 24)].doneBit = true ∧ t.mode = s.mode ∧ t.squall = s.squall) ∧
      (s.mode.mode = .diagnostic →
        Completes .diagExit s (fun t => t.mode.mode = .bringUp ∧ t.mode.buKind = (if s.pins.aoValid then .warm else .cold) ∧ t.vanes[(23 : Fin 24)].doneBit = true ∧ t.vanes[(23 : Fin 24)].code = 0) ∧
        Completes (.bist sets) s fun t => t.vanes[(23 : Fin 24)].busy = true ∧ t.vanes[(23 : Fin 24)].op = opBist ∧
          t.vanes[(23 : Fin 24)].args[0] = sets.setWidth 32 ∧ t.mode = s.mode ∧ t.mem = s.mem) ∧
      (s.mode.mode ≠ .diagnostic → Completes (.bist sets) s fun t => t.vanes[(23 : Fin 24)].busy = false ∧ t.vanes[(23 : Fin 24)].doneBit = true ∧
        t.vanes[(23 : Fin 24)].code = 1 ∧ t.vanes[(23 : Fin 24)].reason = 0xF ∧ t.ledger = s.ledger ∧ t.mem = s.mem)) ∧
    (s.pageLive (pageVane v) = true → s.parity (pageVane v) = false → s.vanes[v].busy = false → v.val < 16 → s.mode.mode ≠ .diagnostic →
      Completes (.pattern v slice pat seed first count) s fun t => t.vanes[v].busy = false ∧ t.vanes[v].doneBit = true ∧ t.vanes[v].code = 1 ∧
        t.vanes[v].reason = 0xF ∧ t.mem = s.mem) ∧
    (let args : Vector Reg 4 := #v[slice.setWidth 32, fld seed.toNat 16 ||| pat.setWidth 32, first, count]
     s.pageLive (pageVane v) = true → s.parity (pageVane v) = false → s.vanes[v].busy = false → v.val < 16 → s.mode.mode = .diagnostic → s.patternArgs v args = true →
      Memory.wf s.mem = true → Completes (.pattern v slice pat seed first count) s fun t => t.vanes[v].busy = true ∧ t.vanes[v].op = opPattern ∧ t.vanes[v].args = args ∧
        t.mode = s.mode ∧
        (∀ k < count.toNat, t.rawLine (sliceOf slice.toNat) (first.toNat + k) = Config.lostLine s.free (sliceOf slice.toNat).val (first.toNat + k)) ∧
        ∀ a, (a < sliceByte (sliceOf slice.toNat) (64 * first.toNat) ∨ sliceByte (sliceOf slice.toNat) (64 * first.toNat) + 64 * count.toNat ≤ a) →
          Memory.read t.mem a = Memory.read s.mem a) ∧
    (s.vanes[v].busy = true →
      (s.vanes[v].abortReq = true → Completes (.mboxDone v r0 r1 r2) s fun t => t.vanes[v].busy = false ∧ t.vanes[v].code = 4 ∧ t.vanes[v].seq = s.vanes[v].seq + 1) ∧
      (s.vanes[v].abortReq = false → s.vanes[v].op = opPing → Completes (.mboxDone v r0 r1 r2) s fun t => t.vanes[v].busy = false ∧ t.vanes[v].doneBit = true ∧
        t.vanes[v].code = 0 ∧ t.vanes[v].rdata[0] = s.vaneId v ∧ t.vanes[v].rdata[1] = s.ucodeId ∧ t.vanes[v].seq = s.vanes[v].seq + 1 ∧ (t.intRaw pageGlb).getLsbD 2 = true) ∧
      (s.vanes[v].abortReq = false → s.vanes[v].op = opPattern → Completes (.mboxDone v r0 r1 r2) s fun t => t.vanes[v].busy = false ∧ t.vanes[v].code = 0 ∧
        t.vanes[v].rdata[0] = r0 ∧ t.vanes[v].rdata[1] = r1 ∧ t.vanes[v].rdata[2] = r2 &&& 0xFFFF) ∧
      (s.vanes[v].abortReq = false → s.vanes[v].op = opSweep → Completes (.mboxDone v r0 r1 r2) s fun t => t.vanes[v].busy = false ∧ t.vanes[v].code = 0 ∧
        t.vanes[v].rdata[0] = r0) ∧
      (s.vanes[v].abortReq = false → s.vanes[v].op = opBist → Completes (.mboxDone v r0 r1 r2) s fun t => t.vanes[v].busy = false ∧ t.vanes[v].code = 0 ∧
        t.vanes[v].rdata[0] = s.vanes[v].args[0] &&& r0 ∧ t.vanes[v].rdata[1] = s.vanes[v].args[0] &&& ~~~r0) ∧
      (s.vanes[v].abortReq = false → s.vanes[v].op = opPatrol → Completes (.mboxDone v r0 r1 r2) s fun t => t.vanes[v].rdata[0] = s.patrolPosReg ∧
        t.spr.patGrp = 0 ∧ t.spr.patPos = 0) ∧
      (s.vanes[v].abortReq = false → s.vanes[v].op = opDiagEnter → s.squall.active = true → s.squall.cause = 4 → s.squall.headers = true → s.mode.mode ≠ .diagnostic →
        Completes (.mboxDone v r0 r1 r2) s fun t => t.mode.mode = .diagnostic ∧ t.squall.active = false ∧ t.vanes[v].code = 0 ∧ t.vanes[v].rdata[0] = loWord s.tb))

/-- The debug port. A GO that a check fails leaves DBG_ERR and raises DONE; a READ or a WRITE enters as a request of source 0x18; a direct
operation reads one raw slice line into DBG_DATA, or writes the enabled bytes of one line and no byte outside it; the end frees the port;
CAP_ARM arms the capture (R410, R411). -/
def Obligations.DebugPort : Prop :=
  ∀ (c : Fin 80) (r : Req) (code : BitVec 4) (s : State),
    (s.pageLive pageDbg = true →
      (∀ (k : Instr) (op : Nat), (k, op) ∈ [(Instr.dbgRead, 0), (.dbgWrite, 1), (.directRead, 2), (.directWrite, 3)] → s.dbgError op ≠ 0 →
        Completes k s fun t => t.dbg = { s.dbg with err := s.dbgError op } ∧ (t.intRaw pageDbg).getLsbD 0 = true ∧ t.mem = s.mem ∧ t.reqs = s.reqs) ∧
      (∀ (k : Instr) (op : BitVec 4), (k, op) ∈ [(Instr.dbgRead, opcRead), (.dbgWrite, opcWrite)] → s.dbgError op.toNat = 0 →
        Completes k s fun t => t.dbg = { s.dbg with busy := true, direct := false, err := 0 } ∧ s.ids < t.ids ∧
          t.reqs.map Req.key = s.reqs.map Req.key ++ [(s.ids, srcDebug, 0, op)] ∧ t.mem = s.mem) ∧
      (s.dbgSlice = some c → let l := fieldOf (s.stored pageDbg 0x04C) 26 0
        (s.dbgError 2 = 0 → Completes .directRead s fun t => t.dbg = { s.dbg with busy := true, direct := true, err := 0 } ∧ t.mem = s.mem ∧
          ∀ k < 16, t.stored pageDbg (0x100 + 4 * k) = (s.rawLine c l).extractLsb' (32 * k) 32) ∧
        (s.dbgError 3 = 0 → Memory.wf s.mem = true → Completes .directWrite s fun t => t.dbg.busy = true ∧ t.dbg.direct = true ∧ t.dbg.err = 0 ∧
          t.rawLine c l = mergeBytes (s.rawLine c l) s.dbgLine s.dbgBe ∧
          (∀ m, s.slices[c].health.mem = some m → t.dbg.touched = s.dbg.touched ||| (1#8 <<< s.slices[c].health.grp.val)) ∧
          ∀ a, (a < sliceByte c (64 * l) ∨ sliceByte c (64 * l) + 64 ≤ a) → Memory.read t.mem a = Memory.read s.mem a)) ∧
      exec .capArm s = .next { s with dbg := { s.dbg with capArmed := true, captured := false } }) ∧
    (s.dbg.busy = true → s.dbg.direct = true → Completes .dbgDone s fun t => t.dbg = { s.dbg with busy := false, direct := false, code := 0 } ∧
      (t.intRaw pageDbg).getLsbD 0 = true ∧ t.mem = s.mem) ∧
    (s.dbg.busy = true → s.dbg.direct = false → (s.reqs.find? fun r => r.src == srcDebug) = some r → r.phase = .done code → Completes .dbgDone s fun t =>
      t.dbg.busy = false ∧ t.dbg.code = code ∧ (t.intRaw pageDbg).getLsbD 0 = true ∧ t.reqs = s.reqs.filter (fun q => q.rid != r.rid) ∧ t.mem = s.mem)

/-! ### Errors -/

/-- The error log and its commands. An error is counted in its class and in no other; ACK acknowledges the oldest entry, ACK_ALL every one,
CLR_FIRST arms ERR_FIRST again, CLR_COUNTERS clears the six counters (R426, R428, R438). -/
def Obligations.ErrorCommands : Prop :=
  ∀ (ev : ErrEvent) (s : State),
    ((s.logError ev).err.ceCnt = (if ev.cls = clsCe then satInc s.err.ceCnt else s.err.ceCnt) ∧
      (s.logError ev).err.rcvCnt = (if ev.cls = clsRcv then satInc s.err.rcvCnt else s.err.rcvCnt) ∧
      (s.logError ev).err.ucCnt = (if ev.cls = clsUc then satInc s.err.ucCnt else s.err.ucCnt) ∧
      (s.logError ev).err.fatalCnt = (if ev.cls = clsFatal then satInc s.err.fatalCnt else s.err.fatalCnt)) ∧
    (s.pageLive pageErr = true →
      exec .ack s = .next { s with err := { s.err with unack := s.err.unack - 1 } } ∧
      exec .ackAll s = .next { s with err := { s.err with unack := 0 } } ∧
      exec .clrFirst s = .next { s with err := { s.err with first := none } } ∧
      exec .errClrCounters s = .next { s with err := { s.err with ceCnt := 0, rcvCnt := 0, ucCnt := 0, fatalCnt := 0, ovfCnt := 0, keepCnt := 0 } })

/-! ### Telemetry -/

/-- Telemetry commands. SNAP takes every bank, every OVF bit and the timebase at one instant and sets SNAP_BUSY, or does nothing while it
is set; the capture's end makes it valid; CLR_CNT clears the counters, their OVF bits and the three sample counts, CLR_OVF the OVF bits;
FLUSH and the fill timeout hand a FILL bank that holds records to a reader whose bank is free, CLR_UNDERRUN and CLR_SAMP change their own
state; a pop returns the oldest word and takes it out, or sets UNDERRUN and returns the last word again (R440, R445, R452, R454, R455, R458). -/
def Obligations.TelemetryCommands : Prop :=
  ∀ (w : BitVec 32) (rest : List (BitVec 32)) (s : State),
    (s.pageLive pageTel = true →
      (s.tel.snapBusy = false → Completes .snap s fun t => t.tel = { s.tel with snapSys := s.tel.sys, snapOvf := s.tel.sysOvf, snapTime := s.tb, snapBusy := true } ∧
        ∀ c : Fin 80, t.slices[c].bank = s.slices[c].bank ∧ (s.slices[c].on = true → t.slices[c].snapBank = s.slices[c].bank)) ∧
      (s.tel.snapBusy = true → exec .snap s = .next s) ∧
      Completes .clrCnt s (fun t => t.tel = { s.tel with sys := Vector.replicate 8 0, sysOvf := 0, sampCnt := 0, dropCnt := 0, gapCnt := 0 } ∧
        ∀ c : Fin 80, t.slices[c].bank = SliceBank.reset ∧ t.slices[c].snapBank = s.slices[c].snapBank ∧ t.slices[c].sched = s.slices[c].sched) ∧
      Completes .clrOvf s (fun t => t.tel = { s.tel with sysOvf := 0 } ∧ ∀ c : Fin 80, t.slices[c].bank = { s.slices[c].bank with ovf := 0 }) ∧
      (s.tel.fill ≠ [] → s.tel.readBank = false → Completes .flush s fun t => t.tel.fill = [] ∧ t.tel.read = s.tel.fill.flatMap recordWords ∧
        t.tel.readBank = true ∧ (t.intRaw pageTel).getLsbD 0 = true) ∧
      (s.tel.fill = [] → exec .flush s = .next s) ∧
      exec .clrUnderrun s = .next { s with tel := { s.tel with underrun := false } } ∧
      Completes .clrSamp s fun t => t.tel.fill = [] ∧ t.tel.read = [] ∧ t.tel.readBank = false ∧ t.tel.underrun = false ∧ t.tel.sys = s.tel.sys ∧ t.tel.sampCnt = s.tel.sampCnt) ∧
    (s.tel.snapBusy = true → exec .snapCaptureDone s = .next { s with tel := { s.tel with snapBusy := false, snapValid := true } }) ∧
    (s.pageOn pageTel = true →
      (s.tel.read = w :: rest → s.tel.closeDue = false → Completes .samplePop s fun t => t.regs.rdata = w.setWidth 64 ∧ t.regs.rerr = false ∧ t.tel.read = rest ∧
        t.tel.lastPop = w ∧ t.tel.readBank = !rest.isEmpty ∧ t.tel.fill = s.tel.fill) ∧
      (s.tel.read = [] → Completes .samplePop s fun t => t.regs.rdata = s.tel.lastPop.setWidth 64 ∧ t.tel = { s.tel with underrun := true })) ∧
    (s.cfgField pageTel 0x108 15 0 ≠ 0 → s.tel.fillT.toNat + s.cfgField pageTel 0x108 15 0 * 1000 ≤ s.tb.toNat → s.tel.fill ≠ [] → s.tel.readBank = false →
      Completes .fillBankTimeout s fun t => t.tel.fill = [] ∧ t.tel.read = s.tel.fill.flatMap recordWords ∧ t.tel.readBank = true)

/-- A slot of a slice whose clock runs advances that slice's slot counter by one, its programmable counters by what their events add, and
nothing else of the block but the bank's overflow flags and the interrupt that one raises (R440, R442, R446, R448). -/
def Obligations.SlotCounts : Prop :=
  ∀ (c : Fin 80) (f : SlotFacts) (s : State),
    (s.sliceClock c = true → Completes (.slotBoundary c f) s fun t =>
      t.slices[c].bank.slot = s.slices[c].bank.slot + 1 ∧
      (∀ k : Fin 4, s.cfgBit pageTel 0x040 0 = true → s.parity pageTel = false → t.slices[c].bank.cnt[k] =
        s.slices[c].bank.cnt[k] + BitVec.ofNat 48 (s.slotAmount c f (s.cfgField pageTel 0x060 (8 * k.val + 7) (8 * k.val)))) ∧
      (∀ k : Fin 4, s.cfgBit pageTel 0x040 0 = false → t.slices[c].bank.cnt[k] = s.slices[c].bank.cnt[k]) ∧
      t = { s with slices := s.slices.set c { s.slices[c] with bank := t.slices[c].bank }, regs := t.regs } ∧
      t.regs = { s.regs with headers := t.regs.headers }) ∧
    (s.sliceClock c = false → exec (.slotBoundary c f) s = .next s)

/-! ### One-time row, keys, patches -/

/-- The one-time row. PROGRAM with the key, of a word that may be programmed and is blank while the supply is good, begins the program: the
word holds its data and is not done; without the key it ends with result 5, of a programmed word with result 1; its end marks the word done
if it reads back right, else result 7; a supply trip ends it with result 3 and the word stays incomplete; CLR_COUNTERS clears the three counters
(R460, R462, R463, R464, R475). -/
def Obligations.OneTimeRow : Prop :=
  ∀ (i : Nat) (ok : Bool) (s : State),
    (s.pageLive pageOtp = true →
      exec .otpClrCounters s = .next { s with sec := { s.sec with otpCe := 0, otpUc := 0, otpRe := 0 } } ∧
      (s.parity pageOtp = false → s.sec.otpBusy = false →
        (s.cfg pageOtp 0x05C ≠ 0x0000A5C3 → Completes .program s fun t => t.sec = { s.sec with otpResult := 5 } ∧ t.stored pageOtp 0x05C = 0) ∧
        (s.cfg pageOtp 0x05C = 0x0000A5C3 → s.cfgField pageOtp 0x050 5 0 = i → 2 ≤ i → (i < 12 → s.feature 3 = false) →
          ((s.sec.otp i).st = 0 → s.otpSupplyOk = true → Completes .program s fun t => t.sec.otpBusy = true ∧ t.sec.otpSpare = none ∧ t.sec.otpIndex = BitVec.ofNat 6 i ∧
            t.sec.words = s.sec.words.setIfInBounds i (begunWord (pairOf (s.cfg pageOtp 0x054) (s.cfg pageOtp 0x058)) 0) ∧ t.sec.spares = s.sec.spares) ∧
          ((s.sec.otp i).st = 1 → Completes .program s fun t => t.sec.otpResult = 1 ∧ t.sec.otpRe = satInc s.sec.otpRe ∧ t.sec.words = s.sec.words ∧
            t.sec.spares = s.sec.spares ∧ t.stored pageOtp 0x05C = 0)))) ∧
    (s.sec.otpBusy = true →
      Completes (.programDone ok) s (fun t => t.sec.otpBusy = false ∧ t.sec.otpResult = (if ok then 0 else 7) ∧ (t.intRaw pageOtp).getLsbD 0 = true ∧
        (s.sec.otpSpare = none → t.sec.spares = s.sec.spares ∧ t.sec.words = s.sec.words.setIfInBounds s.sec.otpIndex.toNat
          { s.sec.words[s.sec.otpIndex.toNat]?.getD OtpWord.blank with done := ok })) ∧
      Completes .supplyTrip s fun t => t.sec.otpBusy = false ∧ t.sec.otpResult = 3 ∧ t.sec.words = s.sec.words ∧ (t.intRaw pageOtp).getLsbD 2 = true)

/-- Keys and patches. KEY_DERIVE of a valid root into a slot that no enabled region names begins a derivation under the context registers,
and its end leaves the slot READY with the key of R465; KEY_CLEAR empties a slot; PATCH_LOAD begins a load: with PATCH_DIS set
it ends with REASON 1; where the image is whole its end gives the REASON of checks 6 to 9 and keeps the image if none fails; a kept image is
taken up with its build; CLR_DENY clears the count (R465, R466, R471, R472, R473). -/
def Obligations.KeysAndPatches : Prop :=
  ∀ (k : Fin 16) (s : State),
    (s.pageLive pageSec = true →
      exec .clrDeny s = .next { s with sec := { s.sec with denyCnt := 0, denyArmed := true } } ∧
      (s.parity pageSec = false → s.sec.cmdBusy = false →
        (s.slotInUse s.slotArg = false → Completes .keyClear s fun t => t.sec.slots = s.sec.slots.set s.slotArg KeySlot.empty ∧ t.sec.cmdResult = 0 ∧
          (t.intRaw pageSec).getLsbD 0 = true) ∧
        (s.sec.rootOk (if s.cfgBit pageSec 0x048 8 then 1 else 0) = true → s.slotInUse s.slotArg = false → Completes .keyDerive s fun t =>
          t.sec.cmdBusy = true ∧ t.sec.deriving_ = some s.slotArg ∧
          t.sec.slots = s.sec.slots.set s.slotArg { st := 1, root := s.cfgBit pageSec 0x048 8, ctx := s.kdfContext, key := [] }) ∧
        (s.sec.rootOk (if s.cfgBit pageSec 0x048 8 then 1 else 0) = false → Completes .keyDerive s fun t => t.sec.cmdResult = 2 ∧ t.sec.slots = s.sec.slots) ∧
        exec .patchLoad s = .next { s with sec := { s.sec with cmdBusy := true, loading := true } }) ∧
      (s.parity pageSec = false → s.sec.cmdBusy = true → ∀ c : Instr, c ∈ [Instr.keyDerive, .keyClear, .patchLoad] →
        Completes c s fun t => t.sec = { s.sec with cmdResult := 1 } ∧ (t.intRaw pageSec).getLsbD 0 = true)) ∧
    (s.sec.deriving_ = some k → Completes .keyDeriveDone s fun t => t.sec.cmdBusy = false ∧ t.sec.deriving_ = none ∧ t.sec.cmdResult = 0 ∧
      t.sec.slots = s.sec.slots.set k { s.sec.slots[k] with st := 2, key := s.sec.slotKey s.sec.slots[k].root s.sec.slots[k].ctx }) ∧
    (s.sec.loading = true →
      (s.feature 0 = true → Completes .patchLoadDone s fun t => t.sec.patchReason = 1 ∧ t.sec.cmdResult = 4 ∧ t.sec.loading = false ∧ t.sec.image = s.sec.image) ∧
      (s.feature 0 = false → s.sec.image = [] → s.inService = true → s.patchBase % 4096 = 0 → s.lineThere s.patchBase = true →
        let head := linesBytes [s.vaneLine s.patchBase]
        let lines := s.vaneLines s.patchBase (imageField head 12 4 / 64)
        patchLength (imageField head 12 4) = true → ((List.range (imageField head 12 4 / 64)).all fun j => s.lineThere (s.patchBase + 64 * j)) = true →
        head.take 8 = patchMagic → (∀ x ∈ lines, x ≠ none) →
        Completes .patchLoadDone s fun t => t.sec.patchReason = s.patchChecks (linesBytes lines) ∧ t.sec.taken = (if s.patchChecks (linesBytes lines) = 0 then false else s.sec.taken) ∧ t.sec.cmdBusy = false ∧
          t.sec.image = (if s.patchChecks (linesBytes lines) = 0 then linesBytes lines else s.sec.image) ∧
          t.sec.cmdResult = (if s.patchChecks (linesBytes lines) = 0 then 0 else 4))) ∧
    (s.sec.image ≠ [] → s.sec.taken = false → Completes .patchTakeUp s fun t => t.sec = { s.sec with taken := true } ∧
      t.mode = { s.mode with patchBuild := BitVec.ofNat 16 (imageField s.sec.image 10 2) })

/-! ### Test access -/

/-- Test access, with domain 88 on: TAP reset and IDCODE select the IDCODE register with its value, SAMPLE/PRELOAD, and EXTEST with COLD_RST_N low, select the boundary
register, EXTEST without it, CLAMP, HIGHZ and BYPASS the one-bit register; REGACC makes its access as requester 0x18, a write or a read of a word, and leaves its result in the data register, and the
register port's last response as it was; the wrapper's bypass ends a scan, and a scan, taken with COLD_RST_N low alone, clears the always-on contents as
a brown-out does (R500, R501, R502, R503). -/
def Obligations.TestAccessCommands : Prop :=
  ∀ (dr : RegaccDr) (s : State), s.tapOn = true →
    (∀ c ∈ [Instr.tapReset, .idcode], exec c s = .next (s.selectDr irIdcode s.idcode 32)) ∧
    s.idcode.getLsbD 0 = true ∧
    Completes .samplePreload s (fun t => t.test.ir = irSample ∧ t.test.drLen = Config.boundaryLen ∧ t.mem = s.mem ∧ t.regs = s.regs) ∧
    (s.mode.coldLow = true → Completes .extest s fun t => t.test.ir = irExtest ∧ t.test.drLen = Config.boundaryLen ∧ t.pins = s.pins) ∧
    (s.mode.coldLow = false → exec .extest s = .next (s.selectDr irExtest 0 1)) ∧
    (∀ p ∈ [(Instr.clamp, irClamp), (.highz, irHighz), (.bypass, irBypass)], exec p.1 s = .next (s.selectDr p.2 0 1)) ∧
    (∀ (a : Access) (u : State), a = ⟨dr.word.extractLsb' 33 20, 2, toLanes (dr.word.extractLsb' 33 20) (dr.word.extractLsb' 0 32), dr.word.getLsbD 32 && !s.feature 1, 0x18⟩ →
      u = (if dr.word.getLsbD 53 then (s.respondPort 0 false).regWrite a else (s.respondPort 0 false).regReadAccess a dr.parityFault) →
      Completes (.regacc dr) s fun t => t.test.ir = irRegacc ∧ t.test.drLen = 54 ∧ t.test.dr = t.test.capture ∧
        t.test.rdAddr = a.addr ∧ t.test.rdData = laneWord a.addr u.regs.rdata ∧ t.test.rerr = u.regs.rerr ∧
        t = { u with test := t.test, regs := { u.regs with rdata := s.regs.rdata, rerr := s.regs.rerr } }) ∧
    exec .wsBypass s = .next { s with test := { s.test with scan := false } } ∧
    (s.mode.coldLow = true → s.mode.mode ≠ .holdUp → Completes .scanTestInstruction s fun t => t.test.scan = true ∧ t.pins.aoValid = false ∧
      t.ao = { AlwaysOn.reset with vbkLow := s.ao.vbkLow, lost := s.ao.lost } ∧ t.mem = s.mem) ∧
    (s.mode.coldLow = false → exec .scanTestInstruction s = .next s)

/-! ### The whole block -/

/-- A step takes the command at the front of the queue and runs it with the queue's rest; with no command waiting the block lives one tick. The
tick is the model's choice (assumption 1): it never changes the devices, the requests in flight or the mode. -/
def Obligations.StepRunsTheFrontCommand : Prop :=
  ∀ s : State,
    (∀ (c : Instr) (rest : List Instr), s.pending = c :: rest → step s = exec c { s with pending := rest }) ∧
    (s.pending = [] → ∃ t, step s = .next t ∧ t.pending = [] ∧ t.mem = s.mem ∧ t.mode = s.mode ∧ t.reqs.map Req.key = s.reqs.map Req.key)

/-- The block answers every command in every state: no command faults, none is refused, and none changes the queue of those that wait. -/
def Obligations.EveryCommandAnswers : Prop :=
  ∀ (c : Instr) (s : State), ∃ t, exec c s = .next t ∧ t.pending = s.pending

/-- The frame of every command: what `touches` does not name for it, among the registers, ports, requests, ledger, hubs, slices, supplies, logs,
keys, pins and devices of the block, is the same after it as before. -/
def Obligations.CommandTouchesOnly : Prop :=
  ∀ (c : Instr) (s t : State), exec c s = .next t → Frame (touches c) s t

/-- The block's invariant is kept by every step: the canonical form of memory, the sequence lock's 64 staged writes and none while it is free
(R396), request numbers and tags in use once (R36), and the sizes of the reply queue, the error logs and the FILL bank (R359, R421, R429, R452). -/
def Obligations.StepKeepsInv : Prop :=
  ∀ s t : State, Inv s → step s = .next t → Inv t

/-- Right after reset the invariant that every step keeps holds, and the block is in a cold BRING-UP that has not begun: COLD_RST_N and MAIN_PG
low, the core off, the always-on contents not valid, no command, no request, no port ready, every ingest port OFF, every register at its reset
value with no flag and no lock, and the devices off (R25, R394, R488). The timebase's 0 (assumption 63) and the empty device memory (assumption 5)
are the model's choices. -/
def Obligations.ResetState : Prop :=
  Inv State.reset ∧
  State.reset.mode.mode = .bringUp ∧ State.reset.mode.buKind = .cold ∧ State.reset.mode.coldLow = true ∧ State.reset.pwr.coreOn = false ∧
  State.reset.pins.aoValid = false ∧ State.reset.pending = [] ∧ State.reset.reqs = [] ∧ State.reset.regs = Regs.reset ∧ State.reset.mem = [] ∧ State.reset.tb = 0 ∧
  (∀ p : Fin 16, State.reset.reqReady p = false) ∧ (∀ n : Fin 8, State.reset.ingest[n].phase = .off) ∧ (∀ c : Fin 80, State.reset.slices[c].power = .off)
end

