-- ==== Sys2Proof/Laws/Memory.lean ====
section
/-!
SUPPORT. Laws of the memory list: its canonical form in terms of its cells, that writing keeps it, and what reads after a write.
-/
namespace Sys2Proof.Machine

theorem Memory.wf_cons (c : Host.Cell) (m : List Host.Cell) :
    Memory.wf (c :: m) = true ↔ c.2 ≠ 0 ∧ (∀ x ∈ m.head?, c.1 < x.1) ∧ Memory.wf m = true := by
  obtain ⟨a, b⟩ := c
  cases m with
  | nil => simp [Memory.wf]
  | cons d m => obtain ⟨a', b'⟩ := d; simp [Memory.wf, and_assoc]

/-- The canonical form: no cell holds the value of an unlisted address, and addresses rise strictly. -/
theorem Memory.wf_iff (m : List Host.Cell) :
    Memory.wf m = true ↔ (∀ x ∈ m, x.2 ≠ 0) ∧ m.Pairwise (fun x y => x.1 < y.1) := by
  induction m with
  | nil => simp [Memory.wf]
  | cons c m ih =>
    rw [Memory.wf_cons, ih, List.pairwise_cons]
    constructor
    · rintro ⟨hc, hh, hb, hp⟩
      refine ⟨fun x hx => ?_, ?_, hp⟩
      · rcases List.mem_cons.1 hx with rfl | hx
        · exact hc
        · exact hb x hx
      · cases m with
        | nil => simp
        | cons d m =>
          intro x hx
          have h1 : c.1 < d.1 := hh d rfl
          rcases List.mem_cons.1 hx with rfl | hx
          · exact h1
          · exact h1.trans ((List.pairwise_cons.1 hp).1 x hx)
    · rintro ⟨hb, hl, hp⟩
      exact ⟨hb c (by simp), fun x hx => hl x (List.mem_of_mem_head? hx), fun x hx => hb x (by simp [hx]), hp⟩

theorem Memory.mem_write {m : List Host.Cell} {a : Nat} {b : Byte} {x : Host.Cell} (h : x ∈ Memory.write m a b) :
    x = (a, b) ∧ b ≠ 0 ∨ x ∈ m := by
  induction m with
  | nil => by_cases hb : b = 0 <;> simp_all [Memory.write]
  | cons c m ih =>
    obtain ⟨a', b'⟩ := c
    simp only [Memory.write] at h
    split at h
    · rcases List.mem_cons.1 h with rfl | h
      · simp
      · rcases ih h with h | h
        · exact .inl h
        · exact .inr (by simp [h])
    · split at h
      · split at h
        · exact .inr (by simp [h])
        · rcases List.mem_cons.1 h with rfl | h
          · exact .inl ⟨rfl, ‹_›⟩
          · exact .inr (by simp [h])
      · split at h
        · exact .inr h
        · rcases List.mem_cons.1 h with rfl | h
          · exact .inl ⟨rfl, ‹_›⟩
          · exact .inr h

/-- A write keeps the canonical form. -/
theorem Memory.write_wf {m : List Host.Cell} (a : Nat) (b : Byte) (h : Memory.wf m = true) : Memory.wf (Memory.write m a b) = true := by
  rw [Memory.wf_iff] at h ⊢
  refine ⟨fun x hx => ?_, ?_⟩
  · rcases Memory.mem_write hx with ⟨rfl, hb⟩ | hx
    · exact hb
    · exact h.1 x hx
  · obtain ⟨hn, hp⟩ := h
    induction m with
    | nil => simp only [Memory.write]; split <;> simp
    | cons c m ih =>
      obtain ⟨a', b'⟩ := c
      rw [List.pairwise_cons] at hp
      simp only [Memory.write]
      split
      · refine List.pairwise_cons.2 ⟨fun x hx => ?_, ih (fun x hx => hn x (List.mem_cons_of_mem _ hx)) hp.2⟩
        rcases Memory.mem_write hx with ⟨rfl, _⟩ | hx
        · assumption
        · exact hp.1 x hx
      · split
        · subst_vars
          split
          · exact hp.2
          · exact List.pairwise_cons.2 ⟨hp.1, hp.2⟩
        · split
          · exact List.pairwise_cons.2 hp
          · refine List.pairwise_cons.2 ⟨fun x hx => ?_, List.pairwise_cons.2 hp⟩
            rcases List.mem_cons.1 hx with rfl | hx
            · show a < a'; omega
            · have := hp.1 x hx; show a < x.1; simp at this; omega

theorem Memory.writeBytes_wf {m : List Host.Cell} (a : Nat) (l : List Byte) (h : Memory.wf m = true) :
    Memory.wf (Memory.writeBytes m a l) = true := by
  induction l generalizing m a with
  | nil => exact h
  | cons b l ih => exact ih _ (Memory.write_wf a b h)

theorem Memory.filter_wf {m : List Host.Cell} (f : Host.Cell → Bool) (h : Memory.wf m = true) : Memory.wf (m.filter f) = true := by
  rw [Memory.wf_iff] at h ⊢
  exact ⟨fun x hx => h.1 x (List.mem_of_mem_filter hx), h.2.filter f⟩

theorem Memory.read_below {m : List Host.Cell} {a : Nat} (h : ∀ x ∈ m, a < x.1) : Memory.read m a = 0 := by
  cases m with
  | nil => rfl
  | cons c m =>
    obtain ⟨a', b'⟩ := c
    have := h (a', b') (by simp)
    simp only at this
    simp [Memory.read, this, show ¬ a' = a by omega]

/-- A byte reads as it was written. -/
theorem Memory.read_write_same {m : List Host.Cell} (a : Nat) (b : Byte) (h : Memory.wf m = true) :
    Memory.read (Memory.write m a b) a = b := by
  rw [Memory.wf_iff] at h
  obtain ⟨hn, hp⟩ := h
  induction m with
  | nil =>
    simp only [Memory.write]
    split
    · subst_vars; rfl
    · simp [Memory.read]
  | cons c m ih =>
    obtain ⟨a', b'⟩ := c
    rw [List.pairwise_cons] at hp
    simp only [Memory.write]
    split
    · have := ih (fun x hx => hn x (List.mem_cons_of_mem _ hx)) hp.2
      simp only [Memory.read, this, show ¬ a' = a by omega, show ¬ a < a' by omega, if_false]
    · split
      · subst_vars
        split
        · subst_vars; exact Memory.read_below hp.1
        · simp [Memory.read]
      · split
        · subst_vars; simp [Memory.read, show ¬ a' = a by omega, show a < a' by omega]
        · simp [Memory.read]

/-- A write leaves every other byte as it was. -/
theorem Memory.read_write_other {m : List Host.Cell} (a a' : Nat) (b : Byte) (h : Memory.wf m = true) (hne : a' ≠ a) :
    Memory.read (Memory.write m a b) a' = Memory.read m a' := by
  rw [Memory.wf_iff] at h
  obtain ⟨hn, hp⟩ := h
  induction m with
  | nil =>
    simp only [Memory.write]
    split
    · rfl
    · simp [Memory.read, Ne.symm hne]
  | cons c m ih =>
    obtain ⟨k, v⟩ := c
    rw [List.pairwise_cons] at hp
    have ih := ih (fun x hx => hn x (List.mem_cons_of_mem _ hx)) hp.2
    simp only [Memory.write]
    split
    · simp only [Memory.read, ih]
    · split
      · subst_vars
        split
        · simp only [Memory.read, Ne.symm hne, if_false]
          split
          · exact Memory.read_below fun x hx => lt_trans ‹_› (hp.1 x hx)
          · rfl
        · simp [Memory.read, Ne.symm hne]
      · split
        · rfl
        · simp only [Memory.read, Ne.symm hne, if_false]
          split
          · have : ¬ k = a' := by omega
            simp [this, show a' < k by omega]
          · rfl

/-- Bytes written from an address on leave every byte outside them as it was. -/
theorem Memory.read_writeBytes_other {m : List Host.Cell} (a a' : Nat) (l : List Byte) (h : Memory.wf m = true)
    (ho : a' < a ∨ a + l.length ≤ a') : Memory.read (Memory.writeBytes m a l) a' = Memory.read m a' := by
  induction l generalizing m a with
  | nil => rfl
  | cons b l ih =>
    simp only [List.length_cons] at ho
    rw [Memory.writeBytes, ih _ (Memory.write_wf a b h) (by omega), Memory.read_write_other a a' b h (by omega)]

/-- Each byte written reads as it was written. -/
theorem Memory.read_writeBytes_same {m : List Host.Cell} (a k : Nat) (l : List Byte) (h : Memory.wf m = true) (hk : k < l.length) :
    Memory.read (Memory.writeBytes m a l) (a + k) = l[k] := by
  induction l generalizing m a k with
  | nil => simp at hk
  | cons b l ih =>
    rw [Memory.writeBytes]
    cases k with
    | zero => rw [Memory.read_writeBytes_other _ _ _ (Memory.write_wf a b h) (by omega)]; simpa using Memory.read_write_same a b h
    | succ k =>
      have := ih (m := Memory.write m a b) (a + 1) k (Memory.write_wf a b h) (by simpa using hk)
      rw [show a + (k + 1) = a + 1 + k by omega, this]; simp

end Sys2Proof.Machine
end

