-- ==== Sys2Proof/Laws/Keeps.lean ====
section
/-!
SUPPORT. The relation that the lemmas about every operation are stated in: `Keeps m s t` says that `t` differs from `s` only in the
parts whose bits are set in `m`, and that the invariant passes from `s` to `t`. Masks compose by evaluation. Each operation of the
machine has one lemma, its name with `_keeps`; the lemmas about the commands are in Laws/KeepsCommands.lean.
-/
namespace Sys2Proof.Machine
set_option Elab.async false

/-- The bit of a part in a mask. -/
def Part.idx (p : Part) : Nat := p.ctorIdx

/-- Nothing outside the mask differs. -/
def FrameMask (m : Nat) (s t : State) : Prop := ∀ p : Part, m.testBit p.idx = false → p.same s t

/-- A change that keeps the parts outside the mask and the invariant. -/
structure Keeps (m : Nat) (s t : State) : Prop where
  frame : FrameMask m s t
  inv : Inv s → Inv t

/-- A mask gives the frame over a list that holds its parts. -/
theorem FrameMask.frame {m : Nat} {l : List Part} {s t : State} (h : FrameMask m s t) (hl : ∀ p : Part, p ∉ l → m.testBit p.idx = false) :
    Frame l s t := fun p hp => h p (hl p hp)

/-- A part outside the mask is the same. -/
theorem Keeps.p {m : Nat} {s t : State} (h : Keeps m s t) (p : Part) (hp : m.testBit p.idx = false) : p.same s t := h.frame p hp

theorem Keeps.rfl' {m : Nat} {s : State} : Keeps m s s := ⟨fun p _ => by cases p <;> simp [Part.same], id⟩

structure RegsK (m : Nat) (a b : Regs) : Prop where
  applied : b.applied = a.applied ∨ m.testBit Part.regApplied.idx = true := by first | with_reducible exact Or.inl rfl | exact Or.inr (by decide)
  shadows : b.shadows = a.shadows ∨ m.testBit Part.regShadows.idx = true := by first | with_reducible exact Or.inl rfl | exact Or.inr (by decide)
  lowHeld : b.lowHeld = a.lowHeld ∨ m.testBit Part.regLow.idx = true := by first | with_reducible exact Or.inl rfl | exact Or.inr (by decide)
  headers : b.headers = a.headers ∨ m.testBit Part.regHeaders.idx = true := by first | with_reducible exact Or.inl rfl | exact Or.inr (by decide)
  boot : b.boot = a.boot ∨ m.testBit Part.regBoot.idx = true := by first | with_reducible exact Or.inl rfl | exact Or.inr (by decide)
  napHeld : b.napHeld = a.napHeld ∨ m.testBit Part.regHeld.idx = true := by first | with_reducible exact Or.inl rfl | exact Or.inr (by decide)
  locked : b.locked = a.locked ∨ m.testBit Part.regLock.idx = true := by first | with_reducible exact Or.inl rfl | exact Or.inr (by decide)
  seq : b.seq = a.seq ∨ m.testBit Part.regSeq.idx = true := by first | with_reducible exact Or.inl rfl | exact Or.inr (by decide)
  response : (b.rdata = a.rdata ∧ b.rerr = a.rerr) ∨ m.testBit Part.regResponse.idx = true := by first | with_reducible exact Or.inl ⟨rfl, rfl⟩ | exact Or.inr (by decide)

structure LedgerK (m : Nat) (a b : Ledger) : Prop where
  rest : { b with tableBad := false } = { a with tableBad := false } ∨ m.testBit Part.ledger.idx = true := by first | exact Or.inr (by decide) | with_reducible exact Or.inl rfl
  bad : b.tableBad = a.tableBad ∨ m.testBit Part.ledgerTable.idx = true := by first | with_reducible exact Or.inl rfl | exact Or.inr (by decide)

structure AoK (m : Nat) (a b : AlwaysOn) : Prop where
  rest : { b with errSeq := 0 } = { a with errSeq := 0 } ∨ m.testBit Part.ao.idx = true := by first | exact Or.inr (by decide) | with_reducible exact Or.inl rfl
  seq : b.errSeq = a.errSeq ∨ m.testBit Part.errSeq.idx = true := by first | with_reducible exact Or.inl rfl | exact Or.inr (by decide)

structure SquallK (m : Nat) (a b : Squall) : Prop where
  rest : { b with log := [], logOvf := false } = { a with log := [], logOvf := false } ∨ m.testBit Part.squall.idx = true := by first | exact Or.inr (by decide) | with_reducible exact Or.inl rfl
  log : (b.log = a.log ∧ b.logOvf = a.logOvf) ∨ m.testBit Part.squallLog.idx = true := by first | with_reducible exact Or.inl ⟨rfl, rfl⟩ | exact Or.inr (by decide)

structure TelK (m : Nat) (a b : Telemetry) : Prop where
  rest : { b with sys := Vector.replicate 8 0, sysOvf := 0 } = { a with sys := Vector.replicate 8 0, sysOvf := 0 } ∨ m.testBit Part.tel.idx = true := by first | exact Or.inr (by decide) | with_reducible exact Or.inl rfl
  count : (b.sys = a.sys ∧ b.sysOvf = a.sysOvf) ∨ m.testBit Part.telCount.idx = true := by first | with_reducible exact Or.inl ⟨rfl, rfl⟩ | exact Or.inr (by decide)

theorem Keeps.upd {m : Nat} {s t : State} {pending : List Instr}
  {tb : Time}
  {free : Nat}
  {ids : Nat}
  {mode : ModeState}
  {pins : Pins}
  {regs : Regs}
  {ports : Vector Port 16}
  {reqs : List Req}
  {ingest : Vector Ingest 8}
  {ledger : Ledger}
  {hubs : Vector Hub 8}
  {fab : Fabric}
  {shr : Shares}
  {slices : Vector Slice 80}
  {spr : Spares}
  {ao : AlwaysOn}
  {pwr : Power}
  {squall : Squall}
  {keepA : Option KeepCopy}
  {keepB : Option KeepCopy}
  {brz : Breeze}
  {err : ErrLog}
  {tel : Telemetry}
  {sec : Security}
  {vanes : Vector Vane 24}
  {dbg : Debug}
  {test : TestAccess}
  {mem : List Host.Cell}
  (h : Keeps m s t)
  (h_pending : pending = t.pending ∨ m.testBit Part.pending.idx = true)
  (h_tb : tb = t.tb ∨ m.testBit Part.tb.idx = true := by first | with_reducible exact Or.inl rfl | exact Or.inr (by decide))
  (h_free : free = t.free ∨ m.testBit Part.free.idx = true := by first | with_reducible exact Or.inl rfl | exact Or.inr (by decide))
  (h_ids : ids = t.ids ∨ m.testBit Part.ids.idx = true := by first | with_reducible exact Or.inl rfl | exact Or.inr (by decide))
  (h_mode : mode = t.mode ∨ m.testBit Part.mode.idx = true := by first | with_reducible exact Or.inl rfl | exact Or.inr (by decide))
  (h_pins : pins = t.pins ∨ m.testBit Part.pins.idx = true := by first | with_reducible exact Or.inl rfl | exact Or.inr (by decide))
  (h_regs : RegsK m t.regs regs := by first | exact {})
  (h_ports : ports = t.ports ∨ m.testBit Part.ports.idx = true := by first | with_reducible exact Or.inl rfl | exact Or.inr (by decide))
  (h_reqs : reqs = t.reqs ∨ m.testBit Part.reqs.idx = true := by first | with_reducible exact Or.inl rfl | exact Or.inr (by decide))
  (h_reqList : reqs.map Req.key = t.reqs.map Req.key ∨ m.testBit Part.reqList.idx = true := by first | with_reducible exact Or.inl rfl | exact Or.inr (by decide))
  (h_ingest : ingest = t.ingest ∨ m.testBit Part.ingest.idx = true := by first | with_reducible exact Or.inl rfl | exact Or.inr (by decide))
  (h_ledger : LedgerK m t.ledger ledger := by first | exact {})
  (h_hubs : hubs = t.hubs ∨ m.testBit Part.hubs.idx = true := by first | with_reducible exact Or.inl rfl | exact Or.inr (by decide))
  (h_fab : fab = t.fab ∨ m.testBit Part.fab.idx = true := by first | with_reducible exact Or.inl rfl | exact Or.inr (by decide))
  (h_shr : shr = t.shr ∨ m.testBit Part.shr.idx = true := by first | with_reducible exact Or.inl rfl | exact Or.inr (by decide))
  (h_slices : slices = t.slices ∨ m.testBit Part.slices.idx = true := by first | with_reducible exact Or.inl rfl | exact Or.inr (by decide))
  (h_spr : spr = t.spr ∨ m.testBit Part.spr.idx = true := by first | with_reducible exact Or.inl rfl | exact Or.inr (by decide))
  (h_ao : AoK m t.ao ao := by first | exact {})
  (h_pwr : pwr = t.pwr ∨ m.testBit Part.pwr.idx = true := by first | with_reducible exact Or.inl rfl | exact Or.inr (by decide))
  (h_squall : SquallK m t.squall squall := by first | exact {})
  (h_keepA : keepA = t.keepA ∨ m.testBit Part.keepA.idx = true := by first | with_reducible exact Or.inl rfl | exact Or.inr (by decide))
  (h_keepB : keepB = t.keepB ∨ m.testBit Part.keepB.idx = true := by first | with_reducible exact Or.inl rfl | exact Or.inr (by decide))
  (h_brz : brz = t.brz ∨ m.testBit Part.brz.idx = true := by first | with_reducible exact Or.inl rfl | exact Or.inr (by decide))
  (h_err : err = t.err ∨ m.testBit Part.err.idx = true := by first | with_reducible exact Or.inl rfl | exact Or.inr (by decide))
  (h_tel : TelK m t.tel tel := by first | exact {})
  (h_sec : sec = t.sec ∨ m.testBit Part.sec.idx = true := by first | with_reducible exact Or.inl rfl | exact Or.inr (by decide))
  (h_vanes : vanes = t.vanes ∨ m.testBit Part.vanes.idx = true := by first | with_reducible exact Or.inl rfl | exact Or.inr (by decide))
  (h_dbg : dbg = t.dbg ∨ m.testBit Part.dbg.idx = true := by first | with_reducible exact Or.inl rfl | exact Or.inr (by decide))
  (h_test : test = t.test ∨ m.testBit Part.test.idx = true := by first | with_reducible exact Or.inl rfl | exact Or.inr (by decide))
  (h_mem : mem = t.mem ∨ m.testBit Part.mem.idx = true := by first | with_reducible exact Or.inl rfl | exact Or.inr (by decide))
  (hi : Inv t → Inv (State.mk pending tb free ids mode pins regs ports reqs ingest ledger hubs fab shr slices spr ao pwr squall keepA keepB brz err tel sec vanes dbg test mem) := by exact fun hi => ⟨hi.mem, hi.seq, hi.replies, hi.reqs, hi.unack, hi.squall, hi.fill⟩) :
  Keeps m s (State.mk pending tb free ids mode pins regs ports reqs ingest ledger hubs fab shr slices spr ao pwr squall keepA keepB brz err tel sec vanes dbg test mem) := by
  refine ⟨fun p hp => ?_, fun h0 => hi (h.inv h0)⟩
  have hb := h.frame p hp
  cases p
  · exact (h_pending.resolve_right (by simp [hp])).trans hb
  · exact (h_tb.resolve_right (by simp [hp])).trans hb
  · exact (h_free.resolve_right (by simp [hp])).trans hb
  · exact (h_ids.resolve_right (by simp [hp])).trans hb
  · exact (h_mode.resolve_right (by simp [hp])).trans hb
  · exact (h_pins.resolve_right (by simp [hp])).trans hb
  · exact (h_regs.applied.resolve_right (by simp [hp])).trans hb
  · exact (h_regs.shadows.resolve_right (by simp [hp])).trans hb
  · exact (h_regs.lowHeld.resolve_right (by simp [hp])).trans hb
  · exact (h_regs.headers.resolve_right (by simp [hp])).trans hb
  · exact (h_regs.boot.resolve_right (by simp [hp])).trans hb
  · exact (h_regs.napHeld.resolve_right (by simp [hp])).trans hb
  · exact (h_regs.locked.resolve_right (by simp [hp])).trans hb
  · exact (h_regs.seq.resolve_right (by simp [hp])).trans hb
  · have := h_regs.response.resolve_right (by simp [hp]); exact ⟨this.1.trans hb.1, this.2.trans hb.2⟩
  · exact (h_ports.resolve_right (by simp [hp])).trans hb
  · exact (h_reqs.resolve_right (by simp [hp])).trans hb
  · exact (h_ingest.resolve_right (by simp [hp])).trans hb
  · exact (h_ledger.rest.resolve_right (by simp [hp])).trans hb
  · exact (h_ledger.bad.resolve_right (by simp [hp])).trans hb
  · exact (h_hubs.resolve_right (by simp [hp])).trans hb
  · exact (h_fab.resolve_right (by simp [hp])).trans hb
  · exact (h_shr.resolve_right (by simp [hp])).trans hb
  · exact (h_slices.resolve_right (by simp [hp])).trans hb
  · exact (h_spr.resolve_right (by simp [hp])).trans hb
  · exact (h_ao.rest.resolve_right (by simp [hp])).trans hb
  · exact (h_ao.seq.resolve_right (by simp [hp])).trans hb
  · exact (h_pwr.resolve_right (by simp [hp])).trans hb
  · exact (h_squall.rest.resolve_right (by simp [hp])).trans hb
  · have := h_squall.log.resolve_right (by simp [hp]); exact ⟨this.1.trans hb.1, this.2.trans hb.2⟩
  · exact (h_keepA.resolve_right (by simp [hp])).trans hb
  · exact (h_keepB.resolve_right (by simp [hp])).trans hb
  · exact (h_brz.resolve_right (by simp [hp])).trans hb
  · exact (h_err.resolve_right (by simp [hp])).trans hb
  · have := h_tel.count.resolve_right (by simp [hp]); exact ⟨this.1.trans hb.1, this.2.trans hb.2⟩
  · exact (h_tel.rest.resolve_right (by simp [hp])).trans hb
  · exact (h_sec.resolve_right (by simp [hp])).trans hb
  · exact (h_vanes.resolve_right (by simp [hp])).trans hb
  · exact (h_dbg.resolve_right (by simp [hp])).trans hb
  · exact (h_test.resolve_right (by simp [hp])).trans hb
  · exact (h_mem.resolve_right (by simp [hp])).trans hb
  · exact (h_reqList.resolve_right (by simp [hp])).trans hb

theorem Keeps.trans {m : Nat} {s t u : State} (h : Keeps m s t) (h' : Keeps m t u) : Keeps m s u :=
  ⟨fun p hp => by
    have a := h.frame p hp
    have b := h'.frame p hp
    cases p <;> simp_all [Part.same], fun hi => h'.inv (h.inv hi)⟩

theorem Keeps.mono {m n : Nat} {s t : State} (h : Keeps m s t) (hs : m &&& n = m) : Keeps n s t :=
  ⟨fun p hp => h.frame p (by rw [← hs, Nat.testBit_and, hp]; simp), h.inv⟩

theorem Keeps.step {m n : Nat} {s t u : State} (h : Keeps n s t) (h' : Keeps m t u) (hs : m &&& n = m) : Keeps n s u :=
  h.trans (h'.mono hs)

theorem Keeps.foldl {α : Type} {m : Nat} {s i : State} {l : List α} {f : State → α → State} (h : Keeps m s i) (hf : ∀ s a, Keeps m s (f s a)) :
    Keeps m s (l.foldl f i) := by
  induction l generalizing i with
  | nil => exact h
  | cons a l ih => exact ih (h.trans (hf i a))

theorem Keeps.letv {m : Nat} {s x y : State} (h : Keeps m s x) (h' : Keeps m s x → Keeps m s y) : Keeps m s y := h' h

theorem Keeps.ite {m : Nat} {s x y : State} {c : Prop} [Decidable c] (h : c → Keeps m s x) (h' : ¬c → Keeps m s y) : Keeps m s (if c then x else y) := by
  split
  · exact h ‹_›
  · exact h' ‹_›

theorem Keeps.on {m n : Nat} {s t u : State} (h' : Keeps m t u) (h : Keeps n s t) (hs : m &&& n = m) : Keeps n s u :=
  h.trans (h'.mono hs)

theorem keeps_pending (s : State) (x) : Keeps 0x1 s { s with pending := x } := by
  refine ⟨fun p hp => ?_, fun i => ⟨i.mem, i.seq, i.replies, i.reqs, i.unack, i.squall, i.fill⟩⟩
  cases p <;> first | rfl | exact ⟨rfl, rfl⟩ | exact absurd hp (by decide)

theorem keeps_tb (s : State) (x) : Keeps 0x2 s { s with tb := x } := by
  refine ⟨fun p hp => ?_, fun i => ⟨i.mem, i.seq, i.replies, i.reqs, i.unack, i.squall, i.fill⟩⟩
  cases p <;> first | rfl | exact ⟨rfl, rfl⟩ | exact absurd hp (by decide)

theorem keeps_free (s : State) (x) : Keeps 0x4 s { s with free := x } := by
  refine ⟨fun p hp => ?_, fun i => ⟨i.mem, i.seq, i.replies, i.reqs, i.unack, i.squall, i.fill⟩⟩
  cases p <;> first | rfl | exact ⟨rfl, rfl⟩ | exact absurd hp (by decide)

theorem keeps_mode (s : State) (x) : Keeps 0x10 s { s with mode := x } := by
  refine ⟨fun p hp => ?_, fun i => ⟨i.mem, i.seq, i.replies, i.reqs, i.unack, i.squall, i.fill⟩⟩
  cases p <;> first | rfl | exact ⟨rfl, rfl⟩ | exact absurd hp (by decide)

theorem keeps_pins (s : State) (x) : Keeps 0x20 s { s with pins := x } := by
  refine ⟨fun p hp => ?_, fun i => ⟨i.mem, i.seq, i.replies, i.reqs, i.unack, i.squall, i.fill⟩⟩
  cases p <;> first | rfl | exact ⟨rfl, rfl⟩ | exact absurd hp (by decide)

theorem keeps_ports (s : State) (x) : Keeps 0x8000 s { s with ports := x } := by
  refine ⟨fun p hp => ?_, fun i => ⟨i.mem, i.seq, i.replies, i.reqs, i.unack, i.squall, i.fill⟩⟩
  cases p <;> first | rfl | exact ⟨rfl, rfl⟩ | exact absurd hp (by decide)

theorem keeps_ingest (s : State) (x) : Keeps 0x20000 s { s with ingest := x } := by
  refine ⟨fun p hp => ?_, fun i => ⟨i.mem, i.seq, i.replies, i.reqs, i.unack, i.squall, i.fill⟩⟩
  cases p <;> first | rfl | exact ⟨rfl, rfl⟩ | exact absurd hp (by decide)

theorem keeps_hubs (s : State) (x) : Keeps 0x100000 s { s with hubs := x } := by
  refine ⟨fun p hp => ?_, fun i => ⟨i.mem, i.seq, i.replies, i.reqs, i.unack, i.squall, i.fill⟩⟩
  cases p <;> first | rfl | exact ⟨rfl, rfl⟩ | exact absurd hp (by decide)

theorem keeps_fab (s : State) (x) : Keeps 0x200000 s { s with fab := x } := by
  refine ⟨fun p hp => ?_, fun i => ⟨i.mem, i.seq, i.replies, i.reqs, i.unack, i.squall, i.fill⟩⟩
  cases p <;> first | rfl | exact ⟨rfl, rfl⟩ | exact absurd hp (by decide)

theorem keeps_shr (s : State) (x) : Keeps 0x400000 s { s with shr := x } := by
  refine ⟨fun p hp => ?_, fun i => ⟨i.mem, i.seq, i.replies, i.reqs, i.unack, i.squall, i.fill⟩⟩
  cases p <;> first | rfl | exact ⟨rfl, rfl⟩ | exact absurd hp (by decide)

theorem keeps_slices (s : State) (x) : Keeps 0x800000 s { s with slices := x } := by
  refine ⟨fun p hp => ?_, fun i => ⟨i.mem, i.seq, i.replies, i.reqs, i.unack, i.squall, i.fill⟩⟩
  cases p <;> first | rfl | exact ⟨rfl, rfl⟩ | exact absurd hp (by decide)

theorem keeps_spr (s : State) (x) : Keeps 0x1000000 s { s with spr := x } := by
  refine ⟨fun p hp => ?_, fun i => ⟨i.mem, i.seq, i.replies, i.reqs, i.unack, i.squall, i.fill⟩⟩
  cases p <;> first | rfl | exact ⟨rfl, rfl⟩ | exact absurd hp (by decide)

theorem keeps_pwr (s : State) (x) : Keeps 0x8000000 s { s with pwr := x } := by
  refine ⟨fun p hp => ?_, fun i => ⟨i.mem, i.seq, i.replies, i.reqs, i.unack, i.squall, i.fill⟩⟩
  cases p <;> first | rfl | exact ⟨rfl, rfl⟩ | exact absurd hp (by decide)

theorem keeps_keepA (s : State) (x) : Keeps 0x40000000 s { s with keepA := x } := by
  refine ⟨fun p hp => ?_, fun i => ⟨i.mem, i.seq, i.replies, i.reqs, i.unack, i.squall, i.fill⟩⟩
  cases p <;> first | rfl | exact ⟨rfl, rfl⟩ | exact absurd hp (by decide)

theorem keeps_keepB (s : State) (x) : Keeps 0x80000000 s { s with keepB := x } := by
  refine ⟨fun p hp => ?_, fun i => ⟨i.mem, i.seq, i.replies, i.reqs, i.unack, i.squall, i.fill⟩⟩
  cases p <;> first | rfl | exact ⟨rfl, rfl⟩ | exact absurd hp (by decide)

theorem keeps_sec (s : State) (x) : Keeps 0x1000000000 s { s with sec := x } := by
  refine ⟨fun p hp => ?_, fun i => ⟨i.mem, i.seq, i.replies, i.reqs, i.unack, i.squall, i.fill⟩⟩
  cases p <;> first | rfl | exact ⟨rfl, rfl⟩ | exact absurd hp (by decide)

theorem keeps_vanes (s : State) (x) : Keeps 0x2000000000 s { s with vanes := x } := by
  refine ⟨fun p hp => ?_, fun i => ⟨i.mem, i.seq, i.replies, i.reqs, i.unack, i.squall, i.fill⟩⟩
  cases p <;> first | rfl | exact ⟨rfl, rfl⟩ | exact absurd hp (by decide)

theorem keeps_dbg (s : State) (x) : Keeps 0x4000000000 s { s with dbg := x } := by
  refine ⟨fun p hp => ?_, fun i => ⟨i.mem, i.seq, i.replies, i.reqs, i.unack, i.squall, i.fill⟩⟩
  cases p <;> first | rfl | exact ⟨rfl, rfl⟩ | exact absurd hp (by decide)

theorem keeps_test (s : State) (x) : Keeps 0x8000000000 s { s with test := x } := by
  refine ⟨fun p hp => ?_, fun i => ⟨i.mem, i.seq, i.replies, i.reqs, i.unack, i.squall, i.fill⟩⟩
  cases p <;> first | rfl | exact ⟨rfl, rfl⟩ | exact absurd hp (by decide)

theorem keeps_regApplied (s : State) (x) : Keeps 0x40 s { s with regs := { s.regs with applied := x } } := by
  refine ⟨fun p hp => ?_, fun i => ⟨i.mem, i.seq, i.replies, i.reqs, i.unack, i.squall, i.fill⟩⟩
  cases p <;> first | rfl | exact ⟨rfl, rfl⟩ | exact absurd hp (by decide)

theorem keeps_regShadows (s : State) (x) : Keeps 0x80 s { s with regs := { s.regs with shadows := x } } := by
  refine ⟨fun p hp => ?_, fun i => ⟨i.mem, i.seq, i.replies, i.reqs, i.unack, i.squall, i.fill⟩⟩
  cases p <;> first | rfl | exact ⟨rfl, rfl⟩ | exact absurd hp (by decide)

theorem keeps_regLow (s : State) (x) : Keeps 0x100 s { s with regs := { s.regs with lowHeld := x } } := by
  refine ⟨fun p hp => ?_, fun i => ⟨i.mem, i.seq, i.replies, i.reqs, i.unack, i.squall, i.fill⟩⟩
  cases p <;> first | rfl | exact ⟨rfl, rfl⟩ | exact absurd hp (by decide)

theorem keeps_regHeaders (s : State) (x) : Keeps 0x200 s { s with regs := { s.regs with headers := x } } := by
  refine ⟨fun p hp => ?_, fun i => ⟨i.mem, i.seq, i.replies, i.reqs, i.unack, i.squall, i.fill⟩⟩
  cases p <;> first | rfl | exact ⟨rfl, rfl⟩ | exact absurd hp (by decide)

theorem keeps_regBoot (s : State) (x) : Keeps 0x400 s { s with regs := { s.regs with boot := x } } := by
  refine ⟨fun p hp => ?_, fun i => ⟨i.mem, i.seq, i.replies, i.reqs, i.unack, i.squall, i.fill⟩⟩
  cases p <;> first | rfl | exact ⟨rfl, rfl⟩ | exact absurd hp (by decide)

theorem keeps_regHeld (s : State) (x) : Keeps 0x800 s { s with regs := { s.regs with napHeld := x } } := by
  refine ⟨fun p hp => ?_, fun i => ⟨i.mem, i.seq, i.replies, i.reqs, i.unack, i.squall, i.fill⟩⟩
  cases p <;> first | rfl | exact ⟨rfl, rfl⟩ | exact absurd hp (by decide)

theorem keeps_regLock (s : State) (x) : Keeps 0x1000 s { s with regs := { s.regs with locked := x } } := by
  refine ⟨fun p hp => ?_, fun i => ⟨i.mem, i.seq, i.replies, i.reqs, i.unack, i.squall, i.fill⟩⟩
  cases p <;> first | rfl | exact ⟨rfl, rfl⟩ | exact absurd hp (by decide)

theorem keeps_regResponse (s : State) (x y) : Keeps 0x4000 s { s with regs := { s.regs with rdata := x, rerr := y } } := by
  refine ⟨fun p hp => ?_, fun i => ⟨i.mem, i.seq, i.replies, i.reqs, i.unack, i.squall, i.fill⟩⟩
  cases p <;> first | rfl | exact ⟨rfl, rfl⟩ | exact absurd hp (by decide)

theorem keeps_regSeq (s : State) (x) (h : seqOk s.regs.seq → seqOk x) : Keeps 0x2000 s { s with regs := { s.regs with seq := x } } := by
  refine ⟨fun p hp => ?_, fun i => ⟨i.mem, h i.seq, i.replies, i.reqs, i.unack, i.squall, i.fill⟩⟩
  cases p <;> first | rfl | exact ⟨rfl, rfl⟩ | exact absurd hp (by decide)

theorem keeps_reqs (s : State) (x) (h : reqsOk s.ids s.reqs → reqsOk s.ids x) (hk : x.map Req.key = s.reqs.map Req.key) :
    Keeps 0x10000 s { s with reqs := x } := by
  refine ⟨fun p hp => ?_, fun i => ⟨i.mem, i.seq, i.replies, h i.reqs, i.unack, i.squall, i.fill⟩⟩
  cases p <;> first | rfl | exact ⟨rfl, rfl⟩ | exact hk | exact absurd hp (by decide)

theorem keeps_reqsAll (s : State) (x) (h : reqsOk s.ids s.reqs → reqsOk s.ids x) : Keeps 0x20000010000 s { s with reqs := x } := by
  refine ⟨fun p hp => ?_, fun i => ⟨i.mem, i.seq, i.replies, h i.reqs, i.unack, i.squall, i.fill⟩⟩
  cases p <;> first | rfl | exact ⟨rfl, rfl⟩ | exact absurd hp (by decide)

theorem keeps_ids (s : State) (x) (h : s.ids ≤ x) : Keeps 0x8 s { s with ids := x } := by
  refine ⟨fun p hp => ?_, fun i => ⟨i.mem, i.seq, i.replies, ⟨fun r hr => Nat.lt_of_lt_of_le (i.reqs.1 r hr) h, i.reqs.2⟩, i.unack, i.squall, i.fill⟩⟩
  cases p <;> first | rfl | exact ⟨rfl, rfl⟩ | exact absurd hp (by decide)

theorem keeps_mem (s : State) (x) (h : Memory.wf s.mem = true → Memory.wf x = true) : Keeps 0x10000000000 s { s with mem := x } := by
  refine ⟨fun p hp => ?_, fun i => ⟨h i.mem, i.seq, i.replies, i.reqs, i.unack, i.squall, i.fill⟩⟩
  cases p <;> first | rfl | exact ⟨rfl, rfl⟩ | exact absurd hp (by decide)

theorem keeps_brz (s : State) (x) (h : s.brz.replies.length ≤ 4 → x.replies.length ≤ 4) : Keeps 0x100000000 s { s with brz := x } := by
  refine ⟨fun p hp => ?_, fun i => ⟨i.mem, i.seq, h i.replies, i.reqs, i.unack, i.squall, i.fill⟩⟩
  cases p <;> first | rfl | exact ⟨rfl, rfl⟩ | exact absurd hp (by decide)

theorem keeps_err (s : State) (x) (h : s.err.unack ≤ 32 → x.unack ≤ 32) : Keeps 0x200000000 s { s with err := x } := by
  refine ⟨fun p hp => ?_, fun i => ⟨i.mem, i.seq, i.replies, i.reqs, h i.unack, i.squall, i.fill⟩⟩
  cases p <;> first | rfl | exact ⟨rfl, rfl⟩ | exact absurd hp (by decide)

theorem keeps_ledger (s : State) (x) (h : x.tableBad = s.ledger.tableBad) : Keeps 0x40000 s { s with ledger := x } := by
  refine ⟨fun p hp => ?_, fun i => ⟨i.mem, i.seq, i.replies, i.reqs, i.unack, i.squall, i.fill⟩⟩
  cases p <;> first | rfl | exact ⟨rfl, rfl⟩ | exact absurd hp (by decide) | exact h

theorem keeps_ledgerTable (s : State) (x) : Keeps 0x80000 s { s with ledger := { s.ledger with tableBad := x } } := by
  refine ⟨fun p hp => ?_, fun i => ⟨i.mem, i.seq, i.replies, i.reqs, i.unack, i.squall, i.fill⟩⟩
  cases p <;> first | rfl | exact ⟨rfl, rfl⟩ | exact absurd hp (by decide)

theorem keeps_ledgerAll (s : State) (x) : Keeps 0xc0000 s { s with ledger := x } := by
  refine ⟨fun p hp => ?_, fun i => ⟨i.mem, i.seq, i.replies, i.reqs, i.unack, i.squall, i.fill⟩⟩
  cases p <;> first | rfl | exact ⟨rfl, rfl⟩ | exact absurd hp (by decide)

theorem keeps_ao (s : State) (x) (h : x.errSeq = s.ao.errSeq) : Keeps 0x2000000 s { s with ao := x } := by
  refine ⟨fun p hp => ?_, fun i => ⟨i.mem, i.seq, i.replies, i.reqs, i.unack, i.squall, i.fill⟩⟩
  cases p <;> first | rfl | exact ⟨rfl, rfl⟩ | exact absurd hp (by decide) | exact h

theorem keeps_errSeq (s : State) (x) : Keeps 0x4000000 s { s with ao := { s.ao with errSeq := x } } := by
  refine ⟨fun p hp => ?_, fun i => ⟨i.mem, i.seq, i.replies, i.reqs, i.unack, i.squall, i.fill⟩⟩
  cases p <;> first | rfl | exact ⟨rfl, rfl⟩ | exact absurd hp (by decide)

theorem keeps_aoAll (s : State) (x) : Keeps 0x6000000 s { s with ao := x } := by
  refine ⟨fun p hp => ?_, fun i => ⟨i.mem, i.seq, i.replies, i.reqs, i.unack, i.squall, i.fill⟩⟩
  cases p <;> first | rfl | exact ⟨rfl, rfl⟩ | exact absurd hp (by decide)

theorem keeps_squall (s : State) (x) (h : x.log = s.squall.log) (h' : x.logOvf = s.squall.logOvf) : Keeps 0x10000000 s { s with squall := x } := by
  refine ⟨fun p hp => ?_, fun i => ⟨i.mem, i.seq, i.replies, i.reqs, i.unack, by show x.log.length ≤ 112; rw [h]; exact i.squall, i.fill⟩⟩
  cases p <;> first | rfl | exact ⟨rfl, rfl⟩ | exact absurd hp (by decide) | exact ⟨h, h'⟩

theorem keeps_squallAll (s : State) (x) (h : s.squall.log.length ≤ 112 → x.log.length ≤ 112) : Keeps 0x30000000 s { s with squall := x } := by
  refine ⟨fun p hp => ?_, fun i => ⟨i.mem, i.seq, i.replies, i.reqs, i.unack, h i.squall, i.fill⟩⟩
  cases p <;> first | rfl | exact ⟨rfl, rfl⟩ | exact absurd hp (by decide)

theorem keeps_tel (s : State) (x) (h : x.sys = s.tel.sys) (h' : x.sysOvf = s.tel.sysOvf) (hf : s.tel.fill.length ≤ 2048 → x.fill.length ≤ 2048) : Keeps 0x800000000 s { s with tel := x } := by
  refine ⟨fun p hp => ?_, fun i => ⟨i.mem, i.seq, i.replies, i.reqs, i.unack, i.squall, hf i.fill⟩⟩
  cases p <;> first | rfl | exact ⟨rfl, rfl⟩ | exact absurd hp (by decide) | exact ⟨h, h'⟩

theorem keeps_telCount (s : State) (x y) : Keeps 0x400000000 s { s with tel := { s.tel with sys := x, sysOvf := y } } := by
  refine ⟨fun p hp => ?_, fun i => ⟨i.mem, i.seq, i.replies, i.reqs, i.unack, i.squall, i.fill⟩⟩
  cases p <;> first | rfl | exact ⟨rfl, rfl⟩ | exact absurd hp (by decide)

theorem keeps_telAll (s : State) (x) (hf : s.tel.fill.length ≤ 2048 → x.fill.length ≤ 2048) : Keeps 0xc00000000 s { s with tel := x } := by
  refine ⟨fun p hp => ?_, fun i => ⟨i.mem, i.seq, i.replies, i.reqs, i.unack, i.squall, hf i.fill⟩⟩
  cases p <;> first | rfl | exact ⟨rfl, rfl⟩ | exact absurd hp (by decide)

theorem keeps_pwrPins (s : State) (x y) : Keeps 0x8000020 s { s with pwr := x, pins := y } := by
  refine ⟨fun p hp => ?_, fun i => ⟨i.mem, i.seq, i.replies, i.reqs, i.unack, i.squall, i.fill⟩⟩
  cases p <;> first | rfl | exact ⟨rfl, rfl⟩ | exact absurd hp (by decide)

end Sys2Proof.Machine
end

