-- ==== Sys2Proof/Laws/KeepsOps.lean ====
section
/-!
SUPPORT. One lemma per operation of Machine/Operands.lean, Machine/Ops.lean, Machine/Layout.lean, Machine/MapOps.lean: the parts it may change, and that it keeps the invariant.
-/
set_option linter.all false
namespace Sys2Proof.Machine
set_option Elab.async false

theorem countClass_unack (e : ErrLog) (c) : (countClass e c).unack = e.unack := by
  unfold countClass; repeat' split
  all_goals rfl

theorem squallLogAfter_length (q : Squall) (ev now seq c n) (h : q.log.length ≤ 112) : (squallLogAfter q ev now seq c n).log.length ≤ 112 := by
  unfold squallLogAfter
  dsimp only
  split
  · simpa using h
  · split
    · simp; omega
    · exact h

theorem map_key {l : List Req} {f : Req → Req} (hf : ∀ r, (f r).key = r.key) : (l.map f).map Req.key = l.map Req.key := by
  rw [List.map_map, show Req.key ∘ f = Req.key from funext hf]

theorem reqsOk_map {ids : Nat} {l : List Req} {f : Req → Req} (hf : ∀ r, (f r).key = r.key)
    (h : reqsOk ids l) : reqsOk ids (l.map f) := by
  obtain ⟨h1, h2, h3⟩ := h
  have hk : ∀ r, (f r).rid = r.rid ∧ (f r).src = r.src ∧ (f r).tag = r.tag := fun r => by
    have := hf r; simp only [Req.key, Prod.mk.injEq] at this; exact ⟨this.1, this.2.1, this.2.2.1⟩
  refine ⟨fun r hr => ?_, ?_, fun r hr r' hr' => ?_⟩
  · obtain ⟨a, ha, rfl⟩ := List.mem_map.1 hr
    rw [(hk a).1]; exact h1 a ha
  · rw [List.map_map, show Req.rid ∘ f = Req.rid from funext fun r => (hk r).1]; exact h2
  · obtain ⟨a, ha, rfl⟩ := List.mem_map.1 hr
    obtain ⟨b, hb, rfl⟩ := List.mem_map.1 hr'
    rw [(hk a).1, (hk b).1, (hk a).2.1, (hk b).2.1, (hk a).2.2, (hk b).2.2]; exact h3 a ha b hb

theorem reqsOk_filter {ids : Nat} {l : List Req} (p : Req → Bool) (h : reqsOk ids l) : reqsOk ids (l.filter p) :=
  ⟨fun r hr => h.1 r (List.mem_of_mem_filter hr), h.2.1.sublist (List.filter_sublist.map _),
    fun r hr r' hr' => h.2.2 r (List.mem_of_mem_filter hr) r' (List.mem_of_mem_filter hr')⟩

theorem seqOk_reset : seqOk SeqLock.reset := ⟨Nat.zero_le _, fun _ => ⟨rfl, rfl⟩⟩

theorem reqsOk_nil {ids : Nat} : reqsOk ids [] := ⟨by simp, by simp, by simp⟩

theorem reqsOk_push {ids : Nat} {l : List Req} {r : Req} (h : reqsOk ids l) (hr : r.rid = ids)
    (ht : r.src.toNat < 16 → ∀ a ∈ l, a.src = r.src → a.tag ≠ r.tag) : reqsOk (ids + 1) (l ++ [r]) := by
  obtain ⟨h1, h2, h3⟩ := h
  refine ⟨fun a ha => ?_, ?_, fun a ha b hb hs hp hg => ?_⟩
  · rcases List.mem_append.1 ha with ha | ha
    · exact (h1 a ha).trans (Nat.lt_succ_self _)
    · rw [List.mem_singleton.1 ha, hr]; exact Nat.lt_succ_self _
  · rw [List.map_append, List.nodup_append]
    refine ⟨h2, by simp, fun a ha b hb => ?_⟩
    obtain ⟨x, hx, rfl⟩ := List.mem_map.1 ha
    have := h1 x hx
    simp only [List.map_cons, List.map_nil, List.mem_singleton] at hb
    omega
  · rcases List.mem_append.1 ha with ha | ha <;> rcases List.mem_append.1 hb with hb | hb
    · exact h3 a ha b hb hs hp hg
    · rw [List.mem_singleton.1 hb] at hs hg
      exact absurd hg (ht (hs ▸ hp) a ha hs)
    · rw [List.mem_singleton.1 ha] at hs hg hp
      exact absurd hg.symm (ht hp b hb hs.symm)
    · rw [List.mem_singleton.1 ha, List.mem_singleton.1 hb]

theorem keeps_push (s : State) (r : Req) (hr : r.rid = s.ids) (ht : r.src.toNat < 16 → ∀ a ∈ s.reqs, a.src = r.src → a.tag ≠ r.tag) :
    Keeps 0x20000010008 s { s with ids := s.ids + 1, reqs := s.reqs ++ [r] } := by
  refine ⟨fun p hp => ?_, fun i => ⟨i.mem, i.seq, i.replies, reqsOk_push i.reqs hr ht, i.unack, i.squall, i.fill⟩⟩
  cases p <;> first | rfl | exact ⟨rfl, rfl⟩ | exact absurd hp (by decide)

theorem State.modPort_keeps (s : State) (p) (f) : Keeps 0x8000 s (State.modPort s p f) := by
  unfold State.modPort
  repeat' first
    | with_reducible exact Keeps.rfl'
    | with_reducible assumption
    | (extract_lets +onlyGivenNames x; guard_hyp x : State := _; refine Keeps.letv (x := x) ?_ (fun hx => ?_); (on_goal 1 => (unfold x; clear x)); (on_goal 2 => ((try clear_value x); rename' x => y)))
    | (extract_lets +onlyGivenNames x; rename' x => z)
    | fail_if_no_progress (with_reducible apply Keeps.on (keeps_ports ..); on_goal 2 => decide)

theorem State.modIng_keeps (s : State) (n) (f) : Keeps 0x20000 s (State.modIng s n f) := by
  unfold State.modIng
  repeat' first
    | with_reducible exact Keeps.rfl'
    | with_reducible assumption
    | (extract_lets +onlyGivenNames x; guard_hyp x : State := _; refine Keeps.letv (x := x) ?_ (fun hx => ?_); (on_goal 1 => (unfold x; clear x)); (on_goal 2 => ((try clear_value x); rename' x => y)))
    | (extract_lets +onlyGivenNames x; rename' x => z)
    | fail_if_no_progress (with_reducible apply Keeps.on (keeps_ingest ..); on_goal 2 => decide)

theorem State.modHub_keeps (s : State) (h) (f) : Keeps 0x100000 s (State.modHub s h f) := by
  unfold State.modHub
  repeat' first
    | with_reducible exact Keeps.rfl'
    | with_reducible assumption
    | (extract_lets +onlyGivenNames x; guard_hyp x : State := _; refine Keeps.letv (x := x) ?_ (fun hx => ?_); (on_goal 1 => (unfold x; clear x)); (on_goal 2 => ((try clear_value x); rename' x => y)))
    | (extract_lets +onlyGivenNames x; rename' x => z)
    | fail_if_no_progress (with_reducible apply Keeps.on (keeps_hubs ..); on_goal 2 => decide)

theorem State.modSlice_keeps (s : State) (c) (f) : Keeps 0x800000 s (State.modSlice s c f) := by
  unfold State.modSlice
  repeat' first
    | with_reducible exact Keeps.rfl'
    | with_reducible assumption
    | (extract_lets +onlyGivenNames x; guard_hyp x : State := _; refine Keeps.letv (x := x) ?_ (fun hx => ?_); (on_goal 1 => (unfold x; clear x)); (on_goal 2 => ((try clear_value x); rename' x => y)))
    | (extract_lets +onlyGivenNames x; rename' x => z)
    | fail_if_no_progress (with_reducible apply Keeps.on (keeps_slices ..); on_goal 2 => decide)

theorem State.modSched_keeps (s : State) (c) (f) : Keeps 0x800000 s (State.modSched s c f) := by
  unfold State.modSched
  repeat' first
    | with_reducible exact Keeps.rfl'
    | with_reducible assumption
    | (extract_lets +onlyGivenNames x; guard_hyp x : State := _; refine Keeps.letv (x := x) ?_ (fun hx => ?_); (on_goal 1 => (unfold x; clear x)); (on_goal 2 => ((try clear_value x); rename' x => y)))
    | (extract_lets +onlyGivenNames x; rename' x => z)
    | (with_reducible apply Keeps.on (State.modSlice_keeps ..); on_goal 2 => decide)

theorem State.modTrain_keeps (s : State) (c) (f) : Keeps 0x800000 s (State.modTrain s c f) := by
  unfold State.modTrain
  repeat' first
    | with_reducible exact Keeps.rfl'
    | with_reducible assumption
    | (extract_lets +onlyGivenNames x; guard_hyp x : State := _; refine Keeps.letv (x := x) ?_ (fun hx => ?_); (on_goal 1 => (unfold x; clear x)); (on_goal 2 => ((try clear_value x); rename' x => y)))
    | (extract_lets +onlyGivenNames x; rename' x => z)
    | (with_reducible apply Keeps.on (State.modSlice_keeps ..); on_goal 2 => decide)

theorem State.modHealth_keeps (s : State) (c) (f) : Keeps 0x800000 s (State.modHealth s c f) := by
  unfold State.modHealth
  repeat' first
    | with_reducible exact Keeps.rfl'
    | with_reducible assumption
    | (extract_lets +onlyGivenNames x; guard_hyp x : State := _; refine Keeps.letv (x := x) ?_ (fun hx => ?_); (on_goal 1 => (unfold x; clear x)); (on_goal 2 => ((try clear_value x); rename' x => y)))
    | (extract_lets +onlyGivenNames x; rename' x => z)
    | (with_reducible apply Keeps.on (State.modSlice_keeps ..); on_goal 2 => decide)

theorem State.modVane_keeps (s : State) (v) (f) : Keeps 0x2000000000 s (State.modVane s v f) := by
  unfold State.modVane
  repeat' first
    | with_reducible exact Keeps.rfl'
    | with_reducible assumption
    | (extract_lets +onlyGivenNames x; guard_hyp x : State := _; refine Keeps.letv (x := x) ?_ (fun hx => ?_); (on_goal 1 => (unfold x; clear x)); (on_goal 2 => ((try clear_value x); rename' x => y)))
    | (extract_lets +onlyGivenNames x; rename' x => z)
    | fail_if_no_progress (with_reducible apply Keeps.on (keeps_vanes ..); on_goal 2 => decide)

theorem State.bumpCh_keeps (s : State) (c) (i) (n) : Keeps 0x800000 s (State.bumpCh s c i n) := by
  unfold State.bumpCh
  repeat' first
    | with_reducible exact Keeps.rfl'
    | with_reducible assumption
    | (extract_lets +onlyGivenNames x; guard_hyp x : State := _; refine Keeps.letv (x := x) ?_ (fun hx => ?_); (on_goal 1 => (unfold x; clear x)); (on_goal 2 => ((try clear_value x); rename' x => y)))
    | (extract_lets +onlyGivenNames x; rename' x => z)
    | (with_reducible apply Keeps.on (State.modSlice_keeps ..); on_goal 2 => decide)

theorem State.bumpTrn_keeps (s : State) (c) (i) (n) : Keeps 0x800000 s (State.bumpTrn s c i n) := by
  unfold State.bumpTrn
  repeat' first
    | with_reducible exact Keeps.rfl'
    | with_reducible assumption
    | (extract_lets +onlyGivenNames x; guard_hyp x : State := _; refine Keeps.letv (x := x) ?_ (fun hx => ?_); (on_goal 1 => (unfold x; clear x)); (on_goal 2 => ((try clear_value x); rename' x => y)))
    | (extract_lets +onlyGivenNames x; rename' x => z)
    | (with_reducible apply Keeps.on (State.modSlice_keeps ..); on_goal 2 => decide)

theorem State.tookFree_keeps (s : State) : Keeps 0x4 s (State.tookFree s) := by
  unfold State.tookFree
  repeat' first
    | with_reducible exact Keeps.rfl'
    | with_reducible assumption
    | (extract_lets +onlyGivenNames x; guard_hyp x : State := _; refine Keeps.letv (x := x) ?_ (fun hx => ?_); (on_goal 1 => (unfold x; clear x)); (on_goal 2 => ((try clear_value x); rename' x => y)))
    | (extract_lets +onlyGivenNames x; rename' x => z)
    | fail_if_no_progress (with_reducible apply Keeps.on (keeps_free ..); on_goal 2 => decide)

theorem State.setHeader_keeps (s : State) (page) (h) : Keeps 0x200 s (State.setHeader s page h) := by
  unfold State.setHeader
  repeat' first
    | with_reducible exact Keeps.rfl'
    | with_reducible assumption
    | (extract_lets +onlyGivenNames x; guard_hyp x : State := _; refine Keeps.letv (x := x) ?_ (fun hx => ?_); (on_goal 1 => (unfold x; clear x)); (on_goal 2 => ((try clear_value x); rename' x => y)))
    | (extract_lets +onlyGivenNames x; rename' x => z)
    | with_reducible refine Keeps.ite (fun hc => ?_) (fun hc => ?_)
    | fail_if_no_progress (with_reducible apply Keeps.on (keeps_regHeaders ..); on_goal 2 => decide)

theorem State.modHeader_keeps (s : State) (page) (f) : Keeps 0x200 s (State.modHeader s page f) := by
  unfold State.modHeader
  repeat' first
    | with_reducible exact Keeps.rfl'
    | (with_reducible apply Keeps.on (State.setHeader_keeps ..); on_goal 2 => decide)

theorem State.raiseMask_keeps (s : State) (page) (m) : Keeps 0x200 s (State.raiseMask s page m) := by
  unfold State.raiseMask
  repeat' first
    | with_reducible exact Keeps.rfl'
    | with_reducible assumption
    | (extract_lets +onlyGivenNames x; guard_hyp x : State := _; refine Keeps.letv (x := x) ?_ (fun hx => ?_); (on_goal 1 => (unfold x; clear x)); (on_goal 2 => ((try clear_value x); rename' x => y)))
    | (extract_lets +onlyGivenNames x; rename' x => z)
    | (with_reducible apply Keeps.on (State.modHeader_keeps ..); on_goal 2 => decide)

theorem State.raise_keeps (s : State) (page) (j) : Keeps 0x200 s (State.raise s page j) := by
  unfold State.raise
  repeat' first
    | with_reducible exact Keeps.rfl'
    | (with_reducible apply Keeps.on (State.raiseMask_keeps ..); on_goal 2 => decide)

theorem State.raiseIf_keeps (s : State) (c) (page) (j) : Keeps 0x200 s (State.raiseIf s c page j) := by
  unfold State.raiseIf
  repeat' first
    | with_reducible exact Keeps.rfl'
    | with_reducible refine Keeps.ite (fun hc => ?_) (fun hc => ?_)
    | (with_reducible apply Keeps.on (State.raise_keeps ..); on_goal 2 => decide)

theorem State.whenLive_keeps {m : Nat} {s0 s : State} {page : Nat} {f : State → State} (h : Keeps m s0 s) (hf : ∀ s, Keeps m s (f s)) :
    Keeps m s0 (s.whenLive page f) := by
  unfold State.whenLive
  exact Keeps.ite (fun _ => h.trans (hf s)) (fun _ => h)

theorem State.holdWrite_keeps (s : State) (a) : Keeps 0x800 s (State.holdWrite s a) := by
  unfold State.holdWrite
  repeat' first
    | with_reducible exact Keeps.rfl'
    | with_reducible assumption
    | (extract_lets +onlyGivenNames x; guard_hyp x : State := _; refine Keeps.letv (x := x) ?_ (fun hx => ?_); (on_goal 1 => (unfold x; clear x)); (on_goal 2 => ((try clear_value x); rename' x => y)))
    | (extract_lets +onlyGivenNames x; rename' x => z)
    | fail_if_no_progress (with_reducible apply Keeps.on (keeps_regHeld ..); on_goal 2 => decide)

theorem State.whenSlice_keeps {m : Nat} {s0 s : State} {c : Fin 80} {ofs : Nat} {v : Reg} {f : State → State} (h : Keeps m s0 s) (hm : 0x800 &&& m = 0x800)
    (hf : ∀ s, Keeps m s (f s)) : Keeps m s0 (s.whenSlice c ofs v f) := by
  unfold State.whenSlice
  exact Keeps.ite (fun _ => h.trans (hf s)) fun _ => Keeps.ite (fun _ => (State.holdWrite_keeps ..).on h hm) fun _ => h

theorem State.store_keeps (s : State) (page) (ofs) (v) : Keeps 0x40 s (State.store s page ofs v) := by
  unfold State.store
  repeat' first
    | with_reducible exact Keeps.rfl'
    | with_reducible assumption
    | (extract_lets +onlyGivenNames x; guard_hyp x : State := _; refine Keeps.letv (x := x) ?_ (fun hx => ?_); (on_goal 1 => (unfold x; clear x)); (on_goal 2 => ((try clear_value x); rename' x => y)))
    | (extract_lets +onlyGivenNames x; rename' x => z)
    | with_reducible refine Keeps.ite (fun hc => ?_) (fun hc => ?_)
    | fail_if_no_progress (with_reducible apply Keeps.on (keeps_regApplied ..); on_goal 2 => decide)

theorem State.noteFatal_keeps (s : State) (ev) : Keeps 0x200080200 s (State.noteFatal s ev) := by
  unfold State.noteFatal
  repeat' first
    | with_reducible exact Keeps.rfl'
    | with_reducible assumption
    | (extract_lets +onlyGivenNames x; guard_hyp x : State := _; refine Keeps.letv (x := x) ?_ (fun hx => ?_); (on_goal 1 => (unfold x; clear x)); (on_goal 2 => ((try clear_value x); rename' x => y)))
    | (extract_lets +onlyGivenNames x; rename' x => z)
    | with_reducible refine Keeps.ite (fun hc => ?_) (fun hc => ?_)
    | (with_reducible apply Keeps.on (State.raise_keeps ..); on_goal 2 => decide)
    | fail_if_no_progress (with_reducible apply Keeps.on (keeps_err _ _ ?q); (case q => first | exact id | exact fun _ => Nat.zero_le _); on_goal 2 => decide)
    | fail_if_no_progress (with_reducible apply Keeps.on (keeps_ledgerTable ..); on_goal 2 => decide)
    | fail_if_no_progress (with_reducible apply Keeps.on (keeps_ledger _ _ ?q); (case q => exact rfl); on_goal 2 => decide)
    | fail_if_no_progress (with_reducible apply Keeps.on (keeps_ledgerAll ..); on_goal 2 => decide)
    | fail_if_no_progress refine Keeps.upd ?_ (Or.inl rfl)

theorem State.writeEntry_keeps (s : State) (slot) (x) : Keeps 0x204000200 s (State.writeEntry s slot x) := by
  unfold State.writeEntry
  repeat' first
    | with_reducible exact Keeps.rfl'
    | with_reducible assumption
    | (extract_lets +onlyGivenNames x; guard_hyp x : State := _; refine Keeps.letv (x := x) ?_ (fun hx => ?_); (on_goal 1 => (unfold x; clear x)); (on_goal 2 => ((try clear_value x); rename' x => y)))
    | (extract_lets +onlyGivenNames x; rename' x => z)
    | (with_reducible apply Keeps.on (State.raise_keeps ..); on_goal 2 => decide)
    | (with_reducible apply Keeps.on (State.raiseIf_keeps ..); on_goal 2 => decide)
    | fail_if_no_progress (with_reducible apply Keeps.on (keeps_err _ _ ?q); (case q => first | exact id | exact fun _ => Nat.zero_le _); on_goal 2 => decide)
    | fail_if_no_progress (with_reducible apply Keeps.on (keeps_errSeq ..); on_goal 2 => decide)
    | fail_if_no_progress (with_reducible apply Keeps.on (keeps_ao _ _ ?q); (case q => exact rfl); on_goal 2 => decide)
    | fail_if_no_progress (with_reducible apply Keeps.on (keeps_aoAll ..); on_goal 2 => decide)
    | fail_if_no_progress refine Keeps.upd ?_ (Or.inl rfl)

theorem State.logRing_keeps (s : State) (ev sq co) : Keeps 0x204000204 s (s.logRing ev sq co) := by
  unfold State.logRing
  extract_lets +onlyGivenNames e x
  split
  · split
    · refine Keeps.on (m := 0x200000000) ?_ Keeps.rfl' (by decide)
      exact keeps_err s _ id
    · exact Keeps.rfl'
  · refine Keeps.ite (fun hc => ?_) fun _ => Keeps.ite (fun _ => ?_) fun _ => ?_
    · extract_lets s1 e1 s2
      have h1 : Keeps 0x204000204 s s1 := Keeps.on (State.writeEntry_keeps ..) Keeps.rfl' (by decide)
      have h2 : Keeps 0x204000204 s s2 := by
        refine Keeps.on (m := 0x200000000) ?_ h1 (by decide)
        exact keeps_err s1 _ fun _ => hc
      exact Keeps.on (State.raiseIf_keeps ..) h2 (by decide)
    · split
      · extract_lets s1 e1
        have h1 : Keeps 0x204000204 s s1 := Keeps.on (State.writeEntry_keeps ..) Keeps.rfl' (by decide)
        refine Keeps.on (m := 0x200000000) ?_ h1 (by decide)
        exact keeps_err s1 _ id
      · apply Keeps.on (State.tookFree_keeps ..)
        · refine Keeps.on (m := 0x200000000) ?_ Keeps.rfl' (by decide)
          exact keeps_err s _ id
        · decide
    · apply Keeps.on (State.tookFree_keeps ..)
      · refine Keeps.on (m := 0x200000000) ?_ Keeps.rfl' (by decide)
        exact keeps_err s _ id
      · decide

theorem State.logError_keeps (s : State) (ev) : Keeps 0x234080204 s (State.logError s ev) := by
  unfold State.logError
  repeat' first
    | with_reducible exact Keeps.rfl'
    | with_reducible assumption
    | (extract_lets +onlyGivenNames x; guard_hyp x : State := _; refine Keeps.letv (x := x) ?_ (fun hx => ?_); (on_goal 1 => (unfold x; clear x)); (on_goal 2 => ((try clear_value x); rename' x => y)))
    | (extract_lets +onlyGivenNames x; rename' x => z)
    | with_reducible refine Keeps.ite (fun hc => ?_) (fun hc => ?_)
    | fail_if_no_progress (with_reducible apply Keeps.on (keeps_err _ _ ?q); (case q => exact fun h => (countClass_unack ..).trans_le h); on_goal 2 => decide)
    | fail_if_no_progress (with_reducible apply Keeps.on (keeps_squallAll _ _ ?q); (case q => exact fun h => squallLogAfter_length _ _ _ _ _ _ h); on_goal 2 => decide)
    | (with_reducible apply Keeps.on (State.noteFatal_keeps ..); on_goal 2 => decide)
    | (with_reducible apply Keeps.on (State.logRing_keeps ..); on_goal 2 => decide)
    | fail_if_no_progress (with_reducible apply Keeps.on (keeps_err _ _ ?q); (case q => first | exact id | exact fun _ => Nat.zero_le _); on_goal 2 => decide)
    | fail_if_no_progress (with_reducible apply Keeps.on (keeps_squall _ _ ?q ?r); (case q => exact rfl); (case r => exact rfl); on_goal 2 => decide)
    | fail_if_no_progress (with_reducible apply Keeps.on (keeps_squallAll _ _ ?q); (case q => first | exact id | exact fun _ => Nat.zero_le _); on_goal 2 => decide)
    | fail_if_no_progress refine Keeps.upd ?_ (Or.inl rfl)

theorem telOne_keeps (s : State) (ev) (qual) (n) (k) : Keeps 0x400000200 s (telOne s ev qual n k) := by
  unfold telOne
  repeat' first
    | with_reducible exact Keeps.rfl'
    | with_reducible assumption
    | (extract_lets +onlyGivenNames x; guard_hyp x : State := _; refine Keeps.letv (x := x) ?_ (fun hx => ?_); (on_goal 1 => (unfold x; clear x)); (on_goal 2 => ((try clear_value x); rename' x => y)))
    | (extract_lets +onlyGivenNames x; rename' x => z)
    | with_reducible refine Keeps.ite (fun hc => ?_) (fun hc => ?_)
    | (with_reducible apply Keeps.on (State.raiseIf_keeps ..); on_goal 2 => decide)
    | fail_if_no_progress (with_reducible apply Keeps.on (keeps_telCount ..); on_goal 2 => decide)
    | fail_if_no_progress (with_reducible apply Keeps.on (keeps_tel _ _ ?q ?r ?v); (case q => exact rfl); (case r => exact rfl); (case v => first | exact id | with_unfolding_all exact fun _ => Nat.zero_le _); on_goal 2 => decide)
    | fail_if_no_progress (with_reducible apply Keeps.on (keeps_telAll _ _ ?q); (case q => first | exact id | with_unfolding_all exact fun _ => Nat.zero_le _); on_goal 2 => decide)

theorem State.telSys_keeps (s : State) (ev) (qual) (n) : Keeps 0x400000200 s (State.telSys s ev qual n) := by
  unfold State.telSys
  repeat' first
    | with_reducible exact Keeps.rfl'
    | with_reducible assumption
    | with_reducible refine Keeps.ite (fun hc => ?_) (fun hc => ?_)
    | (with_reducible apply Keeps.on (telOne_keeps ..); on_goal 2 => decide)
    | with_reducible refine Keeps.foldl ?_ (fun s a => ?_)

theorem State.setRawLine_keeps (s : State) (c l d) : Keeps 0x10000000000 s (s.setRawLine c l d) :=
  keeps_mem s _ (Memory.writeBytes_wf _ _)

theorem State.loseContents_keeps (s : State) (c mask) : Keeps 0x10000800004 s (s.loseContents c mask) := by
  unfold State.loseContents
  extract_lets hit t
  have h : Keeps 0x10000800004 s t := (State.modSlice_keeps ..).mono (by decide)
  clear_value t
  exact (keeps_free _ (t.free + 1)).on ((keeps_mem t (t.mem.filter fun x => !hit x.1) (Memory.filter_wf _)).on h (by decide)) (by decide)

theorem State.clearLaid_keeps (s : State) (x) (covers) : Keeps 0x10000000000 s (State.clearLaid s x covers) :=
  keeps_mem s _ (Memory.filter_wf _)

theorem State.wordsLaid_keeps (s : State) (g) (x) (covers) (strip) : Keeps 0x800000 s (State.wordsLaid s g x covers strip) := by
  unfold State.wordsLaid
  repeat' first
    | with_reducible exact Keeps.rfl'
    | with_reducible assumption
    | (extract_lets +onlyGivenNames x; guard_hyp x : State := _; refine Keeps.letv (x := x) ?_ (fun hx => ?_); (on_goal 1 => (unfold x; clear x)); (on_goal 2 => ((try clear_value x); rename' x => y)))
    | (extract_lets +onlyGivenNames x; rename' x => z)
    | (with_reducible apply Keeps.on (State.modSched_keeps ..); on_goal 2 => decide)
    | with_reducible refine Keeps.foldl ?_ (fun s a => ?_)

end Sys2Proof.Machine
end

