-- ==== Sys2Proof/Laws/KeepsFail.lean ====
section
/-!
SUPPORT. One lemma per operation of Machine/FailOps.lean: the parts it may change, and that it keeps the invariant.
-/
set_option linter.all false
namespace Sys2Proof.Machine
set_option Elab.async false

theorem State.setMode_keeps (s : State) (m) : Keeps 0x210 s (State.setMode s m) := by
  unfold State.setMode
  repeat' first
    | with_reducible exact Keeps.rfl'
    | with_reducible assumption
    | (extract_lets +onlyGivenNames x; guard_hyp x : State := _; refine Keeps.letv (x := x) ?_ (fun hx => ?_); (on_goal 1 => (unfold x; clear x)); (on_goal 2 => ((try clear_value x); rename' x => y)))
    | (extract_lets +onlyGivenNames x; rename' x => z)
    | with_reducible refine Keeps.ite (fun hc => ?_) (fun hc => ?_)
    | (with_reducible apply Keeps.on (State.raise_keeps ..); on_goal 2 => decide)
    | fail_if_no_progress (with_reducible apply Keeps.on (keeps_mode ..); on_goal 2 => decide)

theorem State.voteRefuse_keeps (s : State) (d) (reason) : Keeps 0x8000000 s (State.voteRefuse s d reason) := by
  unfold State.voteRefuse
  repeat' first
    | with_reducible exact Keeps.rfl'
    | with_reducible assumption
    | (extract_lets +onlyGivenNames x; guard_hyp x : State := _; refine Keeps.letv (x := x) ?_ (fun hx => ?_); (on_goal 1 => (unfold x; clear x)); (on_goal 2 => ((try clear_value x); rename' x => y)))
    | (extract_lets +onlyGivenNames x; rename' x => z)
    | with_reducible refine Keeps.ite (fun hc => ?_) (fun hc => ?_)
    | fail_if_no_progress (with_reducible apply Keeps.on (keeps_pwr ..); on_goal 2 => decide)

theorem State.lateTraffic_keeps (s : State) (d) : Keeps 0x8000000 s (State.lateTraffic s d) := by
  unfold State.lateTraffic
  repeat' first
    | with_reducible exact Keeps.rfl'
    | with_reducible refine Keeps.ite (fun hc => ?_) (fun hc => ?_)
    | (with_reducible apply Keeps.on (State.voteRefuse_keeps ..); on_goal 2 => decide)

theorem State.wakeBy_keeps (s : State) (src) : Keeps 0x8000020 s (State.wakeBy s src) := by
  unfold State.wakeBy
  repeat' first
    | with_reducible exact Keeps.rfl'
    | with_reducible assumption
    | (extract_lets +onlyGivenNames x; guard_hyp x : State := _; refine Keeps.letv (x := x) ?_ (fun hx => ?_); (on_goal 1 => (unfold x; clear x)); (on_goal 2 => ((try clear_value x); rename' x => y)))
    | (extract_lets +onlyGivenNames x; rename' x => z)
    | with_reducible refine Keeps.ite (fun hc => ?_) (fun hc => ?_)
    | fail_if_no_progress (with_reducible apply Keeps.on (keeps_pins ..); on_goal 2 => decide)
    | fail_if_no_progress (with_reducible apply Keeps.on (keeps_pwr ..); on_goal 2 => decide)
    | fail_if_no_progress (with_reducible apply Keeps.on (keeps_pwrPins ..); on_goal 2 => decide)
    | split
    | fail_if_no_progress refine Keeps.upd ?_ (Or.inl rfl)

theorem State.setMember_keeps (s : State) (g) (m) (x) : Keeps 0x1000000 s (State.setMember s g m x) := by
  unfold State.setMember
  repeat' first
    | with_reducible exact Keeps.rfl'
    | with_reducible assumption
    | (extract_lets +onlyGivenNames x; guard_hyp x : State := _; refine Keeps.letv (x := x) ?_ (fun hx => ?_); (on_goal 1 => (unfold x; clear x)); (on_goal 2 => ((try clear_value x); rename' x => y)))
    | (extract_lets +onlyGivenNames x; rename' x => z)
    | fail_if_no_progress (with_reducible apply Keeps.on (keeps_spr ..); on_goal 2 => decide)

theorem State.setRly_keeps (s : State) (g) (r) : Keeps 0x1000000 s (State.setRly s g r) := by
  unfold State.setRly
  repeat' first
    | with_reducible exact Keeps.rfl'
    | with_reducible assumption
    | (extract_lets +onlyGivenNames x; guard_hyp x : State := _; refine Keeps.letv (x := x) ?_ (fun hx => ?_); (on_goal 1 => (unfold x; clear x)); (on_goal 2 => ((try clear_value x); rename' x => y)))
    | (extract_lets +onlyGivenNames x; rename' x => z)
    | fail_if_no_progress (with_reducible apply Keeps.on (keeps_spr ..); on_goal 2 => decide)

theorem State.setFence_keeps (s : State) (c) (b) : Keeps 0x200000 s (State.setFence s c b) := by
  unfold State.setFence
  repeat' first
    | with_reducible exact Keeps.rfl'
    | with_reducible assumption
    | (extract_lets +onlyGivenNames x; guard_hyp x : State := _; refine Keeps.letv (x := x) ?_ (fun hx => ?_); (on_goal 1 => (unfold x; clear x)); (on_goal 2 => ((try clear_value x); rename' x => y)))
    | (extract_lets +onlyGivenNames x; rename' x => z)
    | with_reducible refine Keeps.ite (fun hc => ?_) (fun hc => ?_)
    | fail_if_no_progress (with_reducible apply Keeps.on (keeps_fab ..); on_goal 2 => decide)

theorem State.stageRoute_keeps (s : State) (g) (m) (r) : Keeps 0x100000 s (State.stageRoute s g m r) := by
  unfold State.stageRoute
  repeat' first
    | with_reducible exact Keeps.rfl'
    | with_reducible assumption
    | (extract_lets +onlyGivenNames x; guard_hyp x : State := _; refine Keeps.letv (x := x) ?_ (fun hx => ?_); (on_goal 1 => (unfold x; clear x)); (on_goal 2 => ((try clear_value x); rename' x => y)))
    | (extract_lets +onlyGivenNames x; rename' x => z)
    | (with_reducible apply Keeps.on (State.modHub_keeps ..); on_goal 2 => decide)

theorem State.followMembers_keeps (s : State) : Keeps 0x210 s (State.followMembers s) := by
  unfold State.followMembers
  repeat' first
    | with_reducible exact Keeps.rfl'
    | with_reducible refine Keeps.ite (fun hc => ?_) (fun hc => ?_)
    | (with_reducible apply Keeps.on (State.setMode_keeps ..); on_goal 2 => decide)

theorem State.signGroup_keeps (s : State) (g) : Keeps 0x800000 s (State.signGroup s g) := by
  unfold State.signGroup
  repeat' first
    | with_reducible exact Keeps.rfl'
    | with_reducible assumption
    | (extract_lets +onlyGivenNames x; guard_hyp x : State := _; refine Keeps.letv (x := x) ?_ (fun hx => ?_); (on_goal 1 => (unfold x; clear x)); (on_goal 2 => ((try clear_value x); rename' x => y)))
    | (extract_lets +onlyGivenNames x; rename' x => z)
    | with_reducible refine Keeps.ite (fun hc => ?_) (fun hc => ?_)
    | (with_reducible apply Keeps.on (State.modSlice_keeps ..); on_goal 2 => decide)
    | with_reducible refine Keeps.foldl ?_ (fun s a => ?_)

theorem State.noteLoss_keeps (s : State) (g) (idx) (cause) (recorded) : Keeps 0x234080204 s (State.noteLoss s g idx cause recorded) := by
  unfold State.noteLoss
  repeat' first
    | with_reducible exact Keeps.rfl'
    | with_reducible assumption
    | (extract_lets +onlyGivenNames x; guard_hyp x : State := _; refine Keeps.letv (x := x) ?_ (fun hx => ?_); (on_goal 1 => (unfold x; clear x)); (on_goal 2 => ((try clear_value x); rename' x => y)))
    | (extract_lets +onlyGivenNames x; rename' x => z)
    | (with_reducible apply Keeps.on (State.raiseIf_keeps ..); on_goal 2 => decide)
    | (with_reducible apply Keeps.on (State.logError_keeps ..); on_goal 2 => decide)

theorem State.loseMap_keeps (s : State) (g) (first) (last) (mask) : Keeps 0x100000 s (State.loseMap s g first last mask) := by
  unfold State.loseMap
  repeat' first
    | with_reducible exact Keeps.rfl'
    | with_reducible assumption
    | (extract_lets +onlyGivenNames x; guard_hyp x : State := _; refine Keeps.letv (x := x) ?_ (fun hx => ?_); (on_goal 1 => (unfold x; clear x)); (on_goal 2 => ((try clear_value x); rename' x => y)))
    | (extract_lets +onlyGivenNames x; rename' x => z)
    | with_reducible refine Keeps.ite (fun hc => ?_) (fun hc => ?_)
    | (with_reducible apply Keeps.on (State.modHub_keeps ..); on_goal 2 => decide)

theorem State.mapLoss_keeps (s : State) (g) (first) (last) (mask) (cause) : Keeps 0x235080204 s (State.mapLoss s g first last mask cause) := by
  unfold State.mapLoss
  repeat' first
    | with_reducible exact Keeps.rfl'
    | with_reducible assumption
    | (extract_lets +onlyGivenNames x; guard_hyp x : State := _; refine Keeps.letv (x := x) ?_ (fun hx => ?_); (on_goal 1 => (unfold x; clear x)); (on_goal 2 => ((try clear_value x); rename' x => y)))
    | (extract_lets +onlyGivenNames x; rename' x => z)
    | with_reducible refine Keeps.ite (fun hc => ?_) (fun hc => ?_)
    | (with_reducible apply Keeps.on (State.noteLoss_keeps ..); on_goal 2 => decide)
    | fail_if_no_progress (with_reducible apply Keeps.on (keeps_spr ..); on_goal 2 => decide)
    | split
    | (clear_value *; split)

theorem State.holdLoss_keeps (s : State) (g) (first) (last) (mask) : Keeps 0x100000 s (State.holdLoss s g first last mask) := by
  unfold State.holdLoss
  repeat' first
    | with_reducible exact Keeps.rfl'
    | with_reducible assumption
    | (extract_lets +onlyGivenNames x; guard_hyp x : State := _; refine Keeps.letv (x := x) ?_ (fun hx => ?_); (on_goal 1 => (unfold x; clear x)); (on_goal 2 => ((try clear_value x); rename' x => y)))
    | (extract_lets +onlyGivenNames x; rename' x => z)
    | with_reducible refine Keeps.ite (fun hc => ?_) (fun hc => ?_)
    | (with_reducible apply Keeps.on (State.modHub_keeps ..); on_goal 2 => decide)

theorem State.endLosses_keeps (s : State) (g) (m) : Keeps 0x100000 s (State.endLosses s g m) := by
  unfold State.endLosses
  repeat' first
    | with_reducible exact Keeps.rfl'
    | with_reducible assumption
    | (extract_lets +onlyGivenNames x; guard_hyp x : State := _; refine Keeps.letv (x := x) ?_ (fun hx => ?_); (on_goal 1 => (unfold x; clear x)); (on_goal 2 => ((try clear_value x); rename' x => y)))
    | (extract_lets +onlyGivenNames x; rename' x => z)
    | (with_reducible apply Keeps.on (State.modHub_keeps ..); on_goal 2 => decide)

theorem State.recordLoss_keeps (s : State) (g) (first) (last) (mask) (cause) : Keeps 0x235180204 s (State.recordLoss s g first last mask cause) := by
  unfold State.recordLoss
  repeat' first
    | with_reducible exact Keeps.rfl'
    | (with_reducible apply Keeps.on (State.holdLoss_keeps ..); on_goal 2 => decide)
    | (with_reducible apply Keeps.on (State.loseMap_keeps ..); on_goal 2 => decide)
    | (with_reducible apply Keeps.on (State.mapLoss_keeps ..); on_goal 2 => decide)

theorem State.recordSplit_keeps (s : State) (g) (base) (part) (both) (l) (at_) : Keeps 0x235180204 s (State.recordSplit s g base part both l at_) := by
  induction l generalizing s at_ with
  | nil => exact Keeps.ite (fun _ => (State.recordLoss_keeps ..).mono (by decide)) fun _ => Keeps.rfl'
  | cons v rest ih =>
    refine (Keeps.on (State.recordLoss_keeps ..) ?_ (by decide)).trans (ih _ _)
    exact Keeps.ite (fun _ => (State.recordLoss_keeps ..).mono (by decide)) fun _ => Keeps.rfl'

theorem State.lossOnFail_keeps (s : State) (g) (m) (start) : Keeps 0x235180204 s (State.lossOnFail s g m start) := by
  unfold State.lossOnFail
  repeat' first
    | with_reducible exact Keeps.rfl'
    | with_reducible assumption
    | (extract_lets +onlyGivenNames x; guard_hyp x : State := _; refine Keeps.letv (x := x) ?_ (fun hx => ?_); (on_goal 1 => (unfold x; clear x)); (on_goal 2 => ((try clear_value x); rename' x => y)))
    | (extract_lets +onlyGivenNames x; rename' x => z)
    | (with_reducible apply Keeps.on (State.recordSplit_keeps ..); on_goal 2 => decide)
    | split
    | (clear_value *; split)

theorem State.noteSpareCount_keeps (s : State) : Keeps 0x1000200 s (State.noteSpareCount s) := by
  unfold State.noteSpareCount
  repeat' first
    | with_reducible exact Keeps.rfl'
    | with_reducible assumption
    | (extract_lets +onlyGivenNames x; guard_hyp x : State := _; refine Keeps.letv (x := x) ?_ (fun hx => ?_); (on_goal 1 => (unfold x; clear x)); (on_goal 2 => ((try clear_value x); rename' x => y)))
    | (extract_lets +onlyGivenNames x; rename' x => z)
    | (with_reducible apply Keeps.on (State.raiseIf_keeps ..); on_goal 2 => decide)
    | fail_if_no_progress (with_reducible apply Keeps.on (keeps_spr ..); on_goal 2 => decide)

theorem State.queueRly_keeps (s : State) (g) (r) : Keeps 0x1000000 s (State.queueRly s g r) := by
  unfold State.queueRly
  repeat' first
    | with_reducible exact Keeps.rfl'
    | with_reducible assumption
    | (extract_lets +onlyGivenNames x; guard_hyp x : State := _; refine Keeps.letv (x := x) ?_ (fun hx => ?_); (on_goal 1 => (unfold x; clear x)); (on_goal 2 => ((try clear_value x); rename' x => y)))
    | (extract_lets +onlyGivenNames x; rename' x => z)
    | fail_if_no_progress (with_reducible apply Keeps.on (keeps_spr ..); on_goal 2 => decide)

theorem State.grantSpare_keeps (s : State) (g) (m) (evac) (c) : Keeps 0x1800200 s (State.grantSpare s g m evac c) := by
  unfold State.grantSpare
  repeat' first
    | with_reducible exact Keeps.rfl'
    | with_reducible assumption
    | (extract_lets +onlyGivenNames x; guard_hyp x : State := _; refine Keeps.letv (x := x) ?_ (fun hx => ?_); (on_goal 1 => (unfold x; clear x)); (on_goal 2 => ((try clear_value x); rename' x => y)))
    | (extract_lets +onlyGivenNames x; rename' x => z)
    | with_reducible refine Keeps.ite (fun hc => ?_) (fun hc => ?_)
    | (with_reducible apply Keeps.on (State.modHealth_keeps ..); on_goal 2 => decide)
    | (with_reducible apply Keeps.on (State.queueRly_keeps ..); on_goal 2 => decide)
    | (with_reducible apply Keeps.on (State.noteSpareCount_keeps ..); on_goal 2 => decide)

theorem State.requestSpare_keeps (s : State) (g) (m) (evac) : Keeps 0x1800200 s (State.requestSpare s g m evac) := by
  unfold State.requestSpare
  repeat' first
    | with_reducible exact Keeps.rfl'
    | with_reducible assumption
    | (extract_lets +onlyGivenNames x; guard_hyp x : State := _; refine Keeps.letv (x := x) ?_ (fun hx => ?_); (on_goal 1 => (unfold x; clear x)); (on_goal 2 => ((try clear_value x); rename' x => y)))
    | (extract_lets +onlyGivenNames x; rename' x => z)
    | with_reducible refine Keeps.ite (fun hc => ?_) (fun hc => ?_)
    | (with_reducible apply Keeps.on (State.grantSpare_keeps ..); on_goal 2 => decide)
    | fail_if_no_progress (with_reducible apply Keeps.on (keeps_spr ..); on_goal 2 => decide)
    | split
    | (clear_value *; split)

theorem State.serveRequests_keeps (s : State) : Keeps 0x1800200 s (State.serveRequests s) := by
  unfold State.serveRequests
  repeat' first
    | with_reducible exact Keeps.rfl'
    | with_reducible assumption
    | (extract_lets +onlyGivenNames x; guard_hyp x : State := _; refine Keeps.letv (x := x) ?_ (fun hx => ?_); (on_goal 1 => (unfold x; clear x)); (on_goal 2 => ((try clear_value x); rename' x => y)))
    | (extract_lets +onlyGivenNames x; rename' x => z)
    | with_reducible refine Keeps.ite (fun hc => ?_) (fun hc => ?_)
    | (with_reducible apply Keeps.on (State.grantSpare_keeps ..); on_goal 2 => decide)
    | fail_if_no_progress (with_reducible apply Keeps.on (keeps_spr ..); on_goal 2 => decide)
    | with_reducible refine Keeps.foldl ?_ (fun s a => ?_)
    | split

theorem State.ownLine_keeps (s : State) (c) : Keeps 0x800000 s (State.ownLine s c) := by
  unfold State.ownLine
  repeat' first
    | with_reducible exact Keeps.rfl'
    | with_reducible assumption
    | (extract_lets +onlyGivenNames x; guard_hyp x : State := _; refine Keeps.letv (x := x) ?_ (fun hx => ?_); (on_goal 1 => (unfold x; clear x)); (on_goal 2 => ((try clear_value x); rename' x => y)))
    | (extract_lets +onlyGivenNames x; rename' x => z)
    | (with_reducible apply Keeps.on (State.modSched_keeps ..); on_goal 2 => decide)

theorem State.freeSlice_keeps (s : State) (c) : Keeps 0x1800200 s (State.freeSlice s c) := by
  unfold State.freeSlice
  repeat' first
    | with_reducible exact Keeps.rfl'
    | with_reducible assumption
    | (extract_lets +onlyGivenNames x; guard_hyp x : State := _; refine Keeps.letv (x := x) ?_ (fun hx => ?_); (on_goal 1 => (unfold x; clear x)); (on_goal 2 => ((try clear_value x); rename' x => y)))
    | (extract_lets +onlyGivenNames x; rename' x => z)
    | (with_reducible apply Keeps.on (State.modHealth_keeps ..); on_goal 2 => decide)
    | (with_reducible apply Keeps.on (State.serveRequests_keeps ..); on_goal 2 => decide)
    | fail_if_no_progress (with_reducible apply Keeps.on (keeps_spr ..); on_goal 2 => decide)

theorem State.feasTrigger_keeps (s : State) : Keeps 0x400000 s (State.feasTrigger s) := by
  unfold State.feasTrigger
  repeat' first
    | with_reducible exact Keeps.rfl'
    | with_reducible assumption
    | (extract_lets +onlyGivenNames x; guard_hyp x : State := _; refine Keeps.letv (x := x) ?_ (fun hx => ?_); (on_goal 1 => (unfold x; clear x)); (on_goal 2 => ((try clear_value x); rename' x => y)))
    | (extract_lets +onlyGivenNames x; rename' x => z)
    | with_reducible refine Keeps.ite (fun hc => ?_) (fun hc => ?_)
    | fail_if_no_progress (with_reducible apply Keeps.on (keeps_shr ..); on_goal 2 => decide)

theorem State.voidGuarantees_keeps (s : State) (pick) : Keeps 0x10000 s (State.voidGuarantees s pick) := by
  unfold State.voidGuarantees
  repeat' first
    | with_reducible exact Keeps.rfl'
    | with_reducible assumption
    | (extract_lets +onlyGivenNames x; guard_hyp x : State := _; refine Keeps.letv (x := x) ?_ (fun hx => ?_); (on_goal 1 => (unfold x; clear x)); (on_goal 2 => ((try clear_value x); rename' x => y)))
    | (extract_lets +onlyGivenNames x; rename' x => z)
    | with_reducible refine Keeps.ite (fun hc => ?_) (fun hc => ?_)
    | (with_reducible apply Keeps.on (keeps_reqs _ _ ?q ?r); (case q => with_unfolding_all exact reqsOk_map (fun r => by split <;> rfl)); (case r => with_unfolding_all exact map_key (fun r => by split <;> rfl)); on_goal 2 => decide)
    | fail_if_no_progress (with_reducible apply Keeps.on (keeps_reqsAll _ _ ?q); (case q => first | exact reqsOk_filter _ | exact reqsOk_map (fun r => by split <;> exact ⟨rfl, rfl, rfl⟩) | exact fun _ => reqsOk_nil); on_goal 2 => decide)

theorem State.detectCut_keeps (s : State) (hubs) : Keeps 0x410000 s (State.detectCut s hubs) := by
  unfold State.detectCut
  repeat' first
    | with_reducible exact Keeps.rfl'
    | with_reducible assumption
    | (extract_lets +onlyGivenNames x; guard_hyp x : State := _; refine Keeps.letv (x := x) ?_ (fun hx => ?_); (on_goal 1 => (unfold x; clear x)); (on_goal 2 => ((try clear_value x); rename' x => y)))
    | (extract_lets +onlyGivenNames x; rename' x => z)
    | with_reducible refine Keeps.ite (fun hc => ?_) (fun hc => ?_)
    | (with_reducible apply Keeps.on (State.feasTrigger_keeps ..); on_goal 2 => decide)
    | (with_reducible apply Keeps.on (State.voidGuarantees_keeps ..); on_goal 2 => decide)
    | fail_if_no_progress (with_reducible apply Keeps.on (keeps_shr ..); on_goal 2 => decide)

theorem State.dropQueued_keeps (s : State) (g) (m) : Keeps 0x1000000 s (State.dropQueued s g m) := by
  unfold State.dropQueued
  repeat' first
    | with_reducible exact Keeps.rfl'
    | with_reducible assumption
    | (extract_lets +onlyGivenNames x; guard_hyp x : State := _; refine Keeps.letv (x := x) ?_ (fun hx => ?_); (on_goal 1 => (unfold x; clear x)); (on_goal 2 => ((try clear_value x); rename' x => y)))
    | (extract_lets +onlyGivenNames x; rename' x => z)
    | fail_if_no_progress (with_reducible apply Keeps.on (keeps_spr ..); on_goal 2 => decide)

theorem State.queuedToRebuild_keeps (s : State) (g) (m) : Keeps 0x1000000 s (State.queuedToRebuild s g m) := by
  unfold State.queuedToRebuild
  repeat' first
    | with_reducible exact Keeps.rfl'
    | with_reducible assumption
    | (extract_lets +onlyGivenNames x; guard_hyp x : State := _; refine Keeps.letv (x := x) ?_ (fun hx => ?_); (on_goal 1 => (unfold x; clear x)); (on_goal 2 => ((try clear_value x); rename' x => y)))
    | (extract_lets +onlyGivenNames x; rename' x => z)
    | with_reducible refine Keeps.ite (fun hc => ?_) (fun hc => ?_)
    | fail_if_no_progress (with_reducible apply Keeps.on (keeps_spr ..); on_goal 2 => decide)

theorem State.memberAbsent_keeps (s : State) (g) (m) (retrain) : Keeps 0x235980204 s (State.memberAbsent s g m retrain) := by
  unfold State.memberAbsent
  repeat' first
    | with_reducible exact Keeps.rfl'
    | with_reducible assumption
    | (extract_lets +onlyGivenNames x; guard_hyp x : State := _; refine Keeps.letv (x := x) ?_ (fun hx => ?_); (on_goal 1 => (unfold x; clear x)); (on_goal 2 => ((try clear_value x); rename' x => y)))
    | (extract_lets +onlyGivenNames x; rename' x => z)
    | with_reducible refine Keeps.ite (fun hc => ?_) (fun hc => ?_)
    | (with_reducible apply Keeps.on (State.lossOnFail_keeps ..); on_goal 2 => decide)
    | (with_reducible apply Keeps.on (State.setMember_keeps ..); on_goal 2 => decide)
    | (with_reducible apply Keeps.on (State.stageRoute_keeps ..); on_goal 2 => decide)
    | (with_reducible apply Keeps.on (State.modHub_keeps ..); on_goal 2 => decide)
    | (with_reducible apply Keeps.on (State.freeSlice_keeps ..); on_goal 2 => decide)
    | (with_reducible apply Keeps.on (State.ownLine_keeps ..); on_goal 2 => decide)
    | (with_reducible apply Keeps.on (State.dropQueued_keeps ..); on_goal 2 => decide)
    | (with_reducible apply Keeps.on (State.queuedToRebuild_keeps ..); on_goal 2 => decide)
    | (with_reducible apply Keeps.on (State.requestSpare_keeps ..); on_goal 2 => decide)
    | fail_if_no_progress (with_reducible apply Keeps.on (keeps_spr ..); on_goal 2 => decide)
    | with_reducible refine Keeps.foldl ?_ (fun s a => ?_)

theorem State.memberFails_keeps (s : State) (g) (m) (c) (retrain) : Keeps 0x235980204 s (State.memberFails s g m c retrain) := by
  unfold State.memberFails
  repeat' first
    | with_reducible exact Keeps.rfl'
    | with_reducible assumption
    | (extract_lets +onlyGivenNames x; guard_hyp x : State := _; refine Keeps.letv (x := x) ?_ (fun hx => ?_); (on_goal 1 => (unfold x; clear x)); (on_goal 2 => ((try clear_value x); rename' x => y)))
    | (extract_lets +onlyGivenNames x; rename' x => z)
    | with_reducible refine Keeps.ite (fun hc => ?_) (fun hc => ?_)
    | (with_reducible apply Keeps.on (State.memberAbsent_keeps ..); on_goal 2 => decide)
    | (with_reducible apply Keeps.on (State.modHub_keeps ..); on_goal 2 => decide)
    | (with_reducible apply Keeps.on (State.setRly_keeps ..); on_goal 2 => decide)
    | (with_reducible apply Keeps.on (State.setMember_keeps ..); on_goal 2 => decide)
    | (with_reducible apply Keeps.on (State.stageRoute_keeps ..); on_goal 2 => decide)
    | (with_reducible apply Keeps.on (State.requestSpare_keeps ..); on_goal 2 => decide)
    | (with_reducible apply Keeps.on (State.modHealth_keeps ..); on_goal 2 => decide)
    | (with_reducible apply Keeps.on (State.lossOnFail_keeps ..); on_goal 2 => decide)
    | (with_reducible apply Keeps.on (State.dropQueued_keeps ..); on_goal 2 => decide)
    | split
    | (clear_value *; split)

theorem State.declareFailed_keeps (s : State) (c) (cause) : Keeps 0x235f90214 s (State.declareFailed s c cause) := by
  unfold State.declareFailed
  repeat' first
    | with_reducible exact Keeps.rfl'
    | with_reducible assumption
    | (extract_lets +onlyGivenNames x; guard_hyp x : State := _; refine Keeps.letv (x := x) ?_ (fun hx => ?_); (on_goal 1 => (unfold x; clear x)); (on_goal 2 => ((try clear_value x); rename' x => y)))
    | (extract_lets +onlyGivenNames x; rename' x => z)
    | with_reducible refine Keeps.ite (fun hc => ?_) (fun hc => ?_)
    | (with_reducible apply Keeps.on (State.modHealth_keeps ..); on_goal 2 => decide)
    | (with_reducible apply Keeps.on (State.raise_keeps ..); on_goal 2 => decide)
    | (with_reducible apply Keeps.on (State.logError_keeps ..); on_goal 2 => decide)
    | (with_reducible apply Keeps.on (State.setFence_keeps ..); on_goal 2 => decide)
    | (with_reducible apply Keeps.on (State.memberFails_keeps ..); on_goal 2 => decide)
    | (with_reducible apply Keeps.on (State.noteSpareCount_keeps ..); on_goal 2 => decide)
    | (with_reducible apply Keeps.on (State.detectCut_keeps ..); on_goal 2 => decide)
    | (with_reducible apply Keeps.on (State.followMembers_keeps ..); on_goal 2 => decide)
    | fail_if_no_progress (with_reducible apply Keeps.on (keeps_spr ..); on_goal 2 => decide)
    | split
    | (clear_value *; split)

theorem State.requestEvac_keeps (s : State) (g) (m) : Keeps 0x1800200 s (State.requestEvac s g m) := by
  unfold State.requestEvac
  repeat' first
    | with_reducible exact Keeps.rfl'
    | with_reducible refine Keeps.ite (fun hc => ?_) (fun hc => ?_)
    | (with_reducible apply Keeps.on (State.requestSpare_keeps ..); on_goal 2 => decide)

theorem State.actOnLevel_keeps (s : State) (c) : Keeps 0x235f90214 s (State.actOnLevel s c) := by
  unfold State.actOnLevel
  repeat' first
    | with_reducible exact Keeps.rfl'
    | with_reducible assumption
    | (extract_lets +onlyGivenNames x; guard_hyp x : State := _; refine Keeps.letv (x := x) ?_ (fun hx => ?_); (on_goal 1 => (unfold x; clear x)); (on_goal 2 => ((try clear_value x); rename' x => y)))
    | (extract_lets +onlyGivenNames x; rename' x => z)
    | with_reducible refine Keeps.ite (fun hc => ?_) (fun hc => ?_)
    | (with_reducible apply Keeps.on (State.declareFailed_keeps ..); on_goal 2 => decide)
    | (with_reducible apply Keeps.on (State.requestEvac_keeps ..); on_goal 2 => decide)
    | split
    | (clear_value *; split)

theorem State.recheckLevels_keeps (s : State) (g) : Keeps 0x235f90214 s (State.recheckLevels s g) := by
  unfold State.recheckLevels
  repeat' first
    | with_reducible exact Keeps.rfl'
    | with_reducible assumption
    | (with_reducible apply Keeps.on (State.actOnLevel_keeps ..); on_goal 2 => decide)
    | with_reducible refine Keeps.foldl ?_ (fun s a => ?_)

theorem State.countMismatch_keeps (s : State) (c) : Keeps 0x235f90214 s (State.countMismatch s c) := by
  unfold State.countMismatch
  repeat' first
    | with_reducible exact Keeps.rfl'
    | with_reducible assumption
    | (extract_lets +onlyGivenNames x; guard_hyp x : State := _; refine Keeps.letv (x := x) ?_ (fun hx => ?_); (on_goal 1 => (unfold x; clear x)); (on_goal 2 => ((try clear_value x); rename' x => y)))
    | (extract_lets +onlyGivenNames x; rename' x => z)
    | (with_reducible apply Keeps.on (State.modHealth_keeps ..); on_goal 2 => decide)
    | (with_reducible apply Keeps.on (State.actOnLevel_keeps ..); on_goal 2 => decide)
    | split
    | (clear_value *; split)

theorem State.quarantine_keeps (s : State) (c) : Keeps 0x800200 s (State.quarantine s c) := by
  unfold State.quarantine
  repeat' first
    | with_reducible exact Keeps.rfl'
    | with_reducible assumption
    | (extract_lets +onlyGivenNames x; guard_hyp x : State := _; refine Keeps.letv (x := x) ?_ (fun hx => ?_); (on_goal 1 => (unfold x; clear x)); (on_goal 2 => ((try clear_value x); rename' x => y)))
    | (extract_lets +onlyGivenNames x; rename' x => z)
    | with_reducible refine Keeps.ite (fun hc => ?_) (fun hc => ?_)
    | (with_reducible apply Keeps.on (State.raise_keeps ..); on_goal 2 => decide)
    | (with_reducible apply Keeps.on (State.ownLine_keeps ..); on_goal 2 => decide)
    | (with_reducible apply Keeps.on (State.modHealth_keeps ..); on_goal 2 => decide)

end Sys2Proof.Machine
end

