-- ==== Sys2Proof/Laws/KeepsLedger.lean ====
section
/-!
SUPPORT. One lemma per operation of Machine/LedgerOps.lean: the parts it may change, and that it keeps the invariant.
-/
set_option linter.all false
namespace Sys2Proof.Machine
set_option Elab.async false

theorem bumpHalf_tableBad (l : Ledger) (h uc) : (bumpHalf l h uc).tableBad = l.tableBad := by
  unfold bumpHalf; repeat' split
  all_goals rfl

theorem State.modReq_keeps (s : State) (rid) (f) (hf : ∀ r, (f r).key = r.key) :
    Keeps 0x10000 s (s.modReq rid f) :=
  keeps_reqs s _ (reqsOk_map fun r => by split <;> [exact hf r; rfl]) (map_key fun r => by split <;> [exact hf r; rfl])

theorem State.mapReqs_keeps (s : State) (f) (hf : ∀ r, (f r).key = r.key) :
    Keeps 0x10000 s (s.mapReqs f) :=
  keeps_reqs s _ (reqsOk_map hf) (map_key hf)

theorem State.flagReq_keeps (s : State) (rid) (bit) : Keeps 0x10000 s (State.flagReq s rid bit) := by
  unfold State.flagReq
  repeat' first
    | with_reducible exact Keeps.rfl'
    | with_reducible assumption
    | (extract_lets +onlyGivenNames x; guard_hyp x : State := _; refine Keeps.letv (x := x) ?_ (fun hx => ?_); (on_goal 1 => (unfold x; clear x)); (on_goal 2 => ((try clear_value x); rename' x => y)))
    | (extract_lets +onlyGivenNames x; rename' x => z)
    | (with_reducible apply Keeps.on (State.modReq_keeps _ _ _ ?q); (case q => with_unfolding_all exact fun r => rfl); on_goal 2 => decide)

theorem State.dropReq_keeps (s : State) (rid) : Keeps 0x20000010000 s (State.dropReq s rid) := by
  unfold State.dropReq
  repeat' first
    | with_reducible exact Keeps.rfl'
    | with_reducible assumption
    | (extract_lets +onlyGivenNames x; guard_hyp x : State := _; refine Keeps.letv (x := x) ?_ (fun hx => ?_); (on_goal 1 => (unfold x; clear x)); (on_goal 2 => ((try clear_value x); rename' x => y)))
    | (extract_lets +onlyGivenNames x; rename' x => z)
    | fail_if_no_progress (with_reducible apply Keeps.on (keeps_reqsAll _ _ ?q); (case q => first | exact reqsOk_filter _ | exact reqsOk_map (fun r => by split <;> exact ⟨rfl, rfl, rfl⟩) | exact fun _ => reqsOk_nil); on_goal 2 => decide)

theorem State.finishReq_keeps (s : State) (rid) (code) : Keeps 0x10000 s (State.finishReq s rid code) := by
  unfold State.finishReq
  repeat' first
    | with_reducible exact Keeps.rfl'
    | with_reducible assumption
    | (extract_lets +onlyGivenNames x; guard_hyp x : State := _; refine Keeps.letv (x := x) ?_ (fun hx => ?_); (on_goal 1 => (unfold x; clear x)); (on_goal 2 => ((try clear_value x); rename' x => y)))
    | (extract_lets +onlyGivenNames x; rename' x => z)
    | with_reducible refine Keeps.ite (fun hc => ?_) (fun hc => ?_)
    | (with_reducible apply Keeps.on (State.modReq_keeps _ _ _ ?q); (case q => with_unfolding_all exact fun r => rfl); on_goal 2 => decide)

theorem State.setRawEntry_keeps (s : State) (i) (v) : Keeps 0x40000 s (State.setRawEntry s i v) := by
  unfold State.setRawEntry
  repeat' first
    | with_reducible exact Keeps.rfl'
    | with_reducible assumption
    | (extract_lets +onlyGivenNames x; guard_hyp x : State := _; refine Keeps.letv (x := x) ?_ (fun hx => ?_); (on_goal 1 => (unfold x; clear x)); (on_goal 2 => ((try clear_value x); rename' x => y)))
    | (extract_lets +onlyGivenNames x; rename' x => z)
    | with_reducible refine Keeps.ite (fun hc => ?_) (fun hc => ?_)
    | fail_if_no_progress (with_reducible apply Keeps.on (keeps_ledgerTable ..); on_goal 2 => decide)
    | fail_if_no_progress (with_reducible apply Keeps.on (keeps_ledger _ _ ?q); (case q => exact rfl); on_goal 2 => decide)
    | fail_if_no_progress (with_reducible apply Keeps.on (keeps_ledgerAll ..); on_goal 2 => decide)

theorem State.setEntry_keeps (s : State) (i) (e) : Keeps 0x40000 s (State.setEntry s i e) := by
  unfold State.setEntry
  repeat' first
    | with_reducible exact Keeps.rfl'
    | (with_reducible apply Keeps.on (State.setRawEntry_keeps ..); on_goal 2 => decide)

theorem State.setGroup_keeps (s : State) (gid) (x) : Keeps 0x40000 s (State.setGroup s gid x) := by
  unfold State.setGroup
  repeat' first
    | with_reducible exact Keeps.rfl'
    | with_reducible assumption
    | (extract_lets +onlyGivenNames x; guard_hyp x : State := _; refine Keeps.letv (x := x) ?_ (fun hx => ?_); (on_goal 1 => (unfold x; clear x)); (on_goal 2 => ((try clear_value x); rename' x => y)))
    | (extract_lets +onlyGivenNames x; rename' x => z)
    | with_reducible refine Keeps.ite (fun hc => ?_) (fun hc => ?_)
    | fail_if_no_progress (with_reducible apply Keeps.on (keeps_ledgerTable ..); on_goal 2 => decide)
    | fail_if_no_progress (with_reducible apply Keeps.on (keeps_ledger _ _ ?q); (case q => exact rfl); on_goal 2 => decide)
    | fail_if_no_progress (with_reducible apply Keeps.on (keeps_ledgerAll ..); on_goal 2 => decide)

theorem State.groupLosesEntry_keeps (s : State) (gid) : Keeps 0x40000 s (State.groupLosesEntry s gid) := by
  unfold State.groupLosesEntry
  repeat' first
    | with_reducible exact Keeps.rfl'
    | with_reducible assumption
    | (extract_lets +onlyGivenNames x; guard_hyp x : State := _; refine Keeps.letv (x := x) ?_ (fun hx => ?_); (on_goal 1 => (unfold x; clear x)); (on_goal 2 => ((try clear_value x); rename' x => y)))
    | (extract_lets +onlyGivenNames x; rename' x => z)
    | (with_reducible apply Keeps.on (State.setGroup_keeps ..); on_goal 2 => decide)

theorem State.freeSolo_keeps (s : State) (slot) : Keeps 0x40000 s (State.freeSolo s slot) := by
  unfold State.freeSolo
  repeat' first
    | with_reducible exact Keeps.rfl'
    | with_reducible assumption
    | (extract_lets +onlyGivenNames x; guard_hyp x : State := _; refine Keeps.letv (x := x) ?_ (fun hx => ?_); (on_goal 1 => (unfold x; clear x)); (on_goal 2 => ((try clear_value x); rename' x => y)))
    | (extract_lets +onlyGivenNames x; rename' x => z)
    | fail_if_no_progress (with_reducible apply Keeps.on (keeps_ledgerTable ..); on_goal 2 => decide)
    | fail_if_no_progress (with_reducible apply Keeps.on (keeps_ledger _ _ ?q); (case q => exact rfl); on_goal 2 => decide)
    | fail_if_no_progress (with_reducible apply Keeps.on (keeps_ledgerAll ..); on_goal 2 => decide)

theorem State.rollSolo_keeps (s : State) (slot) (x) : Keeps 0x40000 s (State.rollSolo s slot x) := by
  unfold State.rollSolo
  repeat' first
    | with_reducible exact Keeps.rfl'
    | with_reducible assumption
    | (extract_lets +onlyGivenNames x; guard_hyp x : State := _; refine Keeps.letv (x := x) ?_ (fun hx => ?_); (on_goal 1 => (unfold x; clear x)); (on_goal 2 => ((try clear_value x); rename' x => y)))
    | (extract_lets +onlyGivenNames x; rename' x => z)
    | with_reducible refine Keeps.ite (fun hc => ?_) (fun hc => ?_)
    | (with_reducible apply Keeps.on (State.setEntry_keeps ..); on_goal 2 => decide)
    | (with_reducible apply Keeps.on (State.freeSolo_keeps ..); on_goal 2 => decide)

theorem State.poisonEntry_keeps (s : State) (i) : Keeps 0x2340c0204 s (State.poisonEntry s i) := by
  unfold State.poisonEntry
  repeat' first
    | with_reducible exact Keeps.rfl'
    | with_reducible assumption
    | (extract_lets +onlyGivenNames x; guard_hyp x : State := _; refine Keeps.letv (x := x) ?_ (fun hx => ?_); (on_goal 1 => (unfold x; clear x)); (on_goal 2 => ((try clear_value x); rename' x => y)))
    | (extract_lets +onlyGivenNames x; rename' x => z)
    | with_reducible refine Keeps.ite (fun hc => ?_) (fun hc => ?_)
    | fail_if_no_progress (with_reducible apply Keeps.on (keeps_ledger _ _ ?q); (case q => exact bumpHalf_tableBad _ _ _); on_goal 2 => decide)
    | (with_reducible apply Keeps.on (State.setEntry_keeps ..); on_goal 2 => decide)
    | (with_reducible apply Keeps.on (State.groupLosesEntry_keeps ..); on_goal 2 => decide)
    | (with_reducible apply Keeps.on (State.freeSolo_keeps ..); on_goal 2 => decide)
    | (with_reducible apply Keeps.on (State.raise_keeps ..); on_goal 2 => decide)
    | (with_reducible apply Keeps.on (State.logError_keeps ..); on_goal 2 => decide)
    | fail_if_no_progress (with_reducible apply Keeps.on (keeps_ledgerTable ..); on_goal 2 => decide)
    | fail_if_no_progress (with_reducible apply Keeps.on (keeps_ledger _ _ ?q); (case q => exact rfl); on_goal 2 => decide)
    | fail_if_no_progress (with_reducible apply Keeps.on (keeps_ledgerAll ..); on_goal 2 => decide)
    | split
    | (clear_value *; split)

theorem State.readEntry_keeps (s : State) (i) (ecc) : Keeps 0x2340c0204 s (State.readEntry s i ecc) := by
  unfold State.readEntry
  repeat' first
    | with_reducible exact Keeps.rfl'
    | with_reducible assumption
    | (extract_lets +onlyGivenNames x; guard_hyp x : State := _; refine Keeps.letv (x := x) ?_ (fun hx => ?_); (on_goal 1 => (unfold x; clear x)); (on_goal 2 => ((try clear_value x); rename' x => y)))
    | (extract_lets +onlyGivenNames x; rename' x => z)
    | fail_if_no_progress (with_reducible apply Keeps.on (keeps_ledger _ _ ?q); (case q => exact bumpHalf_tableBad _ _ _); on_goal 2 => decide)
    | (with_reducible apply Keeps.on (State.setRawEntry_keeps ..); on_goal 2 => decide)
    | (with_reducible apply Keeps.on (State.logError_keeps ..); on_goal 2 => decide)
    | (with_reducible apply Keeps.on (State.poisonEntry_keeps ..); on_goal 2 => decide)
    | fail_if_no_progress (with_reducible apply Keeps.on (keeps_ledgerTable ..); on_goal 2 => decide)
    | fail_if_no_progress (with_reducible apply Keeps.on (keeps_ledger _ _ ?q); (case q => exact rfl); on_goal 2 => decide)
    | fail_if_no_progress (with_reducible apply Keeps.on (keeps_ledgerAll ..); on_goal 2 => decide)
    | split
    | (clear_value *; split)

theorem State.tableError_keeps (s : State) (solo) (k) : Keeps 0x234080204 s (State.tableError s solo k) := by
  unfold State.tableError
  repeat' first
    | with_reducible exact Keeps.rfl'
    | with_reducible refine Keeps.ite (fun hc => ?_) (fun hc => ?_)
    | (with_reducible apply Keeps.on (State.logError_keeps ..); on_goal 2 => decide)

theorem State.claim_keeps (s : State) (rid) (gv) (gid) (i) (units) : Keeps 0x50000 s (State.claim s rid gv gid i units) := by
  unfold State.claim
  repeat' first
    | with_reducible exact Keeps.rfl'
    | with_reducible assumption
    | (extract_lets +onlyGivenNames x; guard_hyp x : State := _; refine Keeps.letv (x := x) ?_ (fun hx => ?_); (on_goal 1 => (unfold x; clear x)); (on_goal 2 => ((try clear_value x); rename' x => y)))
    | (extract_lets +onlyGivenNames x; rename' x => z)
    | with_reducible refine Keeps.ite (fun hc => ?_) (fun hc => ?_)
    | (with_reducible apply Keeps.on (State.setGroup_keeps ..); on_goal 2 => decide)
    | (with_reducible apply Keeps.on (State.setEntry_keeps ..); on_goal 2 => decide)
    | (with_reducible apply Keeps.on (State.modReq_keeps _ _ _ ?q); (case q => with_unfolding_all exact fun r => rfl); on_goal 2 => decide)
    | fail_if_no_progress (with_reducible apply Keeps.on (keeps_ledgerTable ..); on_goal 2 => decide)
    | fail_if_no_progress (with_reducible apply Keeps.on (keeps_ledger _ _ ?q); (case q => exact rfl); on_goal 2 => decide)
    | fail_if_no_progress (with_reducible apply Keeps.on (keeps_ledgerAll ..); on_goal 2 => decide)
    | split
    | (clear_value *; split)

theorem State.ledgerFull_keeps (s : State) (rid) (exhaust) : Keeps 0x50200 s (State.ledgerFull s rid exhaust) := by
  unfold State.ledgerFull
  repeat' first
    | with_reducible exact Keeps.rfl'
    | with_reducible assumption
    | (extract_lets +onlyGivenNames x; guard_hyp x : State := _; refine Keeps.letv (x := x) ?_ (fun hx => ?_); (on_goal 1 => (unfold x; clear x)); (on_goal 2 => ((try clear_value x); rename' x => y)))
    | (extract_lets +onlyGivenNames x; rename' x => z)
    | (with_reducible apply Keeps.on (State.finishReq_keeps ..); on_goal 2 => decide)
    | (with_reducible apply Keeps.on (State.raiseIf_keeps ..); on_goal 2 => decide)
    | fail_if_no_progress (with_reducible apply Keeps.on (keeps_ledgerTable ..); on_goal 2 => decide)
    | fail_if_no_progress (with_reducible apply Keeps.on (keeps_ledger _ _ ?q); (case q => exact rfl); on_goal 2 => decide)
    | fail_if_no_progress (with_reducible apply Keeps.on (keeps_ledgerAll ..); on_goal 2 => decide)

theorem State.ledgerConflict_keeps (s : State) (rid) : Keeps 0x400050200 s (State.ledgerConflict s rid) := by
  unfold State.ledgerConflict
  repeat' first
    | with_reducible exact Keeps.rfl'
    | with_reducible assumption
    | (extract_lets +onlyGivenNames x; guard_hyp x : State := _; refine Keeps.letv (x := x) ?_ (fun hx => ?_); (on_goal 1 => (unfold x; clear x)); (on_goal 2 => ((try clear_value x); rename' x => y)))
    | (extract_lets +onlyGivenNames x; rename' x => z)
    | (with_reducible apply Keeps.on (State.finishReq_keeps ..); on_goal 2 => decide)
    | (with_reducible apply Keeps.on (State.telSys_keeps ..); on_goal 2 => decide)
    | fail_if_no_progress (with_reducible apply Keeps.on (keeps_ledgerTable ..); on_goal 2 => decide)
    | fail_if_no_progress (with_reducible apply Keeps.on (keeps_ledger _ _ ?q); (case q => exact rfl); on_goal 2 => decide)
    | fail_if_no_progress (with_reducible apply Keeps.on (keeps_ledgerAll ..); on_goal 2 => decide)

theorem State.waitLedger_keeps (s : State) (rid) : Keeps 0x10008 s (State.waitLedger s rid) := by
  unfold State.waitLedger
  exact Keeps.on (State.modReq_keeps _ _ _ fun r => rfl) (Keeps.on (keeps_ids s _ (Nat.le_succ s.ids)) Keeps.rfl' (by decide)) (by decide)

theorem State.askDemand_keeps (s : State) (rid) (i) : Keeps 0x50208 s (State.askDemand s rid i) := by
  unfold State.askDemand
  repeat' first
    | with_reducible exact Keeps.rfl'
    | with_reducible assumption
    | (extract_lets +onlyGivenNames x; guard_hyp x : State := _; refine Keeps.letv (x := x) ?_ (fun hx => ?_); (on_goal 1 => (unfold x; clear x)); (on_goal 2 => ((try clear_value x); rename' x => y)))
    | (extract_lets +onlyGivenNames x; rename' x => z)
    | with_reducible refine Keeps.ite (fun hc => ?_) (fun hc => ?_)
    | (with_reducible apply Keeps.on (State.flagReq_keeps ..); on_goal 2 => decide)
    | (with_reducible apply Keeps.on (State.waitLedger_keeps ..); on_goal 2 => decide)
    | (with_reducible apply Keeps.on (State.ledgerFull_keeps ..); on_goal 2 => decide)
    | fail_if_no_progress (with_reducible apply Keeps.on (keeps_ledgerTable ..); on_goal 2 => decide)
    | fail_if_no_progress (with_reducible apply Keeps.on (keeps_ledger _ _ ?q); (case q => exact rfl); on_goal 2 => decide)
    | fail_if_no_progress (with_reducible apply Keeps.on (keeps_ledgerAll ..); on_goal 2 => decide)

theorem State.placeReq_keeps (s : State) (rid) (ops) (p) : Keeps 0x10000 s (State.placeReq s rid ops p) := by
  unfold State.placeReq
  repeat' first
    | with_reducible exact Keeps.rfl'
    | with_reducible assumption
    | (extract_lets +onlyGivenNames x; guard_hyp x : State := _; refine Keeps.letv (x := x) ?_ (fun hx => ?_); (on_goal 1 => (unfold x; clear x)); (on_goal 2 => ((try clear_value x); rename' x => y)))
    | (extract_lets +onlyGivenNames x; rename' x => z)
    | (with_reducible apply Keeps.on (State.finishReq_keeps ..); on_goal 2 => decide)
    | (with_reducible apply Keeps.on (State.modReq_keeps _ _ _ ?q); (case q => with_unfolding_all exact fun r => rfl); on_goal 2 => decide)
    | split

theorem State.arriveHub_keeps (s : State) (rid) (ops) : Keeps 0x10000 s (State.arriveHub s rid ops) := by
  unfold State.arriveHub
  repeat' first
    | with_reducible exact Keeps.rfl'
    | with_reducible assumption
    | (extract_lets +onlyGivenNames x; guard_hyp x : State := _; refine Keeps.letv (x := x) ?_ (fun hx => ?_); (on_goal 1 => (unfold x; clear x)); (on_goal 2 => ((try clear_value x); rename' x => y)))
    | (extract_lets +onlyGivenNames x; rename' x => z)
    | (with_reducible apply Keeps.on (State.finishReq_keeps ..); on_goal 2 => decide)
    | (with_reducible apply Keeps.on (State.placeReq_keeps ..); on_goal 2 => decide)
    | split

theorem State.decidedWrite_keeps (s : State) (rid) (r) (cl) : Keeps 0x50000 s (State.decidedWrite s rid r cl) := by
  unfold State.decidedWrite
  repeat' first
    | with_reducible exact Keeps.rfl'
    | with_reducible assumption
    | (extract_lets +onlyGivenNames x; guard_hyp x : State := _; refine Keeps.letv (x := x) ?_ (fun hx => ?_); (on_goal 1 => (unfold x; clear x)); (on_goal 2 => ((try clear_value x); rename' x => y)))
    | (extract_lets +onlyGivenNames x; rename' x => z)
    | with_reducible refine Keeps.ite (fun hc => ?_) (fun hc => ?_)
    | (with_reducible apply Keeps.on (State.claim_keeps ..); on_goal 2 => decide)
    | (with_reducible apply Keeps.on (State.setGroup_keeps ..); on_goal 2 => decide)
    | (with_reducible apply Keeps.on (State.modReq_keeps _ _ _ ?q); (case q => with_unfolding_all exact fun r => rfl); on_goal 2 => decide)
    | (with_reducible apply Keeps.on (State.arriveHub_keeps ..); on_goal 2 => decide)
    | fail_if_no_progress (with_reducible apply Keeps.on (keeps_ledgerTable ..); on_goal 2 => decide)
    | fail_if_no_progress (with_reducible apply Keeps.on (keeps_ledger _ _ ?q); (case q => exact rfl); on_goal 2 => decide)
    | fail_if_no_progress (with_reducible apply Keeps.on (keeps_ledgerAll ..); on_goal 2 => decide)
    | with_reducible refine Keeps.foldl ?_ (fun s a => ?_)

theorem State.decideWrite_keeps (s : State) (rid) (r) : Keeps 0x400050208 s (State.decideWrite s rid r) := by
  unfold State.decideWrite
  repeat' first
    | with_reducible exact Keeps.rfl'
    | with_reducible assumption
    | (extract_lets +onlyGivenNames x; guard_hyp x : State := _; refine Keeps.letv (x := x) ?_ (fun hx => ?_); (on_goal 1 => (unfold x; clear x)); (on_goal 2 => ((try clear_value x); rename' x => y)))
    | (extract_lets +onlyGivenNames x; rename' x => z)
    | with_reducible refine Keeps.ite (fun hc => ?_) (fun hc => ?_)
    | (with_reducible apply Keeps.on (State.finishReq_keeps ..); on_goal 2 => decide)
    | (with_reducible apply Keeps.on (State.ledgerConflict_keeps ..); on_goal 2 => decide)
    | (with_reducible apply Keeps.on (State.ledgerFull_keeps ..); on_goal 2 => decide)
    | (with_reducible apply Keeps.on (State.askDemand_keeps ..); on_goal 2 => decide)
    | (with_reducible apply Keeps.on (State.waitLedger_keeps ..); on_goal 2 => decide)
    | (with_reducible apply Keeps.on (State.decidedWrite_keeps ..); on_goal 2 => decide)
    | split
    | (clear_value *; split)

theorem State.readPoisoned_keeps (s : State) (rid) (r) : Keeps 0x10000 s (State.readPoisoned s rid r) := by
  unfold State.readPoisoned
  repeat' first
    | with_reducible exact Keeps.rfl'
    | with_reducible assumption
    | (extract_lets +onlyGivenNames x; guard_hyp x : State := _; refine Keeps.letv (x := x) ?_ (fun hx => ?_); (on_goal 1 => (unfold x; clear x)); (on_goal 2 => ((try clear_value x); rename' x => y)))
    | (extract_lets +onlyGivenNames x; rename' x => z)
    | with_reducible refine Keeps.ite (fun hc => ?_) (fun hc => ?_)
    | (with_reducible apply Keeps.on (State.modReq_keeps _ _ _ ?q); (case q => with_unfolding_all exact fun r => rfl); on_goal 2 => decide)
    | (with_reducible apply Keeps.on (State.finishReq_keeps ..); on_goal 2 => decide)
    | (with_reducible apply Keeps.on (State.placeReq_keeps ..); on_goal 2 => decide)
    | split
    | (clear_value *; split)

theorem State.resolveRead_keeps (s : State) (rid) (r) : Keeps 0x10008 s (State.resolveRead s rid r) := by
  unfold State.resolveRead
  repeat' first
    | with_reducible exact Keeps.rfl'
    | with_reducible assumption
    | (extract_lets +onlyGivenNames x; guard_hyp x : State := _; refine Keeps.letv (x := x) ?_ (fun hx => ?_); (on_goal 1 => (unfold x; clear x)); (on_goal 2 => ((try clear_value x); rename' x => y)))
    | (extract_lets +onlyGivenNames x; rename' x => z)
    | with_reducible refine Keeps.ite (fun hc => ?_) (fun hc => ?_)
    | (with_reducible apply Keeps.on (State.modReq_keeps _ _ _ ?q); (case q => with_unfolding_all exact fun r => rfl); on_goal 2 => decide)
    | (with_reducible apply Keeps.on (State.waitLedger_keeps ..); on_goal 2 => decide)
    | (with_reducible apply Keeps.on (State.flagReq_keeps ..); on_goal 2 => decide)
    | (with_reducible apply Keeps.on (State.readPoisoned_keeps ..); on_goal 2 => decide)
    | (with_reducible apply Keeps.on (State.arriveHub_keeps ..); on_goal 2 => decide)

theorem State.checkEntries_keeps (s : State) (r) (ecc) : Keeps 0x2340c0204 s (State.checkEntries s r ecc) := by
  unfold State.checkEntries
  repeat' first
    | with_reducible exact Keeps.rfl'
    | with_reducible assumption
    | with_reducible refine Keeps.ite (fun hc => ?_) (fun hc => ?_)
    | (with_reducible apply Keeps.on (State.readEntry_keeps ..); on_goal 2 => decide)
    | with_reducible refine Keeps.foldl ?_ (fun s a => ?_)

theorem State.recordError_keeps (s : State) (rid) (solo) (k) : Keeps 0x23409020c s (State.recordError s rid solo k) := by
  unfold State.recordError
  repeat' first
    | with_reducible exact Keeps.rfl'
    | with_reducible assumption
    | (extract_lets +onlyGivenNames x; guard_hyp x : State := _; refine Keeps.letv (x := x) ?_ (fun hx => ?_); (on_goal 1 => (unfold x; clear x)); (on_goal 2 => ((try clear_value x); rename' x => y)))
    | (extract_lets +onlyGivenNames x; rename' x => z)
    | (with_reducible apply Keeps.on (State.modReq_keeps _ _ _ ?q); (case q => with_unfolding_all exact fun r => rfl); on_goal 2 => decide)
    | (with_reducible apply Keeps.on (State.waitLedger_keeps ..); on_goal 2 => decide)
    | (with_reducible apply Keeps.on (State.tableError_keeps ..); on_goal 2 => decide)

theorem State.retryOne_keeps (s : State) (rid) : Keeps 0x6340d020c s (State.retryOne s rid) := by
  unfold State.retryOne
  repeat' first
    | with_reducible exact Keeps.rfl'
    | with_reducible assumption
    | (extract_lets +onlyGivenNames x; guard_hyp x : State := _; refine Keeps.letv (x := x) ?_ (fun hx => ?_); (on_goal 1 => (unfold x; clear x)); (on_goal 2 => ((try clear_value x); rename' x => y)))
    | (extract_lets +onlyGivenNames x; rename' x => z)
    | with_reducible refine Keeps.ite (fun hc => ?_) (fun hc => ?_)
    | (with_reducible apply Keeps.on (State.checkEntries_keeps ..); on_goal 2 => decide)
    | (with_reducible apply Keeps.on (State.resolveRead_keeps ..); on_goal 2 => decide)
    | (with_reducible apply Keeps.on (State.decideWrite_keeps ..); on_goal 2 => decide)
    | split
    | (clear_value *; split)

theorem State.retryLedger_keeps (s : State) : Keeps 0x6340d020c s (State.retryLedger s) := by
  unfold State.retryLedger
  repeat' first
    | with_reducible exact Keeps.rfl'
    | with_reducible assumption
    | (with_reducible apply Keeps.on (State.retryOne_keeps ..); on_goal 2 => decide)
    | with_reducible refine Keeps.foldl ?_ (fun s a => ?_)

theorem State.toLedger_keeps (s : State) (rid) : Keeps 0x6340d020c s (State.toLedger s rid) := by
  unfold State.toLedger
  repeat' first
    | with_reducible exact Keeps.rfl'
    | with_reducible assumption
    | (extract_lets +onlyGivenNames x; guard_hyp x : State := _; refine Keeps.letv (x := x) ?_ (fun hx => ?_); (on_goal 1 => (unfold x; clear x)); (on_goal 2 => ((try clear_value x); rename' x => y)))
    | (extract_lets +onlyGivenNames x; rename' x => z)
    | with_reducible refine Keeps.ite (fun hc => ?_) (fun hc => ?_)
    | (with_reducible apply Keeps.on (State.finishReq_keeps ..); on_goal 2 => decide)
    | (with_reducible apply Keeps.on (State.telSys_keeps ..); on_goal 2 => decide)
    | (with_reducible apply Keeps.on (State.checkEntries_keeps ..); on_goal 2 => decide)
    | (with_reducible apply Keeps.on (State.retryLedger_keeps ..); on_goal 2 => decide)
    | (with_reducible apply Keeps.on (State.modReq_keeps _ _ _ ?q); (case q => with_unfolding_all exact fun r => rfl); on_goal 2 => decide)
    | (with_reducible apply Keeps.on (State.recordError_keeps ..); on_goal 2 => decide)
    | (with_reducible apply Keeps.on (State.arriveHub_keeps ..); on_goal 2 => decide)
    | (with_reducible apply Keeps.on (State.resolveRead_keeps ..); on_goal 2 => decide)
    | (with_reducible apply Keeps.on (State.decideWrite_keeps ..); on_goal 2 => decide)
    | split
    | (clear_value *; split)

theorem State.undoClaim_keeps (s : State) (d) : Keeps 0x40000 s (State.undoClaim s d) := by
  unfold State.undoClaim
  repeat' first
    | with_reducible exact Keeps.rfl'
    | with_reducible assumption
    | (extract_lets +onlyGivenNames x; guard_hyp x : State := _; refine Keeps.letv (x := x) ?_ (fun hx => ?_); (on_goal 1 => (unfold x; clear x)); (on_goal 2 => ((try clear_value x); rename' x => y)))
    | (extract_lets +onlyGivenNames x; rename' x => z)
    | with_reducible refine Keeps.ite (fun hc => ?_) (fun hc => ?_)
    | (with_reducible apply Keeps.on (State.setRawEntry_keeps ..); on_goal 2 => decide)
    | (with_reducible apply Keeps.on (State.freeSolo_keeps ..); on_goal 2 => decide)
    | (with_reducible apply Keeps.on (State.groupLosesEntry_keeps ..); on_goal 2 => decide)

theorem State.dropInflight_keeps (s : State) (r) : Keeps 0x40000 s (State.dropInflight s r) := by
  unfold State.dropInflight
  repeat' first
    | with_reducible exact Keeps.rfl'
    | with_reducible assumption
    | (extract_lets +onlyGivenNames x; guard_hyp x : State := _; refine Keeps.letv (x := x) ?_ (fun hx => ?_); (on_goal 1 => (unfold x; clear x)); (on_goal 2 => ((try clear_value x); rename' x => y)))
    | (extract_lets +onlyGivenNames x; rename' x => z)
    | with_reducible refine Keeps.ite (fun hc => ?_) (fun hc => ?_)
    | (with_reducible apply Keeps.on (State.setGroup_keeps ..); on_goal 2 => decide)
    | fail_if_no_progress (with_reducible apply Keeps.on (keeps_ledgerTable ..); on_goal 2 => decide)
    | fail_if_no_progress (with_reducible apply Keeps.on (keeps_ledger _ _ ?q); (case q => exact rfl); on_goal 2 => decide)
    | fail_if_no_progress (with_reducible apply Keeps.on (keeps_ledgerAll ..); on_goal 2 => decide)

theorem State.undoClaims_keeps (s : State) (rid) : Keeps 0x50000 s (State.undoClaims s rid) := by
  unfold State.undoClaims
  repeat' first
    | with_reducible exact Keeps.rfl'
    | with_reducible assumption
    | (extract_lets +onlyGivenNames x; guard_hyp x : State := _; refine Keeps.letv (x := x) ?_ (fun hx => ?_); (on_goal 1 => (unfold x; clear x)); (on_goal 2 => ((try clear_value x); rename' x => y)))
    | (extract_lets +onlyGivenNames x; rename' x => z)
    | (with_reducible apply Keeps.on (State.modReq_keeps _ _ _ ?q); (case q => with_unfolding_all exact fun r => rfl); on_goal 2 => decide)
    | (with_reducible apply Keeps.on (State.dropInflight_keeps ..); on_goal 2 => decide)
    | (with_reducible apply Keeps.on (State.undoClaim_keeps ..); on_goal 2 => decide)
    | with_reducible refine Keeps.foldl ?_ (fun s a => ?_)
    | split

end Sys2Proof.Machine
end

