-- ==== Sys2Proof/Laws/KeepsHub.lean ====
section
/-!
SUPPORT. One lemma per operation of Machine/HubOps.lean: the parts it may change, and that it keeps the invariant.
-/
set_option linter.all false
namespace Sys2Proof.Machine
set_option Elab.async false

theorem Keeps.pair {α : Type} {m : Nat} {s : State} {p : State × α} (h : Keeps m s p.1) : ∀ t a, p = (t, a) → Keeps m s t := by
  rintro t a rfl; exact h

theorem Keeps.foldPair {α β : Type} {m : Nat} {s : State} {l : List α} {f : State × β → α → State × β} {i : State × β} (h : Keeps m s i.1)
    (hf : ∀ p a, Keeps m p.1 (f p a).1) : Keeps m s (l.foldl f i).1 := by
  induction l generalizing i with
  | nil => exact h
  | cons a l ih => exact ih (h.trans (hf i a))

theorem Keeps.ofFst {α : Type} {m : Nat} {s t : State} {p : State × α} {a : α} (hq : p = (t, a)) (h : Keeps m s p.1) : Keeps m s t := by
  subst hq; exact h

theorem Keeps.ofId {m : Nat} {s t : State} (h : Keeps m s t) : Keeps m s (id t) := h

theorem State.writeBackCk_keeps (s : State) (c) (l) : Keeps 0x10000800000 s (State.writeBackCk s c l) := by
  unfold State.writeBackCk
  repeat' first
    | with_reducible exact Keeps.rfl'
    | with_reducible assumption
    | (extract_lets +onlyGivenNames x; guard_hyp x : State := _; refine Keeps.letv (x := x) ?_ (fun hx => ?_); (on_goal 1 => (unfold x; clear x)); (on_goal 2 => ((try clear_value x); rename' x => y)))
    | (extract_lets +onlyGivenNames x; rename' x => z)
    | with_reducible refine Keeps.ite (fun hc => ?_) (fun hc => ?_)
    | (with_reducible apply Keeps.on (State.modSched_keeps ..); on_goal 2 => decide)
    | (with_reducible apply Keeps.on (State.setRawLine_keeps ..); on_goal 2 => decide)
    | split
    | (clear_value *; split)

theorem State.flushCk_keeps (s : State) (c) : Keeps 0x10000800000 s (State.flushCk s c) := by
  unfold State.flushCk
  repeat' first
    | with_reducible exact Keeps.rfl'
    | with_reducible assumption
    | (with_reducible apply Keeps.on (State.writeBackCk_keeps ..); on_goal 2 => decide)
    | with_reducible refine Keeps.foldl ?_ (fun s a => ?_)

theorem State.askCheck_keeps (s : State) (c) (l) (level) : Keeps 0x800000 s (State.askCheck s c l level) := by
  unfold State.askCheck
  repeat' first
    | with_reducible exact Keeps.rfl'
    | with_reducible assumption
    | (extract_lets +onlyGivenNames x; guard_hyp x : State := _; refine Keeps.letv (x := x) ?_ (fun hx => ?_); (on_goal 1 => (unfold x; clear x)); (on_goal 2 => ((try clear_value x); rename' x => y)))
    | (extract_lets +onlyGivenNames x; rename' x => z)
    | with_reducible refine Keeps.ite (fun hc => ?_) (fun hc => ?_)
    | (with_reducible apply Keeps.on (State.modSched_keeps ..); on_goal 2 => decide)

theorem State.queueEvict_keeps (s : State) (c) (k) : Keeps 0x800000 s (State.queueEvict s c k) := by
  unfold State.queueEvict
  repeat' first
    | with_reducible exact Keeps.rfl'
    | with_reducible assumption
    | (extract_lets +onlyGivenNames x; guard_hyp x : State := _; refine Keeps.letv (x := x) ?_ (fun hx => ?_); (on_goal 1 => (unfold x; clear x)); (on_goal 2 => ((try clear_value x); rename' x => y)))
    | (extract_lets +onlyGivenNames x; rename' x => z)
    | with_reducible refine Keeps.ite (fun hc => ?_) (fun hc => ?_)
    | (with_reducible apply Keeps.on (State.modSched_keeps ..); on_goal 2 => decide)

theorem State.makeCkRoom_keeps (s : State) (c) : Keeps 0x10000800000 s (State.makeCkRoom s c) := by
  unfold State.makeCkRoom
  repeat' first
    | with_reducible exact Keeps.rfl'
    | with_reducible assumption
    | (extract_lets +onlyGivenNames x; guard_hyp x : State := _; refine Keeps.letv (x := x) ?_ (fun hx => ?_); (on_goal 1 => (unfold x; clear x)); (on_goal 2 => ((try clear_value x); rename' x => y)))
    | (extract_lets +onlyGivenNames x; rename' x => z)
    | with_reducible refine Keeps.ite (fun hc => ?_) (fun hc => ?_)
    | (with_reducible apply Keeps.on (State.queueEvict_keeps ..); on_goal 2 => decide)
    | (with_reducible apply Keeps.on (State.writeBackCk_keeps ..); on_goal 2 => decide)
    | (with_reducible apply Keeps.on (State.modSched_keeps ..); on_goal 2 => decide)
    | split
    | (clear_value *; split)

theorem State.readEvictee_keeps (s : State) (c) : Keeps 0x800000 s (State.readEvictee s c) := by
  unfold State.readEvictee
  repeat' first
    | with_reducible exact Keeps.rfl'
    | with_reducible assumption
    | (extract_lets +onlyGivenNames x; guard_hyp x : State := _; refine Keeps.letv (x := x) ?_ (fun hx => ?_); (on_goal 1 => (unfold x; clear x)); (on_goal 2 => ((try clear_value x); rename' x => y)))
    | (extract_lets +onlyGivenNames x; rename' x => z)
    | with_reducible refine Keeps.ite (fun hc => ?_) (fun hc => ?_)
    | (with_reducible apply Keeps.on (State.askCheck_keeps ..); on_goal 2 => decide)
    | split

theorem State.cacheWord_keeps (s : State) (c) (l) (j) (w) : Keeps 0x10000800000 s (State.cacheWord s c l j w) := by
  unfold State.cacheWord
  repeat' first
    | with_reducible exact Keeps.rfl'
    | with_reducible assumption
    | (extract_lets +onlyGivenNames x; guard_hyp x : State := _; refine Keeps.letv (x := x) ?_ (fun hx => ?_); (on_goal 1 => (unfold x; clear x)); (on_goal 2 => ((try clear_value x); rename' x => y)))
    | (extract_lets +onlyGivenNames x; rename' x => z)
    | (with_reducible apply Keeps.on (State.modSched_keeps ..); on_goal 2 => decide)
    | (with_reducible apply Keeps.on (State.makeCkRoom_keeps ..); on_goal 2 => decide)
    | split

theorem State.mergeCheck_keeps (s : State) (c) (l) (err) : Keeps 0x10000800000 s (State.mergeCheck s c l err) := by
  unfold State.mergeCheck
  repeat' first
    | with_reducible exact Keeps.rfl'
    | with_reducible assumption
    | (extract_lets +onlyGivenNames x; guard_hyp x : State := _; refine Keeps.letv (x := x) ?_ (fun hx => ?_); (on_goal 1 => (unfold x; clear x)); (on_goal 2 => ((try clear_value x); rename' x => y)))
    | (extract_lets +onlyGivenNames x; rename' x => z)
    | (with_reducible apply Keeps.on (State.modSched_keeps ..); on_goal 2 => decide)
    | (with_reducible apply Keeps.on (State.makeCkRoom_keeps ..); on_goal 2 => decide)
    | split
    | (clear_value *; split)

theorem State.missWord_keeps (s : State) (c) (o) : Keeps 0x10000800000 s (State.missWord s c o) := by
  unfold State.missWord
  repeat' first
    | with_reducible exact Keeps.rfl'
    | with_reducible assumption
    | (extract_lets +onlyGivenNames x; guard_hyp x : State := _; refine Keeps.letv (x := x) ?_ (fun hx => ?_); (on_goal 1 => (unfold x; clear x)); (on_goal 2 => ((try clear_value x); rename' x => y)))
    | (extract_lets +onlyGivenNames x; rename' x => z)
    | with_reducible refine Keeps.ite (fun hc => ?_) (fun hc => ?_)
    | (with_reducible apply Keeps.on (State.bumpCh_keeps ..); on_goal 2 => decide)
    | (with_reducible apply Keeps.on (State.mergeCheck_keeps ..); on_goal 2 => decide)
    | (with_reducible apply Keeps.on (State.readEvictee_keeps ..); on_goal 2 => decide)
    | (with_reducible apply Keeps.on (State.askCheck_keeps ..); on_goal 2 => decide)

theorem State.putStrip_keeps (s : State) (c) (stripe) (d) (w) : Keeps 0x10000800000 s (State.putStrip s c stripe d w) := by
  unfold State.putStrip
  repeat' first
    | with_reducible exact Keeps.rfl'
    | (with_reducible apply Keeps.on (State.cacheWord_keeps ..); on_goal 2 => decide)
    | (with_reducible apply Keeps.on (State.setRawLine_keeps ..); on_goal 2 => decide)

theorem State.noteUnsure_keeps (s : State) (g) (stripe) (strips) (m) : Keeps 0x235180204 s (State.noteUnsure s g stripe strips m) := by
  unfold State.noteUnsure
  repeat' first
    | with_reducible exact Keeps.rfl'
    | with_reducible refine Keeps.ite (fun hc => ?_) (fun hc => ?_)
    | (with_reducible apply Keeps.on (State.recordLoss_keeps ..); on_goal 2 => decide)

theorem State.hubFull_keeps (s : State) (g) : Keeps 0x400100200 s (State.hubFull s g) := by
  unfold State.hubFull
  repeat' first
    | with_reducible exact Keeps.rfl'
    | with_reducible assumption
    | (extract_lets +onlyGivenNames x; guard_hyp x : State := _; refine Keeps.letv (x := x) ?_ (fun hx => ?_); (on_goal 1 => (unfold x; clear x)); (on_goal 2 => ((try clear_value x); rename' x => y)))
    | (extract_lets +onlyGivenNames x; rename' x => z)
    | (with_reducible apply Keeps.on (State.telSys_keeps ..); on_goal 2 => decide)
    | (with_reducible apply Keeps.on (State.modHub_keeps ..); on_goal 2 => decide)

theorem State.noteDegraded_keeps (s : State) (g) : Keeps 0x100200 s (State.noteDegraded s g) := by
  unfold State.noteDegraded
  repeat' first
    | with_reducible exact Keeps.rfl'
    | with_reducible assumption
    | (extract_lets +onlyGivenNames x; guard_hyp x : State := _; refine Keeps.letv (x := x) ?_ (fun hx => ?_); (on_goal 1 => (unfold x; clear x)); (on_goal 2 => ((try clear_value x); rename' x => y)))
    | (extract_lets +onlyGivenNames x; rename' x => z)
    | with_reducible refine Keeps.ite (fun hc => ?_) (fun hc => ?_)
    | (with_reducible apply Keeps.on (State.raise_keeps ..); on_goal 2 => decide)
    | (with_reducible apply Keeps.on (State.modHub_keeps ..); on_goal 2 => decide)

theorem State.countKind_keeps (s : State) (g) (k) : Keeps 0x400100200 s (State.countKind s g k) := by
  unfold State.countKind
  repeat' first
    | with_reducible exact Keeps.rfl'
    | with_reducible assumption
    | (extract_lets +onlyGivenNames x; guard_hyp x : State := _; refine Keeps.letv (x := x) ?_ (fun hx => ?_); (on_goal 1 => (unfold x; clear x)); (on_goal 2 => ((try clear_value x); rename' x => y)))
    | (extract_lets +onlyGivenNames x; rename' x => z)
    | with_reducible refine Keeps.ite (fun hc => ?_) (fun hc => ?_)
    | (with_reducible apply Keeps.on (State.hubFull_keeps ..); on_goal 2 => decide)
    | (with_reducible apply Keeps.on (State.telSys_keeps ..); on_goal 2 => decide)
    | (with_reducible apply Keeps.on (State.modHub_keeps ..); on_goal 2 => decide)
    | (with_reducible apply Keeps.on (State.noteDegraded_keeps ..); on_goal 2 => decide)

theorem State.passEntries_keeps (s : State) (g) (n) (open_) : Keeps 0x100000 s (State.passEntries s g n open_) := by
  unfold State.passEntries
  repeat' first
    | with_reducible exact Keeps.rfl'
    | with_reducible assumption
    | (extract_lets +onlyGivenNames x; guard_hyp x : State := _; refine Keeps.letv (x := x) ?_ (fun hx => ?_); (on_goal 1 => (unfold x; clear x)); (on_goal 2 => ((try clear_value x); rename' x => y)))
    | (extract_lets +onlyGivenNames x; rename' x => z)
    | (with_reducible apply Keeps.on (State.modHub_keeps ..); on_goal 2 => decide)

theorem State.passEntry_keeps (s : State) (g) : Keeps 0x100000 s (State.passEntry s g) := by
  unfold State.passEntry
  repeat' first
    | with_reducible exact Keeps.rfl'
    | (with_reducible apply Keeps.on (State.passEntries_keeps ..); on_goal 2 => decide)

theorem State.vaneGrants_keeps (s : State) (g) : Keeps 0x400300204 s (State.vaneGrants s g) := by
  unfold State.vaneGrants
  repeat' first
    | with_reducible exact Keeps.rfl'
    | with_reducible assumption
    | (extract_lets +onlyGivenNames x; guard_hyp x : State := _; refine Keeps.letv (x := x) ?_ (fun hx => ?_); (on_goal 1 => (unfold x; clear x)); (on_goal 2 => ((try clear_value x); rename' x => y)))
    | (extract_lets +onlyGivenNames x; rename' x => z)
    | with_reducible refine Keeps.ite (fun hc => ?_) (fun hc => ?_)
    | (with_reducible apply Keeps.on (State.telSys_keeps ..); on_goal 2 => decide)
    | (with_reducible apply Keeps.on (State.modHub_keeps ..); on_goal 2 => decide)
    | fail_if_no_progress (with_reducible apply Keeps.on (keeps_free ..); on_goal 2 => decide)
    | fail_if_no_progress (with_reducible apply Keeps.on (keeps_fab ..); on_goal 2 => decide)
    | fail_if_no_progress refine Keeps.upd ?_ (Or.inl rfl)

theorem State.redoStripe_keeps (s : State) (g) (stripe) : Keeps 0x1000000 s (State.redoStripe s g stripe) := by
  unfold State.redoStripe
  repeat' first
    | with_reducible exact Keeps.rfl'
    | with_reducible assumption
    | (extract_lets +onlyGivenNames x; guard_hyp x : State := _; refine Keeps.letv (x := x) ?_ (fun hx => ?_); (on_goal 1 => (unfold x; clear x)); (on_goal 2 => ((try clear_value x); rename' x => y)))
    | (extract_lets +onlyGivenNames x; rename' x => z)
    | with_reducible refine Keeps.ite (fun hc => ?_) (fun hc => ?_)
    | (with_reducible apply Keeps.on (State.setRly_keeps ..); on_goal 2 => decide)
    | split

theorem State.writeStripeNow_keeps (s : State) (g) (stripe) (data) : Keeps 0x10000800000 s (State.writeStripeNow s g stripe data) := by
  unfold State.writeStripeNow
  repeat' first
    | with_reducible exact Keeps.rfl'
    | with_reducible assumption
    | (extract_lets +onlyGivenNames x; guard_hyp x : State := _; refine Keeps.letv (x := x) ?_ (fun hx => ?_); (on_goal 1 => (unfold x; clear x)); (on_goal 2 => ((try clear_value x); rename' x => y)))
    | (extract_lets +onlyGivenNames x; rename' x => z)
    | with_reducible refine Keeps.ite (fun hc => ?_) (fun hc => ?_)
    | (with_reducible apply Keeps.on (State.putStrip_keeps ..); on_goal 2 => decide)
    | with_reducible refine Keeps.foldl ?_ (fun s a => ?_)
    | split
    | (clear_value *; split)

theorem State.putStrips_keeps (s : State) (g) (stripe) (ws) : Keeps 0x10000800000 s (State.putStrips s g stripe ws) := by
  unfold State.putStrips
  repeat' first
    | with_reducible exact Keeps.rfl'
    | with_reducible assumption
    | (extract_lets +onlyGivenNames x; guard_hyp x : State := _; refine Keeps.letv (x := x) ?_ (fun hx => ?_); (on_goal 1 => (unfold x; clear x)); (on_goal 2 => ((try clear_value x); rename' x => y)))
    | (extract_lets +onlyGivenNames x; rename' x => z)
    | with_reducible refine Keeps.ite (fun hc => ?_) (fun hc => ?_)
    | (with_reducible apply Keeps.on (State.cacheWord_keeps ..); on_goal 2 => decide)
    | (with_reducible apply Keeps.on (State.putStrip_keeps ..); on_goal 2 => decide)
    | with_reducible refine Keeps.foldl ?_ (fun s a => ?_)
    | split

theorem State.writeMapBit_keeps (s : State) (g) (chunk) : Keeps 0x10000800000 s (State.writeMapBit s g chunk) := by
  unfold State.writeMapBit
  repeat' first
    | with_reducible exact Keeps.rfl'
    | with_reducible assumption
    | (extract_lets +onlyGivenNames x; guard_hyp x : State := _; refine Keeps.letv (x := x) ?_ (fun hx => ?_); (on_goal 1 => (unfold x; clear x)); (on_goal 2 => ((try clear_value x); rename' x => y)))
    | (extract_lets +onlyGivenNames x; rename' x => z)
    | with_reducible refine Keeps.ite (fun hc => ?_) (fun hc => ?_)
    | (with_reducible apply Keeps.on (State.putStrips_keeps ..); on_goal 2 => decide)
    | split
    | (clear_value *; split)

theorem State.noteZeroed_keeps (s : State) (g) : Keeps 0x100200 s (State.noteZeroed s g) := by
  unfold State.noteZeroed
  repeat' first
    | with_reducible exact Keeps.rfl'
    | with_reducible assumption
    | (extract_lets +onlyGivenNames x; guard_hyp x : State := _; refine Keeps.letv (x := x) ?_ (fun hx => ?_); (on_goal 1 => (unfold x; clear x)); (on_goal 2 => ((try clear_value x); rename' x => y)))
    | (extract_lets +onlyGivenNames x; rename' x => z)
    | with_reducible refine Keeps.ite (fun hc => ?_) (fun hc => ?_)
    | (with_reducible apply Keeps.on (State.raise_keeps ..); on_goal 2 => decide)
    | (with_reducible apply Keeps.on (State.modHub_keeps ..); on_goal 2 => decide)

theorem State.clearVoid_keeps (s : State) (g) (chunk) : Keeps 0x10000900200 s (State.clearVoid s g chunk) := by
  unfold State.clearVoid
  repeat' first
    | with_reducible exact Keeps.rfl'
    | with_reducible assumption
    | (extract_lets +onlyGivenNames x; guard_hyp x : State := _; refine Keeps.letv (x := x) ?_ (fun hx => ?_); (on_goal 1 => (unfold x; clear x)); (on_goal 2 => ((try clear_value x); rename' x => y)))
    | (extract_lets +onlyGivenNames x; rename' x => z)
    | with_reducible refine Keeps.ite (fun hc => ?_) (fun hc => ?_)
    | (with_reducible apply Keeps.on (State.modHub_keeps ..); on_goal 2 => decide)
    | (with_reducible apply Keeps.on (State.noteZeroed_keeps ..); on_goal 2 => decide)
    | (with_reducible apply Keeps.on (State.writeMapBit_keeps ..); on_goal 2 => decide)

theorem State.noteStale_keeps (s : State) (g) (gone) (stripe) : Keeps 0x100000 s (State.noteStale s g gone stripe) := by
  unfold State.noteStale
  repeat' first
    | with_reducible exact Keeps.rfl'
    | with_reducible assumption
    | (extract_lets +onlyGivenNames x; guard_hyp x : State := _; refine Keeps.letv (x := x) ?_ (fun hx => ?_); (on_goal 1 => (unfold x; clear x)); (on_goal 2 => ((try clear_value x); rename' x => y)))
    | (extract_lets +onlyGivenNames x; rename' x => z)
    | with_reducible refine Keeps.ite (fun hc => ?_) (fun hc => ?_)
    | (with_reducible apply Keeps.on (State.modHub_keeps ..); on_goal 2 => decide)

theorem State.zeroChunk_keeps (s : State) (g) (chunk) : Keeps 0x10400900204 s (State.zeroChunk s g chunk) := by
  unfold State.zeroChunk
  repeat' first
    | with_reducible exact Keeps.rfl'
    | with_reducible assumption
    | (extract_lets +onlyGivenNames x; guard_hyp x : State := _; refine Keeps.letv (x := x) ?_ (fun hx => ?_); (on_goal 1 => (unfold x; clear x)); (on_goal 2 => ((try clear_value x); rename' x => y)))
    | (extract_lets +onlyGivenNames x; rename' x => z)
    | (with_reducible apply Keeps.on (State.tookFree_keeps ..); on_goal 2 => decide)
    | (with_reducible apply Keeps.on (State.passEntries_keeps ..); on_goal 2 => decide)
    | (with_reducible apply Keeps.on (State.noteStale_keeps ..); on_goal 2 => decide)
    | (with_reducible apply Keeps.on (State.hubFull_keeps ..); on_goal 2 => decide)
    | (with_reducible apply Keeps.on (State.writeStripeNow_keeps ..); on_goal 2 => decide)
    | (with_reducible apply Keeps.on (State.clearVoid_keeps ..); on_goal 2 => decide)
    | with_reducible refine Keeps.foldl ?_ (fun s a => ?_)

theorem State.putAt_keeps (s : State) (p) (a) (v) : Keeps 0x10401900204 s (State.putAt s p a v) := by
  unfold State.putAt
  repeat' first
    | with_reducible exact Keeps.rfl'
    | with_reducible assumption
    | (extract_lets +onlyGivenNames x; guard_hyp x : State := _; refine Keeps.letv (x := x) ?_ (fun hx => ?_); (on_goal 1 => (unfold x; clear x)); (on_goal 2 => ((try clear_value x); rename' x => y)))
    | (extract_lets +onlyGivenNames x; rename' x => z)
    | with_reducible refine Keeps.ite (fun hc => ?_) (fun hc => ?_)
    | (with_reducible apply Keeps.on (State.redoStripe_keeps ..); on_goal 2 => decide)
    | (with_reducible apply Keeps.on (State.zeroChunk_keeps ..); on_goal 2 => decide)
    | (with_reducible apply Keeps.on (State.putStrip_keeps ..); on_goal 2 => decide)
    | split
    | (clear_value *; split)

theorem State.putPlaced_keeps (s : State) (a) (v) (a__internal_hyg0) : Keeps 0x10401900204 s (State.putPlaced s a v a__internal_hyg0) := by
  unfold State.putPlaced
  repeat' first
    | with_reducible exact Keeps.rfl'
    | (with_reducible apply Keeps.on (State.putAt_keeps ..); on_goal 2 => decide)
    | split

theorem State.putLineNow_keeps (s : State) (a) (v) : Keeps 0x10401900204 s (State.putLineNow s a v) := by
  unfold State.putLineNow
  repeat' first
    | with_reducible exact Keeps.rfl'
    | (with_reducible apply Keeps.on (State.putPlaced_keeps ..); on_goal 2 => decide)

theorem State.flagOp_keeps (s : State) (o) (bit) : Keeps 0x10000 s (State.flagOp s o bit) := by
  unfold State.flagOp
  repeat' first
    | with_reducible exact Keeps.rfl'
    | with_reducible assumption
    | (extract_lets +onlyGivenNames x; guard_hyp x : State := _; refine Keeps.letv (x := x) ?_ (fun hx => ?_); (on_goal 1 => (unfold x; clear x)); (on_goal 2 => ((try clear_value x); rename' x => y)))
    | (extract_lets +onlyGivenNames x; rename' x => z)
    | (with_reducible apply Keeps.on (State.flagReq_keeps ..); on_goal 2 => decide)
    | split

theorem State.enqueue_keeps (s : State) (c) (o) : Keeps 0x810000 s (State.enqueue s c o) := by
  unfold State.enqueue
  repeat' first
    | with_reducible exact Keeps.rfl'
    | with_reducible assumption
    | (extract_lets +onlyGivenNames x; guard_hyp x : State := _; refine Keeps.letv (x := x) ?_ (fun hx => ?_); (on_goal 1 => (unfold x; clear x)); (on_goal 2 => ((try clear_value x); rename' x => y)))
    | (extract_lets +onlyGivenNames x; rename' x => z)
    | with_reducible refine Keeps.ite (fun hc => ?_) (fun hc => ?_)
    | (with_reducible apply Keeps.on (State.modSched_keeps ..); on_goal 2 => decide)
    | (with_reducible apply Keeps.on (State.flagOp_keeps ..); on_goal 2 => decide)
    | (with_reducible apply Keeps.on (State.bumpCh_keeps ..); on_goal 2 => decide)
    | split
    | (clear_value *; split)

theorem State.holdOp_keeps (s : State) (g) (c) (o) : Keeps 0x300000 s (State.holdOp s g c o) := by
  unfold State.holdOp
  repeat' first
    | with_reducible exact Keeps.rfl'
    | with_reducible assumption
    | (extract_lets +onlyGivenNames x; guard_hyp x : State := _; refine Keeps.letv (x := x) ?_ (fun hx => ?_); (on_goal 1 => (unfold x; clear x)); (on_goal 2 => ((try clear_value x); rename' x => y)))
    | (extract_lets +onlyGivenNames x; rename' x => z)
    | with_reducible refine Keeps.ite (fun hc => ?_) (fun hc => ?_)
    | (with_reducible apply Keeps.on (State.modHub_keeps ..); on_goal 2 => decide)
    | fail_if_no_progress (with_reducible apply Keeps.on (keeps_fab ..); on_goal 2 => decide)

theorem State.deliver_keeps (s : State) (g) (c) (o) : Keeps 0x8b10020 s (State.deliver s g c o) := by
  unfold State.deliver
  repeat' first
    | with_reducible exact Keeps.rfl'
    | with_reducible assumption
    | (extract_lets +onlyGivenNames x; guard_hyp x : State := _; refine Keeps.letv (x := x) ?_ (fun hx => ?_); (on_goal 1 => (unfold x; clear x)); (on_goal 2 => ((try clear_value x); rename' x => y)))
    | (extract_lets +onlyGivenNames x; rename' x => z)
    | with_reducible refine Keeps.ite (fun hc => ?_) (fun hc => ?_)
    | (with_reducible apply Keeps.on (State.flagOp_keeps ..); on_goal 2 => decide)
    | (with_reducible apply Keeps.on (State.lateTraffic_keeps ..); on_goal 2 => decide)
    | (with_reducible apply Keeps.on (State.holdOp_keeps ..); on_goal 2 => decide)
    | (with_reducible apply Keeps.on (State.wakeBy_keeps ..); on_goal 2 => decide)
    | (with_reducible apply Keeps.on (State.modHub_keeps ..); on_goal 2 => decide)
    | (with_reducible apply Keeps.on (State.enqueue_keeps ..); on_goal 2 => decide)

theorem State.placeHeld_keeps (s : State) (g) (o) (held) : Keeps 0xb10000 s (State.placeHeld s g o held) := by
  unfold State.placeHeld
  repeat' first
    | with_reducible exact Keeps.rfl'
    | with_reducible assumption
    | (extract_lets +onlyGivenNames x; guard_hyp x : State := _; refine Keeps.letv (x := x) ?_ (fun hx => ?_); (on_goal 1 => (unfold x; clear x)); (on_goal 2 => ((try clear_value x); rename' x => y)))
    | (extract_lets +onlyGivenNames x; rename' x => z)
    | with_reducible refine Keeps.ite (fun hc => ?_) (fun hc => ?_)
    | (with_reducible apply Keeps.on (State.enqueue_keeps ..); on_goal 2 => decide)
    | (with_reducible apply Keeps.on (State.modHub_keeps ..); on_goal 2 => decide)
    | (with_reducible apply Keeps.on (State.holdOp_keeps ..); on_goal 2 => decide)

theorem State.releaseHeld_keeps (s : State) (g) : Keeps 0xb10000 s (State.releaseHeld s g) := by
  unfold State.releaseHeld
  repeat' first
    | with_reducible exact Keeps.rfl'
    | with_reducible assumption
    | (extract_lets +onlyGivenNames x; guard_hyp x : State := _; refine Keeps.letv (x := x) ?_ (fun hx => ?_); (on_goal 1 => (unfold x; clear x)); (on_goal 2 => ((try clear_value x); rename' x => y)))
    | (extract_lets +onlyGivenNames x; rename' x => z)
    | (with_reducible apply Keeps.on (State.modHub_keeps ..); on_goal 2 => decide)
    | (with_reducible apply Keeps.on (State.placeHeld_keeps ..); on_goal 2 => decide)
    | with_reducible refine Keeps.foldl ?_ (fun s a => ?_)

theorem State.modJob_keeps (s : State) (g) (jid) (f) : Keeps 0x100000 s (State.modJob s g jid f) := by
  unfold State.modJob
  repeat' first
    | with_reducible exact Keeps.rfl'
    | with_reducible assumption
    | (extract_lets +onlyGivenNames x; guard_hyp x : State := _; refine Keeps.letv (x := x) ?_ (fun hx => ?_); (on_goal 1 => (unfold x; clear x)); (on_goal 2 => ((try clear_value x); rename' x => y)))
    | (extract_lets +onlyGivenNames x; rename' x => z)
    | with_reducible refine Keeps.ite (fun hc => ?_) (fun hc => ?_)
    | (with_reducible apply Keeps.on (State.modHub_keeps ..); on_goal 2 => decide)

theorem State.addJob_keeps (s : State) (g) (rid) (kind) (stripe) (lines) (xor) (tuple) (level) :
    Keeps 0x100008 s (State.addJob s g rid kind stripe lines xor tuple level) := by
  unfold State.addJob
  exact Keeps.on (keeps_ids _ (s.ids + 1) (Nat.le_succ s.ids)) (Keeps.on (State.modHub_keeps ..) Keeps.rfl' (by decide)) (by decide)

theorem State.askStrip_keeps (s : State) (g) (jid) (m) : Keeps 0x8b10020 s (State.askStrip s g jid m) := by
  unfold State.askStrip
  repeat' first
    | with_reducible exact Keeps.rfl'
    | with_reducible assumption
    | (extract_lets +onlyGivenNames x; guard_hyp x : State := _; refine Keeps.letv (x := x) ?_ (fun hx => ?_); (on_goal 1 => (unfold x; clear x)); (on_goal 2 => ((try clear_value x); rename' x => y)))
    | (extract_lets +onlyGivenNames x; rename' x => z)
    | with_reducible refine Keeps.ite (fun hc => ?_) (fun hc => ?_)
    | (with_reducible apply Keeps.on (State.modJob_keeps ..); on_goal 2 => decide)
    | (with_reducible apply Keeps.on (State.deliver_keeps ..); on_goal 2 => decide)
    | split
    | (clear_value *; split)

theorem State.askStrips_keeps (s : State) (g) (jid) (l) : Keeps 0x8b10020 s (State.askStrips s g jid l) := by
  unfold State.askStrips
  repeat' first
    | with_reducible exact Keeps.rfl'
    | with_reducible assumption
    | (with_reducible apply Keeps.on (State.askStrip_keeps ..); on_goal 2 => decide)
    | with_reducible refine Keeps.foldl ?_ (fun s a => ?_)

theorem State.bumpRt_keeps (s : State) (g) : Keeps 0x400100200 s (State.bumpRt s g) := by
  unfold State.bumpRt
  repeat' first
    | with_reducible exact Keeps.rfl'
    | with_reducible assumption
    | (extract_lets +onlyGivenNames x; guard_hyp x : State := _; refine Keeps.letv (x := x) ?_ (fun hx => ?_); (on_goal 1 => (unfold x; clear x)); (on_goal 2 => ((try clear_value x); rename' x => y)))
    | (extract_lets +onlyGivenNames x; rename' x => z)
    | (with_reducible apply Keeps.on (State.telSys_keeps ..); on_goal 2 => decide)
    | (with_reducible apply Keeps.on (State.modHub_keeps ..); on_goal 2 => decide)

theorem State.logPoison_keeps (s : State) (g) (stripe) (m) : Keeps 0x234080204 s (State.logPoison s g stripe m) := by
  unfold State.logPoison
  repeat' first
    | with_reducible exact Keeps.rfl'
    | (with_reducible apply Keeps.on (State.logError_keeps ..); on_goal 2 => decide)

theorem State.mendStrip_keeps (s : State) (g) (stripe) (strips) (m) : Keeps 0x235180204 s (State.mendStrip s g stripe strips m).1 := by
  unfold State.mendStrip
  repeat' first
    | with_reducible exact Keeps.rfl'
    | with_reducible assumption
    | (extract_lets +onlyGivenNames x; guard_hyp x : State := _; refine Keeps.letv (x := x) ?_ (fun hx => ?_); (on_goal 1 => (unfold x; clear x)); (on_goal 2 => ((try clear_value x); rename' x => y)))
    | (extract_lets +onlyGivenNames x; rename' x => z)
    | with_reducible refine Keeps.ite (fun hc => ?_) (fun hc => ?_)
    | (with_reducible apply Keeps.on (State.logPoison_keeps ..); on_goal 2 => decide)
    | (with_reducible apply Keeps.on (State.noteUnsure_keeps ..); on_goal 2 => decide)
    | (with_reducible apply Keeps.on (State.modHub_keeps ..); on_goal 2 => decide)
    | (with_reducible apply Keeps.on (State.logError_keeps ..); on_goal 2 => decide)
    | (with_reducible apply Keeps.on (State.raise_keeps ..); on_goal 2 => decide)
    | split
    | (clear_value *; split)

theorem State.noteFailures_keeps (s : State) (g) (stripe) (strips) (reachable) : Keeps 0x235180204 s (State.noteFailures s g stripe strips reachable) := by
  unfold State.noteFailures
  repeat' first
    | with_reducible exact Keeps.rfl'
    | with_reducible assumption
    | (extract_lets +onlyGivenNames x; guard_hyp x : State := _; refine Keeps.letv (x := x) ?_ (fun hx => ?_); (on_goal 1 => (unfold x; clear x)); (on_goal 2 => ((try clear_value x); rename' x => y)))
    | (extract_lets +onlyGivenNames x; rename' x => z)
    | with_reducible refine Keeps.ite (fun hc => ?_) (fun hc => ?_)
    | (with_reducible apply Keeps.on (State.raiseIf_keeps ..); on_goal 2 => decide)
    | (with_reducible apply Keeps.on (State.recordLoss_keeps ..); on_goal 2 => decide)

theorem State.mendStripe_keeps (s : State) (g) (stripe) (strips) (reachable) : Keeps 0x235180204 s (State.mendStripe s g stripe strips reachable).1 := by
  unfold State.mendStripe
  extract_lets +onlyGivenNames bad gone
  have h : Keeps 0x235180204 s (bad.foldl (fun (acc : State × List (Fin 9 × Line × Check × Bool)) m =>
      match acc.1.mendStrip g stripe strips m with
      | (s, l) => (s, acc.2 ++ l)) (s, [])).1 := by
    refine Keeps.foldPair Keeps.rfl' fun p a => ?_
    exact (State.mendStrip_keeps ..).mono (by decide)
  revert h
  generalize bad.foldl (fun (acc : State × List (Fin 9 × Line × Check × Bool)) m =>
      match acc.1.mendStrip g stripe strips m with
      | (s, l) => (s, acc.2 ++ l)) (s, []) = p
  intro h
  obtain ⟨t, ws⟩ := p
  dsimp only at h ⊢
  refine Keeps.ite (fun _ => ?_) fun _ => ?_
  · exact Keeps.on (State.recordLoss_keeps ..) (Keeps.on (State.raiseIf_keeps ..) h (by decide)) (by decide)
  · exact Keeps.on (State.raiseIf_keeps ..) h (by decide)

theorem State.countStripe_keeps (s : State) (g) (stripe) (strips) : Keeps 0x235f90214 s (State.countStripe s g stripe strips) := by
  unfold State.countStripe
  repeat' first
    | with_reducible exact Keeps.rfl'
    | with_reducible assumption
    | (with_reducible apply Keeps.on (State.countMismatch_keeps ..); on_goal 2 => decide)
    | with_reducible refine Keeps.foldl ?_ (fun s a => ?_)
    | split

theorem State.mendPlace_keeps (s : State) (p) : Keeps 0x10235f90214 s (State.mendPlace s p) := by
  cases p with
  | none => exact Keeps.rfl'
  | some p =>
    unfold State.mendPlace
    refine Keeps.ite (fun _ => Keeps.rfl') fun _ => ?_
    extract_lets strips
    clear_value strips
    refine Keeps.ite (fun _ => Keeps.rfl') fun _ => ?_
    have h : Keeps 0x10235f90214 s (s.mendStripe p.g p.stripe strips []).1 := (State.mendStripe_keeps ..).mono (by decide)
    revert h
    generalize s.mendStripe p.g p.stripe strips [] = q
    intro h
    obtain ⟨t, ws⟩ := q
    exact Keeps.on (State.countStripe_keeps ..) (Keeps.on (State.passEntry_keeps ..) (Keeps.on (State.putStrips_keeps ..) h (by decide)) (by decide)) (by decide)

theorem State.mendAt_keeps (s : State) (a) : Keeps 0x10235f90214 s (State.mendAt s a) := by
  unfold State.mendAt
  repeat' first
    | with_reducible exact Keeps.rfl'
    | (with_reducible apply Keeps.on (State.mendPlace_keeps ..); on_goal 2 => decide)

theorem State.noteJwait_keeps (s : State) (g) : Keeps 0x100200 s (State.noteJwait s g) := by
  unfold State.noteJwait
  repeat' first
    | with_reducible exact Keeps.rfl'
    | with_reducible assumption
    | (extract_lets +onlyGivenNames x; guard_hyp x : State := _; refine Keeps.letv (x := x) ?_ (fun hx => ?_); (on_goal 1 => (unfold x; clear x)); (on_goal 2 => ((try clear_value x); rename' x => y)))
    | (extract_lets +onlyGivenNames x; rename' x => z)
    | with_reducible refine Keeps.ite (fun hc => ?_) (fun hc => ?_)
    | (with_reducible apply Keeps.on (State.raise_keeps ..); on_goal 2 => decide)
    | (with_reducible apply Keeps.on (State.modHub_keeps ..); on_goal 2 => decide)

theorem State.addEntry_keeps (s : State) (g) (jid) (e) : Keeps 0x100000 s (State.addEntry s g jid e) := by
  unfold State.addEntry
  repeat' first
    | with_reducible exact Keeps.rfl'
    | with_reducible assumption
    | (extract_lets +onlyGivenNames x; guard_hyp x : State := _; refine Keeps.letv (x := x) ?_ (fun hx => ?_); (on_goal 1 => (unfold x; clear x)); (on_goal 2 => ((try clear_value x); rename' x => y)))
    | (extract_lets +onlyGivenNames x; rename' x => z)
    | (with_reducible apply Keeps.on (State.modHub_keeps ..); on_goal 2 => decide)
    | (with_reducible apply Keeps.on (State.modJob_keeps ..); on_goal 2 => decide)

theorem State.waitEntry_keeps (s : State) (g) (j) : Keeps 0x110200 s (State.waitEntry s g j) := by
  unfold State.waitEntry
  repeat' first
    | with_reducible exact Keeps.rfl'
    | with_reducible assumption
    | (extract_lets +onlyGivenNames x; guard_hyp x : State := _; refine Keeps.letv (x := x) ?_ (fun hx => ?_); (on_goal 1 => (unfold x; clear x)); (on_goal 2 => ((try clear_value x); rename' x => y)))
    | (extract_lets +onlyGivenNames x; rename' x => z)
    | with_reducible refine Keeps.ite (fun hc => ?_) (fun hc => ?_)
    | (with_reducible apply Keeps.on (State.flagReq_keeps ..); on_goal 2 => decide)
    | (with_reducible apply Keeps.on (State.modJob_keeps ..); on_goal 2 => decide)
    | (with_reducible apply Keeps.on (State.noteJwait_keeps ..); on_goal 2 => decide)

theorem State.sendWrites_keeps (s : State) (g) (j) (outs) : Keeps 0x8b10020 s (State.sendWrites s g j outs) := by
  unfold State.sendWrites
  repeat' first
    | with_reducible exact Keeps.rfl'
    | with_reducible assumption
    | (extract_lets +onlyGivenNames x; guard_hyp x : State := _; refine Keeps.letv (x := x) ?_ (fun hx => ?_); (on_goal 1 => (unfold x; clear x)); (on_goal 2 => ((try clear_value x); rename' x => y)))
    | (extract_lets +onlyGivenNames x; rename' x => z)
    | with_reducible refine Keeps.ite (fun hc => ?_) (fun hc => ?_)
    | (with_reducible apply Keeps.on (State.deliver_keeps ..); on_goal 2 => decide)
    | with_reducible refine Keeps.foldl ?_ (fun s a => ?_)
    | split

theorem State.openEntry_keeps (s : State) (g) (jid) : Keeps 0x409b10220 s (State.openEntry s g jid) := by
  unfold State.openEntry
  repeat' first
    | with_reducible exact Keeps.rfl'
    | with_reducible assumption
    | (extract_lets +onlyGivenNames x; guard_hyp x : State := _; refine Keeps.letv (x := x) ?_ (fun hx => ?_); (on_goal 1 => (unfold x; clear x)); (on_goal 2 => ((try clear_value x); rename' x => y)))
    | (extract_lets +onlyGivenNames x; rename' x => z)
    | with_reducible refine Keeps.ite (fun hc => ?_) (fun hc => ?_)
    | (with_reducible apply Keeps.on (State.modJob_keeps ..); on_goal 2 => decide)
    | (with_reducible apply Keeps.on (State.waitEntry_keeps ..); on_goal 2 => decide)
    | (with_reducible apply Keeps.on (State.redoStripe_keeps ..); on_goal 2 => decide)
    | (with_reducible apply Keeps.on (State.countKind_keeps ..); on_goal 2 => decide)
    | (with_reducible apply Keeps.on (State.noteStale_keeps ..); on_goal 2 => decide)
    | (with_reducible apply Keeps.on (State.addEntry_keeps ..); on_goal 2 => decide)
    | (with_reducible apply Keeps.on (State.sendWrites_keeps ..); on_goal 2 => decide)
    | split
    | (clear_value *; split)

theorem State.spawnRepair_keeps (s : State) (g) (stripe) (ws) (level) : Keeps 0x409b10228 s (State.spawnRepair s g stripe ws level) := by
  unfold State.spawnRepair
  refine Keeps.ite (fun _ => Keeps.rfl') fun _ => ?_
  refine Keeps.on (State.openEntry_keeps ..) ?_ (by decide)
  exact Keeps.on (keeps_ids _ (s.ids + 1) (Nat.le_succ s.ids)) (Keeps.on (State.modHub_keeps ..) Keeps.rfl' (by decide)) (by decide)

theorem State.spawnZero_keeps (s : State) (g) (chunk) (level) : Keeps 0x409b10228 s (State.spawnZero s g chunk level) := by
  unfold State.spawnZero
  refine Keeps.foldl ?_ fun s a => (State.openEntry_keeps ..).mono (by decide)
  exact Keeps.on (keeps_ids _ (s.ids + 8) (Nat.le_add_right s.ids 8)) (Keeps.on (State.modHub_keeps ..) Keeps.rfl' (by decide)) (by decide)

theorem State.checkpoint_keeps (s : State) (g) (v) : Keeps 0x2000000 s (State.checkpoint s g v) := by
  unfold State.checkpoint
  repeat' first
    | with_reducible exact Keeps.rfl'
    | with_reducible assumption
    | (extract_lets +onlyGivenNames x; guard_hyp x : State := _; refine Keeps.letv (x := x) ?_ (fun hx => ?_); (on_goal 1 => (unfold x; clear x)); (on_goal 2 => ((try clear_value x); rename' x => y)))
    | (extract_lets +onlyGivenNames x; rename' x => z)
    | fail_if_no_progress (with_reducible apply Keeps.on (keeps_errSeq ..); on_goal 2 => decide)
    | fail_if_no_progress (with_reducible apply Keeps.on (keeps_ao _ _ ?q); (case q => exact rfl); on_goal 2 => decide)
    | fail_if_no_progress (with_reducible apply Keeps.on (keeps_aoAll ..); on_goal 2 => decide)

theorem State.advanceTo_keeps (s : State) (g) (r) (b) : Keeps 0x3000000 s (State.advanceTo s g r b) := by
  unfold State.advanceTo
  repeat' first
    | with_reducible exact Keeps.rfl'
    | with_reducible assumption
    | (extract_lets +onlyGivenNames x; guard_hyp x : State := _; refine Keeps.letv (x := x) ?_ (fun hx => ?_); (on_goal 1 => (unfold x; clear x)); (on_goal 2 => ((try clear_value x); rename' x => y)))
    | (extract_lets +onlyGivenNames x; rename' x => z)
    | with_reducible refine Keeps.ite (fun hc => ?_) (fun hc => ?_)
    | (with_reducible apply Keeps.on (State.setRly_keeps ..); on_goal 2 => decide)
    | (with_reducible apply Keeps.on (State.checkpoint_keeps ..); on_goal 2 => decide)

theorem State.settleBound_keeps (s : State) (g) (fuel) : Keeps 0x3000000 s (State.settleBound s g fuel) := by
  induction fuel generalizing s with
  | zero => exact Keeps.rfl'
  | succ n ih =>
    unfold State.settleBound
    split
    · exact Keeps.rfl'
    · refine Keeps.ite (fun _ => ?_) fun _ => (State.advanceTo_keeps ..).mono (by decide)
      exact ((State.advanceTo_keeps ..).mono (by decide)).trans (ih _)

theorem State.checkpointStopped_keeps (s : State) (g) : Keeps 0x2000000 s (State.checkpointStopped s g) := by
  unfold State.checkpointStopped
  repeat' first
    | with_reducible exact Keeps.rfl'
    | with_reducible assumption
    | (extract_lets +onlyGivenNames x; guard_hyp x : State := _; refine Keeps.letv (x := x) ?_ (fun hx => ?_); (on_goal 1 => (unfold x; clear x)); (on_goal 2 => ((try clear_value x); rename' x => y)))
    | (extract_lets +onlyGivenNames x; rename' x => z)
    | with_reducible refine Keeps.ite (fun hc => ?_) (fun hc => ?_)
    | (with_reducible apply Keeps.on (State.checkpoint_keeps ..); on_goal 2 => decide)
    | split

theorem State.relayRetired_keeps (s : State) (g) (j) : Keeps 0x3000000 s (State.relayRetired s g j) := by
  unfold State.relayRetired
  repeat' first
    | with_reducible exact Keeps.rfl'
    | with_reducible assumption
    | (extract_lets +onlyGivenNames x; guard_hyp x : State := _; refine Keeps.letv (x := x) ?_ (fun hx => ?_); (on_goal 1 => (unfold x; clear x)); (on_goal 2 => ((try clear_value x); rename' x => y)))
    | (extract_lets +onlyGivenNames x; rename' x => z)
    | with_reducible refine Keeps.ite (fun hc => ?_) (fun hc => ?_)
    | (with_reducible apply Keeps.on (State.settleBound_keeps ..); on_goal 2 => decide)
    | (with_reducible apply Keeps.on (State.setRly_keeps ..); on_goal 2 => decide)
    | split

theorem State.finishRead_keeps (s : State) (r) : Keeps 0x10000 s (State.finishRead s r) := by
  unfold State.finishRead
  repeat' first
    | with_reducible exact Keeps.rfl'
    | with_reducible assumption
    | (extract_lets +onlyGivenNames x; guard_hyp x : State := _; refine Keeps.letv (x := x) ?_ (fun hx => ?_); (on_goal 1 => (unfold x; clear x)); (on_goal 2 => ((try clear_value x); rename' x => y)))
    | (extract_lets +onlyGivenNames x; rename' x => z)
    | with_reducible refine Keeps.ite (fun hc => ?_) (fun hc => ?_)
    | (with_reducible apply Keeps.on (State.finishReq_keeps ..); on_goal 2 => decide)
    | (with_reducible apply Keeps.on (State.modReq_keeps _ _ _ ?q); (case q => with_unfolding_all exact fun r => rfl); on_goal 2 => decide)
    | split
    | (clear_value *; split)

theorem State.refuseSolo_keeps (s : State) (r) : Keeps 0x6340d020c s (State.refuseSolo s r) := by
  unfold State.refuseSolo
  repeat' first
    | with_reducible exact Keeps.rfl'
    | with_reducible assumption
    | (extract_lets +onlyGivenNames x; guard_hyp x : State := _; refine Keeps.letv (x := x) ?_ (fun hx => ?_); (on_goal 1 => (unfold x; clear x)); (on_goal 2 => ((try clear_value x); rename' x => y)))
    | (extract_lets +onlyGivenNames x; rename' x => z)
    | with_reducible refine Keeps.ite (fun hc => ?_) (fun hc => ?_)
    | (with_reducible apply Keeps.on (State.rollSolo_keeps ..); on_goal 2 => decide)
    | (with_reducible apply Keeps.on (State.retryLedger_keeps ..); on_goal 2 => decide)
    | (with_reducible apply Keeps.on (State.ledgerFull_keeps ..); on_goal 2 => decide)
    | with_reducible refine Keeps.foldl ?_ (fun s a => ?_)
    | split
    | (clear_value *; split)

theorem State.settleReq_keeps (s : State) (rid) : Keeps 0x206360d020c s (State.settleReq s rid) := by
  unfold State.settleReq
  repeat' first
    | with_reducible exact Keeps.rfl'
    | with_reducible assumption
    | (extract_lets +onlyGivenNames x; guard_hyp x : State := _; refine Keeps.letv (x := x) ?_ (fun hx => ?_); (on_goal 1 => (unfold x; clear x)); (on_goal 2 => ((try clear_value x); rename' x => y)))
    | (extract_lets +onlyGivenNames x; rename' x => z)
    | with_reducible refine Keeps.ite (fun hc => ?_) (fun hc => ?_)
    | (with_reducible apply Keeps.on (State.checkpointStopped_keeps ..); on_goal 2 => decide)
    | (with_reducible apply Keeps.on (State.dropReq_keeps ..); on_goal 2 => decide)
    | (with_reducible apply Keeps.on (State.retryLedger_keeps ..); on_goal 2 => decide)
    | (with_reducible apply Keeps.on (State.finishRead_keeps ..); on_goal 2 => decide)
    | (with_reducible apply Keeps.on (State.dropInflight_keeps ..); on_goal 2 => decide)
    | (with_reducible apply Keeps.on (State.finishReq_keeps ..); on_goal 2 => decide)
    | (with_reducible apply Keeps.on (State.refuseSolo_keeps ..); on_goal 2 => decide)
    | split
    | (clear_value *; split)

theorem State.endJob_keeps (s : State) (g) (jid) : Keeps 0x206361d020c s (State.endJob s g jid) := by
  unfold State.endJob
  repeat' first
    | with_reducible exact Keeps.rfl'
    | with_reducible assumption
    | (extract_lets +onlyGivenNames x; guard_hyp x : State := _; refine Keeps.letv (x := x) ?_ (fun hx => ?_); (on_goal 1 => (unfold x; clear x)); (on_goal 2 => ((try clear_value x); rename' x => y)))
    | (extract_lets +onlyGivenNames x; rename' x => z)
    | with_reducible refine Keeps.ite (fun hc => ?_) (fun hc => ?_)
    | (with_reducible apply Keeps.on (State.modHub_keeps ..); on_goal 2 => decide)
    | (with_reducible apply Keeps.on (State.settleReq_keeps ..); on_goal 2 => decide)
    | (with_reducible apply Keeps.on (State.modReq_keeps _ _ _ ?q); (case q => with_unfolding_all exact fun r => rfl); on_goal 2 => decide)
    | split
    | (clear_value *; split)

theorem State.countPoison_keeps (s : State) (g) (n) : Keeps 0x100200 s (State.countPoison s g n) := by
  unfold State.countPoison
  repeat' first
    | with_reducible exact Keeps.rfl'
    | with_reducible assumption
    | (extract_lets +onlyGivenNames x; guard_hyp x : State := _; refine Keeps.letv (x := x) ?_ (fun hx => ?_); (on_goal 1 => (unfold x; clear x)); (on_goal 2 => ((try clear_value x); rename' x => y)))
    | (extract_lets +onlyGivenNames x; rename' x => z)
    | with_reducible refine Keeps.ite (fun hc => ?_) (fun hc => ?_)
    | (with_reducible apply Keeps.on (State.raise_keeps ..); on_goal 2 => decide)
    | (with_reducible apply Keeps.on (State.modHub_keeps ..); on_goal 2 => decide)

theorem State.finishReadJob_keeps (s : State) (g) (j) : Keeps 0x2063fbd022c s (State.finishReadJob s g j) := by
  unfold State.finishReadJob
  extract_lets +onlyGivenNames st
  have hp : Keeps 0x2063fbd022c s (if j.askedAll then s.mendStripe g j.stripe j.strips st else (s, [])).1 := by
    split
    · exact (State.mendStripe_keeps ..).mono (by decide)
    · exact Keeps.rfl'
  revert hp
  generalize (if j.askedAll then s.mendStripe g j.stripe j.strips st else (s, [])) = p
  intro hp
  obtain ⟨s1, ws⟩ := p
  dsimp only at hp ⊢
  repeat' first
    | with_reducible exact Keeps.rfl'
    | with_reducible assumption
    | (extract_lets +onlyGivenNames x; guard_hyp x : State := _; refine Keeps.letv (x := x) ?_ (fun hx => ?_); (on_goal 1 => (unfold x; clear x)); (on_goal 2 => ((try clear_value x); rename' x => y)))
    | (extract_lets +onlyGivenNames x; rename' x => z)
    | with_reducible refine Keeps.ite (fun hc => ?_) (fun hc => ?_)
    | (with_reducible apply Keeps.on (State.mendStripe_keeps ..); on_goal 2 => decide)
    | (split; rename_i t w hq; refine Keeps.letv (x := t) (Keeps.ofFst hq (Keeps.on (State.mendStripe_keeps ..) (by first | assumption | exact Keeps.rfl') (by decide))) (fun ht => ?_); clear hq)
    | (with_reducible apply Keeps.on (State.countPoison_keeps ..); on_goal 2 => decide)
    | (with_reducible apply Keeps.on (State.noteUnsure_keeps ..); on_goal 2 => decide)
    | (with_reducible apply Keeps.on (State.modReq_keeps _ _ _ ?q); (case q => with_unfolding_all exact fun r => rfl); on_goal 2 => decide)
    | (with_reducible apply Keeps.on (State.bumpRt_keeps ..); on_goal 2 => decide)
    | (with_reducible apply Keeps.on (State.flagReq_keeps ..); on_goal 2 => decide)
    | (with_reducible apply Keeps.on (State.endJob_keeps ..); on_goal 2 => decide)
    | (with_reducible apply Keeps.on (State.spawnRepair_keeps ..); on_goal 2 => decide)
    | with_reducible refine Keeps.foldl ?_ (fun s a => ?_)
    | split
    | (clear_value *; split)

theorem State.composeWrite_keeps (s : State) (g) (j) : Keeps 0x235190204 s (State.composeWrite s g j).1 := by
  unfold State.composeWrite
  extract_lets pm away two old news kept lostW e1 s1 e2 s2 s3 dead s5
  have h1 : Keeps 0x235190204 s s1 := Keeps.on (keeps_err s _ id) Keeps.rfl' (by decide)
  have h2 : Keeps 0x235190204 s s2 := (keeps_spr ..).on h1 (by decide)
  have h3 : Keeps 0x235190204 s s3 := Keeps.ite (fun _ => Keeps.on (State.modReq_keeps _ _ _ fun r => rfl) h2 (by decide)) fun _ => h2
  have h5 : Keeps 0x235190204 s s5 := by
    refine Keeps.foldl h3 fun s m => ?_
    exact Keeps.ite (fun _ => Keeps.rfl') fun _ => (State.logPoison_keeps ..).on (m := 0x234080204) ((State.noteUnsure_keeps ..).mono (by decide)) (by decide)
  clear_value s5
  generalize hq : List.foldl _ (s5, ([] : List (Fin 9 × Line × Check × Bool))) _ = q
  have h6 : Keeps 0x235190204 s q.1 := by
    rw [← hq]
    refine Keeps.foldPair h5 fun p a => ?_
    exact (State.mendStrip_keeps ..).mono (by decide)
  clear hq
  obtain ⟨s6, mends⟩ := q
  exact (State.noteFailures_keeps ..).on h6 (by decide)

theorem State.finishWriteReads_keeps (s : State) (g) (j) : Keeps 0x2063fbd022c s (State.finishWriteReads s g j) := by
  unfold State.finishWriteReads
  have hp : Keeps 0x2063fbd022c s (s.composeWrite g j).1 := (State.composeWrite_keeps ..).mono (by decide)
  revert hp
  generalize s.composeWrite g j = p
  intro hp
  obtain ⟨s1, ws⟩ := p
  dsimp only at hp ⊢
  repeat' first
    | with_reducible exact Keeps.rfl'
    | with_reducible assumption
    | (extract_lets +onlyGivenNames x; guard_hyp x : State := _; refine Keeps.letv (x := x) ?_ (fun hx => ?_); (on_goal 1 => (unfold x; clear x)); (on_goal 2 => ((try clear_value x); rename' x => y)))
    | (extract_lets +onlyGivenNames x; rename' x => z)
    | with_reducible refine Keeps.ite (fun hc => ?_) (fun hc => ?_)
    | (with_reducible apply Keeps.on (State.composeWrite_keeps ..); on_goal 2 => decide)
    | (split; rename_i t w hq; refine Keeps.letv (x := t) (Keeps.ofFst hq (Keeps.on (State.composeWrite_keeps ..) (by first | assumption | exact Keeps.rfl') (by decide))) (fun ht => ?_); clear hq)
    | (with_reducible apply Keeps.on (State.endJob_keeps ..); on_goal 2 => decide)
    | (with_reducible apply Keeps.on (State.modJob_keeps ..); on_goal 2 => decide)
    | (with_reducible apply Keeps.on (State.openEntry_keeps ..); on_goal 2 => decide)
    | (with_reducible apply Keeps.on (State.spawnRepair_keeps ..); on_goal 2 => decide)

theorem State.composeRelay_keeps (s : State) (g) (j) (r) : Keeps 0x10235980204 s (State.composeRelay s g j r).1 := by
  unfold State.composeRelay
  repeat' first
    | with_reducible exact Keeps.rfl'
    | with_reducible assumption
    | (extract_lets +onlyGivenNames x; guard_hyp x : State := _; refine Keeps.letv (x := x) ?_ (fun hx => ?_); (on_goal 1 => (unfold x; clear x)); (on_goal 2 => ((try clear_value x); rename' x => y)))
    | (extract_lets +onlyGivenNames x; rename' x => z)
    | with_reducible refine Keeps.ite (fun hc => ?_) (fun hc => ?_)
    | (with_reducible apply Keeps.on (State.noteUnsure_keeps ..); on_goal 2 => decide)
    | (with_reducible apply Keeps.on (State.mendStripe_keeps ..); on_goal 2 => decide)
    | (split; rename_i t w hq; refine Keeps.letv (x := t) (Keeps.ofFst hq (Keeps.on (State.mendStripe_keeps ..) (by first | assumption | exact Keeps.rfl') (by decide))) (fun ht => ?_); clear hq)
    | (with_reducible apply Keeps.on (State.recordLoss_keeps ..); on_goal 2 => decide)
    | (with_reducible apply Keeps.on (State.logPoison_keeps ..); on_goal 2 => decide)
    | (with_reducible apply Keeps.on (State.putStrips_keeps ..); on_goal 2 => decide)
    | split
    | (clear_value *; split)

theorem State.finishRelay_keeps (s : State) (g) (j) : Keeps 0x3063fbd022c s (State.finishRelay s g j) := by
  unfold State.finishRelay
  repeat' first
    | with_reducible exact Keeps.rfl'
    | with_reducible assumption
    | (extract_lets +onlyGivenNames x; guard_hyp x : State := _; refine Keeps.letv (x := x) ?_ (fun hx => ?_); (on_goal 1 => (unfold x; clear x)); (on_goal 2 => ((try clear_value x); rename' x => y)))
    | (extract_lets +onlyGivenNames x; rename' x => z)
    | with_reducible refine Keeps.ite (fun hc => ?_) (fun hc => ?_)
    | (with_reducible apply Keeps.on (State.endJob_keeps ..); on_goal 2 => decide)
    | (with_reducible apply Keeps.on (State.modHub_keeps ..); on_goal 2 => decide)
    | (with_reducible apply Keeps.on (State.composeRelay_keeps ..); on_goal 2 => decide)
    | (split; rename_i t w hq; refine Keeps.letv (x := t) (Keeps.ofFst hq (Keeps.on (State.composeRelay_keeps ..) (by first | assumption | exact Keeps.rfl') (by decide))) (fun ht => ?_); clear hq)
    | (with_reducible apply Keeps.on (State.sendWrites_keeps ..); on_goal 2 => decide)
    | (with_reducible apply Keeps.on (State.modJob_keeps ..); on_goal 2 => decide)
    | split
    | (clear_value *; split)

theorem State.readStalledBack_keeps (s : State) (g) (j) : Keeps 0x8b10020 s (State.readStalledBack s g j) := by
  unfold State.readStalledBack
  repeat' first
    | with_reducible exact Keeps.rfl'
    | with_reducible assumption
    | (extract_lets +onlyGivenNames x; guard_hyp x : State := _; refine Keeps.letv (x := x) ?_ (fun hx => ?_); (on_goal 1 => (unfold x; clear x)); (on_goal 2 => ((try clear_value x); rename' x => y)))
    | (extract_lets +onlyGivenNames x; rename' x => z)
    | with_reducible refine Keeps.ite (fun hc => ?_) (fun hc => ?_)
    | (with_reducible apply Keeps.on (State.modJob_keeps ..); on_goal 2 => decide)
    | (with_reducible apply Keeps.on (State.askStrips_keeps ..); on_goal 2 => decide)
    | with_reducible refine Keeps.foldl ?_ (fun s a => ?_)

theorem State.readDirectAfterAll_keeps (s : State) (g) (j) : Keeps 0x8b10020 s (State.readDirectAfterAll s g j) := by
  unfold State.readDirectAfterAll
  repeat' first
    | with_reducible exact Keeps.rfl'
    | with_reducible assumption
    | (extract_lets +onlyGivenNames x; guard_hyp x : State := _; refine Keeps.letv (x := x) ?_ (fun hx => ?_); (on_goal 1 => (unfold x; clear x)); (on_goal 2 => ((try clear_value x); rename' x => y)))
    | (extract_lets +onlyGivenNames x; rename' x => z)
    | with_reducible refine Keeps.ite (fun hc => ?_) (fun hc => ?_)
    | (with_reducible apply Keeps.on (State.modJob_keeps ..); on_goal 2 => decide)
    | (with_reducible apply Keeps.on (State.askStrips_keeps ..); on_goal 2 => decide)
    | with_reducible refine Keeps.foldl ?_ (fun s a => ?_)
    | split
    | (clear_value *; split)

theorem State.finishIfIn_keeps (s : State) (g) (j) : Keeps 0x3063fbd022c s (State.finishIfIn s g j) := by
  unfold State.finishIfIn
  repeat' first
    | with_reducible exact Keeps.rfl'
    | with_reducible refine Keeps.ite (fun hc => ?_) (fun hc => ?_)
    | (with_reducible apply Keeps.on (State.finishReadJob_keeps ..); on_goal 2 => decide)
    | (with_reducible apply Keeps.on (State.finishRelay_keeps ..); on_goal 2 => decide)
    | (with_reducible apply Keeps.on (State.finishWriteReads_keeps ..); on_goal 2 => decide)

theorem State.withJob_keeps {m : Nat} {s0 s : State} {g : Fin 8} {jid : Nat} {f : State → Job → State} (h : Keeps m s0 s)
    (hf : ∀ s j, Keeps m s (f s j)) : Keeps m s0 (s.withJob g jid f) := by
  unfold State.withJob
  split
  · exact h
  · exact h.trans (hf s _)

theorem State.progress_keeps (s : State) (g) (jid) : Keeps 0x3063fbd022c s (State.progress s g jid) := by
  unfold State.progress
  repeat' first
    | with_reducible exact Keeps.rfl'
    | with_reducible assumption
    | (extract_lets +onlyGivenNames x; guard_hyp x : State := _; refine Keeps.letv (x := x) ?_ (fun hx => ?_); (on_goal 1 => (unfold x; clear x)); (on_goal 2 => ((try clear_value x); rename' x => y)))
    | (extract_lets +onlyGivenNames x; rename' x => z)
    | with_reducible refine Keeps.ite (fun hc => ?_) (fun hc => ?_)
    | with_reducible refine State.withJob_keeps ?_ (fun s j => ?_)
    | (with_reducible apply Keeps.on (State.askStrips_keeps ..); on_goal 2 => decide)
    | (with_reducible apply Keeps.on (State.readStalledBack_keeps ..); on_goal 2 => decide)
    | (with_reducible apply Keeps.on (State.readDirectAfterAll_keeps ..); on_goal 2 => decide)
    | (with_reducible apply Keeps.on (State.finishIfIn_keeps ..); on_goal 2 => decide)

theorem State.startRead_keeps (s : State) (g) (j) : Keeps 0x3063fbd022c s (State.startRead s g j) := by
  unfold State.startRead
  repeat' first
    | with_reducible exact Keeps.rfl'
    | with_reducible assumption
    | (extract_lets +onlyGivenNames x; guard_hyp x : State := _; refine Keeps.letv (x := x) ?_ (fun hx => ?_); (on_goal 1 => (unfold x; clear x)); (on_goal 2 => ((try clear_value x); rename' x => y)))
    | (extract_lets +onlyGivenNames x; rename' x => z)
    | with_reducible refine Keeps.ite (fun hc => ?_) (fun hc => ?_)
    | (with_reducible apply Keeps.on (State.modReq_keeps _ _ _ ?q); (case q => with_unfolding_all exact fun r => rfl); on_goal 2 => decide)
    | (with_reducible apply Keeps.on (State.endJob_keeps ..); on_goal 2 => decide)
    | (with_reducible apply Keeps.on (State.countPoison_keeps ..); on_goal 2 => decide)
    | (with_reducible apply Keeps.on (State.modJob_keeps ..); on_goal 2 => decide)
    | (with_reducible apply Keeps.on (State.askStrips_keeps ..); on_goal 2 => decide)
    | (with_reducible apply Keeps.on (State.progress_keeps ..); on_goal 2 => decide)
    | with_reducible refine Keeps.foldl ?_ (fun s a => ?_)

theorem State.startRelay_keeps (s : State) (g) (j) : Keeps 0x3063fbd022c s (State.startRelay s g j) := by
  unfold State.startRelay
  repeat' first
    | with_reducible exact Keeps.rfl'
    | with_reducible assumption
    | (extract_lets +onlyGivenNames x; guard_hyp x : State := _; refine Keeps.letv (x := x) ?_ (fun hx => ?_); (on_goal 1 => (unfold x; clear x)); (on_goal 2 => ((try clear_value x); rename' x => y)))
    | (extract_lets +onlyGivenNames x; rename' x => z)
    | with_reducible refine Keeps.ite (fun hc => ?_) (fun hc => ?_)
    | (with_reducible apply Keeps.on (State.endJob_keeps ..); on_goal 2 => decide)
    | (with_reducible apply Keeps.on (State.waitEntry_keeps ..); on_goal 2 => decide)
    | (with_reducible apply Keeps.on (State.modJob_keeps ..); on_goal 2 => decide)
    | (with_reducible apply Keeps.on (State.addEntry_keeps ..); on_goal 2 => decide)
    | (with_reducible apply Keeps.on (State.askStrips_keeps ..); on_goal 2 => decide)
    | (with_reducible apply Keeps.on (State.progress_keeps ..); on_goal 2 => decide)
    | split
    | (clear_value *; split)

theorem State.passLost_keeps (s : State) (g) (j) : Keeps 0x1100000 s (State.passLost s g j) := by
  unfold State.passLost
  repeat' first
    | with_reducible exact Keeps.rfl'
    | with_reducible assumption
    | (extract_lets +onlyGivenNames x; guard_hyp x : State := _; refine Keeps.letv (x := x) ?_ (fun hx => ?_); (on_goal 1 => (unfold x; clear x)); (on_goal 2 => ((try clear_value x); rename' x => y)))
    | (extract_lets +onlyGivenNames x; rename' x => z)
    | with_reducible refine Keeps.ite (fun hc => ?_) (fun hc => ?_)
    | (with_reducible apply Keeps.on (State.modJob_keeps ..); on_goal 2 => decide)
    | fail_if_no_progress (with_reducible apply Keeps.on (keeps_spr ..); on_goal 2 => decide)

theorem State.startWrite_keeps (s : State) (g) (j) : Keeps 0x3063fbd022c s (State.startWrite s g j) := by
  unfold State.startWrite
  repeat' first
    | with_reducible exact Keeps.rfl'
    | with_reducible assumption
    | (extract_lets +onlyGivenNames x; guard_hyp x : State := _; refine Keeps.letv (x := x) ?_ (fun hx => ?_); (on_goal 1 => (unfold x; clear x)); (on_goal 2 => ((try clear_value x); rename' x => y)))
    | (extract_lets +onlyGivenNames x; rename' x => z)
    | with_reducible refine Keeps.ite (fun hc => ?_) (fun hc => ?_)
    | (with_reducible apply Keeps.on (State.endJob_keeps ..); on_goal 2 => decide)
    | (with_reducible apply Keeps.on (State.modJob_keeps ..); on_goal 2 => decide)
    | (with_reducible apply Keeps.on (State.progress_keeps ..); on_goal 2 => decide)
    | (with_reducible apply Keeps.on (State.askStrips_keeps ..); on_goal 2 => decide)

theorem State.startJob_keeps (s : State) (g) (jid) : Keeps 0x3063fbd022c s (State.startJob s g jid) := by
  unfold State.startJob
  repeat' first
    | with_reducible exact Keeps.rfl'
    | with_reducible assumption
    | (extract_lets +onlyGivenNames x; guard_hyp x : State := _; refine Keeps.letv (x := x) ?_ (fun hx => ?_); (on_goal 1 => (unfold x; clear x)); (on_goal 2 => ((try clear_value x); rename' x => y)))
    | (extract_lets +onlyGivenNames x; rename' x => z)
    | with_reducible refine Keeps.ite (fun hc => ?_) (fun hc => ?_)
    | (with_reducible apply Keeps.on (State.flagReq_keeps ..); on_goal 2 => decide)
    | (with_reducible apply Keeps.on (State.startRead_keeps ..); on_goal 2 => decide)
    | (with_reducible apply Keeps.on (State.startRelay_keeps ..); on_goal 2 => decide)
    | (with_reducible apply Keeps.on (State.spawnZero_keeps ..); on_goal 2 => decide)
    | with_reducible refine State.withJob_keeps ?_ (fun s j => ?_)
    | (with_reducible apply Keeps.on (State.passLost_keeps ..); on_goal 2 => decide)
    | (with_reducible apply Keeps.on (State.startWrite_keeps ..); on_goal 2 => decide)
    | split

theorem State.kick_keeps (s : State) (g) : Keeps 0x3063fbd022c s (State.kick s g) := by
  unfold State.kick
  repeat' first
    | with_reducible exact Keeps.rfl'
    | with_reducible assumption
    | (extract_lets +onlyGivenNames x; guard_hyp x : State := _; refine Keeps.letv (x := x) ?_ (fun hx => ?_); (on_goal 1 => (unfold x; clear x)); (on_goal 2 => ((try clear_value x); rename' x => y)))
    | (extract_lets +onlyGivenNames x; rename' x => z)
    | with_reducible refine Keeps.ite (fun hc => ?_) (fun hc => ?_)
    | (with_reducible apply Keeps.on (State.releaseHeld_keeps ..); on_goal 2 => decide)
    | (with_reducible apply Keeps.on (State.startJob_keeps ..); on_goal 2 => decide)
    | (with_reducible apply Keeps.on (State.progress_keeps ..); on_goal 2 => decide)
    | (with_reducible apply Keeps.on (State.openEntry_keeps ..); on_goal 2 => decide)
    | with_reducible refine Keeps.foldl ?_ (fun s a => ?_)
    | split
    | (clear_value *; split)

theorem State.stripArrives_keeps (s : State) (g) (jid) (m) (x) : Keeps 0x3063fbd022c s (State.stripArrives s g jid m x) := by
  unfold State.stripArrives
  repeat' first
    | with_reducible exact Keeps.rfl'
    | with_reducible assumption
    | (extract_lets +onlyGivenNames x; guard_hyp x : State := _; refine Keeps.letv (x := x) ?_ (fun hx => ?_); (on_goal 1 => (unfold x; clear x)); (on_goal 2 => ((try clear_value x); rename' x => y)))
    | (extract_lets +onlyGivenNames x; rename' x => z)
    | (with_reducible apply Keeps.on (State.progress_keeps ..); on_goal 2 => decide)
    | (with_reducible apply Keeps.on (State.modJob_keeps ..); on_goal 2 => decide)
    | split

theorem State.retireEntry_keeps (s : State) (g) (j) (k) : Keeps 0x306379d020c s (State.retireEntry s g j k) := by
  unfold State.retireEntry
  repeat' first
    | with_reducible exact Keeps.rfl'
    | with_reducible assumption
    | (extract_lets +onlyGivenNames x; guard_hyp x : State := _; refine Keeps.letv (x := x) ?_ (fun hx => ?_); (on_goal 1 => (unfold x; clear x)); (on_goal 2 => ((try clear_value x); rename' x => y)))
    | (extract_lets +onlyGivenNames x; rename' x => z)
    | with_reducible refine Keeps.ite (fun hc => ?_) (fun hc => ?_)
    | (with_reducible apply Keeps.on (State.modHub_keeps ..); on_goal 2 => decide)
    | (with_reducible apply Keeps.on (State.endJob_keeps ..); on_goal 2 => decide)
    | (with_reducible apply Keeps.on (State.relayRetired_keeps ..); on_goal 2 => decide)
    | (with_reducible apply Keeps.on (State.clearVoid_keeps ..); on_goal 2 => decide)

theorem State.writeAcked_keeps (s : State) (g) (jid) (m) : Keeps 0x306379d020c s (State.writeAcked s g jid m) := by
  unfold State.writeAcked
  repeat' first
    | with_reducible exact Keeps.rfl'
    | with_reducible assumption
    | (extract_lets +onlyGivenNames x; guard_hyp x : State := _; refine Keeps.letv (x := x) ?_ (fun hx => ?_); (on_goal 1 => (unfold x; clear x)); (on_goal 2 => ((try clear_value x); rename' x => y)))
    | (extract_lets +onlyGivenNames x; rename' x => z)
    | with_reducible refine Keeps.ite (fun hc => ?_) (fun hc => ?_)
    | (with_reducible apply Keeps.on (State.retireEntry_keeps ..); on_goal 2 => decide)
    | (with_reducible apply Keeps.on (State.modHub_keeps ..); on_goal 2 => decide)
    | split
    | (clear_value *; split)

theorem State.countCopy_keeps (s : State) (w) : Keeps 0x400100200 s (State.countCopy s w) := by
  unfold State.countCopy
  repeat' first
    | with_reducible exact Keeps.rfl'
    | with_reducible assumption
    | (extract_lets +onlyGivenNames x; guard_hyp x : State := _; refine Keeps.letv (x := x) ?_ (fun hx => ?_); (on_goal 1 => (unfold x; clear x)); (on_goal 2 => ((try clear_value x); rename' x => y)))
    | (extract_lets +onlyGivenNames x; rename' x => z)
    | with_reducible refine Keeps.ite (fun hc => ?_) (fun hc => ?_)
    | (with_reducible apply Keeps.on (State.noteStale_keeps ..); on_goal 2 => decide)
    | (with_reducible apply Keeps.on (State.passEntry_keeps ..); on_goal 2 => decide)
    | (with_reducible apply Keeps.on (State.countKind_keeps ..); on_goal 2 => decide)

end Sys2Proof.Machine
end

