-- ==== Sys2Proof/Laws/KeepsPorts.lean ====
section
/-!
SUPPORT. One lemma per operation of Machine/TelOps.lean, Machine/PortOps.lean, Machine/Ledger.lean, Machine/Ports.lean: the parts it may change, and that it keeps the invariant.
-/
set_option linter.all false
namespace Sys2Proof.Machine
set_option Elab.async false

theorem setCursor_tableBad (l : Ledger) (h : Fin 2) (v) : (l.setCursor h v).tableBad = l.tableBad := by
  unfold Ledger.setCursor; split <;> rfl

theorem State.reloadSample_keeps (s : State) : Keeps 0x800000000 s (State.reloadSample s) := by
  unfold State.reloadSample
  repeat' first
    | with_reducible exact Keeps.rfl'
    | with_reducible assumption
    | (extract_lets +onlyGivenNames x; guard_hyp x : State := _; refine Keeps.letv (x := x) ?_ (fun hx => ?_); (on_goal 1 => (unfold x; clear x)); (on_goal 2 => ((try clear_value x); rename' x => y)))
    | (extract_lets +onlyGivenNames x; rename' x => z)
    | fail_if_no_progress (with_reducible apply Keeps.on (keeps_telCount ..); on_goal 2 => decide)
    | fail_if_no_progress (with_reducible apply Keeps.on (keeps_tel _ _ ?q ?r ?v); (case q => exact rfl); (case r => exact rfl); (case v => first | exact id | with_unfolding_all exact fun _ => Nat.zero_le _); on_goal 2 => decide)
    | fail_if_no_progress (with_reducible apply Keeps.on (keeps_telAll _ _ ?q); (case q => first | exact id | with_unfolding_all exact fun _ => Nat.zero_le _); on_goal 2 => decide)

theorem State.startSampling_keeps (s : State) : Keeps 0x800000000 s (State.startSampling s) := by
  unfold State.startSampling
  repeat' first
    | with_reducible exact Keeps.rfl'
    | with_reducible assumption
    | (extract_lets +onlyGivenNames x; guard_hyp x : State := _; refine Keeps.letv (x := x) ?_ (fun hx => ?_); (on_goal 1 => (unfold x; clear x)); (on_goal 2 => ((try clear_value x); rename' x => y)))
    | (extract_lets +onlyGivenNames x; rename' x => z)
    | with_reducible refine Keeps.ite (fun hc => ?_) (fun hc => ?_)
    | (with_reducible apply Keeps.on (State.reloadSample_keeps ..); on_goal 2 => decide)
    | fail_if_no_progress (with_reducible apply Keeps.on (keeps_telCount ..); on_goal 2 => decide)
    | fail_if_no_progress (with_reducible apply Keeps.on (keeps_tel _ _ ?q ?r ?v); (case q => exact rfl); (case r => exact rfl); (case v => first | exact id | with_unfolding_all exact fun _ => Nat.zero_le _); on_goal 2 => decide)
    | fail_if_no_progress (with_reducible apply Keeps.on (keeps_telAll _ _ ?q); (case q => first | exact id | with_unfolding_all exact fun _ => Nat.zero_le _); on_goal 2 => decide)

theorem State.sampleNext_keeps (s : State) (p) (op) (cls) : Keeps 0x800000000 s (State.sampleNext s p op cls).1 := by
  unfold State.sampleNext
  repeat' first
    | with_reducible exact Keeps.rfl'
    | with_reducible assumption
    | (extract_lets +onlyGivenNames x; guard_hyp x : State := _; refine Keeps.letv (x := x) ?_ (fun hx => ?_); (on_goal 1 => (unfold x; clear x)); (on_goal 2 => ((try clear_value x); rename' x => y)))
    | (extract_lets +onlyGivenNames x; rename' x => z)
    | with_reducible refine Keeps.ite (fun hc => ?_) (fun hc => ?_)
    | (with_reducible apply Keeps.on (State.reloadSample_keeps ..); on_goal 2 => decide)
    | fail_if_no_progress (with_reducible apply Keeps.on (keeps_telCount ..); on_goal 2 => decide)
    | fail_if_no_progress (with_reducible apply Keeps.on (keeps_tel _ _ ?q ?r ?v); (case q => exact rfl); (case r => exact rfl); (case v => first | exact id | with_unfolding_all exact fun _ => Nat.zero_le _); on_goal 2 => decide)
    | fail_if_no_progress (with_reducible apply Keeps.on (keeps_telAll _ _ ?q); (case q => first | exact id | with_unfolding_all exact fun _ => Nat.zero_le _); on_goal 2 => decide)
    | split
    | (clear_value *; split)

theorem State.closeFill_keeps (s : State) : Keeps 0x800000200 s (State.closeFill s) := by
  unfold State.closeFill
  repeat' first
    | with_reducible exact Keeps.rfl'
    | with_reducible assumption
    | (extract_lets +onlyGivenNames x; guard_hyp x : State := _; refine Keeps.letv (x := x) ?_ (fun hx => ?_); (on_goal 1 => (unfold x; clear x)); (on_goal 2 => ((try clear_value x); rename' x => y)))
    | (extract_lets +onlyGivenNames x; rename' x => z)
    | with_reducible refine Keeps.ite (fun hc => ?_) (fun hc => ?_)
    | (with_reducible apply Keeps.on (State.raise_keeps ..); on_goal 2 => decide)
    | fail_if_no_progress (with_reducible apply Keeps.on (keeps_telCount ..); on_goal 2 => decide)
    | fail_if_no_progress (with_reducible apply Keeps.on (keeps_tel _ _ ?q ?r ?v); (case q => exact rfl); (case r => exact rfl); (case v => first | exact id | with_unfolding_all exact fun _ => Nat.zero_le _); on_goal 2 => decide)
    | fail_if_no_progress (with_reducible apply Keeps.on (keeps_telAll _ _ ?q); (case q => first | exact id | with_unfolding_all exact fun _ => Nat.zero_le _); on_goal 2 => decide)

theorem State.writeRecord_keeps (s : State) (r) (h : s.tel.fill.length < 2048) : Keeps 0x800000200 s (State.writeRecord s r) := by
  unfold State.writeRecord
  extract_lets x t
  have ht : Keeps 0x800000200 s t := by
    refine Keeps.on (m := 0x800000000) ?_ Keeps.rfl' (by decide)
    refine keeps_tel s _ rfl rfl fun _ => ?_
    show (x.fill ++ [r]).length ≤ 2048
    rw [List.length_append]; exact h
  exact Keeps.ite (fun _ => (State.closeFill_keeps ..).on ht (by decide)) fun _ => ht

theorem State.dropRecord_keeps (s : State) (seq) : Keeps 0x800000200 s (State.dropRecord s seq) := by
  unfold State.dropRecord
  repeat' first
    | with_reducible exact Keeps.rfl'
    | with_reducible assumption
    | (extract_lets +onlyGivenNames x; guard_hyp x : State := _; refine Keeps.letv (x := x) ?_ (fun hx => ?_); (on_goal 1 => (unfold x; clear x)); (on_goal 2 => ((try clear_value x); rename' x => y)))
    | (extract_lets +onlyGivenNames x; rename' x => z)
    | with_reducible refine Keeps.ite (fun hc => ?_) (fun hc => ?_)
    | (with_reducible apply Keeps.on (State.raiseIf_keeps ..); on_goal 2 => decide)
    | fail_if_no_progress (with_reducible apply Keeps.on (keeps_telCount ..); on_goal 2 => decide)
    | fail_if_no_progress (with_reducible apply Keeps.on (keeps_tel _ _ ?q ?r ?v); (case q => exact rfl); (case r => exact rfl); (case v => first | exact id | with_unfolding_all exact fun _ => Nat.zero_le _); on_goal 2 => decide)
    | fail_if_no_progress (with_reducible apply Keeps.on (keeps_telAll _ _ ?q); (case q => first | exact id | with_unfolding_all exact fun _ => Nat.zero_le _); on_goal 2 => decide)

theorem State.offerRecord_keeps (s : State) (seq) (r) : Keeps 0x800000200 s (State.offerRecord s seq r) := by
  unfold State.offerRecord
  refine Keeps.ite (fun _ => (State.dropRecord_keeps ..).mono (by decide)) fun hb => ?_
  have hs : s.tel.fill.length < 2048 := by
    by_contra hn
    exact hb (by simp [State.sampleBlocked, Nat.le_of_not_lt hn])
  refine Keeps.ite (fun _ => ?_) fun _ => (State.writeRecord_keeps s r hs).mono (by decide)
  extract_lets t x u
  have ht : Keeps 0x800000200 s t := (State.writeRecord_keeps s _ hs).mono (by decide)
  have hu : Keeps 0x800000200 s u := by
    refine Keeps.on (m := 0x800000000) ?_ ht (by decide)
    exact keeps_tel t _ rfl rfl id
  exact Keeps.ite (fun _ => (State.dropRecord_keeps ..).on hu (by decide)) fun hn =>
    (State.writeRecord_keeps u r (Nat.lt_of_not_le hn)).on hu (by decide)

theorem State.clearSamples_keeps (s : State) : Keeps 0x800000000 s (State.clearSamples s) := by
  unfold State.clearSamples
  repeat' first
    | with_reducible exact Keeps.rfl'
    | with_reducible assumption
    | (extract_lets +onlyGivenNames x; guard_hyp x : State := _; refine Keeps.letv (x := x) ?_ (fun hx => ?_); (on_goal 1 => (unfold x; clear x)); (on_goal 2 => ((try clear_value x); rename' x => y)))
    | (extract_lets +onlyGivenNames x; rename' x => z)
    | fail_if_no_progress (with_reducible apply Keeps.on (keeps_telCount ..); on_goal 2 => decide)
    | fail_if_no_progress (with_reducible apply Keeps.on (keeps_tel _ _ ?q ?r ?v); (case q => exact rfl); (case r => exact rfl); (case v => first | exact id | with_unfolding_all exact fun _ => Nat.zero_le _); on_goal 2 => decide)
    | fail_if_no_progress (with_reducible apply Keeps.on (keeps_telAll _ _ ?q); (case q => first | exact id | with_unfolding_all exact fun _ => Nat.zero_le _); on_goal 2 => decide)

theorem State.sampleDone_keeps (s : State) (r) (code) (disc) : Keeps 0x800000200 s (State.sampleDone s r code disc) := by
  unfold State.sampleDone
  repeat' first
    | with_reducible exact Keeps.rfl'
    | with_reducible assumption
    | (extract_lets +onlyGivenNames x; guard_hyp x : State := _; refine Keeps.letv (x := x) ?_ (fun hx => ?_); (on_goal 1 => (unfold x; clear x)); (on_goal 2 => ((try clear_value x); rename' x => y)))
    | (extract_lets +onlyGivenNames x; rename' x => z)
    | (with_reducible apply Keeps.on (State.offerRecord_keeps ..); on_goal 2 => decide)
    | split

theorem State.voidHub_keeps (s : State) (g) : Keeps 0x10000 s (State.voidHub s g) := by
  unfold State.voidHub
  repeat' first
    | with_reducible exact Keeps.rfl'
    | (with_reducible apply Keeps.on (State.voidGuarantees_keeps ..); on_goal 2 => decide)

theorem State.notePace_keeps (s : State) (old : State) : Keeps 0x410200 s (State.notePace s old) := by
  unfold State.notePace
  repeat' first
    | with_reducible exact Keeps.rfl'
    | with_reducible assumption
    | (extract_lets +onlyGivenNames x; guard_hyp x : State := _; refine Keeps.letv (x := x) ?_ (fun hx => ?_); (on_goal 1 => (unfold x; clear x)); (on_goal 2 => ((try clear_value x); rename' x => y)))
    | (extract_lets +onlyGivenNames x; rename' x => z)
    | with_reducible refine Keeps.ite (fun hc => ?_) (fun hc => ?_)
    | (with_reducible apply Keeps.on (State.detectCut_keeps ..); on_goal 2 => decide)
    | (with_reducible apply Keeps.on (State.voidGuarantees_keeps ..); on_goal 2 => decide)
    | (with_reducible apply Keeps.on (State.raise_keeps ..); on_goal 2 => decide)

theorem State.abortGroup_keeps (s : State) (gid) : Keeps 0x40000 s (State.abortGroup s gid) := by
  unfold State.abortGroup
  repeat' first
    | with_reducible exact Keeps.rfl'
    | with_reducible assumption
    | (extract_lets +onlyGivenNames x; guard_hyp x : State := _; refine Keeps.letv (x := x) ?_ (fun hx => ?_); (on_goal 1 => (unfold x; clear x)); (on_goal 2 => ((try clear_value x); rename' x => y)))
    | (extract_lets +onlyGivenNames x; rename' x => z)
    | (with_reducible apply Keeps.on (State.setGroup_keeps ..); on_goal 2 => decide)
    | fail_if_no_progress (with_reducible apply Keeps.on (keeps_ledgerTable ..); on_goal 2 => decide)
    | fail_if_no_progress (with_reducible apply Keeps.on (keeps_ledger _ _ ?q); (case q => exact rfl); on_goal 2 => decide)
    | fail_if_no_progress (with_reducible apply Keeps.on (keeps_ledgerAll ..); on_goal 2 => decide)

theorem State.freezeLedger_keeps (s : State) : Keeps 0x6340d020c s (State.freezeLedger s) := by
  unfold State.freezeLedger
  repeat' first
    | with_reducible exact Keeps.rfl'
    | with_reducible assumption
    | (extract_lets +onlyGivenNames x; guard_hyp x : State := _; refine Keeps.letv (x := x) ?_ (fun hx => ?_); (on_goal 1 => (unfold x; clear x)); (on_goal 2 => ((try clear_value x); rename' x => y)))
    | (extract_lets +onlyGivenNames x; rename' x => z)
    | with_reducible refine Keeps.ite (fun hc => ?_) (fun hc => ?_)
    | (with_reducible apply Keeps.on (State.abortGroup_keeps ..); on_goal 2 => decide)
    | (with_reducible apply Keeps.on (State.rollSolo_keeps ..); on_goal 2 => decide)
    | (with_reducible apply Keeps.on (State.mapReqs_keeps _ _ ?q); (case q => (intro r; (try split) <;> with_unfolding_all rfl)); on_goal 2 => decide)
    | (with_reducible apply Keeps.on (State.retryLedger_keeps ..); on_goal 2 => decide)
    | fail_if_no_progress (with_reducible apply Keeps.on (keeps_ledgerTable ..); on_goal 2 => decide)
    | fail_if_no_progress (with_reducible apply Keeps.on (keeps_ledger _ _ ?q); (case q => exact rfl); on_goal 2 => decide)
    | fail_if_no_progress (with_reducible apply Keeps.on (keeps_ledgerAll ..); on_goal 2 => decide)
    | with_reducible refine Keeps.foldl ?_ (fun s a => ?_)

theorem State.warmFreeze_keeps (s : State) : Keeps 0x6340d020c s (State.warmFreeze s) := by
  unfold State.warmFreeze
  repeat' first
    | with_reducible exact Keeps.rfl'
    | with_reducible refine Keeps.ite (fun hc => ?_) (fun hc => ?_)
    | (with_reducible apply Keeps.on (State.freezeLedger_keeps ..); on_goal 2 => decide)

theorem State.dropAwaiting_keeps (s : State) (p) : Keeps 0x206340d020c s (State.dropAwaiting s p) := by
  unfold State.dropAwaiting
  repeat' first
    | with_reducible exact Keeps.rfl'
    | with_reducible assumption
    | (extract_lets +onlyGivenNames x; guard_hyp x : State := _; refine Keeps.letv (x := x) ?_ (fun hx => ?_); (on_goal 1 => (unfold x; clear x)); (on_goal 2 => ((try clear_value x); rename' x => y)))
    | (extract_lets +onlyGivenNames x; rename' x => z)
    | (with_reducible apply Keeps.on (State.warmFreeze_keeps ..); on_goal 2 => decide)
    | fail_if_no_progress (with_reducible apply Keeps.on (keeps_reqsAll _ _ ?q); (case q => first | exact reqsOk_filter _ | exact reqsOk_map (fun r => by split <;> exact ⟨rfl, rfl, rfl⟩) | exact fun _ => reqsOk_nil); on_goal 2 => decide)

theorem State.isolate_keeps (s : State) (p) (cause) : Keeps 0x206340d820c s (State.isolate s p cause) := by
  unfold State.isolate
  repeat' first
    | with_reducible exact Keeps.rfl'
    | with_reducible assumption
    | (extract_lets +onlyGivenNames x; guard_hyp x : State := _; refine Keeps.letv (x := x) ?_ (fun hx => ?_); (on_goal 1 => (unfold x; clear x)); (on_goal 2 => ((try clear_value x); rename' x => y)))
    | (extract_lets +onlyGivenNames x; rename' x => z)
    | with_reducible refine Keeps.ite (fun hc => ?_) (fun hc => ?_)
    | (with_reducible apply Keeps.on (State.modPort_keeps ..); on_goal 2 => decide)
    | (with_reducible apply Keeps.on (State.logError_keeps ..); on_goal 2 => decide)
    | (with_reducible apply Keeps.on (State.raise_keeps ..); on_goal 2 => decide)
    | (with_reducible apply Keeps.on (State.dropAwaiting_keeps ..); on_goal 2 => decide)

theorem State.dropLockOf_keeps (s : State) (owner) : Keeps 0x2200 s (State.dropLockOf s owner) := by
  unfold State.dropLockOf
  repeat' first
    | with_reducible exact Keeps.rfl'
    | with_reducible assumption
    | (extract_lets +onlyGivenNames x; guard_hyp x : State := _; refine Keeps.letv (x := x) ?_ (fun hx => ?_); (on_goal 1 => (unfold x; clear x)); (on_goal 2 => ((try clear_value x); rename' x => y)))
    | (extract_lets +onlyGivenNames x; rename' x => z)
    | with_reducible refine Keeps.ite (fun hc => ?_) (fun hc => ?_)
    | (with_reducible apply Keeps.on (State.raiseIf_keeps ..); on_goal 2 => decide)
    | fail_if_no_progress (with_reducible apply Keeps.on (keeps_regSeq _ _ ?q); (case q => first | exact id | exact fun _ => seqOk_reset); on_goal 2 => decide)

theorem State.startPortReset_keeps (s : State) (p) : Keeps 0x206340da20c s (State.startPortReset s p) := by
  unfold State.startPortReset
  repeat' first
    | with_reducible exact Keeps.rfl'
    | with_reducible assumption
    | (extract_lets +onlyGivenNames x; guard_hyp x : State := _; refine Keeps.letv (x := x) ?_ (fun hx => ?_); (on_goal 1 => (unfold x; clear x)); (on_goal 2 => ((try clear_value x); rename' x => y)))
    | (extract_lets +onlyGivenNames x; rename' x => z)
    | with_reducible refine Keeps.ite (fun hc => ?_) (fun hc => ?_)
    | (with_reducible apply Keeps.on (State.modPort_keeps ..); on_goal 2 => decide)
    | (with_reducible apply Keeps.on (State.dropLockOf_keeps ..); on_goal 2 => decide)
    | (with_reducible apply Keeps.on (State.dropAwaiting_keeps ..); on_goal 2 => decide)

theorem State.openGroup_keeps (s : State) (rid) : Keeps 0x50200 s (State.openGroup s rid) := by
  unfold State.openGroup
  generalize s.nextGroup = ng
  repeat' first
    | with_reducible exact Keeps.rfl'
    | with_reducible assumption
    | (extract_lets +onlyGivenNames x; guard_hyp x : State := _; refine Keeps.letv (x := x) ?_ (fun hx => ?_); (on_goal 1 => (unfold x; clear x)); (on_goal 2 => ((try clear_value x); rename' x => y)))
    | (extract_lets +onlyGivenNames x; rename' x => z)
    | (with_reducible apply Keeps.on (State.setGroup_keeps ..); on_goal 2 => decide)
    | (with_reducible apply Keeps.on (State.finishReq_keeps ..); on_goal 2 => decide)
    | (with_reducible apply Keeps.on (State.modReq_keeps _ _ _ ?q); (case q => with_unfolding_all exact fun r => rfl); on_goal 2 => decide)
    | (with_reducible apply Keeps.on (State.raise_keeps ..); on_goal 2 => decide)
    | fail_if_no_progress (with_reducible apply Keeps.on (keeps_ledgerTable ..); on_goal 2 => decide)
    | fail_if_no_progress (with_reducible apply Keeps.on (keeps_ledger _ _ ?q); (case q => exact rfl); on_goal 2 => decide)
    | fail_if_no_progress (with_reducible apply Keeps.on (keeps_ledgerAll ..); on_goal 2 => decide)
    | split
    | (clear_value *; split)

theorem State.endGroup_keeps (s : State) (rid) (r) : Keeps 0x50000 s (State.endGroup s rid r) := by
  unfold State.endGroup
  repeat' first
    | with_reducible exact Keeps.rfl'
    | with_reducible assumption
    | (extract_lets +onlyGivenNames x; guard_hyp x : State := _; refine Keeps.letv (x := x) ?_ (fun hx => ?_); (on_goal 1 => (unfold x; clear x)); (on_goal 2 => ((try clear_value x); rename' x => y)))
    | (extract_lets +onlyGivenNames x; rename' x => z)
    | with_reducible refine Keeps.ite (fun hc => ?_) (fun hc => ?_)
    | (with_reducible apply Keeps.on (State.finishReq_keeps ..); on_goal 2 => decide)
    | (with_reducible apply Keeps.on (State.setGroup_keeps ..); on_goal 2 => decide)
    | (with_reducible apply Keeps.on (State.modReq_keeps _ _ _ ?q); (case q => with_unfolding_all exact fun r => rfl); on_goal 2 => decide)
    | (with_reducible apply Keeps.on (State.abortGroup_keeps ..); on_goal 2 => decide)

theorem State.groupError_keeps (s : State) (rid) (r) : Keeps 0x234090204 s (State.groupError s rid r) := by
  unfold State.groupError
  repeat' first
    | with_reducible exact Keeps.rfl'
    | with_reducible assumption
    | (extract_lets +onlyGivenNames x; guard_hyp x : State := _; refine Keeps.letv (x := x) ?_ (fun hx => ?_); (on_goal 1 => (unfold x; clear x)); (on_goal 2 => ((try clear_value x); rename' x => y)))
    | (extract_lets +onlyGivenNames x; rename' x => z)
    | with_reducible refine Keeps.ite (fun hc => ?_) (fun hc => ?_)
    | (with_reducible apply Keeps.on (State.modReq_keeps _ _ _ ?q); (case q => with_unfolding_all exact fun r => rfl); on_goal 2 => decide)
    | (with_reducible apply Keeps.on (State.tableError_keeps ..); on_goal 2 => decide)

theorem State.forward_keeps (s : State) (rid) : Keeps 0x6340d020c s (State.forward s rid) := by
  unfold State.forward
  repeat' first
    | with_reducible exact Keeps.rfl'
    | with_reducible assumption
    | (extract_lets +onlyGivenNames x; guard_hyp x : State := _; refine Keeps.letv (x := x) ?_ (fun hx => ?_); (on_goal 1 => (unfold x; clear x)); (on_goal 2 => ((try clear_value x); rename' x => y)))
    | (extract_lets +onlyGivenNames x; rename' x => z)
    | with_reducible refine Keeps.ite (fun hc => ?_) (fun hc => ?_)
    | (with_reducible apply Keeps.on (State.groupError_keeps ..); on_goal 2 => decide)
    | (with_reducible apply Keeps.on (State.openGroup_keeps ..); on_goal 2 => decide)
    | (with_reducible apply Keeps.on (State.endGroup_keeps ..); on_goal 2 => decide)
    | (with_reducible apply Keeps.on (State.toLedger_keeps ..); on_goal 2 => decide)
    | split

theorem State.takeUp_keeps (s : State) (rid) : Keeps 0x6340d020c s (State.takeUp s rid) := by
  unfold State.takeUp
  repeat' first
    | with_reducible exact Keeps.rfl'
    | with_reducible assumption
    | (extract_lets +onlyGivenNames x; guard_hyp x : State := _; refine Keeps.letv (x := x) ?_ (fun hx => ?_); (on_goal 1 => (unfold x; clear x)); (on_goal 2 => ((try clear_value x); rename' x => y)))
    | (extract_lets +onlyGivenNames x; rename' x => z)
    | with_reducible refine Keeps.ite (fun hc => ?_) (fun hc => ?_)
    | (with_reducible apply Keeps.on (State.finishReq_keeps ..); on_goal 2 => decide)
    | (with_reducible apply Keeps.on (State.modReq_keeps _ _ _ ?q); (case q => with_unfolding_all exact fun r => rfl); on_goal 2 => decide)
    | (with_reducible apply Keeps.on (State.forward_keeps ..); on_goal 2 => decide)
    | split

theorem State.retryHeld_keeps (s : State) (rid) : Keeps 0x6340d020c s (State.retryHeld s rid) := by
  unfold State.retryHeld
  repeat' first
    | with_reducible exact Keeps.rfl'
    | with_reducible assumption
    | (extract_lets +onlyGivenNames x; guard_hyp x : State := _; refine Keeps.letv (x := x) ?_ (fun hx => ?_); (on_goal 1 => (unfold x; clear x)); (on_goal 2 => ((try clear_value x); rename' x => y)))
    | (extract_lets +onlyGivenNames x; rename' x => z)
    | with_reducible refine Keeps.ite (fun hc => ?_) (fun hc => ?_)
    | (with_reducible apply Keeps.on (State.forward_keeps ..); on_goal 2 => decide)
    | split

theorem State.enterPort_keeps (s : State) (p) (op) (f) (ecc) (ht : s.byTag p f.tag = none) :
    Keeps 0x20e3c0d822c s (State.enterPort s p op f ecc) := by
  have h1 : Keeps 0x800000000 s (s.sampleNext p op f.cls).1 := State.sampleNext_keeps ..
  have hi : (s.sampleNext p op f.cls).1.ids = s.ids := h1.frame .ids rfl
  have hr : (s.sampleNext p op f.cls).1.reqs = s.reqs := h1.frame .reqs rfl
  unfold State.enterPort
  split
  rename_i s1 n hq
  rw [hq] at h1 hi hr
  dsimp only at h1 hi hr
  have h1 : Keeps 0x20e3c0d822c s s1 := h1.mono (by decide)
  have push : ∀ r : Req, r.rid = s.ids → r.src = srcPort p → r.tag = f.tag →
      Keeps 0x20e3c0d822c s ({ s1 with ids := s1.ids + 1, reqs := s1.reqs ++ [r] }) := by
    intro r h2 h3 h4
    refine Keeps.upd h1 (Or.inl rfl) (hi := fun i => ⟨i.mem, i.seq, i.replies, ?_, i.unack, i.squall, i.fill⟩)
    refine reqsOk_push i.reqs (h2.trans hi.symm) fun _ a ha hs hg => ?_
    rw [hr] at ha
    rw [State.byTag, List.find?_eq_none] at ht
    refine ht a (List.mem_filter.2 ⟨ha, ?_⟩) ?_
    · simp [hs, h3]
    · simp [hg, h4]
  extract_lets rid verdict bad denied src0 r s2 s3 s4 s5 s6
  have k2 : Keeps 0x20e3c0d822c s s2 := push r rfl rfl rfl
  have k3 : Keeps 0x20e3c0d822c s s3 := (State.modPort_keeps ..).on k2 (by decide)
  have k4 : Keeps 0x20e3c0d822c s s4 := (State.telSys_keeps ..).on k3 (by decide)
  have k5 : Keeps 0x20e3c0d822c s s5 := Keeps.ite (fun _ => (State.telSys_keeps ..).on k4 (by decide)) fun _ => k4
  have k6 : Keeps 0x20e3c0d822c s s6 :=
    (State.lateTraffic_keeps ..).on (Keeps.ite (fun _ => (State.wakeBy_keeps ..).on k5 (by decide)) fun _ => k5) (by decide)
  exact Keeps.ite (fun _ => (State.takeUp_keeps ..).on k6 (by decide)) fun _ => k6

theorem State.present_keeps (s : State) (p) (op) (f) (ecc) : Keeps 0x20e3c0d822c s (State.present s p op f ecc) := by
  unfold State.present
  refine Keeps.ite (fun _ => Keeps.rfl') fun _ => Keeps.ite (fun _ => (State.isolate_keeps ..).mono (by decide)) fun h => ?_
  exact (State.enterPort_keeps s p op f ecc (Option.not_isSome_iff_eq_none.1 h)).mono (by decide)

theorem State.checkSink_keeps (s : State) (p) : Keeps 0x206340d820c s (State.checkSink s p) := by
  unfold State.checkSink
  repeat' first
    | with_reducible exact Keeps.rfl'
    | with_reducible refine Keeps.ite (fun hc => ?_) (fun hc => ?_)
    | (with_reducible apply Keeps.on (State.isolate_keeps ..); on_goal 2 => decide)

theorem State.discardReq_keeps (s : State) (p) (r) (code) : Keeps 0x20800018200 s (State.discardReq s p r code) := by
  unfold State.discardReq
  repeat' first
    | with_reducible exact Keeps.rfl'
    | with_reducible assumption
    | (extract_lets +onlyGivenNames x; guard_hyp x : State := _; refine Keeps.letv (x := x) ?_ (fun hx => ?_); (on_goal 1 => (unfold x; clear x)); (on_goal 2 => ((try clear_value x); rename' x => y)))
    | (extract_lets +onlyGivenNames x; rename' x => z)
    | (with_reducible apply Keeps.on (State.modPort_keeps ..); on_goal 2 => decide)
    | (with_reducible apply Keeps.on (State.sampleDone_keeps ..); on_goal 2 => decide)
    | (with_reducible apply Keeps.on (State.dropReq_keeps ..); on_goal 2 => decide)

theorem State.measureRead_keeps (s : State) (r) : Keeps 0x400400200 s (State.measureRead s r) := by
  unfold State.measureRead
  repeat' first
    | with_reducible exact Keeps.rfl'
    | with_reducible assumption
    | (extract_lets +onlyGivenNames x; guard_hyp x : State := _; refine Keeps.letv (x := x) ?_ (fun hx => ?_); (on_goal 1 => (unfold x; clear x)); (on_goal 2 => ((try clear_value x); rename' x => y)))
    | (extract_lets +onlyGivenNames x; rename' x => z)
    | with_reducible refine Keeps.ite (fun hc => ?_) (fun hc => ?_)
    | (with_reducible apply Keeps.on (State.telSys_keeps ..); on_goal 2 => decide)
    | (with_reducible apply Keeps.on (State.raise_keeps ..); on_goal 2 => decide)
    | fail_if_no_progress (with_reducible apply Keeps.on (keeps_shr ..); on_goal 2 => decide)

theorem State.driveRsp_keeps (s : State) (p) (r) (code) : Keeps 0x20c00418200 s (State.driveRsp s p r code) := by
  unfold State.driveRsp
  repeat' first
    | with_reducible exact Keeps.rfl'
    | with_reducible assumption
    | (extract_lets +onlyGivenNames x; guard_hyp x : State := _; refine Keeps.letv (x := x) ?_ (fun hx => ?_); (on_goal 1 => (unfold x; clear x)); (on_goal 2 => ((try clear_value x); rename' x => y)))
    | (extract_lets +onlyGivenNames x; rename' x => z)
    | with_reducible refine Keeps.ite (fun hc => ?_) (fun hc => ?_)
    | (with_reducible apply Keeps.on (State.sampleDone_keeps ..); on_goal 2 => decide)
    | (with_reducible apply Keeps.on (State.measureRead_keeps ..); on_goal 2 => decide)
    | (with_reducible apply Keeps.on (State.dropReq_keeps ..); on_goal 2 => decide)
    | (with_reducible apply Keeps.on (State.modPort_keeps ..); on_goal 2 => decide)

theorem State.respond_keeps (s : State) (p) (tag) : Keeps 0x20e344d820c s (State.respond s p tag) := by
  unfold State.respond
  repeat' first
    | with_reducible exact Keeps.rfl'
    | with_reducible assumption
    | (extract_lets +onlyGivenNames x; guard_hyp x : State := _; refine Keeps.letv (x := x) ?_ (fun hx => ?_); (on_goal 1 => (unfold x; clear x)); (on_goal 2 => ((try clear_value x); rename' x => y)))
    | (extract_lets +onlyGivenNames x; rename' x => z)
    | with_reducible refine Keeps.ite (fun hc => ?_) (fun hc => ?_)
    | (with_reducible apply Keeps.on (State.checkSink_keeps ..); on_goal 2 => decide)
    | (with_reducible apply Keeps.on (State.discardReq_keeps ..); on_goal 2 => decide)
    | (with_reducible apply Keeps.on (State.driveRsp_keeps ..); on_goal 2 => decide)
    | split
    | (clear_value *; split)

theorem State.copyUnits_keeps (s : State) (i) (toB) (units) : Keeps 0x10635f90214 s (State.copyUnits s i toB units) := by
  unfold State.copyUnits
  repeat' first
    | with_reducible exact Keeps.rfl'
    | with_reducible assumption
    | (extract_lets +onlyGivenNames x; guard_hyp x : State := _; refine Keeps.letv (x := x) ?_ (fun hx => ?_); (on_goal 1 => (unfold x; clear x)); (on_goal 2 => ((try clear_value x); rename' x => y)))
    | (extract_lets +onlyGivenNames x; rename' x => z)
    | (with_reducible apply Keeps.on (State.countCopy_keeps ..); on_goal 2 => decide)
    | (with_reducible apply Keeps.on (State.vaneGrants_keeps ..); on_goal 2 => decide)
    | (with_reducible apply Keeps.on (State.mendAt_keeps ..); on_goal 2 => decide)
    | (with_reducible apply Keeps.on (State.putLineNow_keeps ..); on_goal 2 => decide)
    | with_reducible refine Keeps.foldl ?_ (fun s a => ?_)

theorem State.leaveOwner_keeps (s : State) (e) : Keeps 0x40000 s (State.leaveOwner s e) := by
  unfold State.leaveOwner
  repeat' first
    | with_reducible exact Keeps.rfl'
    | with_reducible refine Keeps.ite (fun hc => ?_) (fun hc => ?_)
    | (with_reducible apply Keeps.on (State.groupLosesEntry_keeps ..); on_goal 2 => decide)
    | (with_reducible apply Keeps.on (State.freeSolo_keeps ..); on_goal 2 => decide)

theorem State.resolveEntry_keeps (s : State) (i) : Keeps 0x10635fd0214 s (State.resolveEntry s i) := by
  unfold State.resolveEntry
  repeat' first
    | with_reducible exact Keeps.rfl'
    | with_reducible assumption
    | (extract_lets +onlyGivenNames x; guard_hyp x : State := _; refine Keeps.letv (x := x) ?_ (fun hx => ?_); (on_goal 1 => (unfold x; clear x)); (on_goal 2 => ((try clear_value x); rename' x => y)))
    | (extract_lets +onlyGivenNames x; rename' x => z)
    | with_reducible refine Keeps.ite (fun hc => ?_) (fun hc => ?_)
    | (with_reducible apply Keeps.on (State.leaveOwner_keeps ..); on_goal 2 => decide)
    | (with_reducible apply Keeps.on (State.setEntry_keeps ..); on_goal 2 => decide)
    | (with_reducible apply Keeps.on (State.telSys_keeps ..); on_goal 2 => decide)
    | (with_reducible apply Keeps.on (State.copyUnits_keeps ..); on_goal 2 => decide)
    | split
    | (clear_value *; split)

theorem State.withOwner_keeps {m : Nat} {s0 s : State} {i : Nat} {u : Bool} {f : State → State} (h : Keeps m s0 s)
    (hm : 0x234080204 &&& m = 0x234080204) (hf : ∀ s, Keeps m s (f s)) : Keeps m s0 (s.withOwner i u f) := by
  unfold State.withOwner
  exact Keeps.ite (fun _ => (State.tableError_keeps ..).on h hm) fun _ => h.trans (hf s)

theorem State.skipCursor_keeps (s : State) (half) : Keeps 0xc0000 s (State.skipCursor s half) := by
  unfold State.skipCursor
  repeat' first
    | with_reducible exact Keeps.rfl'
    | with_reducible assumption
    | (extract_lets +onlyGivenNames x; guard_hyp x : State := _; refine Keeps.letv (x := x) ?_ (fun hx => ?_); (on_goal 1 => (unfold x; clear x)); (on_goal 2 => ((try clear_value x); rename' x => y)))
    | (extract_lets +onlyGivenNames x; rename' x => z)
    | with_reducible refine Keeps.ite (fun hc => ?_) (fun hc => ?_)
    | fail_if_no_progress (with_reducible apply Keeps.on (keeps_ledger _ _ ?q); (case q => exact setCursor_tableBad _ _ _); on_goal 2 => decide)
    | fail_if_no_progress (with_reducible apply Keeps.on (keeps_ledgerTable ..); on_goal 2 => decide)
    | fail_if_no_progress (with_reducible apply Keeps.on (keeps_ledger _ _ ?q); (case q => exact rfl); on_goal 2 => decide)
    | fail_if_no_progress (with_reducible apply Keeps.on (keeps_ledgerAll ..); on_goal 2 => decide)

theorem State.settleEntry_keeps (s : State) (i) (ecc) : Keeps 0x10635fd021c s (State.settleEntry s i ecc) := by
  unfold State.settleEntry
  repeat' first
    | with_reducible exact Keeps.rfl'
    | with_reducible assumption
    | (extract_lets +onlyGivenNames x; guard_hyp x : State := _; refine Keeps.letv (x := x) ?_ (fun hx => ?_); (on_goal 1 => (unfold x; clear x)); (on_goal 2 => ((try clear_value x); rename' x => y)))
    | (extract_lets +onlyGivenNames x; rename' x => z)
    | (with_reducible apply Keeps.on (State.resolveEntry_keeps ..); on_goal 2 => decide)
    | (with_reducible apply Keeps.on (State.readEntry_keeps ..); on_goal 2 => decide)
    | (with_reducible apply Keeps.on (State.retryLedger_keeps ..); on_goal 2 => decide)
    | fail_if_no_progress (with_reducible apply Keeps.on (keeps_ledgerTable ..); on_goal 2 => decide)
    | fail_if_no_progress (with_reducible apply Keeps.on (keeps_ledger _ _ ?q); (case q => exact rfl); on_goal 2 => decide)
    | fail_if_no_progress (with_reducible apply Keeps.on (keeps_ledgerAll ..); on_goal 2 => decide)

theorem State.sweepOnce_keeps (s : State) (half) (ecc) (tableUc) : Keeps 0x10635fd021c s (State.sweepOnce s half ecc tableUc) := by
  unfold State.sweepOnce
  repeat' first
    | with_reducible exact Keeps.rfl'
    | with_reducible assumption
    | (extract_lets +onlyGivenNames x; guard_hyp x : State := _; refine Keeps.letv (x := x) ?_ (fun hx => ?_); (on_goal 1 => (unfold x; clear x)); (on_goal 2 => ((try clear_value x); rename' x => y)))
    | (extract_lets +onlyGivenNames x; rename' x => z)
    | with_reducible refine Keeps.ite (fun hc => ?_) (fun hc => ?_)
    | with_reducible refine State.withOwner_keeps ?_ (by decide) (fun s => ?_)
    | (with_reducible apply Keeps.on (State.settleEntry_keeps ..); on_goal 2 => decide)
    | (with_reducible apply Keeps.on (State.retryLedger_keeps ..); on_goal 2 => decide)
    | (with_reducible apply Keeps.on (State.skipCursor_keeps ..); on_goal 2 => decide)
    | (with_reducible apply Keeps.on (State.readEntry_keeps ..); on_goal 2 => decide)
    | split
    | (clear_value *; split)

theorem State.endSolo_keeps (s : State) (r) : Keeps 0x6340d020c s (State.endSolo s r) := by
  unfold State.endSolo
  repeat' first
    | with_reducible exact Keeps.rfl'
    | with_reducible assumption
    | (extract_lets +onlyGivenNames x; guard_hyp x : State := _; refine Keeps.letv (x := x) ?_ (fun hx => ?_); (on_goal 1 => (unfold x; clear x)); (on_goal 2 => ((try clear_value x); rename' x => y)))
    | (extract_lets +onlyGivenNames x; rename' x => z)
    | with_reducible refine Keeps.ite (fun hc => ?_) (fun hc => ?_)
    | (with_reducible apply Keeps.on (State.retryLedger_keeps ..); on_goal 2 => decide)
    | (with_reducible apply Keeps.on (State.finishReq_keeps ..); on_goal 2 => decide)
    | fail_if_no_progress (with_reducible apply Keeps.on (keeps_ledgerTable ..); on_goal 2 => decide)
    | fail_if_no_progress (with_reducible apply Keeps.on (keeps_ledger _ _ ?q); (case q => exact rfl); on_goal 2 => decide)
    | fail_if_no_progress (with_reducible apply Keeps.on (keeps_ledgerAll ..); on_goal 2 => decide)
    | with_reducible refine Keeps.foldl ?_ (fun s a => ?_)
    | split
    | (clear_value *; split)

theorem State.clearLdg_keeps (s : State) : Keeps 0x40000 s (State.clearLdg s) := by
  unfold State.clearLdg
  repeat' first
    | with_reducible exact Keeps.rfl'
    | with_reducible assumption
    | (extract_lets +onlyGivenNames x; guard_hyp x : State := _; refine Keeps.letv (x := x) ?_ (fun hx => ?_); (on_goal 1 => (unfold x; clear x)); (on_goal 2 => ((try clear_value x); rename' x => y)))
    | (extract_lets +onlyGivenNames x; rename' x => z)
    | fail_if_no_progress (with_reducible apply Keeps.on (keeps_ledgerTable ..); on_goal 2 => decide)
    | fail_if_no_progress (with_reducible apply Keeps.on (keeps_ledger _ _ ?q); (case q => exact rfl); on_goal 2 => decide)
    | fail_if_no_progress (with_reducible apply Keeps.on (keeps_ledgerAll ..); on_goal 2 => decide)

theorem State.clearAllPoison_keeps (s : State) : Keeps 0x2340c0204 s (State.clearAllPoison s) := by
  unfold State.clearAllPoison
  repeat' first
    | with_reducible exact Keeps.rfl'
    | with_reducible assumption
    | (extract_lets +onlyGivenNames x; guard_hyp x : State := _; refine Keeps.letv (x := x) ?_ (fun hx => ?_); (on_goal 1 => (unfold x; clear x)); (on_goal 2 => ((try clear_value x); rename' x => y)))
    | (extract_lets +onlyGivenNames x; rename' x => z)
    | (with_reducible apply Keeps.on (State.readEntry_keeps ..); on_goal 2 => decide)
    | fail_if_no_progress (with_reducible apply Keeps.on (keeps_ledgerTable ..); on_goal 2 => decide)
    | fail_if_no_progress (with_reducible apply Keeps.on (keeps_ledger _ _ ?q); (case q => exact rfl); on_goal 2 => decide)
    | fail_if_no_progress (with_reducible apply Keeps.on (keeps_ledgerAll ..); on_goal 2 => decide)
    | with_reducible refine Keeps.foldl ?_ (fun s a => ?_)

theorem State.clearSelPoison_keeps (s : State) : Keeps 0x2340c0204 s (State.clearSelPoison s) := by
  unfold State.clearSelPoison
  repeat' first
    | with_reducible exact Keeps.rfl'
    | with_reducible assumption
    | (extract_lets +onlyGivenNames x; guard_hyp x : State := _; refine Keeps.letv (x := x) ?_ (fun hx => ?_); (on_goal 1 => (unfold x; clear x)); (on_goal 2 => ((try clear_value x); rename' x => y)))
    | (extract_lets +onlyGivenNames x; rename' x => z)
    | with_reducible refine Keeps.ite (fun hc => ?_) (fun hc => ?_)
    | (with_reducible apply Keeps.on (State.readEntry_keeps ..); on_goal 2 => decide)
    | (with_reducible apply Keeps.on (State.setEntry_keeps ..); on_goal 2 => decide)

theorem State.abortSelGroup_keeps (s : State) : Keeps 0x6340d020c s (State.abortSelGroup s) := by
  unfold State.abortSelGroup
  repeat' first
    | with_reducible exact Keeps.rfl'
    | with_reducible assumption
    | (extract_lets +onlyGivenNames x; guard_hyp x : State := _; refine Keeps.letv (x := x) ?_ (fun hx => ?_); (on_goal 1 => (unfold x; clear x)); (on_goal 2 => ((try clear_value x); rename' x => y)))
    | (extract_lets +onlyGivenNames x; rename' x => z)
    | with_reducible refine Keeps.ite (fun hc => ?_) (fun hc => ?_)
    | (with_reducible apply Keeps.on (State.retryLedger_keeps ..); on_goal 2 => decide)
    | (with_reducible apply Keeps.on (State.abortGroup_keeps ..); on_goal 2 => decide)

theorem State.clearPrt_keeps (s : State) (p) : Keeps 0x8000 s (State.clearPrt s p) := by
  unfold State.clearPrt
  repeat' first
    | with_reducible exact Keeps.rfl'
    | with_reducible assumption
    | (extract_lets +onlyGivenNames x; guard_hyp x : State := _; refine Keeps.letv (x := x) ?_ (fun hx => ?_); (on_goal 1 => (unfold x; clear x)); (on_goal 2 => ((try clear_value x); rename' x => y)))
    | (extract_lets +onlyGivenNames x; rename' x => z)
    | (with_reducible apply Keeps.on (State.modPort_keeps ..); on_goal 2 => decide)

end Sys2Proof.Machine
end

