-- ==== Sys2Proof/Laws/KeepsFabric.lean ====
section
/-!
SUPPORT. One lemma per operation of Machine/ArbOps.lean, Machine/Fabric.lean, Machine/RegOps.lean, Machine/Ingest.lean: the parts it may change, and that it keeps the invariant.
-/
set_option linter.all false
namespace Sys2Proof.Machine
set_option Elab.async false

theorem State.advanceTick_keeps (s : State) (h) : Keeps 0x110200 s (State.advanceTick s h) := by
  unfold State.advanceTick
  repeat' first
    | with_reducible exact Keeps.rfl'
    | with_reducible assumption
    | (extract_lets +onlyGivenNames x; guard_hyp x : State := _; refine Keeps.letv (x := x) ?_ (fun hx => ?_); (on_goal 1 => (unfold x; clear x)); (on_goal 2 => ((try clear_value x); rename' x => y)))
    | (extract_lets +onlyGivenNames x; rename' x => z)
    | with_reducible refine Keeps.ite (fun hc => ?_) (fun hc => ?_)
    | (with_reducible apply Keeps.on (State.modHub_keeps ..); on_goal 2 => decide)
    | (with_reducible apply Keeps.on (State.mapReqs_keeps _ _ ?q); (case q => (intro r; (try split) <;> with_unfolding_all rfl)); on_goal 2 => decide)
    | (with_reducible apply Keeps.on (State.raiseIf_keeps ..); on_goal 2 => decide)

theorem State.captureHeader_keeps (s : State) (h) (r) (hdr) : Keeps 0x4000000200 s (State.captureHeader s h r hdr) := by
  unfold State.captureHeader
  repeat' first
    | with_reducible exact Keeps.rfl'
    | with_reducible assumption
    | (extract_lets +onlyGivenNames x; guard_hyp x : State := _; refine Keeps.letv (x := x) ?_ (fun hx => ?_); (on_goal 1 => (unfold x; clear x)); (on_goal 2 => ((try clear_value x); rename' x => y)))
    | (extract_lets +onlyGivenNames x; rename' x => z)
    | with_reducible refine Keeps.ite (fun hc => ?_) (fun hc => ?_)
    | (with_reducible apply Keeps.on (State.raise_keeps ..); on_goal 2 => decide)
    | fail_if_no_progress (with_reducible apply Keeps.on (keeps_dbg ..); on_goal 2 => decide)

theorem State.launch_keeps (s : State) (rid) (kind) (work) (lvl) : Keeps 0x3063fbd022c s (State.launch s rid kind work lvl) := by
  unfold State.launch
  repeat' first
    | with_reducible exact Keeps.rfl'
    | with_reducible assumption
    | (extract_lets +onlyGivenNames x; guard_hyp x : State := _; refine Keeps.letv (x := x) ?_ (fun hx => ?_); (on_goal 1 => (unfold x; clear x)); (on_goal 2 => ((try clear_value x); rename' x => y)))
    | (extract_lets +onlyGivenNames x; rename' x => z)
    | with_reducible refine Keeps.ite (fun hc => ?_) (fun hc => ?_)
    | (with_reducible apply Keeps.on (State.modReq_keeps _ _ _ ?q); (case q => with_unfolding_all exact fun r => rfl); on_goal 2 => decide)
    | (with_reducible apply Keeps.on (State.addJob_keeps ..); on_goal 2 => decide)
    | (with_reducible apply Keeps.on (State.modJob_keeps ..); on_goal 2 => decide)
    | (with_reducible apply Keeps.on (State.settleReq_keeps ..); on_goal 2 => decide)
    | (with_reducible apply Keeps.on (State.kick_keeps ..); on_goal 2 => decide)
    | with_reducible refine Keeps.foldl ?_ (fun s a => ?_)

theorem State.startCopy_keeps (s : State) (rid) (r) : Keeps 0x3063fbd022c s (State.startCopy s rid r) := by
  unfold State.startCopy
  repeat' first
    | with_reducible exact Keeps.rfl'
    | with_reducible assumption
    | (extract_lets +onlyGivenNames x; guard_hyp x : State := _; refine Keeps.letv (x := x) ?_ (fun hx => ?_); (on_goal 1 => (unfold x; clear x)); (on_goal 2 => ((try clear_value x); rename' x => y)))
    | (extract_lets +onlyGivenNames x; rename' x => z)
    | (with_reducible apply Keeps.on (State.modReq_keeps _ _ _ ?q); (case q => with_unfolding_all exact fun r => rfl); on_goal 2 => decide)
    | (with_reducible apply Keeps.on (State.addJob_keeps ..); on_goal 2 => decide)
    | (with_reducible apply Keeps.on (State.kick_keeps ..); on_goal 2 => decide)
    | (with_reducible apply Keeps.on (State.modJob_keeps ..); on_goal 2 => decide)

theorem State.countXor_keeps (s : State) (l) : Keeps 0x100000 s (State.countXor s l) := by
  unfold State.countXor
  repeat' first
    | with_reducible exact Keeps.rfl'
    | with_reducible assumption
    | (extract_lets +onlyGivenNames x; guard_hyp x : State := _; refine Keeps.letv (x := x) ?_ (fun hx => ?_); (on_goal 1 => (unfold x; clear x)); (on_goal 2 => ((try clear_value x); rename' x => y)))
    | (extract_lets +onlyGivenNames x; rename' x => z)
    | (with_reducible apply Keeps.on (State.modHub_keeps ..); on_goal 2 => decide)
    | with_reducible refine Keeps.foldl ?_ (fun s a => ?_)

theorem State.startReq_keeps (s : State) (rid) (r) : Keeps 0x3063ffd023c s (State.startReq s rid r) := by
  unfold State.startReq
  repeat' first
    | with_reducible exact Keeps.rfl'
    | with_reducible assumption
    | (extract_lets +onlyGivenNames x; guard_hyp x : State := _; refine Keeps.letv (x := x) ?_ (fun hx => ?_); (on_goal 1 => (unfold x; clear x)); (on_goal 2 => ((try clear_value x); rename' x => y)))
    | (extract_lets +onlyGivenNames x; rename' x => z)
    | with_reducible refine Keeps.ite (fun hc => ?_) (fun hc => ?_)
    | (with_reducible apply Keeps.on (State.startCopy_keeps ..); on_goal 2 => decide)
    | (with_reducible apply Keeps.on (State.launch_keeps ..); on_goal 2 => decide)
    | (with_reducible apply Keeps.on (State.mendAt_keeps ..); on_goal 2 => decide)
    | (with_reducible apply Keeps.on (State.retryLedger_keeps ..); on_goal 2 => decide)
    | (with_reducible apply Keeps.on (State.finishReq_keeps ..); on_goal 2 => decide)
    | (with_reducible apply Keeps.on (State.undoClaims_keeps ..); on_goal 2 => decide)
    | (with_reducible apply Keeps.on (State.modReq_keeps _ _ _ ?q); (case q => with_unfolding_all exact fun r => rfl); on_goal 2 => decide)
    | (with_reducible apply Keeps.on (State.countXor_keeps ..); on_goal 2 => decide)
    | with_reducible refine Keeps.foldl ?_ (fun s a => ?_)

theorem State.mayPreempt_keeps (s : State) (r) : Keeps 0x210004 s (State.mayPreempt s r) := by
  unfold State.mayPreempt
  repeat' first
    | with_reducible exact Keeps.rfl'
    | with_reducible assumption
    | (extract_lets +onlyGivenNames x; guard_hyp x : State := _; refine Keeps.letv (x := x) ?_ (fun hx => ?_); (on_goal 1 => (unfold x; clear x)); (on_goal 2 => ((try clear_value x); rename' x => y)))
    | (extract_lets +onlyGivenNames x; rename' x => z)
    | with_reducible refine Keeps.ite (fun hc => ?_) (fun hc => ?_)
    | (with_reducible apply Keeps.on (State.tookFree_keeps ..); on_goal 2 => decide)
    | (with_reducible apply Keeps.on (State.voidHub_keeps ..); on_goal 2 => decide)
    | fail_if_no_progress (with_reducible apply Keeps.on (keeps_fab ..); on_goal 2 => decide)

theorem State.grant_keeps (s : State) (h) (r) (reserved) (flit) : Keeps 0x3463ffd023c s (State.grant s h r reserved flit) := by
  unfold State.grant
  repeat' first
    | with_reducible exact Keeps.rfl'
    | with_reducible assumption
    | (extract_lets +onlyGivenNames x; guard_hyp x : State := _; refine Keeps.letv (x := x) ?_ (fun hx => ?_); (on_goal 1 => (unfold x; clear x)); (on_goal 2 => ((try clear_value x); rename' x => y)))
    | (extract_lets +onlyGivenNames x; rename' x => z)
    | with_reducible refine Keeps.ite (fun hc => ?_) (fun hc => ?_)
    | (with_reducible apply Keeps.on (State.modHub_keeps ..); on_goal 2 => decide)
    | (with_reducible apply Keeps.on (State.telSys_keeps ..); on_goal 2 => decide)
    | (with_reducible apply Keeps.on (State.mayPreempt_keeps ..); on_goal 2 => decide)
    | (with_reducible apply Keeps.on (State.modReq_keeps _ _ _ ?q); (case q => with_unfolding_all exact fun r => rfl); on_goal 2 => decide)
    | (with_reducible apply Keeps.on (State.logError_keeps ..); on_goal 2 => decide)
    | (with_reducible apply Keeps.on (State.raise_keeps ..); on_goal 2 => decide)
    | (with_reducible apply Keeps.on (State.startReq_keeps ..); on_goal 2 => decide)
    | (with_reducible apply Keeps.on (State.captureHeader_keeps ..); on_goal 2 => decide)
    | fail_if_no_progress (with_reducible apply Keeps.on (keeps_fab ..); on_goal 2 => decide)
    | split
    | (clear_value *; split)

theorem State.refuse_keeps (s : State) (h) (r) : Keeps 0x400018200 s (State.refuse s h r) := by
  unfold State.refuse
  repeat' first
    | with_reducible exact Keeps.rfl'
    | with_reducible assumption
    | (extract_lets +onlyGivenNames x; guard_hyp x : State := _; refine Keeps.letv (x := x) ?_ (fun hx => ?_); (on_goal 1 => (unfold x; clear x)); (on_goal 2 => ((try clear_value x); rename' x => y)))
    | (extract_lets +onlyGivenNames x; rename' x => z)
    | with_reducible refine Keeps.ite (fun hc => ?_) (fun hc => ?_)
    | (with_reducible apply Keeps.on (State.modReq_keeps _ _ _ ?q); (case q => with_unfolding_all exact fun r => rfl); on_goal 2 => decide)
    | (with_reducible apply Keeps.on (State.telSys_keeps ..); on_goal 2 => decide)
    | (with_reducible apply Keeps.on (State.flagReq_keeps ..); on_goal 2 => decide)
    | (with_reducible apply Keeps.on (State.modPort_keeps ..); on_goal 2 => decide)

theorem State.arbitrate_keeps (s : State) (h) (flit) : Keeps 0x3463ffd823c s (State.arbitrate s h flit) := by
  unfold State.arbitrate
  repeat' first
    | with_reducible exact Keeps.rfl'
    | with_reducible assumption
    | (extract_lets +onlyGivenNames x; guard_hyp x : State := _; refine Keeps.letv (x := x) ?_ (fun hx => ?_); (on_goal 1 => (unfold x; clear x)); (on_goal 2 => ((try clear_value x); rename' x => y)))
    | (extract_lets +onlyGivenNames x; rename' x => z)
    | with_reducible refine Keeps.ite (fun hc => ?_) (fun hc => ?_)
    | (with_reducible apply Keeps.on (State.advanceTick_keeps ..); on_goal 2 => decide)
    | (with_reducible apply Keeps.on (State.mapReqs_keeps _ _ ?q); (case q => (intro r; (try split) <;> with_unfolding_all rfl)); on_goal 2 => decide)
    | (with_reducible apply Keeps.on (State.refuse_keeps ..); on_goal 2 => decide)
    | (with_reducible apply Keeps.on (State.grant_keeps ..); on_goal 2 => decide)
    | fail_if_no_progress (with_reducible apply Keeps.on (keeps_fab ..); on_goal 2 => decide)
    | with_reducible refine Keeps.foldl ?_ (fun s a => ?_)
    | split
    | (clear_value *; split)

theorem State.removeCancelled_keeps (s : State) (h) : Keeps 0xb00000 s (State.removeCancelled s h) := by
  unfold State.removeCancelled
  repeat' first
    | with_reducible exact Keeps.rfl'
    | with_reducible assumption
    | (extract_lets +onlyGivenNames x; guard_hyp x : State := _; refine Keeps.letv (x := x) ?_ (fun hx => ?_); (on_goal 1 => (unfold x; clear x)); (on_goal 2 => ((try clear_value x); rename' x => y)))
    | (extract_lets +onlyGivenNames x; rename' x => z)
    | with_reducible refine Keeps.ite (fun hc => ?_) (fun hc => ?_)
    | (with_reducible apply Keeps.on (State.modHub_keeps ..); on_goal 2 => decide)
    | (with_reducible apply Keeps.on (State.modSched_keeps ..); on_goal 2 => decide)
    | (with_reducible apply Keeps.on (State.modHealth_keeps ..); on_goal 2 => decide)
    | fail_if_no_progress (with_reducible apply Keeps.on (keeps_fab ..); on_goal 2 => decide)
    | with_reducible refine Keeps.foldl ?_ (fun s a => ?_)

theorem State.reissueEntry_keeps (s : State) (h) (k) (e) : Keeps 0x100000 s (State.reissueEntry s h k e) := by
  unfold State.reissueEntry
  repeat' first
    | with_reducible exact Keeps.rfl'
    | with_reducible assumption
    | (extract_lets +onlyGivenNames x; guard_hyp x : State := _; refine Keeps.letv (x := x) ?_ (fun hx => ?_); (on_goal 1 => (unfold x; clear x)); (on_goal 2 => ((try clear_value x); rename' x => y)))
    | (extract_lets +onlyGivenNames x; rename' x => z)
    | (with_reducible apply Keeps.on (State.modHub_keeps ..); on_goal 2 => decide)

theorem State.degradeEntry_keeps (s : State) (h) (j) (m) (k) (e) : Keeps 0x306379d020c s (State.degradeEntry s h j m k e) := by
  unfold State.degradeEntry
  repeat' first
    | with_reducible exact Keeps.rfl'
    | with_reducible assumption
    | (extract_lets +onlyGivenNames x; guard_hyp x : State := _; refine Keeps.letv (x := x) ?_ (fun hx => ?_); (on_goal 1 => (unfold x; clear x)); (on_goal 2 => ((try clear_value x); rename' x => y)))
    | (extract_lets +onlyGivenNames x; rename' x => z)
    | with_reducible refine Keeps.ite (fun hc => ?_) (fun hc => ?_)
    | (with_reducible apply Keeps.on (State.noteDegraded_keeps ..); on_goal 2 => decide)
    | (with_reducible apply Keeps.on (State.noteStale_keeps ..); on_goal 2 => decide)
    | (with_reducible apply Keeps.on (State.reissueEntry_keeps ..); on_goal 2 => decide)
    | (with_reducible apply Keeps.on (State.retireEntry_keeps ..); on_goal 2 => decide)

theorem State.reissueWrite_keeps (s : State) (h) (o) (jid) : Keeps 0x3063fbd022c s (State.reissueWrite s h o jid) := by
  unfold State.reissueWrite
  repeat' first
    | with_reducible exact Keeps.rfl'
    | with_reducible assumption
    | (extract_lets +onlyGivenNames x; guard_hyp x : State := _; refine Keeps.letv (x := x) ?_ (fun hx => ?_); (on_goal 1 => (unfold x; clear x)); (on_goal 2 => ((try clear_value x); rename' x => y)))
    | (extract_lets +onlyGivenNames x; rename' x => z)
    | with_reducible refine State.withJob_keeps ?_ (fun s j => ?_)
    | (with_reducible apply Keeps.on (State.deliver_keeps ..); on_goal 2 => decide)
    | (with_reducible apply Keeps.on (State.reissueEntry_keeps ..); on_goal 2 => decide)
    | (with_reducible apply Keeps.on (State.degradeEntry_keeps ..); on_goal 2 => decide)
    | split

theorem State.reissueRead_keeps (s : State) (h) (o) : Keeps 0x3063fbd022c s (State.reissueRead s h o) := by
  unfold State.reissueRead
  repeat' first
    | with_reducible exact Keeps.rfl'
    | with_reducible assumption
    | (extract_lets +onlyGivenNames x; guard_hyp x : State := _; refine Keeps.letv (x := x) ?_ (fun hx => ?_); (on_goal 1 => (unfold x; clear x)); (on_goal 2 => ((try clear_value x); rename' x => y)))
    | (extract_lets +onlyGivenNames x; rename' x => z)
    | (with_reducible apply Keeps.on (State.stripArrives_keeps ..); on_goal 2 => decide)
    | (with_reducible apply Keeps.on (State.modJob_keeps ..); on_goal 2 => decide)

theorem State.reissue_keeps (s : State) (h) (o) : Keeps 0x3063fbd022c s (State.reissue s h o) := by
  unfold State.reissue
  repeat' first
    | with_reducible exact Keeps.rfl'
    | with_reducible assumption
    | with_reducible refine Keeps.ite (fun hc => ?_) (fun hc => ?_)
    | (with_reducible apply Keeps.on (State.reissueWrite_keeps ..); on_goal 2 => decide)
    | (with_reducible apply Keeps.on (State.reissueRead_keeps ..); on_goal 2 => decide)
    | with_reducible refine Keeps.foldl ?_ (fun s a => ?_)

theorem State.swapEpoch_keeps (s : State) (h) : Keeps 0x3063fbd022c s (State.swapEpoch s h) := by
  unfold State.swapEpoch
  repeat' first
    | with_reducible exact Keeps.rfl'
    | with_reducible assumption
    | (extract_lets +onlyGivenNames x; guard_hyp x : State := _; refine Keeps.letv (x := x) ?_ (fun hx => ?_); (on_goal 1 => (unfold x; clear x)); (on_goal 2 => ((try clear_value x); rename' x => y)))
    | (extract_lets +onlyGivenNames x; rename' x => z)
    | with_reducible refine Keeps.ite (fun hc => ?_) (fun hc => ?_)
    | (with_reducible apply Keeps.on (State.modHub_keeps ..); on_goal 2 => decide)
    | (with_reducible apply Keeps.on (State.signGroup_keeps ..); on_goal 2 => decide)
    | (with_reducible apply Keeps.on (State.voidGuarantees_keeps ..); on_goal 2 => decide)
    | (with_reducible apply Keeps.on (State.removeCancelled_keeps ..); on_goal 2 => decide)
    | (with_reducible apply Keeps.on (State.reissue_keeps ..); on_goal 2 => decide)
    | (with_reducible apply Keeps.on (State.kick_keeps ..); on_goal 2 => decide)
    | with_reducible refine Keeps.foldl ?_ (fun s a => ?_)
    | split
    | (clear_value *; split)

theorem State.clearFab_keeps (s : State) : Keeps 0x200000 s (State.clearFab s) := by
  unfold State.clearFab
  repeat' first
    | with_reducible exact Keeps.rfl'
    | with_reducible assumption
    | (extract_lets +onlyGivenNames x; guard_hyp x : State := _; refine Keeps.letv (x := x) ?_ (fun hx => ?_); (on_goal 1 => (unfold x; clear x)); (on_goal 2 => ((try clear_value x); rename' x => y)))
    | (extract_lets +onlyGivenNames x; rename' x => z)
    | fail_if_no_progress (with_reducible apply Keeps.on (keeps_fab ..); on_goal 2 => decide)

theorem State.clearArb_keeps (s : State) : Keeps 0x200000 s (State.clearArb s) := by
  unfold State.clearArb
  repeat' first
    | with_reducible exact Keeps.rfl'
    | with_reducible assumption
    | (extract_lets +onlyGivenNames x; guard_hyp x : State := _; refine Keeps.letv (x := x) ?_ (fun hx => ?_); (on_goal 1 => (unfold x; clear x)); (on_goal 2 => ((try clear_value x); rename' x => y)))
    | (extract_lets +onlyGivenNames x; rename' x => z)
    | fail_if_no_progress (with_reducible apply Keeps.on (keeps_fab ..); on_goal 2 => decide)

theorem State.clearLongest_keeps (s : State) : Keeps 0x200000 s (State.clearLongest s) := by
  unfold State.clearLongest
  repeat' first
    | with_reducible exact Keeps.rfl'
    | with_reducible assumption
    | (extract_lets +onlyGivenNames x; guard_hyp x : State := _; refine Keeps.letv (x := x) ?_ (fun hx => ?_); (on_goal 1 => (unfold x; clear x)); (on_goal 2 => ((try clear_value x); rename' x => y)))
    | (extract_lets +onlyGivenNames x; rename' x => z)
    | fail_if_no_progress (with_reducible apply Keeps.on (keeps_fab ..); on_goal 2 => decide)

theorem State.applyShadow_keeps (s : State) (page) (ofs) : Keeps 0xc0 s (State.applyShadow s page ofs) := by
  unfold State.applyShadow
  repeat' first
    | with_reducible exact Keeps.rfl'
    | with_reducible assumption
    | (extract_lets +onlyGivenNames x; guard_hyp x : State := _; refine Keeps.letv (x := x) ?_ (fun hx => ?_); (on_goal 1 => (unfold x; clear x)); (on_goal 2 => ((try clear_value x); rename' x => y)))
    | (extract_lets +onlyGivenNames x; rename' x => z)
    | (with_reducible apply Keeps.on (State.store_keeps ..); on_goal 2 => decide)
    | fail_if_no_progress (with_reducible apply Keeps.on (keeps_regShadows ..); on_goal 2 => decide)

theorem State.appliedHook_keeps (s : State) (old : State) (page) (ofss) : Keeps 0x430000 s (State.appliedHook s old page ofss) := by
  unfold State.appliedHook
  repeat' first
    | with_reducible exact Keeps.rfl'
    | with_reducible assumption
    | (extract_lets +onlyGivenNames x; guard_hyp x : State := _; refine Keeps.letv (x := x) ?_ (fun hx => ?_); (on_goal 1 => (unfold x; clear x)); (on_goal 2 => ((try clear_value x); rename' x => y)))
    | (extract_lets +onlyGivenNames x; rename' x => z)
    | with_reducible refine Keeps.ite (fun hc => ?_) (fun hc => ?_)
    | (with_reducible apply Keeps.on (State.modIng_keeps ..); on_goal 2 => decide)
    | (with_reducible apply Keeps.on (State.feasTrigger_keeps ..); on_goal 2 => decide)
    | (with_reducible apply Keeps.on (State.voidGuarantees_keeps ..); on_goal 2 => decide)
    | fail_if_no_progress (with_reducible apply Keeps.on (keeps_shr ..); on_goal 2 => decide)
    | with_reducible refine Keeps.foldl ?_ (fun s a => ?_)

theorem State.applyPoint_keeps (s : State) (page) (ap) : Keeps 0x4302c0 s (State.applyPoint s page ap) := by
  unfold State.applyPoint
  repeat' first
    | with_reducible exact Keeps.rfl'
    | with_reducible assumption
    | (extract_lets +onlyGivenNames x; guard_hyp x : State := _; refine Keeps.letv (x := x) ?_ (fun hx => ?_); (on_goal 1 => (unfold x; clear x)); (on_goal 2 => ((try clear_value x); rename' x => y)))
    | (extract_lets +onlyGivenNames x; rename' x => z)
    | with_reducible refine Keeps.ite (fun hc => ?_) (fun hc => ?_)
    | (with_reducible apply Keeps.on (State.applyShadow_keeps ..); on_goal 2 => decide)
    | (with_reducible apply Keeps.on (State.modHeader_keeps ..); on_goal 2 => decide)
    | (with_reducible apply Keeps.on (State.appliedHook_keeps ..); on_goal 2 => decide)
    | with_reducible refine Keeps.foldl ?_ (fun s a => ?_)

theorem State.applyPages_keeps (s : State) (pages) (ap) : Keeps 0x4302c0 s (State.applyPages s pages ap) := by
  unfold State.applyPages
  repeat' first
    | with_reducible exact Keeps.rfl'
    | with_reducible assumption
    | (with_reducible apply Keeps.on (State.applyPoint_keeps ..); on_goal 2 => decide)
    | with_reducible refine Keeps.foldl ?_ (fun s a => ?_)

theorem State.driveWarn_keeps (s : State) (n) : Keeps 0x20000 s (State.driveWarn s n) := by
  unfold State.driveWarn
  repeat' first
    | with_reducible exact Keeps.rfl'
    | with_reducible assumption
    | (extract_lets +onlyGivenNames x; guard_hyp x : State := _; refine Keeps.letv (x := x) ?_ (fun hx => ?_); (on_goal 1 => (unfold x; clear x)); (on_goal 2 => ((try clear_value x); rename' x => y)))
    | (extract_lets +onlyGivenNames x; rename' x => z)
    | (with_reducible apply Keeps.on (State.modIng_keeps ..); on_goal 2 => decide)

theorem State.issueStripe_keeps (s : State) (n) (lines) : Keeps 0x20000030008 s (State.issueStripe s n lines) := by
  unfold State.issueStripe
  extract_lets x at_ rid f src0 r t u
  have hr : r.rid = s.ids := rfl
  have hs : ¬ r.src.toNat < 16 := by
    show ¬ (srcIng n).toNat < 16
    clear * -
    revert n; decide
  have ht : Keeps 0x20000030008 s t := Keeps.on (keeps_push s r hr fun h => absurd h hs) Keeps.rfl' (by decide)
  clear_value t
  have hu : Keeps 0x20000030008 s u := (State.modIng_keeps ..).on ht (by decide)
  exact (State.arriveHub_keeps ..).on hu (by decide)

theorem State.drainOnce_keeps (s : State) (n) : Keeps 0x20000030008 s (State.drainOnce s n) := by
  unfold State.drainOnce
  repeat' first
    | with_reducible exact Keeps.rfl'
    | with_reducible assumption
    | (extract_lets +onlyGivenNames x; guard_hyp x : State := _; refine Keeps.letv (x := x) ?_ (fun hx => ?_); (on_goal 1 => (unfold x; clear x)); (on_goal 2 => ((try clear_value x); rename' x => y)))
    | (extract_lets +onlyGivenNames x; rename' x => z)
    | with_reducible refine Keeps.ite (fun hc => ?_) (fun hc => ?_)
    | (with_reducible apply Keeps.on (State.modIng_keeps ..); on_goal 2 => decide)
    | (with_reducible apply Keeps.on (State.issueStripe_keeps ..); on_goal 2 => decide)
    | split
    | (clear_value *; split)

theorem State.settleCwp_keeps (s : State) (n) : Keeps 0x20200 s (State.settleCwp s n) := by
  unfold State.settleCwp
  repeat' first
    | with_reducible exact Keeps.rfl'
    | with_reducible assumption
    | (extract_lets +onlyGivenNames x; guard_hyp x : State := _; refine Keeps.letv (x := x) ?_ (fun hx => ?_); (on_goal 1 => (unfold x; clear x)); (on_goal 2 => ((try clear_value x); rename' x => y)))
    | (extract_lets +onlyGivenNames x; rename' x => z)
    | (with_reducible apply Keeps.on (State.raiseIf_keeps ..); on_goal 2 => decide)
    | (with_reducible apply Keeps.on (State.modIng_keeps ..); on_goal 2 => decide)

theorem State.takeBeat_keeps (s : State) (n) (b) : Keeps 0x20200 s (State.takeBeat s n b) := by
  unfold State.takeBeat
  repeat' first
    | with_reducible exact Keeps.rfl'
    | with_reducible assumption
    | (extract_lets +onlyGivenNames x; guard_hyp x : State := _; refine Keeps.letv (x := x) ?_ (fun hx => ?_); (on_goal 1 => (unfold x; clear x)); (on_goal 2 => ((try clear_value x); rename' x => y)))
    | (extract_lets +onlyGivenNames x; rename' x => z)
    | with_reducible refine Keeps.ite (fun hc => ?_) (fun hc => ?_)
    | (with_reducible apply Keeps.on (State.modIng_keeps ..); on_goal 2 => decide)
    | (with_reducible apply Keeps.on (State.raiseIf_keeps ..); on_goal 2 => decide)

theorem State.leaveOff_keeps (s : State) (n) : Keeps 0x20200 s (State.leaveOff s n) := by
  unfold State.leaveOff
  repeat' first
    | with_reducible exact Keeps.rfl'
    | with_reducible assumption
    | (extract_lets +onlyGivenNames x; guard_hyp x : State := _; refine Keeps.letv (x := x) ?_ (fun hx => ?_); (on_goal 1 => (unfold x; clear x)); (on_goal 2 => ((try clear_value x); rename' x => y)))
    | (extract_lets +onlyGivenNames x; rename' x => z)
    | with_reducible refine Keeps.ite (fun hc => ?_) (fun hc => ?_)
    | (with_reducible apply Keeps.on (State.raise_keeps ..); on_goal 2 => decide)
    | (with_reducible apply Keeps.on (State.modIng_keeps ..); on_goal 2 => decide)

theorem State.noteEn_keeps {m : Nat} {s0 s : State} {n : Fin 8} {f : State → State} (h : Keeps m s0 s)
    (hm : 0x400000 &&& m = 0x400000) (hf : ∀ s, Keeps m s (f s)) : Keeps m s0 (s.noteEn n f) := by
  unfold State.noteEn
  have ht := h.trans (hf s)
  exact Keeps.ite (fun _ => ht) fun _ => (State.feasTrigger_keeps ..).on ht hm

theorem State.ingOn_keeps (s : State) (n) : Keeps 0x420200 s (State.ingOn s n) := by
  unfold State.ingOn
  repeat' first
    | with_reducible exact Keeps.rfl'
    | with_reducible assumption
    | (extract_lets +onlyGivenNames x; guard_hyp x : State := _; refine Keeps.letv (x := x) ?_ (fun hx => ?_); (on_goal 1 => (unfold x; clear x)); (on_goal 2 => ((try clear_value x); rename' x => y)))
    | (extract_lets +onlyGivenNames x; rename' x => z)
    | with_reducible refine Keeps.ite (fun hc => ?_) (fun hc => ?_)
    | with_reducible refine State.noteEn_keeps ?_ (by decide) (fun s => ?_)
    | (with_reducible apply Keeps.on (State.leaveOff_keeps ..); on_goal 2 => decide)
    | (with_reducible apply Keeps.on (State.modIng_keeps ..); on_goal 2 => decide)

theorem State.ingOff_keeps (s : State) (n) : Keeps 0x420000 s (State.ingOff s n) := by
  unfold State.ingOff
  repeat' first
    | with_reducible exact Keeps.rfl'
    | with_reducible assumption
    | (extract_lets +onlyGivenNames x; guard_hyp x : State := _; refine Keeps.letv (x := x) ?_ (fun hx => ?_); (on_goal 1 => (unfold x; clear x)); (on_goal 2 => ((try clear_value x); rename' x => y)))
    | (extract_lets +onlyGivenNames x; rename' x => z)
    | with_reducible refine Keeps.ite (fun hc => ?_) (fun hc => ?_)
    | with_reducible refine State.noteEn_keeps ?_ (by decide) (fun s => ?_)
    | (with_reducible apply Keeps.on (State.modIng_keeps ..); on_goal 2 => decide)

theorem State.cutRecords_keeps (s : State) (n) : Keeps 0x30000 s (State.cutRecords s n) := by
  unfold State.cutRecords
  repeat' first
    | with_reducible exact Keeps.rfl'
    | with_reducible assumption
    | (extract_lets +onlyGivenNames x; guard_hyp x : State := _; refine Keeps.letv (x := x) ?_ (fun hx => ?_); (on_goal 1 => (unfold x; clear x)); (on_goal 2 => ((try clear_value x); rename' x => y)))
    | (extract_lets +onlyGivenNames x; rename' x => z)
    | with_reducible refine Keeps.ite (fun hc => ?_) (fun hc => ?_)
    | (with_reducible apply Keeps.on (State.modIng_keeps ..); on_goal 2 => decide)
    | (with_reducible apply Keeps.on (State.mapReqs_keeps _ _ ?q); (case q => (intro r; (try split) <;> with_unfolding_all rfl)); on_goal 2 => decide)

theorem State.ingHoldUp_keeps (s : State) (n) : Keeps 0x30000 s (State.ingHoldUp s n) := by
  unfold State.ingHoldUp
  repeat' first
    | with_reducible exact Keeps.rfl'
    | with_reducible assumption
    | (extract_lets +onlyGivenNames x; guard_hyp x : State := _; refine Keeps.letv (x := x) ?_ (fun hx => ?_); (on_goal 1 => (unfold x; clear x)); (on_goal 2 => ((try clear_value x); rename' x => y)))
    | (extract_lets +onlyGivenNames x; rename' x => z)
    | (with_reducible apply Keeps.on (State.modIng_keeps ..); on_goal 2 => decide)
    | (with_reducible apply Keeps.on (State.cutRecords_keeps ..); on_goal 2 => decide)

theorem State.ackDrain_keeps (s : State) (n) (r) : Keeps 0x20000030200 s (State.ackDrain s n r) := by
  unfold State.ackDrain
  repeat' first
    | with_reducible exact Keeps.rfl'
    | with_reducible assumption
    | (extract_lets +onlyGivenNames x; guard_hyp x : State := _; refine Keeps.letv (x := x) ?_ (fun hx => ?_); (on_goal 1 => (unfold x; clear x)); (on_goal 2 => ((try clear_value x); rename' x => y)))
    | (extract_lets +onlyGivenNames x; rename' x => z)
    | (with_reducible apply Keeps.on (State.settleCwp_keeps ..); on_goal 2 => decide)
    | (with_reducible apply Keeps.on (State.modIng_keeps ..); on_goal 2 => decide)
    | (with_reducible apply Keeps.on (State.dropReq_keeps ..); on_goal 2 => decide)

theorem State.writeRp_keeps (s : State) (n) (v) : Keeps 0x20000 s (State.writeRp s n v) := by
  unfold State.writeRp
  repeat' first
    | with_reducible exact Keeps.rfl'
    | with_reducible assumption
    | (extract_lets +onlyGivenNames x; guard_hyp x : State := _; refine Keeps.letv (x := x) ?_ (fun hx => ?_); (on_goal 1 => (unfold x; clear x)); (on_goal 2 => ((try clear_value x); rename' x => y)))
    | (extract_lets +onlyGivenNames x; rename' x => z)
    | with_reducible refine Keeps.ite (fun hc => ?_) (fun hc => ?_)
    | (with_reducible apply Keeps.on (State.modIng_keeps ..); on_goal 2 => decide)

theorem State.ingRearm_keeps (s : State) (n) : Keeps 0x20000 s (State.ingRearm s n) := by
  unfold State.ingRearm
  repeat' first
    | with_reducible exact Keeps.rfl'
    | with_reducible assumption
    | (extract_lets +onlyGivenNames x; guard_hyp x : State := _; refine Keeps.letv (x := x) ?_ (fun hx => ?_); (on_goal 1 => (unfold x; clear x)); (on_goal 2 => ((try clear_value x); rename' x => y)))
    | (extract_lets +onlyGivenNames x; rename' x => z)
    | with_reducible refine Keeps.ite (fun hc => ?_) (fun hc => ?_)
    | (with_reducible apply Keeps.on (State.modIng_keeps ..); on_goal 2 => decide)

theorem State.ingTrigger_keeps (s : State) (n) : Keeps 0x20000 s (State.ingTrigger s n) := by
  unfold State.ingTrigger
  repeat' first
    | with_reducible exact Keeps.rfl'
    | with_reducible assumption
    | (extract_lets +onlyGivenNames x; guard_hyp x : State := _; refine Keeps.letv (x := x) ?_ (fun hx => ?_); (on_goal 1 => (unfold x; clear x)); (on_goal 2 => ((try clear_value x); rename' x => y)))
    | (extract_lets +onlyGivenNames x; rename' x => z)
    | with_reducible refine Keeps.ite (fun hc => ?_) (fun hc => ?_)
    | (with_reducible apply Keeps.on (State.modIng_keeps ..); on_goal 2 => decide)

theorem State.ingClear_keeps (s : State) (n) : Keeps 0x20000 s (State.ingClear s n) := by
  unfold State.ingClear
  repeat' first
    | with_reducible exact Keeps.rfl'
    | with_reducible assumption
    | (extract_lets +onlyGivenNames x; guard_hyp x : State := _; refine Keeps.letv (x := x) ?_ (fun hx => ?_); (on_goal 1 => (unfold x; clear x)); (on_goal 2 => ((try clear_value x); rename' x => y)))
    | (extract_lets +onlyGivenNames x; rename' x => z)
    | (with_reducible apply Keeps.on (State.modIng_keeps ..); on_goal 2 => decide)

end Sys2Proof.Machine
end

