-- ==== Sys2Proof/Laws/KeepsSlices.lean ====
section
/-!
SUPPORT. One lemma per operation of Machine/SliceOps.lean, Machine/Slices.lean, Machine/PhyOps.lean, Machine/Phy.lean: the parts it may change, and that it keeps the invariant.
-/
set_option linter.all false
namespace Sys2Proof.Machine
set_option Elab.async false

theorem State.loadTiming_keeps (s : State) (c) (pl) : Keeps 0x8000c0 s (State.loadTiming s c pl) := by
  unfold State.loadTiming
  repeat' first
    | with_reducible exact Keeps.rfl'
    | with_reducible assumption
    | (extract_lets +onlyGivenNames x; guard_hyp x : State := _; refine Keeps.letv (x := x) ?_ (fun hx => ?_); (on_goal 1 => (unfold x; clear x)); (on_goal 2 => ((try clear_value x); rename' x => y)))
    | (extract_lets +onlyGivenNames x; rename' x => z)
    | (with_reducible apply Keeps.on (State.store_keeps ..); on_goal 2 => decide)
    | (with_reducible apply Keeps.on (State.modSched_keeps ..); on_goal 2 => decide)
    | fail_if_no_progress (with_reducible apply Keeps.on (keeps_regShadows ..); on_goal 2 => decide)
    | with_reducible refine Keeps.foldl ?_ (fun s a => ?_)

theorem State.clampTiming_keeps (s : State) (c) : Keeps 0x800040 s (State.clampTiming s c) := by
  unfold State.clampTiming
  repeat' first
    | with_reducible exact Keeps.rfl'
    | with_reducible assumption
    | (extract_lets +onlyGivenNames x; guard_hyp x : State := _; refine Keeps.letv (x := x) ?_ (fun hx => ?_); (on_goal 1 => (unfold x; clear x)); (on_goal 2 => ((try clear_value x); rename' x => y)))
    | (extract_lets +onlyGivenNames x; rename' x => z)
    | with_reducible refine Keeps.ite (fun hc => ?_) (fun hc => ?_)
    | (with_reducible apply Keeps.on (State.store_keeps ..); on_goal 2 => decide)
    | (with_reducible apply Keeps.on (State.modSched_keeps ..); on_goal 2 => decide)
    | with_reducible refine Keeps.foldl ?_ (fun s a => ?_)

theorem State.modLine_keeps (s : State) (g) (f) : Keeps 0x100000 s (State.modLine s g f) := by
  unfold State.modLine
  repeat' first
    | with_reducible exact Keeps.rfl'
    | with_reducible assumption
    | (extract_lets +onlyGivenNames x; guard_hyp x : State := _; refine Keeps.letv (x := x) ?_ (fun hx => ?_); (on_goal 1 => (unfold x; clear x)); (on_goal 2 => ((try clear_value x); rename' x => y)))
    | (extract_lets +onlyGivenNames x; rename' x => z)
    | (with_reducible apply Keeps.on (State.modHub_keeps ..); on_goal 2 => decide)

theorem State.joinLine_keeps (s : State) (c) : Keeps 0x900000 s (State.joinLine s c) := by
  unfold State.joinLine
  repeat' first
    | with_reducible exact Keeps.rfl'
    | with_reducible assumption
    | (extract_lets +onlyGivenNames x; guard_hyp x : State := _; refine Keeps.letv (x := x) ?_ (fun hx => ?_); (on_goal 1 => (unfold x; clear x)); (on_goal 2 => ((try clear_value x); rename' x => y)))
    | (extract_lets +onlyGivenNames x; rename' x => z)
    | with_reducible refine Keeps.ite (fun hc => ?_) (fun hc => ?_)
    | (with_reducible apply Keeps.on (State.modSched_keeps ..); on_goal 2 => decide)
    | (with_reducible apply Keeps.on (State.modLine_keeps ..); on_goal 2 => decide)
    | split
    | (clear_value *; split)

theorem State.releaseToken_keeps (s : State) (c) : Keeps 0x100000 s (State.releaseToken s c) := by
  unfold State.releaseToken
  repeat' first
    | with_reducible exact Keeps.rfl'
    | with_reducible assumption
    | (extract_lets +onlyGivenNames x; guard_hyp x : State := _; refine Keeps.letv (x := x) ?_ (fun hx => ?_); (on_goal 1 => (unfold x; clear x)); (on_goal 2 => ((try clear_value x); rename' x => y)))
    | (extract_lets +onlyGivenNames x; rename' x => z)
    | with_reducible refine Keeps.ite (fun hc => ?_) (fun hc => ?_)
    | (with_reducible apply Keeps.on (State.modLine_keeps ..); on_goal 2 => decide)
    | split

theorem State.insertWindow_keeps (s : State) (g) (len) : Keeps 0x100000 s (State.insertWindow s g len) := by
  unfold State.insertWindow
  repeat' first
    | with_reducible exact Keeps.rfl'
    | with_reducible assumption
    | (extract_lets +onlyGivenNames x; guard_hyp x : State := _; refine Keeps.letv (x := x) ?_ (fun hx => ?_); (on_goal 1 => (unfold x; clear x)); (on_goal 2 => ((try clear_value x); rename' x => y)))
    | (extract_lets +onlyGivenNames x; rename' x => z)
    | (with_reducible apply Keeps.on (State.modLine_keeps ..); on_goal 2 => decide)

theorem State.takeWindow_keeps (s : State) (c) (len) : Keeps 0x100000 s (State.takeWindow s c len) := by
  unfold State.takeWindow
  repeat' first
    | with_reducible exact Keeps.rfl'
    | with_reducible assumption
    | (extract_lets +onlyGivenNames x; guard_hyp x : State := _; refine Keeps.letv (x := x) ?_ (fun hx => ?_); (on_goal 1 => (unfold x; clear x)); (on_goal 2 => ((try clear_value x); rename' x => y)))
    | (extract_lets +onlyGivenNames x; rename' x => z)
    | (with_reducible apply Keeps.on (State.insertWindow_keeps ..); on_goal 2 => decide)
    | split

theorem State.applyRb_keeps (s : State) (c) : Keeps 0xc302c0 s (State.applyRb s c) := by
  unfold State.applyRb
  repeat' first
    | with_reducible exact Keeps.rfl'
    | with_reducible assumption
    | (extract_lets +onlyGivenNames x; guard_hyp x : State := _; refine Keeps.letv (x := x) ?_ (fun hx => ?_); (on_goal 1 => (unfold x; clear x)); (on_goal 2 => ((try clear_value x); rename' x => y)))
    | (extract_lets +onlyGivenNames x; rename' x => z)
    | with_reducible refine Keeps.ite (fun hc => ?_) (fun hc => ?_)
    | (with_reducible apply Keeps.on (State.applyPoint_keeps ..); on_goal 2 => decide)
    | (with_reducible apply Keeps.on (State.clampTiming_keeps ..); on_goal 2 => decide)
    | (with_reducible apply Keeps.on (State.modSched_keeps ..); on_goal 2 => decide)
    | (with_reducible apply Keeps.on (State.raise_keeps ..); on_goal 2 => decide)
    | (with_reducible apply Keeps.on (State.feasTrigger_keeps ..); on_goal 2 => decide)
    | split
    | (clear_value *; split)

theorem State.pushCmd_keeps (s : State) (c) (k) : Keeps 0x800000 s (State.pushCmd s c k) := by
  unfold State.pushCmd
  repeat' first
    | with_reducible exact Keeps.rfl'
    | with_reducible assumption
    | (extract_lets +onlyGivenNames x; guard_hyp x : State := _; refine Keeps.letv (x := x) ?_ (fun hx => ?_); (on_goal 1 => (unfold x; clear x)); (on_goal 2 => ((try clear_value x); rename' x => y)))
    | (extract_lets +onlyGivenNames x; rename' x => z)
    | with_reducible refine Keeps.ite (fun hc => ?_) (fun hc => ?_)
    | (with_reducible apply Keeps.on (State.modSched_keeps ..); on_goal 2 => decide)

theorem State.refreshNow_keeps (s : State) (c) : Keeps 0xc302c0 s (State.refreshNow s c) := by
  unfold State.refreshNow
  repeat' first
    | with_reducible exact Keeps.rfl'
    | with_reducible assumption
    | (extract_lets +onlyGivenNames x; guard_hyp x : State := _; refine Keeps.letv (x := x) ?_ (fun hx => ?_); (on_goal 1 => (unfold x; clear x)); (on_goal 2 => ((try clear_value x); rename' x => y)))
    | (extract_lets +onlyGivenNames x; rename' x => z)
    | with_reducible refine Keeps.ite (fun hc => ?_) (fun hc => ?_)
    | (with_reducible apply Keeps.on (State.modSlice_keeps ..); on_goal 2 => decide)
    | (with_reducible apply Keeps.on (State.pushCmd_keeps ..); on_goal 2 => decide)
    | (with_reducible apply Keeps.on (State.modSched_keeps ..); on_goal 2 => decide)
    | (with_reducible apply Keeps.on (State.applyRb_keeps ..); on_goal 2 => decide)

theorem State.forceRefresh_keeps (s : State) (c) : Keeps 0x234cb02c4 s (State.forceRefresh s c) := by
  unfold State.forceRefresh
  repeat' first
    | with_reducible exact Keeps.rfl'
    | with_reducible assumption
    | (extract_lets +onlyGivenNames x; guard_hyp x : State := _; refine Keeps.letv (x := x) ?_ (fun hx => ?_); (on_goal 1 => (unfold x; clear x)); (on_goal 2 => ((try clear_value x); rename' x => y)))
    | (extract_lets +onlyGivenNames x; rename' x => z)
    | with_reducible refine Keeps.ite (fun hc => ?_) (fun hc => ?_)
    | (with_reducible apply Keeps.on (State.bumpCh_keeps ..); on_goal 2 => decide)
    | (with_reducible apply Keeps.on (State.refreshNow_keeps ..); on_goal 2 => decide)
    | (with_reducible apply Keeps.on (State.logError_keeps ..); on_goal 2 => decide)
    | (with_reducible apply Keeps.on (State.raise_keeps ..); on_goal 2 => decide)

theorem State.atBoundary_keeps (s : State) (c) : Keeps 0xd302c0 s (State.atBoundary s c) := by
  unfold State.atBoundary
  repeat' first
    | with_reducible exact Keeps.rfl'
    | with_reducible assumption
    | (extract_lets +onlyGivenNames x; guard_hyp x : State := _; refine Keeps.letv (x := x) ?_ (fun hx => ?_); (on_goal 1 => (unfold x; clear x)); (on_goal 2 => ((try clear_value x); rename' x => y)))
    | (extract_lets +onlyGivenNames x; rename' x => z)
    | with_reducible refine Keeps.ite (fun hc => ?_) (fun hc => ?_)
    | (with_reducible apply Keeps.on (State.applyRb_keeps ..); on_goal 2 => decide)
    | (with_reducible apply Keeps.on (State.modSched_keeps ..); on_goal 2 => decide)
    | (with_reducible apply Keeps.on (State.pushCmd_keeps ..); on_goal 2 => decide)
    | (with_reducible apply Keeps.on (State.releaseToken_keeps ..); on_goal 2 => decide)
    | (with_reducible apply Keeps.on (State.refreshNow_keeps ..); on_goal 2 => decide)

theorem State.newCycle_keeps (s : State) (g) : Keeps 0x800000 s (State.newCycle s g) := by
  unfold State.newCycle
  repeat' first
    | with_reducible exact Keeps.rfl'
    | with_reducible assumption
    | (extract_lets +onlyGivenNames x; guard_hyp x : State := _; refine Keeps.letv (x := x) ?_ (fun hx => ?_); (on_goal 1 => (unfold x; clear x)); (on_goal 2 => ((try clear_value x); rename' x => y)))
    | (extract_lets +onlyGivenNames x; rename' x => z)
    | with_reducible refine Keeps.ite (fun hc => ?_) (fun hc => ?_)
    | fail_if_no_progress (with_reducible apply Keeps.on (keeps_slices ..); on_goal 2 => decide)

theorem State.windowBoundary_keeps (s : State) (g) (m) : Keeps 0x234db02c4 s (State.windowBoundary s g m) := by
  unfold State.windowBoundary
  repeat' first
    | with_reducible exact Keeps.rfl'
    | with_reducible assumption
    | (extract_lets +onlyGivenNames x; guard_hyp x : State := _; refine Keeps.letv (x := x) ?_ (fun hx => ?_); (on_goal 1 => (unfold x; clear x)); (on_goal 2 => ((try clear_value x); rename' x => y)))
    | (extract_lets +onlyGivenNames x; rename' x => z)
    | with_reducible refine Keeps.ite (fun hc => ?_) (fun hc => ?_)
    | (with_reducible apply Keeps.on (State.newCycle_keeps ..); on_goal 2 => decide)
    | (with_reducible apply Keeps.on (State.modLine_keeps ..); on_goal 2 => decide)
    | (with_reducible apply Keeps.on (State.forceRefresh_keeps ..); on_goal 2 => decide)
    | (with_reducible apply Keeps.on (State.atBoundary_keeps ..); on_goal 2 => decide)
    | (with_reducible apply Keeps.on (State.modSched_keeps ..); on_goal 2 => decide)
    | with_reducible refine Keeps.foldl ?_ (fun s a => ?_)

theorem State.startGust_keeps (s : State) (c) (cause) : Keeps 0x800000 s (State.startGust s c cause) := by
  unfold State.startGust
  repeat' first
    | with_reducible exact Keeps.rfl'
    | with_reducible assumption
    | (extract_lets +onlyGivenNames x; guard_hyp x : State := _; refine Keeps.letv (x := x) ?_ (fun hx => ?_); (on_goal 1 => (unfold x; clear x)); (on_goal 2 => ((try clear_value x); rename' x => y)))
    | (extract_lets +onlyGivenNames x; rename' x => z)
    | (with_reducible apply Keeps.on (State.bumpCh_keeps ..); on_goal 2 => decide)
    | (with_reducible apply Keeps.on (State.modSched_keeps ..); on_goal 2 => decide)

theorem State.endDrain_keeps (s : State) (c) : Keeps 0x10000800000 s (State.endDrain s c) := by
  unfold State.endDrain
  repeat' first
    | with_reducible exact Keeps.rfl'
    | with_reducible assumption
    | (extract_lets +onlyGivenNames x; guard_hyp x : State := _; refine Keeps.letv (x := x) ?_ (fun hx => ?_); (on_goal 1 => (unfold x; clear x)); (on_goal 2 => ((try clear_value x); rename' x => y)))
    | (extract_lets +onlyGivenNames x; rename' x => z)
    | with_reducible refine Keeps.ite (fun hc => ?_) (fun hc => ?_)
    | (with_reducible apply Keeps.on (State.flushCk_keeps ..); on_goal 2 => decide)
    | (with_reducible apply Keeps.on (State.modSched_keeps ..); on_goal 2 => decide)

theorem State.stopGust_keeps (s : State) (c) : Keeps 0x10000800000 s (State.stopGust s c) := by
  unfold State.stopGust
  repeat' first
    | with_reducible exact Keeps.rfl'
    | with_reducible assumption
    | (extract_lets +onlyGivenNames x; guard_hyp x : State := _; refine Keeps.letv (x := x) ?_ (fun hx => ?_); (on_goal 1 => (unfold x; clear x)); (on_goal 2 => ((try clear_value x); rename' x => y)))
    | (extract_lets +onlyGivenNames x; rename' x => z)
    | with_reducible refine Keeps.ite (fun hc => ?_) (fun hc => ?_)
    | (with_reducible apply Keeps.on (State.modSched_keeps ..); on_goal 2 => decide)
    | (with_reducible apply Keeps.on (State.endDrain_keeps ..); on_goal 2 => decide)

theorem State.orderDrain_keeps (s : State) (c) (flush) : Keeps 0x10000800000 s (State.orderDrain s c flush) := by
  unfold State.orderDrain
  repeat' first
    | with_reducible exact Keeps.rfl'
    | with_reducible assumption
    | (extract_lets +onlyGivenNames x; guard_hyp x : State := _; refine Keeps.letv (x := x) ?_ (fun hx => ?_); (on_goal 1 => (unfold x; clear x)); (on_goal 2 => ((try clear_value x); rename' x => y)))
    | (extract_lets +onlyGivenNames x; rename' x => z)
    | with_reducible refine Keeps.ite (fun hc => ?_) (fun hc => ?_)
    | (with_reducible apply Keeps.on (State.modSched_keeps ..); on_goal 2 => decide)
    | (with_reducible apply Keeps.on (State.startGust_keeps ..); on_goal 2 => decide)
    | (with_reducible apply Keeps.on (State.endDrain_keeps ..); on_goal 2 => decide)
    | (with_reducible apply Keeps.on (State.stopGust_keeps ..); on_goal 2 => decide)

theorem State.dropDrain_keeps (s : State) (c) : Keeps 0x10000800000 s (State.dropDrain s c) := by
  unfold State.dropDrain
  repeat' first
    | with_reducible exact Keeps.rfl'
    | with_reducible assumption
    | (extract_lets +onlyGivenNames x; guard_hyp x : State := _; refine Keeps.letv (x := x) ?_ (fun hx => ?_); (on_goal 1 => (unfold x; clear x)); (on_goal 2 => ((try clear_value x); rename' x => y)))
    | (extract_lets +onlyGivenNames x; rename' x => z)
    | with_reducible refine Keeps.ite (fun hc => ?_) (fun hc => ?_)
    | (with_reducible apply Keeps.on (State.flushCk_keeps ..); on_goal 2 => decide)
    | (with_reducible apply Keeps.on (State.modSched_keeps ..); on_goal 2 => decide)

theorem State.turnGust_keeps (s : State) (c) : Keeps 0x10000800000 s (State.turnGust s c) := by
  unfold State.turnGust
  repeat' first
    | with_reducible exact Keeps.rfl'
    | with_reducible assumption
    | (extract_lets +onlyGivenNames x; guard_hyp x : State := _; refine Keeps.letv (x := x) ?_ (fun hx => ?_); (on_goal 1 => (unfold x; clear x)); (on_goal 2 => ((try clear_value x); rename' x => y)))
    | (extract_lets +onlyGivenNames x; rename' x => z)
    | with_reducible refine Keeps.ite (fun hc => ?_) (fun hc => ?_)
    | (with_reducible apply Keeps.on (State.stopGust_keeps ..); on_goal 2 => decide)
    | (with_reducible apply Keeps.on (State.startGust_keeps ..); on_goal 2 => decide)

theorem State.closeIdle_keeps (s : State) (c) : Keeps 0x800000 s (State.closeIdle s c) := by
  unfold State.closeIdle
  repeat' first
    | with_reducible exact Keeps.rfl'
    | with_reducible assumption
    | (extract_lets +onlyGivenNames x; guard_hyp x : State := _; refine Keeps.letv (x := x) ?_ (fun hx => ?_); (on_goal 1 => (unfold x; clear x)); (on_goal 2 => ((try clear_value x); rename' x => y)))
    | (extract_lets +onlyGivenNames x; rename' x => z)
    | (with_reducible apply Keeps.on (State.pushCmd_keeps ..); on_goal 2 => decide)
    | (with_reducible apply Keeps.on (State.modSched_keeps ..); on_goal 2 => decide)
    | split

theorem State.columnCmd_keeps (s : State) (c) (o) : Keeps 0x3063fbd022c s (State.columnCmd s c o) := by
  unfold State.columnCmd
  repeat' first
    | with_reducible exact Keeps.rfl'
    | with_reducible assumption
    | (extract_lets +onlyGivenNames x; guard_hyp x : State := _; refine Keeps.letv (x := x) ?_ (fun hx => ?_); (on_goal 1 => (unfold x; clear x)); (on_goal 2 => ((try clear_value x); rename' x => y)))
    | (extract_lets +onlyGivenNames x; rename' x => z)
    | with_reducible refine Keeps.ite (fun hc => ?_) (fun hc => ?_)
    | (with_reducible apply Keeps.on (State.modSched_keeps ..); on_goal 2 => decide)
    | (with_reducible apply Keeps.on (State.kick_keeps ..); on_goal 2 => decide)
    | (with_reducible apply Keeps.on (State.pushCmd_keeps ..); on_goal 2 => decide)

theorem State.openRow_keeps (s : State) (c) (o) : Keeps 0x800000 s (State.openRow s c o) := by
  unfold State.openRow
  repeat' first
    | with_reducible exact Keeps.rfl'
    | with_reducible assumption
    | (extract_lets +onlyGivenNames x; guard_hyp x : State := _; refine Keeps.letv (x := x) ?_ (fun hx => ?_); (on_goal 1 => (unfold x; clear x)); (on_goal 2 => ((try clear_value x); rename' x => y)))
    | (extract_lets +onlyGivenNames x; rename' x => z)
    | with_reducible refine Keeps.ite (fun hc => ?_) (fun hc => ?_)
    | (with_reducible apply Keeps.on (State.pushCmd_keeps ..); on_goal 2 => decide)
    | (with_reducible apply Keeps.on (State.modSched_keeps ..); on_goal 2 => decide)

theorem State.stepFor_keeps (s : State) (c) (o) : Keeps 0x3063fbd022c s (State.stepFor s c o) := by
  unfold State.stepFor
  repeat' first
    | with_reducible exact Keeps.rfl'
    | with_reducible refine Keeps.ite (fun hc => ?_) (fun hc => ?_)
    | (with_reducible apply Keeps.on (State.columnCmd_keeps ..); on_goal 2 => decide)
    | (with_reducible apply Keeps.on (State.openRow_keeps ..); on_goal 2 => decide)

theorem State.replayStep_keeps (s : State) (c) (o) : Keeps 0x800000 s (State.replayStep s c o) := by
  unfold State.replayStep
  repeat' first
    | with_reducible exact Keeps.rfl'
    | with_reducible assumption
    | (extract_lets +onlyGivenNames x; guard_hyp x : State := _; refine Keeps.letv (x := x) ?_ (fun hx => ?_); (on_goal 1 => (unfold x; clear x)); (on_goal 2 => ((try clear_value x); rename' x => y)))
    | (extract_lets +onlyGivenNames x; rename' x => z)
    | with_reducible refine Keeps.ite (fun hc => ?_) (fun hc => ?_)
    | (with_reducible apply Keeps.on (State.modSched_keeps ..); on_goal 2 => decide)
    | (with_reducible apply Keeps.on (State.openRow_keeps ..); on_goal 2 => decide)

theorem State.issueNext_keeps (s : State) (c) (late) : Keeps 0x3063fbd022c s (State.issueNext s c late) := by
  unfold State.issueNext
  repeat' first
    | with_reducible exact Keeps.rfl'
    | with_reducible assumption
    | (extract_lets +onlyGivenNames x; guard_hyp x : State := _; refine Keeps.letv (x := x) ?_ (fun hx => ?_); (on_goal 1 => (unfold x; clear x)); (on_goal 2 => ((try clear_value x); rename' x => y)))
    | (extract_lets +onlyGivenNames x; rename' x => z)
    | with_reducible refine Keeps.ite (fun hc => ?_) (fun hc => ?_)
    | (with_reducible apply Keeps.on (State.modSched_keeps ..); on_goal 2 => decide)
    | (with_reducible apply Keeps.on (State.bumpCh_keeps ..); on_goal 2 => decide)
    | (with_reducible apply Keeps.on (State.turnGust_keeps ..); on_goal 2 => decide)
    | (with_reducible apply Keeps.on (State.stepFor_keeps ..); on_goal 2 => decide)
    | (with_reducible apply Keeps.on (State.closeIdle_keeps ..); on_goal 2 => decide)
    | (with_reducible apply Keeps.on (State.endDrain_keeps ..); on_goal 2 => decide)
    | (with_reducible apply Keeps.on (State.stopGust_keeps ..); on_goal 2 => decide)
    | split
    | (clear_value *; split)

theorem State.issueCmd_keeps (s : State) (c) (late) : Keeps 0x3063fff02ec s (State.issueCmd s c late) := by
  unfold State.issueCmd
  repeat' first
    | with_reducible exact Keeps.rfl'
    | with_reducible assumption
    | (extract_lets +onlyGivenNames x; guard_hyp x : State := _; refine Keeps.letv (x := x) ?_ (fun hx => ?_); (on_goal 1 => (unfold x; clear x)); (on_goal 2 => ((try clear_value x); rename' x => y)))
    | (extract_lets +onlyGivenNames x; rename' x => z)
    | with_reducible refine Keeps.ite (fun hc => ?_) (fun hc => ?_)
    | (with_reducible apply Keeps.on (State.forceRefresh_keeps ..); on_goal 2 => decide)
    | (with_reducible apply Keeps.on (State.refreshNow_keeps ..); on_goal 2 => decide)
    | (with_reducible apply Keeps.on (State.modSched_keeps ..); on_goal 2 => decide)
    | (with_reducible apply Keeps.on (State.replayStep_keeps ..); on_goal 2 => decide)
    | (with_reducible apply Keeps.on (State.issueNext_keeps ..); on_goal 2 => decide)
    | split
    | (clear_value *; split)

theorem State.ownBoundary_keeps (s : State) (c) : Keeps 0x234db02c4 s (State.ownBoundary s c) := by
  unfold State.ownBoundary
  repeat' first
    | with_reducible exact Keeps.rfl'
    | with_reducible refine Keeps.ite (fun hc => ?_) (fun hc => ?_)
    | (with_reducible apply Keeps.on (State.forceRefresh_keeps ..); on_goal 2 => decide)
    | (with_reducible apply Keeps.on (State.atBoundary_keeps ..); on_goal 2 => decide)

theorem State.orderFlush_keeps (s : State) (c) : Keeps 0x10000800000 s (State.orderFlush s c) := by
  unfold State.orderFlush
  repeat' first
    | with_reducible exact Keeps.rfl'
    | (with_reducible apply Keeps.on (State.orderDrain_keeps ..); on_goal 2 => decide)

theorem State.clearCh_keeps (s : State) (c) : Keeps 0x800000 s (State.clearCh s c) := by
  unfold State.clearCh
  repeat' first
    | with_reducible exact Keeps.rfl'
    | with_reducible assumption
    | (extract_lets +onlyGivenNames x; guard_hyp x : State := _; refine Keeps.letv (x := x) ?_ (fun hx => ?_); (on_goal 1 => (unfold x; clear x)); (on_goal 2 => ((try clear_value x); rename' x => y)))
    | (extract_lets +onlyGivenNames x; rename' x => z)
    | (with_reducible apply Keeps.on (State.modSlice_keeps ..); on_goal 2 => decide)

theorem State.requestLull_keeps (s : State) (c) : Keeps 0x10000800000 s (State.requestLull s c) := by
  unfold State.requestLull
  repeat' first
    | with_reducible exact Keeps.rfl'
    | with_reducible assumption
    | (extract_lets +onlyGivenNames x; guard_hyp x : State := _; refine Keeps.letv (x := x) ?_ (fun hx => ?_); (on_goal 1 => (unfold x; clear x)); (on_goal 2 => ((try clear_value x); rename' x => y)))
    | (extract_lets +onlyGivenNames x; rename' x => z)
    | with_reducible refine Keeps.ite (fun hc => ?_) (fun hc => ?_)
    | (with_reducible apply Keeps.on (State.modTrain_keeps ..); on_goal 2 => decide)
    | (with_reducible apply Keeps.on (State.orderDrain_keeps ..); on_goal 2 => decide)

theorem State.beginRetrain_keeps (s : State) (c) : Keeps 0x800000 s (State.beginRetrain s c) := by
  unfold State.beginRetrain
  repeat' first
    | with_reducible exact Keeps.rfl'
    | with_reducible assumption
    | (extract_lets +onlyGivenNames x; guard_hyp x : State := _; refine Keeps.letv (x := x) ?_ (fun hx => ?_); (on_goal 1 => (unfold x; clear x)); (on_goal 2 => ((try clear_value x); rename' x => y)))
    | (extract_lets +onlyGivenNames x; rename' x => z)
    | (with_reducible apply Keeps.on (State.modTrain_keeps ..); on_goal 2 => decide)
    | (with_reducible apply Keeps.on (State.bumpTrn_keeps ..); on_goal 2 => decide)

theorem State.takeOut_keeps (s : State) (c) : Keeps 0x235f90214 s (State.takeOut s c) := by
  unfold State.takeOut
  repeat' first
    | with_reducible exact Keeps.rfl'
    | with_reducible assumption
    | (extract_lets +onlyGivenNames x; guard_hyp x : State := _; refine Keeps.letv (x := x) ?_ (fun hx => ?_); (on_goal 1 => (unfold x; clear x)); (on_goal 2 => ((try clear_value x); rename' x => y)))
    | (extract_lets +onlyGivenNames x; rename' x => z)
    | (with_reducible apply Keeps.on (State.memberFails_keeps ..); on_goal 2 => decide)
    | (with_reducible apply Keeps.on (State.setFence_keeps ..); on_goal 2 => decide)
    | (with_reducible apply Keeps.on (State.beginRetrain_keeps ..); on_goal 2 => decide)
    | (with_reducible apply Keeps.on (State.detectCut_keeps ..); on_goal 2 => decide)
    | (with_reducible apply Keeps.on (State.followMembers_keeps ..); on_goal 2 => decide)
    | split
    | (clear_value *; split)

theorem State.afterFailedLull_keeps (s : State) (c) : Keeps 0x235f90214 s (State.afterFailedLull s c) := by
  unfold State.afterFailedLull
  repeat' first
    | with_reducible exact Keeps.rfl'
    | with_reducible assumption
    | (extract_lets +onlyGivenNames x; guard_hyp x : State := _; refine Keeps.letv (x := x) ?_ (fun hx => ?_); (on_goal 1 => (unfold x; clear x)); (on_goal 2 => ((try clear_value x); rename' x => y)))
    | (extract_lets +onlyGivenNames x; rename' x => z)
    | with_reducible refine Keeps.ite (fun hc => ?_) (fun hc => ?_)
    | (with_reducible apply Keeps.on (State.modTrain_keeps ..); on_goal 2 => decide)
    | (with_reducible apply Keeps.on (State.beginRetrain_keeps ..); on_goal 2 => decide)
    | (with_reducible apply Keeps.on (State.takeOut_keeps ..); on_goal 2 => decide)
    | split

theorem State.lullSnapshot_keeps (s : State) (c) (moved) : Keeps 0x800004 s (State.lullSnapshot s c moved) := by
  unfold State.lullSnapshot
  repeat' first
    | with_reducible exact Keeps.rfl'
    | with_reducible assumption
    | (extract_lets +onlyGivenNames x; guard_hyp x : State := _; refine Keeps.letv (x := x) ?_ (fun hx => ?_); (on_goal 1 => (unfold x; clear x)); (on_goal 2 => ((try clear_value x); rename' x => y)))
    | (extract_lets +onlyGivenNames x; rename' x => z)
    | with_reducible refine Keeps.ite (fun hc => ?_) (fun hc => ?_)
    | (with_reducible apply Keeps.on (State.modTrain_keeps ..); on_goal 2 => decide)
    | fail_if_no_progress (with_reducible apply Keeps.on (keeps_free ..); on_goal 2 => decide)

theorem State.runLull_keeps (s : State) (c) (e) : Keeps 0x10235f90214 s (State.runLull s c e) := by
  unfold State.runLull
  repeat' first
    | with_reducible exact Keeps.rfl'
    | with_reducible assumption
    | (extract_lets +onlyGivenNames x; guard_hyp x : State := _; refine Keeps.letv (x := x) ?_ (fun hx => ?_); (on_goal 1 => (unfold x; clear x)); (on_goal 2 => ((try clear_value x); rename' x => y)))
    | (extract_lets +onlyGivenNames x; rename' x => z)
    | (with_reducible apply Keeps.on (State.bumpTrn_keeps ..); on_goal 2 => decide)
    | (with_reducible apply Keeps.on (State.takeWindow_keeps ..); on_goal 2 => decide)
    | (with_reducible apply Keeps.on (State.modSched_keeps ..); on_goal 2 => decide)
    | (with_reducible apply Keeps.on (State.dropDrain_keeps ..); on_goal 2 => decide)
    | (with_reducible apply Keeps.on (State.pushCmd_keeps ..); on_goal 2 => decide)
    | (with_reducible apply Keeps.on (State.modTrain_keeps ..); on_goal 2 => decide)
    | (with_reducible apply Keeps.on (State.lullSnapshot_keeps ..); on_goal 2 => decide)
    | (with_reducible apply Keeps.on (State.afterFailedLull_keeps ..); on_goal 2 => decide)
    | (with_reducible apply Keeps.on (State.raise_keeps ..); on_goal 2 => decide)
    | split
    | (clear_value *; split)

theorem State.retryMargin_keeps (s : State) (c) : Keeps 0x235f90214 s (State.retryMargin s c) := by
  unfold State.retryMargin
  repeat' first
    | with_reducible exact Keeps.rfl'
    | with_reducible assumption
    | (extract_lets +onlyGivenNames x; guard_hyp x : State := _; refine Keeps.letv (x := x) ?_ (fun hx => ?_); (on_goal 1 => (unfold x; clear x)); (on_goal 2 => ((try clear_value x); rename' x => y)))
    | (extract_lets +onlyGivenNames x; rename' x => z)
    | with_reducible refine Keeps.ite (fun hc => ?_) (fun hc => ?_)
    | (with_reducible apply Keeps.on (State.takeOut_keeps ..); on_goal 2 => decide)
    | split
    | (clear_value *; split)

theorem State.readBack_keeps (s : State) (c) (d) : Keeps 0x800000 s (State.readBack s c d).1 := by
  unfold State.readBack
  repeat' first
    | with_reducible exact Keeps.rfl'
    | with_reducible assumption
    | (extract_lets +onlyGivenNames x; guard_hyp x : State := _; refine Keeps.letv (x := x) ?_ (fun hx => ?_); (on_goal 1 => (unfold x; clear x)); (on_goal 2 => ((try clear_value x); rename' x => y)))
    | (extract_lets +onlyGivenNames x; rename' x => z)
    | with_reducible refine Keeps.ite (fun hc => ?_) (fun hc => ?_)
    | (with_reducible apply Keeps.on (State.modTrain_keeps ..); on_goal 2 => decide)
    | (with_reducible apply Keeps.on (State.modSlice_keeps ..); on_goal 2 => decide)
    | split
    | (clear_value *; split)

theorem State.setLink_keeps (s : State) (c) : Keeps 0x800000 s (State.setLink s c) := by
  unfold State.setLink
  repeat' first
    | with_reducible exact Keeps.rfl'
    | with_reducible assumption
    | (extract_lets +onlyGivenNames x; guard_hyp x : State := _; refine Keeps.letv (x := x) ?_ (fun hx => ?_); (on_goal 1 => (unfold x; clear x)); (on_goal 2 => ((try clear_value x); rename' x => y)))
    | (extract_lets +onlyGivenNames x; rename' x => z)
    | (with_reducible apply Keeps.on (State.modTrain_keeps ..); on_goal 2 => decide)

theorem State.atPl_keeps (s : State) (c) (pl) : Keeps 0x8000c0 s (State.atPl s c pl) := by
  unfold State.atPl
  repeat' first
    | with_reducible exact Keeps.rfl'
    | with_reducible assumption
    | (extract_lets +onlyGivenNames x; guard_hyp x : State := _; refine Keeps.letv (x := x) ?_ (fun hx => ?_); (on_goal 1 => (unfold x; clear x)); (on_goal 2 => ((try clear_value x); rename' x => y)))
    | (extract_lets +onlyGivenNames x; rename' x => z)
    | with_reducible refine Keeps.ite (fun hc => ?_) (fun hc => ?_)
    | (with_reducible apply Keeps.on (State.setLink_keeps ..); on_goal 2 => decide)
    | (with_reducible apply Keeps.on (State.modTrain_keeps ..); on_goal 2 => decide)
    | (with_reducible apply Keeps.on (State.loadTiming_keeps ..); on_goal 2 => decide)

theorem State.takeSnapshot_keeps (s : State) (c) (pl) (saved) : Keeps 0x800004 s (State.takeSnapshot s c pl saved) := by
  unfold State.takeSnapshot
  repeat' first
    | with_reducible exact Keeps.rfl'
    | with_reducible assumption
    | (extract_lets +onlyGivenNames x; guard_hyp x : State := _; refine Keeps.letv (x := x) ?_ (fun hx => ?_); (on_goal 1 => (unfold x; clear x)); (on_goal 2 => ((try clear_value x); rename' x => y)))
    | (extract_lets +onlyGivenNames x; rename' x => z)
    | (with_reducible apply Keeps.on (State.modTrain_keeps ..); on_goal 2 => decide)
    | fail_if_no_progress (with_reducible apply Keeps.on (keeps_free ..); on_goal 2 => decide)

theorem State.takeSnapshots_keeps (s : State) (c) (l) (saved) : Keeps 0x800004 s (State.takeSnapshots s c l saved) := by
  unfold State.takeSnapshots
  repeat' first
    | with_reducible exact Keeps.rfl'
    | with_reducible assumption
    | (with_reducible apply Keeps.on (State.takeSnapshot_keeps ..); on_goal 2 => decide)
    | with_reducible refine Keeps.foldl ?_ (fun s a => ?_)

theorem State.trained_keeps (s : State) (c) (x) : Keeps 0x8000c4 s (State.trained s c x) := by
  unfold State.trained
  repeat' first
    | with_reducible exact Keeps.rfl'
    | with_reducible assumption
    | (extract_lets +onlyGivenNames x; guard_hyp x : State := _; refine Keeps.letv (x := x) ?_ (fun hx => ?_); (on_goal 1 => (unfold x; clear x)); (on_goal 2 => ((try clear_value x); rename' x => y)))
    | (extract_lets +onlyGivenNames x; rename' x => z)
    | (with_reducible apply Keeps.on (State.atPl_keeps ..); on_goal 2 => decide)
    | (with_reducible apply Keeps.on (State.modTrain_keeps ..); on_goal 2 => decide)
    | (with_reducible apply Keeps.on (State.takeSnapshots_keeps ..); on_goal 2 => decide)

theorem State.trainFailed_keeps (s : State) (c) (x) (step) (pl) : Keeps 0x800204 s (State.trainFailed s c x step pl) := by
  unfold State.trainFailed
  repeat' first
    | with_reducible exact Keeps.rfl'
    | with_reducible assumption
    | (extract_lets +onlyGivenNames x; guard_hyp x : State := _; refine Keeps.letv (x := x) ?_ (fun hx => ?_); (on_goal 1 => (unfold x; clear x)); (on_goal 2 => ((try clear_value x); rename' x => y)))
    | (extract_lets +onlyGivenNames x; rename' x => z)
    | (with_reducible apply Keeps.on (State.raise_keeps ..); on_goal 2 => decide)
    | (with_reducible apply Keeps.on (State.modTrain_keeps ..); on_goal 2 => decide)
    | (with_reducible apply Keeps.on (State.takeSnapshots_keeps ..); on_goal 2 => decide)

theorem State.rejoin_keeps (s : State) (c) : Keeps 0x1000000 s (State.rejoin s c) := by
  unfold State.rejoin
  repeat' first
    | with_reducible exact Keeps.rfl'
    | with_reducible assumption
    | (extract_lets +onlyGivenNames x; guard_hyp x : State := _; refine Keeps.letv (x := x) ?_ (fun hx => ?_); (on_goal 1 => (unfold x; clear x)); (on_goal 2 => ((try clear_value x); rename' x => y)))
    | (extract_lets +onlyGivenNames x; rename' x => z)
    | with_reducible refine Keeps.ite (fun hc => ?_) (fun hc => ?_)
    | (with_reducible apply Keeps.on (State.queueRly_keeps ..); on_goal 2 => decide)
    | split
    | (clear_value *; split)

theorem State.queueHint_keeps (s : State) (pl) : Keeps 0x100000000 s (State.queueHint s pl) := by
  unfold State.queueHint
  repeat' first
    | with_reducible exact Keeps.rfl'
    | with_reducible assumption
    | (extract_lets +onlyGivenNames x; guard_hyp x : State := _; refine Keeps.letv (x := x) ?_ (fun hx => ?_); (on_goal 1 => (unfold x; clear x)); (on_goal 2 => ((try clear_value x); rename' x => y)))
    | (extract_lets +onlyGivenNames x; rename' x => z)
    | with_reducible refine Keeps.ite (fun hc => ?_) (fun hc => ?_)
    | fail_if_no_progress (with_reducible apply Keeps.on (keeps_brz _ _ ?q); (case q => first | exact id | exact fun _ => Nat.zero_le _); on_goal 2 => decide)

theorem State.setCap_keeps (s : State) (cap) : Keeps 0x108000000 s (State.setCap s cap) := by
  unfold State.setCap
  repeat' first
    | with_reducible exact Keeps.rfl'
    | with_reducible assumption
    | (extract_lets +onlyGivenNames x; guard_hyp x : State := _; refine Keeps.letv (x := x) ?_ (fun hx => ?_); (on_goal 1 => (unfold x; clear x)); (on_goal 2 => ((try clear_value x); rename' x => y)))
    | (extract_lets +onlyGivenNames x; rename' x => z)
    | with_reducible refine Keeps.ite (fun hc => ?_) (fun hc => ?_)
    | (with_reducible apply Keeps.on (State.queueHint_keeps ..); on_goal 2 => decide)
    | fail_if_no_progress (with_reducible apply Keeps.on (keeps_pwr ..); on_goal 2 => decide)

theorem State.setVid_keeps (s : State) (core) (slice) : Keeps 0x20 s (State.setVid s core slice) := by
  unfold State.setVid
  repeat' first
    | with_reducible exact Keeps.rfl'
    | with_reducible assumption
    | (extract_lets +onlyGivenNames x; guard_hyp x : State := _; refine Keeps.letv (x := x) ?_ (fun hx => ?_); (on_goal 1 => (unfold x; clear x)); (on_goal 2 => ((try clear_value x); rename' x => y)))
    | (extract_lets +onlyGivenNames x; rename' x => z)
    | fail_if_no_progress (with_reducible apply Keeps.on (keeps_pins ..); on_goal 2 => decide)

theorem State.takeUpPl_keeps (s : State) (c) (pl) : Keeps 0x8000c0 s (State.takeUpPl s c pl) := by
  unfold State.takeUpPl
  repeat' first
    | with_reducible exact Keeps.rfl'
    | with_reducible assumption
    | (extract_lets +onlyGivenNames x; guard_hyp x : State := _; refine Keeps.letv (x := x) ?_ (fun hx => ?_); (on_goal 1 => (unfold x; clear x)); (on_goal 2 => ((try clear_value x); rename' x => y)))
    | (extract_lets +onlyGivenNames x; rename' x => z)
    | with_reducible refine Keeps.ite (fun hc => ?_) (fun hc => ?_)
    | (with_reducible apply Keeps.on (State.modTrain_keeps ..); on_goal 2 => decide)
    | (with_reducible apply Keeps.on (State.atPl_keeps ..); on_goal 2 => decide)

theorem State.afterSwitch_keeps (s : State) (c) (goal) : Keeps 0x100008000c0 s (State.afterSwitch s c goal) := by
  unfold State.afterSwitch
  repeat' first
    | with_reducible exact Keeps.rfl'
    | with_reducible assumption
    | (extract_lets +onlyGivenNames x; guard_hyp x : State := _; refine Keeps.letv (x := x) ?_ (fun hx => ?_); (on_goal 1 => (unfold x; clear x)); (on_goal 2 => ((try clear_value x); rename' x => y)))
    | (extract_lets +onlyGivenNames x; rename' x => z)
    | with_reducible refine Keeps.ite (fun hc => ?_) (fun hc => ?_)
    | (with_reducible apply Keeps.on (State.takeUpPl_keeps ..); on_goal 2 => decide)
    | (with_reducible apply Keeps.on (State.requestLull_keeps ..); on_goal 2 => decide)

theorem State.clearSwitching_keeps (s : State) : Keeps 0x800000 s (State.clearSwitching s) := by
  unfold State.clearSwitching
  repeat' first
    | with_reducible exact Keeps.rfl'
    | with_reducible assumption
    | (extract_lets +onlyGivenNames x; guard_hyp x : State := _; refine Keeps.letv (x := x) ?_ (fun hx => ?_); (on_goal 1 => (unfold x; clear x)); (on_goal 2 => ((try clear_value x); rename' x => y)))
    | (extract_lets +onlyGivenNames x; rename' x => z)
    | with_reducible refine Keeps.ite (fun hc => ?_) (fun hc => ?_)
    | (with_reducible apply Keeps.on (State.modTrain_keeps ..); on_goal 2 => decide)
    | with_reducible refine Keeps.foldl ?_ (fun s a => ?_)

theorem State.plEnd_keeps (s : State) : Keeps 0x100088002c0 s (State.plEnd s) := by
  unfold State.plEnd
  repeat' first
    | with_reducible exact Keeps.rfl'
    | with_reducible assumption
    | (extract_lets +onlyGivenNames x; guard_hyp x : State := _; refine Keeps.letv (x := x) ?_ (fun hx => ?_); (on_goal 1 => (unfold x; clear x)); (on_goal 2 => ((try clear_value x); rename' x => y)))
    | (extract_lets +onlyGivenNames x; rename' x => z)
    | (with_reducible apply Keeps.on (State.raise_keeps ..); on_goal 2 => decide)
    | (with_reducible apply Keeps.on (State.afterSwitch_keeps ..); on_goal 2 => decide)
    | fail_if_no_progress (with_reducible apply Keeps.on (keeps_pwr ..); on_goal 2 => decide)
    | with_reducible refine Keeps.foldl ?_ (fun s a => ?_)

theorem State.plDone_keeps (s : State) : Keeps 0x10008c102e0 s (State.plDone s) := by
  unfold State.plDone
  repeat' first
    | with_reducible exact Keeps.rfl'
    | with_reducible assumption
    | (extract_lets +onlyGivenNames x; guard_hyp x : State := _; refine Keeps.letv (x := x) ?_ (fun hx => ?_); (on_goal 1 => (unfold x; clear x)); (on_goal 2 => ((try clear_value x); rename' x => y)))
    | (extract_lets +onlyGivenNames x; rename' x => z)
    | with_reducible refine Keeps.ite (fun hc => ?_) (fun hc => ?_)
    | (with_reducible apply Keeps.on (State.clearSwitching_keeps ..); on_goal 2 => decide)
    | (with_reducible apply Keeps.on (State.notePace_keeps ..); on_goal 2 => decide)
    | (with_reducible apply Keeps.on (State.plEnd_keeps ..); on_goal 2 => decide)
    | fail_if_no_progress (with_reducible apply Keeps.on (keeps_pins ..); on_goal 2 => decide)
    | fail_if_no_progress (with_reducible apply Keeps.on (keeps_pwr ..); on_goal 2 => decide)
    | fail_if_no_progress (with_reducible apply Keeps.on (keeps_pwrPins ..); on_goal 2 => decide)
    | fail_if_no_progress refine Keeps.upd ?_ (Or.inl rfl)

theorem State.plSettle_keeps (s : State) : Keeps 0x10008c102e0 s (State.plSettle s) := by
  unfold State.plSettle
  repeat' first
    | with_reducible exact Keeps.rfl'
    | with_reducible assumption
    | (extract_lets +onlyGivenNames x; guard_hyp x : State := _; refine Keeps.letv (x := x) ?_ (fun hx => ?_); (on_goal 1 => (unfold x; clear x)); (on_goal 2 => ((try clear_value x); rename' x => y)))
    | (extract_lets +onlyGivenNames x; rename' x => z)
    | with_reducible refine Keeps.ite (fun hc => ?_) (fun hc => ?_)
    | (with_reducible apply Keeps.on (State.plDone_keeps ..); on_goal 2 => decide)
    | fail_if_no_progress (with_reducible apply Keeps.on (keeps_pwr ..); on_goal 2 => decide)

theorem State.decidePl_keeps (s : State) : Keeps 0x10108c102e0 s (State.decidePl s) := by
  unfold State.decidePl
  repeat' first
    | with_reducible exact Keeps.rfl'
    | with_reducible assumption
    | (extract_lets +onlyGivenNames x; guard_hyp x : State := _; refine Keeps.letv (x := x) ?_ (fun hx => ?_); (on_goal 1 => (unfold x; clear x)); (on_goal 2 => ((try clear_value x); rename' x => y)))
    | (extract_lets +onlyGivenNames x; rename' x => z)
    | with_reducible refine Keeps.ite (fun hc => ?_) (fun hc => ?_)
    | (with_reducible apply Keeps.on (State.plSettle_keeps ..); on_goal 2 => decide)
    | (with_reducible apply Keeps.on (State.queueHint_keeps ..); on_goal 2 => decide)
    | (with_reducible apply Keeps.on (State.setVid_keeps ..); on_goal 2 => decide)
    | (with_reducible apply Keeps.on (State.modTrain_keeps ..); on_goal 2 => decide)
    | (with_reducible apply Keeps.on (State.feasTrigger_keeps ..); on_goal 2 => decide)
    | fail_if_no_progress (with_reducible apply Keeps.on (keeps_pwr ..); on_goal 2 => decide)
    | with_reducible refine Keeps.foldl ?_ (fun s a => ?_)

theorem State.railsUp_keeps (s : State) : Keeps 0x10008c102e0 s (State.railsUp s) := by
  unfold State.railsUp
  repeat' first
    | with_reducible exact Keeps.rfl'
    | with_reducible assumption
    | (extract_lets +onlyGivenNames x; guard_hyp x : State := _; refine Keeps.letv (x := x) ?_ (fun hx => ?_); (on_goal 1 => (unfold x; clear x)); (on_goal 2 => ((try clear_value x); rename' x => y)))
    | (extract_lets +onlyGivenNames x; rename' x => z)
    | with_reducible refine Keeps.ite (fun hc => ?_) (fun hc => ?_)
    | (with_reducible apply Keeps.on (State.plSettle_keeps ..); on_goal 2 => decide)
    | fail_if_no_progress (with_reducible apply Keeps.on (keeps_pins ..); on_goal 2 => decide)
    | fail_if_no_progress (with_reducible apply Keeps.on (keeps_pwr ..); on_goal 2 => decide)
    | fail_if_no_progress (with_reducible apply Keeps.on (keeps_pwrPins ..); on_goal 2 => decide)
    | fail_if_no_progress refine Keeps.upd ?_ (Or.inl rfl)

theorem State.abandonPl_keeps (s : State) : Keeps 0x108800220 s (State.abandonPl s) := by
  unfold State.abandonPl
  repeat' first
    | with_reducible exact Keeps.rfl'
    | with_reducible assumption
    | (extract_lets +onlyGivenNames x; guard_hyp x : State := _; refine Keeps.letv (x := x) ?_ (fun hx => ?_); (on_goal 1 => (unfold x; clear x)); (on_goal 2 => ((try clear_value x); rename' x => y)))
    | (extract_lets +onlyGivenNames x; rename' x => z)
    | (with_reducible apply Keeps.on (State.setVid_keeps ..); on_goal 2 => decide)
    | (with_reducible apply Keeps.on (State.raise_keeps ..); on_goal 2 => decide)
    | (with_reducible apply Keeps.on (State.setCap_keeps ..); on_goal 2 => decide)
    | (with_reducible apply Keeps.on (State.clearSwitching_keeps ..); on_goal 2 => decide)
    | fail_if_no_progress (with_reducible apply Keeps.on (keeps_pwr ..); on_goal 2 => decide)

theorem State.switchStep_keeps (s : State) (c) : Keeps 0x10008d102e0 s (State.switchStep s c) := by
  unfold State.switchStep
  repeat' first
    | with_reducible exact Keeps.rfl'
    | with_reducible assumption
    | (extract_lets +onlyGivenNames x; guard_hyp x : State := _; refine Keeps.letv (x := x) ?_ (fun hx => ?_); (on_goal 1 => (unfold x; clear x)); (on_goal 2 => ((try clear_value x); rename' x => y)))
    | (extract_lets +onlyGivenNames x; rename' x => z)
    | (with_reducible apply Keeps.on (State.takeWindow_keeps ..); on_goal 2 => decide)
    | (with_reducible apply Keeps.on (State.modSched_keeps ..); on_goal 2 => decide)
    | (with_reducible apply Keeps.on (State.dropDrain_keeps ..); on_goal 2 => decide)
    | (with_reducible apply Keeps.on (State.pushCmd_keeps ..); on_goal 2 => decide)
    | (with_reducible apply Keeps.on (State.takeUpPl_keeps ..); on_goal 2 => decide)
    | (with_reducible apply Keeps.on (State.plSettle_keeps ..); on_goal 2 => decide)
    | (with_reducible apply Keeps.on (State.modTrain_keeps ..); on_goal 2 => decide)

theorem State.noteTherm_keeps (s : State) (old : State) : Keeps 0x8000200 s (State.noteTherm s old) := by
  unfold State.noteTherm
  repeat' first
    | with_reducible exact Keeps.rfl'
    | with_reducible assumption
    | (extract_lets +onlyGivenNames x; guard_hyp x : State := _; refine Keeps.letv (x := x) ?_ (fun hx => ?_); (on_goal 1 => (unfold x; clear x)); (on_goal 2 => ((try clear_value x); rename' x => y)))
    | (extract_lets +onlyGivenNames x; rename' x => z)
    | with_reducible refine Keeps.ite (fun hc => ?_) (fun hc => ?_)
    | (with_reducible apply Keeps.on (State.raise_keeps ..); on_goal 2 => decide)
    | fail_if_no_progress (with_reducible apply Keeps.on (keeps_pwr ..); on_goal 2 => decide)

theorem State.capSlower_keeps (s : State) : Keeps 0x108000000 s (State.capSlower s) := by
  unfold State.capSlower
  repeat' first
    | with_reducible exact Keeps.rfl'
    | (with_reducible apply Keeps.on (State.setCap_keeps ..); on_goal 2 => decide)

theorem State.moveOffset_keeps (s : State) (up) : Keeps 0x8000020 s (State.moveOffset s up) := by
  unfold State.moveOffset
  repeat' first
    | with_reducible exact Keeps.rfl'
    | with_reducible assumption
    | (extract_lets +onlyGivenNames x; guard_hyp x : State := _; refine Keeps.letv (x := x) ?_ (fun hx => ?_); (on_goal 1 => (unfold x; clear x)); (on_goal 2 => ((try clear_value x); rename' x => y)))
    | (extract_lets +onlyGivenNames x; rename' x => z)
    | with_reducible refine Keeps.ite (fun hc => ?_) (fun hc => ?_)
    | fail_if_no_progress (with_reducible apply Keeps.on (keeps_pins ..); on_goal 2 => decide)
    | fail_if_no_progress (with_reducible apply Keeps.on (keeps_pwr ..); on_goal 2 => decide)
    | fail_if_no_progress (with_reducible apply Keeps.on (keeps_pwrPins ..); on_goal 2 => decide)
    | fail_if_no_progress refine Keeps.upd ?_ (Or.inl rfl)

theorem State.paceStep_keeps (s : State) : Keeps 0x108000020 s (State.paceStep s) := by
  unfold State.paceStep
  repeat' first
    | with_reducible exact Keeps.rfl'
    | with_reducible refine Keeps.ite (fun hc => ?_) (fun hc => ?_)
    | (with_reducible apply Keeps.on (State.moveOffset_keeps ..); on_goal 2 => decide)
    | (with_reducible apply Keeps.on (State.capSlower_keeps ..); on_goal 2 => decide)

theorem State.retrainFailed_keeps (s : State) (c) : Keeps 0x235f90214 s (State.retrainFailed s c) := by
  unfold State.retrainFailed
  repeat' first
    | with_reducible exact Keeps.rfl'
    | with_reducible refine Keeps.ite (fun hc => ?_) (fun hc => ?_)
    | (with_reducible apply Keeps.on (State.declareFailed_keeps ..); on_goal 2 => decide)

theorem State.retrainPassed_keeps (s : State) (c) : Keeps 0x18000c4 s (State.retrainPassed s c) := by
  unfold State.retrainPassed
  repeat' first
    | with_reducible exact Keeps.rfl'
    | with_reducible assumption
    | (extract_lets +onlyGivenNames x; guard_hyp x : State := _; refine Keeps.letv (x := x) ?_ (fun hx => ?_); (on_goal 1 => (unfold x; clear x)); (on_goal 2 => ((try clear_value x); rename' x => y)))
    | (extract_lets +onlyGivenNames x; rename' x => z)
    | with_reducible refine Keeps.ite (fun hc => ?_) (fun hc => ?_)
    | (with_reducible apply Keeps.on (State.trained_keeps ..); on_goal 2 => decide)
    | (with_reducible apply Keeps.on (State.modHealth_keeps ..); on_goal 2 => decide)
    | (with_reducible apply Keeps.on (State.rejoin_keeps ..); on_goal 2 => decide)

theorem State.orderRetrain_keeps (s : State) (c) : Keeps 0x235f90214 s (State.orderRetrain s c) := by
  unfold State.orderRetrain
  repeat' first
    | with_reducible exact Keeps.rfl'
    | with_reducible assumption
    | (extract_lets +onlyGivenNames x; guard_hyp x : State := _; refine Keeps.letv (x := x) ?_ (fun hx => ?_); (on_goal 1 => (unfold x; clear x)); (on_goal 2 => ((try clear_value x); rename' x => y)))
    | (extract_lets +onlyGivenNames x; rename' x => z)
    | with_reducible refine Keeps.ite (fun hc => ?_) (fun hc => ?_)
    | (with_reducible apply Keeps.on (State.modTrain_keeps ..); on_goal 2 => decide)
    | (with_reducible apply Keeps.on (State.beginRetrain_keeps ..); on_goal 2 => decide)
    | (with_reducible apply Keeps.on (State.afterFailedLull_keeps ..); on_goal 2 => decide)

theorem State.putTiming_keeps (s : State) (c) (v) : Keeps 0x40 s (State.putTiming s c v) := by
  unfold State.putTiming
  repeat' first
    | with_reducible exact Keeps.rfl'
    | with_reducible assumption
    | (with_reducible apply Keeps.on (State.store_keeps ..); on_goal 2 => decide)
    | with_reducible refine Keeps.foldl ?_ (fun s a => ?_)

theorem State.scanMove_keeps (s : State) (c) (pl) (timing) : Keeps 0x800040 s (State.scanMove s c pl timing) := by
  unfold State.scanMove
  repeat' first
    | with_reducible exact Keeps.rfl'
    | with_reducible assumption
    | (extract_lets +onlyGivenNames x; guard_hyp x : State := _; refine Keeps.letv (x := x) ?_ (fun hx => ?_); (on_goal 1 => (unfold x; clear x)); (on_goal 2 => ((try clear_value x); rename' x => y)))
    | (extract_lets +onlyGivenNames x; rename' x => z)
    | with_reducible refine Keeps.ite (fun hc => ?_) (fun hc => ?_)
    | (with_reducible apply Keeps.on (State.putTiming_keeps ..); on_goal 2 => decide)
    | (with_reducible apply Keeps.on (State.setLink_keeps ..); on_goal 2 => decide)
    | (with_reducible apply Keeps.on (State.modTrain_keeps ..); on_goal 2 => decide)

theorem State.startScan_keeps (s : State) (c) : Keeps 0x800240 s (State.startScan s c) := by
  unfold State.startScan
  repeat' first
    | with_reducible exact Keeps.rfl'
    | with_reducible assumption
    | (extract_lets +onlyGivenNames x; guard_hyp x : State := _; refine Keeps.letv (x := x) ?_ (fun hx => ?_); (on_goal 1 => (unfold x; clear x)); (on_goal 2 => ((try clear_value x); rename' x => y)))
    | (extract_lets +onlyGivenNames x; rename' x => z)
    | with_reducible refine Keeps.ite (fun hc => ?_) (fun hc => ?_)
    | (with_reducible apply Keeps.on (State.modTrain_keeps ..); on_goal 2 => decide)
    | (with_reducible apply Keeps.on (State.scanMove_keeps ..); on_goal 2 => decide)
    | (with_reducible apply Keeps.on (State.raise_keeps ..); on_goal 2 => decide)

theorem State.clearTrn_keeps (s : State) (c) : Keeps 0x800000 s (State.clearTrn s c) := by
  unfold State.clearTrn
  repeat' first
    | with_reducible exact Keeps.rfl'
    | with_reducible assumption
    | (extract_lets +onlyGivenNames x; guard_hyp x : State := _; refine Keeps.letv (x := x) ?_ (fun hx => ?_); (on_goal 1 => (unfold x; clear x)); (on_goal 2 => ((try clear_value x); rename' x => y)))
    | (extract_lets +onlyGivenNames x; rename' x => z)
    | (with_reducible apply Keeps.on (State.modSlice_keeps ..); on_goal 2 => decide)

end Sys2Proof.Machine
end

