-- ==== Sys2Proof/Laws/KeepsSpares.lean ====
section
/-!
SUPPORT. One lemma per operation of Machine/Shares.lean, Machine/Group.lean, Machine/RelayoutOps.lean: the parts it may change, and that it keeps the invariant.
-/
set_option linter.all false
namespace Sys2Proof.Machine
set_option Elab.async false

theorem State.feasCheck_keeps (s : State) : Keeps 0x400000 s (State.feasCheck s) := by
  unfold State.feasCheck
  repeat' first
    | with_reducible exact Keeps.rfl'
    | with_reducible assumption
    | (extract_lets +onlyGivenNames x; guard_hyp x : State := _; refine Keeps.letv (x := x) ?_ (fun hx => ?_); (on_goal 1 => (unfold x; clear x)); (on_goal 2 => ((try clear_value x); rename' x => y)))
    | (extract_lets +onlyGivenNames x; rename' x => z)
    | with_reducible refine Keeps.ite (fun hc => ?_) (fun hc => ?_)
    | fail_if_no_progress (with_reducible apply Keeps.on (keeps_shr ..); on_goal 2 => decide)
    | split
    | (clear_value *; split)

theorem State.applyFeas_keeps (s : State) : Keeps 0x10008c102e0 s (State.applyFeas s) := by
  unfold State.applyFeas
  repeat' first
    | with_reducible exact Keeps.rfl'
    | with_reducible assumption
    | (extract_lets +onlyGivenNames x; guard_hyp x : State := _; refine Keeps.letv (x := x) ?_ (fun hx => ?_); (on_goal 1 => (unfold x; clear x)); (on_goal 2 => ((try clear_value x); rename' x => y)))
    | (extract_lets +onlyGivenNames x; rename' x => z)
    | with_reducible refine Keeps.ite (fun hc => ?_) (fun hc => ?_)
    | (with_reducible apply Keeps.on (State.voidGuarantees_keeps ..); on_goal 2 => decide)
    | (with_reducible apply Keeps.on (State.raise_keeps ..); on_goal 2 => decide)
    | (with_reducible apply Keeps.on (State.modSched_keeps ..); on_goal 2 => decide)
    | (with_reducible apply Keeps.on (State.plSettle_keeps ..); on_goal 2 => decide)
    | fail_if_no_progress (with_reducible apply Keeps.on (keeps_shr ..); on_goal 2 => decide)
    | fail_if_no_progress (with_reducible apply Keeps.on (keeps_pwr ..); on_goal 2 => decide)
    | with_reducible refine Keeps.foldl ?_ (fun s a => ?_)
    | split
    | (clear_value *; split)
    | fail_if_no_progress refine Keeps.upd ?_ (Or.inl rfl)

theorem State.tailwind_keeps (s : State) : Keeps 0x400000 s (State.tailwind s) := by
  unfold State.tailwind
  repeat' first
    | with_reducible exact Keeps.rfl'
    | with_reducible assumption
    | (extract_lets +onlyGivenNames x; guard_hyp x : State := _; refine Keeps.letv (x := x) ?_ (fun hx => ?_); (on_goal 1 => (unfold x; clear x)); (on_goal 2 => ((try clear_value x); rename' x => y)))
    | (extract_lets +onlyGivenNames x; rename' x => z)
    | fail_if_no_progress (with_reducible apply Keeps.on (keeps_shr ..); on_goal 2 => decide)
    | with_reducible refine Keeps.foldl ?_ (fun s a => ?_)

theorem State.clearShr_keeps (s : State) : Keeps 0x400000 s (State.clearShr s) := by
  unfold State.clearShr
  repeat' first
    | with_reducible exact Keeps.rfl'
    | with_reducible assumption
    | (extract_lets +onlyGivenNames x; guard_hyp x : State := _; refine Keeps.letv (x := x) ?_ (fun hx => ?_); (on_goal 1 => (unfold x; clear x)); (on_goal 2 => ((try clear_value x); rename' x => y)))
    | (extract_lets +onlyGivenNames x; rename' x => z)
    | fail_if_no_progress (with_reducible apply Keeps.on (keeps_shr ..); on_goal 2 => decide)

theorem State.deliverStrip_keeps (s : State) (c) (o) (x) : Keeps 0x3063ffd023c s (State.deliverStrip s c o x) := by
  unfold State.deliverStrip
  repeat' first
    | with_reducible exact Keeps.rfl'
    | with_reducible assumption
    | (extract_lets +onlyGivenNames x; guard_hyp x : State := _; refine Keeps.letv (x := x) ?_ (fun hx => ?_); (on_goal 1 => (unfold x; clear x)); (on_goal 2 => ((try clear_value x); rename' x => y)))
    | (extract_lets +onlyGivenNames x; rename' x => z)
    | with_reducible refine Keeps.ite (fun hc => ?_) (fun hc => ?_)
    | (with_reducible apply Keeps.on (State.countMismatch_keeps ..); on_goal 2 => decide)
    | (with_reducible apply Keeps.on (State.kick_keeps ..); on_goal 2 => decide)
    | (with_reducible apply Keeps.on (State.stripArrives_keeps ..); on_goal 2 => decide)
    | split
    | (clear_value *; split)

theorem State.returnForwarded_keeps (s : State) (c) (k) (o) (err) : Keeps 0x3063ffd023c s (State.returnForwarded s c k o err) := by
  unfold State.returnForwarded
  repeat' first
    | with_reducible exact Keeps.rfl'
    | with_reducible assumption
    | (extract_lets +onlyGivenNames x; guard_hyp x : State := _; refine Keeps.letv (x := x) ?_ (fun hx => ?_); (on_goal 1 => (unfold x; clear x)); (on_goal 2 => ((try clear_value x); rename' x => y)))
    | (extract_lets +onlyGivenNames x; rename' x => z)
    | (with_reducible apply Keeps.on (State.modSched_keeps ..); on_goal 2 => decide)
    | (with_reducible apply Keeps.on (State.deliverStrip_keeps ..); on_goal 2 => decide)

theorem State.fetchStrip_keeps (s : State) (c) (o) (err) : Keeps 0x800000 s (State.fetchStrip s c o err).1 := by
  unfold State.fetchStrip
  repeat' first
    | with_reducible exact Keeps.rfl'
    | with_reducible assumption
    | (extract_lets +onlyGivenNames x; guard_hyp x : State := _; refine Keeps.letv (x := x) ?_ (fun hx => ?_); (on_goal 1 => (unfold x; clear x)); (on_goal 2 => ((try clear_value x); rename' x => y)))
    | (extract_lets +onlyGivenNames x; rename' x => z)
    | with_reducible refine Keeps.ite (fun hc => ?_) (fun hc => ?_)
    | (with_reducible apply Keeps.on (State.modSched_keeps ..); on_goal 2 => decide)
    | (with_reducible apply Keeps.on (State.bumpTrn_keeps ..); on_goal 2 => decide)
    | split
    | (clear_value *; split)

theorem State.returnRead_keeps (s : State) (c) (k) (o) (err) : Keeps 0x3063ffd023c s (State.returnRead s c k o err) := by
  unfold State.returnRead
  repeat' first
    | with_reducible exact Keeps.rfl'
    | with_reducible assumption
    | (extract_lets +onlyGivenNames x; guard_hyp x : State := _; refine Keeps.letv (x := x) ?_ (fun hx => ?_); (on_goal 1 => (unfold x; clear x)); (on_goal 2 => ((try clear_value x); rename' x => y)))
    | (extract_lets +onlyGivenNames x; rename' x => z)
    | with_reducible refine Keeps.ite (fun hc => ?_) (fun hc => ?_)
    | (with_reducible apply Keeps.on (State.fetchStrip_keeps ..); on_goal 2 => decide)
    | (split; rename_i t w hq; refine Keeps.letv (x := t) (Keeps.ofFst hq (Keeps.on (State.fetchStrip_keeps ..) (by first | assumption | exact Keeps.rfl') (by decide))) (fun ht => ?_); clear hq)
    | (with_reducible apply Keeps.on (State.flagOp_keeps ..); on_goal 2 => decide)
    | (with_reducible apply Keeps.on (State.bumpCh_keeps ..); on_goal 2 => decide)
    | (with_reducible apply Keeps.on (State.modSched_keeps ..); on_goal 2 => decide)
    | (with_reducible apply Keeps.on (State.deliverStrip_keeps ..); on_goal 2 => decide)

theorem State.returnReplay_keeps (s : State) (c) (k) (o) (err) : Keeps 0x3063ffd023c s (State.returnReplay s c k o err) := by
  unfold State.returnReplay
  repeat' first
    | with_reducible exact Keeps.rfl'
    | with_reducible assumption
    | (extract_lets +onlyGivenNames x; guard_hyp x : State := _; refine Keeps.letv (x := x) ?_ (fun hx => ?_); (on_goal 1 => (unfold x; clear x)); (on_goal 2 => ((try clear_value x); rename' x => y)))
    | (extract_lets +onlyGivenNames x; rename' x => z)
    | with_reducible refine Keeps.ite (fun hc => ?_) (fun hc => ?_)
    | (with_reducible apply Keeps.on (State.fetchStrip_keeps ..); on_goal 2 => decide)
    | (split; rename_i t w hq; refine Keeps.letv (x := t) (Keeps.ofFst hq (Keeps.on (State.fetchStrip_keeps ..) (by first | assumption | exact Keeps.rfl') (by decide))) (fun ht => ?_); clear hq)
    | (with_reducible apply Keeps.on (State.modSched_keeps ..); on_goal 2 => decide)
    | (with_reducible apply Keeps.on (State.logError_keeps ..); on_goal 2 => decide)
    | (with_reducible apply Keeps.on (State.deliverStrip_keeps ..); on_goal 2 => decide)

theorem State.returnCheck_keeps (s : State) (c) (o) (err) (done) : Keeps 0x10000800000 s (State.returnCheck s c o err done) := by
  unfold State.returnCheck
  repeat' first
    | with_reducible exact Keeps.rfl'
    | with_reducible assumption
    | (extract_lets +onlyGivenNames x; guard_hyp x : State := _; refine Keeps.letv (x := x) ?_ (fun hx => ?_); (on_goal 1 => (unfold x; clear x)); (on_goal 2 => ((try clear_value x); rename' x => y)))
    | (extract_lets +onlyGivenNames x; rename' x => z)
    | with_reducible refine Keeps.ite (fun hc => ?_) (fun hc => ?_)
    | (with_reducible apply Keeps.on (State.bumpTrn_keeps ..); on_goal 2 => decide)
    | (with_reducible apply Keeps.on (State.modSched_keeps ..); on_goal 2 => decide)
    | (with_reducible apply Keeps.on (State.mergeCheck_keeps ..); on_goal 2 => decide)
    | (with_reducible apply Keeps.on (State.readEvictee_keeps ..); on_goal 2 => decide)

theorem State.returnFirst_keeps (s : State) (c) (k) (o) (err) : Keeps 0x3063ffd023c s (State.returnFirst s c k o err) := by
  unfold State.returnFirst
  repeat' first
    | with_reducible exact Keeps.rfl'
    | with_reducible assumption
    | (extract_lets +onlyGivenNames x; guard_hyp x : State := _; refine Keeps.letv (x := x) ?_ (fun hx => ?_); (on_goal 1 => (unfold x; clear x)); (on_goal 2 => ((try clear_value x); rename' x => y)))
    | (extract_lets +onlyGivenNames x; rename' x => z)
    | with_reducible refine Keeps.ite (fun hc => ?_) (fun hc => ?_)
    | (with_reducible apply Keeps.on (State.returnCheck_keeps ..); on_goal 2 => decide)
    | (with_reducible apply Keeps.on (State.returnRead_keeps ..); on_goal 2 => decide)
    | (with_reducible apply Keeps.on (State.missWord_keeps ..); on_goal 2 => decide)

theorem State.returnSecond_keeps (s : State) (c) (k) (o) (err) : Keeps 0x3063ffd023c s (State.returnSecond s c k o err) := by
  unfold State.returnSecond
  repeat' first
    | with_reducible exact Keeps.rfl'
    | with_reducible refine Keeps.ite (fun hc => ?_) (fun hc => ?_)
    | (with_reducible apply Keeps.on (State.returnReplay_keeps ..); on_goal 2 => decide)
    | (with_reducible apply Keeps.on (State.missWord_keeps ..); on_goal 2 => decide)

theorem State.landOp_keeps (s : State) (c) (k) (o) : Keeps 0x3063fbd022c s (State.landOp s c k o) := by
  unfold State.landOp
  repeat' first
    | with_reducible exact Keeps.rfl'
    | with_reducible assumption
    | (extract_lets +onlyGivenNames x; guard_hyp x : State := _; refine Keeps.letv (x := x) ?_ (fun hx => ?_); (on_goal 1 => (unfold x; clear x)); (on_goal 2 => ((try clear_value x); rename' x => y)))
    | (extract_lets +onlyGivenNames x; rename' x => z)
    | with_reducible refine Keeps.ite (fun hc => ?_) (fun hc => ?_)
    | (with_reducible apply Keeps.on (State.modSched_keeps ..); on_goal 2 => decide)
    | (with_reducible apply Keeps.on (State.setRawLine_keeps ..); on_goal 2 => decide)
    | (with_reducible apply Keeps.on (State.cacheWord_keeps ..); on_goal 2 => decide)
    | (with_reducible apply Keeps.on (State.putStrip_keeps ..); on_goal 2 => decide)
    | (with_reducible apply Keeps.on (State.writeAcked_keeps ..); on_goal 2 => decide)
    | (with_reducible apply Keeps.on (State.kick_keeps ..); on_goal 2 => decide)
    | (with_reducible apply Keeps.on (State.retryLedger_keeps ..); on_goal 2 => decide)
    | with_reducible refine Keeps.foldl ?_ (fun s a => ?_)

theorem State.clearGrp_keeps (s : State) (g) : Keeps 0x100000 s (State.clearGrp s g) := by
  unfold State.clearGrp
  repeat' first
    | with_reducible exact Keeps.rfl'
    | with_reducible assumption
    | (extract_lets +onlyGivenNames x; guard_hyp x : State := _; refine Keeps.letv (x := x) ?_ (fun hx => ?_); (on_goal 1 => (unfold x; clear x)); (on_goal 2 => ((try clear_value x); rename' x => y)))
    | (extract_lets +onlyGivenNames x; rename' x => z)
    | (with_reducible apply Keeps.on (State.modHub_keeps ..); on_goal 2 => decide)

theorem State.rejoinPl_keeps (s : State) (c) : Keeps 0x8000c0 s (State.rejoinPl s c) := by
  unfold State.rejoinPl
  repeat' first
    | with_reducible exact Keeps.rfl'
    | with_reducible refine Keeps.ite (fun hc => ?_) (fun hc => ?_)
    | (with_reducible apply Keeps.on (State.atPl_keeps ..); on_goal 2 => decide)

theorem State.beginRly_keeps (s : State) (g) (r) : Keeps 0x3f102d0 s (State.beginRly s g r) := by
  unfold State.beginRly
  repeat' first
    | with_reducible exact Keeps.rfl'
    | with_reducible assumption
    | (extract_lets +onlyGivenNames x; guard_hyp x : State := _; refine Keeps.letv (x := x) ?_ (fun hx => ?_); (on_goal 1 => (unfold x; clear x)); (on_goal 2 => ((try clear_value x); rename' x => y)))
    | (extract_lets +onlyGivenNames x; rename' x => z)
    | with_reducible refine Keeps.ite (fun hc => ?_) (fun hc => ?_)
    | (with_reducible apply Keeps.on (State.setRly_keeps ..); on_goal 2 => decide)
    | (with_reducible apply Keeps.on (State.setMember_keeps ..); on_goal 2 => decide)
    | (with_reducible apply Keeps.on (State.modHealth_keeps ..); on_goal 2 => decide)
    | (with_reducible apply Keeps.on (State.rejoinPl_keeps ..); on_goal 2 => decide)
    | (with_reducible apply Keeps.on (State.setFence_keeps ..); on_goal 2 => decide)
    | (with_reducible apply Keeps.on (State.modSched_keeps ..); on_goal 2 => decide)
    | (with_reducible apply Keeps.on (State.checkpoint_keeps ..); on_goal 2 => decide)
    | (with_reducible apply Keeps.on (State.stageRoute_keeps ..); on_goal 2 => decide)
    | (with_reducible apply Keeps.on (State.detectCut_keeps ..); on_goal 2 => decide)
    | (with_reducible apply Keeps.on (State.followMembers_keeps ..); on_goal 2 => decide)
    | fail_if_no_progress (with_reducible apply Keeps.on (keeps_spr ..); on_goal 2 => decide)
    | split
    | (clear_value *; split)

theorem State.noteRead_keeps (s : State) (g) (stripe) (c) (e) (x) : Keeps 0x234880204 s (State.noteRead s g stripe c e x) := by
  unfold State.noteRead
  repeat' first
    | with_reducible exact Keeps.rfl'
    | with_reducible assumption
    | (extract_lets +onlyGivenNames x; guard_hyp x : State := _; refine Keeps.letv (x := x) ?_ (fun hx => ?_); (on_goal 1 => (unfold x; clear x)); (on_goal 2 => ((try clear_value x); rename' x => y)))
    | (extract_lets +onlyGivenNames x; rename' x => z)
    | with_reducible refine Keeps.ite (fun hc => ?_) (fun hc => ?_)
    | (with_reducible apply Keeps.on (State.bumpTrn_keeps ..); on_goal 2 => decide)
    | (with_reducible apply Keeps.on (State.bumpCh_keeps ..); on_goal 2 => decide)
    | (with_reducible apply Keeps.on (State.logError_keeps ..); on_goal 2 => decide)

theorem State.noteReads_keeps (s : State) (g) (stripe) (errs) (strips) : Keeps 0x234880204 s (State.noteReads s g stripe errs strips) := by
  unfold State.noteReads
  repeat' first
    | with_reducible exact Keeps.rfl'
    | with_reducible assumption
    | (extract_lets +onlyGivenNames x; guard_hyp x : State := _; refine Keeps.letv (x := x) ?_ (fun hx => ?_); (on_goal 1 => (unfold x; clear x)); (on_goal 2 => ((try clear_value x); rename' x => y)))
    | (extract_lets +onlyGivenNames x; rename' x => z)
    | (with_reducible apply Keeps.on (State.noteRead_keeps ..); on_goal 2 => decide)
    | with_reducible refine Keeps.foldl ?_ (fun s a => ?_)
    | split

theorem State.reparity_keeps (s : State) (g) (stripe) : Keeps 0x10000800000 s (State.reparity s g stripe) := by
  unfold State.reparity
  repeat' first
    | with_reducible exact Keeps.rfl'
    | with_reducible assumption
    | (extract_lets +onlyGivenNames x; guard_hyp x : State := _; refine Keeps.letv (x := x) ?_ (fun hx => ?_); (on_goal 1 => (unfold x; clear x)); (on_goal 2 => ((try clear_value x); rename' x => y)))
    | (extract_lets +onlyGivenNames x; rename' x => z)
    | with_reducible refine Keeps.ite (fun hc => ?_) (fun hc => ?_)
    | (with_reducible apply Keeps.on (State.putStrips_keeps ..); on_goal 2 => decide)

theorem State.askCopy_keeps (s : State) (g) (stripe) : Keeps 0x20000010008 s (State.askCopy s g stripe) := by
  unfold State.askCopy
  extract_lets f src0 r
  have hs : ¬ r.src.toNat < 16 := show ¬ srcVane.toNat < 16 by decide
  exact Keeps.on (keeps_push s r rfl fun h => absurd h hs) Keeps.rfl' (by decide)

theorem State.openWindow_keeps (s : State) (g) : Keeps 0x20000010008 s (State.openWindow s g) := by
  unfold State.openWindow
  repeat' first
    | with_reducible exact Keeps.rfl'
    | with_reducible assumption
    | (extract_lets +onlyGivenNames x; guard_hyp x : State := _; refine Keeps.letv (x := x) ?_ (fun hx => ?_); (on_goal 1 => (unfold x; clear x)); (on_goal 2 => ((try clear_value x); rename' x => y)))
    | (extract_lets +onlyGivenNames x; rename' x => z)
    | with_reducible refine Keeps.ite (fun hc => ?_) (fun hc => ?_)
    | (with_reducible apply Keeps.on (State.askCopy_keeps ..); on_goal 2 => decide)
    | split
    | (clear_value *; split)

theorem State.dropCopies_keeps (s : State) (g) : Keeps 0x20000010000 s (State.dropCopies s g) := by
  unfold State.dropCopies
  repeat' first
    | with_reducible exact Keeps.rfl'
    | with_reducible assumption
    | (extract_lets +onlyGivenNames x; guard_hyp x : State := _; refine Keeps.letv (x := x) ?_ (fun hx => ?_); (on_goal 1 => (unfold x; clear x)); (on_goal 2 => ((try clear_value x); rename' x => y)))
    | (extract_lets +onlyGivenNames x; rename' x => z)
    | fail_if_no_progress (with_reducible apply Keeps.on (keeps_reqsAll _ _ ?q); (case q => first | exact reqsOk_filter _ | exact reqsOk_map (fun r => by split <;> exact ⟨rfl, rfl, rfl⟩) | exact fun _ => reqsOk_nil); on_goal 2 => decide)

theorem State.completeRly_keeps (s : State) (g) (r) : Keeps 0x237f90214 s (State.completeRly s g r) := by
  unfold State.completeRly
  repeat' first
    | with_reducible exact Keeps.rfl'
    | with_reducible assumption
    | (extract_lets +onlyGivenNames x; guard_hyp x : State := _; refine Keeps.letv (x := x) ?_ (fun hx => ?_); (on_goal 1 => (unfold x; clear x)); (on_goal 2 => ((try clear_value x); rename' x => y)))
    | (extract_lets +onlyGivenNames x; rename' x => z)
    | with_reducible refine Keeps.ite (fun hc => ?_) (fun hc => ?_)
    | (with_reducible apply Keeps.on (State.endLosses_keeps ..); on_goal 2 => decide)
    | (with_reducible apply Keeps.on (State.setMember_keeps ..); on_goal 2 => decide)
    | (with_reducible apply Keeps.on (State.setRly_keeps ..); on_goal 2 => decide)
    | (with_reducible apply Keeps.on (State.checkpoint_keeps ..); on_goal 2 => decide)
    | (with_reducible apply Keeps.on (State.stageRoute_keeps ..); on_goal 2 => decide)
    | (with_reducible apply Keeps.on (State.modHealth_keeps ..); on_goal 2 => decide)
    | (with_reducible apply Keeps.on (State.ownLine_keeps ..); on_goal 2 => decide)
    | (with_reducible apply Keeps.on (State.setFence_keeps ..); on_goal 2 => decide)
    | (with_reducible apply Keeps.on (State.freeSlice_keeps ..); on_goal 2 => decide)
    | (with_reducible apply Keeps.on (State.modHub_keeps ..); on_goal 2 => decide)
    | (with_reducible apply Keeps.on (State.feasTrigger_keeps ..); on_goal 2 => decide)
    | (with_reducible apply Keeps.on (State.followMembers_keeps ..); on_goal 2 => decide)
    | (with_reducible apply Keeps.on (State.raise_keeps ..); on_goal 2 => decide)
    | (with_reducible apply Keeps.on (State.recheckLevels_keeps ..); on_goal 2 => decide)
    | (with_reducible apply Keeps.on (State.retryMargin_keeps ..); on_goal 2 => decide)
    | fail_if_no_progress (with_reducible apply Keeps.on (keeps_spr ..); on_goal 2 => decide)
    | with_reducible refine Keeps.foldl ?_ (fun s a => ?_)
    | split
    | (clear_value *; split)

theorem State.haltRly_keeps (s : State) (g) (byCommand) : Keeps 0x20003010000 s (State.haltRly s g byCommand) := by
  unfold State.haltRly
  repeat' first
    | with_reducible exact Keeps.rfl'
    | with_reducible assumption
    | (extract_lets +onlyGivenNames x; guard_hyp x : State := _; refine Keeps.letv (x := x) ?_ (fun hx => ?_); (on_goal 1 => (unfold x; clear x)); (on_goal 2 => ((try clear_value x); rename' x => y)))
    | (extract_lets +onlyGivenNames x; rename' x => z)
    | (with_reducible apply Keeps.on (State.checkpointStopped_keeps ..); on_goal 2 => decide)
    | (with_reducible apply Keeps.on (State.dropCopies_keeps ..); on_goal 2 => decide)
    | (with_reducible apply Keeps.on (State.setRly_keeps ..); on_goal 2 => decide)
    | split

theorem State.suspendRly_keeps (s : State) (g) : Keeps 0x20003010000 s (State.suspendRly s g) := by
  unfold State.suspendRly
  repeat' first
    | with_reducible exact Keeps.rfl'
    | (with_reducible apply Keeps.on (State.haltRly_keeps ..); on_goal 2 => decide)

theorem State.stopRly_keeps (s : State) (g) : Keeps 0x20003010000 s (State.stopRly s g) := by
  unfold State.stopRly
  repeat' first
    | with_reducible exact Keeps.rfl'
    | (with_reducible apply Keeps.on (State.haltRly_keeps ..); on_goal 2 => decide)

theorem State.setPatrol_keeps (s : State) (g) (stripe) : Keeps 0x1000000 s (State.setPatrol s g stripe) := by
  unfold State.setPatrol
  repeat' first
    | with_reducible exact Keeps.rfl'
    | with_reducible assumption
    | (extract_lets +onlyGivenNames x; guard_hyp x : State := _; refine Keeps.letv (x := x) ?_ (fun hx => ?_); (on_goal 1 => (unfold x; clear x)); (on_goal 2 => ((try clear_value x); rename' x => y)))
    | (extract_lets +onlyGivenNames x; rename' x => z)
    | fail_if_no_progress (with_reducible apply Keeps.on (keeps_spr ..); on_goal 2 => decide)

theorem State.patrolPass_keeps (s : State) (g) : Keeps 0x1000200 s (State.patrolPass s g) := by
  unfold State.patrolPass
  repeat' first
    | with_reducible exact Keeps.rfl'
    | with_reducible assumption
    | (extract_lets +onlyGivenNames x; guard_hyp x : State := _; refine Keeps.letv (x := x) ?_ (fun hx => ?_); (on_goal 1 => (unfold x; clear x)); (on_goal 2 => ((try clear_value x); rename' x => y)))
    | (extract_lets +onlyGivenNames x; rename' x => z)
    | (with_reducible apply Keeps.on (State.setPatrol_keeps ..); on_goal 2 => decide)
    | (with_reducible apply Keeps.on (State.raise_keeps ..); on_goal 2 => decide)
    | fail_if_no_progress (with_reducible apply Keeps.on (keeps_spr ..); on_goal 2 => decide)

theorem State.patrolNext_keeps (s : State) (g) : Keeps 0x1000200 s (State.patrolNext s g) := by
  unfold State.patrolNext
  repeat' first
    | with_reducible exact Keeps.rfl'
    | with_reducible assumption
    | (extract_lets +onlyGivenNames x; guard_hyp x : State := _; refine Keeps.letv (x := x) ?_ (fun hx => ?_); (on_goal 1 => (unfold x; clear x)); (on_goal 2 => ((try clear_value x); rename' x => y)))
    | (extract_lets +onlyGivenNames x; rename' x => z)
    | (with_reducible apply Keeps.on (State.setPatrol_keeps ..); on_goal 2 => decide)
    | (with_reducible apply Keeps.on (State.patrolPass_keeps ..); on_goal 2 => decide)
    | split

theorem State.scrubParity_keeps (s : State) (g) (stripe) (strips) : Keeps 0x10235980204 s (State.scrubParity s g stripe strips) := by
  unfold State.scrubParity
  repeat' first
    | with_reducible exact Keeps.rfl'
    | with_reducible assumption
    | (extract_lets +onlyGivenNames x; guard_hyp x : State := _; refine Keeps.letv (x := x) ?_ (fun hx => ?_); (on_goal 1 => (unfold x; clear x)); (on_goal 2 => ((try clear_value x); rename' x => y)))
    | (extract_lets +onlyGivenNames x; rename' x => z)
    | with_reducible refine Keeps.ite (fun hc => ?_) (fun hc => ?_)
    | (with_reducible apply Keeps.on (State.raise_keeps ..); on_goal 2 => decide)
    | (with_reducible apply Keeps.on (State.passEntry_keeps ..); on_goal 2 => decide)
    | (with_reducible apply Keeps.on (State.putStrips_keeps ..); on_goal 2 => decide)
    | (with_reducible apply Keeps.on (State.logError_keeps ..); on_goal 2 => decide)
    | fail_if_no_progress (with_reducible apply Keeps.on (keeps_spr ..); on_goal 2 => decide)

theorem State.scrubStripe_keeps (s : State) (g) (stripe) (errs) : Keeps 0x10635f90214 s (State.scrubStripe s g stripe errs) := by
  unfold State.scrubStripe
  repeat' first
    | with_reducible exact Keeps.rfl'
    | with_reducible assumption
    | (extract_lets +onlyGivenNames x; guard_hyp x : State := _; refine Keeps.letv (x := x) ?_ (fun hx => ?_); (on_goal 1 => (unfold x; clear x)); (on_goal 2 => ((try clear_value x); rename' x => y)))
    | (extract_lets +onlyGivenNames x; rename' x => z)
    | with_reducible refine Keeps.ite (fun hc => ?_) (fun hc => ?_)
    | (with_reducible apply Keeps.on (State.vaneGrants_keeps ..); on_goal 2 => decide)
    | (with_reducible apply Keeps.on (State.noteReads_keeps ..); on_goal 2 => decide)
    | (with_reducible apply Keeps.on (State.scrubParity_keeps ..); on_goal 2 => decide)
    | (with_reducible apply Keeps.on (State.mendStripe_keeps ..); on_goal 2 => decide)
    | (split; rename_i t w hq; refine Keeps.letv (x := t) (Keeps.ofFst hq (Keeps.on (State.mendStripe_keeps ..) (by first | assumption | exact Keeps.rfl') (by decide))) (fun ht => ?_); clear hq)
    | (with_reducible apply Keeps.on (State.countStripe_keeps ..); on_goal 2 => decide)
    | (with_reducible apply Keeps.on (State.passEntry_keeps ..); on_goal 2 => decide)
    | (with_reducible apply Keeps.on (State.putStrips_keeps ..); on_goal 2 => decide)

theorem State.patrolStep_keeps (s : State) (g) (errs) : Keeps 0x10635f90214 s (State.patrolStep s g errs) := by
  unfold State.patrolStep
  repeat' first
    | with_reducible exact Keeps.rfl'
    | with_reducible assumption
    | (extract_lets +onlyGivenNames x; guard_hyp x : State := _; refine Keeps.letv (x := x) ?_ (fun hx => ?_); (on_goal 1 => (unfold x; clear x)); (on_goal 2 => ((try clear_value x); rename' x => y)))
    | (extract_lets +onlyGivenNames x; rename' x => z)
    | with_reducible refine Keeps.ite (fun hc => ?_) (fun hc => ?_)
    | (with_reducible apply Keeps.on (State.patrolNext_keeps ..); on_goal 2 => decide)
    | (with_reducible apply Keeps.on (State.scrubStripe_keeps ..); on_goal 2 => decide)
    | (with_reducible apply Keeps.on (State.setPatrol_keeps ..); on_goal 2 => decide)

theorem State.verifyStep_keeps (s : State) (g) (errs) : Keeps 0x10635f90214 s (State.verifyStep s g errs) := by
  unfold State.verifyStep
  repeat' first
    | with_reducible exact Keeps.rfl'
    | with_reducible assumption
    | (extract_lets +onlyGivenNames x; guard_hyp x : State := _; refine Keeps.letv (x := x) ?_ (fun hx => ?_); (on_goal 1 => (unfold x; clear x)); (on_goal 2 => ((try clear_value x); rename' x => y)))
    | (extract_lets +onlyGivenNames x; rename' x => z)
    | with_reducible refine Keeps.ite (fun hc => ?_) (fun hc => ?_)
    | (with_reducible apply Keeps.on (State.modHub_keeps ..); on_goal 2 => decide)
    | (with_reducible apply Keeps.on (State.scrubStripe_keeps ..); on_goal 2 => decide)

theorem State.patrolWrap_keeps (s : State) (g) : Keeps 0x1000200 s (State.patrolWrap s g) := by
  unfold State.patrolWrap
  repeat' first
    | with_reducible exact Keeps.rfl'
    | with_reducible refine Keeps.ite (fun hc => ?_) (fun hc => ?_)
    | (with_reducible apply Keeps.on (State.patrolPass_keeps ..); on_goal 2 => decide)

theorem State.sprResult_keeps (s : State) (r) : Keeps 0x1000200 s (State.sprResult s r) := by
  unfold State.sprResult
  repeat' first
    | with_reducible exact Keeps.rfl'
    | with_reducible assumption
    | (extract_lets +onlyGivenNames x; guard_hyp x : State := _; refine Keeps.letv (x := x) ?_ (fun hx => ?_); (on_goal 1 => (unfold x; clear x)); (on_goal 2 => ((try clear_value x); rename' x => y)))
    | (extract_lets +onlyGivenNames x; rename' x => z)
    | (with_reducible apply Keeps.on (State.raise_keeps ..); on_goal 2 => decide)
    | fail_if_no_progress (with_reducible apply Keeps.on (keeps_spr ..); on_goal 2 => decide)

theorem State.sprDo_keeps {m : Nat} {s0 s : State} {refuse : BitVec 4} {f : State → State} {ok : BitVec 4} (h : Keeps m s0 s)
    (hm : 0x1000200 &&& m = 0x1000200) (hf : ∀ s, Keeps m s (f s)) : Keeps m s0 (s.sprDo refuse f ok) := by
  unfold State.sprDo
  exact Keeps.ite (fun _ => (State.sprResult_keeps ..).on h hm) fun _ =>
    Keeps.ite (fun _ => (State.sprResult_keeps ..).on (h.trans (hf s)) hm) fun _ => (State.sprResult_keeps ..).on h hm

theorem State.cmdFail_keeps (s : State) (c) : Keeps 0x235f90214 s (State.cmdFail s c) := by
  unfold State.cmdFail
  repeat' first
    | with_reducible exact Keeps.rfl'
    | with_reducible assumption
    | (extract_lets +onlyGivenNames x; guard_hyp x : State := _; refine Keeps.letv (x := x) ?_ (fun hx => ?_); (on_goal 1 => (unfold x; clear x)); (on_goal 2 => ((try clear_value x); rename' x => y)))
    | (extract_lets +onlyGivenNames x; rename' x => z)
    | with_reducible refine Keeps.ite (fun hc => ?_) (fun hc => ?_)
    | with_reducible refine Keeps.ofId ?_
    | with_reducible refine State.sprDo_keeps ?_ (by decide) (fun s => ?_)
    | (with_reducible apply Keeps.on (State.declareFailed_keeps ..); on_goal 2 => decide)
    | split
    | (clear_value *; split)

theorem State.cmdEvacuate_keeps (s : State) (g) (m) (c) : Keeps 0x1800200 s (State.cmdEvacuate s g m c) := by
  unfold State.cmdEvacuate
  repeat' first
    | with_reducible exact Keeps.rfl'
    | with_reducible assumption
    | (extract_lets +onlyGivenNames x; guard_hyp x : State := _; refine Keeps.letv (x := x) ?_ (fun hx => ?_); (on_goal 1 => (unfold x; clear x)); (on_goal 2 => ((try clear_value x); rename' x => y)))
    | (extract_lets +onlyGivenNames x; rename' x => z)
    | with_reducible refine Keeps.ite (fun hc => ?_) (fun hc => ?_)
    | with_reducible refine Keeps.ofId ?_
    | with_reducible refine State.sprDo_keeps ?_ (by decide) (fun s => ?_)
    | (with_reducible apply Keeps.on (State.grantSpare_keeps ..); on_goal 2 => decide)
    | fail_if_no_progress (with_reducible apply Keeps.on (keeps_spr ..); on_goal 2 => decide)
    | split
    | (clear_value *; split)

theorem State.cmdReturn_keeps (s : State) (g) (m) : Keeps 0x1800200 s (State.cmdReturn s g m) := by
  unfold State.cmdReturn
  repeat' first
    | with_reducible exact Keeps.rfl'
    | with_reducible assumption
    | (extract_lets +onlyGivenNames x; guard_hyp x : State := _; refine Keeps.letv (x := x) ?_ (fun hx => ?_); (on_goal 1 => (unfold x; clear x)); (on_goal 2 => ((try clear_value x); rename' x => y)))
    | (extract_lets +onlyGivenNames x; rename' x => z)
    | with_reducible refine Keeps.ite (fun hc => ?_) (fun hc => ?_)
    | with_reducible refine Keeps.ofId ?_
    | with_reducible refine State.sprDo_keeps ?_ (by decide) (fun s => ?_)
    | (with_reducible apply Keeps.on (State.modHealth_keeps ..); on_goal 2 => decide)
    | (with_reducible apply Keeps.on (State.noteSpareCount_keeps ..); on_goal 2 => decide)
    | (with_reducible apply Keeps.on (State.queueRly_keeps ..); on_goal 2 => decide)
    | split
    | (clear_value *; split)

theorem State.cmdSuspend_keeps (s : State) (g) : Keeps 0x20003010200 s (State.cmdSuspend s g) := by
  unfold State.cmdSuspend
  repeat' first
    | with_reducible exact Keeps.rfl'
    | with_reducible refine Keeps.ite (fun hc => ?_) (fun hc => ?_)
    | with_reducible refine Keeps.ofId ?_
    | with_reducible refine State.sprDo_keeps ?_ (by decide) (fun s => ?_)
    | (with_reducible apply Keeps.on (State.suspendRly_keeps ..); on_goal 2 => decide)

theorem State.cmdResume_keeps (s : State) (g) : Keeps 0x1410200 s (State.cmdResume s g) := by
  unfold State.cmdResume
  repeat' first
    | with_reducible exact Keeps.rfl'
    | with_reducible assumption
    | (extract_lets +onlyGivenNames x; guard_hyp x : State := _; refine Keeps.letv (x := x) ?_ (fun hx => ?_); (on_goal 1 => (unfold x; clear x)); (on_goal 2 => ((try clear_value x); rename' x => y)))
    | (extract_lets +onlyGivenNames x; rename' x => z)
    | with_reducible refine Keeps.ite (fun hc => ?_) (fun hc => ?_)
    | with_reducible refine Keeps.ofId ?_
    | with_reducible refine State.sprDo_keeps ?_ (by decide) (fun s => ?_)
    | (with_reducible apply Keeps.on (State.setRly_keeps ..); on_goal 2 => decide)
    | (with_reducible apply Keeps.on (State.detectCut_keeps ..); on_goal 2 => decide)
    | split
    | (clear_value *; split)

theorem State.cmdTest_keeps (s : State) (c) : Keeps 0x1800200 s (State.cmdTest s c) := by
  unfold State.cmdTest
  repeat' first
    | with_reducible exact Keeps.rfl'
    | with_reducible assumption
    | (extract_lets +onlyGivenNames x; guard_hyp x : State := _; refine Keeps.letv (x := x) ?_ (fun hx => ?_); (on_goal 1 => (unfold x; clear x)); (on_goal 2 => ((try clear_value x); rename' x => y)))
    | (extract_lets +onlyGivenNames x; rename' x => z)
    | with_reducible refine Keeps.ite (fun hc => ?_) (fun hc => ?_)
    | with_reducible refine Keeps.ofId ?_
    | with_reducible refine State.sprDo_keeps ?_ (by decide) (fun s => ?_)
    | (with_reducible apply Keeps.on (State.modHealth_keeps ..); on_goal 2 => decide)
    | split

theorem State.cmdAdmit_keeps (s : State) (c) : Keeps 0x1a00200 s (State.cmdAdmit s c) := by
  unfold State.cmdAdmit
  repeat' first
    | with_reducible exact Keeps.rfl'
    | with_reducible assumption
    | (extract_lets +onlyGivenNames x; guard_hyp x : State := _; refine Keeps.letv (x := x) ?_ (fun hx => ?_); (on_goal 1 => (unfold x; clear x)); (on_goal 2 => ((try clear_value x); rename' x => y)))
    | (extract_lets +onlyGivenNames x; rename' x => z)
    | with_reducible refine Keeps.ite (fun hc => ?_) (fun hc => ?_)
    | with_reducible refine Keeps.ofId ?_
    | with_reducible refine State.sprDo_keeps ?_ (by decide) (fun s => ?_)
    | (with_reducible apply Keeps.on (State.freeSlice_keeps ..); on_goal 2 => decide)
    | (with_reducible apply Keeps.on (State.modHealth_keeps ..); on_goal 2 => decide)
    | (with_reducible apply Keeps.on (State.setFence_keeps ..); on_goal 2 => decide)
    | split
    | (clear_value *; split)

theorem State.cmdAttach_keeps (s : State) (g) (m) (c) : Keeps 0x1800200 s (State.cmdAttach s g m c) := by
  unfold State.cmdAttach
  repeat' first
    | with_reducible exact Keeps.rfl'
    | with_reducible assumption
    | (extract_lets +onlyGivenNames x; guard_hyp x : State := _; refine Keeps.letv (x := x) ?_ (fun hx => ?_); (on_goal 1 => (unfold x; clear x)); (on_goal 2 => ((try clear_value x); rename' x => y)))
    | (extract_lets +onlyGivenNames x; rename' x => z)
    | with_reducible refine Keeps.ofId ?_
    | with_reducible refine State.sprDo_keeps ?_ (by decide) (fun s => ?_)
    | (with_reducible apply Keeps.on (State.grantSpare_keeps ..); on_goal 2 => decide)
    | fail_if_no_progress (with_reducible apply Keeps.on (keeps_spr ..); on_goal 2 => decide)
    | split

theorem State.sprGo_keeps (s : State) : Keeps 0x20237f90214 s (State.sprGo s) := by
  unfold State.sprGo
  repeat' first
    | with_reducible exact Keeps.rfl'
    | with_reducible assumption
    | (extract_lets +onlyGivenNames x; guard_hyp x : State := _; refine Keeps.letv (x := x) ?_ (fun hx => ?_); (on_goal 1 => (unfold x; clear x)); (on_goal 2 => ((try clear_value x); rename' x => y)))
    | (extract_lets +onlyGivenNames x; rename' x => z)
    | with_reducible refine Keeps.ofId ?_
    | (with_reducible apply Keeps.on (State.cmdFail_keeps ..); on_goal 2 => decide)
    | (with_reducible apply Keeps.on (State.cmdEvacuate_keeps ..); on_goal 2 => decide)
    | (with_reducible apply Keeps.on (State.cmdReturn_keeps ..); on_goal 2 => decide)
    | (with_reducible apply Keeps.on (State.cmdSuspend_keeps ..); on_goal 2 => decide)
    | (with_reducible apply Keeps.on (State.cmdResume_keeps ..); on_goal 2 => decide)
    | (with_reducible apply Keeps.on (State.cmdTest_keeps ..); on_goal 2 => decide)
    | (with_reducible apply Keeps.on (State.cmdAdmit_keeps ..); on_goal 2 => decide)
    | (with_reducible apply Keeps.on (State.cmdAttach_keeps ..); on_goal 2 => decide)
    | with_reducible refine State.sprDo_keeps ?_ (by decide) (fun s => ?_)
    | split
    | (clear_value *; split)

theorem State.clearLoss_keeps (s : State) : Keeps 0x1000000 s (State.clearLoss s) := by
  unfold State.clearLoss
  repeat' first
    | with_reducible exact Keeps.rfl'
    | with_reducible assumption
    | (extract_lets +onlyGivenNames x; guard_hyp x : State := _; refine Keeps.letv (x := x) ?_ (fun hx => ?_); (on_goal 1 => (unfold x; clear x)); (on_goal 2 => ((try clear_value x); rename' x => y)))
    | (extract_lets +onlyGivenNames x; rename' x => z)
    | fail_if_no_progress (with_reducible apply Keeps.on (keeps_spr ..); on_goal 2 => decide)

theorem State.cmdClearLoss_keeps (s : State) : Keeps 0x1000200 s (State.cmdClearLoss s) := by
  unfold State.cmdClearLoss
  repeat' first
    | with_reducible exact Keeps.rfl'
    | with_reducible refine Keeps.ofId ?_
    | with_reducible refine State.sprDo_keeps ?_ (by decide) (fun s => ?_)
    | (with_reducible apply Keeps.on (State.clearLoss_keeps ..); on_goal 2 => decide)

theorem State.clearSpr_keeps (s : State) : Keeps 0x1800000 s (State.clearSpr s) := by
  unfold State.clearSpr
  repeat' first
    | with_reducible exact Keeps.rfl'
    | with_reducible assumption
    | (extract_lets +onlyGivenNames x; guard_hyp x : State := _; refine Keeps.letv (x := x) ?_ (fun hx => ?_); (on_goal 1 => (unfold x; clear x)); (on_goal 2 => ((try clear_value x); rename' x => y)))
    | (extract_lets +onlyGivenNames x; rename' x => z)
    | fail_if_no_progress (with_reducible apply Keeps.on (keeps_slices ..); on_goal 2 => decide)
    | fail_if_no_progress (with_reducible apply Keeps.on (keeps_spr ..); on_goal 2 => decide)
    | split
    | fail_if_no_progress refine Keeps.upd ?_ (Or.inl rfl)

theorem State.cmdClearSpr_keeps (s : State) : Keeps 0x1800200 s (State.cmdClearSpr s) := by
  unfold State.cmdClearSpr
  repeat' first
    | with_reducible exact Keeps.rfl'
    | with_reducible refine Keeps.ofId ?_
    | with_reducible refine State.sprDo_keeps ?_ (by decide) (fun s => ?_)
    | (with_reducible apply Keeps.on (State.clearSpr_keeps ..); on_goal 2 => decide)

end Sys2Proof.Machine
end

