-- ==== Sys2Proof/Laws/KeepsSecurity.lean ====
section
/-!
SUPPORT. One lemma per operation of Machine/Security.lean, Machine/Breeze.lean, Machine/ResetOps.lean, Machine/SquallOps.lean: the parts it may change, and that it keeps the invariant.
-/
set_option linter.all false
namespace Sys2Proof.Machine
set_option Elab.async false

theorem ErrLog.unackEntries_length {e : ErrLog} (h : e.unack ≤ 32) : e.unackEntries.length ≤ 112 := by
  have a : e.unackEntries.length ≤ e.unackSlots.length := List.length_filterMap_le ..
  have b : e.unackSlots.length = e.unack := by simp [ErrLog.unackSlots]
  omega

theorem State.countOtp_keeps (s : State) (i) : Keeps 0x1000000200 s (State.countOtp s i) := by
  unfold State.countOtp
  repeat' first
    | with_reducible exact Keeps.rfl'
    | with_reducible assumption
    | (extract_lets +onlyGivenNames x; guard_hyp x : State := _; refine Keeps.letv (x := x) ?_ (fun hx => ?_); (on_goal 1 => (unfold x; clear x)); (on_goal 2 => ((try clear_value x); rename' x => y)))
    | (extract_lets +onlyGivenNames x; rename' x => z)
    | with_reducible refine Keeps.ite (fun hc => ?_) (fun hc => ?_)
    | (with_reducible apply Keeps.on (State.raise_keeps ..); on_goal 2 => decide)
    | fail_if_no_progress (with_reducible apply Keeps.on (keeps_sec ..); on_goal 2 => decide)

theorem State.endOtp_keeps (s : State) (result) : Keeps 0x1000000040 s (State.endOtp s result) := by
  unfold State.endOtp
  repeat' first
    | with_reducible exact Keeps.rfl'
    | with_reducible assumption
    | (extract_lets +onlyGivenNames x; guard_hyp x : State := _; refine Keeps.letv (x := x) ?_ (fun hx => ?_); (on_goal 1 => (unfold x; clear x)); (on_goal 2 => ((try clear_value x); rename' x => y)))
    | (extract_lets +onlyGivenNames x; rename' x => z)
    | (with_reducible apply Keeps.on (State.store_keeps ..); on_goal 2 => decide)
    | fail_if_no_progress (with_reducible apply Keeps.on (keeps_sec ..); on_goal 2 => decide)

theorem State.otpProgram_keeps (s : State) : Keeps 0x1000000240 s (State.otpProgram s) := by
  unfold State.otpProgram
  repeat' first
    | with_reducible exact Keeps.rfl'
    | with_reducible assumption
    | (extract_lets +onlyGivenNames x; guard_hyp x : State := _; refine Keeps.letv (x := x) ?_ (fun hx => ?_); (on_goal 1 => (unfold x; clear x)); (on_goal 2 => ((try clear_value x); rename' x => y)))
    | (extract_lets +onlyGivenNames x; rename' x => z)
    | with_reducible refine Keeps.ite (fun hc => ?_) (fun hc => ?_)
    | (with_reducible apply Keeps.on (State.endOtp_keeps ..); on_goal 2 => decide)
    | (with_reducible apply Keeps.on (State.countOtp_keeps ..); on_goal 2 => decide)
    | fail_if_no_progress (with_reducible apply Keeps.on (keeps_sec ..); on_goal 2 => decide)
    | split
    | (clear_value *; split)

theorem State.otpDone_keeps (s : State) (ok) : Keeps 0x1000000240 s (State.otpDone s ok) := by
  unfold State.otpDone
  repeat' first
    | with_reducible exact Keeps.rfl'
    | with_reducible assumption
    | (extract_lets +onlyGivenNames x; guard_hyp x : State := _; refine Keeps.letv (x := x) ?_ (fun hx => ?_); (on_goal 1 => (unfold x; clear x)); (on_goal 2 => ((try clear_value x); rename' x => y)))
    | (extract_lets +onlyGivenNames x; rename' x => z)
    | with_reducible refine Keeps.ite (fun hc => ?_) (fun hc => ?_)
    | (with_reducible apply Keeps.on (State.raise_keeps ..); on_goal 2 => decide)
    | (with_reducible apply Keeps.on (State.endOtp_keeps ..); on_goal 2 => decide)
    | fail_if_no_progress (with_reducible apply Keeps.on (keeps_sec ..); on_goal 2 => decide)
    | split
    | (clear_value *; split)

theorem State.otpInterrupt_keeps (s : State) : Keeps 0x1000000040 s (State.otpInterrupt s) := by
  unfold State.otpInterrupt
  repeat' first
    | with_reducible exact Keeps.rfl'
    | with_reducible assumption
    | (extract_lets +onlyGivenNames x; guard_hyp x : State := _; refine Keeps.letv (x := x) ?_ (fun hx => ?_); (on_goal 1 => (unfold x; clear x)); (on_goal 2 => ((try clear_value x); rename' x => y)))
    | (extract_lets +onlyGivenNames x; rename' x => z)
    | with_reducible refine Keeps.ite (fun hc => ?_) (fun hc => ?_)
    | (with_reducible apply Keeps.on (State.endOtp_keeps ..); on_goal 2 => decide)
    | fail_if_no_progress (with_reducible apply Keeps.on (keeps_sec ..); on_goal 2 => decide)

theorem State.deriveKeep_keeps (s : State) : Keeps 0x1000000000 s (State.deriveKeep s) := by
  unfold State.deriveKeep
  repeat' first
    | with_reducible exact Keeps.rfl'
    | with_reducible assumption
    | (extract_lets +onlyGivenNames x; guard_hyp x : State := _; refine Keeps.letv (x := x) ?_ (fun hx => ?_); (on_goal 1 => (unfold x; clear x)); (on_goal 2 => ((try clear_value x); rename' x => y)))
    | (extract_lets +onlyGivenNames x; rename' x => z)
    | fail_if_no_progress (with_reducible apply Keeps.on (keeps_sec ..); on_goal 2 => decide)

theorem State.modSlot_keeps (s : State) (k) (f) : Keeps 0x1000000000 s (State.modSlot s k f) := by
  unfold State.modSlot
  repeat' first
    | with_reducible exact Keeps.rfl'
    | with_reducible assumption
    | (extract_lets +onlyGivenNames x; guard_hyp x : State := _; refine Keeps.letv (x := x) ?_ (fun hx => ?_); (on_goal 1 => (unfold x; clear x)); (on_goal 2 => ((try clear_value x); rename' x => y)))
    | (extract_lets +onlyGivenNames x; rename' x => z)
    | fail_if_no_progress (with_reducible apply Keeps.on (keeps_sec ..); on_goal 2 => decide)

theorem State.secEnd_keeps (s : State) (result) : Keeps 0x1000000200 s (State.secEnd s result) := by
  unfold State.secEnd
  repeat' first
    | with_reducible exact Keeps.rfl'
    | with_reducible assumption
    | (extract_lets +onlyGivenNames x; guard_hyp x : State := _; refine Keeps.letv (x := x) ?_ (fun hx => ?_); (on_goal 1 => (unfold x; clear x)); (on_goal 2 => ((try clear_value x); rename' x => y)))
    | (extract_lets +onlyGivenNames x; rename' x => z)
    | (with_reducible apply Keeps.on (State.raise_keeps ..); on_goal 2 => decide)
    | fail_if_no_progress (with_reducible apply Keeps.on (keeps_sec ..); on_goal 2 => decide)

theorem State.keyDerive_keeps (s : State) : Keeps 0x1000000200 s (State.keyDerive s) := by
  unfold State.keyDerive
  repeat' first
    | with_reducible exact Keeps.rfl'
    | with_reducible assumption
    | (extract_lets +onlyGivenNames x; guard_hyp x : State := _; refine Keeps.letv (x := x) ?_ (fun hx => ?_); (on_goal 1 => (unfold x; clear x)); (on_goal 2 => ((try clear_value x); rename' x => y)))
    | (extract_lets +onlyGivenNames x; rename' x => z)
    | with_reducible refine Keeps.ite (fun hc => ?_) (fun hc => ?_)
    | (with_reducible apply Keeps.on (State.secEnd_keeps ..); on_goal 2 => decide)
    | (with_reducible apply Keeps.on (State.countOtp_keeps ..); on_goal 2 => decide)
    | (with_reducible apply Keeps.on (State.modSlot_keeps ..); on_goal 2 => decide)
    | fail_if_no_progress (with_reducible apply Keeps.on (keeps_sec ..); on_goal 2 => decide)
    | with_reducible refine Keeps.foldl ?_ (fun s a => ?_)

theorem State.keyDone_keeps (s : State) : Keeps 0x1000000200 s (State.keyDone s) := by
  unfold State.keyDone
  repeat' first
    | with_reducible exact Keeps.rfl'
    | with_reducible assumption
    | (extract_lets +onlyGivenNames x; guard_hyp x : State := _; refine Keeps.letv (x := x) ?_ (fun hx => ?_); (on_goal 1 => (unfold x; clear x)); (on_goal 2 => ((try clear_value x); rename' x => y)))
    | (extract_lets +onlyGivenNames x; rename' x => z)
    | (with_reducible apply Keeps.on (State.modSlot_keeps ..); on_goal 2 => decide)
    | (with_reducible apply Keeps.on (State.secEnd_keeps ..); on_goal 2 => decide)
    | fail_if_no_progress (with_reducible apply Keeps.on (keeps_sec ..); on_goal 2 => decide)
    | split
    | (clear_value *; split)

theorem State.keyClear_keeps (s : State) : Keeps 0x1000000200 s (State.keyClear s) := by
  unfold State.keyClear
  repeat' first
    | with_reducible exact Keeps.rfl'
    | with_reducible refine Keeps.ite (fun hc => ?_) (fun hc => ?_)
    | (with_reducible apply Keeps.on (State.secEnd_keeps ..); on_goal 2 => decide)
    | (with_reducible apply Keeps.on (State.modSlot_keeps ..); on_goal 2 => decide)

theorem State.patchLoad_keeps (s : State) : Keeps 0x1000000200 s (State.patchLoad s) := by
  unfold State.patchLoad
  repeat' first
    | with_reducible exact Keeps.rfl'
    | with_reducible assumption
    | (extract_lets +onlyGivenNames x; guard_hyp x : State := _; refine Keeps.letv (x := x) ?_ (fun hx => ?_); (on_goal 1 => (unfold x; clear x)); (on_goal 2 => ((try clear_value x); rename' x => y)))
    | (extract_lets +onlyGivenNames x; rename' x => z)
    | with_reducible refine Keeps.ite (fun hc => ?_) (fun hc => ?_)
    | (with_reducible apply Keeps.on (State.secEnd_keeps ..); on_goal 2 => decide)
    | fail_if_no_progress (with_reducible apply Keeps.on (keeps_sec ..); on_goal 2 => decide)

theorem State.patchEnd_keeps (s : State) (reason) : Keeps 0x1000000200 s (State.patchEnd s reason) := by
  unfold State.patchEnd
  repeat' first
    | with_reducible exact Keeps.rfl'
    | with_reducible assumption
    | (extract_lets +onlyGivenNames x; guard_hyp x : State := _; refine Keeps.letv (x := x) ?_ (fun hx => ?_); (on_goal 1 => (unfold x; clear x)); (on_goal 2 => ((try clear_value x); rename' x => y)))
    | (extract_lets +onlyGivenNames x; rename' x => z)
    | with_reducible refine Keeps.ite (fun hc => ?_) (fun hc => ?_)
    | (with_reducible apply Keeps.on (State.secEnd_keeps ..); on_goal 2 => decide)
    | fail_if_no_progress (with_reducible apply Keeps.on (keeps_sec ..); on_goal 2 => decide)

theorem State.patchTake_keeps (s : State) (head) (len) : Keeps 0x1000000200 s (State.patchTake s head len) := by
  unfold State.patchTake
  repeat' first
    | with_reducible exact Keeps.rfl'
    | with_reducible assumption
    | (extract_lets +onlyGivenNames x; guard_hyp x : State := _; refine Keeps.letv (x := x) ?_ (fun hx => ?_); (on_goal 1 => (unfold x; clear x)); (on_goal 2 => ((try clear_value x); rename' x => y)))
    | (extract_lets +onlyGivenNames x; rename' x => z)
    | with_reducible refine Keeps.ite (fun hc => ?_) (fun hc => ?_)
    | (with_reducible apply Keeps.on (State.patchEnd_keeps ..); on_goal 2 => decide)
    | fail_if_no_progress (with_reducible apply Keeps.on (keeps_sec ..); on_goal 2 => decide)

theorem State.patchHead_keeps (s : State) (head) : Keeps 0x1000000200 s (State.patchHead s head) := by
  unfold State.patchHead
  repeat' first
    | with_reducible exact Keeps.rfl'
    | with_reducible assumption
    | (extract_lets +onlyGivenNames x; guard_hyp x : State := _; refine Keeps.letv (x := x) ?_ (fun hx => ?_); (on_goal 1 => (unfold x; clear x)); (on_goal 2 => ((try clear_value x); rename' x => y)))
    | (extract_lets +onlyGivenNames x; rename' x => z)
    | with_reducible refine Keeps.ite (fun hc => ?_) (fun hc => ?_)
    | (with_reducible apply Keeps.on (State.patchEnd_keeps ..); on_goal 2 => decide)
    | (with_reducible apply Keeps.on (State.patchTake_keeps ..); on_goal 2 => decide)

theorem State.patchFinish_keeps (s : State) : Keeps 0x1400300204 s (State.patchFinish s) := by
  unfold State.patchFinish
  repeat' first
    | with_reducible exact Keeps.rfl'
    | with_reducible assumption
    | (extract_lets +onlyGivenNames x; guard_hyp x : State := _; refine Keeps.letv (x := x) ?_ (fun hx => ?_); (on_goal 1 => (unfold x; clear x)); (on_goal 2 => ((try clear_value x); rename' x => y)))
    | (extract_lets +onlyGivenNames x; rename' x => z)
    | with_reducible refine Keeps.ite (fun hc => ?_) (fun hc => ?_)
    | (with_reducible apply Keeps.on (State.patchEnd_keeps ..); on_goal 2 => decide)
    | (with_reducible apply Keeps.on (State.vaneGrants_keeps ..); on_goal 2 => decide)
    | (with_reducible apply Keeps.on (State.patchHead_keeps ..); on_goal 2 => decide)
    | with_reducible refine Keeps.foldl ?_ (fun s a => ?_)

theorem State.patchInterrupt_keeps (s : State) : Keeps 0x1000000200 s (State.patchInterrupt s) := by
  unfold State.patchInterrupt
  repeat' first
    | with_reducible exact Keeps.rfl'
    | with_reducible refine Keeps.ite (fun hc => ?_) (fun hc => ?_)
    | (with_reducible apply Keeps.on (State.patchEnd_keeps ..); on_goal 2 => decide)

theorem State.patchTakeUp_keeps (s : State) : Keeps 0x1000000010 s (State.patchTakeUp s) := by
  unfold State.patchTakeUp
  repeat' first
    | with_reducible exact Keeps.rfl'
    | with_reducible assumption
    | (extract_lets +onlyGivenNames x; guard_hyp x : State := _; refine Keeps.letv (x := x) ?_ (fun hx => ?_); (on_goal 1 => (unfold x; clear x)); (on_goal 2 => ((try clear_value x); rename' x => y)))
    | (extract_lets +onlyGivenNames x; rename' x => z)
    | with_reducible refine Keeps.ite (fun hc => ?_) (fun hc => ?_)
    | fail_if_no_progress (with_reducible apply Keeps.on (keeps_mode ..); on_goal 2 => decide)
    | fail_if_no_progress (with_reducible apply Keeps.on (keeps_sec ..); on_goal 2 => decide)
    | fail_if_no_progress refine Keeps.upd ?_ (Or.inl rfl)

theorem State.clearOtp_keeps (s : State) : Keeps 0x1000000000 s (State.clearOtp s) := by
  unfold State.clearOtp
  repeat' first
    | with_reducible exact Keeps.rfl'
    | with_reducible assumption
    | (extract_lets +onlyGivenNames x; guard_hyp x : State := _; refine Keeps.letv (x := x) ?_ (fun hx => ?_); (on_goal 1 => (unfold x; clear x)); (on_goal 2 => ((try clear_value x); rename' x => y)))
    | (extract_lets +onlyGivenNames x; rename' x => z)
    | fail_if_no_progress (with_reducible apply Keeps.on (keeps_sec ..); on_goal 2 => decide)

theorem State.clearDeny_keeps (s : State) : Keeps 0x1000000000 s (State.clearDeny s) := by
  unfold State.clearDeny
  repeat' first
    | with_reducible exact Keeps.rfl'
    | with_reducible assumption
    | (extract_lets +onlyGivenNames x; guard_hyp x : State := _; refine Keeps.letv (x := x) ?_ (fun hx => ?_); (on_goal 1 => (unfold x; clear x)); (on_goal 2 => ((try clear_value x); rename' x => y)))
    | (extract_lets +onlyGivenNames x; rename' x => z)
    | fail_if_no_progress (with_reducible apply Keeps.on (keeps_sec ..); on_goal 2 => decide)

theorem State.modBrz_keeps (s : State) (f : Breeze → Breeze) (hf : ∀ x, x.replies.length ≤ 4 → (f x).replies.length ≤ 4) :
    Keeps 0x100000000 s (s.modBrz f) := keeps_brz s _ (hf _)

theorem State.brzAfter_keeps (s : State) (l) : Keeps 0x100000000 s (State.brzAfter s l) := by
  unfold State.brzAfter
  repeat' first
    | with_reducible exact Keeps.rfl'
    | with_reducible assumption
    | (extract_lets +onlyGivenNames x; guard_hyp x : State := _; refine Keeps.letv (x := x) ?_ (fun hx => ?_); (on_goal 1 => (unfold x; clear x)); (on_goal 2 => ((try clear_value x); rename' x => y)))
    | (extract_lets +onlyGivenNames x; rename' x => z)
    | (with_reducible apply Keeps.on (State.modBrz_keeps _ _ ?q); (case q => first | exact fun _ h => h | exact fun _ _ => Nat.zero_le _); on_goal 2 => decide)

theorem State.brzFree_keeps (s : State) : Keeps 0x100000000 s (State.brzFree s) := by
  unfold State.brzFree
  repeat' first
    | with_reducible exact Keeps.rfl'
    | with_reducible assumption
    | (extract_lets +onlyGivenNames x; guard_hyp x : State := _; refine Keeps.letv (x := x) ?_ (fun hx => ?_); (on_goal 1 => (unfold x; clear x)); (on_goal 2 => ((try clear_value x); rename' x => y)))
    | (extract_lets +onlyGivenNames x; rename' x => z)
    | (with_reducible apply Keeps.on (State.modBrz_keeps _ _ ?q); (case q => first | exact fun _ h => h | exact fun _ _ => Nat.zero_le _); on_goal 2 => decide)

theorem State.brzBroken_keeps (s : State) (pulls) : Keeps 0x100000004 s (State.brzBroken s pulls) := by
  unfold State.brzBroken
  repeat' first
    | with_reducible exact Keeps.rfl'
    | with_reducible assumption
    | (extract_lets +onlyGivenNames x; guard_hyp x : State := _; refine Keeps.letv (x := x) ?_ (fun hx => ?_); (on_goal 1 => (unfold x; clear x)); (on_goal 2 => ((try clear_value x); rename' x => y)))
    | (extract_lets +onlyGivenNames x; rename' x => z)
    | (with_reducible apply Keeps.on (State.tookFree_keeps ..); on_goal 2 => decide)
    | (with_reducible apply Keeps.on (State.modBrz_keeps _ _ ?q); (case q => first | exact fun _ h => h | exact fun _ _ => Nat.zero_le _); on_goal 2 => decide)

theorem State.brzRaise_keeps (s : State) (j) : Keeps 0x200 s (State.brzRaise s j) := by
  unfold State.brzRaise
  repeat' first
    | with_reducible exact Keeps.rfl'
    | (with_reducible apply Keeps.on (State.raiseIf_keeps ..); on_goal 2 => decide)

theorem State.brzDup_keeps (s : State) : Keeps 0x100000200 s (State.brzDup s) := by
  unfold State.brzDup
  repeat' first
    | with_reducible exact Keeps.rfl'
    | with_reducible assumption
    | (extract_lets +onlyGivenNames x; guard_hyp x : State := _; refine Keeps.letv (x := x) ?_ (fun hx => ?_); (on_goal 1 => (unfold x; clear x)); (on_goal 2 => ((try clear_value x); rename' x => y)))
    | (extract_lets +onlyGivenNames x; rename' x => z)
    | (with_reducible apply Keeps.on (State.brzRaise_keeps ..); on_goal 2 => decide)
    | fail_if_no_progress (with_reducible apply Keeps.on (keeps_brz _ _ ?q); (case q => first | exact id | exact fun _ => Nat.zero_le _); on_goal 2 => decide)

theorem State.brzDrop_keeps (s : State) : Keeps 0x100000000 s (State.brzDrop s) := by
  unfold State.brzDrop
  repeat' first
    | with_reducible exact Keeps.rfl'
    | with_reducible assumption
    | (extract_lets +onlyGivenNames x; guard_hyp x : State := _; refine Keeps.letv (x := x) ?_ (fun hx => ?_); (on_goal 1 => (unfold x; clear x)); (on_goal 2 => ((try clear_value x); rename' x => y)))
    | (extract_lets +onlyGivenNames x; rename' x => z)
    | fail_if_no_progress (with_reducible apply Keeps.on (keeps_brz _ _ ?q); (case q => first | exact id | exact fun _ => Nat.zero_le _); on_goal 2 => decide)

theorem State.brzReply_keeps (s : State) (f) : Keeps 0x100000000 s (State.brzReply s f) := by
  unfold State.brzReply
  refine Keeps.ite (fun hc => ?_) fun _ => State.brzDrop_keeps ..
  refine keeps_brz s _ fun _ => ?_
  show (s.brz.replies ++ [f]).length ≤ 4
  rw [List.length_append]; exact hc

theorem State.brzStore_keeps (s : State) (src) (cmd) (payload) : Keeps 0x100000200 s (State.brzStore s src cmd payload) := by
  unfold State.brzStore
  repeat' first
    | with_reducible exact Keeps.rfl'
    | with_reducible assumption
    | (extract_lets +onlyGivenNames x; guard_hyp x : State := _; refine Keeps.letv (x := x) ?_ (fun hx => ?_); (on_goal 1 => (unfold x; clear x)); (on_goal 2 => ((try clear_value x); rename' x => y)))
    | (extract_lets +onlyGivenNames x; rename' x => z)
    | with_reducible refine Keeps.ite (fun hc => ?_) (fun hc => ?_)
    | (with_reducible apply Keeps.on (State.brzRaise_keeps ..); on_goal 2 => decide)
    | fail_if_no_progress (with_reducible apply Keeps.on (keeps_brz _ _ ?q); (case q => first | exact id | exact fun _ => Nat.zero_le _); on_goal 2 => decide)

theorem State.brzAct_keeps (s : State) (dest) (src) (cmd) (payload) : Keeps 0x110000200 s (State.brzAct s dest src cmd payload) := by
  unfold State.brzAct
  repeat' first
    | with_reducible exact Keeps.rfl'
    | with_reducible assumption
    | (extract_lets +onlyGivenNames x; guard_hyp x : State := _; refine Keeps.letv (x := x) ?_ (fun hx => ?_); (on_goal 1 => (unfold x; clear x)); (on_goal 2 => ((try clear_value x); rename' x => y)))
    | (extract_lets +onlyGivenNames x; rename' x => z)
    | with_reducible refine Keeps.ite (fun hc => ?_) (fun hc => ?_)
    | (with_reducible apply Keeps.on (State.brzDrop_keeps ..); on_goal 2 => decide)
    | (with_reducible apply Keeps.on (State.brzReply_keeps ..); on_goal 2 => decide)
    | (with_reducible apply Keeps.on (State.brzStore_keeps ..); on_goal 2 => decide)
    | fail_if_no_progress (with_reducible apply Keeps.on (keeps_squall _ _ ?q ?r); (case q => exact rfl); (case r => exact rfl); on_goal 2 => decide)
    | fail_if_no_progress (with_reducible apply Keeps.on (keeps_squallAll _ _ ?q); (case q => first | exact id | exact fun _ => Nat.zero_le _); on_goal 2 => decide)

theorem State.brzWakes_keeps (s : State) : Keeps 0x8000030 s (State.brzWakes s) := by
  unfold State.brzWakes
  repeat' first
    | with_reducible exact Keeps.rfl'
    | with_reducible assumption
    | (extract_lets +onlyGivenNames x; guard_hyp x : State := _; refine Keeps.letv (x := x) ?_ (fun hx => ?_); (on_goal 1 => (unfold x; clear x)); (on_goal 2 => ((try clear_value x); rename' x => y)))
    | (extract_lets +onlyGivenNames x; rename' x => z)
    | with_reducible refine Keeps.ite (fun hc => ?_) (fun hc => ?_)
    | (with_reducible apply Keeps.on (State.wakeBy_keeps ..); on_goal 2 => decide)
    | fail_if_no_progress (with_reducible apply Keeps.on (keeps_mode ..); on_goal 2 => decide)
    | fail_if_no_progress (with_reducible apply Keeps.on (keeps_pins ..); on_goal 2 => decide)
    | fail_if_no_progress (with_reducible apply Keeps.on (keeps_pwr ..); on_goal 2 => decide)
    | fail_if_no_progress (with_reducible apply Keeps.on (keeps_pwrPins ..); on_goal 2 => decide)
    | fail_if_no_progress refine Keeps.upd ?_ (Or.inl rfl)

theorem State.brzGood_keeps (s : State) (dest) (src) (cmd) (payload) : Keeps 0x118000230 s (State.brzGood s dest src cmd payload) := by
  unfold State.brzGood
  repeat' first
    | with_reducible exact Keeps.rfl'
    | with_reducible assumption
    | (extract_lets +onlyGivenNames x; guard_hyp x : State := _; refine Keeps.letv (x := x) ?_ (fun hx => ?_); (on_goal 1 => (unfold x; clear x)); (on_goal 2 => ((try clear_value x); rename' x => y)))
    | (extract_lets +onlyGivenNames x; rename' x => z)
    | with_reducible refine Keeps.ite (fun hc => ?_) (fun hc => ?_)
    | (with_reducible apply Keeps.on (State.brzDup_keeps ..); on_goal 2 => decide)
    | (with_reducible apply Keeps.on (State.brzWakes_keeps ..); on_goal 2 => decide)
    | (with_reducible apply Keeps.on (State.brzAct_keeps ..); on_goal 2 => decide)

theorem State.brzMatch_keeps (s : State) (dest) (src) (cmd) (payload) : Keeps 0x118000230 s (State.brzMatch s dest src cmd payload) := by
  unfold State.brzMatch
  repeat' first
    | with_reducible exact Keeps.rfl'
    | with_reducible assumption
    | (extract_lets +onlyGivenNames x; guard_hyp x : State := _; refine Keeps.letv (x := x) ?_ (fun hx => ?_); (on_goal 1 => (unfold x; clear x)); (on_goal 2 => ((try clear_value x); rename' x => y)))
    | (extract_lets +onlyGivenNames x; rename' x => z)
    | with_reducible refine Keeps.ite (fun hc => ?_) (fun hc => ?_)
    | (with_reducible apply Keeps.on (State.brzFree_keeps ..); on_goal 2 => decide)
    | (with_reducible apply Keeps.on (State.brzAfter_keeps ..); on_goal 2 => decide)
    | (with_reducible apply Keeps.on (State.brzGood_keeps ..); on_goal 2 => decide)

theorem State.brzFrameIn_keeps (s : State) (bytes) (collision) : Keeps 0x118000230 s (State.brzFrameIn s bytes collision) := by
  unfold State.brzFrameIn
  repeat' first
    | with_reducible exact Keeps.rfl'
    | with_reducible assumption
    | (extract_lets +onlyGivenNames x; guard_hyp x : State := _; refine Keeps.letv (x := x) ?_ (fun hx => ?_); (on_goal 1 => (unfold x; clear x)); (on_goal 2 => ((try clear_value x); rename' x => y)))
    | (extract_lets +onlyGivenNames x; rename' x => z)
    | with_reducible refine Keeps.ite (fun hc => ?_) (fun hc => ?_)
    | (with_reducible apply Keeps.on (State.brzFree_keeps ..); on_goal 2 => decide)
    | (with_reducible apply Keeps.on (State.brzAfter_keeps ..); on_goal 2 => decide)
    | (with_reducible apply Keeps.on (State.brzGood_keeps ..); on_goal 2 => decide)
    | fail_if_no_progress (with_reducible apply Keeps.on (keeps_brz _ _ ?q); (case q => first | exact id | exact fun _ => Nat.zero_le _); on_goal 2 => decide)
    | split
    | (clear_value *; split)

theorem State.freshRetries_keeps (s : State) (k) : Keeps 0x100000000 s (State.freshRetries s k) := by
  unfold State.freshRetries
  repeat' first
    | with_reducible exact Keeps.rfl'
    | with_reducible assumption
    | (extract_lets +onlyGivenNames x; guard_hyp x : State := _; refine Keeps.letv (x := x) ?_ (fun hx => ?_); (on_goal 1 => (unfold x; clear x)); (on_goal 2 => ((try clear_value x); rename' x => y)))
    | (extract_lets +onlyGivenNames x; rename' x => z)
    | (with_reducible apply Keeps.on (State.modBrz_keeps _ _ ?q); (case q => first | exact fun _ h => h | exact fun _ _ => Nat.zero_le _); on_goal 2 => decide)

theorem State.endHost_keeps (s : State) (result) : Keeps 0x100000200 s (State.endHost s result) := by
  unfold State.endHost
  repeat' first
    | with_reducible exact Keeps.rfl'
    | with_reducible assumption
    | (extract_lets +onlyGivenNames x; guard_hyp x : State := _; refine Keeps.letv (x := x) ?_ (fun hx => ?_); (on_goal 1 => (unfold x; clear x)); (on_goal 2 => ((try clear_value x); rename' x => y)))
    | (extract_lets +onlyGivenNames x; rename' x => z)
    | (with_reducible apply Keeps.on (State.brzRaise_keeps ..); on_goal 2 => decide)
    | fail_if_no_progress (with_reducible apply Keeps.on (keeps_brz _ _ ?q); (case q => first | exact id | exact fun _ => Nat.zero_le _); on_goal 2 => decide)

theorem State.txRemove_keeps (s : State) (k) (sent) : Keeps 0x110000200 s (State.txRemove s k sent) := by
  unfold State.txRemove
  extract_lets t
  have ht : Keeps 0x110000200 s t := Keeps.on (State.brzFree_keeps ..) ((State.freshRetries_keeps ..).mono (by decide)) (by decide)
  clear_value t
  cases k
  · refine ht.trans ?_
    refine ⟨fun p hp => ?_, fun i => ⟨i.mem, i.seq, i.replies, i.reqs, i.unack, i.squall, i.fill⟩⟩
    cases p <;> first | exact absurd hp (by decide) | rfl | exact ⟨rfl, rfl⟩
  · exact (keeps_brz t { t.brz with txToken := false } fun h => h).on ht (by decide)
  · refine (keeps_brz t _ fun h => ?_).on ht (by decide)
    show (t.brz.replies.drop 1).length ≤ 4
    rw [List.length_drop]; omega
  · exact (keeps_brz t { t.brz with txHint := none } fun h => h).on ht (by decide)
  · exact (State.endHost_keeps ..).on ht (by decide)

theorem State.brzHoldUp_keeps (s : State) : Keeps 0x100000200 s (State.brzHoldUp s) := by
  unfold State.brzHoldUp
  repeat' first
    | with_reducible exact Keeps.rfl'
    | with_reducible assumption
    | (extract_lets +onlyGivenNames x; guard_hyp x : State := _; refine Keeps.letv (x := x) ?_ (fun hx => ?_); (on_goal 1 => (unfold x; clear x)); (on_goal 2 => ((try clear_value x); rename' x => y)))
    | (extract_lets +onlyGivenNames x; rename' x => z)
    | with_reducible refine Keeps.ite (fun hc => ?_) (fun hc => ?_)
    | (with_reducible apply Keeps.on (State.modBrz_keeps _ _ ?q); (case q => first | exact fun _ h => h | exact fun _ _ => Nat.zero_le _); on_goal 2 => decide)
    | (with_reducible apply Keeps.on (State.freshRetries_keeps ..); on_goal 2 => decide)
    | (with_reducible apply Keeps.on (State.endHost_keeps ..); on_goal 2 => decide)

theorem State.brzSend_keeps (s : State) : Keeps 0x100000000 s (State.brzSend s) := by
  unfold State.brzSend
  repeat' first
    | with_reducible exact Keeps.rfl'
    | with_reducible assumption
    | (extract_lets +onlyGivenNames x; guard_hyp x : State := _; refine Keeps.letv (x := x) ?_ (fun hx => ?_); (on_goal 1 => (unfold x; clear x)); (on_goal 2 => ((try clear_value x); rename' x => y)))
    | (extract_lets +onlyGivenNames x; rename' x => z)
    | with_reducible refine Keeps.ite (fun hc => ?_) (fun hc => ?_)
    | fail_if_no_progress (with_reducible apply Keeps.on (keeps_brz _ _ ?q); (case q => first | exact id | exact fun _ => Nat.zero_le _); on_goal 2 => decide)

theorem State.brzRelease_keeps (s : State) : Keeps 0x100000000 s (State.brzRelease s) := by
  unfold State.brzRelease
  repeat' first
    | with_reducible exact Keeps.rfl'
    | with_reducible assumption
    | (extract_lets +onlyGivenNames x; guard_hyp x : State := _; refine Keeps.letv (x := x) ?_ (fun hx => ?_); (on_goal 1 => (unfold x; clear x)); (on_goal 2 => ((try clear_value x); rename' x => y)))
    | (extract_lets +onlyGivenNames x; rename' x => z)
    | fail_if_no_progress (with_reducible apply Keeps.on (keeps_brz _ _ ?q); (case q => first | exact id | exact fun _ => Nat.zero_le _); on_goal 2 => decide)

theorem State.clearBrz_keeps (s : State) : Keeps 0x100000000 s (State.clearBrz s) := by
  unfold State.clearBrz
  repeat' first
    | with_reducible exact Keeps.rfl'
    | with_reducible assumption
    | (extract_lets +onlyGivenNames x; guard_hyp x : State := _; refine Keeps.letv (x := x) ?_ (fun hx => ?_); (on_goal 1 => (unfold x; clear x)); (on_goal 2 => ((try clear_value x); rename' x => y)))
    | (extract_lets +onlyGivenNames x; rename' x => z)
    | fail_if_no_progress (with_reducible apply Keeps.on (keeps_brz _ _ ?q); (case q => first | exact id | exact fun _ => Nat.zero_le _); on_goal 2 => decide)

theorem State.brzClaimed_keeps (s : State) : Keeps 0x100000000 s (State.brzClaimed s) := by
  unfold State.brzClaimed
  repeat' first
    | with_reducible exact Keeps.rfl'
    | with_reducible assumption
    | (extract_lets +onlyGivenNames x; guard_hyp x : State := _; refine Keeps.letv (x := x) ?_ (fun hx => ?_); (on_goal 1 => (unfold x; clear x)); (on_goal 2 => ((try clear_value x); rename' x => y)))
    | (extract_lets +onlyGivenNames x; rename' x => z)
    | (with_reducible apply Keeps.on (State.modBrz_keeps _ _ ?q); (case q => first | exact fun _ h => h | exact fun _ _ => Nat.zero_le _); on_goal 2 => decide)
    | (with_reducible apply Keeps.on (State.brzAfter_keeps ..); on_goal 2 => decide)

theorem State.sendFrame_keeps (s : State) (k) (rivals) (collision) : Keeps 0x110000200 s (State.sendFrame s k rivals collision) := by
  unfold State.sendFrame
  repeat' first
    | with_reducible exact Keeps.rfl'
    | with_reducible assumption
    | (extract_lets +onlyGivenNames x; guard_hyp x : State := _; refine Keeps.letv (x := x) ?_ (fun hx => ?_); (on_goal 1 => (unfold x; clear x)); (on_goal 2 => ((try clear_value x); rename' x => y)))
    | (extract_lets +onlyGivenNames x; rename' x => z)
    | with_reducible refine Keeps.ite (fun hc => ?_) (fun hc => ?_)
    | (with_reducible apply Keeps.on (State.brzClaimed_keeps ..); on_goal 2 => decide)
    | (with_reducible apply Keeps.on (State.modBrz_keeps _ _ ?q); (case q => first | exact fun _ h => h | exact fun _ _ => Nat.zero_le _); on_goal 2 => decide)
    | (with_reducible apply Keeps.on (State.txRemove_keeps ..); on_goal 2 => decide)
    | (with_reducible apply Keeps.on (State.brzDup_keeps ..); on_goal 2 => decide)
    | (with_reducible apply Keeps.on (State.brzAfter_keeps ..); on_goal 2 => decide)

theorem State.sendTimeout_keeps (s : State) (k) : Keeps 0x110000204 s (State.sendTimeout s k) := by
  unfold State.sendTimeout
  repeat' first
    | with_reducible exact Keeps.rfl'
    | with_reducible assumption
    | (extract_lets +onlyGivenNames x; guard_hyp x : State := _; refine Keeps.letv (x := x) ?_ (fun hx => ?_); (on_goal 1 => (unfold x; clear x)); (on_goal 2 => ((try clear_value x); rename' x => y)))
    | (extract_lets +onlyGivenNames x; rename' x => z)
    | with_reducible refine Keeps.ite (fun hc => ?_) (fun hc => ?_)
    | (with_reducible apply Keeps.on (State.brzRaise_keeps ..); on_goal 2 => decide)
    | (with_reducible apply Keeps.on (State.brzBroken_keeps ..); on_goal 2 => decide)
    | (with_reducible apply Keeps.on (State.modBrz_keeps _ _ ?q); (case q => first | exact fun _ h => h | exact fun _ _ => Nat.zero_le _); on_goal 2 => decide)
    | (with_reducible apply Keeps.on (State.txRemove_keeps ..); on_goal 2 => decide)

theorem State.brzStuck_keeps (s : State) : Keeps 0x100000204 s (State.brzStuck s) := by
  unfold State.brzStuck
  repeat' first
    | with_reducible exact Keeps.rfl'
    | with_reducible assumption
    | (extract_lets +onlyGivenNames x; guard_hyp x : State := _; refine Keeps.letv (x := x) ?_ (fun hx => ?_); (on_goal 1 => (unfold x; clear x)); (on_goal 2 => ((try clear_value x); rename' x => y)))
    | (extract_lets +onlyGivenNames x; rename' x => z)
    | (with_reducible apply Keeps.on (State.brzRaise_keeps ..); on_goal 2 => decide)
    | fail_if_no_progress (with_reducible apply Keeps.on (keeps_free ..); on_goal 2 => decide)
    | fail_if_no_progress (with_reducible apply Keeps.on (keeps_brz _ _ ?q); (case q => first | exact id | exact fun _ => Nat.zero_le _); on_goal 2 => decide)
    | fail_if_no_progress refine Keeps.upd ?_ (Or.inl rfl)

theorem State.brzUnstuck_keeps (s : State) : Keeps 0x100000000 s (State.brzUnstuck s) := by
  unfold State.brzUnstuck
  repeat' first
    | with_reducible exact Keeps.rfl'
    | with_reducible assumption
    | (extract_lets +onlyGivenNames x; guard_hyp x : State := _; refine Keeps.letv (x := x) ?_ (fun hx => ?_); (on_goal 1 => (unfold x; clear x)); (on_goal 2 => ((try clear_value x); rename' x => y)))
    | (extract_lets +onlyGivenNames x; rename' x => z)
    | with_reducible refine Keeps.ite (fun hc => ?_) (fun hc => ?_)
    | (with_reducible apply Keeps.on (State.modBrz_keeps _ _ ?q); (case q => first | exact fun _ h => h | exact fun _ _ => Nat.zero_le _); on_goal 2 => decide)
    | (with_reducible apply Keeps.on (State.brzAfter_keeps ..); on_goal 2 => decide)

theorem State.coreReset_keeps (s : State) (k) : Keeps 0x2ff09ffffc0 s (State.coreReset s k) := by
  unfold State.coreReset
  refine ⟨fun p hp => ?_, fun i => ⟨i.mem, by cases k <;> exact seqOk_reset, i.replies, reqsOk_nil, by cases k <;> exact Nat.zero_le _, i.squall, by cases k <;> exact Nat.zero_le _⟩⟩
  cases p <;> first | exact absurd hp (by decide) | rfl | exact ⟨rfl, rfl⟩

theorem State.freeLock_keeps (s : State) : Keeps 0x2200 s (State.freeLock s) := by
  unfold State.freeLock
  repeat' first
    | with_reducible exact Keeps.rfl'
    | with_reducible assumption
    | (extract_lets +onlyGivenNames x; guard_hyp x : State := _; refine Keeps.letv (x := x) ?_ (fun hx => ?_); (on_goal 1 => (unfold x; clear x)); (on_goal 2 => ((try clear_value x); rename' x => y)))
    | (extract_lets +onlyGivenNames x; rename' x => z)
    | (with_reducible apply Keeps.on (State.raiseIf_keeps ..); on_goal 2 => decide)
    | fail_if_no_progress (with_reducible apply Keeps.on (keeps_regSeq _ _ ?q); (case q => first | exact id | exact fun _ => seqOk_reset); on_goal 2 => decide)

theorem State.mboxEnd_keeps (s : State) (v) (code) (reason) (words) : Keeps 0x2000000204 s (State.mboxEnd s v code reason words) := by
  unfold State.mboxEnd
  repeat' first
    | with_reducible exact Keeps.rfl'
    | with_reducible assumption
    | (extract_lets +onlyGivenNames x; guard_hyp x : State := _; refine Keeps.letv (x := x) ?_ (fun hx => ?_); (on_goal 1 => (unfold x; clear x)); (on_goal 2 => ((try clear_value x); rename' x => y)))
    | (extract_lets +onlyGivenNames x; rename' x => z)
    | with_reducible refine Keeps.ite (fun hc => ?_) (fun hc => ?_)
    | (with_reducible apply Keeps.on (State.raise_keeps ..); on_goal 2 => decide)
    | (with_reducible apply Keeps.on (State.modVane_keeps ..); on_goal 2 => decide)
    | fail_if_no_progress (with_reducible apply Keeps.on (keeps_free ..); on_goal 2 => decide)

theorem State.mboxStop_keeps (s : State) : Keeps 0x2000000204 s (State.mboxStop s) := by
  unfold State.mboxStop
  repeat' first
    | with_reducible exact Keeps.rfl'
    | with_reducible assumption
    | (extract_lets +onlyGivenNames x; guard_hyp x : State := _; refine Keeps.letv (x := x) ?_ (fun hx => ?_); (on_goal 1 => (unfold x; clear x)); (on_goal 2 => ((try clear_value x); rename' x => y)))
    | (extract_lets +onlyGivenNames x; rename' x => z)
    | with_reducible refine Keeps.ite (fun hc => ?_) (fun hc => ?_)
    | (with_reducible apply Keeps.on (State.mboxEnd_keeps ..); on_goal 2 => decide)
    | with_reducible refine Keeps.foldl ?_ (fun s a => ?_)

theorem State.dbgStop_keeps (s : State) (any) : Keeps 0x24000010200 s (State.dbgStop s any) := by
  unfold State.dbgStop
  extract_lets mine
  refine Keeps.ite (fun _ => (State.raise_keeps ..).on (m := 0x200) (n := 0x24000010200) ?_ (by decide)) fun _ => Keeps.rfl'
  refine ⟨fun p hp => ?_, fun i => ⟨i.mem, i.seq, i.replies, reqsOk_filter _ i.reqs, i.unack, i.squall, i.fill⟩⟩
  cases p <;> first | exact absurd hp (by decide) | rfl | exact ⟨rfl, rfl⟩

theorem State.endCommands_keeps (s : State) : Keeps 0x3000002244 s (State.endCommands s) := by
  unfold State.endCommands
  repeat' first
    | with_reducible exact Keeps.rfl'
    | (with_reducible apply Keeps.on (State.otpInterrupt_keeps ..); on_goal 2 => decide)
    | (with_reducible apply Keeps.on (State.patchInterrupt_keeps ..); on_goal 2 => decide)
    | (with_reducible apply Keeps.on (State.mboxStop_keeps ..); on_goal 2 => decide)
    | (with_reducible apply Keeps.on (State.freeLock_keeps ..); on_goal 2 => decide)

theorem State.stopSwitch_keeps (s : State) : Keeps 0x8800000 s (State.stopSwitch s) := by
  unfold State.stopSwitch
  repeat' first
    | with_reducible exact Keeps.rfl'
    | with_reducible assumption
    | (extract_lets +onlyGivenNames x; guard_hyp x : State := _; refine Keeps.letv (x := x) ?_ (fun hx => ?_); (on_goal 1 => (unfold x; clear x)); (on_goal 2 => ((try clear_value x); rename' x => y)))
    | (extract_lets +onlyGivenNames x; rename' x => z)
    | (with_reducible apply Keeps.on (State.clearSwitching_keeps ..); on_goal 2 => decide)
    | fail_if_no_progress (with_reducible apply Keeps.on (keeps_pwr ..); on_goal 2 => decide)

theorem State.preemptVote_keeps (s : State) : Keeps 0x8000000 s (State.preemptVote s) := by
  unfold State.preemptVote
  repeat' first
    | with_reducible exact Keeps.rfl'
    | with_reducible assumption
    | (extract_lets +onlyGivenNames x; guard_hyp x : State := _; refine Keeps.letv (x := x) ?_ (fun hx => ?_); (on_goal 1 => (unfold x; clear x)); (on_goal 2 => ((try clear_value x); rename' x => y)))
    | (extract_lets +onlyGivenNames x; rename' x => z)
    | with_reducible refine Keeps.ite (fun hc => ?_) (fun hc => ?_)
    | fail_if_no_progress (with_reducible apply Keeps.on (keeps_pwr ..); on_goal 2 => decide)

theorem State.beginSquall_keeps (s : State) (cause) (save) : Keeps 0x32000000 s (State.beginSquall s cause save) := by
  unfold State.beginSquall
  extract_lets pl
  refine ⟨fun p hp => ?_, fun i => ⟨i.mem, i.seq, i.replies, i.reqs, i.unack, ErrLog.unackEntries_length i.unack, i.fill⟩⟩
  cases p <;> first | exact absurd hp (by decide) | rfl | exact ⟨rfl, rfl⟩

theorem State.stopCopies_keeps (s : State) : Keeps 0x20002010000 s (State.stopCopies s) := by
  unfold State.stopCopies
  repeat' first
    | with_reducible exact Keeps.rfl'
    | with_reducible assumption
    | (with_reducible apply Keeps.on (State.checkpointStopped_keeps ..); on_goal 2 => decide)
    | (with_reducible apply Keeps.on (State.dropCopies_keeps ..); on_goal 2 => decide)
    | with_reducible refine Keeps.foldl ?_ (fun s a => ?_)

theorem State.drainNow_keeps (s : State) (c) : Keeps 0x10000800000 s (State.drainNow s c) := by
  unfold State.drainNow
  repeat' first
    | with_reducible exact Keeps.rfl'
    | with_reducible refine Keeps.ite (fun hc => ?_) (fun hc => ?_)
    | (with_reducible apply Keeps.on (State.dropDrain_keeps ..); on_goal 2 => decide)
    | (with_reducible apply Keeps.on (State.orderDrain_keeps ..); on_goal 2 => decide)

theorem State.drainAll_keeps (s : State) : Keeps 0x10000800000 s (State.drainAll s) := by
  unfold State.drainAll
  repeat' first
    | with_reducible exact Keeps.rfl'
    | with_reducible assumption
    | with_reducible refine Keeps.ite (fun hc => ?_) (fun hc => ?_)
    | (with_reducible apply Keeps.on (State.orderDrain_keeps ..); on_goal 2 => decide)
    | with_reducible refine Keeps.foldl ?_ (fun s a => ?_)

theorem State.abortWaiting_keeps (s : State) : Keeps 0x20000050000 s (State.abortWaiting s) := by
  unfold State.abortWaiting
  repeat' first
    | with_reducible exact Keeps.rfl'
    | with_reducible assumption
    | (extract_lets +onlyGivenNames x; guard_hyp x : State := _; refine Keeps.letv (x := x) ?_ (fun hx => ?_); (on_goal 1 => (unfold x; clear x)); (on_goal 2 => ((try clear_value x); rename' x => y)))
    | (extract_lets +onlyGivenNames x; rename' x => z)
    | with_reducible refine Keeps.ite (fun hc => ?_) (fun hc => ?_)
    | (with_reducible apply Keeps.on (State.dropInflight_keeps ..); on_goal 2 => decide)
    | (with_reducible apply Keeps.on (State.finishReq_keeps ..); on_goal 2 => decide)
    | (with_reducible apply Keeps.on (State.dropReq_keeps ..); on_goal 2 => decide)
    | fail_if_no_progress (with_reducible apply Keeps.on (keeps_ledgerTable ..); on_goal 2 => decide)
    | fail_if_no_progress (with_reducible apply Keeps.on (keeps_ledger _ _ ?q); (case q => exact rfl); on_goal 2 => decide)
    | fail_if_no_progress (with_reducible apply Keeps.on (keeps_ledgerAll ..); on_goal 2 => decide)
    | with_reducible refine Keeps.foldl ?_ (fun s a => ?_)

theorem State.takeToken_keeps (s : State) : Keeps 0x110000000 s (State.takeToken s) := by
  unfold State.takeToken
  repeat' first
    | with_reducible exact Keeps.rfl'
    | with_reducible assumption
    | (extract_lets +onlyGivenNames x; guard_hyp x : State := _; refine Keeps.letv (x := x) ?_ (fun hx => ?_); (on_goal 1 => (unfold x; clear x)); (on_goal 2 => ((try clear_value x); rename' x => y)))
    | (extract_lets +onlyGivenNames x; rename' x => z)
    | fail_if_no_progress (with_reducible apply Keeps.on (keeps_brz _ _ ?q); (case q => first | exact id | exact fun _ => Nat.zero_le _); on_goal 2 => decide)
    | fail_if_no_progress (with_reducible apply Keeps.on (keeps_squall _ _ ?q ?r); (case q => exact rfl); (case r => exact rfl); on_goal 2 => decide)
    | fail_if_no_progress (with_reducible apply Keeps.on (keeps_squallAll _ _ ?q); (case q => first | exact id | exact fun _ => Nat.zero_le _); on_goal 2 => decide)
    | fail_if_no_progress refine Keeps.upd ?_ (Or.inl rfl)

theorem State.ackS3_keeps (s : State) : Keeps 0x20 s (State.ackS3 s) := by
  unfold State.ackS3
  repeat' first
    | with_reducible exact Keeps.rfl'
    | with_reducible assumption
    | (extract_lets +onlyGivenNames x; guard_hyp x : State := _; refine Keeps.letv (x := x) ?_ (fun hx => ?_); (on_goal 1 => (unfold x; clear x)); (on_goal 2 => ((try clear_value x); rename' x => y)))
    | (extract_lets +onlyGivenNames x; rename' x => z)
    | with_reducible refine Keeps.ite (fun hc => ?_) (fun hc => ?_)
    | fail_if_no_progress (with_reducible apply Keeps.on (keeps_pins ..); on_goal 2 => decide)

theorem State.enterHoldUp_keeps (s : State) (cause) : Keeps 0x2773eaf227c s (State.enterHoldUp s cause) := by
  unfold State.enterHoldUp
  repeat' first
    | with_reducible exact Keeps.rfl'
    | with_reducible assumption
    | (extract_lets +onlyGivenNames x; guard_hyp x : State := _; refine Keeps.letv (x := x) ?_ (fun hx => ?_); (on_goal 1 => (unfold x; clear x)); (on_goal 2 => ((try clear_value x); rename' x => y)))
    | (extract_lets +onlyGivenNames x; rename' x => z)
    | with_reducible refine Keeps.ite (fun hc => ?_) (fun hc => ?_)
    | (with_reducible apply Keeps.on (State.beginSquall_keeps ..); on_goal 2 => decide)
    | (with_reducible apply Keeps.on (State.dbgStop_keeps ..); on_goal 2 => decide)
    | (with_reducible apply Keeps.on (State.endCommands_keeps ..); on_goal 2 => decide)
    | (with_reducible apply Keeps.on (State.stopSwitch_keeps ..); on_goal 2 => decide)
    | (with_reducible apply Keeps.on (State.preemptVote_keeps ..); on_goal 2 => decide)
    | (with_reducible apply Keeps.on (State.ingHoldUp_keeps ..); on_goal 2 => decide)
    | (with_reducible apply Keeps.on (State.freezeLedger_keeps ..); on_goal 2 => decide)
    | (with_reducible apply Keeps.on (State.abortWaiting_keeps ..); on_goal 2 => decide)
    | (with_reducible apply Keeps.on (State.brzHoldUp_keeps ..); on_goal 2 => decide)
    | (with_reducible apply Keeps.on (State.modSlice_keeps ..); on_goal 2 => decide)
    | (with_reducible apply Keeps.on (State.stopCopies_keeps ..); on_goal 2 => decide)
    | (with_reducible apply Keeps.on (State.setMode_keeps ..); on_goal 2 => decide)
    | (with_reducible apply Keeps.on (State.takeToken_keeps ..); on_goal 2 => decide)
    | (with_reducible apply Keeps.on (State.ackS3_keeps ..); on_goal 2 => decide)
    | fail_if_no_progress (with_reducible apply Keeps.on (keeps_mode ..); on_goal 2 => decide)
    | fail_if_no_progress (with_reducible apply Keeps.on (keeps_fab ..); on_goal 2 => decide)
    | fail_if_no_progress (with_reducible apply Keeps.on (keeps_pwr ..); on_goal 2 => decide)
    | fail_if_no_progress (with_reducible apply Keeps.on (keeps_errSeq ..); on_goal 2 => decide)
    | fail_if_no_progress (with_reducible apply Keeps.on (keeps_ao _ _ ?q); (case q => exact rfl); on_goal 2 => decide)
    | fail_if_no_progress (with_reducible apply Keeps.on (keeps_aoAll ..); on_goal 2 => decide)
    | fail_if_no_progress (with_reducible apply Keeps.on (keeps_squall _ _ ?q ?r); (case q => exact rfl); (case r => exact rfl); on_goal 2 => decide)
    | fail_if_no_progress (with_reducible apply Keeps.on (keeps_squallAll _ _ ?q); (case q => first | exact id | exact fun _ => Nat.zero_le _); on_goal 2 => decide)
    | with_reducible refine Keeps.foldl ?_ (fun s a => ?_)
    | fail_if_no_progress refine Keeps.upd ?_ (Or.inl rfl)

theorem State.startWarm_keeps (s : State) : Keeps 0x3363eef224c s (State.startWarm s) := by
  unfold State.startWarm
  repeat' first
    | with_reducible exact Keeps.rfl'
    | with_reducible assumption
    | (extract_lets +onlyGivenNames x; guard_hyp x : State := _; refine Keeps.letv (x := x) ?_ (fun hx => ?_); (on_goal 1 => (unfold x; clear x)); (on_goal 2 => ((try clear_value x); rename' x => y)))
    | (extract_lets +onlyGivenNames x; rename' x => z)
    | (with_reducible apply Keeps.on (State.stopSwitch_keeps ..); on_goal 2 => decide)
    | (with_reducible apply Keeps.on (State.beginSquall_keeps ..); on_goal 2 => decide)
    | (with_reducible apply Keeps.on (State.ingOff_keeps ..); on_goal 2 => decide)
    | (with_reducible apply Keeps.on (State.warmFreeze_keeps ..); on_goal 2 => decide)
    | (with_reducible apply Keeps.on (State.endCommands_keeps ..); on_goal 2 => decide)
    | (with_reducible apply Keeps.on (State.stopCopies_keeps ..); on_goal 2 => decide)
    | (with_reducible apply Keeps.on (State.drainAll_keeps ..); on_goal 2 => decide)
    | fail_if_no_progress (with_reducible apply Keeps.on (keeps_fab ..); on_goal 2 => decide)
    | with_reducible refine Keeps.foldl ?_ (fun s a => ?_)

theorem State.parkSlices_keeps (s : State) : Keeps 0x10000800000 s (State.parkSlices s) := by
  unfold State.parkSlices
  repeat' first
    | with_reducible exact Keeps.rfl'
    | with_reducible assumption
    | (extract_lets +onlyGivenNames x; guard_hyp x : State := _; refine Keeps.letv (x := x) ?_ (fun hx => ?_); (on_goal 1 => (unfold x; clear x)); (on_goal 2 => ((try clear_value x); rename' x => y)))
    | (extract_lets +onlyGivenNames x; rename' x => z)
    | with_reducible refine Keeps.ite (fun hc => ?_) (fun hc => ?_)
    | (with_reducible apply Keeps.on (State.modSlice_keeps ..); on_goal 2 => decide)
    | (with_reducible apply Keeps.on (State.drainNow_keeps ..); on_goal 2 => decide)
    | with_reducible refine Keeps.foldl ?_ (fun s a => ?_)

theorem State.beginBringup_keeps (s : State) (k) : Keeps 0x10000230 s (State.beginBringup s k) := by
  unfold State.beginBringup
  repeat' first
    | with_reducible exact Keeps.rfl'
    | with_reducible assumption
    | (extract_lets +onlyGivenNames x; guard_hyp x : State := _; refine Keeps.letv (x := x) ?_ (fun hx => ?_); (on_goal 1 => (unfold x; clear x)); (on_goal 2 => ((try clear_value x); rename' x => y)))
    | (extract_lets +onlyGivenNames x; rename' x => z)
    | (with_reducible apply Keeps.on (State.setMode_keeps ..); on_goal 2 => decide)
    | fail_if_no_progress (with_reducible apply Keeps.on (keeps_mode ..); on_goal 2 => decide)
    | fail_if_no_progress (with_reducible apply Keeps.on (keeps_pins ..); on_goal 2 => decide)
    | fail_if_no_progress (with_reducible apply Keeps.on (keeps_squall _ _ ?q ?r); (case q => exact rfl); (case r => exact rfl); on_goal 2 => decide)
    | fail_if_no_progress (with_reducible apply Keeps.on (keeps_squallAll _ _ ?q); (case q => first | exact id | exact fun _ => Nat.zero_le _); on_goal 2 => decide)
    | fail_if_no_progress refine Keeps.upd ?_ (Or.inl rfl)

theorem State.powerSlices_keeps (s : State) : Keeps 0x800000 s (State.powerSlices s) := by
  unfold State.powerSlices
  repeat' first
    | with_reducible exact Keeps.rfl'
    | with_reducible assumption
    | (extract_lets +onlyGivenNames x; guard_hyp x : State := _; refine Keeps.letv (x := x) ?_ (fun hx => ?_); (on_goal 1 => (unfold x; clear x)); (on_goal 2 => ((try clear_value x); rename' x => y)))
    | (extract_lets +onlyGivenNames x; rename' x => z)
    | with_reducible refine Keeps.ite (fun hc => ?_) (fun hc => ?_)
    | (with_reducible apply Keeps.on (State.modSlice_keeps ..); on_goal 2 => decide)
    | with_reducible refine Keeps.foldl ?_ (fun s a => ?_)

theorem State.initAo_keeps (s : State) : Keeps 0x106800022 s (State.initAo s) := by
  unfold State.initAo
  refine Keeps.ite (fun _ => Keeps.on (keeps_ao s _ rfl) Keeps.rfl' (by decide)) fun _ => ?_
  extract_lets src0 src1 src2 t
  have ht : Keeps 0x106800022 s t := by
    refine ⟨fun p hp => ?_, fun i => ⟨i.mem, i.seq, i.replies, i.reqs, i.unack, i.squall, i.fill⟩⟩
    cases p <;> first | exact absurd hp (by decide) | rfl | exact ⟨rfl, rfl⟩
  clear_value t
  exact Keeps.foldl ht fun s a => (State.modTrain_keeps ..).mono (by decide)

theorem State.warmBringup_keeps (s : State) (k) : Keeps 0x3ff1ffffff2 s (State.warmBringup s k) := by
  unfold State.warmBringup
  repeat' first
    | with_reducible exact Keeps.rfl'
    | with_reducible assumption
    | (extract_lets +onlyGivenNames x; guard_hyp x : State := _; refine Keeps.letv (x := x) ?_ (fun hx => ?_); (on_goal 1 => (unfold x; clear x)); (on_goal 2 => ((try clear_value x); rename' x => y)))
    | (extract_lets +onlyGivenNames x; rename' x => z)
    | with_reducible refine Keeps.ite (fun hc => ?_) (fun hc => ?_)
    | (with_reducible apply Keeps.on (State.initAo_keeps ..); on_goal 2 => decide)
    | (with_reducible apply Keeps.on (State.beginBringup_keeps ..); on_goal 2 => decide)
    | (with_reducible apply Keeps.on (State.coreReset_keeps ..); on_goal 2 => decide)
    | (with_reducible apply Keeps.on (State.parkSlices_keeps ..); on_goal 2 => decide)
    | (with_reducible apply Keeps.on (State.powerSlices_keeps ..); on_goal 2 => decide)
    | (with_reducible apply Keeps.on (State.applyPoint_keeps ..); on_goal 2 => decide)
    | fail_if_no_progress (with_reducible apply Keeps.on (keeps_mode ..); on_goal 2 => decide)
    | fail_if_no_progress (with_reducible apply Keeps.on (keeps_pwr ..); on_goal 2 => decide)
    | fail_if_no_progress refine Keeps.upd ?_ (Or.inl rfl)

end Sys2Proof.Machine
end

