-- ==== Sys2Proof/Laws/KeepsPower.lean ====
section
/-!
SUPPORT. One lemma per operation of Machine/PowerOps.lean, Machine/KeepOps.lean, Machine/Relayout.lean: the parts it may change, and that it keeps the invariant.
-/
set_option linter.all false
namespace Sys2Proof.Machine
set_option Elab.async false

theorem State.startVote_keeps (s : State) (target) (asker) : Keeps 0x8000000 s (State.startVote s target asker) := by
  unfold State.startVote
  repeat' first
    | with_reducible exact Keeps.rfl'
    | with_reducible assumption
    | (extract_lets +onlyGivenNames x; guard_hyp x : State := _; refine Keeps.letv (x := x) ?_ (fun hx => ?_); (on_goal 1 => (unfold x; clear x)); (on_goal 2 => ((try clear_value x); rename' x => y)))
    | (extract_lets +onlyGivenNames x; rename' x => z)
    | fail_if_no_progress (with_reducible apply Keeps.on (keeps_pwr ..); on_goal 2 => decide)

theorem State.votePromote_keeps (s : State) : Keeps 0x8000000 s (State.votePromote s) := by
  unfold State.votePromote
  repeat' first
    | with_reducible exact Keeps.rfl'
    | with_reducible assumption
    | (extract_lets +onlyGivenNames x; guard_hyp x : State := _; refine Keeps.letv (x := x) ?_ (fun hx => ?_); (on_goal 1 => (unfold x; clear x)); (on_goal 2 => ((try clear_value x); rename' x => y)))
    | (extract_lets +onlyGivenNames x; rename' x => z)
    | with_reducible refine Keeps.ite (fun hc => ?_) (fun hc => ?_)
    | fail_if_no_progress (with_reducible apply Keeps.on (keeps_pwr ..); on_goal 2 => decide)

theorem State.voteCommit_keeps (s : State) : Keeps 0x3773eaf227c s (State.voteCommit s) := by
  unfold State.voteCommit
  repeat' first
    | with_reducible exact Keeps.rfl'
    | with_reducible assumption
    | (extract_lets +onlyGivenNames x; guard_hyp x : State := _; refine Keeps.letv (x := x) ?_ (fun hx => ?_); (on_goal 1 => (unfold x; clear x)); (on_goal 2 => ((try clear_value x); rename' x => y)))
    | (extract_lets +onlyGivenNames x; rename' x => z)
    | with_reducible refine Keeps.ite (fun hc => ?_) (fun hc => ?_)
    | (with_reducible apply Keeps.on (State.enterHoldUp_keeps ..); on_goal 2 => decide)
    | (with_reducible apply Keeps.on (State.voidGuarantees_keeps ..); on_goal 2 => decide)
    | (with_reducible apply Keeps.on (State.drainAll_keeps ..); on_goal 2 => decide)
    | fail_if_no_progress (with_reducible apply Keeps.on (keeps_pwr ..); on_goal 2 => decide)

theorem State.answerVote_keeps (s : State) (d) (timeout) : Keeps 0x3773eaf227c s (State.answerVote s d timeout) := by
  unfold State.answerVote
  repeat' first
    | with_reducible exact Keeps.rfl'
    | with_reducible assumption
    | (extract_lets +onlyGivenNames x; guard_hyp x : State := _; refine Keeps.letv (x := x) ?_ (fun hx => ?_); (on_goal 1 => (unfold x; clear x)); (on_goal 2 => ((try clear_value x); rename' x => y)))
    | (extract_lets +onlyGivenNames x; rename' x => z)
    | with_reducible refine Keeps.ite (fun hc => ?_) (fun hc => ?_)
    | (with_reducible apply Keeps.on (State.votePromote_keeps ..); on_goal 2 => decide)
    | (with_reducible apply Keeps.on (State.voteRefuse_keeps ..); on_goal 2 => decide)
    | (with_reducible apply Keeps.on (State.voteCommit_keeps ..); on_goal 2 => decide)
    | fail_if_no_progress (with_reducible apply Keeps.on (keeps_pwr ..); on_goal 2 => decide)
    | fail_if_no_progress (with_reducible apply Keeps.on (keeps_ledgerTable ..); on_goal 2 => decide)
    | fail_if_no_progress (with_reducible apply Keeps.on (keeps_ledger _ _ ?q); (case q => exact rfl); on_goal 2 => decide)
    | fail_if_no_progress (with_reducible apply Keeps.on (keeps_ledgerAll ..); on_goal 2 => decide)
    | split
    | (clear_value *; split)
    | fail_if_no_progress refine Keeps.upd ?_ (Or.inl rfl)

theorem State.releaseAll_keeps (s : State) : Keeps 0xb10000 s (State.releaseAll s) := by
  unfold State.releaseAll
  repeat' first
    | with_reducible exact Keeps.rfl'
    | with_reducible assumption
    | (with_reducible apply Keeps.on (State.releaseHeld_keeps ..); on_goal 2 => decide)
    | with_reducible refine Keeps.foldl ?_ (fun s a => ?_)

theorem State.afterSleep_keeps (s : State) : Keeps 0x3363eef224c s (State.afterSleep s) := by
  unfold State.afterSleep
  repeat' first
    | with_reducible exact Keeps.rfl'
    | with_reducible assumption
    | (extract_lets +onlyGivenNames x; guard_hyp x : State := _; refine Keeps.letv (x := x) ?_ (fun hx => ?_); (on_goal 1 => (unfold x; clear x)); (on_goal 2 => ((try clear_value x); rename' x => y)))
    | (extract_lets +onlyGivenNames x; rename' x => z)
    | with_reducible refine Keeps.ite (fun hc => ?_) (fun hc => ?_)
    | (with_reducible apply Keeps.on (State.startWarm_keeps ..); on_goal 2 => decide)
    | (with_reducible apply Keeps.on (State.startVote_keeps ..); on_goal 2 => decide)
    | fail_if_no_progress (with_reducible apply Keeps.on (keeps_pwr ..); on_goal 2 => decide)
    | split

theorem State.setAck_keeps (s : State) (ack) (nack) : Keeps 0x20 s (State.setAck s ack nack) := by
  unfold State.setAck
  repeat' first
    | with_reducible exact Keeps.rfl'
    | with_reducible assumption
    | (extract_lets +onlyGivenNames x; guard_hyp x : State := _; refine Keeps.letv (x := x) ?_ (fun hx => ?_); (on_goal 1 => (unfold x; clear x)); (on_goal 2 => ((try clear_value x); rename' x => y)))
    | (extract_lets +onlyGivenNames x; rename' x => z)
    | fail_if_no_progress (with_reducible apply Keeps.on (keeps_pins ..); on_goal 2 => decide)

theorem State.noteRefusal_keeps (s : State) (asker) (refuser) (why) : Keeps 0x8000220 s (State.noteRefusal s asker refuser why) := by
  unfold State.noteRefusal
  repeat' first
    | with_reducible exact Keeps.rfl'
    | with_reducible assumption
    | (extract_lets +onlyGivenNames x; guard_hyp x : State := _; refine Keeps.letv (x := x) ?_ (fun hx => ?_); (on_goal 1 => (unfold x; clear x)); (on_goal 2 => ((try clear_value x); rename' x => y)))
    | (extract_lets +onlyGivenNames x; rename' x => z)
    | with_reducible refine Keeps.ite (fun hc => ?_) (fun hc => ?_)
    | (with_reducible apply Keeps.on (State.raiseIf_keeps ..); on_goal 2 => decide)
    | (with_reducible apply Keeps.on (State.setAck_keeps ..); on_goal 2 => decide)
    | fail_if_no_progress (with_reducible apply Keeps.on (keeps_pwr ..); on_goal 2 => decide)

theorem State.resumeLulls_keeps (s : State) : Keeps 0x10000800000 s (State.resumeLulls s) := by
  unfold State.resumeLulls
  repeat' first
    | with_reducible exact Keeps.rfl'
    | with_reducible assumption
    | with_reducible refine Keeps.ite (fun hc => ?_) (fun hc => ?_)
    | (with_reducible apply Keeps.on (State.requestLull_keeps ..); on_goal 2 => decide)
    | with_reducible refine Keeps.foldl ?_ (fun s a => ?_)

theorem State.rollbackDone_keeps (s : State) : Keeps 0x3363eff226c s (State.rollbackDone s) := by
  unfold State.rollbackDone
  repeat' first
    | with_reducible exact Keeps.rfl'
    | with_reducible assumption
    | (extract_lets +onlyGivenNames x; guard_hyp x : State := _; refine Keeps.letv (x := x) ?_ (fun hx => ?_); (on_goal 1 => (unfold x; clear x)); (on_goal 2 => ((try clear_value x); rename' x => y)))
    | (extract_lets +onlyGivenNames x; rename' x => z)
    | with_reducible refine Keeps.ite (fun hc => ?_) (fun hc => ?_)
    | (with_reducible apply Keeps.on (State.resumeLulls_keeps ..); on_goal 2 => decide)
    | (with_reducible apply Keeps.on (State.releaseAll_keeps ..); on_goal 2 => decide)
    | (with_reducible apply Keeps.on (State.afterSleep_keeps ..); on_goal 2 => decide)
    | (with_reducible apply Keeps.on (State.noteRefusal_keeps ..); on_goal 2 => decide)
    | fail_if_no_progress (with_reducible apply Keeps.on (keeps_pwr ..); on_goal 2 => decide)
    | fail_if_no_progress (with_reducible apply Keeps.on (keeps_ledgerTable ..); on_goal 2 => decide)
    | fail_if_no_progress (with_reducible apply Keeps.on (keeps_ledger _ _ ?q); (case q => exact rfl); on_goal 2 => decide)
    | fail_if_no_progress (with_reducible apply Keeps.on (keeps_ledgerAll ..); on_goal 2 => decide)
    | fail_if_no_progress refine Keeps.upd ?_ (Or.inl rfl)

theorem State.doorbell_keeps (s : State) : Keeps 0x8000020 s (State.doorbell s) := by
  unfold State.doorbell
  repeat' first
    | with_reducible exact Keeps.rfl'
    | with_reducible assumption
    | (extract_lets +onlyGivenNames x; guard_hyp x : State := _; refine Keeps.letv (x := x) ?_ (fun hx => ?_); (on_goal 1 => (unfold x; clear x)); (on_goal 2 => ((try clear_value x); rename' x => y)))
    | (extract_lets +onlyGivenNames x; rename' x => z)
    | with_reducible refine Keeps.ite (fun hc => ?_) (fun hc => ?_)
    | (with_reducible apply Keeps.on (State.startVote_keeps ..); on_goal 2 => decide)
    | (with_reducible apply Keeps.on (State.wakeBy_keeps ..); on_goal 2 => decide)
    | fail_if_no_progress (with_reducible apply Keeps.on (keeps_pwr ..); on_goal 2 => decide)
    | split
    | (clear_value *; split)

theorem State.refuseAwake_keeps (s : State) : Keeps 0x8000020 s (State.refuseAwake s) := by
  unfold State.refuseAwake
  repeat' first
    | with_reducible exact Keeps.rfl'
    | with_reducible assumption
    | (extract_lets +onlyGivenNames x; guard_hyp x : State := _; refine Keeps.letv (x := x) ?_ (fun hx => ?_); (on_goal 1 => (unfold x; clear x)); (on_goal 2 => ((try clear_value x); rename' x => y)))
    | (extract_lets +onlyGivenNames x; rename' x => z)
    | (with_reducible apply Keeps.on (State.setAck_keeps ..); on_goal 2 => decide)
    | fail_if_no_progress (with_reducible apply Keeps.on (keeps_pwr ..); on_goal 2 => decide)

theorem State.pwrReqUp_keeps (s : State) (st) : Keeps 0x8000020 s (State.pwrReqUp s st) := by
  unfold State.pwrReqUp
  repeat' first
    | with_reducible exact Keeps.rfl'
    | with_reducible assumption
    | (extract_lets +onlyGivenNames x; guard_hyp x : State := _; refine Keeps.letv (x := x) ?_ (fun hx => ?_); (on_goal 1 => (unfold x; clear x)); (on_goal 2 => ((try clear_value x); rename' x => y)))
    | (extract_lets +onlyGivenNames x; rename' x => z)
    | with_reducible refine Keeps.ite (fun hc => ?_) (fun hc => ?_)
    | (with_reducible apply Keeps.on (State.startVote_keeps ..); on_goal 2 => decide)
    | (with_reducible apply Keeps.on (State.setAck_keeps ..); on_goal 2 => decide)
    | (with_reducible apply Keeps.on (State.refuseAwake_keeps ..); on_goal 2 => decide)
    | (with_reducible apply Keeps.on (State.wakeBy_keeps ..); on_goal 2 => decide)
    | fail_if_no_progress (with_reducible apply Keeps.on (keeps_pins ..); on_goal 2 => decide)
    | fail_if_no_progress (with_reducible apply Keeps.on (keeps_pwr ..); on_goal 2 => decide)
    | fail_if_no_progress (with_reducible apply Keeps.on (keeps_pwrPins ..); on_goal 2 => decide)
    | split
    | (clear_value *; split)
    | fail_if_no_progress refine Keeps.upd ?_ (Or.inl rfl)

theorem State.pwrReqDown_keeps (s : State) : Keeps 0x8000020 s (State.pwrReqDown s) := by
  unfold State.pwrReqDown
  repeat' first
    | with_reducible exact Keeps.rfl'
    | with_reducible assumption
    | (extract_lets +onlyGivenNames x; guard_hyp x : State := _; refine Keeps.letv (x := x) ?_ (fun hx => ?_); (on_goal 1 => (unfold x; clear x)); (on_goal 2 => ((try clear_value x); rename' x => y)))
    | (extract_lets +onlyGivenNames x; rename' x => z)
    | with_reducible refine Keeps.ite (fun hc => ?_) (fun hc => ?_)
    | (with_reducible apply Keeps.on (State.wakeBy_keeps ..); on_goal 2 => decide)
    | (with_reducible apply Keeps.on (State.setAck_keeps ..); on_goal 2 => decide)
    | fail_if_no_progress (with_reducible apply Keeps.on (keeps_pins ..); on_goal 2 => decide)
    | fail_if_no_progress (with_reducible apply Keeps.on (keeps_pwr ..); on_goal 2 => decide)
    | fail_if_no_progress (with_reducible apply Keeps.on (keeps_pwrPins ..); on_goal 2 => decide)
    | fail_if_no_progress refine Keeps.upd ?_ (Or.inl rfl)

theorem State.doze_keeps (s : State) : Keeps 0x8000000 s (State.doze s) := by
  unfold State.doze
  repeat' first
    | with_reducible exact Keeps.rfl'
    | with_reducible refine Keeps.ite (fun hc => ?_) (fun hc => ?_)
    | (with_reducible apply Keeps.on (State.startVote_keeps ..); on_goal 2 => decide)

theorem State.dozeSlice_keeps (s : State) (c) : Keeps 0x800000 s (State.dozeSlice s c) := by
  unfold State.dozeSlice
  repeat' first
    | with_reducible exact Keeps.rfl'
    | with_reducible assumption
    | (extract_lets +onlyGivenNames x; guard_hyp x : State := _; refine Keeps.letv (x := x) ?_ (fun hx => ?_); (on_goal 1 => (unfold x; clear x)); (on_goal 2 => ((try clear_value x); rename' x => y)))
    | (extract_lets +onlyGivenNames x; rename' x => z)
    | with_reducible refine Keeps.ite (fun hc => ?_) (fun hc => ?_)
    | (with_reducible apply Keeps.on (State.modSlice_keeps ..); on_goal 2 => decide)

theorem State.napSlice_keeps (s : State) (c) : Keeps 0x10000800000 s (State.napSlice s c) := by
  unfold State.napSlice
  repeat' first
    | with_reducible exact Keeps.rfl'
    | with_reducible assumption
    | (extract_lets +onlyGivenNames x; guard_hyp x : State := _; refine Keeps.letv (x := x) ?_ (fun hx => ?_); (on_goal 1 => (unfold x; clear x)); (on_goal 2 => ((try clear_value x); rename' x => y)))
    | (extract_lets +onlyGivenNames x; rename' x => z)
    | with_reducible refine Keeps.ite (fun hc => ?_) (fun hc => ?_)
    | (with_reducible apply Keeps.on (State.modSlice_keeps ..); on_goal 2 => decide)
    | (with_reducible apply Keeps.on (State.drainNow_keeps ..); on_goal 2 => decide)
    | (with_reducible apply Keeps.on (State.modSched_keeps ..); on_goal 2 => decide)

theorem State.stopLines_keeps (s : State) : Keeps 0x100000 s (State.stopLines s) := by
  unfold State.stopLines
  repeat' first
    | with_reducible exact Keeps.rfl'
    | with_reducible assumption
    | (extract_lets +onlyGivenNames x; guard_hyp x : State := _; refine Keeps.letv (x := x) ?_ (fun hx => ?_); (on_goal 1 => (unfold x; clear x)); (on_goal 2 => ((try clear_value x); rename' x => y)))
    | (extract_lets +onlyGivenNames x; rename' x => z)
    | (with_reducible apply Keeps.on (State.modLine_keeps ..); on_goal 2 => decide)
    | with_reducible refine Keeps.foldl ?_ (fun s a => ?_)

theorem State.entryDone_keeps (s : State) : Keeps 0x10008900220 s (State.entryDone s) := by
  unfold State.entryDone
  repeat' first
    | with_reducible exact Keeps.rfl'
    | with_reducible assumption
    | (extract_lets +onlyGivenNames x; guard_hyp x : State := _; refine Keeps.letv (x := x) ?_ (fun hx => ?_); (on_goal 1 => (unfold x; clear x)); (on_goal 2 => ((try clear_value x); rename' x => y)))
    | (extract_lets +onlyGivenNames x; rename' x => z)
    | with_reducible refine Keeps.ite (fun hc => ?_) (fun hc => ?_)
    | (with_reducible apply Keeps.on (State.dozeSlice_keeps ..); on_goal 2 => decide)
    | (with_reducible apply Keeps.on (State.stopLines_keeps ..); on_goal 2 => decide)
    | (with_reducible apply Keeps.on (State.napSlice_keeps ..); on_goal 2 => decide)
    | (with_reducible apply Keeps.on (State.raise_keeps ..); on_goal 2 => decide)
    | (with_reducible apply Keeps.on (State.setAck_keeps ..); on_goal 2 => decide)
    | (with_reducible apply Keeps.on (State.refuseAwake_keeps ..); on_goal 2 => decide)
    | (with_reducible apply Keeps.on (State.wakeBy_keeps ..); on_goal 2 => decide)
    | fail_if_no_progress (with_reducible apply Keeps.on (keeps_pwr ..); on_goal 2 => decide)
    | with_reducible refine Keeps.foldl ?_ (fun s a => ?_)

theorem State.wakeSlices_keeps (s : State) : Keeps 0x800000 s (State.wakeSlices s) := by
  unfold State.wakeSlices
  repeat' first
    | with_reducible exact Keeps.rfl'
    | with_reducible assumption
    | (extract_lets +onlyGivenNames x; guard_hyp x : State := _; refine Keeps.letv (x := x) ?_ (fun hx => ?_); (on_goal 1 => (unfold x; clear x)); (on_goal 2 => ((try clear_value x); rename' x => y)))
    | (extract_lets +onlyGivenNames x; rename' x => z)
    | with_reducible refine Keeps.ite (fun hc => ?_) (fun hc => ?_)
    | (with_reducible apply Keeps.on (State.modSlice_keeps ..); on_goal 2 => decide)
    | with_reducible refine Keeps.foldl ?_ (fun s a => ?_)

theorem State.wakeDone_keeps (s : State) : Keeps 0x3363eff226c s (State.wakeDone s) := by
  unfold State.wakeDone
  repeat' first
    | with_reducible exact Keeps.rfl'
    | with_reducible assumption
    | (extract_lets +onlyGivenNames x; guard_hyp x : State := _; refine Keeps.letv (x := x) ?_ (fun hx => ?_); (on_goal 1 => (unfold x; clear x)); (on_goal 2 => ((try clear_value x); rename' x => y)))
    | (extract_lets +onlyGivenNames x; rename' x => z)
    | with_reducible refine Keeps.ite (fun hc => ?_) (fun hc => ?_)
    | (with_reducible apply Keeps.on (State.afterSleep_keeps ..); on_goal 2 => decide)
    | (with_reducible apply Keeps.on (State.releaseAll_keeps ..); on_goal 2 => decide)
    | (with_reducible apply Keeps.on (State.raise_keeps ..); on_goal 2 => decide)
    | fail_if_no_progress (with_reducible apply Keeps.on (keeps_pins ..); on_goal 2 => decide)
    | fail_if_no_progress (with_reducible apply Keeps.on (keeps_pwr ..); on_goal 2 => decide)
    | fail_if_no_progress (with_reducible apply Keeps.on (keeps_ledgerTable ..); on_goal 2 => decide)
    | fail_if_no_progress (with_reducible apply Keeps.on (keeps_ledger _ _ ?q); (case q => exact rfl); on_goal 2 => decide)
    | fail_if_no_progress (with_reducible apply Keeps.on (keeps_ledgerAll ..); on_goal 2 => decide)
    | fail_if_no_progress (with_reducible apply Keeps.on (keeps_pwrPins ..); on_goal 2 => decide)
    | fail_if_no_progress refine Keeps.upd ?_ (Or.inl rfl)

theorem State.toVbk_keeps (s : State) : Keeps 0x2000200 s (State.toVbk s) := by
  unfold State.toVbk
  repeat' first
    | with_reducible exact Keeps.rfl'
    | with_reducible assumption
    | (extract_lets +onlyGivenNames x; guard_hyp x : State := _; refine Keeps.letv (x := x) ?_ (fun hx => ?_); (on_goal 1 => (unfold x; clear x)); (on_goal 2 => ((try clear_value x); rename' x => y)))
    | (extract_lets +onlyGivenNames x; rename' x => z)
    | with_reducible refine Keeps.ite (fun hc => ?_) (fun hc => ?_)
    | (with_reducible apply Keeps.on (State.raiseIf_keeps ..); on_goal 2 => decide)
    | fail_if_no_progress (with_reducible apply Keeps.on (keeps_errSeq ..); on_goal 2 => decide)
    | fail_if_no_progress (with_reducible apply Keeps.on (keeps_ao _ _ ?q); (case q => exact rfl); on_goal 2 => decide)
    | fail_if_no_progress (with_reducible apply Keeps.on (keeps_aoAll ..); on_goal 2 => decide)

theorem State.fromVbk_keeps (s : State) : Keeps 0x2000000 s (State.fromVbk s) := by
  unfold State.fromVbk
  repeat' first
    | with_reducible exact Keeps.rfl'
    | with_reducible assumption
    | (extract_lets +onlyGivenNames x; guard_hyp x : State := _; refine Keeps.letv (x := x) ?_ (fun hx => ?_); (on_goal 1 => (unfold x; clear x)); (on_goal 2 => ((try clear_value x); rename' x => y)))
    | (extract_lets +onlyGivenNames x; rename' x => z)
    | with_reducible refine Keeps.ite (fun hc => ?_) (fun hc => ?_)
    | fail_if_no_progress (with_reducible apply Keeps.on (keeps_errSeq ..); on_goal 2 => decide)
    | fail_if_no_progress (with_reducible apply Keeps.on (keeps_ao _ _ ?q); (case q => exact rfl); on_goal 2 => decide)
    | fail_if_no_progress (with_reducible apply Keeps.on (keeps_aoAll ..); on_goal 2 => decide)

theorem State.setVbkLow_keeps (s : State) (low) : Keeps 0x2000200 s (State.setVbkLow s low) := by
  unfold State.setVbkLow
  repeat' first
    | with_reducible exact Keeps.rfl'
    | with_reducible assumption
    | (extract_lets +onlyGivenNames x; guard_hyp x : State := _; refine Keeps.letv (x := x) ?_ (fun hx => ?_); (on_goal 1 => (unfold x; clear x)); (on_goal 2 => ((try clear_value x); rename' x => y)))
    | (extract_lets +onlyGivenNames x; rename' x => z)
    | (with_reducible apply Keeps.on (State.raiseIf_keeps ..); on_goal 2 => decide)
    | fail_if_no_progress (with_reducible apply Keeps.on (keeps_errSeq ..); on_goal 2 => decide)
    | fail_if_no_progress (with_reducible apply Keeps.on (keeps_ao _ _ ?q); (case q => exact rfl); on_goal 2 => decide)
    | fail_if_no_progress (with_reducible apply Keeps.on (keeps_aoAll ..); on_goal 2 => decide)

theorem State.stopSquall_keeps (s : State) : Keeps 0x30200000 s (State.stopSquall s) := by
  unfold State.stopSquall
  refine ⟨fun p hp => ?_, fun i => ⟨i.mem, i.seq, i.replies, i.reqs, i.unack, Nat.zero_le _, i.fill⟩⟩
  cases p <;> first | exact absurd hp (by decide) | rfl | exact ⟨rfl, rfl⟩

theorem State.coldState_keeps (s : State) : Keeps 0x2ff39fffff2 s (State.coldState s) := by
  unfold State.coldState
  repeat' first
    | with_reducible exact Keeps.rfl'
    | with_reducible assumption
    | (extract_lets +onlyGivenNames x; guard_hyp x : State := _; refine Keeps.letv (x := x) ?_ (fun hx => ?_); (on_goal 1 => (unfold x; clear x)); (on_goal 2 => ((try clear_value x); rename' x => y)))
    | (extract_lets +onlyGivenNames x; rename' x => z)
    | (with_reducible apply Keeps.on (State.beginBringup_keeps ..); on_goal 2 => decide)
    | (with_reducible apply Keeps.on (State.coreReset_keeps ..); on_goal 2 => decide)
    | (with_reducible apply Keeps.on (State.otpInterrupt_keeps ..); on_goal 2 => decide)
    | (with_reducible apply Keeps.on (State.stopSquall_keeps ..); on_goal 2 => decide)
    | fail_if_no_progress (with_reducible apply Keeps.on (keeps_tb ..); on_goal 2 => decide)
    | fail_if_no_progress (with_reducible apply Keeps.on (keeps_mode ..); on_goal 2 => decide)
    | fail_if_no_progress (with_reducible apply Keeps.on (keeps_pwr ..); on_goal 2 => decide)
    | fail_if_no_progress refine Keeps.upd ?_ (Or.inl rfl)

theorem State.loseLatch_keeps (s : State) (c) : Keeps 0x800bc0 s (State.loseLatch s c) := by
  unfold State.loseLatch
  extract_lets keep r
  refine Keeps.on (State.modSlice_keeps ..) (n := 0x800bc0) ?_ (by decide)
  refine ⟨fun p hp => ?_, fun i => ⟨i.mem, i.seq, i.replies, i.reqs, i.unack, i.squall, i.fill⟩⟩
  cases p <;> first | exact absurd hp (by decide) | rfl | exact ⟨rfl, rfl⟩

theorem State.loseLatches_keeps (s : State) : Keeps 0x800bc0 s (State.loseLatches s) := by
  unfold State.loseLatches
  repeat' first
    | with_reducible exact Keeps.rfl'
    | with_reducible assumption
    | with_reducible refine Keeps.ite (fun hc => ?_) (fun hc => ?_)
    | (with_reducible apply Keeps.on (State.loseLatch_keeps ..); on_goal 2 => decide)
    | with_reducible refine Keeps.foldl ?_ (fun s a => ?_)

theorem State.brownOut_keeps (s : State) : Keeps 0x2ff3ffffff2 s (State.brownOut s) := by
  unfold State.brownOut
  extract_lets low src0 src1 src2 src3 t u
  have ht : Keeps 0x2ff3ffffff2 s t := by
    refine ⟨fun p hp => ?_, fun i => ⟨i.mem, i.seq, Nat.zero_le _, i.reqs, i.unack, i.squall, i.fill⟩⟩
    cases p <;> first | exact absurd hp (by decide) | rfl | exact ⟨rfl, rfl⟩
  clear_value t
  have hu : Keeps 0x2ff3ffffff2 s u := by
    refine Keeps.on (State.loseLatches_keeps ..) ?_ (by decide)
    exact Keeps.foldl ht fun s a => (State.modTrain_keeps ..).mono (by decide)
  exact Keeps.ite (fun _ => (State.coldState_keeps ..).on hu (by decide)) fun _ => hu

theorem State.clearRes_keeps (s : State) : Keeps 0x2000000 s (State.clearRes s) := by
  unfold State.clearRes
  repeat' first
    | with_reducible exact Keeps.rfl'
    | with_reducible assumption
    | (extract_lets +onlyGivenNames x; guard_hyp x : State := _; refine Keeps.letv (x := x) ?_ (fun hx => ?_); (on_goal 1 => (unfold x; clear x)); (on_goal 2 => ((try clear_value x); rename' x => y)))
    | (extract_lets +onlyGivenNames x; rename' x => z)
    | fail_if_no_progress (with_reducible apply Keeps.on (keeps_errSeq ..); on_goal 2 => decide)
    | fail_if_no_progress (with_reducible apply Keeps.on (keeps_ao _ _ ?q); (case q => exact rfl); on_goal 2 => decide)
    | fail_if_no_progress (with_reducible apply Keeps.on (keeps_aoAll ..); on_goal 2 => decide)

theorem State.clearPwr_keeps (s : State) : Keeps 0x8000000 s (State.clearPwr s) := by
  unfold State.clearPwr
  repeat' first
    | with_reducible exact Keeps.rfl'
    | with_reducible assumption
    | (extract_lets +onlyGivenNames x; guard_hyp x : State := _; refine Keeps.letv (x := x) ?_ (fun hx => ?_); (on_goal 1 => (unfold x; clear x)); (on_goal 2 => ((try clear_value x); rename' x => y)))
    | (extract_lets +onlyGivenNames x; rename' x => z)
    | fail_if_no_progress (with_reducible apply Keeps.on (keeps_pwr ..); on_goal 2 => decide)

theorem State.clearVofs_keeps (s : State) : Keeps 0x8000020 s (State.clearVofs s) := by
  unfold State.clearVofs
  repeat' first
    | with_reducible exact Keeps.rfl'
    | with_reducible assumption
    | (extract_lets +onlyGivenNames x; guard_hyp x : State := _; refine Keeps.letv (x := x) ?_ (fun hx => ?_); (on_goal 1 => (unfold x; clear x)); (on_goal 2 => ((try clear_value x); rename' x => y)))
    | (extract_lets +onlyGivenNames x; rename' x => z)
    | fail_if_no_progress (with_reducible apply Keeps.on (keeps_pins ..); on_goal 2 => decide)
    | fail_if_no_progress (with_reducible apply Keeps.on (keeps_pwr ..); on_goal 2 => decide)
    | fail_if_no_progress (with_reducible apply Keeps.on (keeps_pwrPins ..); on_goal 2 => decide)
    | fail_if_no_progress refine Keeps.upd ?_ (Or.inl rfl)

theorem State.layMap_keeps (s : State) (g) : Keeps 0x10000900000 s (State.layMap s g) := by
  unfold State.layMap
  repeat' first
    | with_reducible exact Keeps.rfl'
    | with_reducible assumption
    | (extract_lets +onlyGivenNames x; guard_hyp x : State := _; refine Keeps.letv (x := x) ?_ (fun hx => ?_); (on_goal 1 => (unfold x; clear x)); (on_goal 2 => ((try clear_value x); rename' x => y)))
    | (extract_lets +onlyGivenNames x; rename' x => z)
    | (with_reducible apply Keeps.on (State.wordsLaid_keeps ..); on_goal 2 => decide)
    | (with_reducible apply Keeps.on (State.modHub_keeps ..); on_goal 2 => decide)
    | (with_reducible apply Keeps.on (State.clearLaid_keeps ..); on_goal 2 => decide)

theorem State.fillChunks_keeps (s : State) (g) (l) : Keeps 0x10000900200 s (State.fillChunks s g l) := by
  unfold State.fillChunks
  repeat' first
    | with_reducible exact Keeps.rfl'
    | with_reducible assumption
    | (extract_lets +onlyGivenNames x; guard_hyp x : State := _; refine Keeps.letv (x := x) ?_ (fun hx => ?_); (on_goal 1 => (unfold x; clear x)); (on_goal 2 => ((try clear_value x); rename' x => y)))
    | (extract_lets +onlyGivenNames x; rename' x => z)
    | with_reducible refine Keeps.ite (fun hc => ?_) (fun hc => ?_)
    | (with_reducible apply Keeps.on (State.noteZeroed_keeps ..); on_goal 2 => decide)
    | (with_reducible apply Keeps.on (State.layMap_keeps ..); on_goal 2 => decide)
    | (with_reducible apply Keeps.on (State.modHub_keeps ..); on_goal 2 => decide)
    | with_reducible refine Keeps.foldl ?_ (fun s a => ?_)

theorem State.signSlices_keeps (s : State) : Keeps 0x800000 s (State.signSlices s) := by
  unfold State.signSlices
  repeat' first
    | with_reducible exact Keeps.rfl'
    | with_reducible assumption
    | (extract_lets +onlyGivenNames x; guard_hyp x : State := _; refine Keeps.letv (x := x) ?_ (fun hx => ?_); (on_goal 1 => (unfold x; clear x)); (on_goal 2 => ((try clear_value x); rename' x => y)))
    | (extract_lets +onlyGivenNames x; rename' x => z)
    | with_reducible refine Keeps.ite (fun hc => ?_) (fun hc => ?_)
    | (with_reducible apply Keeps.on (State.modSlice_keeps ..); on_goal 2 => decide)
    | with_reducible refine Keeps.foldl ?_ (fun s a => ?_)

theorem State.setCopy_keeps (s : State) (b) (k) : Keeps 0xc0000000 s (State.setCopy s b k) := by
  unfold State.setCopy
  repeat' first
    | with_reducible exact Keeps.rfl'
    | with_reducible assumption
    | (extract_lets +onlyGivenNames x; guard_hyp x : State := _; refine Keeps.letv (x := x) ?_ (fun hx => ?_); (on_goal 1 => (unfold x; clear x)); (on_goal 2 => ((try clear_value x); rename' x => y)))
    | (extract_lets +onlyGivenNames x; rename' x => z)
    | with_reducible refine Keeps.ite (fun hc => ?_) (fun hc => ?_)
    | fail_if_no_progress (with_reducible apply Keeps.on (keeps_keepA ..); on_goal 2 => decide)
    | fail_if_no_progress (with_reducible apply Keeps.on (keeps_keepB ..); on_goal 2 => decide)
    | fail_if_no_progress refine Keeps.upd ?_ (Or.inl rfl)

theorem State.countLaid_keeps (s : State) (b) (k) : Keeps 0x400100204 s (State.countLaid s b k) := by
  unfold State.countLaid
  repeat' first
    | with_reducible exact Keeps.rfl'
    | with_reducible assumption
    | (extract_lets +onlyGivenNames x; guard_hyp x : State := _; refine Keeps.letv (x := x) ?_ (fun hx => ?_); (on_goal 1 => (unfold x; clear x)); (on_goal 2 => ((try clear_value x); rename' x => y)))
    | (extract_lets +onlyGivenNames x; rename' x => z)
    | with_reducible refine Keeps.ite (fun hc => ?_) (fun hc => ?_)
    | (with_reducible apply Keeps.on (State.tookFree_keeps ..); on_goal 2 => decide)
    | (with_reducible apply Keeps.on (State.passEntries_keeps ..); on_goal 2 => decide)
    | (with_reducible apply Keeps.on (State.telSys_keeps ..); on_goal 2 => decide)
    | (with_reducible apply Keeps.on (State.modHub_keeps ..); on_goal 2 => decide)

theorem State.layCopy_keeps (s : State) (b) (k) : Keeps 0x104c0900204 s (State.layCopy s b k) := by
  unfold State.layCopy
  repeat' first
    | with_reducible exact Keeps.rfl'
    | with_reducible assumption
    | (extract_lets +onlyGivenNames x; guard_hyp x : State := _; refine Keeps.letv (x := x) ?_ (fun hx => ?_); (on_goal 1 => (unfold x; clear x)); (on_goal 2 => ((try clear_value x); rename' x => y)))
    | (extract_lets +onlyGivenNames x; rename' x => z)
    | (with_reducible apply Keeps.on (State.wordsLaid_keeps ..); on_goal 2 => decide)
    | (with_reducible apply Keeps.on (State.setCopy_keeps ..); on_goal 2 => decide)
    | (with_reducible apply Keeps.on (State.clearLaid_keeps ..); on_goal 2 => decide)
    | (with_reducible apply Keeps.on (State.countLaid_keeps ..); on_goal 2 => decide)
    | (with_reducible apply Keeps.on (State.fillChunks_keeps ..); on_goal 2 => decide)

theorem State.checkpointAll_keeps (s : State) : Keeps 0x2000000 s (State.checkpointAll s) := by
  unfold State.checkpointAll
  repeat' first
    | with_reducible exact Keeps.rfl'
    | with_reducible assumption
    | (extract_lets +onlyGivenNames x; guard_hyp x : State := _; refine Keeps.letv (x := x) ?_ (fun hx => ?_); (on_goal 1 => (unfold x; clear x)); (on_goal 2 => ((try clear_value x); rename' x => y)))
    | (extract_lets +onlyGivenNames x; rename' x => z)
    | (with_reducible apply Keeps.on (State.checkpoint_keeps ..); on_goal 2 => decide)
    | with_reducible refine Keeps.foldl ?_ (fun s a => ?_)
    | split

theorem State.saveCopies_keeps (s : State) : Keeps 0x104d2b00204 s (State.saveCopies s) := by
  unfold State.saveCopies
  repeat' first
    | with_reducible exact Keeps.rfl'
    | with_reducible assumption
    | (extract_lets +onlyGivenNames x; guard_hyp x : State := _; refine Keeps.letv (x := x) ?_ (fun hx => ?_); (on_goal 1 => (unfold x; clear x)); (on_goal 2 => ((try clear_value x); rename' x => y)))
    | (extract_lets +onlyGivenNames x; rename' x => z)
    | (with_reducible apply Keeps.on (State.vaneGrants_keeps ..); on_goal 2 => decide)
    | (with_reducible apply Keeps.on (State.signSlices_keeps ..); on_goal 2 => decide)
    | (with_reducible apply Keeps.on (State.checkpointAll_keeps ..); on_goal 2 => decide)
    | (with_reducible apply Keeps.on (State.tookFree_keeps ..); on_goal 2 => decide)
    | (with_reducible apply Keeps.on (State.layCopy_keeps ..); on_goal 2 => decide)
    | fail_if_no_progress (with_reducible apply Keeps.on (keeps_squall _ _ ?q ?r); (case q => exact rfl); (case r => exact rfl); on_goal 2 => decide)
    | fail_if_no_progress (with_reducible apply Keeps.on (keeps_squallAll _ _ ?q); (case q => first | exact id | exact fun _ => Nat.zero_le _); on_goal 2 => decide)
    | with_reducible refine Keeps.foldl ?_ (fun s a => ?_)

theorem State.layHeader_keeps (s : State) (b) (k) : Keeps 0x100c0800000 s (State.layHeader s b k) := by
  unfold State.layHeader
  repeat' first
    | with_reducible exact Keeps.rfl'
    | with_reducible assumption
    | (extract_lets +onlyGivenNames x; guard_hyp x : State := _; refine Keeps.letv (x := x) ?_ (fun hx => ?_); (on_goal 1 => (unfold x; clear x)); (on_goal 2 => ((try clear_value x); rename' x => y)))
    | (extract_lets +onlyGivenNames x; rename' x => z)
    | with_reducible refine Keeps.ite (fun hc => ?_) (fun hc => ?_)
    | (with_reducible apply Keeps.on (State.wordsLaid_keeps ..); on_goal 2 => decide)
    | (with_reducible apply Keeps.on (State.setCopy_keeps ..); on_goal 2 => decide)
    | (with_reducible apply Keeps.on (State.clearLaid_keeps ..); on_goal 2 => decide)
    | (with_reducible apply Keeps.on (State.putStrips_keeps ..); on_goal 2 => decide)
    | with_reducible refine Keeps.foldl ?_ (fun s a => ?_)
    | split
    | (clear_value *; split)

theorem State.mendCopy_keeps (s : State) (g) (m) (b) : Keeps 0x104c0900204 s (State.mendCopy s g m b) := by
  unfold State.mendCopy
  repeat' first
    | with_reducible exact Keeps.rfl'
    | with_reducible assumption
    | (extract_lets +onlyGivenNames x; guard_hyp x : State := _; refine Keeps.letv (x := x) ?_ (fun hx => ?_); (on_goal 1 => (unfold x; clear x)); (on_goal 2 => ((try clear_value x); rename' x => y)))
    | (extract_lets +onlyGivenNames x; rename' x => z)
    | with_reducible refine Keeps.ite (fun hc => ?_) (fun hc => ?_)
    | (with_reducible apply Keeps.on (State.layCopy_keeps ..); on_goal 2 => decide)
    | split
    | (clear_value *; split)

theorem State.mendKeep_keeps (s : State) (g) (r) : Keeps 0x104c0900204 s (State.mendKeep s g r) := by
  unfold State.mendKeep
  repeat' first
    | with_reducible exact Keeps.rfl'
    | with_reducible refine Keeps.ite (fun hc => ?_) (fun hc => ?_)
    | (with_reducible apply Keeps.on (State.mendCopy_keeps ..); on_goal 2 => decide)

end Sys2Proof.Machine
end

