-- ==== Sys2Proof/Laws/KeepsBringup.lean ====
section
/-!
SUPPORT. One lemma per operation of Machine/Squall.lean, Machine/RestoreOps.lean, Machine/Bringup.lean: the parts it may change, and that it keeps the invariant.
-/
set_option linter.all false
namespace Sys2Proof.Machine
set_option Elab.async false

theorem State.mapFromSig_keeps (s : State) : Keeps 0x40 s (State.mapFromSig s) := by
  unfold State.mapFromSig
  repeat' first
    | with_reducible exact Keeps.rfl'
    | with_reducible assumption
    | (extract_lets +onlyGivenNames x; guard_hyp x : State := _; refine Keeps.letv (x := x) ?_ (fun hx => ?_); (on_goal 1 => (unfold x; clear x)); (on_goal 2 => ((try clear_value x); rename' x => y)))
    | (extract_lets +onlyGivenNames x; rename' x => z)
    | (with_reducible apply Keeps.on (State.store_keeps ..); on_goal 2 => decide)
    | split

theorem State.stateAll_keeps (s : State) (st) : Keeps 0x800000 s (State.stateAll s st) := by
  unfold State.stateAll
  repeat' first
    | with_reducible exact Keeps.rfl'
    | with_reducible assumption
    | (extract_lets +onlyGivenNames x; guard_hyp x : State := _; refine Keeps.letv (x := x) ?_ (fun hx => ?_); (on_goal 1 => (unfold x; clear x)); (on_goal 2 => ((try clear_value x); rename' x => y)))
    | (extract_lets +onlyGivenNames x; rename' x => z)
    | with_reducible refine Keeps.ite (fun hc => ?_) (fun hc => ?_)
    | (with_reducible apply Keeps.on (State.modTrain_keeps ..); on_goal 2 => decide)
    | with_reducible refine Keeps.foldl ?_ (fun s a => ?_)

theorem State.startProbe_keeps (s : State) : Keeps 0x800000 s (State.startProbe s) := by
  unfold State.startProbe
  repeat' first
    | with_reducible exact Keeps.rfl'
    | with_reducible refine Keeps.ite (fun hc => ?_) (fun hc => ?_)
    | (with_reducible apply Keeps.on (State.stateAll_keeps ..); on_goal 2 => decide)

theorem State.coreUp_keeps (s : State) : Keeps 0x10a800050 s (State.coreUp s) := by
  unfold State.coreUp
  repeat' first
    | with_reducible exact Keeps.rfl'
    | with_reducible assumption
    | (extract_lets +onlyGivenNames x; guard_hyp x : State := _; refine Keeps.letv (x := x) ?_ (fun hx => ?_); (on_goal 1 => (unfold x; clear x)); (on_goal 2 => ((try clear_value x); rename' x => y)))
    | (extract_lets +onlyGivenNames x; rename' x => z)
    | (with_reducible apply Keeps.on (State.powerSlices_keeps ..); on_goal 2 => decide)
    | (with_reducible apply Keeps.on (State.mapFromSig_keeps ..); on_goal 2 => decide)
    | (with_reducible apply Keeps.on (State.startProbe_keeps ..); on_goal 2 => decide)
    | fail_if_no_progress (with_reducible apply Keeps.on (keeps_mode ..); on_goal 2 => decide)
    | fail_if_no_progress (with_reducible apply Keeps.on (keeps_pwr ..); on_goal 2 => decide)
    | fail_if_no_progress (with_reducible apply Keeps.on (keeps_brz _ _ ?q); (case q => first | exact id | exact fun _ => Nat.zero_le _); on_goal 2 => decide)
    | fail_if_no_progress (with_reducible apply Keeps.on (keeps_errSeq ..); on_goal 2 => decide)
    | fail_if_no_progress (with_reducible apply Keeps.on (keeps_ao _ _ ?q); (case q => exact rfl); on_goal 2 => decide)
    | fail_if_no_progress (with_reducible apply Keeps.on (keeps_aoAll ..); on_goal 2 => decide)
    | fail_if_no_progress refine Keeps.upd ?_ (Or.inl rfl)

theorem State.startCold_keeps (s : State) : Keeps 0x10e800072 s (State.startCold s) := by
  unfold State.startCold
  repeat' first
    | with_reducible exact Keeps.rfl'
    | (with_reducible apply Keeps.on (State.coreUp_keeps ..); on_goal 2 => decide)
    | (with_reducible apply Keeps.on (State.initAo_keeps ..); on_goal 2 => decide)

theorem State.startResume_keeps (s : State) : Keeps 0x18000230 s (State.startResume s) := by
  unfold State.startResume
  repeat' first
    | with_reducible exact Keeps.rfl'
    | with_reducible assumption
    | (extract_lets +onlyGivenNames x; guard_hyp x : State := _; refine Keeps.letv (x := x) ?_ (fun hx => ?_); (on_goal 1 => (unfold x; clear x)); (on_goal 2 => ((try clear_value x); rename' x => y)))
    | (extract_lets +onlyGivenNames x; rename' x => z)
    | with_reducible refine Keeps.ite (fun hc => ?_) (fun hc => ?_)
    | (with_reducible apply Keeps.on (State.beginBringup_keeps ..); on_goal 2 => decide)
    | fail_if_no_progress (with_reducible apply Keeps.on (keeps_mode ..); on_goal 2 => decide)
    | fail_if_no_progress (with_reducible apply Keeps.on (keeps_pins ..); on_goal 2 => decide)
    | fail_if_no_progress (with_reducible apply Keeps.on (keeps_pwr ..); on_goal 2 => decide)
    | fail_if_no_progress (with_reducible apply Keeps.on (keeps_pwrPins ..); on_goal 2 => decide)
    | fail_if_no_progress refine Keeps.upd ?_ (Or.inl rfl)

theorem State.mainPgFall_keeps (s : State) : Keeps 0x2773eaf227c s (State.mainPgFall s) := by
  unfold State.mainPgFall
  repeat' first
    | with_reducible exact Keeps.rfl'
    | with_reducible assumption
    | (extract_lets +onlyGivenNames x; guard_hyp x : State := _; refine Keeps.letv (x := x) ?_ (fun hx => ?_); (on_goal 1 => (unfold x; clear x)); (on_goal 2 => ((try clear_value x); rename' x => y)))
    | (extract_lets +onlyGivenNames x; rename' x => z)
    | with_reducible refine Keeps.ite (fun hc => ?_) (fun hc => ?_)
    | (with_reducible apply Keeps.on (State.enterHoldUp_keeps ..); on_goal 2 => decide)
    | fail_if_no_progress (with_reducible apply Keeps.on (keeps_mode ..); on_goal 2 => decide)
    | fail_if_no_progress (with_reducible apply Keeps.on (keeps_pins ..); on_goal 2 => decide)
    | fail_if_no_progress (with_reducible apply Keeps.on (keeps_errSeq ..); on_goal 2 => decide)
    | fail_if_no_progress (with_reducible apply Keeps.on (keeps_ao _ _ ?q); (case q => exact rfl); on_goal 2 => decide)
    | fail_if_no_progress (with_reducible apply Keeps.on (keeps_aoAll ..); on_goal 2 => decide)
    | fail_if_no_progress (with_reducible apply Keeps.on (keeps_squall _ _ ?q ?r); (case q => exact rfl); (case r => exact rfl); on_goal 2 => decide)
    | fail_if_no_progress (with_reducible apply Keeps.on (keeps_squallAll _ _ ?q); (case q => first | exact id | exact fun _ => Nat.zero_le _); on_goal 2 => decide)
    | split
    | (clear_value *; split)
    | fail_if_no_progress refine Keeps.upd ?_ (Or.inl rfl)

theorem State.mainPgRise_keeps (s : State) : Keeps 0x11e800272 s (State.mainPgRise s) := by
  unfold State.mainPgRise
  repeat' first
    | with_reducible exact Keeps.rfl'
    | with_reducible assumption
    | (extract_lets +onlyGivenNames x; guard_hyp x : State := _; refine Keeps.letv (x := x) ?_ (fun hx => ?_); (on_goal 1 => (unfold x; clear x)); (on_goal 2 => ((try clear_value x); rename' x => y)))
    | (extract_lets +onlyGivenNames x; rename' x => z)
    | with_reducible refine Keeps.ite (fun hc => ?_) (fun hc => ?_)
    | (with_reducible apply Keeps.on (State.startResume_keeps ..); on_goal 2 => decide)
    | (with_reducible apply Keeps.on (State.startCold_keeps ..); on_goal 2 => decide)
    | fail_if_no_progress (with_reducible apply Keeps.on (keeps_pins ..); on_goal 2 => decide)
    | fail_if_no_progress (with_reducible apply Keeps.on (keeps_squall _ _ ?q ?r); (case q => exact rfl); (case r => exact rfl); on_goal 2 => decide)
    | fail_if_no_progress (with_reducible apply Keeps.on (keeps_squallAll _ _ ?q); (case q => first | exact id | exact fun _ => Nat.zero_le _); on_goal 2 => decide)
    | split
    | (clear_value *; split)
    | fail_if_no_progress refine Keeps.upd ?_ (Or.inl rfl)

theorem State.refclkSeen_keeps (s : State) : Keeps 0x11e800272 s (State.refclkSeen s) := by
  unfold State.refclkSeen
  repeat' first
    | with_reducible exact Keeps.rfl'
    | with_reducible assumption
    | (extract_lets +onlyGivenNames x; guard_hyp x : State := _; refine Keeps.letv (x := x) ?_ (fun hx => ?_); (on_goal 1 => (unfold x; clear x)); (on_goal 2 => ((try clear_value x); rename' x => y)))
    | (extract_lets +onlyGivenNames x; rename' x => z)
    | with_reducible refine Keeps.ite (fun hc => ?_) (fun hc => ?_)
    | (with_reducible apply Keeps.on (State.beginBringup_keeps ..); on_goal 2 => decide)
    | (with_reducible apply Keeps.on (State.coreUp_keeps ..); on_goal 2 => decide)
    | (with_reducible apply Keeps.on (State.initAo_keeps ..); on_goal 2 => decide)

theorem State.settleWarm_keeps (s : State) : Keeps 0x20010010000 s (State.settleWarm s) := by
  unfold State.settleWarm
  refine Keeps.ite (fun _ => ?_) fun _ => Keeps.rfl'
  refine ⟨fun p hp => ?_, fun i => ⟨i.mem, i.seq, i.replies, reqsOk_nil, i.unack, i.squall, i.fill⟩⟩
  cases p <;> first | exact absurd hp (by decide) | rfl | exact ⟨rfl, rfl⟩

theorem State.leaveReq_keeps (s : State) (r) : Keeps 0x20800038200 s (State.leaveReq s r) := by
  unfold State.leaveReq
  repeat' first
    | with_reducible exact Keeps.rfl'
    | with_reducible assumption
    | (extract_lets +onlyGivenNames x; guard_hyp x : State := _; refine Keeps.letv (x := x) ?_ (fun hx => ?_); (on_goal 1 => (unfold x; clear x)); (on_goal 2 => ((try clear_value x); rename' x => y)))
    | (extract_lets +onlyGivenNames x; rename' x => z)
    | with_reducible refine Keeps.ite (fun hc => ?_) (fun hc => ?_)
    | (with_reducible apply Keeps.on (State.discardReq_keeps ..); on_goal 2 => decide)
    | (with_reducible apply Keeps.on (State.ackDrain_keeps ..); on_goal 2 => decide)
    | (with_reducible apply Keeps.on (State.dropReq_keeps ..); on_goal 2 => decide)
    | split

theorem State.requestsDone_keeps (s : State) : Keeps 0x20810038200 s (State.requestsDone s) := by
  unfold State.requestsDone
  repeat' first
    | with_reducible exact Keeps.rfl'
    | with_reducible assumption
    | (extract_lets +onlyGivenNames x; guard_hyp x : State := _; refine Keeps.letv (x := x) ?_ (fun hx => ?_); (on_goal 1 => (unfold x; clear x)); (on_goal 2 => ((try clear_value x); rename' x => y)))
    | (extract_lets +onlyGivenNames x; rename' x => z)
    | with_reducible refine Keeps.ite (fun hc => ?_) (fun hc => ?_)
    | (with_reducible apply Keeps.on (State.leaveReq_keeps ..); on_goal 2 => decide)
    | fail_if_no_progress (with_reducible apply Keeps.on (keeps_squall _ _ ?q ?r); (case q => exact rfl); (case r => exact rfl); on_goal 2 => decide)
    | fail_if_no_progress (with_reducible apply Keeps.on (keeps_squallAll _ _ ?q); (case q => first | exact id | exact fun _ => Nat.zero_le _); on_goal 2 => decide)
    | with_reducible refine Keeps.foldl ?_ (fun s a => ?_)

theorem State.retainSlice_keeps (s : State) (c) : Keeps 0x10010800004 s (State.retainSlice s c) := by
  unfold State.retainSlice
  repeat' first
    | with_reducible exact Keeps.rfl'
    | with_reducible assumption
    | (extract_lets +onlyGivenNames x; guard_hyp x : State := _; refine Keeps.letv (x := x) ?_ (fun hx => ?_); (on_goal 1 => (unfold x; clear x)); (on_goal 2 => ((try clear_value x); rename' x => y)))
    | (extract_lets +onlyGivenNames x; rename' x => z)
    | with_reducible refine Keeps.ite (fun hc => ?_) (fun hc => ?_)
    | (with_reducible apply Keeps.on (State.drainNow_keeps ..); on_goal 2 => decide)
    | (with_reducible apply Keeps.on (State.loseContents_keeps ..); on_goal 2 => decide)
    | (with_reducible apply Keeps.on (State.modSlice_keeps ..); on_goal 2 => decide)
    | fail_if_no_progress (with_reducible apply Keeps.on (keeps_squall _ _ ?q ?r); (case q => exact rfl); (case r => exact rfl); on_goal 2 => decide)
    | fail_if_no_progress (with_reducible apply Keeps.on (keeps_squallAll _ _ ?q); (case q => first | exact id | exact fun _ => Nat.zero_le _); on_goal 2 => decide)

theorem State.loseRest_keeps (s : State) : Keeps 0x10000800004 s (State.loseRest s) := by
  unfold State.loseRest
  repeat' first
    | with_reducible exact Keeps.rfl'
    | with_reducible assumption
    | with_reducible refine Keeps.ite (fun hc => ?_) (fun hc => ?_)
    | (with_reducible apply Keeps.on (State.loseContents_keeps ..); on_goal 2 => decide)
    | with_reducible refine Keeps.foldl ?_ (fun s a => ?_)

theorem State.enterRetention_keeps (s : State) : Keeps 0x3ff1bfffff4 s (State.enterRetention s) := by
  unfold State.enterRetention
  repeat' first
    | with_reducible exact Keeps.rfl'
    | with_reducible assumption
    | (extract_lets +onlyGivenNames x; guard_hyp x : State := _; refine Keeps.letv (x := x) ?_ (fun hx => ?_); (on_goal 1 => (unfold x; clear x)); (on_goal 2 => ((try clear_value x); rename' x => y)))
    | (extract_lets +onlyGivenNames x; rename' x => z)
    | with_reducible refine Keeps.ite (fun hc => ?_) (fun hc => ?_)
    | (with_reducible apply Keeps.on (State.coreReset_keeps ..); on_goal 2 => decide)
    | (with_reducible apply Keeps.on (State.loseRest_keeps ..); on_goal 2 => decide)
    | (with_reducible apply Keeps.on (State.startResume_keeps ..); on_goal 2 => decide)
    | fail_if_no_progress (with_reducible apply Keeps.on (keeps_mode ..); on_goal 2 => decide)
    | fail_if_no_progress (with_reducible apply Keeps.on (keeps_brz _ _ ?q); (case q => first | exact id | exact fun _ => Nat.zero_le _); on_goal 2 => decide)
    | fail_if_no_progress (with_reducible apply Keeps.on (keeps_errSeq ..); on_goal 2 => decide)
    | fail_if_no_progress (with_reducible apply Keeps.on (keeps_ao _ _ ?q); (case q => exact rfl); on_goal 2 => decide)
    | fail_if_no_progress (with_reducible apply Keeps.on (keeps_aoAll ..); on_goal 2 => decide)
    | fail_if_no_progress (with_reducible apply Keeps.on (keeps_squall _ _ ?q ?r); (case q => exact rfl); (case r => exact rfl); on_goal 2 => decide)
    | fail_if_no_progress (with_reducible apply Keeps.on (keeps_squallAll _ _ ?q); (case q => first | exact id | exact fun _ => Nat.zero_le _); on_goal 2 => decide)
    | fail_if_no_progress refine Keeps.upd ?_ (Or.inl rfl)

theorem State.squallDone_keeps (s : State) : Keeps 0x3ff1ffffff6 s (State.squallDone s) := by
  unfold State.squallDone
  repeat' first
    | with_reducible exact Keeps.rfl'
    | with_reducible refine Keeps.ite (fun hc => ?_) (fun hc => ?_)
    | (with_reducible apply Keeps.on (State.warmBringup_keeps ..); on_goal 2 => decide)
    | (with_reducible apply Keeps.on (State.enterRetention_keeps ..); on_goal 2 => decide)

theorem State.coldReset_keeps (s : State) : Keeps 0x2ff39fffff2 s (State.coldReset s) := by
  unfold State.coldReset
  extract_lets t
  have ht : Keeps 0x2ff39fffff2 s t := (State.coldState_keeps ..).mono (by decide)
  clear_value t
  refine ht.trans ?_
  refine ⟨fun p hp => ?_, fun i => ⟨i.mem, i.seq, Nat.zero_le _, i.reqs, i.unack, i.squall, i.fill⟩⟩
  cases p <;> first | exact absurd hp (by decide) | rfl | exact ⟨rfl, rfl⟩

theorem State.coldRise_keeps (s : State) : Keeps 0x10e800072 s (State.coldRise s) := by
  unfold State.coldRise
  repeat' first
    | with_reducible exact Keeps.rfl'
    | with_reducible assumption
    | (extract_lets +onlyGivenNames x; guard_hyp x : State := _; refine Keeps.letv (x := x) ?_ (fun hx => ?_); (on_goal 1 => (unfold x; clear x)); (on_goal 2 => ((try clear_value x); rename' x => y)))
    | (extract_lets +onlyGivenNames x; rename' x => z)
    | with_reducible refine Keeps.ite (fun hc => ?_) (fun hc => ?_)
    | (with_reducible apply Keeps.on (State.startCold_keeps ..); on_goal 2 => decide)
    | fail_if_no_progress (with_reducible apply Keeps.on (keeps_pins ..); on_goal 2 => decide)

theorem State.keepFailed_keeps (old s : State) : Keeps 0x800000 s (State.keepFailed old s) := by
  unfold State.keepFailed
  refine Keeps.foldl Keeps.rfl' fun s c => ?_
  extract_lets x
  exact Keeps.ite (fun _ => (State.modTrain_keeps ..).mono (by decide)) fun _ => Keeps.ite (fun _ => (State.modTrain_keeps ..).mono (by decide)) fun _ => Keeps.rfl'

theorem State.leaveDiag_keeps (s : State) : Keeps 0x3ff1ffffff6 s (State.leaveDiag s) := by
  unfold State.leaveDiag
  repeat' first
    | with_reducible exact Keeps.rfl'
    | (with_reducible apply Keeps.on (State.keepFailed_keeps ..); on_goal 2 => decide)
    | (with_reducible apply Keeps.on (State.warmBringup_keeps ..); on_goal 2 => decide)
    | (with_reducible apply Keeps.on (State.dbgStop_keeps ..); on_goal 2 => decide)
    | (with_reducible apply Keeps.on (State.endCommands_keeps ..); on_goal 2 => decide)

theorem State.warmReset_keeps (s : State) : Keeps 0x3ff3ffffffe s (State.warmReset s) := by
  unfold State.warmReset
  repeat' first
    | with_reducible exact Keeps.rfl'
    | with_reducible assumption
    | (extract_lets +onlyGivenNames x; guard_hyp x : State := _; refine Keeps.letv (x := x) ?_ (fun hx => ?_); (on_goal 1 => (unfold x; clear x)); (on_goal 2 => ((try clear_value x); rename' x => y)))
    | (extract_lets +onlyGivenNames x; rename' x => z)
    | with_reducible refine Keeps.ite (fun hc => ?_) (fun hc => ?_)
    | (with_reducible apply Keeps.on (State.warmBringup_keeps ..); on_goal 2 => decide)
    | (with_reducible apply Keeps.on (State.dbgStop_keeps ..); on_goal 2 => decide)
    | (with_reducible apply Keeps.on (State.endCommands_keeps ..); on_goal 2 => decide)
    | (with_reducible apply Keeps.on (State.leaveDiag_keeps ..); on_goal 2 => decide)
    | (with_reducible apply Keeps.on (State.wakeBy_keeps ..); on_goal 2 => decide)
    | (with_reducible apply Keeps.on (State.startWarm_keeps ..); on_goal 2 => decide)
    | fail_if_no_progress (with_reducible apply Keeps.on (keeps_pwr ..); on_goal 2 => decide)
    | split

theorem State.warmLimit_keeps (s : State) : Keeps 0x20e340f820c s (State.warmLimit s) := by
  unfold State.warmLimit
  repeat' first
    | with_reducible exact Keeps.rfl'
    | with_reducible assumption
    | (extract_lets +onlyGivenNames x; guard_hyp x : State := _; refine Keeps.letv (x := x) ?_ (fun hx => ?_); (on_goal 1 => (unfold x; clear x)); (on_goal 2 => ((try clear_value x); rename' x => y)))
    | (extract_lets +onlyGivenNames x; rename' x => z)
    | with_reducible refine Keeps.ite (fun hc => ?_) (fun hc => ?_)
    | (with_reducible apply Keeps.on (State.mapReqs_keeps _ _ ?q); (case q => (intro r; (try split) <;> with_unfolding_all rfl)); on_goal 2 => decide)
    | (with_reducible apply Keeps.on (State.leaveReq_keeps ..); on_goal 2 => decide)
    | (with_reducible apply Keeps.on (State.warmFreeze_keeps ..); on_goal 2 => decide)
    | with_reducible refine Keeps.foldl ?_ (fun s a => ?_)

theorem State.logSections_keeps (s : State) (p) : Keeps 0x234080204 s (State.logSections s p) := by
  unfold State.logSections
  repeat' first
    | with_reducible exact Keeps.rfl'
    | with_reducible assumption
    | (with_reducible apply Keeps.on (State.logError_keeps ..); on_goal 2 => decide)
    | with_reducible refine Keeps.foldl ?_ (fun s a => ?_)

theorem State.putRecord_keeps (s : State) (x) : Keeps 0x100000040 s (State.putRecord s x) := by
  unfold State.putRecord
  repeat' first
    | with_reducible exact Keeps.rfl'
    | with_reducible assumption
    | (extract_lets +onlyGivenNames x; guard_hyp x : State := _; refine Keeps.letv (x := x) ?_ (fun hx => ?_); (on_goal 1 => (unfold x; clear x)); (on_goal 2 => ((try clear_value x); rename' x => y)))
    | (extract_lets +onlyGivenNames x; rename' x => z)
    | with_reducible refine Keeps.ite (fun hc => ?_) (fun hc => ?_)
    | fail_if_no_progress (with_reducible apply Keeps.on (keeps_brz _ _ ?q); (case q => (intro h; (repeat' split) <;> exact h)); on_goal 2 => decide)
    | (with_reducible apply Keeps.on (State.store_keeps ..); on_goal 2 => decide)
    | fail_if_no_progress (with_reducible apply Keeps.on (keeps_brz _ _ ?q); (case q => first | exact id | exact fun _ => Nat.zero_le _); on_goal 2 => decide)
    | split
    | (clear_value *; split)

theorem State.setLock_keeps (s : State) : Keeps 0x1040 s (State.setLock s) := by
  unfold State.setLock
  repeat' first
    | with_reducible exact Keeps.rfl'
    | with_reducible assumption
    | (extract_lets +onlyGivenNames x; guard_hyp x : State := _; refine Keeps.letv (x := x) ?_ (fun hx => ?_); (on_goal 1 => (unfold x; clear x)); (on_goal 2 => ((try clear_value x); rename' x => y)))
    | (extract_lets +onlyGivenNames x; rename' x => z)
    | (with_reducible apply Keeps.on (State.store_keeps ..); on_goal 2 => decide)
    | fail_if_no_progress (with_reducible apply Keeps.on (keeps_regLock ..); on_goal 2 => decide)

theorem State.restoreRegs_keeps (s : State) (k) : Keeps 0x100001040 s (State.restoreRegs s k) := by
  unfold State.restoreRegs
  repeat' first
    | with_reducible exact Keeps.rfl'
    | with_reducible assumption
    | (extract_lets +onlyGivenNames x; guard_hyp x : State := _; refine Keeps.letv (x := x) ?_ (fun hx => ?_); (on_goal 1 => (unfold x; clear x)); (on_goal 2 => ((try clear_value x); rename' x => y)))
    | (extract_lets +onlyGivenNames x; rename' x => z)
    | with_reducible refine Keeps.ite (fun hc => ?_) (fun hc => ?_)
    | (with_reducible apply Keeps.on (State.putRecord_keeps ..); on_goal 2 => decide)
    | (with_reducible apply Keeps.on (State.setLock_keeps ..); on_goal 2 => decide)
    | with_reducible refine Keeps.foldl ?_ (fun s a => ?_)

theorem State.noteBoot_keeps (s : State) : Keeps 0x400 s (State.noteBoot s) := by
  unfold State.noteBoot
  repeat' first
    | with_reducible exact Keeps.rfl'
    | with_reducible assumption
    | (extract_lets +onlyGivenNames x; guard_hyp x : State := _; refine Keeps.letv (x := x) ?_ (fun hx => ?_); (on_goal 1 => (unfold x; clear x)); (on_goal 2 => ((try clear_value x); rename' x => y)))
    | (extract_lets +onlyGivenNames x; rename' x => z)
    | fail_if_no_progress (with_reducible apply Keeps.on (keeps_regBoot ..); on_goal 2 => decide)

theorem State.restoreSlots_keeps (s : State) (k) : Keeps 0x1000000000 s (State.restoreSlots s k) := by
  unfold State.restoreSlots
  repeat' first
    | with_reducible exact Keeps.rfl'
    | with_reducible assumption
    | (extract_lets +onlyGivenNames x; guard_hyp x : State := _; refine Keeps.letv (x := x) ?_ (fun hx => ?_); (on_goal 1 => (unfold x; clear x)); (on_goal 2 => ((try clear_value x); rename' x => y)))
    | (extract_lets +onlyGivenNames x; rename' x => z)
    | with_reducible refine Keeps.ite (fun hc => ?_) (fun hc => ?_)
    | fail_if_no_progress (with_reducible apply Keeps.on (keeps_sec ..); on_goal 2 => decide)
    | with_reducible refine Keeps.foldl ?_ (fun s a => ?_)

theorem State.restorePatch_keeps (s : State) (p) : Keeps 0x1000000010 s (State.restorePatch s p) := by
  unfold State.restorePatch
  repeat' first
    | with_reducible exact Keeps.rfl'
    | with_reducible assumption
    | (extract_lets +onlyGivenNames x; guard_hyp x : State := _; refine Keeps.letv (x := x) ?_ (fun hx => ?_); (on_goal 1 => (unfold x; clear x)); (on_goal 2 => ((try clear_value x); rename' x => y)))
    | (extract_lets +onlyGivenNames x; rename' x => z)
    | with_reducible refine Keeps.ite (fun hc => ?_) (fun hc => ?_)
    | fail_if_no_progress (with_reducible apply Keeps.on (keeps_mode ..); on_goal 2 => decide)
    | fail_if_no_progress (with_reducible apply Keeps.on (keeps_sec ..); on_goal 2 => decide)
    | split
    | (clear_value *; split)
    | fail_if_no_progress refine Keeps.upd ?_ (Or.inl rfl)

theorem State.setRole_keeps (s : State) (c) (r) : Keeps 0x800000 s (State.setRole s c r) := by
  unfold State.setRole
  repeat' first
    | with_reducible exact Keeps.rfl'
    | with_reducible assumption
    | (extract_lets +onlyGivenNames x; guard_hyp x : State := _; refine Keeps.letv (x := x) ?_ (fun hx => ?_); (on_goal 1 => (unfold x; clear x)); (on_goal 2 => ((try clear_value x); rename' x => y)))
    | (extract_lets +onlyGivenNames x; rename' x => z)
    | (with_reducible apply Keeps.on (State.modHealth_keeps ..); on_goal 2 => decide)

theorem State.placeAt_keeps (s : State) (c) (g) (m) : Keeps 0x800000 s (State.placeAt s c g m) := by
  unfold State.placeAt
  repeat' first
    | with_reducible exact Keeps.rfl'
    | with_reducible assumption
    | (extract_lets +onlyGivenNames x; guard_hyp x : State := _; refine Keeps.letv (x := x) ?_ (fun hx => ?_); (on_goal 1 => (unfold x; clear x)); (on_goal 2 => ((try clear_value x); rename' x => y)))
    | (extract_lets +onlyGivenNames x; rename' x => z)
    | (with_reducible apply Keeps.on (State.modHealth_keeps ..); on_goal 2 => decide)

theorem State.firstMembers_keeps (s : State) : Keeps 0x1800000 s (State.firstMembers s) := by
  unfold State.firstMembers
  repeat' first
    | with_reducible exact Keeps.rfl'
    | with_reducible assumption
    | (extract_lets +onlyGivenNames x; guard_hyp x : State := _; refine Keeps.letv (x := x) ?_ (fun hx => ?_); (on_goal 1 => (unfold x; clear x)); (on_goal 2 => ((try clear_value x); rename' x => y)))
    | (extract_lets +onlyGivenNames x; rename' x => z)
    | with_reducible refine Keeps.ite (fun hc => ?_) (fun hc => ?_)
    | (with_reducible apply Keeps.on (State.modHealth_keeps ..); on_goal 2 => decide)
    | (with_reducible apply Keeps.on (State.setRole_keeps ..); on_goal 2 => decide)
    | (with_reducible apply Keeps.on (State.placeAt_keeps ..); on_goal 2 => decide)
    | fail_if_no_progress (with_reducible apply Keeps.on (keeps_spr ..); on_goal 2 => decide)
    | with_reducible refine Keeps.foldl ?_ (fun s a => ?_)

theorem State.recordedMembers_keeps (s : State) (k) : Keeps 0x3800000 s (State.recordedMembers s k) := by
  unfold State.recordedMembers
  repeat' first
    | with_reducible exact Keeps.rfl'
    | with_reducible assumption
    | (extract_lets +onlyGivenNames x; guard_hyp x : State := _; refine Keeps.letv (x := x) ?_ (fun hx => ?_); (on_goal 1 => (unfold x; clear x)); (on_goal 2 => ((try clear_value x); rename' x => y)))
    | (extract_lets +onlyGivenNames x; rename' x => z)
    | with_reducible refine Keeps.ite (fun hc => ?_) (fun hc => ?_)
    | (with_reducible apply Keeps.on (State.setRole_keeps ..); on_goal 2 => decide)
    | (with_reducible apply Keeps.on (State.placeAt_keeps ..); on_goal 2 => decide)
    | fail_if_no_progress (with_reducible apply Keeps.on (keeps_spr ..); on_goal 2 => decide)
    | fail_if_no_progress (with_reducible apply Keeps.on (keeps_errSeq ..); on_goal 2 => decide)
    | fail_if_no_progress (with_reducible apply Keeps.on (keeps_ao _ _ ?q); (case q => exact rfl); on_goal 2 => decide)
    | fail_if_no_progress (with_reducible apply Keeps.on (keeps_aoAll ..); on_goal 2 => decide)
    | with_reducible refine Keeps.foldl ?_ (fun s a => ?_)
    | split
    | (clear_value *; split)
    | fail_if_no_progress refine Keeps.upd ?_ (Or.inl rfl)

theorem State.missedSwap_keeps (s : State) (g) (m) : Keeps 0x235b80204 s (State.missedSwap s g m) := by
  unfold State.missedSwap
  repeat' first
    | with_reducible exact Keeps.rfl'
    | with_reducible assumption
    | (extract_lets +onlyGivenNames x; guard_hyp x : State := _; refine Keeps.letv (x := x) ?_ (fun hx => ?_); (on_goal 1 => (unfold x; clear x)); (on_goal 2 => ((try clear_value x); rename' x => y)))
    | (extract_lets +onlyGivenNames x; rename' x => z)
    | with_reducible refine Keeps.ite (fun hc => ?_) (fun hc => ?_)
    | (with_reducible apply Keeps.on (State.memberFails_keeps ..); on_goal 2 => decide)
    | (with_reducible apply Keeps.on (State.setFence_keeps ..); on_goal 2 => decide)
    | (with_reducible apply Keeps.on (State.setRole_keeps ..); on_goal 2 => decide)

theorem State.checkRoster_keeps (s : State) (recorded) : Keeps 0x235b80204 s (State.checkRoster s recorded) := by
  unfold State.checkRoster
  repeat' first
    | with_reducible exact Keeps.rfl'
    | with_reducible assumption
    | with_reducible refine Keeps.ite (fun hc => ?_) (fun hc => ?_)
    | (with_reducible apply Keeps.on (State.missedSwap_keeps ..); on_goal 2 => decide)
    | with_reducible refine Keeps.foldl ?_ (fun s a => ?_)

theorem State.signedMember_keeps (s : State) (g) (m) : Keeps 0x1800000 s (State.signedMember s g m) := by
  unfold State.signedMember
  repeat' first
    | with_reducible exact Keeps.rfl'
    | with_reducible assumption
    | (extract_lets +onlyGivenNames x; guard_hyp x : State := _; refine Keeps.letv (x := x) ?_ (fun hx => ?_); (on_goal 1 => (unfold x; clear x)); (on_goal 2 => ((try clear_value x); rename' x => y)))
    | (extract_lets +onlyGivenNames x; rename' x => z)
    | with_reducible refine Keeps.ite (fun hc => ?_) (fun hc => ?_)
    | (with_reducible apply Keeps.on (State.setMember_keeps ..); on_goal 2 => decide)
    | (with_reducible apply Keeps.on (State.placeAt_keeps ..); on_goal 2 => decide)
    | (with_reducible apply Keeps.on (State.setRole_keeps ..); on_goal 2 => decide)
    | (with_reducible apply Keeps.on (State.queueRly_keeps ..); on_goal 2 => decide)
    | split
    | (clear_value *; split)

theorem State.signedMembers_keeps (s : State) : Keeps 0x235b80204 s (State.signedMembers s) := by
  unfold State.signedMembers
  repeat' first
    | with_reducible exact Keeps.rfl'
    | with_reducible assumption
    | (extract_lets +onlyGivenNames x; guard_hyp x : State := _; refine Keeps.letv (x := x) ?_ (fun hx => ?_); (on_goal 1 => (unfold x; clear x)); (on_goal 2 => ((try clear_value x); rename' x => y)))
    | (extract_lets +onlyGivenNames x; rename' x => z)
    | with_reducible refine Keeps.ite (fun hc => ?_) (fun hc => ?_)
    | (with_reducible apply Keeps.on (State.modHealth_keeps ..); on_goal 2 => decide)
    | (with_reducible apply Keeps.on (State.setRole_keeps ..); on_goal 2 => decide)
    | (with_reducible apply Keeps.on (State.signedMember_keeps ..); on_goal 2 => decide)
    | (with_reducible apply Keeps.on (State.missedSwap_keeps ..); on_goal 2 => decide)
    | fail_if_no_progress (with_reducible apply Keeps.on (keeps_spr ..); on_goal 2 => decide)
    | with_reducible refine Keeps.foldl ?_ (fun s a => ?_)

theorem State.logTrain_keeps (s : State) (c) : Keeps 0x234080204 s (State.logTrain s c) := by
  unfold State.logTrain
  repeat' first
    | with_reducible exact Keeps.rfl'
    | with_reducible assumption
    | (extract_lets +onlyGivenNames x; guard_hyp x : State := _; refine Keeps.letv (x := x) ?_ (fun hx => ?_); (on_goal 1 => (unfold x; clear x)); (on_goal 2 => ((try clear_value x); rename' x => y)))
    | (extract_lets +onlyGivenNames x; rename' x => z)
    | (with_reducible apply Keeps.on (State.logError_keeps ..); on_goal 2 => decide)

theorem State.notReady_keeps (s : State) (c) : Keeps 0x235f90214 s (State.notReady s c) := by
  unfold State.notReady
  repeat' first
    | with_reducible exact Keeps.rfl'
    | with_reducible assumption
    | (extract_lets +onlyGivenNames x; guard_hyp x : State := _; refine Keeps.letv (x := x) ?_ (fun hx => ?_); (on_goal 1 => (unfold x; clear x)); (on_goal 2 => ((try clear_value x); rename' x => y)))
    | (extract_lets +onlyGivenNames x; rename' x => z)
    | with_reducible refine Keeps.ite (fun hc => ?_) (fun hc => ?_)
    | (with_reducible apply Keeps.on (State.declareFailed_keeps ..); on_goal 2 => decide)
    | (with_reducible apply Keeps.on (State.logTrain_keeps ..); on_goal 2 => decide)
    | (with_reducible apply Keeps.on (State.memberFails_keeps ..); on_goal 2 => decide)
    | (with_reducible apply Keeps.on (State.setRole_keeps ..); on_goal 2 => decide)
    | split
    | (clear_value *; split)

theorem State.askAgain_keeps (s : State) (g) (m) : Keeps 0x1a00200 s (State.askAgain s g m) := by
  unfold State.askAgain
  repeat' first
    | with_reducible exact Keeps.rfl'
    | with_reducible assumption
    | (extract_lets +onlyGivenNames x; guard_hyp x : State := _; refine Keeps.letv (x := x) ?_ (fun hx => ?_); (on_goal 1 => (unfold x; clear x)); (on_goal 2 => ((try clear_value x); rename' x => y)))
    | (extract_lets +onlyGivenNames x; rename' x => z)
    | with_reducible refine Keeps.ite (fun hc => ?_) (fun hc => ?_)
    | (with_reducible apply Keeps.on (State.rejoin_keeps ..); on_goal 2 => decide)
    | (with_reducible apply Keeps.on (State.setFence_keeps ..); on_goal 2 => decide)
    | (with_reducible apply Keeps.on (State.requestSpare_keeps ..); on_goal 2 => decide)

theorem State.fenceRoles_keeps (s : State) : Keeps 0x200000 s (State.fenceRoles s) := by
  unfold State.fenceRoles
  repeat' first
    | with_reducible exact Keeps.rfl'
    | with_reducible assumption
    | with_reducible refine Keeps.ite (fun hc => ?_) (fun hc => ?_)
    | (with_reducible apply Keeps.on (State.setFence_keeps ..); on_goal 2 => decide)
    | with_reducible refine Keeps.foldl ?_ (fun s a => ?_)

theorem State.restoreMembers_keeps (s : State) (p) : Keeps 0x237f90214 s (State.restoreMembers s p) := by
  unfold State.restoreMembers
  repeat' first
    | with_reducible exact Keeps.rfl'
    | with_reducible assumption
    | (extract_lets +onlyGivenNames x; guard_hyp x : State := _; refine Keeps.letv (x := x) ?_ (fun hx => ?_); (on_goal 1 => (unfold x; clear x)); (on_goal 2 => ((try clear_value x); rename' x => y)))
    | (extract_lets +onlyGivenNames x; rename' x => z)
    | (with_reducible apply Keeps.on (State.firstMembers_keeps ..); on_goal 2 => decide)
    | (with_reducible apply Keeps.on (State.signedMembers_keeps ..); on_goal 2 => decide)
    | (with_reducible apply Keeps.on (State.checkRoster_keeps ..); on_goal 2 => decide)
    | (with_reducible apply Keeps.on (State.recordedMembers_keeps ..); on_goal 2 => decide)
    | (with_reducible apply Keeps.on (State.notReady_keeps ..); on_goal 2 => decide)
    | (with_reducible apply Keeps.on (State.fenceRoles_keeps ..); on_goal 2 => decide)
    | (with_reducible apply Keeps.on (State.askAgain_keeps ..); on_goal 2 => decide)
    | (with_reducible apply Keeps.on (State.noteSpareCount_keeps ..); on_goal 2 => decide)
    | (with_reducible apply Keeps.on (State.serveRequests_keeps ..); on_goal 2 => decide)
    | with_reducible refine Keeps.foldl ?_ (fun s a => ?_)
    | split
    | (clear_value *; split)

theorem State.restoreRoutes_keeps (s : State) : Keeps 0x3063fbd022c s (State.restoreRoutes s) := by
  unfold State.restoreRoutes
  repeat' first
    | with_reducible exact Keeps.rfl'
    | with_reducible assumption
    | (extract_lets +onlyGivenNames x; guard_hyp x : State := _; refine Keeps.letv (x := x) ?_ (fun hx => ?_); (on_goal 1 => (unfold x; clear x)); (on_goal 2 => ((try clear_value x); rename' x => y)))
    | (extract_lets +onlyGivenNames x; rename' x => z)
    | with_reducible refine Keeps.ite (fun hc => ?_) (fun hc => ?_)
    | (with_reducible apply Keeps.on (State.modHub_keeps ..); on_goal 2 => decide)
    | (with_reducible apply Keeps.on (State.stageRoute_keeps ..); on_goal 2 => decide)
    | (with_reducible apply Keeps.on (State.swapEpoch_keeps ..); on_goal 2 => decide)
    | with_reducible refine Keeps.foldl ?_ (fun s a => ?_)
    | split
    | (clear_value *; split)

theorem State.restoreLedger_keeps (s : State) (p) : Keeps 0xc0200 s (State.restoreLedger s p) := by
  unfold State.restoreLedger
  have key : ∀ (e : BitVec 3) (l : Ledger), Keeps 0xc0200 s (({ s with ledger := l }).raiseIf (e != 0) (pageLdg 0) 2) :=
    fun e l => (State.raiseIf_keeps ..).on ((keeps_ledgerAll s l).mono (by decide)) (by decide)
  exact key _ _

theorem State.giveUpStrips_keeps (s : State) (g) (stripe) (l) : Keeps 0x10235980204 s (State.giveUpStrips s g stripe l) := by
  unfold State.giveUpStrips
  repeat' first
    | with_reducible exact Keeps.rfl'
    | with_reducible assumption
    | (extract_lets +onlyGivenNames x; guard_hyp x : State := _; refine Keeps.letv (x := x) ?_ (fun hx => ?_); (on_goal 1 => (unfold x; clear x)); (on_goal 2 => ((try clear_value x); rename' x => y)))
    | (extract_lets +onlyGivenNames x; rename' x => z)
    | with_reducible refine Keeps.ite (fun hc => ?_) (fun hc => ?_)
    | (with_reducible apply Keeps.on (State.putStrips_keeps ..); on_goal 2 => decide)
    | (with_reducible apply Keeps.on (State.logPoison_keeps ..); on_goal 2 => decide)
    | (with_reducible apply Keeps.on (State.recordLoss_keeps ..); on_goal 2 => decide)
    | with_reducible refine Keeps.foldl ?_ (fun s a => ?_)

theorem State.resolveOpen_keeps (s : State) (g) (e) : Keeps 0x10235980204 s (State.resolveOpen s g e) := by
  unfold State.resolveOpen
  repeat' first
    | with_reducible exact Keeps.rfl'
    | with_reducible assumption
    | (extract_lets +onlyGivenNames x; guard_hyp x : State := _; refine Keeps.letv (x := x) ?_ (fun hx => ?_); (on_goal 1 => (unfold x; clear x)); (on_goal 2 => ((try clear_value x); rename' x => y)))
    | (extract_lets +onlyGivenNames x; rename' x => z)
    | with_reducible refine Keeps.ite (fun hc => ?_) (fun hc => ?_)
    | (with_reducible apply Keeps.on (State.reparity_keeps ..); on_goal 2 => decide)
    | (with_reducible apply Keeps.on (State.putStrips_keeps ..); on_goal 2 => decide)
    | (with_reducible apply Keeps.on (State.giveUpStrips_keeps ..); on_goal 2 => decide)
    | split
    | (clear_value *; split)

theorem State.resolveJournals_keeps (s : State) (p) : Keeps 0x10235980204 s (State.resolveJournals s p) := by
  unfold State.resolveJournals
  repeat' first
    | with_reducible exact Keeps.rfl'
    | with_reducible assumption
    | (extract_lets +onlyGivenNames x; guard_hyp x : State := _; refine Keeps.letv (x := x) ?_ (fun hx => ?_); (on_goal 1 => (unfold x; clear x)); (on_goal 2 => ((try clear_value x); rename' x => y)))
    | (extract_lets +onlyGivenNames x; rename' x => z)
    | with_reducible refine Keeps.ite (fun hc => ?_) (fun hc => ?_)
    | (with_reducible apply Keeps.on (State.resolveOpen_keeps ..); on_goal 2 => decide)
    | with_reducible refine Keeps.foldl ?_ (fun s a => ?_)
    | split

theorem State.layVoids_keeps (s : State) (g) (mask) : Keeps 0x10000900000 s (State.layVoids s g mask) := by
  unfold State.layVoids
  extract_lets first
  exact Keeps.ite (fun _ => Keeps.rfl') fun _ => Keeps.on (State.layMap_keeps ..) ((State.modHub_keeps ..).mono (by decide)) (by decide)

theorem State.restoreVoids_keeps (s : State) (p) : Keeps 0x10000900000 s (State.restoreVoids s p) := by
  unfold State.restoreVoids
  repeat' first
    | with_reducible exact Keeps.rfl'
    | with_reducible assumption
    | (extract_lets +onlyGivenNames x; guard_hyp x : State := _; refine Keeps.letv (x := x) ?_ (fun hx => ?_); (on_goal 1 => (unfold x; clear x)); (on_goal 2 => ((try clear_value x); rename' x => y)))
    | (extract_lets +onlyGivenNames x; rename' x => z)
    | with_reducible refine Keeps.ite (fun hc => ?_) (fun hc => ?_)
    | (with_reducible apply Keeps.on (State.layVoids_keeps ..); on_goal 2 => decide)
    | (with_reducible apply Keeps.on (State.modHub_keeps ..); on_goal 2 => decide)
    | with_reducible refine Keeps.foldl ?_ (fun s a => ?_)

theorem State.setLosses_keeps (s : State) (l) (dropped) : Keeps 0x1100000 s (State.setLosses s l dropped) := by
  unfold State.setLosses
  repeat' first
    | with_reducible exact Keeps.rfl'
    | with_reducible assumption
    | (extract_lets +onlyGivenNames x; guard_hyp x : State := _; refine Keeps.letv (x := x) ?_ (fun hx => ?_); (on_goal 1 => (unfold x; clear x)); (on_goal 2 => ((try clear_value x); rename' x => y)))
    | (extract_lets +onlyGivenNames x; rename' x => z)
    | (with_reducible apply Keeps.on (State.modHub_keeps ..); on_goal 2 => decide)
    | fail_if_no_progress (with_reducible apply Keeps.on (keeps_spr ..); on_goal 2 => decide)
    | with_reducible refine Keeps.foldl ?_ (fun s a => ?_)

theorem State.restoreLoss_keeps (s : State) (p) : Keeps 0x1100000 s (State.restoreLoss s p) := by
  unfold State.restoreLoss
  repeat' first
    | with_reducible exact Keeps.rfl'
    | with_reducible assumption
    | (extract_lets +onlyGivenNames x; guard_hyp x : State := _; refine Keeps.letv (x := x) ?_ (fun hx => ?_); (on_goal 1 => (unfold x; clear x)); (on_goal 2 => ((try clear_value x); rename' x => y)))
    | (extract_lets +onlyGivenNames x; rename' x => z)
    | (with_reducible apply Keeps.on (State.setLosses_keeps ..); on_goal 2 => decide)
    | (with_reducible apply Keeps.on (State.modHub_keeps ..); on_goal 2 => decide)
    | with_reducible refine Keeps.foldl ?_ (fun s a => ?_)
    | split
    | (clear_value *; split)

theorem State.restoreRings_keeps (s : State) (p) : Keeps 0x20040 s (State.restoreRings s p) := by
  unfold State.restoreRings
  repeat' first
    | with_reducible exact Keeps.rfl'
    | with_reducible assumption
    | (extract_lets +onlyGivenNames x; guard_hyp x : State := _; refine Keeps.letv (x := x) ?_ (fun hx => ?_); (on_goal 1 => (unfold x; clear x)); (on_goal 2 => ((try clear_value x); rename' x => y)))
    | (extract_lets +onlyGivenNames x; rename' x => z)
    | with_reducible refine Keeps.ite (fun hc => ?_) (fun hc => ?_)
    | (with_reducible apply Keeps.on (State.store_keeps ..); on_goal 2 => decide)
    | (with_reducible apply Keeps.on (State.modIng_keeps ..); on_goal 2 => decide)
    | with_reducible refine Keeps.foldl ?_ (fun s a => ?_)
    | split
    | (clear_value *; split)

theorem State.restoreLog_keeps (s : State) (p) : Keeps 0x200000000 s (State.restoreLog s p) := by
  unfold State.restoreLog
  repeat' first
    | with_reducible exact Keeps.rfl'
    | with_reducible assumption
    | (extract_lets +onlyGivenNames x; guard_hyp x : State := _; refine Keeps.letv (x := x) ?_ (fun hx => ?_); (on_goal 1 => (unfold x; clear x)); (on_goal 2 => ((try clear_value x); rename' x => y)))
    | (extract_lets +onlyGivenNames x; rename' x => z)
    | fail_if_no_progress (with_reducible apply Keeps.on (keeps_err _ _ ?q); (case q => first | exact id | exact fun _ => Nat.zero_le _); on_goal 2 => decide)
    | split

theorem State.shiftTimes_keeps (s : State) (d) : Keeps 0x8900002 s (State.shiftTimes s d) := by
  unfold State.shiftTimes
  repeat' first
    | with_reducible exact Keeps.rfl'
    | with_reducible assumption
    | (extract_lets +onlyGivenNames x; guard_hyp x : State := _; refine Keeps.letv (x := x) ?_ (fun hx => ?_); (on_goal 1 => (unfold x; clear x)); (on_goal 2 => ((try clear_value x); rename' x => y)))
    | (extract_lets +onlyGivenNames x; rename' x => z)
    | fail_if_no_progress (with_reducible apply Keeps.on (keeps_tb ..); on_goal 2 => decide)
    | fail_if_no_progress (with_reducible apply Keeps.on (keeps_hubs ..); on_goal 2 => decide)
    | fail_if_no_progress (with_reducible apply Keeps.on (keeps_slices ..); on_goal 2 => decide)
    | fail_if_no_progress (with_reducible apply Keeps.on (keeps_pwr ..); on_goal 2 => decide)
    | fail_if_no_progress refine Keeps.upd ?_ (Or.inl rfl)

theorem State.restoreTime_keeps (s : State) (p) : Keeps 0x8900002 s (State.restoreTime s p) := by
  unfold State.restoreTime
  repeat' first
    | with_reducible exact Keeps.rfl'
    | with_reducible assumption
    | (extract_lets +onlyGivenNames x; guard_hyp x : State := _; refine Keeps.letv (x := x) ?_ (fun hx => ?_); (on_goal 1 => (unfold x; clear x)); (on_goal 2 => ((try clear_value x); rename' x => y)))
    | (extract_lets +onlyGivenNames x; rename' x => z)
    | with_reducible refine Keeps.ite (fun hc => ?_) (fun hc => ?_)
    | (with_reducible apply Keeps.on (State.shiftTimes_keeps ..); on_goal 2 => decide)
    | split
    | (clear_value *; split)

theorem State.restoreVerify_keeps (s : State) (p) : Keeps 0x100000 s (State.restoreVerify s p) := by
  unfold State.restoreVerify
  repeat' first
    | with_reducible exact Keeps.rfl'
    | with_reducible assumption
    | (extract_lets +onlyGivenNames x; guard_hyp x : State := _; refine Keeps.letv (x := x) ?_ (fun hx => ?_); (on_goal 1 => (unfold x; clear x)); (on_goal 2 => ((try clear_value x); rename' x => y)))
    | (extract_lets +onlyGivenNames x; rename' x => z)
    | with_reducible refine Keeps.ite (fun hc => ?_) (fun hc => ?_)
    | (with_reducible apply Keeps.on (State.modHub_keeps ..); on_goal 2 => decide)
    | with_reducible refine Keeps.foldl ?_ (fun s a => ?_)

theorem State.markConsumed_keeps (s : State) : Keeps 0x100c0800000 s (State.markConsumed s) := by
  have key : ∀ (s : State) b (k : Option KeepCopy), Keeps 0x100c0800000 s (match k with
    | some x => s.layHeader b x.consume
    | none => s) := fun s b k => by
    cases k
    · exact Keeps.rfl'
    · exact (State.layHeader_keeps ..).mono (by decide)
  exact (key _ _ _).trans (key _ _ _)

theorem State.stickBringup_keeps (s : State) (cause) (slice) : Keeps 0x230 s (State.stickBringup s cause slice) := by
  unfold State.stickBringup
  repeat' first
    | with_reducible exact Keeps.rfl'
    | with_reducible assumption
    | (extract_lets +onlyGivenNames x; guard_hyp x : State := _; refine Keeps.letv (x := x) ?_ (fun hx => ?_); (on_goal 1 => (unfold x; clear x)); (on_goal 2 => ((try clear_value x); rename' x => y)))
    | (extract_lets +onlyGivenNames x; rename' x => z)
    | (with_reducible apply Keeps.on (State.raise_keeps ..); on_goal 2 => decide)
    | fail_if_no_progress (with_reducible apply Keeps.on (keeps_mode ..); on_goal 2 => decide)
    | fail_if_no_progress (with_reducible apply Keeps.on (keeps_pins ..); on_goal 2 => decide)
    | fail_if_no_progress refine Keeps.upd ?_ (Or.inl rfl)

theorem State.resetDevices_keeps (s : State) : Keeps 0x100c0900014 s (State.resetDevices s) := by
  unfold State.resetDevices
  repeat' first
    | with_reducible exact Keeps.rfl'
    | with_reducible assumption
    | (extract_lets +onlyGivenNames x; guard_hyp x : State := _; refine Keeps.letv (x := x) ?_ (fun hx => ?_); (on_goal 1 => (unfold x; clear x)); (on_goal 2 => ((try clear_value x); rename' x => y)))
    | (extract_lets +onlyGivenNames x; rename' x => z)
    | (with_reducible apply Keeps.on (State.modSlice_keeps ..); on_goal 2 => decide)
    | (with_reducible apply Keeps.on (State.loseContents_keeps ..); on_goal 2 => decide)
    | (with_reducible apply Keeps.on (State.modHub_keeps ..); on_goal 2 => decide)
    | (with_reducible apply Keeps.on (State.stateAll_keeps ..); on_goal 2 => decide)
    | fail_if_no_progress (with_reducible apply Keeps.on (keeps_mode ..); on_goal 2 => decide)
    | fail_if_no_progress (with_reducible apply Keeps.on (keeps_keepA ..); on_goal 2 => decide)
    | fail_if_no_progress (with_reducible apply Keeps.on (keeps_keepB ..); on_goal 2 => decide)
    | with_reducible refine Keeps.foldl ?_ (fun s a => ?_)
    | fail_if_no_progress refine Keeps.upd ?_ (Or.inl rfl)

theorem State.dropMap_keeps (s : State) : Keeps 0x800040 s (State.dropMap s) := by
  unfold State.dropMap
  repeat' first
    | with_reducible exact Keeps.rfl'
    | (with_reducible apply Keeps.on (State.powerSlices_keeps ..); on_goal 2 => decide)
    | (with_reducible apply Keeps.on (State.store_keeps ..); on_goal 2 => decide)
    | (with_reducible apply Keeps.on (State.stateAll_keeps ..); on_goal 2 => decide)

theorem State.startTraining_keeps (s : State) (l) : Keeps 0x900000 s (State.startTraining s l) := by
  unfold State.startTraining
  repeat' first
    | with_reducible exact Keeps.rfl'
    | with_reducible assumption
    | (extract_lets +onlyGivenNames x; guard_hyp x : State := _; refine Keeps.letv (x := x) ?_ (fun hx => ?_); (on_goal 1 => (unfold x; clear x)); (on_goal 2 => ((try clear_value x); rename' x => y)))
    | (extract_lets +onlyGivenNames x; rename' x => z)
    | (with_reducible apply Keeps.on (State.joinLine_keeps ..); on_goal 2 => decide)
    | (with_reducible apply Keeps.on (State.modTrain_keeps ..); on_goal 2 => decide)
    | with_reducible refine Keeps.foldl ?_ (fun s a => ?_)

theorem State.probed_keeps (s : State) : Keeps 0x100c0900054 s (State.probed s) := by
  unfold State.probed
  repeat' first
    | with_reducible exact Keeps.rfl'
    | with_reducible assumption
    | (extract_lets +onlyGivenNames x; guard_hyp x : State := _; refine Keeps.letv (x := x) ?_ (fun hx => ?_); (on_goal 1 => (unfold x; clear x)); (on_goal 2 => ((try clear_value x); rename' x => y)))
    | (extract_lets +onlyGivenNames x; rename' x => z)
    | with_reducible refine Keeps.ite (fun hc => ?_) (fun hc => ?_)
    | (with_reducible apply Keeps.on (State.startTraining_keeps ..); on_goal 2 => decide)
    | (with_reducible apply Keeps.on (State.resetDevices_keeps ..); on_goal 2 => decide)
    | (with_reducible apply Keeps.on (State.dropMap_keeps ..); on_goal 2 => decide)
    | fail_if_no_progress (with_reducible apply Keeps.on (keeps_mode ..); on_goal 2 => decide)
    | split

theorem State.microcodeChecked_keeps (s : State) (ok) : Keeps 0x110c8900274 s (State.microcodeChecked s ok) := by
  unfold State.microcodeChecked
  repeat' first
    | with_reducible exact Keeps.rfl'
    | with_reducible assumption
    | (extract_lets +onlyGivenNames x; guard_hyp x : State := _; refine Keeps.letv (x := x) ?_ (fun hx => ?_); (on_goal 1 => (unfold x; clear x)); (on_goal 2 => ((try clear_value x); rename' x => y)))
    | (extract_lets +onlyGivenNames x; rename' x => z)
    | with_reducible refine Keeps.ite (fun hc => ?_) (fun hc => ?_)
    | (with_reducible apply Keeps.on (State.stickBringup_keeps ..); on_goal 2 => decide)
    | (with_reducible apply Keeps.on (State.deriveKeep_keeps ..); on_goal 2 => decide)
    | (with_reducible apply Keeps.on (State.probed_keeps ..); on_goal 2 => decide)
    | fail_if_no_progress (with_reducible apply Keeps.on (keeps_mode ..); on_goal 2 => decide)
    | fail_if_no_progress (with_reducible apply Keeps.on (keeps_pins ..); on_goal 2 => decide)
    | fail_if_no_progress (with_reducible apply Keeps.on (keeps_pwr ..); on_goal 2 => decide)
    | fail_if_no_progress (with_reducible apply Keeps.on (keeps_sec ..); on_goal 2 => decide)
    | fail_if_no_progress (with_reducible apply Keeps.on (keeps_pwrPins ..); on_goal 2 => decide)
    | fail_if_no_progress refine Keeps.upd ?_ (Or.inl rfl)

theorem State.deviceResetEnd_keeps (s : State) : Keeps 0x900010 s (State.deviceResetEnd s) := by
  unfold State.deviceResetEnd
  repeat' first
    | with_reducible exact Keeps.rfl'
    | with_reducible assumption
    | (extract_lets +onlyGivenNames x; guard_hyp x : State := _; refine Keeps.letv (x := x) ?_ (fun hx => ?_); (on_goal 1 => (unfold x; clear x)); (on_goal 2 => ((try clear_value x); rename' x => y)))
    | (extract_lets +onlyGivenNames x; rename' x => z)
    | with_reducible refine Keeps.ite (fun hc => ?_) (fun hc => ?_)
    | (with_reducible apply Keeps.on (State.stateAll_keeps ..); on_goal 2 => decide)
    | (with_reducible apply Keeps.on (State.joinLine_keeps ..); on_goal 2 => decide)
    | (with_reducible apply Keeps.on (State.modSlice_keeps ..); on_goal 2 => decide)
    | fail_if_no_progress (with_reducible apply Keeps.on (keeps_mode ..); on_goal 2 => decide)
    | with_reducible refine Keeps.foldl ?_ (fun s a => ?_)

theorem State.startLine_keeps (s : State) (c) : Keeps 0x900000 s (State.startLine s c) := by
  unfold State.startLine
  repeat' first
    | with_reducible exact Keeps.rfl'
    | with_reducible assumption
    | (extract_lets +onlyGivenNames x; guard_hyp x : State := _; refine Keeps.letv (x := x) ?_ (fun hx => ?_); (on_goal 1 => (unfold x; clear x)); (on_goal 2 => ((try clear_value x); rename' x => y)))
    | (extract_lets +onlyGivenNames x; rename' x => z)
    | with_reducible refine Keeps.ite (fun hc => ?_) (fun hc => ?_)
    | (with_reducible apply Keeps.on (State.joinLine_keeps ..); on_goal 2 => decide)
    | split

theorem State.enterLine_keeps (s : State) (c) (refreshes) : Keeps 0x900000 s (State.enterLine s c refreshes) := by
  unfold State.enterLine
  repeat' first
    | with_reducible exact Keeps.rfl'
    | with_reducible refine Keeps.ite (fun hc => ?_) (fun hc => ?_)
    | (with_reducible apply Keeps.on (State.startLine_keeps ..); on_goal 2 => decide)
    | (with_reducible apply Keeps.on (State.joinLine_keeps ..); on_goal 2 => decide)

theorem State.refuseSlice_keeps (s : State) (c) : Keeps 0x230 s (State.refuseSlice s c) := by
  unfold State.refuseSlice
  repeat' first
    | with_reducible exact Keeps.rfl'
    | with_reducible assumption
    | (extract_lets +onlyGivenNames x; guard_hyp x : State := _; refine Keeps.letv (x := x) ?_ (fun hx => ?_); (on_goal 1 => (unfold x; clear x)); (on_goal 2 => ((try clear_value x); rename' x => y)))
    | (extract_lets +onlyGivenNames x; rename' x => z)
    | with_reducible refine Keeps.ite (fun hc => ?_) (fun hc => ?_)
    | (with_reducible apply Keeps.on (State.stickBringup_keeps ..); on_goal 2 => decide)
    | fail_if_no_progress (with_reducible apply Keeps.on (keeps_mode ..); on_goal 2 => decide)

theorem State.trainSlice_keeps (s : State) (c) (d) (e) : Keeps 0x100009002f4 s (State.trainSlice s c d e) := by
  unfold State.trainSlice
  repeat' first
    | with_reducible exact Keeps.rfl'
    | with_reducible assumption
    | (extract_lets +onlyGivenNames x; guard_hyp x : State := _; refine Keeps.letv (x := x) ?_ (fun hx => ?_); (on_goal 1 => (unfold x; clear x)); (on_goal 2 => ((try clear_value x); rename' x => y)))
    | (extract_lets +onlyGivenNames x; rename' x => z)
    | with_reducible refine Keeps.ite (fun hc => ?_) (fun hc => ?_)
    | (with_reducible apply Keeps.on (State.readBack_keeps ..); on_goal 2 => decide)
    | (split; rename_i t w hq; refine Keeps.letv (x := t) (Keeps.ofFst hq (Keeps.on (State.readBack_keeps ..) (by first | assumption | exact Keeps.rfl') (by decide))) (fun ht => ?_); clear hq)
    | (with_reducible apply Keeps.on (State.raise_keeps ..); on_goal 2 => decide)
    | (with_reducible apply Keeps.on (State.refuseSlice_keeps ..); on_goal 2 => decide)
    | (with_reducible apply Keeps.on (State.loseContents_keeps ..); on_goal 2 => decide)
    | (with_reducible apply Keeps.on (State.enterLine_keeps ..); on_goal 2 => decide)
    | (with_reducible apply Keeps.on (State.modSlice_keeps ..); on_goal 2 => decide)
    | (with_reducible apply Keeps.on (State.trained_keeps ..); on_goal 2 => decide)
    | (with_reducible apply Keeps.on (State.trainFailed_keeps ..); on_goal 2 => decide)
    | fail_if_no_progress (with_reducible apply Keeps.on (keeps_mode ..); on_goal 2 => decide)
    | split
    | (clear_value *; split)

theorem State.exitSlice_keeps (s : State) (c) : Keeps 0x100009002c0 s (State.exitSlice s c) := by
  unfold State.exitSlice
  repeat' first
    | with_reducible exact Keeps.rfl'
    | with_reducible assumption
    | (extract_lets +onlyGivenNames x; guard_hyp x : State := _; refine Keeps.letv (x := x) ?_ (fun hx => ?_); (on_goal 1 => (unfold x; clear x)); (on_goal 2 => ((try clear_value x); rename' x => y)))
    | (extract_lets +onlyGivenNames x; rename' x => z)
    | with_reducible refine Keeps.ite (fun hc => ?_) (fun hc => ?_)
    | (with_reducible apply Keeps.on (State.modSlice_keeps ..); on_goal 2 => decide)
    | (with_reducible apply Keeps.on (State.raise_keeps ..); on_goal 2 => decide)
    | (with_reducible apply Keeps.on (State.modTrain_keeps ..); on_goal 2 => decide)
    | (with_reducible apply Keeps.on (State.requestLull_keeps ..); on_goal 2 => decide)
    | (with_reducible apply Keeps.on (State.joinLine_keeps ..); on_goal 2 => decide)
    | (with_reducible apply Keeps.on (State.atPl_keeps ..); on_goal 2 => decide)

theorem State.offUnused_keeps (s : State) : Keeps 0x800000 s (State.offUnused s) := by
  unfold State.offUnused
  repeat' first
    | with_reducible exact Keeps.rfl'
    | with_reducible assumption
    | (extract_lets +onlyGivenNames x; guard_hyp x : State := _; refine Keeps.letv (x := x) ?_ (fun hx => ?_); (on_goal 1 => (unfold x; clear x)); (on_goal 2 => ((try clear_value x); rename' x => y)))
    | (extract_lets +onlyGivenNames x; rename' x => z)
    | with_reducible refine Keeps.ite (fun hc => ?_) (fun hc => ?_)
    | (with_reducible apply Keeps.on (State.modSlice_keeps ..); on_goal 2 => decide)
    | with_reducible refine Keeps.foldl ?_ (fun s a => ?_)

theorem State.noteService_keeps (s : State) : Keeps 0x800000 s (State.noteService s) := by
  unfold State.noteService
  repeat' first
    | with_reducible exact Keeps.rfl'
    | with_reducible assumption
    | (extract_lets +onlyGivenNames x; guard_hyp x : State := _; refine Keeps.letv (x := x) ?_ (fun hx => ?_); (on_goal 1 => (unfold x; clear x)); (on_goal 2 => ((try clear_value x); rename' x => y)))
    | (extract_lets +onlyGivenNames x; rename' x => z)
    | with_reducible refine Keeps.ite (fun hc => ?_) (fun hc => ?_)
    | (with_reducible apply Keeps.on (State.modHealth_keeps ..); on_goal 2 => decide)
    | with_reducible refine Keeps.foldl ?_ (fun s a => ?_)

theorem State.enterService_keeps (s : State) (p) (gen) : Keeps 0x376feff227c s (State.enterService s p gen) := by
  unfold State.enterService
  repeat' first
    | with_reducible exact Keeps.rfl'
    | with_reducible assumption
    | (extract_lets +onlyGivenNames x; guard_hyp x : State := _; refine Keeps.letv (x := x) ?_ (fun hx => ?_); (on_goal 1 => (unfold x; clear x)); (on_goal 2 => ((try clear_value x); rename' x => y)))
    | (extract_lets +onlyGivenNames x; rename' x => z)
    | with_reducible refine Keeps.ite (fun hc => ?_) (fun hc => ?_)
    | (with_reducible apply Keeps.on (State.noteService_keeps ..); on_goal 2 => decide)
    | (with_reducible apply Keeps.on (State.startLine_keeps ..); on_goal 2 => decide)
    | (with_reducible apply Keeps.on (State.signSlices_keeps ..); on_goal 2 => decide)
    | (with_reducible apply Keeps.on (State.markConsumed_keeps ..); on_goal 2 => decide)
    | (with_reducible apply Keeps.on (State.raise_keeps ..); on_goal 2 => decide)
    | (with_reducible apply Keeps.on (State.setMode_keeps ..); on_goal 2 => decide)
    | (with_reducible apply Keeps.on (State.raiseIf_keeps ..); on_goal 2 => decide)
    | (with_reducible apply Keeps.on (State.leaveOff_keeps ..); on_goal 2 => decide)
    | (with_reducible apply Keeps.on (State.afterSleep_keeps ..); on_goal 2 => decide)
    | (with_reducible apply Keeps.on (State.feasTrigger_keeps ..); on_goal 2 => decide)
    | fail_if_no_progress (with_reducible apply Keeps.on (keeps_mode ..); on_goal 2 => decide)
    | fail_if_no_progress (with_reducible apply Keeps.on (keeps_pins ..); on_goal 2 => decide)
    | fail_if_no_progress (with_reducible apply Keeps.on (keeps_pwr ..); on_goal 2 => decide)
    | fail_if_no_progress (with_reducible apply Keeps.on (keeps_dbg ..); on_goal 2 => decide)
    | fail_if_no_progress (with_reducible apply Keeps.on (keeps_squall _ _ ?q ?r); (case q => exact rfl); (case r => exact rfl); on_goal 2 => decide)
    | fail_if_no_progress (with_reducible apply Keeps.on (keeps_squallAll _ _ ?q); (case q => first | exact id | exact fun _ => Nat.zero_le _); on_goal 2 => decide)
    | fail_if_no_progress (with_reducible apply Keeps.on (keeps_pwrPins ..); on_goal 2 => decide)
    | with_reducible refine Keeps.foldl ?_ (fun s a => ?_)
    | fail_if_no_progress refine Keeps.upd ?_ (Or.inl rfl)

theorem State.setLinks_keeps (s : State) : Keeps 0x800000 s (State.setLinks s) := by
  unfold State.setLinks
  repeat' first
    | with_reducible exact Keeps.rfl'
    | with_reducible assumption
    | with_reducible refine Keeps.ite (fun hc => ?_) (fun hc => ?_)
    | (with_reducible apply Keeps.on (State.setLink_keeps ..); on_goal 2 => decide)
    | with_reducible refine Keeps.foldl ?_ (fun s a => ?_)

theorem State.restoreFirst_keeps (s : State) (p) : Keeps 0x3173fff16fc s (State.restoreFirst s p) := by
  unfold State.restoreFirst
  repeat' first
    | with_reducible exact Keeps.rfl'
    | with_reducible assumption
    | (extract_lets +onlyGivenNames x; guard_hyp x : State := _; refine Keeps.letv (x := x) ?_ (fun hx => ?_); (on_goal 1 => (unfold x; clear x)); (on_goal 2 => ((try clear_value x); rename' x => y)))
    | (extract_lets +onlyGivenNames x; rename' x => z)
    | with_reducible refine Keeps.ite (fun hc => ?_) (fun hc => ?_)
    | (with_reducible apply Keeps.on (State.restoreSlots_keeps ..); on_goal 2 => decide)
    | (with_reducible apply Keeps.on (State.restoreRegs_keeps ..); on_goal 2 => decide)
    | (with_reducible apply Keeps.on (State.noteBoot_keeps ..); on_goal 2 => decide)
    | (with_reducible apply Keeps.on (State.applyPages_keeps ..); on_goal 2 => decide)
    | (with_reducible apply Keeps.on (State.restoreMembers_keeps ..); on_goal 2 => decide)
    | (with_reducible apply Keeps.on (State.restoreLoss_keeps ..); on_goal 2 => decide)
    | (with_reducible apply Keeps.on (State.logSections_keeps ..); on_goal 2 => decide)
    | (with_reducible apply Keeps.on (State.resolveJournals_keeps ..); on_goal 2 => decide)
    | (with_reducible apply Keeps.on (State.restoreRoutes_keeps ..); on_goal 2 => decide)
    | (with_reducible apply Keeps.on (State.restoreLedger_keeps ..); on_goal 2 => decide)
    | split
    | (clear_value *; split)

theorem State.restoreAll_keeps (s : State) (p) : Keeps 0x3173fff16fe s (State.restoreAll s p) := by
  unfold State.restoreAll
  repeat' first
    | with_reducible exact Keeps.rfl'
    | with_reducible assumption
    | (extract_lets +onlyGivenNames x; guard_hyp x : State := _; refine Keeps.letv (x := x) ?_ (fun hx => ?_); (on_goal 1 => (unfold x; clear x)); (on_goal 2 => ((try clear_value x); rename' x => y)))
    | (extract_lets +onlyGivenNames x; rename' x => z)
    | (with_reducible apply Keeps.on (State.restoreRings_keeps ..); on_goal 2 => decide)
    | (with_reducible apply Keeps.on (State.restoreVoids_keeps ..); on_goal 2 => decide)
    | (with_reducible apply Keeps.on (State.restorePatch_keeps ..); on_goal 2 => decide)
    | (with_reducible apply Keeps.on (State.restoreFirst_keeps ..); on_goal 2 => decide)
    | (with_reducible apply Keeps.on (State.setLinks_keeps ..); on_goal 2 => decide)
    | (with_reducible apply Keeps.on (State.offUnused_keeps ..); on_goal 2 => decide)
    | (with_reducible apply Keeps.on (State.restoreVerify_keeps ..); on_goal 2 => decide)
    | (with_reducible apply Keeps.on (State.restoreTime_keeps ..); on_goal 2 => decide)
    | (with_reducible apply Keeps.on (State.restoreLog_keeps ..); on_goal 2 => decide)

theorem State.bringupDone_keeps (s : State) : Keeps 0x377ffff36fe s (State.bringupDone s) := by
  unfold State.bringupDone
  repeat' first
    | with_reducible exact Keeps.rfl'
    | with_reducible assumption
    | (extract_lets +onlyGivenNames x; guard_hyp x : State := _; refine Keeps.letv (x := x) ?_ (fun hx => ?_); (on_goal 1 => (unfold x; clear x)); (on_goal 2 => ((try clear_value x); rename' x => y)))
    | (extract_lets +onlyGivenNames x; rename' x => z)
    | with_reducible refine Keeps.ite (fun hc => ?_) (fun hc => ?_)
    | (with_reducible apply Keeps.on (State.restoreAll_keeps ..); on_goal 2 => decide)
    | (with_reducible apply Keeps.on (State.stickBringup_keeps ..); on_goal 2 => decide)
    | (with_reducible apply Keeps.on (State.restoreFirst_keeps ..); on_goal 2 => decide)
    | (with_reducible apply Keeps.on (State.enterService_keeps ..); on_goal 2 => decide)
    | fail_if_no_progress (with_reducible apply Keeps.on (keeps_sec ..); on_goal 2 => decide)

end Sys2Proof.Machine
end

