-- ==== Sys2Proof/Laws/KeepsVanes.lean ====
section
/-!
SUPPORT. One lemma per operation of Machine/Errors.lean, Machine/Telemetry.lean, Machine/Vanes.lean: the parts it may change, and that it keeps the invariant.
-/
set_option linter.all false
namespace Sys2Proof.Machine
set_option Elab.async false

theorem State.ackOne_keeps (s : State) : Keeps 0x200000000 s (State.ackOne s) := by
  unfold State.ackOne
  exact keeps_err s _ fun h => Nat.le_trans (Nat.sub_le _ _) h

theorem State.ackEvery_keeps (s : State) : Keeps 0x200000000 s (State.ackEvery s) := by
  unfold State.ackEvery
  repeat' first
    | with_reducible exact Keeps.rfl'
    | with_reducible assumption
    | (extract_lets +onlyGivenNames x; guard_hyp x : State := _; refine Keeps.letv (x := x) ?_ (fun hx => ?_); (on_goal 1 => (unfold x; clear x)); (on_goal 2 => ((try clear_value x); rename' x => y)))
    | (extract_lets +onlyGivenNames x; rename' x => z)
    | fail_if_no_progress (with_reducible apply Keeps.on (keeps_err _ _ ?q); (case q => first | exact id | exact fun _ => Nat.zero_le _); on_goal 2 => decide)

theorem State.clearFirst_keeps (s : State) : Keeps 0x200000000 s (State.clearFirst s) := by
  unfold State.clearFirst
  repeat' first
    | with_reducible exact Keeps.rfl'
    | with_reducible assumption
    | (extract_lets +onlyGivenNames x; guard_hyp x : State := _; refine Keeps.letv (x := x) ?_ (fun hx => ?_); (on_goal 1 => (unfold x; clear x)); (on_goal 2 => ((try clear_value x); rename' x => y)))
    | (extract_lets +onlyGivenNames x; rename' x => z)
    | fail_if_no_progress (with_reducible apply Keeps.on (keeps_err _ _ ?q); (case q => first | exact id | exact fun _ => Nat.zero_le _); on_goal 2 => decide)

theorem State.clearErr_keeps (s : State) : Keeps 0x200000000 s (State.clearErr s) := by
  unfold State.clearErr
  repeat' first
    | with_reducible exact Keeps.rfl'
    | with_reducible assumption
    | (extract_lets +onlyGivenNames x; guard_hyp x : State := _; refine Keeps.letv (x := x) ?_ (fun hx => ?_); (on_goal 1 => (unfold x; clear x)); (on_goal 2 => ((try clear_value x); rename' x => y)))
    | (extract_lets +onlyGivenNames x; rename' x => z)
    | fail_if_no_progress (with_reducible apply Keeps.on (keeps_err _ _ ?q); (case q => first | exact id | exact fun _ => Nat.zero_le _); on_goal 2 => decide)

theorem State.snapAll_keeps (s : State) : Keeps 0x800800000 s (State.snapAll s) := by
  unfold State.snapAll
  repeat' first
    | with_reducible exact Keeps.rfl'
    | with_reducible assumption
    | (extract_lets +onlyGivenNames x; guard_hyp x : State := _; refine Keeps.letv (x := x) ?_ (fun hx => ?_); (on_goal 1 => (unfold x; clear x)); (on_goal 2 => ((try clear_value x); rename' x => y)))
    | (extract_lets +onlyGivenNames x; rename' x => z)
    | with_reducible refine Keeps.ite (fun hc => ?_) (fun hc => ?_)
    | fail_if_no_progress (with_reducible apply Keeps.on (keeps_slices ..); on_goal 2 => decide)
    | fail_if_no_progress (with_reducible apply Keeps.on (keeps_telCount ..); on_goal 2 => decide)
    | fail_if_no_progress (with_reducible apply Keeps.on (keeps_tel _ _ ?q ?r ?v); (case q => exact rfl); (case r => exact rfl); (case v => first | exact id | with_unfolding_all exact fun _ => Nat.zero_le _); on_goal 2 => decide)
    | fail_if_no_progress (with_reducible apply Keeps.on (keeps_telAll _ _ ?q); (case q => first | exact id | with_unfolding_all exact fun _ => Nat.zero_le _); on_goal 2 => decide)
    | fail_if_no_progress refine Keeps.upd ?_ (Or.inl rfl)

theorem State.snapDone_keeps (s : State) : Keeps 0x800000000 s (State.snapDone s) := by
  unfold State.snapDone
  repeat' first
    | with_reducible exact Keeps.rfl'
    | with_reducible assumption
    | (extract_lets +onlyGivenNames x; guard_hyp x : State := _; refine Keeps.letv (x := x) ?_ (fun hx => ?_); (on_goal 1 => (unfold x; clear x)); (on_goal 2 => ((try clear_value x); rename' x => y)))
    | (extract_lets +onlyGivenNames x; rename' x => z)
    | with_reducible refine Keeps.ite (fun hc => ?_) (fun hc => ?_)
    | fail_if_no_progress (with_reducible apply Keeps.on (keeps_telCount ..); on_goal 2 => decide)
    | fail_if_no_progress (with_reducible apply Keeps.on (keeps_tel _ _ ?q ?r ?v); (case q => exact rfl); (case r => exact rfl); (case v => first | exact id | with_unfolding_all exact fun _ => Nat.zero_le _); on_goal 2 => decide)
    | fail_if_no_progress (with_reducible apply Keeps.on (keeps_telAll _ _ ?q); (case q => first | exact id | with_unfolding_all exact fun _ => Nat.zero_le _); on_goal 2 => decide)

theorem State.clearTel_keeps (s : State) : Keeps 0xc00800000 s (State.clearTel s) := by
  unfold State.clearTel
  repeat' first
    | with_reducible exact Keeps.rfl'
    | with_reducible assumption
    | (extract_lets +onlyGivenNames x; guard_hyp x : State := _; refine Keeps.letv (x := x) ?_ (fun hx => ?_); (on_goal 1 => (unfold x; clear x)); (on_goal 2 => ((try clear_value x); rename' x => y)))
    | (extract_lets +onlyGivenNames x; rename' x => z)
    | fail_if_no_progress (with_reducible apply Keeps.on (keeps_slices ..); on_goal 2 => decide)
    | fail_if_no_progress (with_reducible apply Keeps.on (keeps_telCount ..); on_goal 2 => decide)
    | fail_if_no_progress (with_reducible apply Keeps.on (keeps_tel _ _ ?q ?r ?v); (case q => exact rfl); (case r => exact rfl); (case v => first | exact id | with_unfolding_all exact fun _ => Nat.zero_le _); on_goal 2 => decide)
    | fail_if_no_progress (with_reducible apply Keeps.on (keeps_telAll _ _ ?q); (case q => first | exact id | with_unfolding_all exact fun _ => Nat.zero_le _); on_goal 2 => decide)
    | fail_if_no_progress refine Keeps.upd ?_ (Or.inl rfl)

theorem State.clearOvf_keeps (s : State) : Keeps 0x400800000 s (State.clearOvf s) := by
  unfold State.clearOvf
  repeat' first
    | with_reducible exact Keeps.rfl'
    | with_reducible assumption
    | (extract_lets +onlyGivenNames x; guard_hyp x : State := _; refine Keeps.letv (x := x) ?_ (fun hx => ?_); (on_goal 1 => (unfold x; clear x)); (on_goal 2 => ((try clear_value x); rename' x => y)))
    | (extract_lets +onlyGivenNames x; rename' x => z)
    | fail_if_no_progress (with_reducible apply Keeps.on (keeps_slices ..); on_goal 2 => decide)
    | fail_if_no_progress (with_reducible apply Keeps.on (keeps_telCount ..); on_goal 2 => decide)
    | fail_if_no_progress (with_reducible apply Keeps.on (keeps_tel _ _ ?q ?r ?v); (case q => exact rfl); (case r => exact rfl); (case v => first | exact id | with_unfolding_all exact fun _ => Nat.zero_le _); on_goal 2 => decide)
    | fail_if_no_progress (with_reducible apply Keeps.on (keeps_telAll _ _ ?q); (case q => first | exact id | with_unfolding_all exact fun _ => Nat.zero_le _); on_goal 2 => decide)
    | fail_if_no_progress refine Keeps.upd ?_ (Or.inl rfl)

theorem State.clearUnderrun_keeps (s : State) : Keeps 0x800000000 s (State.clearUnderrun s) := by
  unfold State.clearUnderrun
  repeat' first
    | with_reducible exact Keeps.rfl'
    | with_reducible assumption
    | (extract_lets +onlyGivenNames x; guard_hyp x : State := _; refine Keeps.letv (x := x) ?_ (fun hx => ?_); (on_goal 1 => (unfold x; clear x)); (on_goal 2 => ((try clear_value x); rename' x => y)))
    | (extract_lets +onlyGivenNames x; rename' x => z)
    | fail_if_no_progress (with_reducible apply Keeps.on (keeps_telCount ..); on_goal 2 => decide)
    | fail_if_no_progress (with_reducible apply Keeps.on (keeps_tel _ _ ?q ?r ?v); (case q => exact rfl); (case r => exact rfl); (case v => first | exact id | with_unfolding_all exact fun _ => Nat.zero_le _); on_goal 2 => decide)
    | fail_if_no_progress (with_reducible apply Keeps.on (keeps_telAll _ _ ?q); (case q => first | exact id | with_unfolding_all exact fun _ => Nat.zero_le _); on_goal 2 => decide)

theorem State.popWord_keeps (s : State) : Keeps 0x800000200 s (State.popWord s).1 := by
  unfold State.popWord
  repeat' first
    | with_reducible exact Keeps.rfl'
    | with_reducible assumption
    | (extract_lets +onlyGivenNames x; guard_hyp x : State := _; refine Keeps.letv (x := x) ?_ (fun hx => ?_); (on_goal 1 => (unfold x; clear x)); (on_goal 2 => ((try clear_value x); rename' x => y)))
    | (extract_lets +onlyGivenNames x; rename' x => z)
    | with_reducible refine Keeps.ite (fun hc => ?_) (fun hc => ?_)
    | (with_reducible apply Keeps.on (State.closeFill_keeps ..); on_goal 2 => decide)
    | fail_if_no_progress (with_reducible apply Keeps.on (keeps_telCount ..); on_goal 2 => decide)
    | fail_if_no_progress (with_reducible apply Keeps.on (keeps_tel _ _ ?q ?r ?v); (case q => exact rfl); (case r => exact rfl); (case v => first | exact id | with_unfolding_all exact fun _ => Nat.zero_le _); on_goal 2 => decide)
    | fail_if_no_progress (with_reducible apply Keeps.on (keeps_telAll _ _ ?q); (case q => first | exact id | with_unfolding_all exact fun _ => Nat.zero_le _); on_goal 2 => decide)
    | split
    | (clear_value *; split)

theorem State.fillTimeout_keeps (s : State) : Keeps 0x800000200 s (State.fillTimeout s) := by
  unfold State.fillTimeout
  repeat' first
    | with_reducible exact Keeps.rfl'
    | with_reducible assumption
    | (extract_lets +onlyGivenNames x; guard_hyp x : State := _; refine Keeps.letv (x := x) ?_ (fun hx => ?_); (on_goal 1 => (unfold x; clear x)); (on_goal 2 => ((try clear_value x); rename' x => y)))
    | (extract_lets +onlyGivenNames x; rename' x => z)
    | with_reducible refine Keeps.ite (fun hc => ?_) (fun hc => ?_)
    | (with_reducible apply Keeps.on (State.closeFill_keeps ..); on_goal 2 => decide)

theorem State.bumpBank_keeps (s : State) (c) (k) (n) : Keeps 0x800200 s (State.bumpBank s c k n) := by
  unfold State.bumpBank
  repeat' first
    | with_reducible exact Keeps.rfl'
    | with_reducible assumption
    | (extract_lets +onlyGivenNames x; guard_hyp x : State := _; refine Keeps.letv (x := x) ?_ (fun hx => ?_); (on_goal 1 => (unfold x; clear x)); (on_goal 2 => ((try clear_value x); rename' x => y)))
    | (extract_lets +onlyGivenNames x; rename' x => z)
    | with_reducible refine Keeps.ite (fun hc => ?_) (fun hc => ?_)
    | (with_reducible apply Keeps.on (State.modSlice_keeps ..); on_goal 2 => decide)
    | (with_reducible apply Keeps.on (State.raiseIf_keeps ..); on_goal 2 => decide)

theorem State.slot_keeps (s : State) (c) (f) : Keeps 0x800200 s (State.slot s c f) := by
  unfold State.slot
  repeat' first
    | with_reducible exact Keeps.rfl'
    | with_reducible assumption
    | (extract_lets +onlyGivenNames x; guard_hyp x : State := _; refine Keeps.letv (x := x) ?_ (fun hx => ?_); (on_goal 1 => (unfold x; clear x)); (on_goal 2 => ((try clear_value x); rename' x => y)))
    | (extract_lets +onlyGivenNames x; rename' x => z)
    | with_reducible refine Keeps.ite (fun hc => ?_) (fun hc => ?_)
    | (with_reducible apply Keeps.on (State.bumpBank_keeps ..); on_goal 2 => decide)
    | with_reducible refine Keeps.foldl ?_ (fun s a => ?_)

theorem State.spoilLine_keeps (s : State) (c) (seed) (line) : Keeps 0x10000000000 s (State.spoilLine s c seed line) := by
  unfold State.spoilLine
  repeat' first
    | with_reducible exact Keeps.rfl'
    | (with_reducible apply Keeps.on (State.setRawLine_keeps ..); on_goal 2 => decide)

theorem State.touchGroup_keeps (s : State) (c) : Keeps 0x4000000000 s (State.touchGroup s c) := by
  unfold State.touchGroup
  repeat' first
    | with_reducible exact Keeps.rfl'
    | with_reducible assumption
    | (extract_lets +onlyGivenNames x; guard_hyp x : State := _; refine Keeps.letv (x := x) ?_ (fun hx => ?_); (on_goal 1 => (unfold x; clear x)); (on_goal 2 => ((try clear_value x); rename' x => y)))
    | (extract_lets +onlyGivenNames x; rename' x => z)
    | with_reducible refine Keeps.ite (fun hc => ?_) (fun hc => ?_)
    | fail_if_no_progress (with_reducible apply Keeps.on (keeps_dbg ..); on_goal 2 => decide)

theorem State.runPattern_keeps (s : State) (a) : Keeps 0x14000000004 s (State.runPattern s a) := by
  unfold State.runPattern
  repeat' first
    | with_reducible exact Keeps.rfl'
    | with_reducible assumption
    | (extract_lets +onlyGivenNames x; guard_hyp x : State := _; refine Keeps.letv (x := x) ?_ (fun hx => ?_); (on_goal 1 => (unfold x; clear x)); (on_goal 2 => ((try clear_value x); rename' x => y)))
    | (extract_lets +onlyGivenNames x; rename' x => z)
    | (with_reducible apply Keeps.on (State.touchGroup_keeps ..); on_goal 2 => decide)
    | (with_reducible apply Keeps.on (State.tookFree_keeps ..); on_goal 2 => decide)
    | (with_reducible apply Keeps.on (State.spoilLine_keeps ..); on_goal 2 => decide)
    | with_reducible refine Keeps.foldl ?_ (fun s a => ?_)

theorem State.spoilHalf_keeps (s : State) (half) : Keeps 0x40004 s (State.spoilHalf s half) := by
  unfold State.spoilHalf
  repeat' first
    | with_reducible exact Keeps.rfl'
    | with_reducible assumption
    | (extract_lets +onlyGivenNames x; guard_hyp x : State := _; refine Keeps.letv (x := x) ?_ (fun hx => ?_); (on_goal 1 => (unfold x; clear x)); (on_goal 2 => ((try clear_value x); rename' x => y)))
    | (extract_lets +onlyGivenNames x; rename' x => z)
    | fail_if_no_progress (with_reducible apply Keeps.on (keeps_free ..); on_goal 2 => decide)
    | fail_if_no_progress (with_reducible apply Keeps.on (keeps_ledgerTable ..); on_goal 2 => decide)
    | fail_if_no_progress (with_reducible apply Keeps.on (keeps_ledger _ _ ?q); (case q => exact rfl); on_goal 2 => decide)
    | fail_if_no_progress (with_reducible apply Keeps.on (keeps_ledgerAll ..); on_goal 2 => decide)
    | with_reducible refine Keeps.foldl ?_ (fun s a => ?_)
    | fail_if_no_progress refine Keeps.upd ?_ (Or.inl rfl)

theorem State.spoilTables_keeps (s : State) : Keeps 0x40004 s (State.spoilTables s) := by
  unfold State.spoilTables
  repeat' first
    | with_reducible exact Keeps.rfl'
    | with_reducible assumption
    | (extract_lets +onlyGivenNames x; guard_hyp x : State := _; refine Keeps.letv (x := x) ?_ (fun hx => ?_); (on_goal 1 => (unfold x; clear x)); (on_goal 2 => ((try clear_value x); rename' x => y)))
    | (extract_lets +onlyGivenNames x; rename' x => z)
    | fail_if_no_progress (with_reducible apply Keeps.on (keeps_free ..); on_goal 2 => decide)
    | fail_if_no_progress (with_reducible apply Keeps.on (keeps_ledgerTable ..); on_goal 2 => decide)
    | fail_if_no_progress (with_reducible apply Keeps.on (keeps_ledger _ _ ?q); (case q => exact rfl); on_goal 2 => decide)
    | fail_if_no_progress (with_reducible apply Keeps.on (keeps_ledgerAll ..); on_goal 2 => decide)
    | fail_if_no_progress refine Keeps.upd ?_ (Or.inl rfl)

theorem State.spoilJournals_keeps (s : State) : Keeps 0x100004 s (State.spoilJournals s) := by
  unfold State.spoilJournals
  repeat' first
    | with_reducible exact Keeps.rfl'
    | with_reducible assumption
    | (extract_lets +onlyGivenNames x; guard_hyp x : State := _; refine Keeps.letv (x := x) ?_ (fun hx => ?_); (on_goal 1 => (unfold x; clear x)); (on_goal 2 => ((try clear_value x); rename' x => y)))
    | (extract_lets +onlyGivenNames x; rename' x => z)
    | fail_if_no_progress (with_reducible apply Keeps.on (keeps_free ..); on_goal 2 => decide)
    | fail_if_no_progress (with_reducible apply Keeps.on (keeps_hubs ..); on_goal 2 => decide)
    | fail_if_no_progress refine Keeps.upd ?_ (Or.inl rfl)

theorem State.spoilCaches_keeps (s : State) : Keeps 0x800004 s (State.spoilCaches s) := by
  unfold State.spoilCaches
  repeat' first
    | with_reducible exact Keeps.rfl'
    | with_reducible assumption
    | (extract_lets +onlyGivenNames x; guard_hyp x : State := _; refine Keeps.letv (x := x) ?_ (fun hx => ?_); (on_goal 1 => (unfold x; clear x)); (on_goal 2 => ((try clear_value x); rename' x => y)))
    | (extract_lets +onlyGivenNames x; rename' x => z)
    | (with_reducible apply Keeps.on (State.tookFree_keeps ..); on_goal 2 => decide)
    | fail_if_no_progress (with_reducible apply Keeps.on (keeps_slices ..); on_goal 2 => decide)

theorem State.spoilFifo_keeps (s : State) : Keeps 0x800000004 s (State.spoilFifo s) := by
  unfold State.spoilFifo
  extract_lets n r f
  refine ⟨fun p hp => ?_, fun i => ⟨i.mem, i.seq, i.replies, i.reqs, i.unack, i.squall, by show f.length ≤ 2048; simpa [f] using i.fill⟩⟩
  cases p <;> first | exact absurd hp (by decide) | rfl | exact ⟨rfl, rfl⟩

theorem State.runBist_keeps (s : State) (sets) : Keeps 0x800940004 s (State.runBist s sets) := by
  unfold State.runBist
  repeat' first
    | with_reducible exact Keeps.rfl'
    | with_reducible assumption
    | (extract_lets +onlyGivenNames x; guard_hyp x : State := _; refine Keeps.letv (x := x) ?_ (fun hx => ?_); (on_goal 1 => (unfold x; clear x)); (on_goal 2 => ((try clear_value x); rename' x => y)))
    | (extract_lets +onlyGivenNames x; rename' x => z)
    | with_reducible refine Keeps.ite (fun hc => ?_) (fun hc => ?_)
    | (with_reducible apply Keeps.on (State.spoilHalf_keeps ..); on_goal 2 => decide)
    | (with_reducible apply Keeps.on (State.spoilTables_keeps ..); on_goal 2 => decide)
    | (with_reducible apply Keeps.on (State.spoilJournals_keeps ..); on_goal 2 => decide)
    | (with_reducible apply Keeps.on (State.spoilCaches_keeps ..); on_goal 2 => decide)
    | (with_reducible apply Keeps.on (State.spoilFifo_keeps ..); on_goal 2 => decide)

theorem State.enterDiag_keeps (s : State) (v) : Keeps 0x1203a800224 s (State.enterDiag s v) := by
  unfold State.enterDiag
  repeat' first
    | with_reducible exact Keeps.rfl'
    | with_reducible assumption
    | (extract_lets +onlyGivenNames x; guard_hyp x : State := _; refine Keeps.letv (x := x) ?_ (fun hx => ?_); (on_goal 1 => (unfold x; clear x)); (on_goal 2 => ((try clear_value x); rename' x => y)))
    | (extract_lets +onlyGivenNames x; rename' x => z)
    | with_reducible refine Keeps.ite (fun hc => ?_) (fun hc => ?_)
    | (with_reducible apply Keeps.on (State.mboxEnd_keeps ..); on_goal 2 => decide)
    | (with_reducible apply Keeps.on (State.drainAll_keeps ..); on_goal 2 => decide)
    | (with_reducible apply Keeps.on (State.beginSquall_keeps ..); on_goal 2 => decide)
    | (with_reducible apply Keeps.on (State.wakeBy_keeps ..); on_goal 2 => decide)
    | fail_if_no_progress (with_reducible apply Keeps.on (keeps_squall _ _ ?q ?r); (case q => exact rfl); (case r => exact rfl); on_goal 2 => decide)
    | fail_if_no_progress (with_reducible apply Keeps.on (keeps_squallAll _ _ ?q); (case q => first | exact id | exact fun _ => Nat.zero_le _); on_goal 2 => decide)

theorem State.exitDiag_keeps (s : State) : Keeps 0x3ff1ffffff6 s (State.exitDiag s) := by
  unfold State.exitDiag
  repeat' first
    | with_reducible exact Keeps.rfl'
    | with_reducible assumption
    | (extract_lets +onlyGivenNames x; guard_hyp x : State := _; refine Keeps.letv (x := x) ?_ (fun hx => ?_); (on_goal 1 => (unfold x; clear x)); (on_goal 2 => ((try clear_value x); rename' x => y)))
    | (extract_lets +onlyGivenNames x; rename' x => z)
    | (with_reducible apply Keeps.on (State.mboxEnd_keeps ..); on_goal 2 => decide)
    | (with_reducible apply Keeps.on (State.leaveDiag_keeps ..); on_goal 2 => decide)
    | (with_reducible apply Keeps.on (State.modVane_keeps ..); on_goal 2 => decide)

theorem State.mboxStart_keeps (s : State) (v) (op) (a) : Keeps 0x3ff3ffffff6 s (State.mboxStart s v op a) := by
  unfold State.mboxStart
  repeat' first
    | with_reducible exact Keeps.rfl'
    | with_reducible refine Keeps.ite (fun hc => ?_) (fun hc => ?_)
    | (with_reducible apply Keeps.on (State.enterDiag_keeps ..); on_goal 2 => decide)
    | (with_reducible apply Keeps.on (State.exitDiag_keeps ..); on_goal 2 => decide)
    | (with_reducible apply Keeps.on (State.runBist_keeps ..); on_goal 2 => decide)
    | (with_reducible apply Keeps.on (State.runPattern_keeps ..); on_goal 2 => decide)

theorem State.mboxTake_keeps (s : State) (v) (op) (a) : Keeps 0x3ff3ffffff6 s (State.mboxTake s v op a) := by
  unfold State.mboxTake
  repeat' first
    | with_reducible exact Keeps.rfl'
    | with_reducible refine Keeps.ite (fun hc => ?_) (fun hc => ?_)
    | (with_reducible apply Keeps.on (State.mboxEnd_keeps ..); on_goal 2 => decide)
    | (with_reducible apply Keeps.on (State.mboxStart_keeps ..); on_goal 2 => decide)

theorem State.mboxRing_keeps (s : State) (v) (op) (a) : Keeps 0x3ff3ffffff6 s (State.mboxRing s v op a) := by
  unfold State.mboxRing
  repeat' first
    | with_reducible exact Keeps.rfl'
    | with_reducible assumption
    | (extract_lets +onlyGivenNames x; guard_hyp x : State := _; refine Keeps.letv (x := x) ?_ (fun hx => ?_); (on_goal 1 => (unfold x; clear x)); (on_goal 2 => ((try clear_value x); rename' x => y)))
    | (extract_lets +onlyGivenNames x; rename' x => z)
    | with_reducible refine Keeps.ite (fun hc => ?_) (fun hc => ?_)
    | (with_reducible apply Keeps.on (State.modVane_keeps ..); on_goal 2 => decide)
    | (with_reducible apply Keeps.on (State.mboxTake_keeps ..); on_goal 2 => decide)

theorem State.mboxDoorbell_keeps (s : State) (v) : Keeps 0x3ff3ffffff6 s (State.mboxDoorbell s v) := by
  unfold State.mboxDoorbell
  repeat' first
    | with_reducible exact Keeps.rfl'
    | (with_reducible apply Keeps.on (State.mboxRing_keeps ..); on_goal 2 => decide)

theorem State.mboxAbort_keeps (s : State) (v) : Keeps 0x2000000000 s (State.mboxAbort s v) := by
  unfold State.mboxAbort
  repeat' first
    | with_reducible exact Keeps.rfl'
    | with_reducible assumption
    | (extract_lets +onlyGivenNames x; guard_hyp x : State := _; refine Keeps.letv (x := x) ?_ (fun hx => ?_); (on_goal 1 => (unfold x; clear x)); (on_goal 2 => ((try clear_value x); rename' x => y)))
    | (extract_lets +onlyGivenNames x; rename' x => z)
    | with_reducible refine Keeps.ite (fun hc => ?_) (fun hc => ?_)
    | (with_reducible apply Keeps.on (State.modVane_keeps ..); on_goal 2 => decide)

theorem State.clearVane_keeps (s : State) (v) : Keeps 0x2000000000 s (State.clearVane s v) := by
  unfold State.clearVane
  repeat' first
    | with_reducible exact Keeps.rfl'
    | with_reducible assumption
    | (extract_lets +onlyGivenNames x; guard_hyp x : State := _; refine Keeps.letv (x := x) ?_ (fun hx => ?_); (on_goal 1 => (unfold x; clear x)); (on_goal 2 => ((try clear_value x); rename' x => y)))
    | (extract_lets +onlyGivenNames x; rename' x => z)
    | (with_reducible apply Keeps.on (State.modVane_keeps ..); on_goal 2 => decide)

theorem State.diagEntered_keeps (s : State) (v) : Keeps 0x16010800214 s (State.diagEntered s v) := by
  unfold State.diagEntered
  refine Keeps.ite (fun _ => ?_) fun _ => Keeps.rfl'
  have hd : Keeps 0x16010800214 s s.drainAll := (State.drainAll_keeps ..).mono (by decide)
  refine Keeps.on (State.mboxEnd_keeps ..) (Keeps.on (State.setMode_keeps ..) (n := 0x16010800214) ?_ (by decide)) (by decide)
  generalize s.drainAll = t at hd ⊢
  exact Keeps.on (keeps_dbg ..) (Keeps.on (keeps_squall t { t.squall with active := false } rfl rfl) hd (by decide)) (by decide)

theorem State.mboxFinish_keeps (s : State) (v) (r0) (r1) (r2) : Keeps 0x16011800214 s (State.mboxFinish s v r0 r1 r2) := by
  unfold State.mboxFinish
  repeat' first
    | with_reducible exact Keeps.rfl'
    | with_reducible assumption
    | (extract_lets +onlyGivenNames x; guard_hyp x : State := _; refine Keeps.letv (x := x) ?_ (fun hx => ?_); (on_goal 1 => (unfold x; clear x)); (on_goal 2 => ((try clear_value x); rename' x => y)))
    | (extract_lets +onlyGivenNames x; rename' x => z)
    | with_reducible refine Keeps.ite (fun hc => ?_) (fun hc => ?_)
    | (with_reducible apply Keeps.on (State.mboxEnd_keeps ..); on_goal 2 => decide)
    | (with_reducible apply Keeps.on (State.diagEntered_keeps ..); on_goal 2 => decide)
    | fail_if_no_progress (with_reducible apply Keeps.on (keeps_spr ..); on_goal 2 => decide)

theorem State.setDbgLine_keeps (s : State) (d) : Keeps 0x40 s (State.setDbgLine s d) := by
  unfold State.setDbgLine
  repeat' first
    | with_reducible exact Keeps.rfl'
    | with_reducible assumption
    | (with_reducible apply Keeps.on (State.store_keeps ..); on_goal 2 => decide)
    | with_reducible refine Keeps.foldl ?_ (fun s a => ?_)

theorem State.dbgRequest_keeps (s : State) (op) : Keeps 0x206340d020c s (State.dbgRequest s op) := by
  unfold State.dbgRequest
  extract_lets a f beats src0 r rid t
  have hs : ¬ r.src.toNat < 16 := show ¬ srcDebug.toNat < 16 by decide
  have ht : Keeps 0x206340d020c s t := Keeps.on (keeps_push s r rfl fun h => absurd h hs) Keeps.rfl' (by decide)
  exact Keeps.ite (fun _ => (State.finishReq_keeps ..).on ht (by decide)) fun _ => (State.toLedger_keeps ..).on ht (by decide)

theorem State.directGet_keeps (s : State) : Keeps 0x40 s (State.directGet s) := by
  unfold State.directGet
  repeat' first
    | with_reducible exact Keeps.rfl'
    | with_reducible assumption
    | (extract_lets +onlyGivenNames x; guard_hyp x : State := _; refine Keeps.letv (x := x) ?_ (fun hx => ?_); (on_goal 1 => (unfold x; clear x)); (on_goal 2 => ((try clear_value x); rename' x => y)))
    | (extract_lets +onlyGivenNames x; rename' x => z)
    | (with_reducible apply Keeps.on (State.setDbgLine_keeps ..); on_goal 2 => decide)
    | split

theorem State.directPut_keeps (s : State) : Keeps 0x14000000000 s (State.directPut s) := by
  unfold State.directPut
  repeat' first
    | with_reducible exact Keeps.rfl'
    | with_reducible assumption
    | (extract_lets +onlyGivenNames x; guard_hyp x : State := _; refine Keeps.letv (x := x) ?_ (fun hx => ?_); (on_goal 1 => (unfold x; clear x)); (on_goal 2 => ((try clear_value x); rename' x => y)))
    | (extract_lets +onlyGivenNames x; rename' x => z)
    | (with_reducible apply Keeps.on (State.touchGroup_keeps ..); on_goal 2 => decide)
    | (with_reducible apply Keeps.on (State.setRawLine_keeps ..); on_goal 2 => decide)
    | split
    | (clear_value *; split)

theorem State.dbgStart_keeps (s : State) (op) : Keeps 0x346340d024c s (State.dbgStart s op) := by
  unfold State.dbgStart
  repeat' first
    | with_reducible exact Keeps.rfl'
    | with_reducible refine Keeps.ite (fun hc => ?_) (fun hc => ?_)
    | (with_reducible apply Keeps.on (State.dbgRequest_keeps ..); on_goal 2 => decide)
    | (with_reducible apply Keeps.on (State.directGet_keeps ..); on_goal 2 => decide)
    | (with_reducible apply Keeps.on (State.directPut_keeps ..); on_goal 2 => decide)

theorem State.dbgGo_keeps (s : State) (op) : Keeps 0x346340d024c s (State.dbgGo s op) := by
  unfold State.dbgGo
  repeat' first
    | with_reducible exact Keeps.rfl'
    | with_reducible assumption
    | (extract_lets +onlyGivenNames x; guard_hyp x : State := _; refine Keeps.letv (x := x) ?_ (fun hx => ?_); (on_goal 1 => (unfold x; clear x)); (on_goal 2 => ((try clear_value x); rename' x => y)))
    | (extract_lets +onlyGivenNames x; rename' x => z)
    | with_reducible refine Keeps.ite (fun hc => ?_) (fun hc => ?_)
    | (with_reducible apply Keeps.on (State.raise_keeps ..); on_goal 2 => decide)
    | (with_reducible apply Keeps.on (State.dbgStart_keeps ..); on_goal 2 => decide)
    | fail_if_no_progress (with_reducible apply Keeps.on (keeps_dbg ..); on_goal 2 => decide)

theorem State.dbgFinish_keeps (s : State) : Keeps 0x24000010240 s (State.dbgFinish s) := by
  unfold State.dbgFinish
  repeat' first
    | with_reducible exact Keeps.rfl'
    | with_reducible assumption
    | (extract_lets +onlyGivenNames x; guard_hyp x : State := _; refine Keeps.letv (x := x) ?_ (fun hx => ?_); (on_goal 1 => (unfold x; clear x)); (on_goal 2 => ((try clear_value x); rename' x => y)))
    | (extract_lets +onlyGivenNames x; rename' x => z)
    | with_reducible refine Keeps.ite (fun hc => ?_) (fun hc => ?_)
    | (with_reducible apply Keeps.on (State.raise_keeps ..); on_goal 2 => decide)
    | (with_reducible apply Keeps.on (State.dropReq_keeps ..); on_goal 2 => decide)
    | (with_reducible apply Keeps.on (State.setDbgLine_keeps ..); on_goal 2 => decide)
    | fail_if_no_progress (with_reducible apply Keeps.on (keeps_dbg ..); on_goal 2 => decide)
    | split
    | (clear_value *; split)

theorem State.capArm_keeps (s : State) : Keeps 0x4000000000 s (State.capArm s) := by
  unfold State.capArm
  repeat' first
    | with_reducible exact Keeps.rfl'
    | with_reducible assumption
    | (extract_lets +onlyGivenNames x; guard_hyp x : State := _; refine Keeps.letv (x := x) ?_ (fun hx => ?_); (on_goal 1 => (unfold x; clear x)); (on_goal 2 => ((try clear_value x); rename' x => y)))
    | (extract_lets +onlyGivenNames x; rename' x => z)
    | fail_if_no_progress (with_reducible apply Keeps.on (keeps_dbg ..); on_goal 2 => decide)

theorem State.dbgDoorbell_keeps (s : State) : Keeps 0x346340d024c s (State.dbgDoorbell s) := by
  unfold State.dbgDoorbell
  repeat' first
    | with_reducible exact Keeps.rfl'
    | (with_reducible apply Keeps.on (State.dbgGo_keeps ..); on_goal 2 => decide)

theorem State.ringOn_keeps (s : State) (v) (op) (a) : Keeps 0x3ff3ffffff6 s (State.ringOn s v op a) := by
  unfold State.ringOn
  repeat' first
    | with_reducible exact Keeps.rfl'
    | with_reducible refine State.whenLive_keeps ?_ (fun s => ?_)
    | (with_reducible apply Keeps.on (State.mboxRing_keeps ..); on_goal 2 => decide)

end Sys2Proof.Machine
end

