-- ==== Sys2Proof/Laws/KeepsRegisters.lean ====
section
/-!
SUPPORT. One lemma per operation of Machine/RegRead.lean, Machine/RegWrite.lean, Machine/Registers.lean: the parts it may change, and that it keeps the invariant.
-/
set_option linter.all false
namespace Sys2Proof.Machine
set_option Elab.async false

theorem State.accessError_keeps (s : State) (page) (cause) (a) : Keeps 0x200 s (State.accessError s page cause a) := by
  unfold State.accessError
  repeat' first
    | with_reducible exact Keeps.rfl'
    | with_reducible assumption
    | (extract_lets +onlyGivenNames x; guard_hyp x : State := _; refine Keeps.letv (x := x) ?_ (fun hx => ?_); (on_goal 1 => (unfold x; clear x)); (on_goal 2 => ((try clear_value x); rename' x => y)))
    | (extract_lets +onlyGivenNames x; rename' x => z)
    | with_reducible refine Keeps.ite (fun hc => ?_) (fun hc => ?_)
    | (with_reducible apply Keeps.on (State.modHeader_keeps ..); on_goal 2 => decide)

theorem State.countDeny_keeps (s : State) : Keeps 0x1000000200 s (State.countDeny s) := by
  unfold State.countDeny
  repeat' first
    | with_reducible exact Keeps.rfl'
    | with_reducible assumption
    | (extract_lets +onlyGivenNames x; guard_hyp x : State := _; refine Keeps.letv (x := x) ?_ (fun hx => ?_); (on_goal 1 => (unfold x; clear x)); (on_goal 2 => ((try clear_value x); rename' x => y)))
    | (extract_lets +onlyGivenNames x; rename' x => z)
    | (with_reducible apply Keeps.on (State.raiseIf_keeps ..); on_goal 2 => decide)
    | fail_if_no_progress (with_reducible apply Keeps.on (keeps_sec ..); on_goal 2 => decide)

theorem State.denyParts_keeps (s : State) (a) : Keeps 0x1000000200 s (State.denyParts s a) := by
  unfold State.denyParts
  repeat' first
    | with_reducible exact Keeps.rfl'
    | with_reducible assumption
    | with_reducible refine Keeps.ite (fun hc => ?_) (fun hc => ?_)
    | (with_reducible apply Keeps.on (State.countDeny_keeps ..); on_goal 2 => decide)
    | with_reducible refine Keeps.foldl ?_ (fun s a => ?_)

theorem State.clearRaw_keeps (s : State) (page) (bits) : Keeps 0x200 s (State.clearRaw s page bits) := by
  unfold State.clearRaw
  repeat' first
    | with_reducible exact Keeps.rfl'
    | with_reducible assumption
    | (extract_lets +onlyGivenNames x; guard_hyp x : State := _; refine Keeps.letv (x := x) ?_ (fun hx => ?_); (on_goal 1 => (unfold x; clear x)); (on_goal 2 => ((try clear_value x); rename' x => y)))
    | (extract_lets +onlyGivenNames x; rename' x => z)
    | (with_reducible apply Keeps.on (State.modHeader_keeps ..); on_goal 2 => decide)

theorem State.clearErrFlag_keeps (s : State) (page) : Keeps 0x200 s (State.clearErrFlag s page) := by
  unfold State.clearErrFlag
  repeat' first
    | with_reducible exact Keeps.rfl'
    | with_reducible assumption
    | (extract_lets +onlyGivenNames x; guard_hyp x : State := _; refine Keeps.letv (x := x) ?_ (fun hx => ?_); (on_goal 1 => (unfold x; clear x)); (on_goal 2 => ((try clear_value x); rename' x => y)))
    | (extract_lets +onlyGivenNames x; rename' x => z)
    | (with_reducible apply Keeps.on (State.modHeader_keeps ..); on_goal 2 => decide)

theorem State.discardPage_keeps (s : State) (page) : Keeps 0x180 s (State.discardPage s page) := by
  unfold State.discardPage
  extract_lets keep
  refine ⟨fun p hp => ?_, fun i => ⟨i.mem, i.seq, i.replies, i.reqs, i.unack, i.squall, i.fill⟩⟩
  cases p <;> first | exact absurd hp (by decide) | rfl | exact ⟨rfl, rfl⟩

theorem State.expireLease_keeps (s : State) : Keeps 0x2200 s (State.expireLease s) := by
  unfold State.expireLease
  repeat' first
    | with_reducible exact Keeps.rfl'
    | with_reducible refine Keeps.ite (fun hc => ?_) (fun hc => ?_)
    | (with_reducible apply Keeps.on (State.freeLock_keeps ..); on_goal 2 => decide)

theorem State.seqAcquire_keeps (s : State) (id) : Keeps 0x2200 s (State.seqAcquire s id) := by
  unfold State.seqAcquire
  extract_lets me t
  refine Keeps.ite (fun _ => (State.freeLock_keeps ..).mono (by decide)) fun _ => ?_
  have ht : Keeps 0x2200 s t := (State.expireLease_keeps ..).mono (by decide)
  clear_value t
  refine Keeps.ite (fun _ => Keeps.ite (fun _ => ?_) fun _ => ht) fun _ => ?_
  · exact (keeps_regSeq t { t.regs.seq with tLease := t.tb } fun h => h).on ht (by decide)
  · exact (keeps_regSeq t { SeqLock.reset with held := true, owner := me, tLease := t.tb } fun _ => ⟨Nat.zero_le _, fun h => Bool.noConfusion h⟩).on ht (by decide)

theorem State.storeBrz_keeps (s : State) (ofs) (v) : Keeps 0x100000000 s (State.storeBrz s ofs v) := by
  unfold State.storeBrz
  repeat' first
    | with_reducible exact Keeps.rfl'
    | with_reducible assumption
    | (extract_lets +onlyGivenNames x; guard_hyp x : State := _; refine Keeps.letv (x := x) ?_ (fun hx => ?_); (on_goal 1 => (unfold x; clear x)); (on_goal 2 => ((try clear_value x); rename' x => y)))
    | (extract_lets +onlyGivenNames x; rename' x => z)
    | with_reducible refine Keeps.ite (fun hc => ?_) (fun hc => ?_)
    | fail_if_no_progress (with_reducible apply Keeps.on (keeps_brz _ _ ?q); (case q => first | exact id | exact fun _ => Nat.zero_le _); on_goal 2 => decide)

theorem State.storeImm_keeps (s : State) (page) (ofs) (v) : Keeps 0x90a421240 s (State.storeImm s page ofs v) := by
  unfold State.storeImm
  repeat' first
    | with_reducible exact Keeps.rfl'
    | with_reducible assumption
    | (extract_lets +onlyGivenNames x; guard_hyp x : State := _; refine Keeps.letv (x := x) ?_ (fun hx => ?_); (on_goal 1 => (unfold x; clear x)); (on_goal 2 => ((try clear_value x); rename' x => y)))
    | (extract_lets +onlyGivenNames x; rename' x => z)
    | with_reducible refine Keeps.ite (fun hc => ?_) (fun hc => ?_)
    | (with_reducible apply Keeps.on (State.modHeader_keeps ..); on_goal 2 => decide)
    | (with_reducible apply Keeps.on (State.storeBrz_keeps ..); on_goal 2 => decide)
    | (with_reducible apply Keeps.on (State.store_keeps ..); on_goal 2 => decide)
    | (with_reducible apply Keeps.on (State.noteTherm_keeps ..); on_goal 2 => decide)
    | (with_reducible apply Keeps.on (State.startSampling_keeps ..); on_goal 2 => decide)
    | (with_reducible apply Keeps.on (State.ingOn_keeps ..); on_goal 2 => decide)
    | (with_reducible apply Keeps.on (State.ingOff_keeps ..); on_goal 2 => decide)
    | fail_if_no_progress (with_reducible apply Keeps.on (keeps_regLock ..); on_goal 2 => decide)
    | fail_if_no_progress (with_reducible apply Keeps.on (keeps_errSeq ..); on_goal 2 => decide)
    | fail_if_no_progress (with_reducible apply Keeps.on (keeps_ao _ _ ?q); (case q => exact rfl); on_goal 2 => decide)
    | fail_if_no_progress (with_reducible apply Keeps.on (keeps_aoAll ..); on_goal 2 => decide)
    | fail_if_no_progress refine Keeps.upd ?_ (Or.inl rfl)

theorem State.enterValue_keeps (s : State) (page) (ofs) (v) (mask) (ap) : Keeps 0x90a4212c0 s (State.enterValue s page ofs v mask ap) := by
  unfold State.enterValue
  repeat' first
    | with_reducible exact Keeps.rfl'
    | with_reducible assumption
    | (extract_lets +onlyGivenNames x; guard_hyp x : State := _; refine Keeps.letv (x := x) ?_ (fun hx => ?_); (on_goal 1 => (unfold x; clear x)); (on_goal 2 => ((try clear_value x); rename' x => y)))
    | (extract_lets +onlyGivenNames x; rename' x => z)
    | with_reducible refine Keeps.ite (fun hc => ?_) (fun hc => ?_)
    | (with_reducible apply Keeps.on (State.storeImm_keeps ..); on_goal 2 => decide)
    | fail_if_no_progress (with_reducible apply Keeps.on (keeps_regShadows ..); on_goal 2 => decide)
    | split
    | (clear_value *; split)

theorem State.enterHigh_keeps (s : State) (page) (ofs) (v) (mask) (ap) : Keeps 0x90a4213c0 s (State.enterHigh s page ofs v mask ap) := by
  unfold State.enterHigh
  repeat' first
    | with_reducible exact Keeps.rfl'
    | with_reducible assumption
    | (extract_lets +onlyGivenNames x; guard_hyp x : State := _; refine Keeps.letv (x := x) ?_ (fun hx => ?_); (on_goal 1 => (unfold x; clear x)); (on_goal 2 => ((try clear_value x); rename' x => y)))
    | (extract_lets +onlyGivenNames x; rename' x => z)
    | with_reducible refine Keeps.ite (fun hc => ?_) (fun hc => ?_)
    | (with_reducible apply Keeps.on (State.writeRp_keeps ..); on_goal 2 => decide)
    | (with_reducible apply Keeps.on (State.enterValue_keeps ..); on_goal 2 => decide)
    | fail_if_no_progress (with_reducible apply Keeps.on (keeps_regLow ..); on_goal 2 => decide)
    | split
    | (clear_value *; split)

theorem State.writeRw_keeps (s : State) (a) (r) : Keeps 0x190a4213c0 s (State.writeRw s a r) := by
  unfold State.writeRw
  repeat' first
    | with_reducible exact Keeps.rfl'
    | with_reducible assumption
    | (extract_lets +onlyGivenNames x; guard_hyp x : State := _; refine Keeps.letv (x := x) ?_ (fun hx => ?_); (on_goal 1 => (unfold x; clear x)); (on_goal 2 => ((try clear_value x); rename' x => y)))
    | (extract_lets +onlyGivenNames x; rename' x => z)
    | with_reducible refine Keeps.ite (fun hc => ?_) (fun hc => ?_)
    | (with_reducible apply Keeps.on (State.countDeny_keeps ..); on_goal 2 => decide)
    | (with_reducible apply Keeps.on (State.accessError_keeps ..); on_goal 2 => decide)
    | (with_reducible apply Keeps.on (State.enterHigh_keeps ..); on_goal 2 => decide)
    | (with_reducible apply Keeps.on (State.enterValue_keeps ..); on_goal 2 => decide)
    | fail_if_no_progress (with_reducible apply Keeps.on (keeps_regLow ..); on_goal 2 => decide)

theorem actIf_keeps {m : Nat} {s0 s : State} {v : Reg} {k : Nat} {f : State → State} (h : Keeps m s0 s) (hf : ∀ s, Keeps m s (f s)) :
    Keeps m s0 (actIf v k f s) := by
  unfold actIf
  exact Keeps.ite (fun _ => h.trans (hf s)) fun _ => h

theorem State.actUnit_keeps (s : State) (page) (ofs) (v) : Keeps 0x35f3ffd027c s (State.actUnit s page ofs v) := by
  unfold State.actUnit
  repeat' first
    | with_reducible exact Keeps.rfl'
    | with_reducible assumption
    | (extract_lets +onlyGivenNames x; guard_hyp x : State := _; refine Keeps.letv (x := x) ?_ (fun hx => ?_); (on_goal 1 => (unfold x; clear x)); (on_goal 2 => ((try clear_value x); rename' x => y)))
    | (extract_lets +onlyGivenNames x; rename' x => z)
    | with_reducible refine Keeps.ite (fun hc => ?_) (fun hc => ?_)
    | with_reducible refine actIf_keeps ?_ (fun s => ?_)
    | (with_reducible apply Keeps.on (State.doorbell_keeps ..); on_goal 2 => decide)
    | (with_reducible apply Keeps.on (State.clearRes_keeps ..); on_goal 2 => decide)
    | (with_reducible apply Keeps.on (State.clearPwr_keeps ..); on_goal 2 => decide)
    | (with_reducible apply Keeps.on (State.setCap_keeps ..); on_goal 2 => decide)
    | (with_reducible apply Keeps.on (State.clearVofs_keeps ..); on_goal 2 => decide)
    | (with_reducible apply Keeps.on (State.clearBrz_keeps ..); on_goal 2 => decide)
    | (with_reducible apply Keeps.on (State.brzRelease_keeps ..); on_goal 2 => decide)
    | (with_reducible apply Keeps.on (State.brzSend_keeps ..); on_goal 2 => decide)
    | (with_reducible apply Keeps.on (State.clearDeny_keeps ..); on_goal 2 => decide)
    | (with_reducible apply Keeps.on (State.patchLoad_keeps ..); on_goal 2 => decide)
    | (with_reducible apply Keeps.on (State.keyClear_keeps ..); on_goal 2 => decide)
    | (with_reducible apply Keeps.on (State.keyDerive_keeps ..); on_goal 2 => decide)
    | (with_reducible apply Keeps.on (State.clearOtp_keeps ..); on_goal 2 => decide)
    | (with_reducible apply Keeps.on (State.otpProgram_keeps ..); on_goal 2 => decide)
    | (with_reducible apply Keeps.on (State.clearErr_keeps ..); on_goal 2 => decide)
    | (with_reducible apply Keeps.on (State.clearFirst_keeps ..); on_goal 2 => decide)
    | (with_reducible apply Keeps.on (State.ackEvery_keeps ..); on_goal 2 => decide)
    | (with_reducible apply Keeps.on (State.ackOne_keeps ..); on_goal 2 => decide)
    | (with_reducible apply Keeps.on (State.clearSamples_keeps ..); on_goal 2 => decide)
    | (with_reducible apply Keeps.on (State.clearUnderrun_keeps ..); on_goal 2 => decide)
    | (with_reducible apply Keeps.on (State.closeFill_keeps ..); on_goal 2 => decide)
    | (with_reducible apply Keeps.on (State.clearOvf_keeps ..); on_goal 2 => decide)
    | (with_reducible apply Keeps.on (State.clearTel_keeps ..); on_goal 2 => decide)
    | (with_reducible apply Keeps.on (State.snapAll_keeps ..); on_goal 2 => decide)
    | (with_reducible apply Keeps.on (State.clearFab_keeps ..); on_goal 2 => decide)
    | (with_reducible apply Keeps.on (State.clearLongest_keeps ..); on_goal 2 => decide)
    | (with_reducible apply Keeps.on (State.clearArb_keeps ..); on_goal 2 => decide)
    | (with_reducible apply Keeps.on (State.clearShr_keeps ..); on_goal 2 => decide)
    | (with_reducible apply Keeps.on (State.feasTrigger_keeps ..); on_goal 2 => decide)
    | (with_reducible apply Keeps.on (State.clearLdg_keeps ..); on_goal 2 => decide)
    | (with_reducible apply Keeps.on (State.clearAllPoison_keeps ..); on_goal 2 => decide)
    | (with_reducible apply Keeps.on (State.clearSelPoison_keeps ..); on_goal 2 => decide)
    | (with_reducible apply Keeps.on (State.abortSelGroup_keeps ..); on_goal 2 => decide)
    | (with_reducible apply Keeps.on (State.capArm_keeps ..); on_goal 2 => decide)
    | (with_reducible apply Keeps.on (State.dbgDoorbell_keeps ..); on_goal 2 => decide)
    | (with_reducible apply Keeps.on (State.cmdClearLoss_keeps ..); on_goal 2 => decide)
    | (with_reducible apply Keeps.on (State.cmdClearSpr_keeps ..); on_goal 2 => decide)
    | (with_reducible apply Keeps.on (State.sprGo_keeps ..); on_goal 2 => decide)

theorem State.actInstance_keeps (s : State) (k) (n) (ofs) (v) : Keeps 0x3ff3ffffffe s (State.actInstance s k n ofs v) := by
  unfold State.actInstance
  repeat' first
    | with_reducible exact Keeps.rfl'
    | with_reducible assumption
    | (extract_lets +onlyGivenNames x; guard_hyp x : State := _; refine Keeps.letv (x := x) ?_ (fun hx => ?_); (on_goal 1 => (unfold x; clear x)); (on_goal 2 => ((try clear_value x); rename' x => y)))
    | (extract_lets +onlyGivenNames x; rename' x => z)
    | with_reducible refine Keeps.ite (fun hc => ?_) (fun hc => ?_)
    | with_reducible refine actIf_keeps ?_ (fun s => ?_)
    | (with_reducible apply Keeps.on (State.clearPrt_keeps ..); on_goal 2 => decide)
    | (with_reducible apply Keeps.on (State.startPortReset_keeps ..); on_goal 2 => decide)
    | (with_reducible apply Keeps.on (State.ingClear_keeps ..); on_goal 2 => decide)
    | (with_reducible apply Keeps.on (State.ingRearm_keeps ..); on_goal 2 => decide)
    | (with_reducible apply Keeps.on (State.ingTrigger_keeps ..); on_goal 2 => decide)
    | (with_reducible apply Keeps.on (State.clearGrp_keeps ..); on_goal 2 => decide)
    | (with_reducible apply Keeps.on (State.clearVane_keeps ..); on_goal 2 => decide)
    | (with_reducible apply Keeps.on (State.mboxAbort_keeps ..); on_goal 2 => decide)
    | (with_reducible apply Keeps.on (State.mboxDoorbell_keeps ..); on_goal 2 => decide)
    | (with_reducible apply Keeps.on (State.orderFlush_keeps ..); on_goal 2 => decide)
    | (with_reducible apply Keeps.on (State.clearCh_keeps ..); on_goal 2 => decide)
    | (with_reducible apply Keeps.on (State.clearTrn_keeps ..); on_goal 2 => decide)
    | (with_reducible apply Keeps.on (State.startScan_keeps ..); on_goal 2 => decide)
    | (with_reducible apply Keeps.on (State.orderRetrain_keeps ..); on_goal 2 => decide)
    | (with_reducible apply Keeps.on (State.requestLull_keeps ..); on_goal 2 => decide)
    | split
    | (clear_value *; split)

theorem State.performWrite_keeps (s : State) (a) : Keeps 0x3ff3ffffffe s (State.performWrite s a) := by
  unfold State.performWrite
  repeat' first
    | with_reducible exact Keeps.rfl'
    | with_reducible assumption
    | (extract_lets +onlyGivenNames x; guard_hyp x : State := _; refine Keeps.letv (x := x) ?_ (fun hx => ?_); (on_goal 1 => (unfold x; clear x)); (on_goal 2 => ((try clear_value x); rename' x => y)))
    | (extract_lets +onlyGivenNames x; rename' x => z)
    | with_reducible refine Keeps.ite (fun hc => ?_) (fun hc => ?_)
    | (with_reducible apply Keeps.on (State.accessError_keeps ..); on_goal 2 => decide)
    | (with_reducible apply Keeps.on (State.holdWrite_keeps ..); on_goal 2 => decide)
    | (with_reducible apply Keeps.on (State.clearRaw_keeps ..); on_goal 2 => decide)
    | (with_reducible apply Keeps.on (State.writeRw_keeps ..); on_goal 2 => decide)
    | with_reducible refine actIf_keeps ?_ (fun s => ?_)
    | (with_reducible apply Keeps.on (State.clearErrFlag_keeps ..); on_goal 2 => decide)
    | (with_reducible apply Keeps.on (State.discardPage_keeps ..); on_goal 2 => decide)
    | (with_reducible apply Keeps.on (State.raiseMask_keeps ..); on_goal 2 => decide)
    | (with_reducible apply Keeps.on (State.actInstance_keeps ..); on_goal 2 => decide)
    | (with_reducible apply Keeps.on (State.actUnit_keeps ..); on_goal 2 => decide)
    | split
    | (clear_value *; split)

theorem State.seqRelease_keeps (s : State) (id) (commit) : Keeps 0x3ff3ffffffe s (State.seqRelease s id commit) := by
  unfold State.seqRelease
  repeat' first
    | with_reducible exact Keeps.rfl'
    | with_reducible assumption
    | (extract_lets +onlyGivenNames x; guard_hyp x : State := _; refine Keeps.letv (x := x) ?_ (fun hx => ?_); (on_goal 1 => (unfold x; clear x)); (on_goal 2 => ((try clear_value x); rename' x => y)))
    | (extract_lets +onlyGivenNames x; rename' x => z)
    | with_reducible refine Keeps.ite (fun hc => ?_) (fun hc => ?_)
    | (with_reducible apply Keeps.on (State.freeLock_keeps ..); on_goal 2 => decide)
    | (with_reducible apply Keeps.on (State.performWrite_keeps ..); on_goal 2 => decide)
    | fail_if_no_progress (with_reducible apply Keeps.on (keeps_regSeq _ _ ?q); (case q => first | exact id | exact fun _ => seqOk_reset); on_goal 2 => decide)
    | with_reducible refine Keeps.foldl ?_ (fun s a => ?_)

theorem State.seqCommand_keeps (s : State) (id) (v) : Keeps 0x3ff3ffffffe s (State.seqCommand s id v) := by
  unfold State.seqCommand
  repeat' first
    | with_reducible exact Keeps.rfl'
    | with_reducible refine Keeps.ite (fun hc => ?_) (fun hc => ?_)
    | (with_reducible apply Keeps.on (State.seqAcquire_keeps ..); on_goal 2 => decide)
    | (with_reducible apply Keeps.on (State.seqRelease_keeps ..); on_goal 2 => decide)

theorem State.stage_keeps (s : State) (a) (hh : s.regs.seq.held = true) : Keeps 0x2000 s (State.stage s a) := by
  unfold State.stage
  refine Keeps.ite (fun hc => ?_) fun _ => ?_
  · refine keeps_regSeq s _ fun _ => ⟨?_, fun h => absurd (hh.symm.trans h) (by decide)⟩
    show (s.regs.seq.staged ++ [a]).length ≤ 64
    rw [List.length_append]; exact hc
  · exact keeps_regSeq s _ fun i => ⟨i.1, fun h => absurd (hh.symm.trans h) (by decide)⟩

theorem State.stage_held (s : State) (a) : (s.stage a).regs.seq.held = s.regs.seq.held := by
  unfold State.stage; split <;> rfl

theorem State.stageAll_keeps (s : State) (l : List Access) (h : s.regs.seq.held = true) :
    Keeps 0x2000 s (l.foldl (fun (s : State) (a : Access) => s.stage { a with reqid := s.regs.seq.owner }) s) := by
  induction l generalizing s with
  | nil => exact Keeps.rfl'
  | cons a l ih => exact (State.stage_keeps s _ h).trans (ih _ ((State.stage_held ..).trans h))

theorem State.rowWrite_keeps {m : Nat} {s0 s : State} {l : List Access} {f : State → State} (h : Keeps m s0 s)
    (hm : 0x2200 &&& m = 0x2200) (hf : ∀ s, Keeps m s (f s)) : Keeps m s0 (s.rowWrite l f) := by
  unfold State.rowWrite
  extract_lets t
  have ht : Keeps m s0 t := ((State.expireLease_keeps ..).mono (n := 0x2200) (by decide)).on h hm
  clear_value t
  exact Keeps.ite (fun hh => ((State.stageAll_keeps t l hh).mono (n := 0x2200) (by decide)).on ht hm) fun _ => ht.trans (hf t)

theorem State.offerWrite_keeps (s : State) (a) : Keeps 0x3ff3ffffffe s (State.offerWrite s a) := by
  unfold State.offerWrite
  extract_lets page ofs
  have ht : Keeps 0x3ff3ffffffe s s.expireLease := (State.expireLease_keeps ..).mono (by decide)
  generalize regSpec page ofs = r
  cases r with
  | none => exact (State.performWrite_keeps ..).mono (by decide)
  | some r =>
    dsimp only
    refine Keeps.ite (fun _ => Keeps.ite (fun _ => (State.seqCommand_keeps ..).mono (by decide)) fun _ => ht) fun _ => ?_
    refine Keeps.ite (fun hh => Keeps.ite (fun _ => (State.stage_keeps _ a hh.1).on ht (by decide)) fun _ =>
      (State.accessError_keeps ..).on ht (by decide)) fun _ => (State.performWrite_keeps ..).on ht (by decide)

theorem State.respondPort_keeps (s : State) (v) (err) : Keeps 0x4000 s (State.respondPort s v err) := by
  unfold State.respondPort
  repeat' first
    | with_reducible exact Keeps.rfl'
    | with_reducible assumption
    | (extract_lets +onlyGivenNames x; guard_hyp x : State := _; refine Keeps.letv (x := x) ?_ (fun hx => ?_); (on_goal 1 => (unfold x; clear x)); (on_goal 2 => ((try clear_value x); rename' x => y)))
    | (extract_lets +onlyGivenNames x; rename' x => z)
    | fail_if_no_progress (with_reducible apply Keeps.on (keeps_regResponse ..); on_goal 2 => decide)

theorem State.regWrite_keeps (s : State) (a) : Keeps 0x3ff3ffffffe s (State.regWrite s a) := by
  unfold State.regWrite
  repeat' first
    | with_reducible exact Keeps.rfl'
    | with_reducible assumption
    | (extract_lets +onlyGivenNames x; guard_hyp x : State := _; refine Keeps.letv (x := x) ?_ (fun hx => ?_); (on_goal 1 => (unfold x; clear x)); (on_goal 2 => ((try clear_value x); rename' x => y)))
    | (extract_lets +onlyGivenNames x; rename' x => z)
    | with_reducible refine Keeps.ite (fun hc => ?_) (fun hc => ?_)
    | (with_reducible apply Keeps.on (State.respondPort_keeps ..); on_goal 2 => decide)
    | (with_reducible apply Keeps.on (State.denyParts_keeps ..); on_goal 2 => decide)
    | (with_reducible apply Keeps.on (State.accessError_keeps ..); on_goal 2 => decide)
    | (with_reducible apply Keeps.on (State.offerWrite_keeps ..); on_goal 2 => decide)
    | with_reducible refine Keeps.foldl ?_ (fun s a => ?_)

theorem State.replayHeld_keeps (s : State) : Keeps 0x3ff3ffffffe s (State.replayHeld s) := by
  unfold State.replayHeld
  repeat' first
    | with_reducible exact Keeps.rfl'
    | with_reducible assumption
    | (extract_lets +onlyGivenNames x; guard_hyp x : State := _; refine Keeps.letv (x := x) ?_ (fun hx => ?_); (on_goal 1 => (unfold x; clear x)); (on_goal 2 => ((try clear_value x); rename' x => y)))
    | (extract_lets +onlyGivenNames x; rename' x => z)
    | (with_reducible apply Keeps.on (State.performWrite_keeps ..); on_goal 2 => decide)
    | fail_if_no_progress (with_reducible apply Keeps.on (keeps_regHeld ..); on_goal 2 => decide)
    | with_reducible refine Keeps.foldl ?_ (fun s a => ?_)

theorem State.enterSafe_keeps (s : State) (page) : Keeps 0x20637ff821c s (State.enterSafe s page) := by
  unfold State.enterSafe
  repeat' first
    | with_reducible exact Keeps.rfl'
    | with_reducible assumption
    | (extract_lets +onlyGivenNames x; guard_hyp x : State := _; refine Keeps.letv (x := x) ?_ (fun hx => ?_); (on_goal 1 => (unfold x; clear x)); (on_goal 2 => ((try clear_value x); rename' x => y)))
    | (extract_lets +onlyGivenNames x; rename' x => z)
    | with_reducible refine Keeps.ite (fun hc => ?_) (fun hc => ?_)
    | (with_reducible apply Keeps.on (State.voidGuarantees_keeps ..); on_goal 2 => decide)
    | (with_reducible apply Keeps.on (State.raiseIf_keeps ..); on_goal 2 => decide)
    | (with_reducible apply Keeps.on (State.raise_keeps ..); on_goal 2 => decide)
    | (with_reducible apply Keeps.on (State.isolate_keeps ..); on_goal 2 => decide)
    | (with_reducible apply Keeps.on (State.modIng_keeps ..); on_goal 2 => decide)
    | (with_reducible apply Keeps.on (State.ingOff_keeps ..); on_goal 2 => decide)
    | (with_reducible apply Keeps.on (State.stopRly_keeps ..); on_goal 2 => decide)
    | (with_reducible apply Keeps.on (State.declareFailed_keeps ..); on_goal 2 => decide)
    | fail_if_no_progress (with_reducible apply Keeps.on (keeps_shr ..); on_goal 2 => decide)
    | fail_if_no_progress (with_reducible apply Keeps.on (keeps_ledgerTable ..); on_goal 2 => decide)
    | fail_if_no_progress (with_reducible apply Keeps.on (keeps_ledger _ _ ?q); (case q => exact rfl); on_goal 2 => decide)
    | fail_if_no_progress (with_reducible apply Keeps.on (keeps_ledgerAll ..); on_goal 2 => decide)
    | with_reducible refine Keeps.foldl ?_ (fun s a => ?_)
    | split
    | (clear_value *; split)
    | fail_if_no_progress refine Keeps.upd ?_ (Or.inl rfl)

theorem State.parityFault_keeps (s : State) (page) (ofs) : Keeps 0x20637ffab9c s (State.parityFault s page ofs) := by
  unfold State.parityFault
  extract_lets t u other src0 src1 v
  have ht : Keeps 0x20637ffab9c s t := (State.modHeader_keeps ..).mono (by decide)
  clear_value t
  have hu : Keeps 0x20637ffab9c s u := (State.logError_keeps ..).on ((State.raise_keeps ..).on ht (by decide)) (by decide)
  clear_value u
  have hv : Keeps 0x20637ffab9c u v := by
    refine ⟨fun p hp => ?_, fun i => ⟨i.mem, ⟨?_, fun h => ?_⟩, i.replies, i.reqs, i.unack, i.squall, i.fill⟩⟩
    · cases p <;> first | exact absurd hp (by decide) | rfl | exact ⟨rfl, rfl⟩
    · exact Nat.le_trans (List.length_filter_le ..) i.seq.1
    · have := i.seq.2 h
      refine ⟨?_, this.2⟩
      show List.filter other u.regs.seq.staged = []
      rw [this.1]; rfl
  clear_value v
  exact (State.enterSafe_keeps ..).on (hu.trans hv) (by decide)

theorem State.logLost_keeps (s : State) : Keeps 0x234080204 s (State.logLost s) := by
  unfold State.logLost
  repeat' first
    | with_reducible exact Keeps.rfl'
    | with_reducible assumption
    | (extract_lets +onlyGivenNames x; guard_hyp x : State := _; refine Keeps.letv (x := x) ?_ (fun hx => ?_); (on_goal 1 => (unfold x; clear x)); (on_goal 2 => ((try clear_value x); rename' x => y)))
    | (extract_lets +onlyGivenNames x; rename' x => z)
    | with_reducible refine Keeps.ite (fun hc => ?_) (fun hc => ?_)
    | (with_reducible apply Keeps.on (State.logError_keeps ..); on_goal 2 => decide)
    | fail_if_no_progress (with_reducible apply Keeps.on (keeps_err _ _ ?q); (case q => first | exact id | exact fun _ => Nat.zero_le _); on_goal 2 => decide)

theorem State.readPart_keeps (s : State) (a) (fault) : Keeps 0x21e37ffab9c s (State.readPart s a fault).1 := by
  unfold State.readPart
  repeat' first
    | with_reducible exact Keeps.rfl'
    | with_reducible assumption
    | (extract_lets +onlyGivenNames x; guard_hyp x : State := _; refine Keeps.letv (x := x) ?_ (fun hx => ?_); (on_goal 1 => (unfold x; clear x)); (on_goal 2 => ((try clear_value x); rename' x => y)))
    | (extract_lets +onlyGivenNames x; rename' x => z)
    | with_reducible refine Keeps.ite (fun hc => ?_) (fun hc => ?_)
    | (with_reducible apply Keeps.on (State.parityFault_keeps ..); on_goal 2 => decide)
    | (with_reducible apply Keeps.on (State.accessError_keeps ..); on_goal 2 => decide)
    | (with_reducible apply Keeps.on (State.popWord_keeps ..); on_goal 2 => decide)
    | (split; rename_i t w hq; refine Keeps.letv (x := t) (Keeps.ofFst hq (Keeps.on (State.popWord_keeps ..) (by first | assumption | exact Keeps.rfl') (by decide))) (fun ht => ?_); clear hq)
    | (with_reducible apply Keeps.on (State.logLost_keeps ..); on_goal 2 => decide)
    | (with_reducible apply Keeps.on (State.countOtp_keeps ..); on_goal 2 => decide)
    | (with_reducible apply Keeps.on (State.tookFree_keeps ..); on_goal 2 => decide)
    | split
    | (clear_value *; split)

theorem State.regReadAccess_keeps (s : State) (a) (fault) : Keeps 0x21e37ffeb9c s (State.regReadAccess s a fault) := by
  unfold State.regReadAccess
  repeat' first
    | with_reducible exact Keeps.rfl'
    | with_reducible assumption
    | (extract_lets +onlyGivenNames x; guard_hyp x : State := _; refine Keeps.letv (x := x) ?_ (fun hx => ?_); (on_goal 1 => (unfold x; clear x)); (on_goal 2 => ((try clear_value x); rename' x => y)))
    | (extract_lets +onlyGivenNames x; rename' x => z)
    | with_reducible refine Keeps.ite (fun hc => ?_) (fun hc => ?_)
    | (with_reducible apply Keeps.on (State.respondPort_keeps ..); on_goal 2 => decide)
    | (with_reducible apply Keeps.on (State.denyParts_keeps ..); on_goal 2 => decide)
    | (with_reducible apply Keeps.on (State.accessError_keeps ..); on_goal 2 => decide)
    | (with_reducible apply Keeps.on (State.readPart_keeps ..); on_goal 2 => decide)
    | (split; rename_i t w hq; refine Keeps.letv (x := t) (Keeps.ofFst hq (Keeps.on (State.readPart_keeps ..) (by first | assumption | exact Keeps.rfl') (by decide))) (fun ht => ?_); clear hq)
    | with_reducible refine Keeps.foldl ?_ (fun s a => ?_)

theorem State.whenHeader_keeps {m : Nat} {s0 s : State} {page ofs : Nat} {v : Reg} {f : State → State} (h : Keeps m s0 s)
    (hm : 0x800 &&& m = 0x800) (hf : ∀ s, Keeps m s (f s)) : Keeps m s0 (s.whenHeader page ofs v f) := by
  unfold State.whenHeader
  exact Keeps.ite (fun _ => h.trans (hf s)) fun _ => Keeps.ite (fun _ => (State.holdWrite_keeps ..).on h hm) fun _ => h

end Sys2Proof.Machine
end

