-- ==== Sys2Proof/Laws/KeepsTick.lean ====
section
/-!
SUPPORT. One lemma per operation of Machine/Power.lean, Machine/TestAccess.lean, Machine/Tick.lean: the parts it may change, and that it keeps the invariant.
-/
set_option linter.all false
namespace Sys2Proof.Machine
set_option Elab.async false

theorem State.selectDr_keeps (s : State) (ir) (dr) (len) : Keeps 0x8000000000 s (State.selectDr s ir dr len) := by
  unfold State.selectDr
  repeat' first
    | with_reducible exact Keeps.rfl'
    | with_reducible assumption
    | (extract_lets +onlyGivenNames x; guard_hyp x : State := _; refine Keeps.letv (x := x) ?_ (fun hx => ?_); (on_goal 1 => (unfold x; clear x)); (on_goal 2 => ((try clear_value x); rename' x => y)))
    | (extract_lets +onlyGivenNames x; rename' x => z)
    | fail_if_no_progress (with_reducible apply Keeps.on (keeps_test ..); on_goal 2 => decide)

theorem State.loadIr_keeps (s : State) (ir) : Keeps 0x8000000004 s (State.loadIr s ir) := by
  unfold State.loadIr
  repeat' first
    | with_reducible exact Keeps.rfl'
    | with_reducible assumption
    | (extract_lets +onlyGivenNames x; guard_hyp x : State := _; refine Keeps.letv (x := x) ?_ (fun hx => ?_); (on_goal 1 => (unfold x; clear x)); (on_goal 2 => ((try clear_value x); rename' x => y)))
    | (extract_lets +onlyGivenNames x; rename' x => z)
    | with_reducible refine Keeps.ite (fun hc => ?_) (fun hc => ?_)
    | (with_reducible apply Keeps.on (State.selectDr_keeps ..); on_goal 2 => decide)
    | (with_reducible apply Keeps.on (State.tookFree_keeps ..); on_goal 2 => decide)

theorem State.regacc_keeps (s : State) (x) : Keeps 0x3ff3ffffffe s (State.regacc s x) := by
  unfold State.regacc
  repeat' first
    | with_reducible exact Keeps.rfl'
    | with_reducible assumption
    | (extract_lets +onlyGivenNames x; guard_hyp x : State := _; refine Keeps.letv (x := x) ?_ (fun hx => ?_); (on_goal 1 => (unfold x; clear x)); (on_goal 2 => ((try clear_value x); rename' x => y)))
    | (extract_lets +onlyGivenNames x; rename' x => z)
    | with_reducible refine Keeps.ite (fun hc => ?_) (fun hc => ?_)
    | (with_reducible apply Keeps.on (State.respondPort_keeps ..); on_goal 2 => decide)
    | (with_reducible apply Keeps.on (State.regWrite_keeps ..); on_goal 2 => decide)
    | (with_reducible apply Keeps.on (State.regReadAccess_keeps ..); on_goal 2 => decide)
    | (with_reducible apply Keeps.on (State.selectDr_keeps ..); on_goal 2 => decide)
    | fail_if_no_progress (with_reducible apply Keeps.on (keeps_test ..); on_goal 2 => decide)

theorem AlwaysOn.tickSlow_errSeq (x : AlwaysOn) : x.tickSlow.errSeq = x.errSeq := by
  unfold AlwaysOn.tickSlow
  dsimp only
  generalize 1000000000 = n
  generalize 1000000 = k
  generalize 32768 = d
  split <;> rfl

theorem AlwaysOn.tickFast_errSeq (x : AlwaysOn) (k) : (x.tickFast k).errSeq = x.errSeq := by
  unfold AlwaysOn.tickFast
  split <;> rfl

theorem State.tickResidency_keeps (s : State) : Keeps 0x6000000 s (State.tickResidency s) := by
  unfold State.tickResidency
  refine Keeps.ite (fun _ => Keeps.rfl') fun _ => Keeps.on (keeps_ao _ _ ?_) Keeps.rfl' (by decide)
  split
  · exact AlwaysOn.tickSlow_errSeq _
  · exact AlwaysOn.tickFast_errSeq _ _

theorem State.tickSums_keeps (s : State) : Keeps 0x400000200 s (State.tickSums s) := by
  unfold State.tickSums
  repeat' first
    | with_reducible exact Keeps.rfl'
    | with_reducible assumption
    | (extract_lets +onlyGivenNames x; guard_hyp x : State := _; refine Keeps.letv (x := x) ?_ (fun hx => ?_); (on_goal 1 => (unfold x; clear x)); (on_goal 2 => ((try clear_value x); rename' x => y)))
    | (extract_lets +onlyGivenNames x; rename' x => z)
    | with_reducible refine Keeps.ite (fun hc => ?_) (fun hc => ?_)
    | (with_reducible apply Keeps.on (State.telSys_keeps ..); on_goal 2 => decide)
    | with_reducible refine Keeps.foldl ?_ (fun s a => ?_)

theorem State.tickVanes_keeps (s : State) : Keeps 0x400000204 s (State.tickVanes s) := by
  unfold State.tickVanes
  repeat' first
    | with_reducible exact Keeps.rfl'
    | with_reducible assumption
    | (extract_lets +onlyGivenNames x; guard_hyp x : State := _; refine Keeps.letv (x := x) ?_ (fun hx => ?_); (on_goal 1 => (unfold x; clear x)); (on_goal 2 => ((try clear_value x); rename' x => y)))
    | (extract_lets +onlyGivenNames x; rename' x => z)
    | with_reducible refine Keeps.ite (fun hc => ?_) (fun hc => ?_)
    | (with_reducible apply Keeps.on (State.telSys_keeps ..); on_goal 2 => decide)
    | (with_reducible apply Keeps.on (State.tookFree_keeps ..); on_goal 2 => decide)
    | with_reducible refine Keeps.foldl ?_ (fun s a => ?_)

theorem State.tick_keeps (s : State) : Keeps 0x206360d820e s (State.tick s) := by
  unfold State.tick
  repeat' first
    | with_reducible exact Keeps.rfl'
    | with_reducible assumption
    | (extract_lets +onlyGivenNames x; guard_hyp x : State := _; refine Keeps.letv (x := x) ?_ (fun hx => ?_); (on_goal 1 => (unfold x; clear x)); (on_goal 2 => ((try clear_value x); rename' x => y)))
    | (extract_lets +onlyGivenNames x; rename' x => z)
    | with_reducible refine Keeps.ite (fun hc => ?_) (fun hc => ?_)
    | (with_reducible apply Keeps.on (State.tickResidency_keeps ..); on_goal 2 => decide)
    | (with_reducible apply Keeps.on (State.checkSink_keeps ..); on_goal 2 => decide)
    | (with_reducible apply Keeps.on (State.tickVanes_keeps ..); on_goal 2 => decide)
    | (with_reducible apply Keeps.on (State.tickSums_keeps ..); on_goal 2 => decide)
    | fail_if_no_progress (with_reducible apply Keeps.on (keeps_tb ..); on_goal 2 => decide)
    | with_reducible refine Keeps.foldl ?_ (fun s a => ?_)

end Sys2Proof.Machine
end

