-- ==== Sys2Proof/Laws/KeepsCommands.lean ====
section
/-!
SUPPORT. One lemma per command: it answers a next state, changes only the parts of its mask and keeps the invariant.
-/
set_option linter.all false
namespace Sys2Proof.Machine
set_option Elab.async false

/-- An outcome that is a next state, reached by a change that `Keeps` describes. -/
def Does (m : Nat) (s : State) (o : Host.Outcome State Fault Refusal) : Prop := ∃ t, o = .next t ∧ Keeps m s t

theorem execBusClaim_keeps (s : State) : Does 0x100000000 s (execBusClaim s) := by
  unfold execBusClaim
  refine ⟨_, rfl, ?_⟩
  repeat' first
    | with_reducible exact Keeps.rfl'
    | with_reducible refine Keeps.ite (fun hc => ?_) (fun hc => ?_)
    | (with_reducible apply Keeps.on (State.brzClaimed_keeps ..); on_goal 2 => decide)

theorem execFrameReceived_keeps (bytes) (collision) (s : State) : Does 0x118000230 s (execFrameReceived bytes collision s) := by
  unfold execFrameReceived
  refine ⟨_, rfl, ?_⟩
  repeat' first
    | with_reducible exact Keeps.rfl'
    | (with_reducible apply Keeps.on (State.brzFrameIn_keeps ..); on_goal 2 => decide)

theorem execPing_keeps (dest) (src) (payload) (s : State) : Does 0x118000230 s (execPing dest src payload s) := by
  unfold execPing
  refine ⟨_, rfl, ?_⟩
  repeat' first
    | with_reducible exact Keeps.rfl'
    | (with_reducible apply Keeps.on (State.brzMatch_keeps ..); on_goal 2 => decide)

theorem execStatus_keeps (dest) (src) (s : State) : Does 0x118000230 s (execStatus dest src s) := by
  unfold execStatus
  refine ⟨_, rfl, ?_⟩
  repeat' first
    | with_reducible exact Keeps.rfl'
    | (with_reducible apply Keeps.on (State.brzMatch_keeps ..); on_goal 2 => decide)

theorem execWake_keeps (dest) (src) (s : State) : Does 0x118000230 s (execWake dest src s) := by
  unfold execWake
  refine ⟨_, rfl, ?_⟩
  repeat' first
    | with_reducible exact Keeps.rfl'
    | (with_reducible apply Keeps.on (State.brzMatch_keeps ..); on_goal 2 => decide)

theorem execPlHint_keeps (dest) (src) (payload) (s : State) : Does 0x118000230 s (execPlHint dest src payload s) := by
  unfold execPlHint
  refine ⟨_, rfl, ?_⟩
  repeat' first
    | with_reducible exact Keeps.rfl'
    | (with_reducible apply Keeps.on (State.brzMatch_keeps ..); on_goal 2 => decide)

theorem execSquallToken_keeps (dest) (src) (s : State) : Does 0x118000230 s (execSquallToken dest src s) := by
  unfold execSquallToken
  refine ⟨_, rfl, ?_⟩
  repeat' first
    | with_reducible exact Keeps.rfl'
    | (with_reducible apply Keeps.on (State.brzMatch_keeps ..); on_goal 2 => decide)

theorem execSquallDone_keeps (dest) (src) (s : State) : Does 0x118000230 s (execSquallDone dest src s) := by
  unfold execSquallDone
  refine ⟨_, rfl, ?_⟩
  repeat' first
    | with_reducible exact Keeps.rfl'
    | (with_reducible apply Keeps.on (State.brzMatch_keeps ..); on_goal 2 => decide)

theorem execPingReply_keeps (dest) (src) (payload) (s : State) : Does 0x118000230 s (execPingReply dest src payload s) := by
  unfold execPingReply
  refine ⟨_, rfl, ?_⟩
  repeat' first
    | with_reducible exact Keeps.rfl'
    | (with_reducible apply Keeps.on (State.brzMatch_keeps ..); on_goal 2 => decide)

theorem execStatusReply_keeps (dest) (src) (payload) (s : State) : Does 0x118000230 s (execStatusReply dest src payload s) := by
  unfold execStatusReply
  refine ⟨_, rfl, ?_⟩
  repeat' first
    | with_reducible exact Keeps.rfl'
    | (with_reducible apply Keeps.on (State.brzMatch_keeps ..); on_goal 2 => decide)

theorem execFrameSend_keeps (rivals) (collision) (s : State) : Does 0x110000200 s (execFrameSend rivals collision s) := by
  unfold execFrameSend
  refine ⟨_, rfl, ?_⟩
  repeat' first
    | with_reducible exact Keeps.rfl'
    | with_reducible assumption
    | (extract_lets +onlyGivenNames x; guard_hyp x : State := _; refine Keeps.letv (x := x) ?_ (fun hx => ?_); (on_goal 1 => (unfold x; clear x)); (on_goal 2 => ((try clear_value x); rename' x => y)))
    | (extract_lets +onlyGivenNames x; rename' x => z)
    | with_reducible refine Keeps.ite (fun hc => ?_) (fun hc => ?_)
    | (with_reducible apply Keeps.on (State.sendFrame_keeps ..); on_goal 2 => decide)
    | split

theorem execHandshakeTimeout_keeps (sender) (s : State) : Does 0x110000204 s (execHandshakeTimeout sender s) := by
  unfold execHandshakeTimeout
  refine ⟨_, rfl, ?_⟩
  repeat' first
    | with_reducible exact Keeps.rfl'
    | with_reducible assumption
    | (extract_lets +onlyGivenNames x; guard_hyp x : State := _; refine Keeps.letv (x := x) ?_ (fun hx => ?_); (on_goal 1 => (unfold x; clear x)); (on_goal 2 => ((try clear_value x); rename' x => y)))
    | (extract_lets +onlyGivenNames x; rename' x => z)
    | with_reducible refine Keeps.ite (fun hc => ?_) (fun hc => ?_)
    | (with_reducible apply Keeps.on (State.sendTimeout_keeps ..); on_goal 2 => decide)
    | (with_reducible apply Keeps.on (State.brzBroken_keeps ..); on_goal 2 => decide)
    | split

theorem execStuck_keeps (low) (s : State) : Does 0x100000204 s (execStuck low s) := by
  unfold execStuck
  refine ⟨_, rfl, ?_⟩
  repeat' first
    | with_reducible exact Keeps.rfl'
    | with_reducible refine Keeps.ite (fun hc => ?_) (fun hc => ?_)
    | (with_reducible apply Keeps.on (State.brzStuck_keeps ..); on_goal 2 => decide)
    | (with_reducible apply Keeps.on (State.brzUnstuck_keeps ..); on_goal 2 => decide)

theorem execSend_keeps (s : State) : Does 0x100000000 s (execSend s) := by
  unfold execSend
  refine ⟨_, rfl, ?_⟩
  repeat' first
    | with_reducible exact Keeps.rfl'
    | with_reducible refine State.whenLive_keeps ?_ (fun s => ?_)
    | (with_reducible apply Keeps.on (State.brzSend_keeps ..); on_goal 2 => decide)

theorem execRxRelease_keeps (s : State) : Does 0x100000000 s (execRxRelease s) := by
  unfold execRxRelease
  refine ⟨_, rfl, ?_⟩
  repeat' first
    | with_reducible exact Keeps.rfl'
    | with_reducible refine State.whenLive_keeps ?_ (fun s => ?_)
    | (with_reducible apply Keeps.on (State.brzRelease_keeps ..); on_goal 2 => decide)

theorem execBrzClrCounters_keeps (s : State) : Does 0x100000000 s (execBrzClrCounters s) := by
  unfold execBrzClrCounters
  refine ⟨_, rfl, ?_⟩
  repeat' first
    | with_reducible exact Keeps.rfl'
    | with_reducible refine State.whenLive_keeps ?_ (fun s => ?_)
    | (with_reducible apply Keeps.on (State.clearBrz_keeps ..); on_goal 2 => decide)

theorem execListenerJoin_keeps (s : State) : Does 0x100000000 s (execListenerJoin s) := by
  unfold execListenerJoin
  refine ⟨_, rfl, ?_⟩
  repeat' first
    | with_reducible exact Keeps.rfl'
    | with_reducible assumption
    | (extract_lets +onlyGivenNames x; guard_hyp x : State := _; refine Keeps.letv (x := x) ?_ (fun hx => ?_); (on_goal 1 => (unfold x; clear x)); (on_goal 2 => ((try clear_value x); rename' x => y)))
    | (extract_lets +onlyGivenNames x; rename' x => z)
    | with_reducible refine Keeps.ite (fun hc => ?_) (fun hc => ?_)
    | (with_reducible apply Keeps.on (State.brzAfter_keeps ..); on_goal 2 => decide)
    | (with_reducible apply Keeps.on (State.modBrz_keeps _ _ ?q); (case q => first | exact fun _ h => h | exact fun _ _ => Nat.zero_le _); on_goal 2 => decide)

theorem execMicrocodeCheckDone_keeps (ok) (s : State) : Does 0x110c8900274 s (execMicrocodeCheckDone ok s) := by
  unfold execMicrocodeCheckDone
  refine ⟨_, rfl, ?_⟩
  repeat' first
    | with_reducible exact Keeps.rfl'
    | (with_reducible apply Keeps.on (State.microcodeChecked_keeps ..); on_goal 2 => decide)

theorem execDeviceResetEnd_keeps (s : State) : Does 0x900010 s (execDeviceResetEnd s) := by
  unfold execDeviceResetEnd
  refine ⟨_, rfl, ?_⟩
  repeat' first
    | with_reducible exact Keeps.rfl'
    | (with_reducible apply Keeps.on (State.deviceResetEnd_keeps ..); on_goal 2 => decide)

theorem execSliceTrainingDone_keeps (c) (dev) (e) (s : State) : Does 0x100009002f4 s (execSliceTrainingDone c dev e s) := by
  unfold execSliceTrainingDone
  refine ⟨_, rfl, ?_⟩
  repeat' first
    | with_reducible exact Keeps.rfl'
    | with_reducible refine Keeps.ite (fun hc => ?_) (fun hc => ?_)
    | (with_reducible apply Keeps.on (State.trainSlice_keeps ..); on_goal 2 => decide)

theorem execSelfRefreshExit_keeps (c) (s : State) : Does 0x100009002c0 s (execSelfRefreshExit c s) := by
  unfold execSelfRefreshExit
  refine ⟨_, rfl, ?_⟩
  repeat' first
    | with_reducible exact Keeps.rfl'
    | with_reducible refine Keeps.ite (fun hc => ?_) (fun hc => ?_)
    | (with_reducible apply Keeps.on (State.exitSlice_keeps ..); on_goal 2 => decide)

theorem execBringupComplete_keeps (s : State) : Does 0x377ffff36fe s (execBringupComplete s) := by
  unfold execBringupComplete
  refine ⟨_, rfl, ?_⟩
  repeat' first
    | with_reducible exact Keeps.rfl'
    | with_reducible assumption
    | (with_reducible apply Keeps.on (State.bringupDone_keeps ..); on_goal 2 => decide)

theorem execAck_keeps (s : State) : Does 0x200000000 s (execAck s) := by
  unfold execAck
  refine ⟨_, rfl, ?_⟩
  repeat' first
    | with_reducible exact Keeps.rfl'
    | with_reducible refine State.whenLive_keeps ?_ (fun s => ?_)
    | (with_reducible apply Keeps.on (State.ackOne_keeps ..); on_goal 2 => decide)

theorem execAckAll_keeps (s : State) : Does 0x200000000 s (execAckAll s) := by
  unfold execAckAll
  refine ⟨_, rfl, ?_⟩
  repeat' first
    | with_reducible exact Keeps.rfl'
    | with_reducible refine State.whenLive_keeps ?_ (fun s => ?_)
    | (with_reducible apply Keeps.on (State.ackEvery_keeps ..); on_goal 2 => decide)

theorem execClrFirst_keeps (s : State) : Does 0x200000000 s (execClrFirst s) := by
  unfold execClrFirst
  refine ⟨_, rfl, ?_⟩
  repeat' first
    | with_reducible exact Keeps.rfl'
    | with_reducible refine State.whenLive_keeps ?_ (fun s => ?_)
    | (with_reducible apply Keeps.on (State.clearFirst_keeps ..); on_goal 2 => decide)

theorem execErrClrCounters_keeps (s : State) : Does 0x200000000 s (execErrClrCounters s) := by
  unfold execErrClrCounters
  refine ⟨_, rfl, ?_⟩
  repeat' first
    | with_reducible exact Keeps.rfl'
    | with_reducible refine State.whenLive_keeps ?_ (fun s => ?_)
    | (with_reducible apply Keeps.on (State.clearErr_keeps ..); on_goal 2 => decide)

theorem execArbPhase_keeps (h) (flit) (s : State) : Does 0x3463ffd823c s (execArbPhase h flit s) := by
  unfold execArbPhase
  refine ⟨_, rfl, ?_⟩
  repeat' first
    | with_reducible exact Keeps.rfl'
    | with_reducible refine Keeps.ite (fun hc => ?_) (fun hc => ?_)
    | (with_reducible apply Keeps.on (State.arbitrate_keeps ..); on_goal 2 => decide)

theorem execArbTickAdvance_keeps (h) (s : State) : Does 0x110200 s (execArbTickAdvance h s) := by
  unfold execArbTickAdvance
  refine ⟨_, rfl, ?_⟩
  repeat' first
    | with_reducible exact Keeps.rfl'
    | with_reducible refine Keeps.ite (fun hc => ?_) (fun hc => ?_)
    | (with_reducible apply Keeps.on (State.advanceTick_keeps ..); on_goal 2 => decide)

theorem execBackoffExpiry_keeps (h) (s : State) : Does 0x10000 s (execBackoffExpiry h s) := by
  unfold execBackoffExpiry
  refine ⟨_, rfl, ?_⟩
  repeat' first
    | with_reducible exact Keeps.rfl'
    | with_reducible assumption
    | (extract_lets +onlyGivenNames x; guard_hyp x : State := _; refine Keeps.letv (x := x) ?_ (fun hx => ?_); (on_goal 1 => (unfold x; clear x)); (on_goal 2 => ((try clear_value x); rename' x => y)))
    | (extract_lets +onlyGivenNames x; rename' x => z)
    | with_reducible refine Keeps.ite (fun hc => ?_) (fun hc => ?_)
    | (with_reducible apply Keeps.on (State.mapReqs_keeps _ _ ?q); (case q => (intro r; (try split) <;> with_unfolding_all rfl)); on_goal 2 => decide)

theorem execRouteEpochSwap_keeps (h) (s : State) : Does 0x3063fbd022c s (execRouteEpochSwap h s) := by
  unfold execRouteEpochSwap
  refine ⟨_, rfl, ?_⟩
  repeat' first
    | with_reducible exact Keeps.rfl'
    | (with_reducible apply Keeps.on (State.swapEpoch_keeps ..); on_goal 2 => decide)

theorem execFenceDone_keeps (h) (s : State) : Does 0x100200 s (execFenceDone h s) := by
  unfold execFenceDone
  refine ⟨_, rfl, ?_⟩
  repeat' first
    | with_reducible exact Keeps.rfl'
    | with_reducible assumption
    | (extract_lets +onlyGivenNames x; guard_hyp x : State := _; refine Keeps.letv (x := x) ?_ (fun hx => ?_); (on_goal 1 => (unfold x; clear x)); (on_goal 2 => ((try clear_value x); rename' x => y)))
    | (extract_lets +onlyGivenNames x; rename' x => z)
    | with_reducible refine Keeps.ite (fun hc => ?_) (fun hc => ?_)
    | (with_reducible apply Keeps.on (State.raise_keeps ..); on_goal 2 => decide)
    | (with_reducible apply Keeps.on (State.modHub_keeps ..); on_goal 2 => decide)
    | split

theorem execLateResponse_keeps (c) (s : State) : Does 0xa00200 s (execLateResponse c s) := by
  unfold execLateResponse
  refine ⟨_, rfl, ?_⟩
  repeat' first
    | with_reducible exact Keeps.rfl'
    | with_reducible assumption
    | (extract_lets +onlyGivenNames x; guard_hyp x : State := _; refine Keeps.letv (x := x) ?_ (fun hx => ?_); (on_goal 1 => (unfold x; clear x)); (on_goal 2 => ((try clear_value x); rename' x => y)))
    | (extract_lets +onlyGivenNames x; rename' x => z)
    | with_reducible refine Keeps.ite (fun hc => ?_) (fun hc => ?_)
    | (with_reducible apply Keeps.on (State.modHealth_keeps ..); on_goal 2 => decide)
    | (with_reducible apply Keeps.on (State.quarantine_keeps ..); on_goal 2 => decide)
    | (with_reducible apply Keeps.on (State.raiseIf_keeps ..); on_goal 2 => decide)
    | fail_if_no_progress (with_reducible apply Keeps.on (keeps_fab ..); on_goal 2 => decide)

theorem execFabClrCounters_keeps (s : State) : Does 0x200000 s (execFabClrCounters s) := by
  unfold execFabClrCounters
  refine ⟨_, rfl, ?_⟩
  repeat' first
    | with_reducible exact Keeps.rfl'
    | with_reducible refine State.whenLive_keeps ?_ (fun s => ?_)
    | (with_reducible apply Keeps.on (State.clearFab_keeps ..); on_goal 2 => decide)

theorem execArbClrCounters_keeps (s : State) : Does 0x200000 s (execArbClrCounters s) := by
  unfold execArbClrCounters
  refine ⟨_, rfl, ?_⟩
  repeat' first
    | with_reducible exact Keeps.rfl'
    | with_reducible refine State.whenLive_keeps ?_ (fun s => ?_)
    | (with_reducible apply Keeps.on (State.clearArb_keeps ..); on_goal 2 => decide)

theorem execClrLongest_keeps (s : State) : Does 0x200000 s (execClrLongest s) := by
  unfold execClrLongest
  refine ⟨_, rfl, ?_⟩
  repeat' first
    | with_reducible exact Keeps.rfl'
    | with_reducible refine State.whenLive_keeps ?_ (fun s => ?_)
    | (with_reducible apply Keeps.on (State.clearLongest_keeps ..); on_goal 2 => decide)

theorem execMemberReadReturn_keeps (c) (index) (err) (s : State) : Does 0x3063ffd023c s (execMemberReadReturn c index err s) := by
  unfold execMemberReadReturn
  refine ⟨_, rfl, ?_⟩
  repeat' first
    | with_reducible exact Keeps.rfl'
    | with_reducible assumption
    | (extract_lets +onlyGivenNames x; guard_hyp x : State := _; refine Keeps.letv (x := x) ?_ (fun hx => ?_); (on_goal 1 => (unfold x; clear x)); (on_goal 2 => ((try clear_value x); rename' x => y)))
    | (extract_lets +onlyGivenNames x; rename' x => z)
    | with_reducible refine Keeps.ite (fun hc => ?_) (fun hc => ?_)
    | (with_reducible apply Keeps.on (State.returnForwarded_keeps ..); on_goal 2 => decide)
    | (with_reducible apply Keeps.on (State.returnFirst_keeps ..); on_goal 2 => decide)
    | (with_reducible apply Keeps.on (State.returnSecond_keeps ..); on_goal 2 => decide)
    | split
    | (clear_value *; split)

theorem execMemberWriteAck_keeps (c) (index) (s : State) : Does 0x3063fbd022c s (execMemberWriteAck c index s) := by
  unfold execMemberWriteAck
  refine ⟨_, rfl, ?_⟩
  repeat' first
    | with_reducible exact Keeps.rfl'
    | with_reducible assumption
    | (extract_lets +onlyGivenNames x; guard_hyp x : State := _; refine Keeps.letv (x := x) ?_ (fun hx => ?_); (on_goal 1 => (unfold x; clear x)); (on_goal 2 => ((try clear_value x); rename' x => y)))
    | (extract_lets +onlyGivenNames x; rename' x => z)
    | with_reducible refine Keeps.ite (fun hc => ?_) (fun hc => ?_)
    | (with_reducible apply Keeps.on (State.landOp_keeps ..); on_goal 2 => decide)
    | (with_reducible apply Keeps.on (State.readEvictee_keeps ..); on_goal 2 => decide)
    | split
    | (clear_value *; split)

theorem execZeroFillStep_keeps (g) (s : State) : Does 0x409b1022c s (execZeroFillStep g s) := by
  unfold execZeroFillStep
  refine ⟨_, rfl, ?_⟩
  repeat' first
    | with_reducible exact Keeps.rfl'
    | with_reducible assumption
    | (extract_lets +onlyGivenNames x; guard_hyp x : State := _; refine Keeps.letv (x := x) ?_ (fun hx => ?_); (on_goal 1 => (unfold x; clear x)); (on_goal 2 => ((try clear_value x); rename' x => y)))
    | (extract_lets +onlyGivenNames x; rename' x => z)
    | with_reducible refine Keeps.ite (fun hc => ?_) (fun hc => ?_)
    | (with_reducible apply Keeps.on (State.vaneGrants_keeps ..); on_goal 2 => decide)
    | (with_reducible apply Keeps.on (State.spawnZero_keeps ..); on_goal 2 => decide)
    | split

theorem execGrpClrCounters_keeps (g) (s : State) : Does 0x100000 s (execGrpClrCounters g s) := by
  unfold execGrpClrCounters
  refine ⟨_, rfl, ?_⟩
  repeat' first
    | with_reducible exact Keeps.rfl'
    | with_reducible refine State.whenLive_keeps ?_ (fun s => ?_)
    | (with_reducible apply Keeps.on (State.clearGrp_keeps ..); on_goal 2 => decide)

theorem execIngestBeat_keeps (n) (b) (s : State) : Does 0x20200 s (execIngestBeat n b s) := by
  unfold execIngestBeat
  refine ⟨_, rfl, ?_⟩
  repeat' first
    | with_reducible exact Keeps.rfl'
    | (with_reducible apply Keeps.on (State.driveWarn_keeps ..); on_goal 2 => decide)
    | (with_reducible apply Keeps.on (State.takeBeat_keeps ..); on_goal 2 => decide)

theorem execIdleClose_keeps (n) (s : State) : Does 0x20000 s (execIdleClose n s) := by
  unfold execIdleClose
  refine ⟨_, rfl, ?_⟩
  repeat' first
    | with_reducible exact Keeps.rfl'
    | with_reducible refine Keeps.ite (fun hc => ?_) (fun hc => ?_)
    | (with_reducible apply Keeps.on (State.modIng_keeps ..); on_goal 2 => decide)

theorem execDrainStripeIssue_keeps (n) (s : State) : Does 0x20000030008 s (execDrainStripeIssue n s) := by
  unfold execDrainStripeIssue
  refine ⟨_, rfl, ?_⟩
  repeat' first
    | with_reducible exact Keeps.rfl'
    | with_reducible refine Keeps.ite (fun hc => ?_) (fun hc => ?_)
    | (with_reducible apply Keeps.on (State.drainOnce_keeps ..); on_goal 2 => decide)

theorem execDrainStripeAck_keeps (n) (s : State) : Does 0x20000030200 s (execDrainStripeAck n s) := by
  unfold execDrainStripeAck
  refine ⟨_, rfl, ?_⟩
  repeat' first
    | with_reducible exact Keeps.rfl'
    | with_reducible assumption
    | (extract_lets +onlyGivenNames x; guard_hyp x : State := _; refine Keeps.letv (x := x) ?_ (fun hx => ?_); (on_goal 1 => (unfold x; clear x)); (on_goal 2 => ((try clear_value x); rename' x => y)))
    | (extract_lets +onlyGivenNames x; rename' x => z)
    | (with_reducible apply Keeps.on (State.ackDrain_keeps ..); on_goal 2 => decide)
    | split

theorem execTrigger_keeps (n) (s : State) : Does 0x20000 s (execTrigger n s) := by
  unfold execTrigger
  refine ⟨_, rfl, ?_⟩
  repeat' first
    | with_reducible exact Keeps.rfl'
    | with_reducible assumption
    | (extract_lets +onlyGivenNames x; guard_hyp x : State := _; refine Keeps.letv (x := x) ?_ (fun hx => ?_); (on_goal 1 => (unfold x; clear x)); (on_goal 2 => ((try clear_value x); rename' x => y)))
    | (extract_lets +onlyGivenNames x; rename' x => z)
    | with_reducible refine Keeps.ite (fun hc => ?_) (fun hc => ?_)
    | (with_reducible apply Keeps.on (State.driveWarn_keeps ..); on_goal 2 => decide)
    | (with_reducible apply Keeps.on (State.modIng_keeps ..); on_goal 2 => decide)

theorem execFreezeComplete_keeps (n) (s : State) : Does 0x20200 s (execFreezeComplete n s) := by
  unfold execFreezeComplete
  refine ⟨_, rfl, ?_⟩
  repeat' first
    | with_reducible exact Keeps.rfl'
    | with_reducible assumption
    | (extract_lets +onlyGivenNames x; guard_hyp x : State := _; refine Keeps.letv (x := x) ?_ (fun hx => ?_); (on_goal 1 => (unfold x; clear x)); (on_goal 2 => ((try clear_value x); rename' x => y)))
    | (extract_lets +onlyGivenNames x; rename' x => z)
    | with_reducible refine Keeps.ite (fun hc => ?_) (fun hc => ?_)
    | (with_reducible apply Keeps.on (State.raise_keeps ..); on_goal 2 => decide)
    | (with_reducible apply Keeps.on (State.modIng_keeps ..); on_goal 2 => decide)

theorem execIngestPortReset_keeps (n) (s : State) : Does 0x30000 s (execIngestPortReset n s) := by
  unfold execIngestPortReset
  refine ⟨_, rfl, ?_⟩
  repeat' first
    | with_reducible exact Keeps.rfl'
    | with_reducible assumption
    | (extract_lets +onlyGivenNames x; guard_hyp x : State := _; refine Keeps.letv (x := x) ?_ (fun hx => ?_); (on_goal 1 => (unfold x; clear x)); (on_goal 2 => ((try clear_value x); rename' x => y)))
    | (extract_lets +onlyGivenNames x; rename' x => z)
    | with_reducible refine Keeps.ite (fun hc => ?_) (fun hc => ?_)
    | (with_reducible apply Keeps.on (State.modIng_keeps ..); on_goal 2 => decide)
    | (with_reducible apply Keeps.on (State.cutRecords_keeps ..); on_goal 2 => decide)

theorem execIngestPortResetRelease_keeps (n) (s : State) : Does 0x20000 s (execIngestPortResetRelease n s) := by
  unfold execIngestPortResetRelease
  refine ⟨_, rfl, ?_⟩
  repeat' first
    | with_reducible exact Keeps.rfl'
    | with_reducible assumption
    | (extract_lets +onlyGivenNames x; guard_hyp x : State := _; refine Keeps.letv (x := x) ?_ (fun hx => ?_); (on_goal 1 => (unfold x; clear x)); (on_goal 2 => ((try clear_value x); rename' x => y)))
    | (extract_lets +onlyGivenNames x; rename' x => z)
    | with_reducible refine Keeps.ite (fun hc => ?_) (fun hc => ?_)
    | (with_reducible apply Keeps.on (State.modIng_keeps ..); on_goal 2 => decide)

theorem execClosingComplete_keeps (n) (s : State) : Does 0x4302c0 s (execClosingComplete n s) := by
  unfold execClosingComplete
  refine ⟨_, rfl, ?_⟩
  repeat' first
    | with_reducible exact Keeps.rfl'
    | with_reducible assumption
    | with_reducible refine Keeps.ite (fun hc => ?_) (fun hc => ?_)
    | with_reducible refine State.noteEn_keeps ?_ (by decide) (fun s => ?_)
    | (with_reducible apply Keeps.on (State.leaveOff_keeps ..); on_goal 2 => decide)
    | (with_reducible apply Keeps.on (State.applyPoint_keeps ..); on_goal 2 => decide)
    | (with_reducible apply Keeps.on (State.raise_keeps ..); on_goal 2 => decide)
    | (with_reducible apply Keeps.on (State.modIng_keeps ..); on_goal 2 => decide)

theorem execRearm_keeps (n) (s : State) : Does 0x20000 s (execRearm n s) := by
  unfold execRearm
  refine ⟨_, rfl, ?_⟩
  repeat' first
    | with_reducible exact Keeps.rfl'
    | with_reducible refine State.whenLive_keeps ?_ (fun s => ?_)
    | (with_reducible apply Keeps.on (State.ingRearm_keeps ..); on_goal 2 => decide)

theorem execTrig_keeps (n) (s : State) : Does 0x20000 s (execTrig n s) := by
  unfold execTrig
  refine ⟨_, rfl, ?_⟩
  repeat' first
    | with_reducible exact Keeps.rfl'
    | with_reducible refine State.whenLive_keeps ?_ (fun s => ?_)
    | (with_reducible apply Keeps.on (State.ingTrigger_keeps ..); on_goal 2 => decide)

theorem execIngClrCounters_keeps (n) (s : State) : Does 0x20000 s (execIngClrCounters n s) := by
  unfold execIngClrCounters
  refine ⟨_, rfl, ?_⟩
  repeat' first
    | with_reducible exact Keeps.rfl'
    | with_reducible refine State.whenLive_keeps ?_ (fun s => ?_)
    | (with_reducible apply Keeps.on (State.ingClear_keeps ..); on_goal 2 => decide)

theorem execFlip_keeps (group) (s : State) : Does 0x6340d0204 s (execFlip group s) := by
  unfold execFlip
  refine ⟨_, rfl, ?_⟩
  repeat' first
    | with_reducible exact Keeps.rfl'
    | with_reducible assumption
    | (extract_lets +onlyGivenNames x; guard_hyp x : State := _; refine Keeps.letv (x := x) ?_ (fun hx => ?_); (on_goal 1 => (unfold x; clear x)); (on_goal 2 => ((try clear_value x); rename' x => y)))
    | (extract_lets +onlyGivenNames x; rename' x => z)
    | with_reducible refine Keeps.ite (fun hc => ?_) (fun hc => ?_)
    | (with_reducible apply Keeps.on (State.tableError_keeps ..); on_goal 2 => decide)
    | (with_reducible apply Keeps.on (State.setGroup_keeps ..); on_goal 2 => decide)
    | (with_reducible apply Keeps.on (State.telSys_keeps ..); on_goal 2 => decide)
    | (with_reducible apply Keeps.on (State.mapReqs_keeps _ _ ?q); (case q => (intro r; (try split) <;> with_unfolding_all rfl)); on_goal 2 => decide)
    | fail_if_no_progress (with_reducible apply Keeps.on (keeps_ledgerTable ..); on_goal 2 => decide)
    | fail_if_no_progress (with_reducible apply Keeps.on (keeps_ledger _ _ ?q); (case q => exact rfl); on_goal 2 => decide)
    | fail_if_no_progress (with_reducible apply Keeps.on (keeps_ledgerAll ..); on_goal 2 => decide)

theorem execSoloDone_keeps (slot) (s : State) : Does 0x6340d020c s (execSoloDone slot s) := by
  unfold execSoloDone
  refine ⟨_, rfl, ?_⟩
  repeat' first
    | with_reducible exact Keeps.rfl'
    | with_reducible assumption
    | (extract_lets +onlyGivenNames x; guard_hyp x : State := _; refine Keeps.letv (x := x) ?_ (fun hx => ?_); (on_goal 1 => (unfold x; clear x)); (on_goal 2 => ((try clear_value x); rename' x => y)))
    | (extract_lets +onlyGivenNames x; rename' x => z)
    | with_reducible refine Keeps.ite (fun hc => ?_) (fun hc => ?_)
    | (with_reducible apply Keeps.on (State.tableError_keeps ..); on_goal 2 => decide)
    | (with_reducible apply Keeps.on (State.refuseSolo_keeps ..); on_goal 2 => decide)
    | (with_reducible apply Keeps.on (State.endSolo_keeps ..); on_goal 2 => decide)
    | split

theorem execDemandResolution_keeps (half) (e) (s : State) : Does 0x10635fd021c s (execDemandResolution half e s) := by
  unfold execDemandResolution
  refine ⟨_, rfl, ?_⟩
  repeat' first
    | with_reducible exact Keeps.rfl'
    | with_reducible assumption
    | (extract_lets +onlyGivenNames x; guard_hyp x : State := _; refine Keeps.letv (x := x) ?_ (fun hx => ?_); (on_goal 1 => (unfold x; clear x)); (on_goal 2 => ((try clear_value x); rename' x => y)))
    | (extract_lets +onlyGivenNames x; rename' x => z)
    | with_reducible refine Keeps.ite (fun hc => ?_) (fun hc => ?_)
    | with_reducible refine State.withOwner_keeps ?_ (by decide) (fun s => ?_)
    | (with_reducible apply Keeps.on (State.settleEntry_keeps ..); on_goal 2 => decide)
    | split

theorem execSweepStep_keeps (half) (e) (s : State) : Does 0x10635fd021c s (execSweepStep half e s) := by
  unfold execSweepStep
  refine ⟨_, rfl, ?_⟩
  repeat' first
    | with_reducible exact Keeps.rfl'
    | with_reducible refine Keeps.ite (fun hc => ?_) (fun hc => ?_)
    | (with_reducible apply Keeps.on (State.sweepOnce_keeps ..); on_goal 2 => decide)

theorem execLdgClrCounters_keeps (s : State) : Does 0x40000 s (execLdgClrCounters s) := by
  unfold execLdgClrCounters
  refine ⟨_, rfl, ?_⟩
  repeat' first
    | with_reducible exact Keeps.rfl'
    | with_reducible refine State.whenLive_keeps ?_ (fun s => ?_)
    | (with_reducible apply Keeps.on (State.clearLdg_keeps ..); on_goal 2 => decide)

theorem execClearAllPoison_keeps (s : State) : Does 0x2340c0204 s (execClearAllPoison s) := by
  unfold execClearAllPoison
  refine ⟨_, rfl, ?_⟩
  repeat' first
    | with_reducible exact Keeps.rfl'
    | with_reducible refine State.whenLive_keeps ?_ (fun s => ?_)
    | (with_reducible apply Keeps.on (State.clearAllPoison_keeps ..); on_goal 2 => decide)

theorem execClearPoison_keeps (s : State) : Does 0x2340c0204 s (execClearPoison s) := by
  unfold execClearPoison
  refine ⟨_, rfl, ?_⟩
  repeat' first
    | with_reducible exact Keeps.rfl'
    | with_reducible refine State.whenLive_keeps ?_ (fun s => ?_)
    | (with_reducible apply Keeps.on (State.clearSelPoison_keeps ..); on_goal 2 => decide)

theorem execAbortGrp_keeps (s : State) : Does 0x6340d020c s (execAbortGrp s) := by
  unfold execAbortGrp
  refine ⟨_, rfl, ?_⟩
  repeat' first
    | with_reducible exact Keeps.rfl'
    | with_reducible refine State.whenLive_keeps ?_ (fun s => ?_)
    | (with_reducible apply Keeps.on (State.abortSelGroup_keeps ..); on_goal 2 => decide)

theorem execOscillatorPoll_keeps (c) (drift) (s : State) : Does 0x10000800000 s (execOscillatorPoll c drift s) := by
  unfold execOscillatorPoll
  refine ⟨_, rfl, ?_⟩
  repeat' first
    | with_reducible exact Keeps.rfl'
    | with_reducible assumption
    | (extract_lets +onlyGivenNames x; guard_hyp x : State := _; refine Keeps.letv (x := x) ?_ (fun hx => ?_); (on_goal 1 => (unfold x; clear x)); (on_goal 2 => ((try clear_value x); rename' x => y)))
    | (extract_lets +onlyGivenNames x; rename' x => z)
    | with_reducible refine Keeps.ite (fun hc => ?_) (fun hc => ?_)
    | (with_reducible apply Keeps.on (State.modTrain_keeps ..); on_goal 2 => decide)
    | (with_reducible apply Keeps.on (State.requestLull_keeps ..); on_goal 2 => decide)

theorem execLullIntervalExpiry_keeps (c) (s : State) : Does 0x10000800000 s (execLullIntervalExpiry c s) := by
  unfold execLullIntervalExpiry
  refine ⟨_, rfl, ?_⟩
  repeat' first
    | with_reducible exact Keeps.rfl'
    | with_reducible refine Keeps.ite (fun hc => ?_) (fun hc => ?_)
    | (with_reducible apply Keeps.on (State.requestLull_keeps ..); on_goal 2 => decide)

theorem execLullWindow_keeps (c) (e) (s : State) : Does 0x10235f90214 s (execLullWindow c e s) := by
  unfold execLullWindow
  refine ⟨_, rfl, ?_⟩
  repeat' first
    | with_reducible exact Keeps.rfl'
    | with_reducible refine Keeps.ite (fun hc => ?_) (fun hc => ?_)
    | (with_reducible apply Keeps.on (State.runLull_keeps ..); on_goal 2 => decide)

theorem execMarginFailRetry_keeps (c) (s : State) : Does 0x10235f90214 s (execMarginFailRetry c s) := by
  unfold execMarginFailRetry
  refine ⟨_, rfl, ?_⟩
  repeat' first
    | with_reducible exact Keeps.rfl'
    | with_reducible assumption
    | (extract_lets +onlyGivenNames x; guard_hyp x : State := _; refine Keeps.letv (x := x) ?_ (fun hx => ?_); (on_goal 1 => (unfold x; clear x)); (on_goal 2 => ((try clear_value x); rename' x => y)))
    | (extract_lets +onlyGivenNames x; rename' x => z)
    | with_reducible refine Keeps.ite (fun hc => ?_) (fun hc => ?_)
    | (with_reducible apply Keeps.on (State.retryMargin_keeps ..); on_goal 2 => decide)
    | (with_reducible apply Keeps.on (State.requestLull_keeps ..); on_goal 2 => decide)

theorem execFullRetrainDone_keeps (c) (e) (s : State) : Does 0x235f902d4 s (execFullRetrainDone c e s) := by
  unfold execFullRetrainDone
  refine ⟨_, rfl, ?_⟩
  refine Keeps.ite (fun _ => Keeps.rfl') fun _ => ?_
  have h := State.readBack_keeps s c e.dev
  generalize s.readBack c e.dev = q at h ⊢
  have h : Keeps 0x235f902d4 s q.1 := h.mono (by decide)
  split
  · exact (State.retrainPassed_keeps ..).on h (by decide)
  · exact (State.retrainFailed_keeps ..).on ((State.trainFailed_keeps ..).on h (by decide)) (by decide)
  · exact (State.retrainFailed_keeps ..).on ((State.raise_keeps ..).on h (by decide)) (by decide)

theorem execLull_keeps (c) (s : State) : Does 0x10000800800 s (execLull c s) := by
  unfold execLull
  refine ⟨_, rfl, ?_⟩
  repeat' first
    | with_reducible exact Keeps.rfl'
    | with_reducible refine State.whenSlice_keeps ?_ (by decide) (fun s => ?_)
    | (with_reducible apply Keeps.on (State.requestLull_keeps ..); on_goal 2 => decide)

theorem execRetrain_keeps (c) (s : State) : Does 0x235f90a14 s (execRetrain c s) := by
  unfold execRetrain
  refine ⟨_, rfl, ?_⟩
  repeat' first
    | with_reducible exact Keeps.rfl'
    | with_reducible refine State.whenSlice_keeps ?_ (by decide) (fun s => ?_)
    | (with_reducible apply Keeps.on (State.orderRetrain_keeps ..); on_goal 2 => decide)

theorem execScan_keeps (c) (s : State) : Does 0x800a40 s (execScan c s) := by
  unfold execScan
  refine ⟨_, rfl, ?_⟩
  repeat' first
    | with_reducible exact Keeps.rfl'
    | with_reducible refine State.whenSlice_keeps ?_ (by decide) (fun s => ?_)
    | (with_reducible apply Keeps.on (State.startScan_keeps ..); on_goal 2 => decide)

theorem execScanDone_keeps (c) (res0) (res1) (res2) (s : State) : Does 0x800240 s (execScanDone c res0 res1 res2 s) := by
  unfold execScanDone
  refine ⟨_, rfl, ?_⟩
  repeat' first
    | with_reducible exact Keeps.rfl'
    | with_reducible assumption
    | (extract_lets +onlyGivenNames x; guard_hyp x : State := _; refine Keeps.letv (x := x) ?_ (fun hx => ?_); (on_goal 1 => (unfold x; clear x)); (on_goal 2 => ((try clear_value x); rename' x => y)))
    | (extract_lets +onlyGivenNames x; rename' x => z)
    | with_reducible refine Keeps.ite (fun hc => ?_) (fun hc => ?_)
    | (with_reducible apply Keeps.on (State.scanMove_keeps ..); on_goal 2 => decide)
    | (with_reducible apply Keeps.on (State.raise_keeps ..); on_goal 2 => decide)
    | (with_reducible apply Keeps.on (State.modTrain_keeps ..); on_goal 2 => decide)

theorem execChTrnClrCounters_keeps (c) (s : State) : Does 0x800800 s (execChTrnClrCounters c s) := by
  unfold execChTrnClrCounters
  refine ⟨_, rfl, ?_⟩
  repeat' first
    | with_reducible exact Keeps.rfl'
    | with_reducible refine State.whenSlice_keeps ?_ (by decide) (fun s => ?_)
    | (with_reducible apply Keeps.on (State.clearTrn_keeps ..); on_goal 2 => decide)

theorem execPlChangeDecision_keeps (s : State) : Does 0x10108c102e0 s (execPlChangeDecision s) := by
  unfold execPlChangeDecision
  refine ⟨_, rfl, ?_⟩
  repeat' first
    | with_reducible exact Keeps.rfl'
    | (with_reducible apply Keeps.on (State.decidePl_keeps ..); on_goal 2 => decide)

theorem execStandbyPllLocked_keeps (c) (s : State) : Does 0x10008c102e0 s (execStandbyPllLocked c s) := by
  unfold execStandbyPllLocked
  refine ⟨_, rfl, ?_⟩
  repeat' first
    | with_reducible exact Keeps.rfl'
    | with_reducible assumption
    | (extract_lets +onlyGivenNames x; guard_hyp x : State := _; refine Keeps.letv (x := x) ?_ (fun hx => ?_); (on_goal 1 => (unfold x; clear x)); (on_goal 2 => ((try clear_value x); rename' x => y)))
    | (extract_lets +onlyGivenNames x; rename' x => z)
    | with_reducible refine Keeps.ite (fun hc => ?_) (fun hc => ?_)
    | (with_reducible apply Keeps.on (State.plSettle_keeps ..); on_goal 2 => decide)
    | (with_reducible apply Keeps.on (State.modTrain_keeps ..); on_goal 2 => decide)

theorem execSwitchStep_keeps (c) (s : State) : Does 0x10008d102e0 s (execSwitchStep c s) := by
  unfold execSwitchStep
  refine ⟨_, rfl, ?_⟩
  repeat' first
    | with_reducible exact Keeps.rfl'
    | with_reducible assumption
    | (extract_lets +onlyGivenNames x; guard_hyp x : State := _; refine Keeps.letv (x := x) ?_ (fun hx => ?_); (on_goal 1 => (unfold x; clear x)); (on_goal 2 => ((try clear_value x); rename' x => y)))
    | (extract_lets +onlyGivenNames x; rename' x => z)
    | with_reducible refine Keeps.ite (fun hc => ?_) (fun hc => ?_)
    | (with_reducible apply Keeps.on (State.switchStep_keeps ..); on_goal 2 => decide)
    | (with_reducible apply Keeps.on (State.orderDrain_keeps ..); on_goal 2 => decide)

theorem execSupplyMonitorUpdate_keeps (coreMv) (sliceMv) (pllOk) (s : State) : Does 0x10008c102e0 s (execSupplyMonitorUpdate coreMv sliceMv pllOk s) := by
  unfold execSupplyMonitorUpdate
  refine ⟨_, rfl, ?_⟩
  repeat' first
    | with_reducible exact Keeps.rfl'
    | with_reducible assumption
    | (extract_lets +onlyGivenNames x; guard_hyp x : State := _; refine Keeps.letv (x := x) ?_ (fun hx => ?_); (on_goal 1 => (unfold x; clear x)); (on_goal 2 => ((try clear_value x); rename' x => y)))
    | (extract_lets +onlyGivenNames x; rename' x => z)
    | (with_reducible apply Keeps.on (State.plSettle_keeps ..); on_goal 2 => decide)
    | (with_reducible apply Keeps.on (State.railsUp_keeps ..); on_goal 2 => decide)
    | fail_if_no_progress (with_reducible apply Keeps.on (keeps_pwr ..); on_goal 2 => decide)

theorem execVrampExpiry_keeps (s : State) : Does 0x108800220 s (execVrampExpiry s) := by
  unfold execVrampExpiry
  refine ⟨_, rfl, ?_⟩
  repeat' first
    | with_reducible exact Keeps.rfl'
    | with_reducible refine Keeps.ite (fun hc => ?_) (fun hc => ?_)
    | (with_reducible apply Keeps.on (State.abandonPl_keeps ..); on_goal 2 => decide)

theorem execThermalMonitorUpdate_keeps (c) (sliceT) (coreT) (s : State) : Does 0x10108800200 s (execThermalMonitorUpdate c sliceT coreT s) := by
  unfold execThermalMonitorUpdate
  refine ⟨_, rfl, ?_⟩
  repeat' first
    | with_reducible exact Keeps.rfl'
    | with_reducible assumption
    | (extract_lets +onlyGivenNames x; guard_hyp x : State := _; refine Keeps.letv (x := x) ?_ (fun hx => ?_); (on_goal 1 => (unfold x; clear x)); (on_goal 2 => ((try clear_value x); rename' x => y)))
    | (extract_lets +onlyGivenNames x; rename' x => z)
    | with_reducible refine Keeps.ite (fun hc => ?_) (fun hc => ?_)
    | (with_reducible apply Keeps.on (State.modTrain_keeps ..); on_goal 2 => decide)
    | (with_reducible apply Keeps.on (State.requestLull_keeps ..); on_goal 2 => decide)
    | (with_reducible apply Keeps.on (State.noteTherm_keeps ..); on_goal 2 => decide)
    | (with_reducible apply Keeps.on (State.capSlower_keeps ..); on_goal 2 => decide)
    | fail_if_no_progress (with_reducible apply Keeps.on (keeps_pwr ..); on_goal 2 => decide)

theorem execPaceMonitorUpdate_keeps (mon) (mhz) (s : State) : Does 0x8410200 s (execPaceMonitorUpdate mon mhz s) := by
  unfold execPaceMonitorUpdate
  refine ⟨_, rfl, ?_⟩
  repeat' first
    | with_reducible exact Keeps.rfl'
    | with_reducible assumption
    | (extract_lets +onlyGivenNames x; guard_hyp x : State := _; refine Keeps.letv (x := x) ?_ (fun hx => ?_); (on_goal 1 => (unfold x; clear x)); (on_goal 2 => ((try clear_value x); rename' x => y)))
    | (extract_lets +onlyGivenNames x; rename' x => z)
    | (with_reducible apply Keeps.on (State.notePace_keeps ..); on_goal 2 => decide)
    | fail_if_no_progress (with_reducible apply Keeps.on (keeps_pwr ..); on_goal 2 => decide)

theorem execPaceOffsetStep_keeps (s : State) : Does 0x108000020 s (execPaceOffsetStep s) := by
  unfold execPaceOffsetStep
  refine ⟨_, rfl, ?_⟩
  repeat' first
    | with_reducible exact Keeps.rfl'
    | (with_reducible apply Keeps.on (State.paceStep_keeps ..); on_goal 2 => decide)

theorem execVidHoldExpiry_keeps (s : State) : Does 0x100088002e0 s (execVidHoldExpiry s) := by
  unfold execVidHoldExpiry
  refine ⟨_, rfl, ?_⟩
  repeat' first
    | with_reducible exact Keeps.rfl'
    | with_reducible assumption
    | (extract_lets +onlyGivenNames x; guard_hyp x : State := _; refine Keeps.letv (x := x) ?_ (fun hx => ?_); (on_goal 1 => (unfold x; clear x)); (on_goal 2 => ((try clear_value x); rename' x => y)))
    | (extract_lets +onlyGivenNames x; rename' x => z)
    | with_reducible refine Keeps.ite (fun hc => ?_) (fun hc => ?_)
    | (with_reducible apply Keeps.on (State.setVid_keeps ..); on_goal 2 => decide)
    | (with_reducible apply Keeps.on (State.plEnd_keeps ..); on_goal 2 => decide)
    | fail_if_no_progress (with_reducible apply Keeps.on (keeps_pwr ..); on_goal 2 => decide)

theorem execOpRead_keeps (p) (r) (e) (s : State) : Does 0x20e3c0d822c s (execOpRead p r e s) := by
  unfold execOpRead
  refine ⟨_, rfl, ?_⟩
  repeat' first
    | with_reducible exact Keeps.rfl'
    | (with_reducible apply Keeps.on (State.present_keeps ..); on_goal 2 => decide)

theorem execOpWrite_keeps (p) (r) (e) (s : State) : Does 0x20e3c0d822c s (execOpWrite p r e s) := by
  unfold execOpWrite
  refine ⟨_, rfl, ?_⟩
  repeat' first
    | with_reducible exact Keeps.rfl'
    | (with_reducible apply Keeps.on (State.present_keeps ..); on_goal 2 => decide)

theorem execOpWriteXor_keeps (p) (r) (e) (s : State) : Does 0x20e3c0d822c s (execOpWriteXor p r e s) := by
  unfold execOpWriteXor
  refine ⟨_, rfl, ?_⟩
  repeat' first
    | with_reducible exact Keeps.rfl'
    | (with_reducible apply Keeps.on (State.present_keeps ..); on_goal 2 => decide)

theorem execOpFill_keeps (p) (r) (e) (s : State) : Does 0x20e3c0d822c s (execOpFill p r e s) := by
  unfold execOpFill
  refine ⟨_, rfl, ?_⟩
  repeat' first
    | with_reducible exact Keeps.rfl'
    | (with_reducible apply Keeps.on (State.present_keeps ..); on_goal 2 => decide)

theorem execGroupOpen_keeps (p) (r) (s : State) : Does 0x20e3c0d822c s (execGroupOpen p r s) := by
  unfold execGroupOpen
  refine ⟨_, rfl, ?_⟩
  repeat' first
    | with_reducible exact Keeps.rfl'
    | (with_reducible apply Keeps.on (State.present_keeps ..); on_goal 2 => decide)

theorem execGroupCommit_keeps (p) (r) (s : State) : Does 0x20e3c0d822c s (execGroupCommit p r s) := by
  unfold execGroupCommit
  refine ⟨_, rfl, ?_⟩
  repeat' first
    | with_reducible exact Keeps.rfl'
    | (with_reducible apply Keeps.on (State.present_keeps ..); on_goal 2 => decide)

theorem execGroupAbort_keeps (p) (r) (s : State) : Does 0x20e3c0d822c s (execGroupAbort p r s) := by
  unfold execGroupAbort
  refine ⟨_, rfl, ?_⟩
  repeat' first
    | with_reducible exact Keeps.rfl'
    | (with_reducible apply Keeps.on (State.present_keeps ..); on_goal 2 => decide)

theorem execOpBarrier_keeps (p) (r) (s : State) : Does 0x20e3c0d822c s (execOpBarrier p r s) := by
  unfold execOpBarrier
  refine ⟨_, rfl, ?_⟩
  repeat' first
    | with_reducible exact Keeps.rfl'
    | (with_reducible apply Keeps.on (State.present_keeps ..); on_goal 2 => decide)

theorem execReservedOpcode_keeps (p) (op) (r) (s : State) : Does 0x20e3c0d822c s (execReservedOpcode p op r s) := by
  unfold execReservedOpcode
  refine ⟨_, rfl, ?_⟩
  repeat' first
    | with_reducible exact Keeps.rfl'
    | (with_reducible apply Keeps.on (State.present_keeps ..); on_goal 2 => decide)

theorem execWriteDataBeat_keeps (p) (b) (s : State) : Does 0x206340d820c s (execWriteDataBeat p b s) := by
  unfold execWriteDataBeat
  refine ⟨_, rfl, ?_⟩
  repeat' first
    | with_reducible exact Keeps.rfl'
    | with_reducible assumption
    | (extract_lets +onlyGivenNames x; guard_hyp x : State := _; refine Keeps.letv (x := x) ?_ (fun hx => ?_); (on_goal 1 => (unfold x; clear x)); (on_goal 2 => ((try clear_value x); rename' x => y)))
    | (extract_lets +onlyGivenNames x; rename' x => z)
    | with_reducible refine Keeps.ite (fun hc => ?_) (fun hc => ?_)
    | (with_reducible apply Keeps.on (State.isolate_keeps ..); on_goal 2 => decide)
    | (with_reducible apply Keeps.on (State.modReq_keeps _ _ _ ?q); (case q => with_unfolding_all exact fun r => rfl); on_goal 2 => decide)
    | (with_reducible apply Keeps.on (State.takeUp_keeps ..); on_goal 2 => decide)
    | split
    | (clear_value *; split)

theorem execResponse_keeps (p) (tag) (s : State) : Does 0x20e344d820c s (execResponse p tag s) := by
  unfold execResponse
  refine ⟨_, rfl, ?_⟩
  repeat' first
    | with_reducible exact Keeps.rfl'
    | (with_reducible apply Keeps.on (State.warmFreeze_keeps ..); on_goal 2 => decide)
    | (with_reducible apply Keeps.on (State.respond_keeps ..); on_goal 2 => decide)

theorem execBarrierComplete_keeps (p) (tag) (s : State) : Does 0x20e344d820c s (execBarrierComplete p tag s) := by
  unfold execBarrierComplete
  refine ⟨_, rfl, ?_⟩
  repeat' first
    | with_reducible exact Keeps.rfl'
    | with_reducible assumption
    | (extract_lets +onlyGivenNames x; guard_hyp x : State := _; refine Keeps.letv (x := x) ?_ (fun hx => ?_); (on_goal 1 => (unfold x; clear x)); (on_goal 2 => ((try clear_value x); rename' x => y)))
    | (extract_lets +onlyGivenNames x; rename' x => z)
    | with_reducible refine Keeps.ite (fun hc => ?_) (fun hc => ?_)
    | (with_reducible apply Keeps.on (State.respond_keeps ..); on_goal 2 => decide)
    | (with_reducible apply Keeps.on (State.finishReq_keeps ..); on_goal 2 => decide)
    | (with_reducible apply Keeps.on (State.warmFreeze_keeps ..); on_goal 2 => decide)
    | (with_reducible apply Keeps.on (State.retryHeld_keeps ..); on_goal 2 => decide)
    | with_reducible refine Keeps.foldl ?_ (fun s a => ?_)
    | split
    | (clear_value *; split)

theorem execGroupCommitForward_keeps (p) (tag) (s : State) : Does 0x6340d020c s (execGroupCommitForward p tag s) := by
  unfold execGroupCommitForward
  refine ⟨_, rfl, ?_⟩
  repeat' first
    | with_reducible exact Keeps.rfl'
    | with_reducible assumption
    | (extract_lets +onlyGivenNames x; guard_hyp x : State := _; refine Keeps.letv (x := x) ?_ (fun hx => ?_); (on_goal 1 => (unfold x; clear x)); (on_goal 2 => ((try clear_value x); rename' x => y)))
    | (extract_lets +onlyGivenNames x; rename' x => z)
    | with_reducible refine Keeps.ite (fun hc => ?_) (fun hc => ?_)
    | (with_reducible apply Keeps.on (State.retryHeld_keeps ..); on_goal 2 => decide)
    | split

theorem execOrderedForward_keeps (p) (tag) (s : State) : Does 0x6340d020c s (execOrderedForward p tag s) := by
  unfold execOrderedForward
  refine ⟨_, rfl, ?_⟩
  repeat' first
    | with_reducible exact Keeps.rfl'
    | with_reducible assumption
    | (extract_lets +onlyGivenNames x; guard_hyp x : State := _; refine Keeps.letv (x := x) ?_ (fun hx => ?_); (on_goal 1 => (unfold x; clear x)); (on_goal 2 => ((try clear_value x); rename' x => y)))
    | (extract_lets +onlyGivenNames x; rename' x => z)
    | with_reducible refine Keeps.ite (fun hc => ?_) (fun hc => ?_)
    | (with_reducible apply Keeps.on (State.retryHeld_keeps ..); on_goal 2 => decide)
    | split

theorem execPortResetPin_keeps (p) (s : State) : Does 0x206340da20c s (execPortResetPin p s) := by
  unfold execPortResetPin
  refine ⟨_, rfl, ?_⟩
  repeat' first
    | with_reducible exact Keeps.rfl'
    | with_reducible assumption
    | (extract_lets +onlyGivenNames x; guard_hyp x : State := _; refine Keeps.letv (x := x) ?_ (fun hx => ?_); (on_goal 1 => (unfold x; clear x)); (on_goal 2 => ((try clear_value x); rename' x => y)))
    | (extract_lets +onlyGivenNames x; rename' x => z)
    | with_reducible refine Keeps.ite (fun hc => ?_) (fun hc => ?_)
    | (with_reducible apply Keeps.on (State.startPortReset_keeps ..); on_goal 2 => decide)
    | (with_reducible apply Keeps.on (State.modPort_keeps ..); on_goal 2 => decide)

theorem execPortReset_keeps (p) (s : State) : Does 0x206340da20c s (execPortReset p s) := by
  unfold execPortReset
  refine ⟨_, rfl, ?_⟩
  repeat' first
    | with_reducible exact Keeps.rfl'
    | with_reducible refine State.whenLive_keeps ?_ (fun s => ?_)
    | (with_reducible apply Keeps.on (State.startPortReset_keeps ..); on_goal 2 => decide)

theorem execPortResetDrainDone_keeps (p) (s : State) : Does 0x20e340d820c s (execPortResetDrainDone p s) := by
  unfold execPortResetDrainDone
  refine ⟨_, rfl, ?_⟩
  repeat' first
    | with_reducible exact Keeps.rfl'
    | with_reducible assumption
    | (extract_lets +onlyGivenNames x; guard_hyp x : State := _; refine Keeps.letv (x := x) ?_ (fun hx => ?_); (on_goal 1 => (unfold x; clear x)); (on_goal 2 => ((try clear_value x); rename' x => y)))
    | (extract_lets +onlyGivenNames x; rename' x => z)
    | with_reducible refine Keeps.ite (fun hc => ?_) (fun hc => ?_)
    | (with_reducible apply Keeps.on (State.discardReq_keeps ..); on_goal 2 => decide)
    | (with_reducible apply Keeps.on (State.warmFreeze_keeps ..); on_goal 2 => decide)
    | (with_reducible apply Keeps.on (State.raise_keeps ..); on_goal 2 => decide)
    | (with_reducible apply Keeps.on (State.modPort_keeps ..); on_goal 2 => decide)
    | with_reducible refine Keeps.foldl ?_ (fun s a => ?_)
    | split
    | (clear_value *; split)

theorem execPortResetRelease_keeps (p) (s : State) : Does 0x8000 s (execPortResetRelease p s) := by
  unfold execPortResetRelease
  refine ⟨_, rfl, ?_⟩
  repeat' first
    | with_reducible exact Keeps.rfl'
    | with_reducible assumption
    | (extract_lets +onlyGivenNames x; guard_hyp x : State := _; refine Keeps.letv (x := x) ?_ (fun hx => ?_); (on_goal 1 => (unfold x; clear x)); (on_goal 2 => ((try clear_value x); rename' x => y)))
    | (extract_lets +onlyGivenNames x; rename' x => z)
    | (with_reducible apply Keeps.on (State.modPort_keeps ..); on_goal 2 => decide)

theorem execPrtClrCounters_keeps (p) (s : State) : Does 0x8000 s (execPrtClrCounters p s) := by
  unfold execPrtClrCounters
  refine ⟨_, rfl, ?_⟩
  repeat' first
    | with_reducible exact Keeps.rfl'
    | with_reducible refine State.whenLive_keeps ?_ (fun s => ?_)
    | (with_reducible apply Keeps.on (State.clearPrt_keeps ..); on_goal 2 => decide)

theorem execWdTimeout_keeps (p) (tag) (s : State) : Does 0x206340d820c s (execWdTimeout p tag s) := by
  unfold execWdTimeout
  refine ⟨_, rfl, ?_⟩
  repeat' first
    | with_reducible exact Keeps.rfl'
    | with_reducible assumption
    | (extract_lets +onlyGivenNames x; guard_hyp x : State := _; refine Keeps.letv (x := x) ?_ (fun hx => ?_); (on_goal 1 => (unfold x; clear x)); (on_goal 2 => ((try clear_value x); rename' x => y)))
    | (extract_lets +onlyGivenNames x; rename' x => z)
    | with_reducible refine Keeps.ite (fun hc => ?_) (fun hc => ?_)
    | (with_reducible apply Keeps.on (State.isolate_keeps ..); on_goal 2 => decide)
    | split

theorem execTagWatchdog_keeps (p) (tag) (s : State) : Does 0x234090204 s (execTagWatchdog p tag s) := by
  unfold execTagWatchdog
  refine ⟨_, rfl, ?_⟩
  repeat' first
    | with_reducible exact Keeps.rfl'
    | with_reducible assumption
    | (extract_lets +onlyGivenNames x; guard_hyp x : State := _; refine Keeps.letv (x := x) ?_ (fun hx => ?_); (on_goal 1 => (unfold x; clear x)); (on_goal 2 => ((try clear_value x); rename' x => y)))
    | (extract_lets +onlyGivenNames x; rename' x => z)
    | with_reducible refine Keeps.ite (fun hc => ?_) (fun hc => ?_)
    | (with_reducible apply Keeps.on (State.logError_keeps ..); on_goal 2 => decide)
    | (with_reducible apply Keeps.on (State.modReq_keeps _ _ _ ?q); (case q => with_unfolding_all exact fun r => rfl); on_goal 2 => decide)
    | split

theorem execSwitchover_keeps (s : State) : Does 0x2000200 s (execSwitchover s) := by
  unfold execSwitchover
  refine ⟨_, rfl, ?_⟩
  repeat' first
    | with_reducible exact Keeps.rfl'
    | (with_reducible apply Keeps.on (State.toVbk_keeps ..); on_goal 2 => decide)

theorem execVmainAoReturn_keeps (s : State) : Does 0x2000000 s (execVmainAoReturn s) := by
  unfold execVmainAoReturn
  refine ⟨_, rfl, ?_⟩
  repeat' first
    | with_reducible exact Keeps.rfl'
    | (with_reducible apply Keeps.on (State.fromVbk_keeps ..); on_goal 2 => decide)

theorem execBrownOut_keeps (s : State) : Does 0x2ff3ffffff2 s (execBrownOut s) := by
  unfold execBrownOut
  refine ⟨_, rfl, ?_⟩
  repeat' first
    | with_reducible exact Keeps.rfl'
    | (with_reducible apply Keeps.on (State.brownOut_keeps ..); on_goal 2 => decide)

theorem execVbkLow_keeps (low) (s : State) : Does 0x2000200 s (execVbkLow low s) := by
  unfold execVbkLow
  refine ⟨_, rfl, ?_⟩
  repeat' first
    | with_reducible exact Keeps.rfl'
    | (with_reducible apply Keeps.on (State.setVbkLow_keeps ..); on_goal 2 => decide)

theorem execDoorbell_keeps (s : State) : Does 0x8000020 s (execDoorbell s) := by
  unfold execDoorbell
  refine ⟨_, rfl, ?_⟩
  repeat' first
    | with_reducible exact Keeps.rfl'
    | with_reducible refine State.whenLive_keeps ?_ (fun s => ?_)
    | (with_reducible apply Keeps.on (State.doorbell_keeps ..); on_goal 2 => decide)

theorem execPwrReqRise_keeps (st) (s : State) : Does 0x8000020 s (execPwrReqRise st s) := by
  unfold execPwrReqRise
  refine ⟨_, rfl, ?_⟩
  repeat' first
    | with_reducible exact Keeps.rfl'
    | (with_reducible apply Keeps.on (State.pwrReqUp_keeps ..); on_goal 2 => decide)

theorem execPwrReqFall_keeps (s : State) : Does 0x8000020 s (execPwrReqFall s) := by
  unfold execPwrReqFall
  refine ⟨_, rfl, ?_⟩
  repeat' first
    | with_reducible exact Keeps.rfl'
    | (with_reducible apply Keeps.on (State.pwrReqDown_keeps ..); on_goal 2 => decide)

theorem execDozeIdleExpiry_keeps (s : State) : Does 0x8000000 s (execDozeIdleExpiry s) := by
  unfold execDozeIdleExpiry
  refine ⟨_, rfl, ?_⟩
  repeat' first
    | with_reducible exact Keeps.rfl'
    | (with_reducible apply Keeps.on (State.doze_keeps ..); on_goal 2 => decide)

theorem execVoteAnswer_keeps (d) (s : State) : Does 0x3773eaf227c s (execVoteAnswer d s) := by
  unfold execVoteAnswer
  refine ⟨_, rfl, ?_⟩
  repeat' first
    | with_reducible exact Keeps.rfl'
    | (with_reducible apply Keeps.on (State.answerVote_keeps ..); on_goal 2 => decide)

theorem execVoteTimeout_keeps (d) (s : State) : Does 0x3773eaf227c s (execVoteTimeout d s) := by
  unfold execVoteTimeout
  refine ⟨_, rfl, ?_⟩
  repeat' first
    | with_reducible exact Keeps.rfl'
    | (with_reducible apply Keeps.on (State.answerVote_keeps ..); on_goal 2 => decide)

theorem execRollbackComplete_keeps (s : State) : Does 0x3363eff226c s (execRollbackComplete s) := by
  unfold execRollbackComplete
  refine ⟨_, rfl, ?_⟩
  repeat' first
    | with_reducible exact Keeps.rfl'
    | with_reducible assumption
    | (with_reducible apply Keeps.on (State.rollbackDone_keeps ..); on_goal 2 => decide)

theorem execSleepEntryComplete_keeps (s : State) : Does 0x10008900220 s (execSleepEntryComplete s) := by
  unfold execSleepEntryComplete
  refine ⟨_, rfl, ?_⟩
  repeat' first
    | with_reducible exact Keeps.rfl'
    | with_reducible assumption
    | (with_reducible apply Keeps.on (State.entryDone_keeps ..); on_goal 2 => decide)

theorem execSleepWake_keeps (s : State) : Does 0x3ff3ffffffe s (execSleepWake s) := by
  unfold execSleepWake
  refine ⟨_, rfl, ?_⟩
  repeat' first
    | with_reducible exact Keeps.rfl'
    | with_reducible refine Keeps.ite (fun hc => ?_) (fun hc => ?_)
    | (with_reducible apply Keeps.on (State.replayHeld_keeps ..); on_goal 2 => decide)
    | (with_reducible apply Keeps.on (State.wakeSlices_keeps ..); on_goal 2 => decide)

theorem execWakeComplete_keeps (s : State) : Does 0x3363eff226c s (execWakeComplete s) := by
  unfold execWakeComplete
  refine ⟨_, rfl, ?_⟩
  repeat' first
    | with_reducible exact Keeps.rfl'
    | with_reducible assumption
    | (with_reducible apply Keeps.on (State.wakeDone_keeps ..); on_goal 2 => decide)

theorem execClrRes_keeps (s : State) : Does 0x2000000 s (execClrRes s) := by
  unfold execClrRes
  refine ⟨_, rfl, ?_⟩
  repeat' first
    | with_reducible exact Keeps.rfl'
    | with_reducible refine State.whenLive_keeps ?_ (fun s => ?_)
    | (with_reducible apply Keeps.on (State.clearRes_keeps ..); on_goal 2 => decide)

theorem execPwrClrCounters_keeps (s : State) : Does 0x8000000 s (execPwrClrCounters s) := by
  unfold execPwrClrCounters
  refine ⟨_, rfl, ?_⟩
  repeat' first
    | with_reducible exact Keeps.rfl'
    | with_reducible refine State.whenLive_keeps ?_ (fun s => ?_)
    | (with_reducible apply Keeps.on (State.clearPwr_keeps ..); on_goal 2 => decide)

theorem execClrCap_keeps (s : State) : Does 0x108000000 s (execClrCap s) := by
  unfold execClrCap
  refine ⟨_, rfl, ?_⟩
  repeat' first
    | with_reducible exact Keeps.rfl'
    | with_reducible refine State.whenLive_keeps ?_ (fun s => ?_)
    | (with_reducible apply Keeps.on (State.setCap_keeps ..); on_goal 2 => decide)

theorem execClrVofs_keeps (s : State) : Does 0x8000020 s (execClrVofs s) := by
  unfold execClrVofs
  refine ⟨_, rfl, ?_⟩
  repeat' first
    | with_reducible exact Keeps.rfl'
    | with_reducible refine State.whenLive_keeps ?_ (fun s => ?_)
    | (with_reducible apply Keeps.on (State.clearVofs_keeps ..); on_goal 2 => decide)

theorem execRegisterWrite_keeps (a) (s : State) : Does 0x3ff3ffffffe s (execRegisterWrite a s) := by
  unfold execRegisterWrite
  refine ⟨_, rfl, ?_⟩
  repeat' first
    | with_reducible exact Keeps.rfl'
    | with_reducible assumption
    | (extract_lets +onlyGivenNames x; guard_hyp x : State := _; refine Keeps.letv (x := x) ?_ (fun hx => ?_); (on_goal 1 => (unfold x; clear x)); (on_goal 2 => ((try clear_value x); rename' x => y)))
    | (extract_lets +onlyGivenNames x; rename' x => z)
    | (with_reducible apply Keeps.on (State.regWrite_keeps ..); on_goal 2 => decide)
    | fail_if_no_progress (with_reducible apply Keeps.on (keeps_pins ..); on_goal 2 => decide)

theorem execRegisterRead_keeps (a) (fault) (s : State) : Does 0x21e37ffebbc s (execRegisterRead a fault s) := by
  unfold execRegisterRead
  refine ⟨_, rfl, ?_⟩
  repeat' first
    | with_reducible exact Keeps.rfl'
    | with_reducible assumption
    | (extract_lets +onlyGivenNames x; guard_hyp x : State := _; refine Keeps.letv (x := x) ?_ (fun hx => ?_); (on_goal 1 => (unfold x; clear x)); (on_goal 2 => ((try clear_value x); rename' x => y)))
    | (extract_lets +onlyGivenNames x; rename' x => z)
    | (with_reducible apply Keeps.on (State.regReadAccess_keeps ..); on_goal 2 => decide)
    | fail_if_no_progress (with_reducible apply Keeps.on (keeps_pins ..); on_goal 2 => decide)

theorem execIdleApply_keeps (page) (s : State) : Does 0x4302c0 s (execIdleApply page s) := by
  unfold execIdleApply
  refine ⟨_, rfl, ?_⟩
  repeat' first
    | with_reducible exact Keeps.rfl'
    | with_reducible refine Keeps.ite (fun hc => ?_) (fun hc => ?_)
    | (with_reducible apply Keeps.on (State.applyPoint_keeps ..); on_goal 2 => decide)

theorem execIntRawClear_keeps (page) (bits) (s : State) : Does 0xa00 s (execIntRawClear page bits s) := by
  unfold execIntRawClear
  refine ⟨_, rfl, ?_⟩
  repeat' first
    | with_reducible exact Keeps.rfl'
    | with_reducible refine State.whenHeader_keeps ?_ (by decide) (fun s => ?_)
    | (with_reducible apply Keeps.on (State.clearRaw_keeps ..); on_goal 2 => decide)

theorem execIntForce_keeps (page) (bits) (s : State) : Does 0xa00 s (execIntForce page bits s) := by
  unfold execIntForce
  refine ⟨_, rfl, ?_⟩
  repeat' first
    | with_reducible exact Keeps.rfl'
    | with_reducible refine State.whenHeader_keeps ?_ (by decide) (fun s => ?_)
    | (with_reducible apply Keeps.on (State.raiseMask_keeps ..); on_goal 2 => decide)

theorem execClrErr_keeps (page) (s : State) : Does 0xa00 s (execClrErr page s) := by
  unfold execClrErr
  refine ⟨_, rfl, ?_⟩
  repeat' first
    | with_reducible exact Keeps.rfl'
    | with_reducible refine State.whenHeader_keeps ?_ (by decide) (fun s => ?_)
    | (with_reducible apply Keeps.on (State.clearErrFlag_keeps ..); on_goal 2 => decide)

theorem execDiscard_keeps (page) (s : State) : Does 0x980 s (execDiscard page s) := by
  unfold execDiscard
  refine ⟨_, rfl, ?_⟩
  repeat' first
    | with_reducible exact Keeps.rfl'
    | with_reducible refine State.whenHeader_keeps ?_ (by decide) (fun s => ?_)
    | (with_reducible apply Keeps.on (State.discardPage_keeps ..); on_goal 2 => decide)

theorem execIngEnable_keeps (n) (s : State) : Does 0x422200 s (execIngEnable n s) := by
  unfold execIngEnable
  refine ⟨_, rfl, ?_⟩
  repeat' first
    | with_reducible exact Keeps.rfl'
    | with_reducible refine State.whenLive_keeps ?_ (fun s => ?_)
    | with_reducible refine State.rowWrite_keeps ?_ (by decide) (fun s => ?_)
    | (with_reducible apply Keeps.on (State.ingOn_keeps ..); on_goal 2 => decide)

theorem execIngDisable_keeps (n) (s : State) : Does 0x422200 s (execIngDisable n s) := by
  unfold execIngDisable
  refine ⟨_, rfl, ?_⟩
  repeat' first
    | with_reducible exact Keeps.rfl'
    | with_reducible refine State.whenLive_keeps ?_ (fun s => ?_)
    | with_reducible refine State.rowWrite_keeps ?_ (by decide) (fun s => ?_)
    | (with_reducible apply Keeps.on (State.ingOff_keeps ..); on_goal 2 => decide)

theorem execIngRpWrite_keeps (n) (rp) (s : State) : Does 0x22200 s (execIngRpWrite n rp s) := by
  unfold execIngRpWrite
  refine ⟨_, rfl, ?_⟩
  repeat' first
    | with_reducible exact Keeps.rfl'
    | with_reducible refine State.whenLive_keeps ?_ (fun s => ?_)
    | with_reducible refine State.rowWrite_keeps ?_ (by decide) (fun s => ?_)
    | (with_reducible apply Keeps.on (State.writeRp_keeps ..); on_goal 2 => decide)

theorem execGlbLock_keeps (s : State) : Does 0x90a423240 s (execGlbLock s) := by
  unfold execGlbLock
  refine ⟨_, rfl, ?_⟩
  repeat' first
    | with_reducible exact Keeps.rfl'
    | with_reducible refine State.whenLive_keeps ?_ (fun s => ?_)
    | with_reducible refine State.rowWrite_keeps ?_ (by decide) (fun s => ?_)
    | (with_reducible apply Keeps.on (State.storeImm_keeps ..); on_goal 2 => decide)

theorem execAcquire_keeps (reqid) (s : State) : Does 0x2200 s (execAcquire reqid s) := by
  unfold execAcquire
  refine ⟨_, rfl, ?_⟩
  repeat' first
    | with_reducible exact Keeps.rfl'
    | with_reducible refine State.whenLive_keeps ?_ (fun s => ?_)
    | (with_reducible apply Keeps.on (State.seqAcquire_keeps ..); on_goal 2 => decide)

theorem execCommit_keeps (reqid) (s : State) : Does 0x3ff3ffffffe s (execCommit reqid s) := by
  unfold execCommit
  refine ⟨_, rfl, ?_⟩
  repeat' first
    | with_reducible exact Keeps.rfl'
    | with_reducible refine State.whenLive_keeps ?_ (fun s => ?_)
    | (with_reducible apply Keeps.on (State.seqRelease_keeps ..); on_goal 2 => decide)

theorem execRelease_keeps (reqid) (s : State) : Does 0x3ff3ffffffe s (execRelease reqid s) := by
  unfold execRelease
  refine ⟨_, rfl, ?_⟩
  repeat' first
    | with_reducible exact Keeps.rfl'
    | with_reducible refine State.whenLive_keeps ?_ (fun s => ?_)
    | (with_reducible apply Keeps.on (State.seqRelease_keeps ..); on_goal 2 => decide)

theorem execLeaseExpiry_keeps (s : State) : Does 0x2200 s (execLeaseExpiry s) := by
  unfold execLeaseExpiry
  refine ⟨_, rfl, ?_⟩
  repeat' first
    | with_reducible exact Keeps.rfl'
    | (with_reducible apply Keeps.on (State.expireLease_keeps ..); on_goal 2 => decide)

theorem execCpReset_keeps (s : State) : Does 0x2220 s (execCpReset s) := by
  unfold execCpReset
  refine ⟨_, rfl, ?_⟩
  repeat' first
    | with_reducible exact Keeps.rfl'
    | with_reducible assumption
    | (extract_lets +onlyGivenNames x; guard_hyp x : State := _; refine Keeps.letv (x := x) ?_ (fun hx => ?_); (on_goal 1 => (unfold x; clear x)); (on_goal 2 => ((try clear_value x); rename' x => y)))
    | (extract_lets +onlyGivenNames x; rename' x => z)
    | (with_reducible apply Keeps.on (State.freeLock_keeps ..); on_goal 2 => decide)
    | fail_if_no_progress (with_reducible apply Keeps.on (keeps_pins ..); on_goal 2 => decide)

theorem execCfgParitySweep_keeps (page) (ofs) (fault) (s : State) : Does 0x20637ffab9c s (execCfgParitySweep page ofs fault s) := by
  unfold execCfgParitySweep
  refine ⟨_, rfl, ?_⟩
  repeat' first
    | with_reducible exact Keeps.rfl'
    | with_reducible assumption
    | (extract_lets +onlyGivenNames x; guard_hyp x : State := _; refine Keeps.letv (x := x) ?_ (fun hx => ?_); (on_goal 1 => (unfold x; clear x)); (on_goal 2 => ((try clear_value x); rename' x => y)))
    | (extract_lets +onlyGivenNames x; rename' x => z)
    | with_reducible refine Keeps.ite (fun hc => ?_) (fun hc => ?_)
    | (with_reducible apply Keeps.on (State.parityFault_keeps ..); on_goal 2 => decide)

theorem execSlowLimitExpiry_keeps (c) (s : State) : Does 0x235f90214 s (execSlowLimitExpiry c s) := by
  unfold execSlowLimitExpiry
  refine ⟨_, rfl, ?_⟩
  repeat' first
    | with_reducible exact Keeps.rfl'
    | with_reducible refine Keeps.ite (fun hc => ?_) (fun hc => ?_)
    | (with_reducible apply Keeps.on (State.declareFailed_keeps ..); on_goal 2 => decide)

theorem execErrLevelLeak_keeps (c) (s : State) : Does 0x800000 s (execErrLevelLeak c s) := by
  unfold execErrLevelLeak
  refine ⟨_, rfl, ?_⟩
  repeat' first
    | with_reducible exact Keeps.rfl'
    | with_reducible assumption
    | (extract_lets +onlyGivenNames x; guard_hyp x : State := _; refine Keeps.letv (x := x) ?_ (fun hx => ?_); (on_goal 1 => (unfold x; clear x)); (on_goal 2 => ((try clear_value x); rename' x => y)))
    | (extract_lets +onlyGivenNames x; rename' x => z)
    | (with_reducible apply Keeps.on (State.modHealth_keeps ..); on_goal 2 => decide)

theorem execRelayoutStart_keeps (g) (s : State) : Does 0x3f102d0 s (execRelayoutStart g s) := by
  unfold execRelayoutStart
  refine ⟨_, rfl, ?_⟩
  repeat' first
    | with_reducible exact Keeps.rfl'
    | with_reducible assumption
    | (extract_lets +onlyGivenNames x; guard_hyp x : State := _; refine Keeps.letv (x := x) ?_ (fun hx => ?_); (on_goal 1 => (unfold x; clear x)); (on_goal 2 => ((try clear_value x); rename' x => y)))
    | (extract_lets +onlyGivenNames x; rename' x => z)
    | with_reducible refine Keeps.ite (fun hc => ?_) (fun hc => ?_)
    | (with_reducible apply Keeps.on (State.detectCut_keeps ..); on_goal 2 => decide)
    | (with_reducible apply Keeps.on (State.setRly_keeps ..); on_goal 2 => decide)
    | (with_reducible apply Keeps.on (State.beginRly_keeps ..); on_goal 2 => decide)
    | split

theorem execRelayoutStripe_keeps (g) (due) (s : State) : Does 0x20003010008 s (execRelayoutStripe g due s) := by
  unfold execRelayoutStripe
  refine ⟨_, rfl, ?_⟩
  repeat' first
    | with_reducible exact Keeps.rfl'
    | with_reducible refine Keeps.ite (fun hc => ?_) (fun hc => ?_)
    | (with_reducible apply Keeps.on (State.openWindow_keeps ..); on_goal 2 => decide)
    | (with_reducible apply Keeps.on (State.settleBound_keeps ..); on_goal 2 => decide)

theorem execRelayoutComplete_keeps (g) (s : State) : Does 0x106f7f90214 s (execRelayoutComplete g s) := by
  unfold execRelayoutComplete
  refine ⟨_, rfl, ?_⟩
  repeat' first
    | with_reducible exact Keeps.rfl'
    | with_reducible assumption
    | (extract_lets +onlyGivenNames x; guard_hyp x : State := _; refine Keeps.letv (x := x) ?_ (fun hx => ?_); (on_goal 1 => (unfold x; clear x)); (on_goal 2 => ((try clear_value x); rename' x => y)))
    | (extract_lets +onlyGivenNames x; rename' x => z)
    | with_reducible refine Keeps.ite (fun hc => ?_) (fun hc => ?_)
    | (with_reducible apply Keeps.on (State.mendKeep_keeps ..); on_goal 2 => decide)
    | (with_reducible apply Keeps.on (State.completeRly_keeps ..); on_goal 2 => decide)
    | split
    | (clear_value *; split)

theorem execQuarantineProbe_keeps (c) (answered) (s : State) : Does 0x800200 s (execQuarantineProbe c answered s) := by
  unfold execQuarantineProbe
  refine ⟨_, rfl, ?_⟩
  repeat' first
    | with_reducible exact Keeps.rfl'
    | with_reducible assumption
    | (extract_lets +onlyGivenNames x; guard_hyp x : State := _; refine Keeps.letv (x := x) ?_ (fun hx => ?_); (on_goal 1 => (unfold x; clear x)); (on_goal 2 => ((try clear_value x); rename' x => y)))
    | (extract_lets +onlyGivenNames x; rename' x => z)
    | with_reducible refine Keeps.ite (fun hc => ?_) (fun hc => ?_)
    | (with_reducible apply Keeps.on (State.pushCmd_keeps ..); on_goal 2 => decide)
    | (with_reducible apply Keeps.on (State.modHealth_keeps ..); on_goal 2 => decide)
    | (with_reducible apply Keeps.on (State.quarantine_keeps ..); on_goal 2 => decide)

theorem execSprFail_keeps (c) (s : State) : Does 0x235f90214 s (execSprFail c s) := by
  unfold execSprFail
  refine ⟨_, rfl, ?_⟩
  repeat' first
    | with_reducible exact Keeps.rfl'
    | with_reducible refine State.whenLive_keeps ?_ (fun s => ?_)
    | (with_reducible apply Keeps.on (State.cmdFail_keeps ..); on_goal 2 => decide)

theorem execEvacuate_keeps (g) (m) (c) (s : State) : Does 0x1800200 s (execEvacuate g m c s) := by
  unfold execEvacuate
  refine ⟨_, rfl, ?_⟩
  repeat' first
    | with_reducible exact Keeps.rfl'
    | with_reducible refine State.whenLive_keeps ?_ (fun s => ?_)
    | (with_reducible apply Keeps.on (State.cmdEvacuate_keeps ..); on_goal 2 => decide)

theorem execReturnHome_keeps (g) (m) (s : State) : Does 0x1800200 s (execReturnHome g m s) := by
  unfold execReturnHome
  refine ⟨_, rfl, ?_⟩
  repeat' first
    | with_reducible exact Keeps.rfl'
    | with_reducible refine State.whenLive_keeps ?_ (fun s => ?_)
    | (with_reducible apply Keeps.on (State.cmdReturn_keeps ..); on_goal 2 => decide)

theorem execSuspend_keeps (g) (s : State) : Does 0x20003010200 s (execSuspend g s) := by
  unfold execSuspend
  refine ⟨_, rfl, ?_⟩
  repeat' first
    | with_reducible exact Keeps.rfl'
    | with_reducible refine State.whenLive_keeps ?_ (fun s => ?_)
    | (with_reducible apply Keeps.on (State.cmdSuspend_keeps ..); on_goal 2 => decide)

theorem execResume_keeps (g) (s : State) : Does 0x1410200 s (execResume g s) := by
  unfold execResume
  refine ⟨_, rfl, ?_⟩
  repeat' first
    | with_reducible exact Keeps.rfl'
    | with_reducible refine State.whenLive_keeps ?_ (fun s => ?_)
    | (with_reducible apply Keeps.on (State.cmdResume_keeps ..); on_goal 2 => decide)

theorem execSliceTest_keeps (c) (s : State) : Does 0x1800200 s (execSliceTest c s) := by
  unfold execSliceTest
  refine ⟨_, rfl, ?_⟩
  repeat' first
    | with_reducible exact Keeps.rfl'
    | with_reducible refine State.whenLive_keeps ?_ (fun s => ?_)
    | (with_reducible apply Keeps.on (State.cmdTest_keeps ..); on_goal 2 => decide)

theorem execSliceTestDone_keeps (c) (pass) (s : State) : Does 0x10000800004 s (execSliceTestDone c pass s) := by
  unfold execSliceTestDone
  refine ⟨_, rfl, ?_⟩
  repeat' first
    | with_reducible exact Keeps.rfl'
    | with_reducible assumption
    | (extract_lets +onlyGivenNames x; guard_hyp x : State := _; refine Keeps.letv (x := x) ?_ (fun hx => ?_); (on_goal 1 => (unfold x; clear x)); (on_goal 2 => ((try clear_value x); rename' x => y)))
    | (extract_lets +onlyGivenNames x; rename' x => z)
    | with_reducible refine Keeps.ite (fun hc => ?_) (fun hc => ?_)
    | (with_reducible apply Keeps.on (State.modSched_keeps ..); on_goal 2 => decide)
    | (with_reducible apply Keeps.on (State.loseContents_keeps ..); on_goal 2 => decide)
    | (with_reducible apply Keeps.on (State.modHealth_keeps ..); on_goal 2 => decide)

theorem execAdmit_keeps (c) (s : State) : Does 0x1a00200 s (execAdmit c s) := by
  unfold execAdmit
  refine ⟨_, rfl, ?_⟩
  repeat' first
    | with_reducible exact Keeps.rfl'
    | with_reducible refine State.whenLive_keeps ?_ (fun s => ?_)
    | (with_reducible apply Keeps.on (State.cmdAdmit_keeps ..); on_goal 2 => decide)

theorem execAttach_keeps (g) (m) (c) (s : State) : Does 0x1800200 s (execAttach g m c s) := by
  unfold execAttach
  refine ⟨_, rfl, ?_⟩
  repeat' first
    | with_reducible exact Keeps.rfl'
    | with_reducible refine State.whenLive_keeps ?_ (fun s => ?_)
    | (with_reducible apply Keeps.on (State.cmdAttach_keeps ..); on_goal 2 => decide)

theorem execClrLoss_keeps (s : State) : Does 0x1000200 s (execClrLoss s) := by
  unfold execClrLoss
  refine ⟨_, rfl, ?_⟩
  repeat' first
    | with_reducible exact Keeps.rfl'
    | with_reducible refine State.whenLive_keeps ?_ (fun s => ?_)
    | (with_reducible apply Keeps.on (State.cmdClearLoss_keeps ..); on_goal 2 => decide)

theorem execSprClrCounters_keeps (s : State) : Does 0x1800200 s (execSprClrCounters s) := by
  unfold execSprClrCounters
  refine ⟨_, rfl, ?_⟩
  repeat' first
    | with_reducible exact Keeps.rfl'
    | with_reducible refine State.whenLive_keeps ?_ (fun s => ?_)
    | (with_reducible apply Keeps.on (State.cmdClearSpr_keeps ..); on_goal 2 => decide)

theorem execPatrolStripe_keeps (g) (errs) (s : State) : Does 0x10635f90214 s (execPatrolStripe g errs s) := by
  unfold execPatrolStripe
  refine ⟨_, rfl, ?_⟩
  repeat' first
    | with_reducible exact Keeps.rfl'
    | with_reducible refine Keeps.ite (fun hc => ?_) (fun hc => ?_)
    | (with_reducible apply Keeps.on (State.verifyStep_keeps ..); on_goal 2 => decide)
    | (with_reducible apply Keeps.on (State.patrolStep_keeps ..); on_goal 2 => decide)
    | (with_reducible apply Keeps.on (State.patrolWrap_keeps ..); on_goal 2 => decide)

theorem execProgram_keeps (s : State) : Does 0x1000000240 s (execProgram s) := by
  unfold execProgram
  refine ⟨_, rfl, ?_⟩
  repeat' first
    | with_reducible exact Keeps.rfl'
    | with_reducible refine State.whenLive_keeps ?_ (fun s => ?_)
    | (with_reducible apply Keeps.on (State.otpProgram_keeps ..); on_goal 2 => decide)

theorem execProgramDone_keeps (ok) (s : State) : Does 0x1000000240 s (execProgramDone ok s) := by
  unfold execProgramDone
  refine ⟨_, rfl, ?_⟩
  repeat' first
    | with_reducible exact Keeps.rfl'
    | (with_reducible apply Keeps.on (State.otpDone_keeps ..); on_goal 2 => decide)

theorem execSupplyTrip_keeps (s : State) : Does 0x1000000240 s (execSupplyTrip s) := by
  unfold execSupplyTrip
  refine ⟨_, rfl, ?_⟩
  repeat' first
    | with_reducible exact Keeps.rfl'
    | with_reducible refine Keeps.ite (fun hc => ?_) (fun hc => ?_)
    | (with_reducible apply Keeps.on (State.raise_keeps ..); on_goal 2 => decide)
    | (with_reducible apply Keeps.on (State.otpInterrupt_keeps ..); on_goal 2 => decide)

theorem execOtpClrCounters_keeps (s : State) : Does 0x1000000000 s (execOtpClrCounters s) := by
  unfold execOtpClrCounters
  refine ⟨_, rfl, ?_⟩
  repeat' first
    | with_reducible exact Keeps.rfl'
    | with_reducible refine State.whenLive_keeps ?_ (fun s => ?_)
    | (with_reducible apply Keeps.on (State.clearOtp_keeps ..); on_goal 2 => decide)

theorem execKeyDerive_keeps (s : State) : Does 0x1000000200 s (execKeyDerive s) := by
  unfold execKeyDerive
  refine ⟨_, rfl, ?_⟩
  repeat' first
    | with_reducible exact Keeps.rfl'
    | with_reducible refine State.whenLive_keeps ?_ (fun s => ?_)
    | (with_reducible apply Keeps.on (State.keyDerive_keeps ..); on_goal 2 => decide)

theorem execKeyDeriveDone_keeps (s : State) : Does 0x1000000200 s (execKeyDeriveDone s) := by
  unfold execKeyDeriveDone
  refine ⟨_, rfl, ?_⟩
  repeat' first
    | with_reducible exact Keeps.rfl'
    | (with_reducible apply Keeps.on (State.keyDone_keeps ..); on_goal 2 => decide)

theorem execKeyClear_keeps (s : State) : Does 0x1000000200 s (execKeyClear s) := by
  unfold execKeyClear
  refine ⟨_, rfl, ?_⟩
  repeat' first
    | with_reducible exact Keeps.rfl'
    | with_reducible refine State.whenLive_keeps ?_ (fun s => ?_)
    | (with_reducible apply Keeps.on (State.keyClear_keeps ..); on_goal 2 => decide)

theorem execPatchLoad_keeps (s : State) : Does 0x1000000200 s (execPatchLoad s) := by
  unfold execPatchLoad
  refine ⟨_, rfl, ?_⟩
  repeat' first
    | with_reducible exact Keeps.rfl'
    | with_reducible refine State.whenLive_keeps ?_ (fun s => ?_)
    | (with_reducible apply Keeps.on (State.patchLoad_keeps ..); on_goal 2 => decide)

theorem execPatchLoadDone_keeps (s : State) : Does 0x1400300204 s (execPatchLoadDone s) := by
  unfold execPatchLoadDone
  refine ⟨_, rfl, ?_⟩
  repeat' first
    | with_reducible exact Keeps.rfl'
    | (with_reducible apply Keeps.on (State.patchFinish_keeps ..); on_goal 2 => decide)

theorem execPatchTakeUp_keeps (s : State) : Does 0x1000000010 s (execPatchTakeUp s) := by
  unfold execPatchTakeUp
  refine ⟨_, rfl, ?_⟩
  repeat' first
    | with_reducible exact Keeps.rfl'
    | (with_reducible apply Keeps.on (State.patchTakeUp_keeps ..); on_goal 2 => decide)

theorem execClrDeny_keeps (s : State) : Does 0x1000000000 s (execClrDeny s) := by
  unfold execClrDeny
  refine ⟨_, rfl, ?_⟩
  repeat' first
    | with_reducible exact Keeps.rfl'
    | with_reducible refine State.whenLive_keeps ?_ (fun s => ?_)
    | (with_reducible apply Keeps.on (State.clearDeny_keeps ..); on_goal 2 => decide)

theorem execRegulationEpoch_keeps (s : State) : Does 0x10008c302e0 s (execRegulationEpoch s) := by
  unfold execRegulationEpoch
  refine ⟨_, rfl, ?_⟩
  repeat' first
    | with_reducible exact Keeps.rfl'
    | with_reducible refine Keeps.ite (fun hc => ?_) (fun hc => ?_)
    | (with_reducible apply Keeps.on (State.plSettle_keeps ..); on_goal 2 => decide)
    | (with_reducible apply Keeps.on (State.tailwind_keeps ..); on_goal 2 => decide)
    | (with_reducible apply Keeps.on (State.applyFeas_keeps ..); on_goal 2 => decide)
    | (with_reducible apply Keeps.on (State.applyPages_keeps ..); on_goal 2 => decide)

theorem execFeasibilityCheck_keeps (s : State) : Does 0x400000 s (execFeasibilityCheck s) := by
  unfold execFeasibilityCheck
  refine ⟨_, rfl, ?_⟩
  repeat' first
    | with_reducible exact Keeps.rfl'
    | with_reducible refine Keeps.ite (fun hc => ?_) (fun hc => ?_)
    | (with_reducible apply Keeps.on (State.feasCheck_keeps ..); on_goal 2 => decide)

theorem execRecheck_keeps (s : State) : Does 0x400000 s (execRecheck s) := by
  unfold execRecheck
  refine ⟨_, rfl, ?_⟩
  repeat' first
    | with_reducible exact Keeps.rfl'
    | with_reducible refine State.whenLive_keeps ?_ (fun s => ?_)
    | (with_reducible apply Keeps.on (State.feasTrigger_keeps ..); on_goal 2 => decide)

theorem execShrClrCounters_keeps (s : State) : Does 0x400000 s (execShrClrCounters s) := by
  unfold execShrClrCounters
  refine ⟨_, rfl, ?_⟩
  repeat' first
    | with_reducible exact Keeps.rfl'
    | with_reducible refine State.whenLive_keeps ?_ (fun s => ?_)
    | (with_reducible apply Keeps.on (State.clearShr_keeps ..); on_goal 2 => decide)

theorem execSliceCommandIssue_keeps (c) (late) (s : State) : Does 0x3063fff02ec s (execSliceCommandIssue c late s) := by
  unfold execSliceCommandIssue
  refine ⟨_, rfl, ?_⟩
  repeat' first
    | with_reducible exact Keeps.rfl'
    | (with_reducible apply Keeps.on (State.issueCmd_keeps ..); on_goal 2 => decide)

theorem execGustWrAge_keeps (c) (s : State) : Does 0x800000 s (execGustWrAge c s) := by
  unfold execGustWrAge
  refine ⟨_, rfl, ?_⟩
  repeat' first
    | with_reducible exact Keeps.rfl'
    | with_reducible assumption
    | (extract_lets +onlyGivenNames x; guard_hyp x : State := _; refine Keeps.letv (x := x) ?_ (fun hx => ?_); (on_goal 1 => (unfold x; clear x)); (on_goal 2 => ((try clear_value x); rename' x => y)))
    | (extract_lets +onlyGivenNames x; rename' x => z)
    | with_reducible refine Keeps.ite (fun hc => ?_) (fun hc => ?_)
    | (with_reducible apply Keeps.on (State.startGust_keeps ..); on_goal 2 => decide)
    | split
    | (clear_value *; split)

theorem execRefreshBoundary_keeps (c) (s : State) : Does 0x234db02c4 s (execRefreshBoundary c s) := by
  unfold execRefreshBoundary
  refine ⟨_, rfl, ?_⟩
  repeat' first
    | with_reducible exact Keeps.rfl'
    | with_reducible assumption
    | (extract_lets +onlyGivenNames x; guard_hyp x : State := _; refine Keeps.letv (x := x) ?_ (fun hx => ?_); (on_goal 1 => (unfold x; clear x)); (on_goal 2 => ((try clear_value x); rename' x => y)))
    | (extract_lets +onlyGivenNames x; rename' x => z)
    | with_reducible refine Keeps.ite (fun hc => ?_) (fun hc => ?_)
    | (with_reducible apply Keeps.on (State.windowBoundary_keeps ..); on_goal 2 => decide)
    | (with_reducible apply Keeps.on (State.ownBoundary_keeps ..); on_goal 2 => decide)
    | split
    | (clear_value *; split)

theorem execTleadExpiry_keeps (c) (s : State) : Does 0xc302c0 s (execTleadExpiry c s) := by
  unfold execTleadExpiry
  refine ⟨_, rfl, ?_⟩
  repeat' first
    | with_reducible exact Keeps.rfl'
    | with_reducible refine Keeps.ite (fun hc => ?_) (fun hc => ?_)
    | (with_reducible apply Keeps.on (State.bumpCh_keeps ..); on_goal 2 => decide)
    | (with_reducible apply Keeps.on (State.refreshNow_keeps ..); on_goal 2 => decide)

theorem execRefreshStallEnd_keeps (c) (s : State) : Does 0x3063fbd022c s (execRefreshStallEnd c s) := by
  unfold execRefreshStallEnd
  refine ⟨_, rfl, ?_⟩
  repeat' first
    | with_reducible exact Keeps.rfl'
    | with_reducible assumption
    | (extract_lets +onlyGivenNames x; guard_hyp x : State := _; refine Keeps.letv (x := x) ?_ (fun hx => ?_); (on_goal 1 => (unfold x; clear x)); (on_goal 2 => ((try clear_value x); rename' x => y)))
    | (extract_lets +onlyGivenNames x; rename' x => z)
    | with_reducible refine Keeps.ite (fun hc => ?_) (fun hc => ?_)
    | (with_reducible apply Keeps.on (State.releaseToken_keeps ..); on_goal 2 => decide)
    | (with_reducible apply Keeps.on (State.modSched_keeps ..); on_goal 2 => decide)
    | (with_reducible apply Keeps.on (State.modSlice_keeps ..); on_goal 2 => decide)
    | (with_reducible apply Keeps.on (State.kick_keeps ..); on_goal 2 => decide)

theorem execPerBankRefresh_keeps (c) (s : State) : Does 0x800000 s (execPerBankRefresh c s) := by
  unfold execPerBankRefresh
  refine ⟨_, rfl, ?_⟩
  repeat' first
    | with_reducible exact Keeps.rfl'
    | with_reducible assumption
    | (extract_lets +onlyGivenNames x; guard_hyp x : State := _; refine Keeps.letv (x := x) ?_ (fun hx => ?_); (on_goal 1 => (unfold x; clear x)); (on_goal 2 => ((try clear_value x); rename' x => y)))
    | (extract_lets +onlyGivenNames x; rename' x => z)
    | with_reducible refine Keeps.ite (fun hc => ?_) (fun hc => ?_)
    | (with_reducible apply Keeps.on (State.modSched_keeps ..); on_goal 2 => decide)
    | (with_reducible apply Keeps.on (State.pushCmd_keeps ..); on_goal 2 => decide)

theorem execRefreshRatePoll_keeps (c) (worst) (field) (s : State) : Does 0x234c80204 s (execRefreshRatePoll c worst field s) := by
  unfold execRefreshRatePoll
  refine ⟨_, rfl, ?_⟩
  repeat' first
    | with_reducible exact Keeps.rfl'
    | with_reducible assumption
    | (extract_lets +onlyGivenNames x; guard_hyp x : State := _; refine Keeps.letv (x := x) ?_ (fun hx => ?_); (on_goal 1 => (unfold x; clear x)); (on_goal 2 => ((try clear_value x); rename' x => y)))
    | (extract_lets +onlyGivenNames x; rename' x => z)
    | with_reducible refine Keeps.ite (fun hc => ?_) (fun hc => ?_)
    | (with_reducible apply Keeps.on (State.modSched_keeps ..); on_goal 2 => decide)
    | (with_reducible apply Keeps.on (State.raiseIf_keeps ..); on_goal 2 => decide)
    | (with_reducible apply Keeps.on (State.logError_keeps ..); on_goal 2 => decide)
    | (with_reducible apply Keeps.on (State.feasTrigger_keeps ..); on_goal 2 => decide)

theorem execParityAlert_keeps (c) (index) (s : State) : Does 0x800200 s (execParityAlert c index s) := by
  unfold execParityAlert
  refine ⟨_, rfl, ?_⟩
  repeat' first
    | with_reducible exact Keeps.rfl'
    | with_reducible assumption
    | (extract_lets +onlyGivenNames x; guard_hyp x : State := _; refine Keeps.letv (x := x) ?_ (fun hx => ?_); (on_goal 1 => (unfold x; clear x)); (on_goal 2 => ((try clear_value x); rename' x => y)))
    | (extract_lets +onlyGivenNames x; rename' x => z)
    | with_reducible refine Keeps.ite (fun hc => ?_) (fun hc => ?_)
    | (with_reducible apply Keeps.on (State.raise_keeps ..); on_goal 2 => decide)
    | (with_reducible apply Keeps.on (State.bumpCh_keeps ..); on_goal 2 => decide)
    | (with_reducible apply Keeps.on (State.modSched_keeps ..); on_goal 2 => decide)

theorem execReplayReissue_keeps (c) (again) (copyBad) (s : State) : Does 0x235f90214 s (execReplayReissue c again copyBad s) := by
  unfold execReplayReissue
  refine ⟨_, rfl, ?_⟩
  repeat' first
    | with_reducible exact Keeps.rfl'
    | with_reducible assumption
    | (extract_lets +onlyGivenNames x; guard_hyp x : State := _; refine Keeps.letv (x := x) ?_ (fun hx => ?_); (on_goal 1 => (unfold x; clear x)); (on_goal 2 => ((try clear_value x); rename' x => y)))
    | (extract_lets +onlyGivenNames x; rename' x => z)
    | with_reducible refine Keeps.ite (fun hc => ?_) (fun hc => ?_)
    | (with_reducible apply Keeps.on (State.modSched_keeps ..); on_goal 2 => decide)
    | (with_reducible apply Keeps.on (State.modHealth_keeps ..); on_goal 2 => decide)
    | (with_reducible apply Keeps.on (State.declareFailed_keeps ..); on_goal 2 => decide)

theorem execCkcFlush_keeps (c) (s : State) : Does 0x10000800800 s (execCkcFlush c s) := by
  unfold execCkcFlush
  refine ⟨_, rfl, ?_⟩
  repeat' first
    | with_reducible exact Keeps.rfl'
    | with_reducible refine State.whenSlice_keeps ?_ (by decide) (fun s => ?_)
    | (with_reducible apply Keeps.on (State.orderFlush_keeps ..); on_goal 2 => decide)

theorem execChClrCounters_keeps (c) (s : State) : Does 0x800800 s (execChClrCounters c s) := by
  unfold execChClrCounters
  refine ⟨_, rfl, ?_⟩
  repeat' first
    | with_reducible exact Keeps.rfl'
    | with_reducible refine State.whenSlice_keeps ?_ (by decide) (fun s => ?_)
    | (with_reducible apply Keeps.on (State.clearCh_keeps ..); on_goal 2 => decide)

theorem execMainPgFall_keeps (s : State) : Does 0x2773eaf227c s (execMainPgFall s) := by
  unfold execMainPgFall
  refine ⟨_, rfl, ?_⟩
  repeat' first
    | with_reducible exact Keeps.rfl'
    | (with_reducible apply Keeps.on (State.mainPgFall_keeps ..); on_goal 2 => decide)

theorem execAdmittedRequestsDone_keeps (s : State) : Does 0x20810038200 s (execAdmittedRequestsDone s) := by
  unfold execAdmittedRequestsDone
  refine ⟨_, rfl, ?_⟩
  repeat' first
    | with_reducible exact Keeps.rfl'
    | (with_reducible apply Keeps.on (State.requestsDone_keeps ..); on_goal 2 => decide)

theorem execOpenEntryLimit_keeps (s : State) : Does 0x10000000 s (execOpenEntryLimit s) := by
  unfold execOpenEntryLimit
  refine ⟨_, rfl, ?_⟩
  repeat' first
    | with_reducible exact Keeps.rfl'
    | with_reducible assumption
    | (extract_lets +onlyGivenNames x; guard_hyp x : State := _; refine Keeps.letv (x := x) ?_ (fun hx => ?_); (on_goal 1 => (unfold x; clear x)); (on_goal 2 => ((try clear_value x); rename' x => y)))
    | (extract_lets +onlyGivenNames x; rename' x => z)
    | with_reducible refine Keeps.ite (fun hc => ?_) (fun hc => ?_)
    | fail_if_no_progress (with_reducible apply Keeps.on (keeps_squall _ _ ?q ?r); (case q => exact rfl); (case r => exact rfl); on_goal 2 => decide)
    | fail_if_no_progress (with_reducible apply Keeps.on (keeps_squallAll _ _ ?q); (case q => first | exact id | exact fun _ => Nat.zero_le _); on_goal 2 => decide)

theorem execSaveHeaderWrite_keeps (s : State) : Does 0x304d2b10204 s (execSaveHeaderWrite s) := by
  unfold execSaveHeaderWrite
  refine ⟨_, rfl, ?_⟩
  repeat' first
    | with_reducible exact Keeps.rfl'
    | with_reducible assumption
    | (extract_lets +onlyGivenNames x; guard_hyp x : State := _; refine Keeps.letv (x := x) ?_ (fun hx => ?_); (on_goal 1 => (unfold x; clear x)); (on_goal 2 => ((try clear_value x); rename' x => y)))
    | (extract_lets +onlyGivenNames x; rename' x => z)
    | with_reducible refine Keeps.ite (fun hc => ?_) (fun hc => ?_)
    | (with_reducible apply Keeps.on (State.settleWarm_keeps ..); on_goal 2 => decide)
    | (with_reducible apply Keeps.on (State.saveCopies_keeps ..); on_goal 2 => decide)

theorem execSelfRefreshEntry_keeps (c) (s : State) : Does 0x30010810004 s (execSelfRefreshEntry c s) := by
  unfold execSelfRefreshEntry
  refine ⟨_, rfl, ?_⟩
  repeat' first
    | with_reducible exact Keeps.rfl'
    | with_reducible assumption
    | (extract_lets +onlyGivenNames x; guard_hyp x : State := _; refine Keeps.letv (x := x) ?_ (fun hx => ?_); (on_goal 1 => (unfold x; clear x)); (on_goal 2 => ((try clear_value x); rename' x => y)))
    | (extract_lets +onlyGivenNames x; rename' x => z)
    | with_reducible refine Keeps.ite (fun hc => ?_) (fun hc => ?_)
    | (with_reducible apply Keeps.on (State.settleWarm_keeps ..); on_goal 2 => decide)
    | (with_reducible apply Keeps.on (State.retainSlice_keeps ..); on_goal 2 => decide)

theorem execSquallComplete_keeps (s : State) : Does 0x3ff1ffffff6 s (execSquallComplete s) := by
  unfold execSquallComplete
  refine ⟨_, rfl, ?_⟩
  repeat' first
    | with_reducible exact Keeps.rfl'
    | with_reducible assumption
    | (with_reducible apply Keeps.on (State.squallDone_keeps ..); on_goal 2 => decide)

theorem execSquallTokenTake_keeps (s : State) : Does 0x110000000 s (execSquallTokenTake s) := by
  unfold execSquallTokenTake
  refine ⟨_, rfl, ?_⟩
  repeat' first
    | with_reducible exact Keeps.rfl'
    | with_reducible refine Keeps.ite (fun hc => ?_) (fun hc => ?_)
    | (with_reducible apply Keeps.on (State.takeToken_keeps ..); on_goal 2 => decide)

theorem execTokenWaitExpiry_keeps (peer) (s : State) : Does 0x10000000 s (execTokenWaitExpiry peer s) := by
  unfold execTokenWaitExpiry
  refine ⟨_, rfl, ?_⟩
  repeat' first
    | with_reducible exact Keeps.rfl'
    | with_reducible assumption
    | (extract_lets +onlyGivenNames x; guard_hyp x : State := _; refine Keeps.letv (x := x) ?_ (fun hx => ?_); (on_goal 1 => (unfold x; clear x)); (on_goal 2 => ((try clear_value x); rename' x => y)))
    | (extract_lets +onlyGivenNames x; rename' x => z)
    | with_reducible refine Keeps.ite (fun hc => ?_) (fun hc => ?_)
    | fail_if_no_progress (with_reducible apply Keeps.on (keeps_squall _ _ ?q ?r); (case q => exact rfl); (case r => exact rfl); on_goal 2 => decide)
    | fail_if_no_progress (with_reducible apply Keeps.on (keeps_squallAll _ _ ?q); (case q => first | exact id | exact fun _ => Nat.zero_le _); on_goal 2 => decide)

theorem execMainPgRise_keeps (s : State) : Does 0x11e800272 s (execMainPgRise s) := by
  unfold execMainPgRise
  refine ⟨_, rfl, ?_⟩
  repeat' first
    | with_reducible exact Keeps.rfl'
    | (with_reducible apply Keeps.on (State.mainPgRise_keeps ..); on_goal 2 => decide)

theorem execRefclkDetect_keeps (s : State) : Does 0x11e800272 s (execRefclkDetect s) := by
  unfold execRefclkDetect
  refine ⟨_, rfl, ?_⟩
  repeat' first
    | with_reducible exact Keeps.rfl'
    | (with_reducible apply Keeps.on (State.refclkSeen_keeps ..); on_goal 2 => decide)

theorem execWarmReset_keeps (s : State) : Does 0x3ff3ffffffe s (execWarmReset s) := by
  unfold execWarmReset
  refine ⟨_, rfl, ?_⟩
  repeat' first
    | with_reducible exact Keeps.rfl'
    | (with_reducible apply Keeps.on (State.warmReset_keeps ..); on_goal 2 => decide)

theorem execWrstLimitExpiry_keeps (s : State) : Does 0x20e340f820c s (execWrstLimitExpiry s) := by
  unfold execWrstLimitExpiry
  refine ⟨_, rfl, ?_⟩
  repeat' first
    | with_reducible exact Keeps.rfl'
    | (with_reducible apply Keeps.on (State.warmLimit_keeps ..); on_goal 2 => decide)

theorem execColdReset_keeps (s : State) : Does 0x2ff39fffff2 s (execColdReset s) := by
  unfold execColdReset
  refine ⟨_, rfl, ?_⟩
  repeat' first
    | with_reducible exact Keeps.rfl'
    | (with_reducible apply Keeps.on (State.coldReset_keeps ..); on_goal 2 => decide)

theorem execColdBringupStart_keeps (s : State) : Does 0x10e800072 s (execColdBringupStart s) := by
  unfold execColdBringupStart
  refine ⟨_, rfl, ?_⟩
  repeat' first
    | with_reducible exact Keeps.rfl'
    | (with_reducible apply Keeps.on (State.coldRise_keeps ..); on_goal 2 => decide)

theorem execSnap_keeps (s : State) : Does 0x800800000 s (execSnap s) := by
  unfold execSnap
  refine ⟨_, rfl, ?_⟩
  repeat' first
    | with_reducible exact Keeps.rfl'
    | with_reducible refine State.whenLive_keeps ?_ (fun s => ?_)
    | (with_reducible apply Keeps.on (State.snapAll_keeps ..); on_goal 2 => decide)

theorem execSnapCaptureDone_keeps (s : State) : Does 0x800000000 s (execSnapCaptureDone s) := by
  unfold execSnapCaptureDone
  refine ⟨_, rfl, ?_⟩
  repeat' first
    | with_reducible exact Keeps.rfl'
    | (with_reducible apply Keeps.on (State.snapDone_keeps ..); on_goal 2 => decide)

theorem execClrCnt_keeps (s : State) : Does 0xc00800000 s (execClrCnt s) := by
  unfold execClrCnt
  refine ⟨_, rfl, ?_⟩
  repeat' first
    | with_reducible exact Keeps.rfl'
    | with_reducible refine State.whenLive_keeps ?_ (fun s => ?_)
    | (with_reducible apply Keeps.on (State.clearTel_keeps ..); on_goal 2 => decide)

theorem execClrOvf_keeps (s : State) : Does 0x400800000 s (execClrOvf s) := by
  unfold execClrOvf
  refine ⟨_, rfl, ?_⟩
  repeat' first
    | with_reducible exact Keeps.rfl'
    | with_reducible refine State.whenLive_keeps ?_ (fun s => ?_)
    | (with_reducible apply Keeps.on (State.clearOvf_keeps ..); on_goal 2 => decide)

theorem execFlush_keeps (s : State) : Does 0x800000200 s (execFlush s) := by
  unfold execFlush
  refine ⟨_, rfl, ?_⟩
  repeat' first
    | with_reducible exact Keeps.rfl'
    | with_reducible refine State.whenLive_keeps ?_ (fun s => ?_)
    | (with_reducible apply Keeps.on (State.closeFill_keeps ..); on_goal 2 => decide)

theorem execClrUnderrun_keeps (s : State) : Does 0x800000000 s (execClrUnderrun s) := by
  unfold execClrUnderrun
  refine ⟨_, rfl, ?_⟩
  repeat' first
    | with_reducible exact Keeps.rfl'
    | with_reducible refine State.whenLive_keeps ?_ (fun s => ?_)
    | (with_reducible apply Keeps.on (State.clearUnderrun_keeps ..); on_goal 2 => decide)

theorem execClrSamp_keeps (s : State) : Does 0x800000000 s (execClrSamp s) := by
  unfold execClrSamp
  refine ⟨_, rfl, ?_⟩
  repeat' first
    | with_reducible exact Keeps.rfl'
    | with_reducible refine State.whenLive_keeps ?_ (fun s => ?_)
    | (with_reducible apply Keeps.on (State.clearSamples_keeps ..); on_goal 2 => decide)

theorem execSamplePop_keeps (s : State) : Does 0x800004200 s (execSamplePop s) := by
  unfold execSamplePop
  refine ⟨_, rfl, ?_⟩
  repeat' first
    | with_reducible exact Keeps.rfl'
    | with_reducible assumption
    | (extract_lets +onlyGivenNames x; guard_hyp x : State := _; refine Keeps.letv (x := x) ?_ (fun hx => ?_); (on_goal 1 => (unfold x; clear x)); (on_goal 2 => ((try clear_value x); rename' x => y)))
    | (extract_lets +onlyGivenNames x; rename' x => z)
    | with_reducible refine Keeps.ite (fun hc => ?_) (fun hc => ?_)
    | (with_reducible apply Keeps.on (State.popWord_keeps ..); on_goal 2 => decide)
    | (split; rename_i t w hq; refine Keeps.letv (x := t) (Keeps.ofFst hq (Keeps.on (State.popWord_keeps ..) (by first | assumption | exact Keeps.rfl') (by decide))) (fun ht => ?_); clear hq)
    | fail_if_no_progress (with_reducible apply Keeps.on (keeps_regResponse ..); on_goal 2 => decide)

theorem execFillBankTimeout_keeps (s : State) : Does 0x800000200 s (execFillBankTimeout s) := by
  unfold execFillBankTimeout
  refine ⟨_, rfl, ?_⟩
  repeat' first
    | with_reducible exact Keeps.rfl'
    | (with_reducible apply Keeps.on (State.fillTimeout_keeps ..); on_goal 2 => decide)

theorem execSlotBoundary_keeps (c) (f) (s : State) : Does 0x800200 s (execSlotBoundary c f s) := by
  unfold execSlotBoundary
  refine ⟨_, rfl, ?_⟩
  repeat' first
    | with_reducible exact Keeps.rfl'
    | (with_reducible apply Keeps.on (State.slot_keeps ..); on_goal 2 => decide)

theorem execTapReset_keeps (s : State) : Does 0x8000000004 s (execTapReset s) := by
  unfold execTapReset
  refine ⟨_, rfl, ?_⟩
  repeat' first
    | with_reducible exact Keeps.rfl'
    | (with_reducible apply Keeps.on (State.loadIr_keeps ..); on_goal 2 => decide)

theorem execIdcode_keeps (s : State) : Does 0x8000000004 s (execIdcode s) := by
  unfold execIdcode
  refine ⟨_, rfl, ?_⟩
  repeat' first
    | with_reducible exact Keeps.rfl'
    | (with_reducible apply Keeps.on (State.loadIr_keeps ..); on_goal 2 => decide)

theorem execSamplePreload_keeps (s : State) : Does 0x8000000004 s (execSamplePreload s) := by
  unfold execSamplePreload
  refine ⟨_, rfl, ?_⟩
  repeat' first
    | with_reducible exact Keeps.rfl'
    | (with_reducible apply Keeps.on (State.loadIr_keeps ..); on_goal 2 => decide)

theorem execExtest_keeps (s : State) : Does 0x8000000004 s (execExtest s) := by
  unfold execExtest
  refine ⟨_, rfl, ?_⟩
  repeat' first
    | with_reducible exact Keeps.rfl'
    | (with_reducible apply Keeps.on (State.loadIr_keeps ..); on_goal 2 => decide)

theorem execClamp_keeps (s : State) : Does 0x8000000004 s (execClamp s) := by
  unfold execClamp
  refine ⟨_, rfl, ?_⟩
  repeat' first
    | with_reducible exact Keeps.rfl'
    | (with_reducible apply Keeps.on (State.loadIr_keeps ..); on_goal 2 => decide)

theorem execHighz_keeps (s : State) : Does 0x8000000004 s (execHighz s) := by
  unfold execHighz
  refine ⟨_, rfl, ?_⟩
  repeat' first
    | with_reducible exact Keeps.rfl'
    | (with_reducible apply Keeps.on (State.loadIr_keeps ..); on_goal 2 => decide)

theorem execBypass_keeps (s : State) : Does 0x8000000004 s (execBypass s) := by
  unfold execBypass
  refine ⟨_, rfl, ?_⟩
  repeat' first
    | with_reducible exact Keeps.rfl'
    | (with_reducible apply Keeps.on (State.loadIr_keeps ..); on_goal 2 => decide)

theorem execRegacc_keeps (w) (s : State) : Does 0x3ff3ffffffe s (execRegacc w s) := by
  unfold execRegacc
  refine ⟨_, rfl, ?_⟩
  repeat' first
    | with_reducible exact Keeps.rfl'
    | (with_reducible apply Keeps.on (State.regacc_keeps ..); on_goal 2 => decide)

theorem execWsBypass_keeps (s : State) : Does 0x8000000000 s (execWsBypass s) := by
  unfold execWsBypass
  refine ⟨_, rfl, ?_⟩
  repeat' first
    | with_reducible exact Keeps.rfl'
    | with_reducible assumption
    | (extract_lets +onlyGivenNames x; guard_hyp x : State := _; refine Keeps.letv (x := x) ?_ (fun hx => ?_); (on_goal 1 => (unfold x; clear x)); (on_goal 2 => ((try clear_value x); rename' x => y)))
    | (extract_lets +onlyGivenNames x; rename' x => z)
    | with_reducible refine Keeps.ite (fun hc => ?_) (fun hc => ?_)
    | fail_if_no_progress (with_reducible apply Keeps.on (keeps_test ..); on_goal 2 => decide)

theorem execScanTestInstruction_keeps (s : State) : Does 0x2ff3ffffff2 s (execScanTestInstruction s) := by
  unfold execScanTestInstruction
  refine ⟨_, rfl, ?_⟩
  repeat' first
    | with_reducible exact Keeps.rfl'
    | with_reducible assumption
    | (extract_lets +onlyGivenNames x; guard_hyp x : State := _; refine Keeps.letv (x := x) ?_ (fun hx => ?_); (on_goal 1 => (unfold x; clear x)); (on_goal 2 => ((try clear_value x); rename' x => y)))
    | (extract_lets +onlyGivenNames x; rename' x => z)
    | with_reducible refine Keeps.ite (fun hc => ?_) (fun hc => ?_)
    | (with_reducible apply Keeps.on (State.brownOut_keeps ..); on_goal 2 => decide)
    | fail_if_no_progress (with_reducible apply Keeps.on (keeps_test ..); on_goal 2 => decide)

theorem execMboxPing_keeps (v) (s : State) : Does 0x3ff3ffffff6 s (execMboxPing v s) := by
  unfold execMboxPing
  refine ⟨_, rfl, ?_⟩
  repeat' first
    | with_reducible exact Keeps.rfl'
    | (with_reducible apply Keeps.on (State.ringOn_keeps ..); on_goal 2 => decide)

theorem execDiagEnter_keeps (s : State) : Does 0x3ff3ffffff6 s (execDiagEnter s) := by
  unfold execDiagEnter
  refine ⟨_, rfl, ?_⟩
  repeat' first
    | with_reducible exact Keeps.rfl'
    | (with_reducible apply Keeps.on (State.ringOn_keeps ..); on_goal 2 => decide)

theorem execDiagExit_keeps (s : State) : Does 0x3ff3ffffff6 s (execDiagExit s) := by
  unfold execDiagExit
  refine ⟨_, rfl, ?_⟩
  repeat' first
    | with_reducible exact Keeps.rfl'
    | (with_reducible apply Keeps.on (State.ringOn_keeps ..); on_goal 2 => decide)

theorem execCfgSweep_keeps (s : State) : Does 0x3ff3ffffff6 s (execCfgSweep s) := by
  unfold execCfgSweep
  refine ⟨_, rfl, ?_⟩
  repeat' first
    | with_reducible exact Keeps.rfl'
    | (with_reducible apply Keeps.on (State.ringOn_keeps ..); on_goal 2 => decide)

theorem execBist_keeps (sets) (s : State) : Does 0x3ff3ffffff6 s (execBist sets s) := by
  unfold execBist
  refine ⟨_, rfl, ?_⟩
  repeat' first
    | with_reducible exact Keeps.rfl'
    | (with_reducible apply Keeps.on (State.ringOn_keeps ..); on_goal 2 => decide)

theorem execPattern_keeps (v) (slice) (pat) (seed) (first) (count) (s : State) : Does 0x3ff3ffffff6 s (execPattern v slice pat seed first count s) := by
  unfold execPattern
  refine ⟨_, rfl, ?_⟩
  repeat' first
    | with_reducible exact Keeps.rfl'
    | (with_reducible apply Keeps.on (State.ringOn_keeps ..); on_goal 2 => decide)

theorem execPatrolRestart_keeps (s : State) : Does 0x3ff3ffffff6 s (execPatrolRestart s) := by
  unfold execPatrolRestart
  refine ⟨_, rfl, ?_⟩
  repeat' first
    | with_reducible exact Keeps.rfl'
    | (with_reducible apply Keeps.on (State.ringOn_keeps ..); on_goal 2 => decide)

theorem execBadOp_keeps (v) (op) (s : State) : Does 0x3ff3ffffff6 s (execBadOp v op s) := by
  unfold execBadOp
  refine ⟨_, rfl, ?_⟩
  repeat' first
    | with_reducible exact Keeps.rfl'
    | with_reducible refine Keeps.ite (fun hc => ?_) (fun hc => ?_)
    | (with_reducible apply Keeps.on (State.ringOn_keeps ..); on_goal 2 => decide)

theorem execAbort_keeps (v) (s : State) : Does 0x2000000000 s (execAbort v s) := by
  unfold execAbort
  refine ⟨_, rfl, ?_⟩
  repeat' first
    | with_reducible exact Keeps.rfl'
    | with_reducible refine State.whenLive_keeps ?_ (fun s => ?_)
    | (with_reducible apply Keeps.on (State.mboxAbort_keeps ..); on_goal 2 => decide)

theorem execVaneClrCounters_keeps (v) (s : State) : Does 0x2000000000 s (execVaneClrCounters v s) := by
  unfold execVaneClrCounters
  refine ⟨_, rfl, ?_⟩
  repeat' first
    | with_reducible exact Keeps.rfl'
    | with_reducible refine State.whenLive_keeps ?_ (fun s => ?_)
    | (with_reducible apply Keeps.on (State.clearVane_keeps ..); on_goal 2 => decide)

theorem execMboxDone_keeps (v) (r0) (r1) (r2) (s : State) : Does 0x16011800214 s (execMboxDone v r0 r1 r2 s) := by
  unfold execMboxDone
  refine ⟨_, rfl, ?_⟩
  repeat' first
    | with_reducible exact Keeps.rfl'
    | (with_reducible apply Keeps.on (State.mboxFinish_keeps ..); on_goal 2 => decide)

theorem execDbgRead_keeps (s : State) : Does 0x346340d024c s (execDbgRead s) := by
  unfold execDbgRead
  refine ⟨_, rfl, ?_⟩
  repeat' first
    | with_reducible exact Keeps.rfl'
    | with_reducible refine State.whenLive_keeps ?_ (fun s => ?_)
    | (with_reducible apply Keeps.on (State.dbgGo_keeps ..); on_goal 2 => decide)

theorem execDbgWrite_keeps (s : State) : Does 0x346340d024c s (execDbgWrite s) := by
  unfold execDbgWrite
  refine ⟨_, rfl, ?_⟩
  repeat' first
    | with_reducible exact Keeps.rfl'
    | with_reducible refine State.whenLive_keeps ?_ (fun s => ?_)
    | (with_reducible apply Keeps.on (State.dbgGo_keeps ..); on_goal 2 => decide)

theorem execDirectRead_keeps (s : State) : Does 0x346340d024c s (execDirectRead s) := by
  unfold execDirectRead
  refine ⟨_, rfl, ?_⟩
  repeat' first
    | with_reducible exact Keeps.rfl'
    | with_reducible refine State.whenLive_keeps ?_ (fun s => ?_)
    | (with_reducible apply Keeps.on (State.dbgGo_keeps ..); on_goal 2 => decide)

theorem execDirectWrite_keeps (s : State) : Does 0x346340d024c s (execDirectWrite s) := by
  unfold execDirectWrite
  refine ⟨_, rfl, ?_⟩
  repeat' first
    | with_reducible exact Keeps.rfl'
    | with_reducible refine State.whenLive_keeps ?_ (fun s => ?_)
    | (with_reducible apply Keeps.on (State.dbgGo_keeps ..); on_goal 2 => decide)

theorem execDbgDone_keeps (s : State) : Does 0x24000010240 s (execDbgDone s) := by
  unfold execDbgDone
  refine ⟨_, rfl, ?_⟩
  repeat' first
    | with_reducible exact Keeps.rfl'
    | (with_reducible apply Keeps.on (State.dbgFinish_keeps ..); on_goal 2 => decide)

theorem execCapArm_keeps (s : State) : Does 0x4000000000 s (execCapArm s) := by
  unfold execCapArm
  refine ⟨_, rfl, ?_⟩
  repeat' first
    | with_reducible exact Keeps.rfl'
    | with_reducible refine State.whenLive_keeps ?_ (fun s => ?_)
    | (with_reducible apply Keeps.on (State.capArm_keeps ..); on_goal 2 => decide)

end Sys2Proof.Machine
end

