-- ==== Sys2Proof/Laws/State.lean ====
section
/-!
SUPPORT. What the small updates of the state leave as it was: one lemma for each field of `State` and each update, and what each update
makes of the one element it is about.
-/
namespace Sys2Proof.Machine
set_option Elab.async false

variable (s : State)

/-! `modPort` changes `ports` alone. -/

@[simp] theorem State.modPort_pending (p : Fin 16) (f : Port → Port) : (s.modPort p f).pending = s.pending := rfl
@[simp] theorem State.modPort_tb (p : Fin 16) (f : Port → Port) : (s.modPort p f).tb = s.tb := rfl
@[simp] theorem State.modPort_free (p : Fin 16) (f : Port → Port) : (s.modPort p f).free = s.free := rfl
@[simp] theorem State.modPort_ids (p : Fin 16) (f : Port → Port) : (s.modPort p f).ids = s.ids := rfl
@[simp] theorem State.modPort_mode (p : Fin 16) (f : Port → Port) : (s.modPort p f).mode = s.mode := rfl
@[simp] theorem State.modPort_pins (p : Fin 16) (f : Port → Port) : (s.modPort p f).pins = s.pins := rfl
@[simp] theorem State.modPort_regs (p : Fin 16) (f : Port → Port) : (s.modPort p f).regs = s.regs := rfl
@[simp] theorem State.modPort_reqs (p : Fin 16) (f : Port → Port) : (s.modPort p f).reqs = s.reqs := rfl
@[simp] theorem State.modPort_ingest (p : Fin 16) (f : Port → Port) : (s.modPort p f).ingest = s.ingest := rfl
@[simp] theorem State.modPort_ledger (p : Fin 16) (f : Port → Port) : (s.modPort p f).ledger = s.ledger := rfl
@[simp] theorem State.modPort_hubs (p : Fin 16) (f : Port → Port) : (s.modPort p f).hubs = s.hubs := rfl
@[simp] theorem State.modPort_fab (p : Fin 16) (f : Port → Port) : (s.modPort p f).fab = s.fab := rfl
@[simp] theorem State.modPort_shr (p : Fin 16) (f : Port → Port) : (s.modPort p f).shr = s.shr := rfl
@[simp] theorem State.modPort_slices (p : Fin 16) (f : Port → Port) : (s.modPort p f).slices = s.slices := rfl
@[simp] theorem State.modPort_spr (p : Fin 16) (f : Port → Port) : (s.modPort p f).spr = s.spr := rfl
@[simp] theorem State.modPort_ao (p : Fin 16) (f : Port → Port) : (s.modPort p f).ao = s.ao := rfl
@[simp] theorem State.modPort_pwr (p : Fin 16) (f : Port → Port) : (s.modPort p f).pwr = s.pwr := rfl
@[simp] theorem State.modPort_squall (p : Fin 16) (f : Port → Port) : (s.modPort p f).squall = s.squall := rfl
@[simp] theorem State.modPort_keepA (p : Fin 16) (f : Port → Port) : (s.modPort p f).keepA = s.keepA := rfl
@[simp] theorem State.modPort_keepB (p : Fin 16) (f : Port → Port) : (s.modPort p f).keepB = s.keepB := rfl
@[simp] theorem State.modPort_brz (p : Fin 16) (f : Port → Port) : (s.modPort p f).brz = s.brz := rfl
@[simp] theorem State.modPort_err (p : Fin 16) (f : Port → Port) : (s.modPort p f).err = s.err := rfl
@[simp] theorem State.modPort_tel (p : Fin 16) (f : Port → Port) : (s.modPort p f).tel = s.tel := rfl
@[simp] theorem State.modPort_sec (p : Fin 16) (f : Port → Port) : (s.modPort p f).sec = s.sec := rfl
@[simp] theorem State.modPort_vanes (p : Fin 16) (f : Port → Port) : (s.modPort p f).vanes = s.vanes := rfl
@[simp] theorem State.modPort_dbg (p : Fin 16) (f : Port → Port) : (s.modPort p f).dbg = s.dbg := rfl
@[simp] theorem State.modPort_test (p : Fin 16) (f : Port → Port) : (s.modPort p f).test = s.test := rfl
@[simp] theorem State.modPort_mem (p : Fin 16) (f : Port → Port) : (s.modPort p f).mem = s.mem := rfl

/-! `modIng` changes `ingest` alone. -/

@[simp] theorem State.modIng_pending (n : Fin 8) (f : Ingest → Ingest) : (s.modIng n f).pending = s.pending := rfl
@[simp] theorem State.modIng_tb (n : Fin 8) (f : Ingest → Ingest) : (s.modIng n f).tb = s.tb := rfl
@[simp] theorem State.modIng_free (n : Fin 8) (f : Ingest → Ingest) : (s.modIng n f).free = s.free := rfl
@[simp] theorem State.modIng_ids (n : Fin 8) (f : Ingest → Ingest) : (s.modIng n f).ids = s.ids := rfl
@[simp] theorem State.modIng_mode (n : Fin 8) (f : Ingest → Ingest) : (s.modIng n f).mode = s.mode := rfl
@[simp] theorem State.modIng_pins (n : Fin 8) (f : Ingest → Ingest) : (s.modIng n f).pins = s.pins := rfl
@[simp] theorem State.modIng_regs (n : Fin 8) (f : Ingest → Ingest) : (s.modIng n f).regs = s.regs := rfl
@[simp] theorem State.modIng_ports (n : Fin 8) (f : Ingest → Ingest) : (s.modIng n f).ports = s.ports := rfl
@[simp] theorem State.modIng_reqs (n : Fin 8) (f : Ingest → Ingest) : (s.modIng n f).reqs = s.reqs := rfl
@[simp] theorem State.modIng_ledger (n : Fin 8) (f : Ingest → Ingest) : (s.modIng n f).ledger = s.ledger := rfl
@[simp] theorem State.modIng_hubs (n : Fin 8) (f : Ingest → Ingest) : (s.modIng n f).hubs = s.hubs := rfl
@[simp] theorem State.modIng_fab (n : Fin 8) (f : Ingest → Ingest) : (s.modIng n f).fab = s.fab := rfl
@[simp] theorem State.modIng_shr (n : Fin 8) (f : Ingest → Ingest) : (s.modIng n f).shr = s.shr := rfl
@[simp] theorem State.modIng_slices (n : Fin 8) (f : Ingest → Ingest) : (s.modIng n f).slices = s.slices := rfl
@[simp] theorem State.modIng_spr (n : Fin 8) (f : Ingest → Ingest) : (s.modIng n f).spr = s.spr := rfl
@[simp] theorem State.modIng_ao (n : Fin 8) (f : Ingest → Ingest) : (s.modIng n f).ao = s.ao := rfl
@[simp] theorem State.modIng_pwr (n : Fin 8) (f : Ingest → Ingest) : (s.modIng n f).pwr = s.pwr := rfl
@[simp] theorem State.modIng_squall (n : Fin 8) (f : Ingest → Ingest) : (s.modIng n f).squall = s.squall := rfl
@[simp] theorem State.modIng_keepA (n : Fin 8) (f : Ingest → Ingest) : (s.modIng n f).keepA = s.keepA := rfl
@[simp] theorem State.modIng_keepB (n : Fin 8) (f : Ingest → Ingest) : (s.modIng n f).keepB = s.keepB := rfl
@[simp] theorem State.modIng_brz (n : Fin 8) (f : Ingest → Ingest) : (s.modIng n f).brz = s.brz := rfl
@[simp] theorem State.modIng_err (n : Fin 8) (f : Ingest → Ingest) : (s.modIng n f).err = s.err := rfl
@[simp] theorem State.modIng_tel (n : Fin 8) (f : Ingest → Ingest) : (s.modIng n f).tel = s.tel := rfl
@[simp] theorem State.modIng_sec (n : Fin 8) (f : Ingest → Ingest) : (s.modIng n f).sec = s.sec := rfl
@[simp] theorem State.modIng_vanes (n : Fin 8) (f : Ingest → Ingest) : (s.modIng n f).vanes = s.vanes := rfl
@[simp] theorem State.modIng_dbg (n : Fin 8) (f : Ingest → Ingest) : (s.modIng n f).dbg = s.dbg := rfl
@[simp] theorem State.modIng_test (n : Fin 8) (f : Ingest → Ingest) : (s.modIng n f).test = s.test := rfl
@[simp] theorem State.modIng_mem (n : Fin 8) (f : Ingest → Ingest) : (s.modIng n f).mem = s.mem := rfl

/-! `modHub` changes `hubs` alone. -/

@[simp] theorem State.modHub_pending (h : Fin 8) (f : Hub → Hub) : (s.modHub h f).pending = s.pending := rfl
@[simp] theorem State.modHub_tb (h : Fin 8) (f : Hub → Hub) : (s.modHub h f).tb = s.tb := rfl
@[simp] theorem State.modHub_free (h : Fin 8) (f : Hub → Hub) : (s.modHub h f).free = s.free := rfl
@[simp] theorem State.modHub_ids (h : Fin 8) (f : Hub → Hub) : (s.modHub h f).ids = s.ids := rfl
@[simp] theorem State.modHub_mode (h : Fin 8) (f : Hub → Hub) : (s.modHub h f).mode = s.mode := rfl
@[simp] theorem State.modHub_pins (h : Fin 8) (f : Hub → Hub) : (s.modHub h f).pins = s.pins := rfl
@[simp] theorem State.modHub_regs (h : Fin 8) (f : Hub → Hub) : (s.modHub h f).regs = s.regs := rfl
@[simp] theorem State.modHub_ports (h : Fin 8) (f : Hub → Hub) : (s.modHub h f).ports = s.ports := rfl
@[simp] theorem State.modHub_reqs (h : Fin 8) (f : Hub → Hub) : (s.modHub h f).reqs = s.reqs := rfl
@[simp] theorem State.modHub_ingest (h : Fin 8) (f : Hub → Hub) : (s.modHub h f).ingest = s.ingest := rfl
@[simp] theorem State.modHub_ledger (h : Fin 8) (f : Hub → Hub) : (s.modHub h f).ledger = s.ledger := rfl
@[simp] theorem State.modHub_fab (h : Fin 8) (f : Hub → Hub) : (s.modHub h f).fab = s.fab := rfl
@[simp] theorem State.modHub_shr (h : Fin 8) (f : Hub → Hub) : (s.modHub h f).shr = s.shr := rfl
@[simp] theorem State.modHub_slices (h : Fin 8) (f : Hub → Hub) : (s.modHub h f).slices = s.slices := rfl
@[simp] theorem State.modHub_spr (h : Fin 8) (f : Hub → Hub) : (s.modHub h f).spr = s.spr := rfl
@[simp] theorem State.modHub_ao (h : Fin 8) (f : Hub → Hub) : (s.modHub h f).ao = s.ao := rfl
@[simp] theorem State.modHub_pwr (h : Fin 8) (f : Hub → Hub) : (s.modHub h f).pwr = s.pwr := rfl
@[simp] theorem State.modHub_squall (h : Fin 8) (f : Hub → Hub) : (s.modHub h f).squall = s.squall := rfl
@[simp] theorem State.modHub_keepA (h : Fin 8) (f : Hub → Hub) : (s.modHub h f).keepA = s.keepA := rfl
@[simp] theorem State.modHub_keepB (h : Fin 8) (f : Hub → Hub) : (s.modHub h f).keepB = s.keepB := rfl
@[simp] theorem State.modHub_brz (h : Fin 8) (f : Hub → Hub) : (s.modHub h f).brz = s.brz := rfl
@[simp] theorem State.modHub_err (h : Fin 8) (f : Hub → Hub) : (s.modHub h f).err = s.err := rfl
@[simp] theorem State.modHub_tel (h : Fin 8) (f : Hub → Hub) : (s.modHub h f).tel = s.tel := rfl
@[simp] theorem State.modHub_sec (h : Fin 8) (f : Hub → Hub) : (s.modHub h f).sec = s.sec := rfl
@[simp] theorem State.modHub_vanes (h : Fin 8) (f : Hub → Hub) : (s.modHub h f).vanes = s.vanes := rfl
@[simp] theorem State.modHub_dbg (h : Fin 8) (f : Hub → Hub) : (s.modHub h f).dbg = s.dbg := rfl
@[simp] theorem State.modHub_test (h : Fin 8) (f : Hub → Hub) : (s.modHub h f).test = s.test := rfl
@[simp] theorem State.modHub_mem (h : Fin 8) (f : Hub → Hub) : (s.modHub h f).mem = s.mem := rfl

/-! `modSlice` changes `slices` alone. -/

@[simp] theorem State.modSlice_pending (c : Fin 80) (f : Slice → Slice) : (s.modSlice c f).pending = s.pending := rfl
@[simp] theorem State.modSlice_tb (c : Fin 80) (f : Slice → Slice) : (s.modSlice c f).tb = s.tb := rfl
@[simp] theorem State.modSlice_free (c : Fin 80) (f : Slice → Slice) : (s.modSlice c f).free = s.free := rfl
@[simp] theorem State.modSlice_ids (c : Fin 80) (f : Slice → Slice) : (s.modSlice c f).ids = s.ids := rfl
@[simp] theorem State.modSlice_mode (c : Fin 80) (f : Slice → Slice) : (s.modSlice c f).mode = s.mode := rfl
@[simp] theorem State.modSlice_pins (c : Fin 80) (f : Slice → Slice) : (s.modSlice c f).pins = s.pins := rfl
@[simp] theorem State.modSlice_regs (c : Fin 80) (f : Slice → Slice) : (s.modSlice c f).regs = s.regs := rfl
@[simp] theorem State.modSlice_ports (c : Fin 80) (f : Slice → Slice) : (s.modSlice c f).ports = s.ports := rfl
@[simp] theorem State.modSlice_reqs (c : Fin 80) (f : Slice → Slice) : (s.modSlice c f).reqs = s.reqs := rfl
@[simp] theorem State.modSlice_ingest (c : Fin 80) (f : Slice → Slice) : (s.modSlice c f).ingest = s.ingest := rfl
@[simp] theorem State.modSlice_ledger (c : Fin 80) (f : Slice → Slice) : (s.modSlice c f).ledger = s.ledger := rfl
@[simp] theorem State.modSlice_hubs (c : Fin 80) (f : Slice → Slice) : (s.modSlice c f).hubs = s.hubs := rfl
@[simp] theorem State.modSlice_fab (c : Fin 80) (f : Slice → Slice) : (s.modSlice c f).fab = s.fab := rfl
@[simp] theorem State.modSlice_shr (c : Fin 80) (f : Slice → Slice) : (s.modSlice c f).shr = s.shr := rfl
@[simp] theorem State.modSlice_spr (c : Fin 80) (f : Slice → Slice) : (s.modSlice c f).spr = s.spr := rfl
@[simp] theorem State.modSlice_ao (c : Fin 80) (f : Slice → Slice) : (s.modSlice c f).ao = s.ao := rfl
@[simp] theorem State.modSlice_pwr (c : Fin 80) (f : Slice → Slice) : (s.modSlice c f).pwr = s.pwr := rfl
@[simp] theorem State.modSlice_squall (c : Fin 80) (f : Slice → Slice) : (s.modSlice c f).squall = s.squall := rfl
@[simp] theorem State.modSlice_keepA (c : Fin 80) (f : Slice → Slice) : (s.modSlice c f).keepA = s.keepA := rfl
@[simp] theorem State.modSlice_keepB (c : Fin 80) (f : Slice → Slice) : (s.modSlice c f).keepB = s.keepB := rfl
@[simp] theorem State.modSlice_brz (c : Fin 80) (f : Slice → Slice) : (s.modSlice c f).brz = s.brz := rfl
@[simp] theorem State.modSlice_err (c : Fin 80) (f : Slice → Slice) : (s.modSlice c f).err = s.err := rfl
@[simp] theorem State.modSlice_tel (c : Fin 80) (f : Slice → Slice) : (s.modSlice c f).tel = s.tel := rfl
@[simp] theorem State.modSlice_sec (c : Fin 80) (f : Slice → Slice) : (s.modSlice c f).sec = s.sec := rfl
@[simp] theorem State.modSlice_vanes (c : Fin 80) (f : Slice → Slice) : (s.modSlice c f).vanes = s.vanes := rfl
@[simp] theorem State.modSlice_dbg (c : Fin 80) (f : Slice → Slice) : (s.modSlice c f).dbg = s.dbg := rfl
@[simp] theorem State.modSlice_test (c : Fin 80) (f : Slice → Slice) : (s.modSlice c f).test = s.test := rfl
@[simp] theorem State.modSlice_mem (c : Fin 80) (f : Slice → Slice) : (s.modSlice c f).mem = s.mem := rfl

/-! `modSched` changes `slices` alone. -/

@[simp] theorem State.modSched_pending (c : Fin 80) (f : Sched → Sched) : (s.modSched c f).pending = s.pending := rfl
@[simp] theorem State.modSched_tb (c : Fin 80) (f : Sched → Sched) : (s.modSched c f).tb = s.tb := rfl
@[simp] theorem State.modSched_free (c : Fin 80) (f : Sched → Sched) : (s.modSched c f).free = s.free := rfl
@[simp] theorem State.modSched_ids (c : Fin 80) (f : Sched → Sched) : (s.modSched c f).ids = s.ids := rfl
@[simp] theorem State.modSched_mode (c : Fin 80) (f : Sched → Sched) : (s.modSched c f).mode = s.mode := rfl
@[simp] theorem State.modSched_pins (c : Fin 80) (f : Sched → Sched) : (s.modSched c f).pins = s.pins := rfl
@[simp] theorem State.modSched_regs (c : Fin 80) (f : Sched → Sched) : (s.modSched c f).regs = s.regs := rfl
@[simp] theorem State.modSched_ports (c : Fin 80) (f : Sched → Sched) : (s.modSched c f).ports = s.ports := rfl
@[simp] theorem State.modSched_reqs (c : Fin 80) (f : Sched → Sched) : (s.modSched c f).reqs = s.reqs := rfl
@[simp] theorem State.modSched_ingest (c : Fin 80) (f : Sched → Sched) : (s.modSched c f).ingest = s.ingest := rfl
@[simp] theorem State.modSched_ledger (c : Fin 80) (f : Sched → Sched) : (s.modSched c f).ledger = s.ledger := rfl
@[simp] theorem State.modSched_hubs (c : Fin 80) (f : Sched → Sched) : (s.modSched c f).hubs = s.hubs := rfl
@[simp] theorem State.modSched_fab (c : Fin 80) (f : Sched → Sched) : (s.modSched c f).fab = s.fab := rfl
@[simp] theorem State.modSched_shr (c : Fin 80) (f : Sched → Sched) : (s.modSched c f).shr = s.shr := rfl
@[simp] theorem State.modSched_spr (c : Fin 80) (f : Sched → Sched) : (s.modSched c f).spr = s.spr := rfl
@[simp] theorem State.modSched_ao (c : Fin 80) (f : Sched → Sched) : (s.modSched c f).ao = s.ao := rfl
@[simp] theorem State.modSched_pwr (c : Fin 80) (f : Sched → Sched) : (s.modSched c f).pwr = s.pwr := rfl
@[simp] theorem State.modSched_squall (c : Fin 80) (f : Sched → Sched) : (s.modSched c f).squall = s.squall := rfl
@[simp] theorem State.modSched_keepA (c : Fin 80) (f : Sched → Sched) : (s.modSched c f).keepA = s.keepA := rfl
@[simp] theorem State.modSched_keepB (c : Fin 80) (f : Sched → Sched) : (s.modSched c f).keepB = s.keepB := rfl
@[simp] theorem State.modSched_brz (c : Fin 80) (f : Sched → Sched) : (s.modSched c f).brz = s.brz := rfl
@[simp] theorem State.modSched_err (c : Fin 80) (f : Sched → Sched) : (s.modSched c f).err = s.err := rfl
@[simp] theorem State.modSched_tel (c : Fin 80) (f : Sched → Sched) : (s.modSched c f).tel = s.tel := rfl
@[simp] theorem State.modSched_sec (c : Fin 80) (f : Sched → Sched) : (s.modSched c f).sec = s.sec := rfl
@[simp] theorem State.modSched_vanes (c : Fin 80) (f : Sched → Sched) : (s.modSched c f).vanes = s.vanes := rfl
@[simp] theorem State.modSched_dbg (c : Fin 80) (f : Sched → Sched) : (s.modSched c f).dbg = s.dbg := rfl
@[simp] theorem State.modSched_test (c : Fin 80) (f : Sched → Sched) : (s.modSched c f).test = s.test := rfl
@[simp] theorem State.modSched_mem (c : Fin 80) (f : Sched → Sched) : (s.modSched c f).mem = s.mem := rfl

/-! `modTrain` changes `slices` alone. -/

@[simp] theorem State.modTrain_pending (c : Fin 80) (f : Train → Train) : (s.modTrain c f).pending = s.pending := rfl
@[simp] theorem State.modTrain_tb (c : Fin 80) (f : Train → Train) : (s.modTrain c f).tb = s.tb := rfl
@[simp] theorem State.modTrain_free (c : Fin 80) (f : Train → Train) : (s.modTrain c f).free = s.free := rfl
@[simp] theorem State.modTrain_ids (c : Fin 80) (f : Train → Train) : (s.modTrain c f).ids = s.ids := rfl
@[simp] theorem State.modTrain_mode (c : Fin 80) (f : Train → Train) : (s.modTrain c f).mode = s.mode := rfl
@[simp] theorem State.modTrain_pins (c : Fin 80) (f : Train → Train) : (s.modTrain c f).pins = s.pins := rfl
@[simp] theorem State.modTrain_regs (c : Fin 80) (f : Train → Train) : (s.modTrain c f).regs = s.regs := rfl
@[simp] theorem State.modTrain_ports (c : Fin 80) (f : Train → Train) : (s.modTrain c f).ports = s.ports := rfl
@[simp] theorem State.modTrain_reqs (c : Fin 80) (f : Train → Train) : (s.modTrain c f).reqs = s.reqs := rfl
@[simp] theorem State.modTrain_ingest (c : Fin 80) (f : Train → Train) : (s.modTrain c f).ingest = s.ingest := rfl
@[simp] theorem State.modTrain_ledger (c : Fin 80) (f : Train → Train) : (s.modTrain c f).ledger = s.ledger := rfl
@[simp] theorem State.modTrain_hubs (c : Fin 80) (f : Train → Train) : (s.modTrain c f).hubs = s.hubs := rfl
@[simp] theorem State.modTrain_fab (c : Fin 80) (f : Train → Train) : (s.modTrain c f).fab = s.fab := rfl
@[simp] theorem State.modTrain_shr (c : Fin 80) (f : Train → Train) : (s.modTrain c f).shr = s.shr := rfl
@[simp] theorem State.modTrain_spr (c : Fin 80) (f : Train → Train) : (s.modTrain c f).spr = s.spr := rfl
@[simp] theorem State.modTrain_ao (c : Fin 80) (f : Train → Train) : (s.modTrain c f).ao = s.ao := rfl
@[simp] theorem State.modTrain_pwr (c : Fin 80) (f : Train → Train) : (s.modTrain c f).pwr = s.pwr := rfl
@[simp] theorem State.modTrain_squall (c : Fin 80) (f : Train → Train) : (s.modTrain c f).squall = s.squall := rfl
@[simp] theorem State.modTrain_keepA (c : Fin 80) (f : Train → Train) : (s.modTrain c f).keepA = s.keepA := rfl
@[simp] theorem State.modTrain_keepB (c : Fin 80) (f : Train → Train) : (s.modTrain c f).keepB = s.keepB := rfl
@[simp] theorem State.modTrain_brz (c : Fin 80) (f : Train → Train) : (s.modTrain c f).brz = s.brz := rfl
@[simp] theorem State.modTrain_err (c : Fin 80) (f : Train → Train) : (s.modTrain c f).err = s.err := rfl
@[simp] theorem State.modTrain_tel (c : Fin 80) (f : Train → Train) : (s.modTrain c f).tel = s.tel := rfl
@[simp] theorem State.modTrain_sec (c : Fin 80) (f : Train → Train) : (s.modTrain c f).sec = s.sec := rfl
@[simp] theorem State.modTrain_vanes (c : Fin 80) (f : Train → Train) : (s.modTrain c f).vanes = s.vanes := rfl
@[simp] theorem State.modTrain_dbg (c : Fin 80) (f : Train → Train) : (s.modTrain c f).dbg = s.dbg := rfl
@[simp] theorem State.modTrain_test (c : Fin 80) (f : Train → Train) : (s.modTrain c f).test = s.test := rfl
@[simp] theorem State.modTrain_mem (c : Fin 80) (f : Train → Train) : (s.modTrain c f).mem = s.mem := rfl

/-! `modHealth` changes `slices` alone. -/

@[simp] theorem State.modHealth_pending (c : Fin 80) (f : Health → Health) : (s.modHealth c f).pending = s.pending := rfl
@[simp] theorem State.modHealth_tb (c : Fin 80) (f : Health → Health) : (s.modHealth c f).tb = s.tb := rfl
@[simp] theorem State.modHealth_free (c : Fin 80) (f : Health → Health) : (s.modHealth c f).free = s.free := rfl
@[simp] theorem State.modHealth_ids (c : Fin 80) (f : Health → Health) : (s.modHealth c f).ids = s.ids := rfl
@[simp] theorem State.modHealth_mode (c : Fin 80) (f : Health → Health) : (s.modHealth c f).mode = s.mode := rfl
@[simp] theorem State.modHealth_pins (c : Fin 80) (f : Health → Health) : (s.modHealth c f).pins = s.pins := rfl
@[simp] theorem State.modHealth_regs (c : Fin 80) (f : Health → Health) : (s.modHealth c f).regs = s.regs := rfl
@[simp] theorem State.modHealth_ports (c : Fin 80) (f : Health → Health) : (s.modHealth c f).ports = s.ports := rfl
@[simp] theorem State.modHealth_reqs (c : Fin 80) (f : Health → Health) : (s.modHealth c f).reqs = s.reqs := rfl
@[simp] theorem State.modHealth_ingest (c : Fin 80) (f : Health → Health) : (s.modHealth c f).ingest = s.ingest := rfl
@[simp] theorem State.modHealth_ledger (c : Fin 80) (f : Health → Health) : (s.modHealth c f).ledger = s.ledger := rfl
@[simp] theorem State.modHealth_hubs (c : Fin 80) (f : Health → Health) : (s.modHealth c f).hubs = s.hubs := rfl
@[simp] theorem State.modHealth_fab (c : Fin 80) (f : Health → Health) : (s.modHealth c f).fab = s.fab := rfl
@[simp] theorem State.modHealth_shr (c : Fin 80) (f : Health → Health) : (s.modHealth c f).shr = s.shr := rfl
@[simp] theorem State.modHealth_spr (c : Fin 80) (f : Health → Health) : (s.modHealth c f).spr = s.spr := rfl
@[simp] theorem State.modHealth_ao (c : Fin 80) (f : Health → Health) : (s.modHealth c f).ao = s.ao := rfl
@[simp] theorem State.modHealth_pwr (c : Fin 80) (f : Health → Health) : (s.modHealth c f).pwr = s.pwr := rfl
@[simp] theorem State.modHealth_squall (c : Fin 80) (f : Health → Health) : (s.modHealth c f).squall = s.squall := rfl
@[simp] theorem State.modHealth_keepA (c : Fin 80) (f : Health → Health) : (s.modHealth c f).keepA = s.keepA := rfl
@[simp] theorem State.modHealth_keepB (c : Fin 80) (f : Health → Health) : (s.modHealth c f).keepB = s.keepB := rfl
@[simp] theorem State.modHealth_brz (c : Fin 80) (f : Health → Health) : (s.modHealth c f).brz = s.brz := rfl
@[simp] theorem State.modHealth_err (c : Fin 80) (f : Health → Health) : (s.modHealth c f).err = s.err := rfl
@[simp] theorem State.modHealth_tel (c : Fin 80) (f : Health → Health) : (s.modHealth c f).tel = s.tel := rfl
@[simp] theorem State.modHealth_sec (c : Fin 80) (f : Health → Health) : (s.modHealth c f).sec = s.sec := rfl
@[simp] theorem State.modHealth_vanes (c : Fin 80) (f : Health → Health) : (s.modHealth c f).vanes = s.vanes := rfl
@[simp] theorem State.modHealth_dbg (c : Fin 80) (f : Health → Health) : (s.modHealth c f).dbg = s.dbg := rfl
@[simp] theorem State.modHealth_test (c : Fin 80) (f : Health → Health) : (s.modHealth c f).test = s.test := rfl
@[simp] theorem State.modHealth_mem (c : Fin 80) (f : Health → Health) : (s.modHealth c f).mem = s.mem := rfl

/-! `setRole` changes `slices` alone. -/

@[simp] theorem State.setRole_pending (c : Fin 80) (r : BitVec 4) : (s.setRole c r).pending = s.pending := rfl
@[simp] theorem State.setRole_tb (c : Fin 80) (r : BitVec 4) : (s.setRole c r).tb = s.tb := rfl
@[simp] theorem State.setRole_free (c : Fin 80) (r : BitVec 4) : (s.setRole c r).free = s.free := rfl
@[simp] theorem State.setRole_ids (c : Fin 80) (r : BitVec 4) : (s.setRole c r).ids = s.ids := rfl
@[simp] theorem State.setRole_mode (c : Fin 80) (r : BitVec 4) : (s.setRole c r).mode = s.mode := rfl
@[simp] theorem State.setRole_pins (c : Fin 80) (r : BitVec 4) : (s.setRole c r).pins = s.pins := rfl
@[simp] theorem State.setRole_regs (c : Fin 80) (r : BitVec 4) : (s.setRole c r).regs = s.regs := rfl
@[simp] theorem State.setRole_ports (c : Fin 80) (r : BitVec 4) : (s.setRole c r).ports = s.ports := rfl
@[simp] theorem State.setRole_reqs (c : Fin 80) (r : BitVec 4) : (s.setRole c r).reqs = s.reqs := rfl
@[simp] theorem State.setRole_ingest (c : Fin 80) (r : BitVec 4) : (s.setRole c r).ingest = s.ingest := rfl
@[simp] theorem State.setRole_ledger (c : Fin 80) (r : BitVec 4) : (s.setRole c r).ledger = s.ledger := rfl
@[simp] theorem State.setRole_hubs (c : Fin 80) (r : BitVec 4) : (s.setRole c r).hubs = s.hubs := rfl
@[simp] theorem State.setRole_fab (c : Fin 80) (r : BitVec 4) : (s.setRole c r).fab = s.fab := rfl
@[simp] theorem State.setRole_shr (c : Fin 80) (r : BitVec 4) : (s.setRole c r).shr = s.shr := rfl
@[simp] theorem State.setRole_spr (c : Fin 80) (r : BitVec 4) : (s.setRole c r).spr = s.spr := rfl
@[simp] theorem State.setRole_ao (c : Fin 80) (r : BitVec 4) : (s.setRole c r).ao = s.ao := rfl
@[simp] theorem State.setRole_pwr (c : Fin 80) (r : BitVec 4) : (s.setRole c r).pwr = s.pwr := rfl
@[simp] theorem State.setRole_squall (c : Fin 80) (r : BitVec 4) : (s.setRole c r).squall = s.squall := rfl
@[simp] theorem State.setRole_keepA (c : Fin 80) (r : BitVec 4) : (s.setRole c r).keepA = s.keepA := rfl
@[simp] theorem State.setRole_keepB (c : Fin 80) (r : BitVec 4) : (s.setRole c r).keepB = s.keepB := rfl
@[simp] theorem State.setRole_brz (c : Fin 80) (r : BitVec 4) : (s.setRole c r).brz = s.brz := rfl
@[simp] theorem State.setRole_err (c : Fin 80) (r : BitVec 4) : (s.setRole c r).err = s.err := rfl
@[simp] theorem State.setRole_tel (c : Fin 80) (r : BitVec 4) : (s.setRole c r).tel = s.tel := rfl
@[simp] theorem State.setRole_sec (c : Fin 80) (r : BitVec 4) : (s.setRole c r).sec = s.sec := rfl
@[simp] theorem State.setRole_vanes (c : Fin 80) (r : BitVec 4) : (s.setRole c r).vanes = s.vanes := rfl
@[simp] theorem State.setRole_dbg (c : Fin 80) (r : BitVec 4) : (s.setRole c r).dbg = s.dbg := rfl
@[simp] theorem State.setRole_test (c : Fin 80) (r : BitVec 4) : (s.setRole c r).test = s.test := rfl
@[simp] theorem State.setRole_mem (c : Fin 80) (r : BitVec 4) : (s.setRole c r).mem = s.mem := rfl

/-! `modVane` changes `vanes` alone. -/

@[simp] theorem State.modVane_pending (v : Fin 24) (f : Vane → Vane) : (s.modVane v f).pending = s.pending := rfl
@[simp] theorem State.modVane_tb (v : Fin 24) (f : Vane → Vane) : (s.modVane v f).tb = s.tb := rfl
@[simp] theorem State.modVane_free (v : Fin 24) (f : Vane → Vane) : (s.modVane v f).free = s.free := rfl
@[simp] theorem State.modVane_ids (v : Fin 24) (f : Vane → Vane) : (s.modVane v f).ids = s.ids := rfl
@[simp] theorem State.modVane_mode (v : Fin 24) (f : Vane → Vane) : (s.modVane v f).mode = s.mode := rfl
@[simp] theorem State.modVane_pins (v : Fin 24) (f : Vane → Vane) : (s.modVane v f).pins = s.pins := rfl
@[simp] theorem State.modVane_regs (v : Fin 24) (f : Vane → Vane) : (s.modVane v f).regs = s.regs := rfl
@[simp] theorem State.modVane_ports (v : Fin 24) (f : Vane → Vane) : (s.modVane v f).ports = s.ports := rfl
@[simp] theorem State.modVane_reqs (v : Fin 24) (f : Vane → Vane) : (s.modVane v f).reqs = s.reqs := rfl
@[simp] theorem State.modVane_ingest (v : Fin 24) (f : Vane → Vane) : (s.modVane v f).ingest = s.ingest := rfl
@[simp] theorem State.modVane_ledger (v : Fin 24) (f : Vane → Vane) : (s.modVane v f).ledger = s.ledger := rfl
@[simp] theorem State.modVane_hubs (v : Fin 24) (f : Vane → Vane) : (s.modVane v f).hubs = s.hubs := rfl
@[simp] theorem State.modVane_fab (v : Fin 24) (f : Vane → Vane) : (s.modVane v f).fab = s.fab := rfl
@[simp] theorem State.modVane_shr (v : Fin 24) (f : Vane → Vane) : (s.modVane v f).shr = s.shr := rfl
@[simp] theorem State.modVane_slices (v : Fin 24) (f : Vane → Vane) : (s.modVane v f).slices = s.slices := rfl
@[simp] theorem State.modVane_spr (v : Fin 24) (f : Vane → Vane) : (s.modVane v f).spr = s.spr := rfl
@[simp] theorem State.modVane_ao (v : Fin 24) (f : Vane → Vane) : (s.modVane v f).ao = s.ao := rfl
@[simp] theorem State.modVane_pwr (v : Fin 24) (f : Vane → Vane) : (s.modVane v f).pwr = s.pwr := rfl
@[simp] theorem State.modVane_squall (v : Fin 24) (f : Vane → Vane) : (s.modVane v f).squall = s.squall := rfl
@[simp] theorem State.modVane_keepA (v : Fin 24) (f : Vane → Vane) : (s.modVane v f).keepA = s.keepA := rfl
@[simp] theorem State.modVane_keepB (v : Fin 24) (f : Vane → Vane) : (s.modVane v f).keepB = s.keepB := rfl
@[simp] theorem State.modVane_brz (v : Fin 24) (f : Vane → Vane) : (s.modVane v f).brz = s.brz := rfl
@[simp] theorem State.modVane_err (v : Fin 24) (f : Vane → Vane) : (s.modVane v f).err = s.err := rfl
@[simp] theorem State.modVane_tel (v : Fin 24) (f : Vane → Vane) : (s.modVane v f).tel = s.tel := rfl
@[simp] theorem State.modVane_sec (v : Fin 24) (f : Vane → Vane) : (s.modVane v f).sec = s.sec := rfl
@[simp] theorem State.modVane_dbg (v : Fin 24) (f : Vane → Vane) : (s.modVane v f).dbg = s.dbg := rfl
@[simp] theorem State.modVane_test (v : Fin 24) (f : Vane → Vane) : (s.modVane v f).test = s.test := rfl
@[simp] theorem State.modVane_mem (v : Fin 24) (f : Vane → Vane) : (s.modVane v f).mem = s.mem := rfl

/-! `modSlot` changes `sec` alone. -/

@[simp] theorem State.modSlot_pending (k : Fin 16) (f : KeySlot → KeySlot) : (s.modSlot k f).pending = s.pending := rfl
@[simp] theorem State.modSlot_tb (k : Fin 16) (f : KeySlot → KeySlot) : (s.modSlot k f).tb = s.tb := rfl
@[simp] theorem State.modSlot_free (k : Fin 16) (f : KeySlot → KeySlot) : (s.modSlot k f).free = s.free := rfl
@[simp] theorem State.modSlot_ids (k : Fin 16) (f : KeySlot → KeySlot) : (s.modSlot k f).ids = s.ids := rfl
@[simp] theorem State.modSlot_mode (k : Fin 16) (f : KeySlot → KeySlot) : (s.modSlot k f).mode = s.mode := rfl
@[simp] theorem State.modSlot_pins (k : Fin 16) (f : KeySlot → KeySlot) : (s.modSlot k f).pins = s.pins := rfl
@[simp] theorem State.modSlot_regs (k : Fin 16) (f : KeySlot → KeySlot) : (s.modSlot k f).regs = s.regs := rfl
@[simp] theorem State.modSlot_ports (k : Fin 16) (f : KeySlot → KeySlot) : (s.modSlot k f).ports = s.ports := rfl
@[simp] theorem State.modSlot_reqs (k : Fin 16) (f : KeySlot → KeySlot) : (s.modSlot k f).reqs = s.reqs := rfl
@[simp] theorem State.modSlot_ingest (k : Fin 16) (f : KeySlot → KeySlot) : (s.modSlot k f).ingest = s.ingest := rfl
@[simp] theorem State.modSlot_ledger (k : Fin 16) (f : KeySlot → KeySlot) : (s.modSlot k f).ledger = s.ledger := rfl
@[simp] theorem State.modSlot_hubs (k : Fin 16) (f : KeySlot → KeySlot) : (s.modSlot k f).hubs = s.hubs := rfl
@[simp] theorem State.modSlot_fab (k : Fin 16) (f : KeySlot → KeySlot) : (s.modSlot k f).fab = s.fab := rfl
@[simp] theorem State.modSlot_shr (k : Fin 16) (f : KeySlot → KeySlot) : (s.modSlot k f).shr = s.shr := rfl
@[simp] theorem State.modSlot_slices (k : Fin 16) (f : KeySlot → KeySlot) : (s.modSlot k f).slices = s.slices := rfl
@[simp] theorem State.modSlot_spr (k : Fin 16) (f : KeySlot → KeySlot) : (s.modSlot k f).spr = s.spr := rfl
@[simp] theorem State.modSlot_ao (k : Fin 16) (f : KeySlot → KeySlot) : (s.modSlot k f).ao = s.ao := rfl
@[simp] theorem State.modSlot_pwr (k : Fin 16) (f : KeySlot → KeySlot) : (s.modSlot k f).pwr = s.pwr := rfl
@[simp] theorem State.modSlot_squall (k : Fin 16) (f : KeySlot → KeySlot) : (s.modSlot k f).squall = s.squall := rfl
@[simp] theorem State.modSlot_keepA (k : Fin 16) (f : KeySlot → KeySlot) : (s.modSlot k f).keepA = s.keepA := rfl
@[simp] theorem State.modSlot_keepB (k : Fin 16) (f : KeySlot → KeySlot) : (s.modSlot k f).keepB = s.keepB := rfl
@[simp] theorem State.modSlot_brz (k : Fin 16) (f : KeySlot → KeySlot) : (s.modSlot k f).brz = s.brz := rfl
@[simp] theorem State.modSlot_err (k : Fin 16) (f : KeySlot → KeySlot) : (s.modSlot k f).err = s.err := rfl
@[simp] theorem State.modSlot_tel (k : Fin 16) (f : KeySlot → KeySlot) : (s.modSlot k f).tel = s.tel := rfl
@[simp] theorem State.modSlot_vanes (k : Fin 16) (f : KeySlot → KeySlot) : (s.modSlot k f).vanes = s.vanes := rfl
@[simp] theorem State.modSlot_dbg (k : Fin 16) (f : KeySlot → KeySlot) : (s.modSlot k f).dbg = s.dbg := rfl
@[simp] theorem State.modSlot_test (k : Fin 16) (f : KeySlot → KeySlot) : (s.modSlot k f).test = s.test := rfl
@[simp] theorem State.modSlot_mem (k : Fin 16) (f : KeySlot → KeySlot) : (s.modSlot k f).mem = s.mem := rfl

/-! `setHeader` changes `regs` alone. -/

@[simp] theorem State.setHeader_pending (page : Nat) (h : Header) : (s.setHeader page h).pending = s.pending := rfl
@[simp] theorem State.setHeader_tb (page : Nat) (h : Header) : (s.setHeader page h).tb = s.tb := rfl
@[simp] theorem State.setHeader_free (page : Nat) (h : Header) : (s.setHeader page h).free = s.free := rfl
@[simp] theorem State.setHeader_ids (page : Nat) (h : Header) : (s.setHeader page h).ids = s.ids := rfl
@[simp] theorem State.setHeader_mode (page : Nat) (h : Header) : (s.setHeader page h).mode = s.mode := rfl
@[simp] theorem State.setHeader_pins (page : Nat) (h : Header) : (s.setHeader page h).pins = s.pins := rfl
@[simp] theorem State.setHeader_ports (page : Nat) (h : Header) : (s.setHeader page h).ports = s.ports := rfl
@[simp] theorem State.setHeader_reqs (page : Nat) (h : Header) : (s.setHeader page h).reqs = s.reqs := rfl
@[simp] theorem State.setHeader_ingest (page : Nat) (h : Header) : (s.setHeader page h).ingest = s.ingest := rfl
@[simp] theorem State.setHeader_ledger (page : Nat) (h : Header) : (s.setHeader page h).ledger = s.ledger := rfl
@[simp] theorem State.setHeader_hubs (page : Nat) (h : Header) : (s.setHeader page h).hubs = s.hubs := rfl
@[simp] theorem State.setHeader_fab (page : Nat) (h : Header) : (s.setHeader page h).fab = s.fab := rfl
@[simp] theorem State.setHeader_shr (page : Nat) (h : Header) : (s.setHeader page h).shr = s.shr := rfl
@[simp] theorem State.setHeader_slices (page : Nat) (h : Header) : (s.setHeader page h).slices = s.slices := rfl
@[simp] theorem State.setHeader_spr (page : Nat) (h : Header) : (s.setHeader page h).spr = s.spr := rfl
@[simp] theorem State.setHeader_ao (page : Nat) (h : Header) : (s.setHeader page h).ao = s.ao := rfl
@[simp] theorem State.setHeader_pwr (page : Nat) (h : Header) : (s.setHeader page h).pwr = s.pwr := rfl
@[simp] theorem State.setHeader_squall (page : Nat) (h : Header) : (s.setHeader page h).squall = s.squall := rfl
@[simp] theorem State.setHeader_keepA (page : Nat) (h : Header) : (s.setHeader page h).keepA = s.keepA := rfl
@[simp] theorem State.setHeader_keepB (page : Nat) (h : Header) : (s.setHeader page h).keepB = s.keepB := rfl
@[simp] theorem State.setHeader_brz (page : Nat) (h : Header) : (s.setHeader page h).brz = s.brz := rfl
@[simp] theorem State.setHeader_err (page : Nat) (h : Header) : (s.setHeader page h).err = s.err := rfl
@[simp] theorem State.setHeader_tel (page : Nat) (h : Header) : (s.setHeader page h).tel = s.tel := rfl
@[simp] theorem State.setHeader_sec (page : Nat) (h : Header) : (s.setHeader page h).sec = s.sec := rfl
@[simp] theorem State.setHeader_vanes (page : Nat) (h : Header) : (s.setHeader page h).vanes = s.vanes := rfl
@[simp] theorem State.setHeader_dbg (page : Nat) (h : Header) : (s.setHeader page h).dbg = s.dbg := rfl
@[simp] theorem State.setHeader_test (page : Nat) (h : Header) : (s.setHeader page h).test = s.test := rfl
@[simp] theorem State.setHeader_mem (page : Nat) (h : Header) : (s.setHeader page h).mem = s.mem := rfl

/-! `modHeader` changes `regs` alone. -/

@[simp] theorem State.modHeader_pending (page : Nat) (f : Header → Header) : (s.modHeader page f).pending = s.pending := rfl
@[simp] theorem State.modHeader_tb (page : Nat) (f : Header → Header) : (s.modHeader page f).tb = s.tb := rfl
@[simp] theorem State.modHeader_free (page : Nat) (f : Header → Header) : (s.modHeader page f).free = s.free := rfl
@[simp] theorem State.modHeader_ids (page : Nat) (f : Header → Header) : (s.modHeader page f).ids = s.ids := rfl
@[simp] theorem State.modHeader_mode (page : Nat) (f : Header → Header) : (s.modHeader page f).mode = s.mode := rfl
@[simp] theorem State.modHeader_pins (page : Nat) (f : Header → Header) : (s.modHeader page f).pins = s.pins := rfl
@[simp] theorem State.modHeader_ports (page : Nat) (f : Header → Header) : (s.modHeader page f).ports = s.ports := rfl
@[simp] theorem State.modHeader_reqs (page : Nat) (f : Header → Header) : (s.modHeader page f).reqs = s.reqs := rfl
@[simp] theorem State.modHeader_ingest (page : Nat) (f : Header → Header) : (s.modHeader page f).ingest = s.ingest := rfl
@[simp] theorem State.modHeader_ledger (page : Nat) (f : Header → Header) : (s.modHeader page f).ledger = s.ledger := rfl
@[simp] theorem State.modHeader_hubs (page : Nat) (f : Header → Header) : (s.modHeader page f).hubs = s.hubs := rfl
@[simp] theorem State.modHeader_fab (page : Nat) (f : Header → Header) : (s.modHeader page f).fab = s.fab := rfl
@[simp] theorem State.modHeader_shr (page : Nat) (f : Header → Header) : (s.modHeader page f).shr = s.shr := rfl
@[simp] theorem State.modHeader_slices (page : Nat) (f : Header → Header) : (s.modHeader page f).slices = s.slices := rfl
@[simp] theorem State.modHeader_spr (page : Nat) (f : Header → Header) : (s.modHeader page f).spr = s.spr := rfl
@[simp] theorem State.modHeader_ao (page : Nat) (f : Header → Header) : (s.modHeader page f).ao = s.ao := rfl
@[simp] theorem State.modHeader_pwr (page : Nat) (f : Header → Header) : (s.modHeader page f).pwr = s.pwr := rfl
@[simp] theorem State.modHeader_squall (page : Nat) (f : Header → Header) : (s.modHeader page f).squall = s.squall := rfl
@[simp] theorem State.modHeader_keepA (page : Nat) (f : Header → Header) : (s.modHeader page f).keepA = s.keepA := rfl
@[simp] theorem State.modHeader_keepB (page : Nat) (f : Header → Header) : (s.modHeader page f).keepB = s.keepB := rfl
@[simp] theorem State.modHeader_brz (page : Nat) (f : Header → Header) : (s.modHeader page f).brz = s.brz := rfl
@[simp] theorem State.modHeader_err (page : Nat) (f : Header → Header) : (s.modHeader page f).err = s.err := rfl
@[simp] theorem State.modHeader_tel (page : Nat) (f : Header → Header) : (s.modHeader page f).tel = s.tel := rfl
@[simp] theorem State.modHeader_sec (page : Nat) (f : Header → Header) : (s.modHeader page f).sec = s.sec := rfl
@[simp] theorem State.modHeader_vanes (page : Nat) (f : Header → Header) : (s.modHeader page f).vanes = s.vanes := rfl
@[simp] theorem State.modHeader_dbg (page : Nat) (f : Header → Header) : (s.modHeader page f).dbg = s.dbg := rfl
@[simp] theorem State.modHeader_test (page : Nat) (f : Header → Header) : (s.modHeader page f).test = s.test := rfl
@[simp] theorem State.modHeader_mem (page : Nat) (f : Header → Header) : (s.modHeader page f).mem = s.mem := rfl

/-! `raiseMask` changes `regs` alone. -/

@[simp] theorem State.raiseMask_pending (page : Nat) (m : Reg) : (s.raiseMask page m).pending = s.pending := rfl
@[simp] theorem State.raiseMask_tb (page : Nat) (m : Reg) : (s.raiseMask page m).tb = s.tb := rfl
@[simp] theorem State.raiseMask_free (page : Nat) (m : Reg) : (s.raiseMask page m).free = s.free := rfl
@[simp] theorem State.raiseMask_ids (page : Nat) (m : Reg) : (s.raiseMask page m).ids = s.ids := rfl
@[simp] theorem State.raiseMask_mode (page : Nat) (m : Reg) : (s.raiseMask page m).mode = s.mode := rfl
@[simp] theorem State.raiseMask_pins (page : Nat) (m : Reg) : (s.raiseMask page m).pins = s.pins := rfl
@[simp] theorem State.raiseMask_ports (page : Nat) (m : Reg) : (s.raiseMask page m).ports = s.ports := rfl
@[simp] theorem State.raiseMask_reqs (page : Nat) (m : Reg) : (s.raiseMask page m).reqs = s.reqs := rfl
@[simp] theorem State.raiseMask_ingest (page : Nat) (m : Reg) : (s.raiseMask page m).ingest = s.ingest := rfl
@[simp] theorem State.raiseMask_ledger (page : Nat) (m : Reg) : (s.raiseMask page m).ledger = s.ledger := rfl
@[simp] theorem State.raiseMask_hubs (page : Nat) (m : Reg) : (s.raiseMask page m).hubs = s.hubs := rfl
@[simp] theorem State.raiseMask_fab (page : Nat) (m : Reg) : (s.raiseMask page m).fab = s.fab := rfl
@[simp] theorem State.raiseMask_shr (page : Nat) (m : Reg) : (s.raiseMask page m).shr = s.shr := rfl
@[simp] theorem State.raiseMask_slices (page : Nat) (m : Reg) : (s.raiseMask page m).slices = s.slices := rfl
@[simp] theorem State.raiseMask_spr (page : Nat) (m : Reg) : (s.raiseMask page m).spr = s.spr := rfl
@[simp] theorem State.raiseMask_ao (page : Nat) (m : Reg) : (s.raiseMask page m).ao = s.ao := rfl
@[simp] theorem State.raiseMask_pwr (page : Nat) (m : Reg) : (s.raiseMask page m).pwr = s.pwr := rfl
@[simp] theorem State.raiseMask_squall (page : Nat) (m : Reg) : (s.raiseMask page m).squall = s.squall := rfl
@[simp] theorem State.raiseMask_keepA (page : Nat) (m : Reg) : (s.raiseMask page m).keepA = s.keepA := rfl
@[simp] theorem State.raiseMask_keepB (page : Nat) (m : Reg) : (s.raiseMask page m).keepB = s.keepB := rfl
@[simp] theorem State.raiseMask_brz (page : Nat) (m : Reg) : (s.raiseMask page m).brz = s.brz := rfl
@[simp] theorem State.raiseMask_err (page : Nat) (m : Reg) : (s.raiseMask page m).err = s.err := rfl
@[simp] theorem State.raiseMask_tel (page : Nat) (m : Reg) : (s.raiseMask page m).tel = s.tel := rfl
@[simp] theorem State.raiseMask_sec (page : Nat) (m : Reg) : (s.raiseMask page m).sec = s.sec := rfl
@[simp] theorem State.raiseMask_vanes (page : Nat) (m : Reg) : (s.raiseMask page m).vanes = s.vanes := rfl
@[simp] theorem State.raiseMask_dbg (page : Nat) (m : Reg) : (s.raiseMask page m).dbg = s.dbg := rfl
@[simp] theorem State.raiseMask_test (page : Nat) (m : Reg) : (s.raiseMask page m).test = s.test := rfl
@[simp] theorem State.raiseMask_mem (page : Nat) (m : Reg) : (s.raiseMask page m).mem = s.mem := rfl

/-! `raise` changes `regs` alone. -/

@[simp] theorem State.raise_pending (page j : Nat) : (s.raise page j).pending = s.pending := rfl
@[simp] theorem State.raise_tb (page j : Nat) : (s.raise page j).tb = s.tb := rfl
@[simp] theorem State.raise_free (page j : Nat) : (s.raise page j).free = s.free := rfl
@[simp] theorem State.raise_ids (page j : Nat) : (s.raise page j).ids = s.ids := rfl
@[simp] theorem State.raise_mode (page j : Nat) : (s.raise page j).mode = s.mode := rfl
@[simp] theorem State.raise_pins (page j : Nat) : (s.raise page j).pins = s.pins := rfl
@[simp] theorem State.raise_ports (page j : Nat) : (s.raise page j).ports = s.ports := rfl
@[simp] theorem State.raise_reqs (page j : Nat) : (s.raise page j).reqs = s.reqs := rfl
@[simp] theorem State.raise_ingest (page j : Nat) : (s.raise page j).ingest = s.ingest := rfl
@[simp] theorem State.raise_ledger (page j : Nat) : (s.raise page j).ledger = s.ledger := rfl
@[simp] theorem State.raise_hubs (page j : Nat) : (s.raise page j).hubs = s.hubs := rfl
@[simp] theorem State.raise_fab (page j : Nat) : (s.raise page j).fab = s.fab := rfl
@[simp] theorem State.raise_shr (page j : Nat) : (s.raise page j).shr = s.shr := rfl
@[simp] theorem State.raise_slices (page j : Nat) : (s.raise page j).slices = s.slices := rfl
@[simp] theorem State.raise_spr (page j : Nat) : (s.raise page j).spr = s.spr := rfl
@[simp] theorem State.raise_ao (page j : Nat) : (s.raise page j).ao = s.ao := rfl
@[simp] theorem State.raise_pwr (page j : Nat) : (s.raise page j).pwr = s.pwr := rfl
@[simp] theorem State.raise_squall (page j : Nat) : (s.raise page j).squall = s.squall := rfl
@[simp] theorem State.raise_keepA (page j : Nat) : (s.raise page j).keepA = s.keepA := rfl
@[simp] theorem State.raise_keepB (page j : Nat) : (s.raise page j).keepB = s.keepB := rfl
@[simp] theorem State.raise_brz (page j : Nat) : (s.raise page j).brz = s.brz := rfl
@[simp] theorem State.raise_err (page j : Nat) : (s.raise page j).err = s.err := rfl
@[simp] theorem State.raise_tel (page j : Nat) : (s.raise page j).tel = s.tel := rfl
@[simp] theorem State.raise_sec (page j : Nat) : (s.raise page j).sec = s.sec := rfl
@[simp] theorem State.raise_vanes (page j : Nat) : (s.raise page j).vanes = s.vanes := rfl
@[simp] theorem State.raise_dbg (page j : Nat) : (s.raise page j).dbg = s.dbg := rfl
@[simp] theorem State.raise_test (page j : Nat) : (s.raise page j).test = s.test := rfl
@[simp] theorem State.raise_mem (page j : Nat) : (s.raise page j).mem = s.mem := rfl

/-! `store` changes `regs` alone. -/

@[simp] theorem State.store_pending (page ofs : Nat) (v : Reg) : (s.store page ofs v).pending = s.pending := rfl
@[simp] theorem State.store_tb (page ofs : Nat) (v : Reg) : (s.store page ofs v).tb = s.tb := rfl
@[simp] theorem State.store_free (page ofs : Nat) (v : Reg) : (s.store page ofs v).free = s.free := rfl
@[simp] theorem State.store_ids (page ofs : Nat) (v : Reg) : (s.store page ofs v).ids = s.ids := rfl
@[simp] theorem State.store_mode (page ofs : Nat) (v : Reg) : (s.store page ofs v).mode = s.mode := rfl
@[simp] theorem State.store_pins (page ofs : Nat) (v : Reg) : (s.store page ofs v).pins = s.pins := rfl
@[simp] theorem State.store_ports (page ofs : Nat) (v : Reg) : (s.store page ofs v).ports = s.ports := rfl
@[simp] theorem State.store_reqs (page ofs : Nat) (v : Reg) : (s.store page ofs v).reqs = s.reqs := rfl
@[simp] theorem State.store_ingest (page ofs : Nat) (v : Reg) : (s.store page ofs v).ingest = s.ingest := rfl
@[simp] theorem State.store_ledger (page ofs : Nat) (v : Reg) : (s.store page ofs v).ledger = s.ledger := rfl
@[simp] theorem State.store_hubs (page ofs : Nat) (v : Reg) : (s.store page ofs v).hubs = s.hubs := rfl
@[simp] theorem State.store_fab (page ofs : Nat) (v : Reg) : (s.store page ofs v).fab = s.fab := rfl
@[simp] theorem State.store_shr (page ofs : Nat) (v : Reg) : (s.store page ofs v).shr = s.shr := rfl
@[simp] theorem State.store_slices (page ofs : Nat) (v : Reg) : (s.store page ofs v).slices = s.slices := rfl
@[simp] theorem State.store_spr (page ofs : Nat) (v : Reg) : (s.store page ofs v).spr = s.spr := rfl
@[simp] theorem State.store_ao (page ofs : Nat) (v : Reg) : (s.store page ofs v).ao = s.ao := rfl
@[simp] theorem State.store_pwr (page ofs : Nat) (v : Reg) : (s.store page ofs v).pwr = s.pwr := rfl
@[simp] theorem State.store_squall (page ofs : Nat) (v : Reg) : (s.store page ofs v).squall = s.squall := rfl
@[simp] theorem State.store_keepA (page ofs : Nat) (v : Reg) : (s.store page ofs v).keepA = s.keepA := rfl
@[simp] theorem State.store_keepB (page ofs : Nat) (v : Reg) : (s.store page ofs v).keepB = s.keepB := rfl
@[simp] theorem State.store_brz (page ofs : Nat) (v : Reg) : (s.store page ofs v).brz = s.brz := rfl
@[simp] theorem State.store_err (page ofs : Nat) (v : Reg) : (s.store page ofs v).err = s.err := rfl
@[simp] theorem State.store_tel (page ofs : Nat) (v : Reg) : (s.store page ofs v).tel = s.tel := rfl
@[simp] theorem State.store_sec (page ofs : Nat) (v : Reg) : (s.store page ofs v).sec = s.sec := rfl
@[simp] theorem State.store_vanes (page ofs : Nat) (v : Reg) : (s.store page ofs v).vanes = s.vanes := rfl
@[simp] theorem State.store_dbg (page ofs : Nat) (v : Reg) : (s.store page ofs v).dbg = s.dbg := rfl
@[simp] theorem State.store_test (page ofs : Nat) (v : Reg) : (s.store page ofs v).test = s.test := rfl
@[simp] theorem State.store_mem (page ofs : Nat) (v : Reg) : (s.store page ofs v).mem = s.mem := rfl

/-! `setMember` changes `spr` alone. -/

@[simp] theorem State.setMember_pending (g : Fin 8) (m : Fin 9) (x : Member) : (s.setMember g m x).pending = s.pending := rfl
@[simp] theorem State.setMember_tb (g : Fin 8) (m : Fin 9) (x : Member) : (s.setMember g m x).tb = s.tb := rfl
@[simp] theorem State.setMember_free (g : Fin 8) (m : Fin 9) (x : Member) : (s.setMember g m x).free = s.free := rfl
@[simp] theorem State.setMember_ids (g : Fin 8) (m : Fin 9) (x : Member) : (s.setMember g m x).ids = s.ids := rfl
@[simp] theorem State.setMember_mode (g : Fin 8) (m : Fin 9) (x : Member) : (s.setMember g m x).mode = s.mode := rfl
@[simp] theorem State.setMember_pins (g : Fin 8) (m : Fin 9) (x : Member) : (s.setMember g m x).pins = s.pins := rfl
@[simp] theorem State.setMember_regs (g : Fin 8) (m : Fin 9) (x : Member) : (s.setMember g m x).regs = s.regs := rfl
@[simp] theorem State.setMember_ports (g : Fin 8) (m : Fin 9) (x : Member) : (s.setMember g m x).ports = s.ports := rfl
@[simp] theorem State.setMember_reqs (g : Fin 8) (m : Fin 9) (x : Member) : (s.setMember g m x).reqs = s.reqs := rfl
@[simp] theorem State.setMember_ingest (g : Fin 8) (m : Fin 9) (x : Member) : (s.setMember g m x).ingest = s.ingest := rfl
@[simp] theorem State.setMember_ledger (g : Fin 8) (m : Fin 9) (x : Member) : (s.setMember g m x).ledger = s.ledger := rfl
@[simp] theorem State.setMember_hubs (g : Fin 8) (m : Fin 9) (x : Member) : (s.setMember g m x).hubs = s.hubs := rfl
@[simp] theorem State.setMember_fab (g : Fin 8) (m : Fin 9) (x : Member) : (s.setMember g m x).fab = s.fab := rfl
@[simp] theorem State.setMember_shr (g : Fin 8) (m : Fin 9) (x : Member) : (s.setMember g m x).shr = s.shr := rfl
@[simp] theorem State.setMember_slices (g : Fin 8) (m : Fin 9) (x : Member) : (s.setMember g m x).slices = s.slices := rfl
@[simp] theorem State.setMember_ao (g : Fin 8) (m : Fin 9) (x : Member) : (s.setMember g m x).ao = s.ao := rfl
@[simp] theorem State.setMember_pwr (g : Fin 8) (m : Fin 9) (x : Member) : (s.setMember g m x).pwr = s.pwr := rfl
@[simp] theorem State.setMember_squall (g : Fin 8) (m : Fin 9) (x : Member) : (s.setMember g m x).squall = s.squall := rfl
@[simp] theorem State.setMember_keepA (g : Fin 8) (m : Fin 9) (x : Member) : (s.setMember g m x).keepA = s.keepA := rfl
@[simp] theorem State.setMember_keepB (g : Fin 8) (m : Fin 9) (x : Member) : (s.setMember g m x).keepB = s.keepB := rfl
@[simp] theorem State.setMember_brz (g : Fin 8) (m : Fin 9) (x : Member) : (s.setMember g m x).brz = s.brz := rfl
@[simp] theorem State.setMember_err (g : Fin 8) (m : Fin 9) (x : Member) : (s.setMember g m x).err = s.err := rfl
@[simp] theorem State.setMember_tel (g : Fin 8) (m : Fin 9) (x : Member) : (s.setMember g m x).tel = s.tel := rfl
@[simp] theorem State.setMember_sec (g : Fin 8) (m : Fin 9) (x : Member) : (s.setMember g m x).sec = s.sec := rfl
@[simp] theorem State.setMember_vanes (g : Fin 8) (m : Fin 9) (x : Member) : (s.setMember g m x).vanes = s.vanes := rfl
@[simp] theorem State.setMember_dbg (g : Fin 8) (m : Fin 9) (x : Member) : (s.setMember g m x).dbg = s.dbg := rfl
@[simp] theorem State.setMember_test (g : Fin 8) (m : Fin 9) (x : Member) : (s.setMember g m x).test = s.test := rfl
@[simp] theorem State.setMember_mem (g : Fin 8) (m : Fin 9) (x : Member) : (s.setMember g m x).mem = s.mem := rfl

/-! `setRly` changes `spr` alone. -/

@[simp] theorem State.setRly_pending (g : Fin 8) (r : Option Relayout) : (s.setRly g r).pending = s.pending := rfl
@[simp] theorem State.setRly_tb (g : Fin 8) (r : Option Relayout) : (s.setRly g r).tb = s.tb := rfl
@[simp] theorem State.setRly_free (g : Fin 8) (r : Option Relayout) : (s.setRly g r).free = s.free := rfl
@[simp] theorem State.setRly_ids (g : Fin 8) (r : Option Relayout) : (s.setRly g r).ids = s.ids := rfl
@[simp] theorem State.setRly_mode (g : Fin 8) (r : Option Relayout) : (s.setRly g r).mode = s.mode := rfl
@[simp] theorem State.setRly_pins (g : Fin 8) (r : Option Relayout) : (s.setRly g r).pins = s.pins := rfl
@[simp] theorem State.setRly_regs (g : Fin 8) (r : Option Relayout) : (s.setRly g r).regs = s.regs := rfl
@[simp] theorem State.setRly_ports (g : Fin 8) (r : Option Relayout) : (s.setRly g r).ports = s.ports := rfl
@[simp] theorem State.setRly_reqs (g : Fin 8) (r : Option Relayout) : (s.setRly g r).reqs = s.reqs := rfl
@[simp] theorem State.setRly_ingest (g : Fin 8) (r : Option Relayout) : (s.setRly g r).ingest = s.ingest := rfl
@[simp] theorem State.setRly_ledger (g : Fin 8) (r : Option Relayout) : (s.setRly g r).ledger = s.ledger := rfl
@[simp] theorem State.setRly_hubs (g : Fin 8) (r : Option Relayout) : (s.setRly g r).hubs = s.hubs := rfl
@[simp] theorem State.setRly_fab (g : Fin 8) (r : Option Relayout) : (s.setRly g r).fab = s.fab := rfl
@[simp] theorem State.setRly_shr (g : Fin 8) (r : Option Relayout) : (s.setRly g r).shr = s.shr := rfl
@[simp] theorem State.setRly_slices (g : Fin 8) (r : Option Relayout) : (s.setRly g r).slices = s.slices := rfl
@[simp] theorem State.setRly_ao (g : Fin 8) (r : Option Relayout) : (s.setRly g r).ao = s.ao := rfl
@[simp] theorem State.setRly_pwr (g : Fin 8) (r : Option Relayout) : (s.setRly g r).pwr = s.pwr := rfl
@[simp] theorem State.setRly_squall (g : Fin 8) (r : Option Relayout) : (s.setRly g r).squall = s.squall := rfl
@[simp] theorem State.setRly_keepA (g : Fin 8) (r : Option Relayout) : (s.setRly g r).keepA = s.keepA := rfl
@[simp] theorem State.setRly_keepB (g : Fin 8) (r : Option Relayout) : (s.setRly g r).keepB = s.keepB := rfl
@[simp] theorem State.setRly_brz (g : Fin 8) (r : Option Relayout) : (s.setRly g r).brz = s.brz := rfl
@[simp] theorem State.setRly_err (g : Fin 8) (r : Option Relayout) : (s.setRly g r).err = s.err := rfl
@[simp] theorem State.setRly_tel (g : Fin 8) (r : Option Relayout) : (s.setRly g r).tel = s.tel := rfl
@[simp] theorem State.setRly_sec (g : Fin 8) (r : Option Relayout) : (s.setRly g r).sec = s.sec := rfl
@[simp] theorem State.setRly_vanes (g : Fin 8) (r : Option Relayout) : (s.setRly g r).vanes = s.vanes := rfl
@[simp] theorem State.setRly_dbg (g : Fin 8) (r : Option Relayout) : (s.setRly g r).dbg = s.dbg := rfl
@[simp] theorem State.setRly_test (g : Fin 8) (r : Option Relayout) : (s.setRly g r).test = s.test := rfl
@[simp] theorem State.setRly_mem (g : Fin 8) (r : Option Relayout) : (s.setRly g r).mem = s.mem := rfl

/-! `setFence` changes `fab` alone. -/

@[simp] theorem State.setFence_pending (c : Fin 80) (b : Bool) : (s.setFence c b).pending = s.pending := rfl
@[simp] theorem State.setFence_tb (c : Fin 80) (b : Bool) : (s.setFence c b).tb = s.tb := rfl
@[simp] theorem State.setFence_free (c : Fin 80) (b : Bool) : (s.setFence c b).free = s.free := rfl
@[simp] theorem State.setFence_ids (c : Fin 80) (b : Bool) : (s.setFence c b).ids = s.ids := rfl
@[simp] theorem State.setFence_mode (c : Fin 80) (b : Bool) : (s.setFence c b).mode = s.mode := rfl
@[simp] theorem State.setFence_pins (c : Fin 80) (b : Bool) : (s.setFence c b).pins = s.pins := rfl
@[simp] theorem State.setFence_regs (c : Fin 80) (b : Bool) : (s.setFence c b).regs = s.regs := rfl
@[simp] theorem State.setFence_ports (c : Fin 80) (b : Bool) : (s.setFence c b).ports = s.ports := rfl
@[simp] theorem State.setFence_reqs (c : Fin 80) (b : Bool) : (s.setFence c b).reqs = s.reqs := rfl
@[simp] theorem State.setFence_ingest (c : Fin 80) (b : Bool) : (s.setFence c b).ingest = s.ingest := rfl
@[simp] theorem State.setFence_ledger (c : Fin 80) (b : Bool) : (s.setFence c b).ledger = s.ledger := rfl
@[simp] theorem State.setFence_hubs (c : Fin 80) (b : Bool) : (s.setFence c b).hubs = s.hubs := rfl
@[simp] theorem State.setFence_shr (c : Fin 80) (b : Bool) : (s.setFence c b).shr = s.shr := rfl
@[simp] theorem State.setFence_slices (c : Fin 80) (b : Bool) : (s.setFence c b).slices = s.slices := rfl
@[simp] theorem State.setFence_spr (c : Fin 80) (b : Bool) : (s.setFence c b).spr = s.spr := rfl
@[simp] theorem State.setFence_ao (c : Fin 80) (b : Bool) : (s.setFence c b).ao = s.ao := rfl
@[simp] theorem State.setFence_pwr (c : Fin 80) (b : Bool) : (s.setFence c b).pwr = s.pwr := rfl
@[simp] theorem State.setFence_squall (c : Fin 80) (b : Bool) : (s.setFence c b).squall = s.squall := rfl
@[simp] theorem State.setFence_keepA (c : Fin 80) (b : Bool) : (s.setFence c b).keepA = s.keepA := rfl
@[simp] theorem State.setFence_keepB (c : Fin 80) (b : Bool) : (s.setFence c b).keepB = s.keepB := rfl
@[simp] theorem State.setFence_brz (c : Fin 80) (b : Bool) : (s.setFence c b).brz = s.brz := rfl
@[simp] theorem State.setFence_err (c : Fin 80) (b : Bool) : (s.setFence c b).err = s.err := rfl
@[simp] theorem State.setFence_tel (c : Fin 80) (b : Bool) : (s.setFence c b).tel = s.tel := rfl
@[simp] theorem State.setFence_sec (c : Fin 80) (b : Bool) : (s.setFence c b).sec = s.sec := rfl
@[simp] theorem State.setFence_vanes (c : Fin 80) (b : Bool) : (s.setFence c b).vanes = s.vanes := rfl
@[simp] theorem State.setFence_dbg (c : Fin 80) (b : Bool) : (s.setFence c b).dbg = s.dbg := rfl
@[simp] theorem State.setFence_test (c : Fin 80) (b : Bool) : (s.setFence c b).test = s.test := rfl
@[simp] theorem State.setFence_mem (c : Fin 80) (b : Bool) : (s.setFence c b).mem = s.mem := rfl

/-! `setVid` changes `pins` alone. -/

@[simp] theorem State.setVid_pending (core slice : BitVec 6) : (s.setVid core slice).pending = s.pending := rfl
@[simp] theorem State.setVid_tb (core slice : BitVec 6) : (s.setVid core slice).tb = s.tb := rfl
@[simp] theorem State.setVid_free (core slice : BitVec 6) : (s.setVid core slice).free = s.free := rfl
@[simp] theorem State.setVid_ids (core slice : BitVec 6) : (s.setVid core slice).ids = s.ids := rfl
@[simp] theorem State.setVid_mode (core slice : BitVec 6) : (s.setVid core slice).mode = s.mode := rfl
@[simp] theorem State.setVid_regs (core slice : BitVec 6) : (s.setVid core slice).regs = s.regs := rfl
@[simp] theorem State.setVid_ports (core slice : BitVec 6) : (s.setVid core slice).ports = s.ports := rfl
@[simp] theorem State.setVid_reqs (core slice : BitVec 6) : (s.setVid core slice).reqs = s.reqs := rfl
@[simp] theorem State.setVid_ingest (core slice : BitVec 6) : (s.setVid core slice).ingest = s.ingest := rfl
@[simp] theorem State.setVid_ledger (core slice : BitVec 6) : (s.setVid core slice).ledger = s.ledger := rfl
@[simp] theorem State.setVid_hubs (core slice : BitVec 6) : (s.setVid core slice).hubs = s.hubs := rfl
@[simp] theorem State.setVid_fab (core slice : BitVec 6) : (s.setVid core slice).fab = s.fab := rfl
@[simp] theorem State.setVid_shr (core slice : BitVec 6) : (s.setVid core slice).shr = s.shr := rfl
@[simp] theorem State.setVid_slices (core slice : BitVec 6) : (s.setVid core slice).slices = s.slices := rfl
@[simp] theorem State.setVid_spr (core slice : BitVec 6) : (s.setVid core slice).spr = s.spr := rfl
@[simp] theorem State.setVid_ao (core slice : BitVec 6) : (s.setVid core slice).ao = s.ao := rfl
@[simp] theorem State.setVid_pwr (core slice : BitVec 6) : (s.setVid core slice).pwr = s.pwr := rfl
@[simp] theorem State.setVid_squall (core slice : BitVec 6) : (s.setVid core slice).squall = s.squall := rfl
@[simp] theorem State.setVid_keepA (core slice : BitVec 6) : (s.setVid core slice).keepA = s.keepA := rfl
@[simp] theorem State.setVid_keepB (core slice : BitVec 6) : (s.setVid core slice).keepB = s.keepB := rfl
@[simp] theorem State.setVid_brz (core slice : BitVec 6) : (s.setVid core slice).brz = s.brz := rfl
@[simp] theorem State.setVid_err (core slice : BitVec 6) : (s.setVid core slice).err = s.err := rfl
@[simp] theorem State.setVid_tel (core slice : BitVec 6) : (s.setVid core slice).tel = s.tel := rfl
@[simp] theorem State.setVid_sec (core slice : BitVec 6) : (s.setVid core slice).sec = s.sec := rfl
@[simp] theorem State.setVid_vanes (core slice : BitVec 6) : (s.setVid core slice).vanes = s.vanes := rfl
@[simp] theorem State.setVid_dbg (core slice : BitVec 6) : (s.setVid core slice).dbg = s.dbg := rfl
@[simp] theorem State.setVid_test (core slice : BitVec 6) : (s.setVid core slice).test = s.test := rfl
@[simp] theorem State.setVid_mem (core slice : BitVec 6) : (s.setVid core slice).mem = s.mem := rfl

/-! `setAck` changes `pins` alone. -/

@[simp] theorem State.setAck_pending (ack nack : Bool) : (s.setAck ack nack).pending = s.pending := rfl
@[simp] theorem State.setAck_tb (ack nack : Bool) : (s.setAck ack nack).tb = s.tb := rfl
@[simp] theorem State.setAck_free (ack nack : Bool) : (s.setAck ack nack).free = s.free := rfl
@[simp] theorem State.setAck_ids (ack nack : Bool) : (s.setAck ack nack).ids = s.ids := rfl
@[simp] theorem State.setAck_mode (ack nack : Bool) : (s.setAck ack nack).mode = s.mode := rfl
@[simp] theorem State.setAck_regs (ack nack : Bool) : (s.setAck ack nack).regs = s.regs := rfl
@[simp] theorem State.setAck_ports (ack nack : Bool) : (s.setAck ack nack).ports = s.ports := rfl
@[simp] theorem State.setAck_reqs (ack nack : Bool) : (s.setAck ack nack).reqs = s.reqs := rfl
@[simp] theorem State.setAck_ingest (ack nack : Bool) : (s.setAck ack nack).ingest = s.ingest := rfl
@[simp] theorem State.setAck_ledger (ack nack : Bool) : (s.setAck ack nack).ledger = s.ledger := rfl
@[simp] theorem State.setAck_hubs (ack nack : Bool) : (s.setAck ack nack).hubs = s.hubs := rfl
@[simp] theorem State.setAck_fab (ack nack : Bool) : (s.setAck ack nack).fab = s.fab := rfl
@[simp] theorem State.setAck_shr (ack nack : Bool) : (s.setAck ack nack).shr = s.shr := rfl
@[simp] theorem State.setAck_slices (ack nack : Bool) : (s.setAck ack nack).slices = s.slices := rfl
@[simp] theorem State.setAck_spr (ack nack : Bool) : (s.setAck ack nack).spr = s.spr := rfl
@[simp] theorem State.setAck_ao (ack nack : Bool) : (s.setAck ack nack).ao = s.ao := rfl
@[simp] theorem State.setAck_pwr (ack nack : Bool) : (s.setAck ack nack).pwr = s.pwr := rfl
@[simp] theorem State.setAck_squall (ack nack : Bool) : (s.setAck ack nack).squall = s.squall := rfl
@[simp] theorem State.setAck_keepA (ack nack : Bool) : (s.setAck ack nack).keepA = s.keepA := rfl
@[simp] theorem State.setAck_keepB (ack nack : Bool) : (s.setAck ack nack).keepB = s.keepB := rfl
@[simp] theorem State.setAck_brz (ack nack : Bool) : (s.setAck ack nack).brz = s.brz := rfl
@[simp] theorem State.setAck_err (ack nack : Bool) : (s.setAck ack nack).err = s.err := rfl
@[simp] theorem State.setAck_tel (ack nack : Bool) : (s.setAck ack nack).tel = s.tel := rfl
@[simp] theorem State.setAck_sec (ack nack : Bool) : (s.setAck ack nack).sec = s.sec := rfl
@[simp] theorem State.setAck_vanes (ack nack : Bool) : (s.setAck ack nack).vanes = s.vanes := rfl
@[simp] theorem State.setAck_dbg (ack nack : Bool) : (s.setAck ack nack).dbg = s.dbg := rfl
@[simp] theorem State.setAck_test (ack nack : Bool) : (s.setAck ack nack).test = s.test := rfl
@[simp] theorem State.setAck_mem (ack nack : Bool) : (s.setAck ack nack).mem = s.mem := rfl

/-! `modLine` changes `hubs` alone. -/

@[simp] theorem State.modLine_pending (g : Fin 8) (f : Timeline → Timeline) : (s.modLine g f).pending = s.pending := rfl
@[simp] theorem State.modLine_tb (g : Fin 8) (f : Timeline → Timeline) : (s.modLine g f).tb = s.tb := rfl
@[simp] theorem State.modLine_free (g : Fin 8) (f : Timeline → Timeline) : (s.modLine g f).free = s.free := rfl
@[simp] theorem State.modLine_ids (g : Fin 8) (f : Timeline → Timeline) : (s.modLine g f).ids = s.ids := rfl
@[simp] theorem State.modLine_mode (g : Fin 8) (f : Timeline → Timeline) : (s.modLine g f).mode = s.mode := rfl
@[simp] theorem State.modLine_pins (g : Fin 8) (f : Timeline → Timeline) : (s.modLine g f).pins = s.pins := rfl
@[simp] theorem State.modLine_regs (g : Fin 8) (f : Timeline → Timeline) : (s.modLine g f).regs = s.regs := rfl
@[simp] theorem State.modLine_ports (g : Fin 8) (f : Timeline → Timeline) : (s.modLine g f).ports = s.ports := rfl
@[simp] theorem State.modLine_reqs (g : Fin 8) (f : Timeline → Timeline) : (s.modLine g f).reqs = s.reqs := rfl
@[simp] theorem State.modLine_ingest (g : Fin 8) (f : Timeline → Timeline) : (s.modLine g f).ingest = s.ingest := rfl
@[simp] theorem State.modLine_ledger (g : Fin 8) (f : Timeline → Timeline) : (s.modLine g f).ledger = s.ledger := rfl
@[simp] theorem State.modLine_fab (g : Fin 8) (f : Timeline → Timeline) : (s.modLine g f).fab = s.fab := rfl
@[simp] theorem State.modLine_shr (g : Fin 8) (f : Timeline → Timeline) : (s.modLine g f).shr = s.shr := rfl
@[simp] theorem State.modLine_slices (g : Fin 8) (f : Timeline → Timeline) : (s.modLine g f).slices = s.slices := rfl
@[simp] theorem State.modLine_spr (g : Fin 8) (f : Timeline → Timeline) : (s.modLine g f).spr = s.spr := rfl
@[simp] theorem State.modLine_ao (g : Fin 8) (f : Timeline → Timeline) : (s.modLine g f).ao = s.ao := rfl
@[simp] theorem State.modLine_pwr (g : Fin 8) (f : Timeline → Timeline) : (s.modLine g f).pwr = s.pwr := rfl
@[simp] theorem State.modLine_squall (g : Fin 8) (f : Timeline → Timeline) : (s.modLine g f).squall = s.squall := rfl
@[simp] theorem State.modLine_keepA (g : Fin 8) (f : Timeline → Timeline) : (s.modLine g f).keepA = s.keepA := rfl
@[simp] theorem State.modLine_keepB (g : Fin 8) (f : Timeline → Timeline) : (s.modLine g f).keepB = s.keepB := rfl
@[simp] theorem State.modLine_brz (g : Fin 8) (f : Timeline → Timeline) : (s.modLine g f).brz = s.brz := rfl
@[simp] theorem State.modLine_err (g : Fin 8) (f : Timeline → Timeline) : (s.modLine g f).err = s.err := rfl
@[simp] theorem State.modLine_tel (g : Fin 8) (f : Timeline → Timeline) : (s.modLine g f).tel = s.tel := rfl
@[simp] theorem State.modLine_sec (g : Fin 8) (f : Timeline → Timeline) : (s.modLine g f).sec = s.sec := rfl
@[simp] theorem State.modLine_vanes (g : Fin 8) (f : Timeline → Timeline) : (s.modLine g f).vanes = s.vanes := rfl
@[simp] theorem State.modLine_dbg (g : Fin 8) (f : Timeline → Timeline) : (s.modLine g f).dbg = s.dbg := rfl
@[simp] theorem State.modLine_test (g : Fin 8) (f : Timeline → Timeline) : (s.modLine g f).test = s.test := rfl
@[simp] theorem State.modLine_mem (g : Fin 8) (f : Timeline → Timeline) : (s.modLine g f).mem = s.mem := rfl

/-! What the element updated becomes. -/

@[simp] theorem State.modPort_self (p : Fin 16) (f : Port → Port) : (s.modPort p f).ports[p] = f s.ports[p] := by simp [State.modPort]
theorem State.modPort_other (p j : Fin 16) (f : Port → Port) (ne : j ≠ p) : (s.modPort p f).ports[j] = s.ports[j] := by
  simp only [State.modPort, Fin.getElem_fin]
  exact Vector.getElem_set_ne _ _ (fun e => ne (Fin.ext e.symm))
@[simp] theorem State.modIng_self (n : Fin 8) (f : Ingest → Ingest) : (s.modIng n f).ingest[n] = f s.ingest[n] := by simp [State.modIng]
theorem State.modIng_other (n j : Fin 8) (f : Ingest → Ingest) (ne : j ≠ n) : (s.modIng n f).ingest[j] = s.ingest[j] := by
  simp only [State.modIng, Fin.getElem_fin]
  exact Vector.getElem_set_ne _ _ (fun e => ne (Fin.ext e.symm))
@[simp] theorem State.modHub_self (h : Fin 8) (f : Hub → Hub) : (s.modHub h f).hubs[h] = f s.hubs[h] := by simp [State.modHub]
theorem State.modHub_other (h j : Fin 8) (f : Hub → Hub) (ne : j ≠ h) : (s.modHub h f).hubs[j] = s.hubs[j] := by
  simp only [State.modHub, Fin.getElem_fin]
  exact Vector.getElem_set_ne _ _ (fun e => ne (Fin.ext e.symm))
@[simp] theorem State.modSlice_self (c : Fin 80) (f : Slice → Slice) : (s.modSlice c f).slices[c] = f s.slices[c] := by simp [State.modSlice]
theorem State.modSlice_other (c j : Fin 80) (f : Slice → Slice) (ne : j ≠ c) : (s.modSlice c f).slices[j] = s.slices[j] := by
  simp only [State.modSlice, Fin.getElem_fin]
  exact Vector.getElem_set_ne _ _ (fun e => ne (Fin.ext e.symm))
@[simp] theorem State.modVane_self (v : Fin 24) (f : Vane → Vane) : (s.modVane v f).vanes[v] = f s.vanes[v] := by simp [State.modVane]
theorem State.modVane_other (v j : Fin 24) (f : Vane → Vane) (ne : j ≠ v) : (s.modVane v f).vanes[j] = s.vanes[j] := by
  simp only [State.modVane, Fin.getElem_fin]
  exact Vector.getElem_set_ne _ _ (fun e => ne (Fin.ext e.symm))

end Sys2Proof.Machine
end

