-- ==== Sys2Proof/WellFormed.lean ====
section
/-!
DEFINITION. Which commands can be put to the block at all: a command whose operands name something outside what the manual allows of
that command is ill-formed. `exec` is total all the same.
-/
namespace Sys2Proof

/-- The port opcodes that R39 reserves. -/
def opReserved (op : BitVec 4) : Bool :=
  match op.toNat with
  | 0 | 1 | 2 | 3 | 8 | 9 | 10 | 12 => false
  | _ => true

/-- Page indexes of the directory (R399). -/
def pageListed (page : BitVec 8) : Bool :=
  let p := page.toNat
  decide (p < 0x0E) || (decide (0x10 ≤ p) && decide (p < 0x48)) || (decide (0x80 ≤ p) && decide (p < 0xD0))

/-- Mailbox opcodes a vane lists (R405). -/
def opListed (v : Fin 24) (op : Byte) : Bool :=
  op == 0x01 || (v.val == 23 && (op == 0x10 || op == 0x11 || op == 0x12 || op == 0x13)) || (decide (v.val < 16) && op == 0x20) ||
    (v.val == 19 && op == 0x40)

/-- The steps of a full training (R236). -/
def TrainEnd.wf (e : TrainEnd) : Bool :=
  match e with
  | .pass => true
  | .fail step _ => decide (1 ≤ step.toNat) && decide (step.toNat ≤ 6)

/-- A strip error names one member once. -/
def errsWf (l : List StripErr) : Bool := decide ((l.map fun e => e.member).Nodup)

/-- What a slot held: at most one operation of the data bus, and no refresh in a Lull (R446). -/
def SlotFacts.wf (f : SlotFacts) : Bool :=
  !(f.stripRead && f.stripWrite) && !(f.checkRead && f.checkWrite) && !((f.stripRead || f.stripWrite) && (f.checkRead || f.checkWrite)) &&
    !(f.refAb && f.refPb)

/-- The checks of a command. -/
def Instr.wf (i : Instr) : Bool :=
  match i with
  | .reservedOpcode _ op _ => opReserved op
  | .ping _ _ payload | .pingReply _ _ payload => decide (payload.length ≤ 16)
  | .statusReply _ _ payload => decide (payload.length = 4)
  | .frameReceived bytes _ => decide (5 ≤ bytes.length) && decide (bytes.length ≤ 260)
  | .idleApply page | .intRawClear page _ | .intForce page _ | .clrErr page | .discard page => pageListed page
  | .cfgParitySweep page _ _ => pageListed page
  | .pattern v slice _ _ _ _ => decide (v.val < 16) && decide (slice.toNat < 80)
  | .badOp v op => !opListed v op
  | .patrolStripe _ errs => errsWf errs
  | .sliceTrainingDone _ _ e => e.wf
  | .fullRetrainDone _ e => e.fin.wf
  | .slotBoundary _ f => f.wf
  | _ => true

end Sys2Proof
end

