-- ==== Sys2Proof/Tests/Slice0.lean ====
section
/-!
SUPPORT. Tests: ill-formed commands are refused by `Instr.wf`, words of the table spell no command, figures the manual works out, and for
every obligation that has hypotheses a state that meets them.
-/
namespace Sys2Proof.Tests
open Sys2Proof Sys2Proof.Machine
set_option Elab.async false

/-! ### Small states to test on -/

/-- A slice in service, at home in its group, or a free spare. -/
def sl (c : Nat) : Slice :=
  { Slice.reset with
    power := .active, on := true, ranks := 1, train := { Train.reset with st := 4, snapValid := 0xF }
    health := { Health.reset with
      role := if c < 72 then roleHome else roleSpareFree
      grp := groupOf (c / 9), mem := if c < 72 then some (memberOf (c % 9)) else none } }

/-- The block in service. -/
def run : State :=
  { State.reset with
    mode := { ModeState.reset with mode := .run, coldLow := false, served := true, ucodeOk := true, step := 0 }
    pins := { Pins.reset with mainPg := true, coldRstN := true, aoValid := true }
    pwr := { Power.reset with coreOn := true }
    slices := Vector.ofFn fun c => sl c.val
    hubs := Vector.ofFn fun g => { Hub.reset g with line := { Timeline.reset with running := true } }
    brz := { Breeze.reset with addr := 2, joined := true } }

/-- The block in service with registers set. -/
def runWith (l : List (Nat × Nat × Reg)) : State := l.foldl (fun s x => s.store x.1 x.2.1 x.2.2) run

/-- A request's fields: one line at address 0 under a tag. -/
def rq (tag : BitVec 10) : ReqFields := { tag := tag, addr := 0, len := 0, cls := 0, ord := 0, gv := false, gid := 0, pi := 0, aux := 0 }

/-- Entry reads without an error. -/
def er : EntryRead := { ecc := 0, tableUc := false }

/-- A request in the block, of port 3. -/
def req (rid : Nat) (tag : BitVec 10) (op : BitVec 4) (ph : Phase) : Req := { newReq rid (srcPort 3) op (rq tag) 0 with phase := ph }

/-- The block in service with requests. -/
def runReqs (l : List Req) : State := { run with reqs := l, ids := 10 }

/-- One slice changed. -/
def runSlice (c : Fin 80) (f : Slice → Slice) : State := run.modSlice c f


/-- The scheduler of one slice changed. -/
def runSched (c : Fin 80) (f : Sched → Sched) : State := run.modSched c f

/-- One ingest port changed. -/
def runIng (n : Fin 8) (f : Ingest → Ingest) : State := run.modIng n f

/-- An empty segment. -/
def seg (closed : Bool) : Segment :=
  { bytes := [], closed := closed, flags := 0, trigOfs := 0, tFirst := 0, tLast := 0, pos := 0, issued := 0, before := [] }

/-- A drain stripe that is written. -/
def ireq : Req := { req 1 0 opcWrite (.done 0) with src := srcIng 0 }

/-- A solo write whose member writes are acknowledged. -/
def sreq : Req := { req 1 5 opcWrite .admitted with jobs := 0, decisions := [{ granule := 7, solo := true, owner := 2, before := 0 }] }

/-- A rebuild of member 8 onto a spare. -/
def rly : Relayout :=
  { kind := .rebuild, mem := 8, dst := 79, src := none, bound := 0, running := false, suspended := false, done := [], full := true, order := 0 }

/-- A vote in a phase, with the domains still asked. -/
def voting (ph : SleepPhase) (target : BitVec 2) (asked : BitVec 100) : State :=
  { run with pwr := { run.pwr with phase := ph, target := target, asked := asked } }

/-- ROOT0 programmed. -/
def rooted : State :=
  { run with sec := { Security.reset with words := Vector.ofFn fun i => if 4 ≤ i.val ∧ i.val < 8 then { begunWord 5 0 with done := true } else OtpWord.blank } }

/-- No register. -/
def noSpec : RegSpec := { ofs := 0 }

/-- The header of a patch image of 256 bytes. -/
def patchLine : Line := lineOf (patchMagic ++ [0x31, 0, 1, 0, 0, 1, 0, 0] ++ fillBytes 0 48)

/-- A patch image in memory, in stripe 0 of group 0, and a load of it in progress; what else it holds is void. -/
def loaded : State :=
  let cell (c : Fin 80) (w : BitVec 16) (s : State) : State := s.modSched c fun x => { x with ckc := [{ line := 2033600, valid := 1, dirty := true, data := w.setWidth 512 }] }
  let bytes (a : Nat) : List Host.Cell := [(a, 85), (a + 1, 76), (a + 2, 56), (a + 3, 48), (a + 4, 80), (a + 5, 84), (a + 6, 67), (a + 7, 72), (a + 8, 49), (a + 10, 1), (a + 13, 1)]
  let s := { run with
    sec := { Security.reset with loading := true, cmdBusy := true }
    hubs := Vector.ofFn fun g => { Hub.reset g with voids := if g.val = 0 then [] else [(0, 100)] }
    mem := bytes 0 ++ bytes (2 ^ 36) }
  ((((cell 0 0xf188 s |> cell 1 0x2aee |> cell 2 0x1a8d) |> cell 3 0x0aac |> cell 4 0x7a4b) |> cell 5 0x6a6a |> cell 6 0x5a09) |> cell 7 0x4a28) |> cell 8 0x7080

/-- A member read of stripe 0 of group 0. -/
def mop : MemOp :=
  { jid := 0, group := 0, member := 0, stripe := 0, line := 0, write := false, check := false, data := 0, word := 0, level := 0, epoch := 0
    tEnter := 0, replay := false, also := [] }

/-! ### Ill-formed commands -/

theorem test_wf_reservedOpcode : (Instr.reservedOpcode 3 opcRead (rq 5)).wf = false ∧ (Instr.reservedOpcode 3 4 (rq 5)).wf = true := by decide
theorem test_wf_ping : (Instr.ping 2 5 (List.replicate 17 0)).wf = false ∧ (Instr.ping 2 5 (List.replicate 16 0)).wf = true := by decide
theorem test_wf_pingReply : (Instr.pingReply 2 5 (List.replicate 17 0)).wf = false := by decide
theorem test_wf_statusReply : (Instr.statusReply 2 5 [1, 2, 3]).wf = false ∧ (Instr.statusReply 2 5 [1, 2, 3, 4]).wf = true := by decide
theorem test_wf_frameReceived : (Instr.frameReceived [1, 2, 3, 4] false).wf = false ∧ (Instr.frameReceived [1, 2, 3, 0, 5] false).wf = true := by decide
theorem test_wf_page : (Instr.idleApply 0x0E).wf = false ∧ (Instr.intRawClear 0x48 1).wf = false ∧ (Instr.intForce 0x7F 1).wf = false ∧
    (Instr.clrErr 0xD0).wf = false ∧ (Instr.discard 0xFF).wf = false ∧ (Instr.discard 0xCF).wf = true := by decide
theorem test_wf_cfgParitySweep : (Instr.cfgParitySweep 0x0F 0 true).wf = false := by decide
theorem test_wf_pattern : (Instr.pattern 16 0 0 0 0 0).wf = false ∧ (Instr.pattern 15 80 0 0 0 0).wf = false ∧ (Instr.pattern 15 79 0 0 0 0).wf = true := by decide
theorem test_wf_badOp : (Instr.badOp 19 0x40).wf = false ∧ (Instr.badOp 18 0x40).wf = true := by decide
theorem test_wf_stripErrs : (Instr.patrolStripe 0 [⟨3, 1, 0, false, 0, false⟩, ⟨3, 2, 0, false, 0, false⟩]).wf = false := by decide
theorem test_wf_training : (Instr.fullRetrainDone 0 ⟨⟨0, 0, 4, 2, false, false, false, false, false⟩, .fail 7 0⟩).wf = false ∧ (Instr.sliceTrainingDone 0 ⟨0, 0, 4, 2, false, false, false, false, false⟩ (.fail 0 0)).wf = false := by decide

/-- A slot that held a strip read and a strip write. -/
def twoTransfers : SlotFacts :=
  { lull := false, switch_ := false, stripRead := true, stripWrite := true, checkRead := false, checkWrite := false, replayed := false, perBankWait := false
    conflict := false, turnaround := false, acts := 0, rowHit := false, level0 := false, level23 := false, refAb := false, refPb := false, gustBegun := false, fwd := false }

theorem test_wf_slotBoundary : (Instr.slotBoundary 0 twoTransfers).wf = false ∧ (Instr.slotBoundary 0 { twoTransfers with stripWrite := false }).wf = true := by decide

/-! ### No row of the table has bits -/

theorem test_no_word_spells_a_command : decodeTableWord 32 0xFFFFFFFF = none ∧ decodeTableWord 8 0 = none := ⟨rfl, rfl⟩
theorem test_withFetchWord : State.reset.withFetchWord 32 7 = State.reset := rfl

/-! ### Figures the manual works out -/

/-- 8 groups of 8 GiB slices, HASH = 1 (07, "Worked case: two decodes"). -/
def eightGroups : State := runWith [(0, 0x050, 0x163)]

theorem test_first_decode : eightGroups.mapAddr 0x0012345600 = some { g := 1, stripe := 74563, k := 0, m := 2 } := by decide +kernel
theorem test_second_decode : eightGroups.mapAddr 0x2E8BA0DC40 = some { g := 4, stripe := 48806414, k := 1, m := 2 } := by decide +kernel
theorem test_payload_end : eightGroups.payloadEnd = 532827602944 := by decide +kernel
theorem test_first_lines : eightGroups.dataLine 74563 = 74563 ∧ eightGroups.checkLine 74563 = 16271130 ∧ eightGroups.checkIdx 74563 = 3 := by decide +kernel
theorem test_second_lines : eightGroups.dataLine 48806414 = 50331662 ∧ eightGroups.checkLine 48806414 = 66600448 ∧ eightGroups.checkIdx 48806414 = 14 := by decide +kernel

/-- The identification registers of release 2.4.0 (00, "Worked case: decoding the identification registers"). -/
theorem test_version : run.regRead 0 0x040 = 0x00020400 ∧ run.regRead 0 0x044 = 0x00310000 := by decide +kernel

/-- PAGE_ID and PAGE_CAPS of CH22 and ING2 (15, "Page directory"). -/
theorem test_page_ids : run.regRead 0x96 0 = 0x96800014 ∧ run.regRead 0x96 8 = 0x16500600 ∧ run.regRead 0x22 0 = 0x22400011 ∧ run.regRead 0x22 8 = 0x02080200 := by decide +kernel

/-- The CRCs of two frames (13, "Worked case: a wake that wins the bus"). -/
theorem test_frame_crcs : crcFrame [0x03, 0x0F, 0x03, 0x00] = 0x42 ∧ crcFrame [0x0F, 0x01, 0x04, 0x01, 0x01] = 0x9F := by decide +kernel

/-! ### The hypotheses of the obligations are met -/

/-- The hypotheses of `Obligations.StepRunsTheFrontCommand` and `Obligations.CommandTouchesOnly` are met. -/
theorem test_hypotheses_StepRunsTheFrontCommand :
    (∃ (s : State) (c : Instr) (rest : List Instr), s.pending = c :: rest) ∧ (∃ s : State, s.pending = []) :=
  ⟨⟨{ run with pending := [.ackAll, .coldReset] }, .ackAll, [.coldReset], rfl⟩, ⟨run, rfl⟩⟩

theorem test_hypotheses_CommandTouchesOnly : ∃ (c : Instr) (s t : State), exec c s = .next t := ⟨.ackAll, run, _, rfl⟩

theorem test_hypotheses_StepKeepsInv : ∃ s t : State, Inv s ∧ step s = .next t :=
  ⟨{ run with pending := [.ackAll] }, _,
    ⟨by decide, ⟨by decide, fun _ => ⟨rfl, rfl⟩⟩, by decide, ⟨fun _ h => absurd h List.not_mem_nil, List.nodup_nil, fun _ h => absurd h List.not_mem_nil⟩,
      by decide, by decide, by decide⟩, rfl⟩

/-- Every line of the image is there. -/
theorem loaded_lines : ∀ x ∈ loaded.vaneLines loaded.patchBase (imageField (linesBytes [some patchLine]) 12 4 / 64), x ≠ none := by
  intro x hx hn
  have h : (loaded.vaneLines loaded.patchBase (imageField (linesBytes [some patchLine]) 12 4 / 64)).all Option.isSome = true := by decide +kernel
  have := List.all_eq_true.mp h x hx
  rw [hn] at this
  exact Bool.noConfusion this

/-- A bring-up whose slices are all trained. -/
def bringing : State := { run with mode := { run.mode with mode := .bringUp } }

/-- A bring-up in which no slice could be trained. -/
def bringingNone : State := { bringing with slices := run.slices.map fun x => { x with train := { x.train with st := 6 } } }

/-- What `someGroup` depends on. -/
theorem someGroup_congr {s t : State} (ht : ∀ c : Fin 80, t.slices[c].train.st = s.slices[c].train.st) (hh : ∀ c : Fin 80, t.slices[c].health = s.slices[c].health)
    (hm : t.spr = s.spr) (hr : t.regs.applied = s.regs.applied) : t.someGroup = s.someGroup := by
  have hg : t.groups = s.groups := by unfold State.groups State.ngrp State.stored; rw [hr]
  have hp : t.populated = s.populated := by funext g; unfold State.populated; rw [hg]
  have hx : ∀ g : Fin 8, t.readyMembers g = s.readyMembers g := by
    intro g
    have hmem : ∀ m, t.member g m = s.member g m := by intro m; unfold State.member; rw [hm]
    have hf : ∀ m, (t.slices[(t.member g m).slice].train.st == 4 && t.role (t.member g m).slice != roleFailed) =
        (s.slices[(s.member g m).slice].train.st == 4 && s.role (s.member g m).slice != roleFailed) := by
      intro m
      rw [show t.role = s.role from funext fun c => congrArg Health.role (hh c), ht, hmem]
    exact congrArg List.length (List.filter_congr fun m _ => hf m)
  unfold State.someGroup State.popGroups
  rw [hp]
  congr 1
  funext g
  rw [hx]

/-- A pass over the slices that changes neither states of training nor roles leaves the groups' readiness alone. -/
theorem someGroup_foldl {α : Type} (f : State → α → State) (hf : ∀ (s : State) (d : α) (c : Fin 80), (f s d).slices[c].train.st = s.slices[c].train.st ∧
      (f s d).slices[c].health = s.slices[c].health) (hr : ∀ s d, (f s d).spr = s.spr ∧ (f s d).regs.applied = s.regs.applied) :
    ∀ (l : List α) (s : State), (l.foldl f s).someGroup = s.someGroup := by
  intro l
  induction l with
  | nil => intro s; rfl
  | cons c l ih =>
    intro s
    rw [List.foldl_cons, ih]
    exact someGroup_congr (fun d => (hf s c d).1) (fun d => (hf s c d).2) (hr s c).1 (hr s c).2

/-- Domains of unused slices do not count. -/
theorem offUnused_someGroup (s : State) : s.offUnused.someGroup = s.someGroup := by
  unfold State.offUnused
  refine someGroup_foldl _ ?_ ?_ allSlices s
  · intro s d c
    split
    · simp only [State.modSlice, Fin.getElem_fin, Vector.getElem_set]; split <;> simp_all
    · exact ⟨rfl, rfl⟩
  · intro s d; split <;> exact ⟨rfl, rfl⟩

/-- The links of the slices do not count. -/
theorem setLinks_someGroup (s : State) : s.setLinks.someGroup = s.someGroup := by
  unfold State.setLinks State.setLink
  refine someGroup_foldl _ ?_ ?_ allSlices s
  · intro s d c
    split
    · simp only [State.modTrain, State.modSlice, Fin.getElem_fin, Vector.getElem_set]; split <;> simp_all
    · exact ⟨rfl, rfl⟩
  · intro s d; split <;> exact ⟨rfl, rfl⟩

/-- An operation that leaves slices, members and registers alone leaves the groups' readiness alone. -/
theorem keeps_someGroup {m : Nat} {s t : State} (h : Keeps m s t) (h1 : m.testBit Part.slices.idx = false) (h2 : m.testBit Part.spr.idx = false)
    (h3 : m.testBit Part.regApplied.idx = false) : t.someGroup = s.someGroup := by
  have a : t.slices = s.slices := h.p .slices h1
  have b : t.spr = s.spr := h.p .spr h2
  have c : t.regs.applied = s.regs.applied := h.p .regApplied h3
  exact someGroup_congr (fun _ => by rw [a]) (fun _ => by rw [a]) b c

/-- Strips and check words in their place do not count. -/
theorem layMap_someGroup (s : State) (g : Fin 8) : (s.layMap g).someGroup = s.someGroup := by
  unfold State.layMap State.wordsLaid
  refine (someGroup_foldl _ ?_ ?_ _ _).trans ?_
  · intro s d c
    simp only [State.modSched, State.modSlice, Fin.getElem_fin, Vector.getElem_set]; split <;> simp_all
  · intro s d; exact ⟨rfl, rfl⟩
  · exact someGroup_congr (fun _ => rfl) (fun _ => rfl) rfl rfl

/-- The void map of a group does not count. -/
theorem layVoids_someGroup (s : State) (g : Fin 8) (m : BitVec 8) : (s.layVoids g m).someGroup = s.someGroup := by
  unfold State.layVoids
  dsimp only
  split
  · rfl
  · rw [layMap_someGroup]; exact someGroup_congr (fun _ => rfl) (fun _ => rfl) rfl rfl

/-- The void maps do not count. -/
theorem restoreVoids_someGroup (s : State) (p : KeepPick) : (s.restoreVoids p).someGroup = s.someGroup := by
  unfold State.restoreVoids
  dsimp only
  generalize s.voidMask p = m
  suffices h : ∀ (l : List (Fin 8)) (s : State), (l.foldl _ s).someGroup = s.someGroup from h _ s
  intro l
  induction l with
  | nil => intro s; rfl
  | cons g l ih =>
    intro s
    rw [List.foldl_cons, ih]
    rw [layVoids_someGroup]
    exact someGroup_congr (fun _ => rfl) (fun _ => rfl) rfl rfl

/-- What a bring-up restores after the open journal entries leaves the groups' readiness alone, where no save is restored and in a warm bring-up. -/
theorem restoreAll_someGroup (s : State) (p : KeepPick) (h : p.kept = none ∧ p.part 7 = none ∨ (s.restoreFirst p).mode.buKind = .warm) :
    (s.restoreAll p).someGroup = (s.restoreFirst p).someGroup := by
  have hb : ∀ t : State, (t.restorePatch p).mode.buKind = t.mode.buKind := by intro t; unfold State.restorePatch; dsimp only; repeat' first | rfl | split
  have hv : ∀ t : State, (t.restoreVoids p).mode = t.mode := fun t => (State.restoreVoids_keeps t p).p .mode (by decide)
  have hl : ∀ t : State, (t.restoreLog p).mode = t.mode := fun t => (State.restoreLog_keeps t p).p .mode (by decide)
  have hr : ∀ t : State, p.kept = none ∧ p.part 7 = none ∨ t.mode.buKind = .warm → t.restoreRings p = t := by
    intro t h
    unfold State.restoreRings
    rcases h with h | h
    · rw [h.2]
    · rw [h]; split <;> simp
  have ht : ∀ t : State, p.kept = none ∧ p.part 7 = none ∨ t.mode.buKind = .warm → t.restoreTime p = t := by
    intro t h
    unfold State.restoreTime
    rcases h with h | h
    · rw [h.1]
    · rw [h]; split <;> simp
  have h1 : p.kept = none ∧ p.part 7 = none ∨ (((s.restoreFirst p).restorePatch p).restoreVoids p).mode.buKind = .warm := by
    rw [hv, hb]; exact h
  show (State.setLinks (State.offUnused (State.restoreVerify (State.restoreTime (State.restoreLog (State.restoreRings (State.restoreVoids
    (State.restorePatch (State.restoreFirst s p) p) p) p) p) p) p))).someGroup = _
  rw [setLinks_someGroup, offUnused_someGroup, keeps_someGroup (State.restoreVerify_keeps _ _) (by decide) (by decide) (by decide), hr _ h1,
    ht _ (by rw [hl]; exact h1), keeps_someGroup (State.restoreLog_keeps _ _) (by decide) (by decide) (by decide), restoreVoids_someGroup,
    keeps_someGroup (State.restorePatch_keeps _ _) (by decide) (by decide) (by decide)]

/-- The bring-up ends with a group. -/
theorem bringing_someGroup : (bringing.restoreAll bringing.keepPick).someGroup = true := by
  rw [show bringing.keepPick = .fresh from rfl, restoreAll_someGroup _ _ (.inl ⟨rfl, rfl⟩)]
  decide +kernel

/-- The bring-up ends with none. -/
theorem bringingNone_someGroup : (bringingNone.restoreAll bringingNone.keepPick).someGroup = false := by
  rw [show bringingNone.keepPick = .fresh from rfl, restoreAll_someGroup _ _ (.inl ⟨rfl, rfl⟩)]
  decide +kernel

/-- The bytes of a Keep header before its CRC. -/
def headBody : List Byte := keepMagic ++ natBytes 0x00010000 4 ++ natBytes 9 4 ++ fillBytes 0 16 ++ instanceId ++ fillBytes 0 460

/-- The block in service with its devices signed. -/
def signed : State := { run with slices := Vector.ofFn fun c => { sl c.val with sig := some (run.signatureOf c) } }

/-- A saved copy whose patch is no image of this release. -/
def badCopy : KeepCopy :=
  { header := sealHeader headBody, secs := { run.keepSections with regs := [], patch := [1] }, ledger := false, save := 0
    root := run.sec.keepRootVal (run.sec.keepRoots.headD 0), key := [], grp := 0, parity := true, at_ := signed.layAt 0 allMembers signed.reserveStripe 100 }

/-- A warm bring-up from that copy. -/
def bringingPatch : State := { bringing with slices := signed.slices, mode := { bringing.mode with buKind := .warm }, keepA := some badCopy }

/-- Fields of a sealed header are those of its body. -/
theorem hdrField_seal (b : List Byte) (o n : Nat) (h : o + n ≤ b.length) : hdrField (sealHeader b) o n = hdrField b o n := by
  unfold hdrField imageField sealHeader
  rw [List.drop_append_of_le_length (by omega), List.take_append_of_le_length (by simp; omega)]

/-- The header of the copy is valid. -/
theorem badCopy_valid : headerValid (sealHeader headBody) = true := by
  have hl : headBody.length = 508 := by decide +kernel
  have e1 : (sealHeader headBody).take 508 = headBody := by unfold sealHeader; rw [List.take_append_of_le_length (by omega), List.take_of_length_le (by omega)]
  have e2 : (sealHeader headBody).drop 508 = bytesOf (crc32 headBody) 4 := by
    unfold sealHeader; rw [List.drop_append_of_le_length (by omega), List.drop_of_length_le (by omega), List.nil_append]
  have e4 : ((sealHeader headBody).drop 32).take 16 = instanceId := by
    unfold sealHeader; rw [List.drop_append_of_le_length (by omega), List.take_append_of_le_length (by simp; omega)]; rfl
  unfold headerValid hdrFlag
  rw [e1, e2, e4, hdrField_seal _ 8 4 (by omega), hdrField_seal _ 12 4 (by omega), show (sealHeader headBody).take 8 = keepMagic from rfl]
  simp only [beq_self_eq_true, Bool.and_true]
  decide +kernel

/-- The bring-up takes that copy. -/
theorem bringingPatch_pick : bringingPatch.keepPick = .copy false badCopy false 0 := by
  have hr : bringingPatch.headerReads badCopy = true := by decide +kernel
  have hk : (bringingPatch.sec.keepRoots.any fun r => bringingPatch.sec.keepRootVal r == badCopy.root) = true :=
    List.any_eq_true.mpr ⟨run.sec.keepRoots.headD 0, by decide +kernel, beq_self_eq_true _⟩
  have hv : bringingPatch.validCopy bringingPatch.keepA = some badCopy := by
    unfold State.validCopy
    rw [show bringingPatch.keepA = some badCopy from rfl]
    dsimp only
    rw [hr, hk, show headerValid badCopy.header = true from badCopy_valid]
    rfl
  have hb : bringingPatch.bestCopy = some (false, badCopy) := by unfold State.bestCopy; rw [hv]; rfl
  have hc : badCopy.consumed = false := by
    unfold KeepCopy.consumed hdrFlag
    rw [show badCopy.header = sealHeader headBody from rfl, hdrField_seal _ 12 4 (by decide +kernel)]
    decide +kernel
  have hm : bringingPatch.mapDiffers badCopy = false := by decide +kernel
  have hs : bringingPatch.badSections badCopy = [] := by decide +kernel
  unfold State.keepPick
  rw [hb]
  show (if bringingPatch.mapDiffers badCopy = true then KeepPick.fresh else if badCopy.consumed = true then .without else bringingPatch.pickSections false badCopy) = _
  rw [hm, hc]
  show bringingPatch.pickSections false badCopy = _
  unfold State.pickSections
  rw [hs]
  rfl

/-- Its patch is refused. -/
theorem bringingPatch_again : bringingPatch.patchAgain bringingPatch.keepPick ≠ 0 := by
  rw [bringingPatch_pick]
  have h : hdrFlag badCopy.header 3 = true := by
    unfold hdrFlag
    rw [show badCopy.header = sealHeader headBody from rfl, hdrField_seal _ 12 4 (by decide +kernel)]
    decide +kernel
  have e : bringingPatch.patchAgain (.copy false badCopy false 0) = bringingPatch.patchChecks [1] := by
    unfold State.patchAgain
    dsimp only [KeepPick.kept]
    rw [h]
    rfl
  rw [e]
  decide +kernel

/-- And it has a group. -/
theorem bringingPatch_someGroup : (bringingPatch.restoreAll bringingPatch.keepPick).someGroup = true := by
  rw [bringingPatch_pick, restoreAll_someGroup _ _ (.inr (by decide +kernel))]
  decide +kernel

/-- The hypotheses of `Obligations.PortAcceptsRequest` are met, clause by clause. -/
theorem test_hypotheses_PortAcceptsRequest :
    (∃ (p : Fin 16) (f : ReqFields) (e : EntryRead) (uc : Bool) (op : BitVec 4) (c : Instr) (s : State),
      s.reqReady p = true ∧ s.byTag p f.tag = none ∧
      (c, op) ∈ [(Instr.opRead p f e, opcRead), (Instr.opWrite p f e, opcWrite), (Instr.opWriteXor p f e, opcXor), (Instr.opFill p f e, opcFill), (Instr.groupOpen p ⟨f, uc⟩, opcOpen), (Instr.groupCommit p ⟨f, uc⟩, opcCommit), (Instr.groupAbort p ⟨f, uc⟩, opcAbort), (Instr.opBarrier p f, opcBarrier), (Instr.reservedOpcode p op f, op)]) :=
  ⟨3, rq 5, er, false, opcRead, Instr.opRead 3 (rq 5) er, run, by decide +kernel⟩

/-- The hypotheses of `Obligations.PortTurnsAway` are met, clause by clause. -/
theorem test_hypotheses_PortTurnsAway :
    (∃ (p : Fin 16) (f : ReqFields) (e : EntryRead) (uc : Bool) (op : BitVec 4) (s : State) (c : Instr),
      c ∈ [Instr.opRead p f e, Instr.opWrite p f e, Instr.opWriteXor p f e, Instr.opFill p f e, Instr.groupOpen p ⟨f, uc⟩, Instr.groupCommit p ⟨f, uc⟩, Instr.groupAbort p ⟨f, uc⟩, Instr.opBarrier p f, Instr.reservedOpcode p op f] ∧
      s.reqReady p = false) ∧
    (∃ (p : Fin 16) (f : ReqFields) (e : EntryRead) (uc : Bool) (op : BitVec 4) (s : State) (c : Instr),
      c ∈ [Instr.opRead p f e, Instr.opWrite p f e, Instr.opWriteXor p f e, Instr.opFill p f e, Instr.groupOpen p ⟨f, uc⟩, Instr.groupCommit p ⟨f, uc⟩, Instr.groupAbort p ⟨f, uc⟩, Instr.opBarrier p f, Instr.reservedOpcode p op f] ∧
      s.reqReady p = true ∧ (s.byTag p f.tag).isSome = true) :=
  ⟨⟨3, rq 5, er, false, 4, State.reset, Instr.opBarrier 3 (rq 5), by decide +kernel⟩,
    ⟨3, rq 5, er, false, 4, runReqs [req 1 5 opcRead .held], Instr.opRead 3 (rq 5) er, by decide +kernel⟩⟩

/-- The hypotheses of `Obligations.WriteBeatJoinsItsWrite` are met, clause by clause. -/
theorem test_hypotheses_WriteBeatJoinsItsWrite :
    (∃ (p : Fin 16) (b : WdFields) (r : Req) (s : State),
      s.wdReady p = true ∧ s.awaiting p = some r ∧ s.req r.rid = some r ∧ b.tag = r.tag ∧ b.last = false ∧
      r.beats.length + 1 ≠ beatsOf r.op r.len r.pi) ∧
    (∃ (p : Fin 16) (b : WdFields) (r : Req) (s : State) (r' : Req) (u : State) (code : _),
      s.wdReady p = true ∧ s.awaiting p = some r ∧ s.req r.rid = some r ∧ b.tag = r.tag ∧ b.last = true ∧
      r.beats.length + 1 = beatsOf r.op r.len r.pi ∧ r' = { r with beats := r.beats ++ [{ data := b.data, be := b.be }] } ∧
      (u = s.modReq r.rid (fun _ => r')) ∧ r.verdict = some code) ∧
    (∃ (p : Fin 16) (b : WdFields) (r : Req) (s : State) (r' : Req) (u : State),
      s.wdReady p = true ∧ s.awaiting p = some r ∧ s.req r.rid = some r ∧ b.tag = r.tag ∧ b.last = true ∧
      r.beats.length + 1 = beatsOf r.op r.len r.pi ∧ r' = { r with beats := r.beats ++ [{ data := b.data, be := b.be }] } ∧
      (u = s.modReq r.rid (fun _ => r')) ∧ r.verdict = none ∧ r.op ≠ opcBarrier ∧ u.mustHold r' = true) ∧
    (∃ (p : Fin 16) (b : WdFields) (r : Req) (s : State) (r' : Req) (u : State),
      s.wdReady p = true ∧ s.awaiting p = some r ∧ s.req r.rid = some r ∧ b.tag = r.tag ∧ b.last = true ∧
      r.beats.length + 1 = beatsOf r.op r.len r.pi ∧ r' = { r with beats := r.beats ++ [{ data := b.data, be := b.be }] } ∧
      (u = s.modReq r.rid (fun _ => r')) ∧ r.verdict = none ∧ isWriteOp r.op = true ∧ u.mustHold r' = false) :=
  ⟨⟨3, { tag := 5, data := 0, be := 0, last := false : WdFields }, { req 1 5 opcWrite .awaitData with len := 1 }, runReqs [{ req 1 5 opcWrite .awaitData with len := 1 }], by decide +kernel⟩,
    ⟨3, { tag := 5, data := 0, be := 0, last := true : WdFields }, { req 1 5 opcWrite .awaitData with verdict := some rspDenied }, runReqs [{ req 1 5 opcWrite .awaitData with verdict := some rspDenied }], { ({ req 1 5 opcWrite .awaitData with verdict := some rspDenied } : Req) with beats := [{ data := 0, be := 0 }] }, (runReqs [{ req 1 5 opcWrite .awaitData with verdict := some rspDenied }]).modReq 1 (fun _ => { ({ req 1 5 opcWrite .awaitData with verdict := some rspDenied } : Req) with beats := [{ data := 0, be := 0 }] }), rspDenied, by decide +kernel⟩,
    ⟨3, { tag := 6, data := 0, be := 0, last := true : WdFields }, req 2 6 opcWrite .awaitData, runReqs [req 1 5 opcWrite .held, req 2 6 opcWrite .awaitData], { req 2 6 opcWrite .awaitData with beats := [{ data := 0, be := 0 }] }, (runReqs [req 1 5 opcWrite .held, req 2 6 opcWrite .awaitData]).modReq 2 (fun _ => { req 2 6 opcWrite .awaitData with beats := [{ data := 0, be := 0 }] }), by decide +kernel⟩,
    ⟨3, { tag := 5, data := 0, be := 0, last := true : WdFields }, req 1 5 opcWrite .awaitData, runReqs [req 1 5 opcWrite .awaitData], { req 1 5 opcWrite .awaitData with beats := [{ data := 0, be := 0 }] }, (runReqs [req 1 5 opcWrite .awaitData]).modReq 1 (fun _ => { req 1 5 opcWrite .awaitData with beats := [{ data := 0, be := 0 }] }), by decide +kernel⟩⟩

/-- The hypotheses of `Obligations.WriteDataErrorsIsolate` are met, clause by clause. -/
theorem test_hypotheses_WriteDataErrorsIsolate :
    (∃ (p : Fin 16) (b : WdFields) (r : Req) (s : State),
      s.wdReady p = true ∧ s.awaiting p = some r ∧ b.tag ≠ r.tag) ∧
    (∃ (p : Fin 16) (b : WdFields) (r : Req) (s : State),
      s.wdReady p = true ∧ s.awaiting p = some r ∧ b.tag = r.tag ∧ b.last ≠ (r.beats.length + 1 == beatsOf r.op r.len r.pi)) ∧
    (∃ (p : Fin 16) (r : Req) (tag : BitVec 10) (s : State),
      s.byTag p tag = some r ∧ r.phase = .awaitData ∧ s.ports[p].isolated = false) :=
  ⟨⟨3, { tag := 6, data := 0, be := 0, last := true : WdFields }, req 1 5 opcWrite .awaitData, runReqs [req 1 5 opcWrite .awaitData], by decide +kernel⟩,
    ⟨3, { tag := 5, data := 0, be := 0, last := false : WdFields }, req 1 5 opcWrite .awaitData, runReqs [req 1 5 opcWrite .awaitData], by decide +kernel⟩,
    ⟨3, req 1 5 opcWrite .awaitData, 5, runReqs [req 1 5 opcWrite .awaitData], by decide +kernel⟩⟩

/-- The hypotheses of `Obligations.PortResetCommands` are met, clause by clause. -/
theorem test_hypotheses_PortResetCommands :
    (∃ (p : Fin 16) (s : State),
      s.ports[p].pinLow = false ∧ s.ports[p].rstActive = false) ∧
    (∃ (p : Fin 16) (s : State),
      s.pageLive (pagePort p) = true ∧ s.ports[p].rstActive = false) ∧
    (∃ (p : Fin 16) (s : State),
      s.ports[p].rstActive = true ∧ (s.portReqs p).all Req.isDone = true) :=
  ⟨⟨3, run, by decide +kernel⟩,
    ⟨3, run, by decide +kernel⟩,
    ⟨3, { runReqs [req 1 5 opcRead (.done 0)] with ports := run.ports.set 3 { Port.reset with rstActive := true } }, by decide +kernel⟩⟩

/-- The hypotheses of `Obligations.ResponseFreesTag` are met, clause by clause. -/
theorem test_hypotheses_ResponseFreesTag :
    (∃ (p : Fin 16) (tag : BitVec 10) (r : Req) (code : BitVec 4) (s : State),
      s.byTag p tag = some r ∧ r.phase = .done code ∧ s.ports[p].mute = false ∧ s.sinkBeats p ≤ s.sinkLimit p) :=
  ⟨3, 5, req 1 5 opcRead (.done 0), 0, runReqs [req 1 5 opcRead (.done 0)], by decide +kernel⟩

/-- The hypotheses of `Obligations.HeldRequestsGoOn` are met, clause by clause. -/
theorem test_hypotheses_HeldRequestsGoOn :
    (∃ (p : Fin 16) (tag : BitVec 10) (r : Req) (s : State),
      s.byTag p tag = some r ∧ s.req r.rid = some r ∧ r.op = opcBarrier ∧ r.phase = .held ∧
      ((s.reqs.any fun a => a.src == r.src && decide (a.rid < r.rid) && (r.aux.getLsbD 0 || a.ord == r.ord)) = false) ∧
      s.ports[p].mute = false ∧ (s.finishReq r.rid rspOk).sinkBeats p ≤ s.sinkLimit p) ∧
    (∃ (p : Fin 16) (tag : BitVec 10) (r : Req) (s : State),
      s.byTag p tag = some r ∧ s.req r.rid = some r ∧ r.op = opcCommit ∧ r.phase = .held ∧ s.mustHold r = false ∧
      (s.group r.gid.toNat).st = .open_ ∧ r.tableUc = false) ∧
    (∃ (p : Fin 16) (tag : BitVec 10) (r : Req) (s : State),
      s.byTag p tag = some r ∧ s.req r.rid = some r ∧ r.op = opcCommit ∧ r.phase = .held ∧ s.mustHold r = false ∧ r.tableUc = true) ∧
    (∃ (p : Fin 16) (tag : BitVec 10) (r : Req) (s : State),
      s.byTag p tag = some r ∧ s.req r.rid = some r ∧ (isWriteOp r.op = true ∨ r.op = opcRead) ∧ r.phase = .held ∧ s.mustHold r = false) ∧
    (∃ (p : Fin 16) (tag : BitVec 10) (r : Req) (s : State),
      s.byTag p tag = some r ∧ s.req r.rid = some r ∧ r.stuck = false) ∧
    (∃ (p : Fin 16) (tag : BitVec 10) (r : Req) (s : State),
      s.byTag p tag = some r ∧ s.req r.rid = some r ∧ r.stuck = true) :=
  ⟨⟨3, 5, req 1 5 opcBarrier .held, runReqs [req 1 5 opcBarrier .held], by decide +kernel⟩,
    ⟨3, 5, req 1 5 opcCommit .held, (runReqs [req 1 5 opcCommit .held]).setGroup 0 { st := .open_, entries := 0, inflight := 0 }, by decide +kernel⟩,
    ⟨3, 5, { req 1 5 opcCommit .held with tableUc := true }, (runReqs [{ req 1 5 opcCommit .held with tableUc := true }]).setGroup 0 { st := .open_, entries := 0, inflight := 0 }, by decide +kernel⟩,
    ⟨3, 5, req 1 5 opcWrite .held, runReqs [req 1 5 opcWrite .held], by decide +kernel⟩,
    ⟨3, 5, req 1 5 opcWrite .held, runReqs [req 1 5 opcWrite .held], by decide +kernel⟩,
    ⟨3, 5, { req 1 5 opcWrite .held with stuck := true }, runReqs [{ req 1 5 opcWrite .held with stuck := true }], by decide +kernel⟩⟩

/-- The hypotheses of `Obligations.IngestBeatAsThePhaseSays` are met, clause by clause. -/
theorem test_hypotheses_IngestBeatAsThePhaseSays :
    (∃ (n : Fin 8) (s : State),
      s.ingest[n].rstLow = false ∧ s.pwr.coreOn = true ∧ s.mode.mode ≠ .retention ∧ s.ingest[n].listens = false) ∧
    (∃ (n : Fin 8) (b : IngFields) (s : State),
      s.ingest[n].rstLow = false ∧ s.pwr.coreOn = true ∧ s.mode.mode ≠ .retention ∧ s.ingest[n].phase = .idle ∧
      s.ingest[n].openSeg = none ∧ s.ingest[n].segs.length < 2 ∧ s.ingest[n].trigPend = false ∧ s.ingest[n].swTrig = false ∧
      s.ingest[n].pinTrig = false ∧ b.eop = false) ∧
    (∃ (n : Fin 8) (s : State),
      s.ingest[n].rstLow = false ∧ s.pwr.coreOn = true ∧ s.mode.mode ≠ .retention ∧ s.ingest[n].listens = true ∧
      s.ingest[n].openSeg = none ∧ 2 ≤ s.ingest[n].segs.length ∧ s.ingest[n].trigPend = false ∧ s.ingest[n].swTrig = false) :=
  ⟨⟨0, run, by decide +kernel⟩,
    ⟨7, { data := 0, sop := true, eop := false, vbytes := 0 : IngFields }, runIng 7 fun x => { x with phase := .idle }, by decide +kernel⟩,
    ⟨0, runIng 0 fun x => { x with phase := .idle, segs := [seg true, seg true] }, by decide +kernel⟩⟩

/-- The hypotheses of `Obligations.IngestDrain` are met, clause by clause. -/
theorem test_hypotheses_IngestDrain :
    (∃ (n : Fin 8) (s : State),
      s.inService = true ∧ s.ingest[n].rstLow = false ∧
      ((∃ g q, s.drainItem n = some (.gap g q) ∧ s.ringSpace n true = true) ∨ (∃ y, s.drainItem n = some (.data y) ∧ s.ringSpace n false = true))) ∧
    (∃ (n : Fin 8) (s : State),
      s.inService = true ∧ s.ingest[n].rstLow = false ∧
      ((∃ g q, s.drainItem n = some (.gap g q) ∧ s.ringSpace n true = true) ∨ (∃ y, s.drainItem n = some (.data y) ∧ s.ringSpace n false = true))) ∧
    (∃ (n : Fin 8) (s : State) (r : Req),
      ((s.reqs.find? fun r => r.src == srcIng n && r.isDone) = some r)) :=
  ⟨⟨0, (runWith [(0x20, 0x058, 64)]).modIng 0 fun x => { x with phase := .idle, gapQ := [{ bytes := 0, flags := 0, tFirst := 0, tLast := 0, pos := 0 }] }, by decide +kernel, by decide +kernel, .inl ⟨{ bytes := 0, flags := 0, tFirst := 0, tLast := 0, pos := 0 }, true, by decide +kernel⟩⟩,
    ⟨0, (runWith [(0x20, 0x058, 64)]).modIng 0 fun x => { x with phase := .idle, segs := [seg true] }, by decide +kernel, by decide +kernel, .inr ⟨seg true, by decide +kernel⟩⟩,
    ⟨0, runReqs [ireq], ireq, by decide +kernel⟩⟩

/-- The hypotheses of `Obligations.IngestCommands` are met, clause by clause. -/
theorem test_hypotheses_IngestCommands :
    (∃ (n : Fin 8) (s : State),
      s.cfgField (pageIng n) 0x040 15 8 ≠ 0 ∧ s.ingest[n].openSeg.isSome = true) ∧
    (∃ (n : Fin 8) (s : State),
      s.cfgBit (pageIng n) 0x040 1 = true ∧ s.ingest[n].listens = true ∧ s.ingest[n].trigSeen = false ∧ s.ingest[n].rstLow = false) ∧
    (∃ (n : Fin 8) (s : State),
      s.ingest[n].freezing = true ∧ s.ingest[n].drained = true) ∧
    (∃ (n : Fin 8) (s : State),
      s.pageLive (pageIng n) = true ∧ s.regs.seq.held = false ∧ s.parity (pageIng n) = false ∧ s.ingest[n].phase = .off ∧
      s.inService = true ∧ s.entersDiag = false ∧ s.ringError n = 0) ∧
    (∃ (n : Fin 8) (s : State),
      s.pageLive (pageIng n) = true ∧ s.regs.seq.held = false ∧ s.ingest[n].listens = true) ∧
    (∃ (n : Fin 8) (v : BitVec 64) (s : State),
      s.pageLive (pageIng n) = true ∧ s.regs.seq.held = false ∧ s.ingWrap n = false ∧ s.ingest[n].cwp.toNat ≤ v.toNat + s.ringSize n ∧
      v.toNat ≤ s.ingest[n].cwp.toNat) ∧
    (∃ (n : Fin 8) (s : State),
      s.ingest[n].phase = .closing ∧ s.ingest[n].drained = true ∧ s.ingest[n].enWanted = false) ∧
    (∃ (n : Fin 8) (s : State),
      s.pageLive (pageIng n) = true ∧ s.ingWrap n = true) ∧
    (∃ (n : Fin 8) (s : State),
      s.pageLive (pageIng n) = true ∧ s.ingest[n].listens = true ∧ s.ingest[n].trigSeen = false) :=
  ⟨⟨0, runIng 0 fun x => { x with phase := .open_, segs := [seg false] }, by decide +kernel⟩,
    ⟨0, runIng 0 fun x => { x with phase := .open_, segs := [seg false] }, by decide +kernel⟩,
    ⟨0, runIng 0 fun x => { x with phase := .frozen, freezing := true }, by decide +kernel⟩,
    ⟨0, runWith [(0x20, 0x058, 64)], by decide +kernel⟩,
    ⟨0, runIng 0 fun x => { x with phase := .open_, segs := [seg false] }, by decide +kernel⟩,
    ⟨0, 0, runIng 0 fun x => { x with phase := .open_, segs := [seg false] }, by decide +kernel⟩,
    ⟨0, runIng 0 fun x => { x with phase := .closing }, by decide +kernel⟩,
    ⟨0, (runWith [(0x20, 0x040, 1)]).modIng 0 fun x => { x with phase := .frozen, frozen := true }, by decide +kernel⟩,
    ⟨0, runIng 0 fun x => { x with phase := .open_, segs := [seg false] }, by decide +kernel⟩⟩

/-- The hypotheses of `Obligations.FlipCommits` are met, clause by clause. -/
theorem test_hypotheses_FlipCommits :
    (∃ (gid : BitVec 12) (s : State),
      (s.group gid.toNat).st = .committing ∧ (s.group gid.toNat).inflight = 0 ∧ s.ledger.frozen = false) :=
  ⟨(4095 : BitVec 12), run.setGroup 4095 { st := .committing, entries := 2, inflight := 0 }, by decide +kernel⟩

/-- The hypotheses of `Obligations.ResolvingWithoutCopy` are met, clause by clause. -/
theorem test_hypotheses_ResolvingWithoutCopy :
    (∃ (i : Nat) (s : State),
      s.resolvable i = some false) ∧
    (∃ (i : Nat) (s : State),
      s.resolvable i = some true ∧ (s.entry i).pmask = BitVec.allOnes 64) :=
  ⟨⟨3, (run.setGroup 1 { st := .aborted, entries := 1, inflight := 0 }).setEntry 3 { pmask := 0, owner := 1, st := entOwned, cslot := true }, by decide +kernel⟩,
    ⟨3, (run.setGroup 1 { st := .committed, entries := 1, inflight := 0 }).setEntry 3 { pmask := BitVec.allOnes 64, owner := 1, st := entOwned, cslot := true }, by decide +kernel⟩⟩

/-- The hypotheses of `Obligations.LedgerSteps` are met, clause by clause. -/
theorem test_hypotheses_LedgerSteps :
    (∃ (slot : BitVec 8) (s : State) (r : Req),
      ((s.reqs.find? fun r => r.idle && r.decisions.any fun d => d.solo && d.owner == slot.toNat) = some r) ∧ s.soloLost r = false) ∧
    (∃ (half : Fin 2) (s : State) (d : Nat × Nat × Nat),
      ((s.ledger.demand.find? fun d => d.1 == half.val) = some d) ∧ s.granuleBusy d.2.1 = false ∧ s.copyFree d.2.1 false = true ∧
      ((s.entry d.2.1).st = entOwned ∨ (s.entry d.2.1).st = entSolo)) ∧
    (∃ (half : Fin 2) (s : State) (i : Nat),
      s.sweepRuns = true ∧ s.oldestSolo half = some i ∧ s.granuleBusy i = false ∧ s.copyFree i true = true) ∧
    (∃ (half : Fin 2) (s : State) (pos : Nat),
      s.sweepRuns = true ∧ pos = (s.ledger.cursor half).toNat ∧ s.oldestSolo half = none ∧
      (s.resolvable (2 * pos + half.val)).isNone = true ∧ s.blockBusy half (pos / 64) = true) ∧
    (∃ (half : Fin 2) (s : State) (pos : Nat),
      s.sweepRuns = true ∧ pos = (s.ledger.cursor half).toNat ∧ s.oldestSolo half = none ∧
      (s.resolvable (2 * pos + half.val)).isNone = true ∧ s.blockBusy half (pos / 64) = false) :=
  ⟨⟨(2 : BitVec 8), { runReqs [sreq] with ledger := { Ledger.reset with enabled := true, solos := [(2, { granule := 7, done := false, order := 0 })], entries := (((run.setEntry 7 { pmask := 0, owner := 2, st := entSolo, cslot := false }).ledger).entries) } }, sreq, by decide +kernel⟩,
    ⟨1, ({ run with ledger := { Ledger.reset with enabled := true, demand := [(1, 5, 0)] } }).setEntry 5 { pmask := 0, owner := 1, st := entOwned, cslot := false }, ((1, 5, 0) : Nat × Nat × Nat), by decide +kernel⟩,
    ⟨(1 : Fin 2), { run with ledger := { Ledger.reset with enabled := true, solos := [(0, { granule := 7, done := true, order := 0 })] } }, 7, by decide +kernel⟩,
    ⟨(0 : Fin 2), ({ run with ledger := { Ledger.reset with enabled := true, groups := [(0, { st := .open_, entries := 1, inflight := 0 }), (1, { st := .aborted, entries := 1, inflight := 0 })] } }).setEntry 2 { pmask := 0, owner := 0, st := entOwned, cslot := false }, 0, by decide +kernel⟩,
    ⟨0, ({ run with ledger := { Ledger.reset with enabled := true, groups := [(0, { st := .open_, entries := 1, inflight := 0 }), (1, { st := .aborted, entries := 1, inflight := 0 })] } }).setEntry 130 { pmask := 0, owner := 0, st := entOwned, cslot := false }, 0, by decide +kernel⟩⟩

/-- The hypotheses of `Obligations.LedgerCommands` are met, clause by clause. -/
theorem test_hypotheses_LedgerCommands :
    (∃ (s : State),
      s.pageLive (pageLdg 0) = true ∧
      ((s.readEntry (s.cfgField (pageLdg 0) 0x064 18 0) 0).entry (s.cfgField (pageLdg 0) 0x064 18 0)).st = entPoisoned) ∧
    (∃ (s : State),
      s.pageLive (pageLdg 0) = true ∧ (s.group (s.cfgField (pageLdg 0) 0x05C 11 0)).st = .open_) :=
  ⟨⟨((runWith [(0xA, 0x064, 9), (0xA, 0x05C, 1)]).setEntry 9 { pmask := 0, owner := 0, st := entPoisoned, cslot := false }).setGroup 1 { st := .open_, entries := 0, inflight := 0 }, by decide +kernel⟩,
    ⟨((runWith [(0xA, 0x064, 9), (0xA, 0x05C, 1)]).setEntry 9 { pmask := 0, owner := 0, st := entPoisoned, cslot := false }).setGroup 1 { st := .open_, entries := 0, inflight := 0 }, by decide +kernel⟩⟩

/-- The hypotheses of `Obligations.ArbiterGrants` are met, clause by clause. -/
theorem test_hypotheses_ArbiterGrants :
    (∃ (h : Fin 8) (r : Req) (s : State),
      s.pwr.coreOn = true ∧ (s.advanceTick h).waitingAt h = [r] ∧ (s.advanceTick h).req r.rid = some r ∧
      (s.advanceTick h).isCandidate h r = true ∧ (s.advanceTick h).hasCredit h r = true) ∧
    (∃ (h : Fin 8) (s : State),
      s.pwr.coreOn = true ∧ s.waitingAt h = []) :=
  ⟨⟨0, req 1 5 opcRead .waiting, runReqs [req 1 5 opcRead .waiting], by decide +kernel⟩,
    ⟨7, run, by decide +kernel⟩⟩

/-- The hypotheses of `Obligations.FabricSteps` are met, clause by clause. -/
theorem test_hypotheses_FabricSteps :
    (∃ (h : Fin 8) (s : State),
      s.waitingAt h ≠ []) ∧
    (∃ (h : Fin 8) (s : State) (tbl : _),
      s.hubs[h].staged = some tbl ∧ s.hubs[h].old.length < 2) ∧
    (∃ (h : Fin 8) (s : State) (o : _) (rest : _),
      s.hubs[h].old = o :: rest ∧ s.epochBusy h o.epoch = false) ∧
    (∃ (c : Fin 80) (s : State),
      s.slices[c].health.late ≠ 0) ∧
    (∃ (s : State),
      s.pageLive pageFab = true) ∧
    (∃ (s : State),
      s.pageLive pageArb = true) :=
  ⟨⟨0, runReqs [req 1 5 opcRead .waiting], by decide +kernel⟩,
    ⟨7, run.modHub 7 fun x => { x with staged := some (homeTable 7) }, homeTable 7, by decide +kernel⟩,
    ⟨0, run.modHub 0 fun x => { x with old := [{ epoch := 4, table := homeTable 0 }] }, { epoch := 4, table := homeTable 0 }, [], by decide +kernel⟩,
    ⟨79, runSlice 79 fun x => { x with health := { x.health with late := 1 } }, by decide +kernel⟩,
    ⟨runReqs [req 1 5 opcRead .waiting], by decide +kernel⟩,
    ⟨runReqs [req 1 5 opcRead .waiting], by decide +kernel⟩⟩

/-- The hypotheses of `Obligations.RegulationSteps` are met, clause by clause. -/
theorem test_hypotheses_RegulationSteps :
    (∃ (s : State),
      s.shr.busy = true ∧ s.pwr.coreOn = true ∧ s.mode.mode ≠ .retention) ∧
    (∃ (s : State) (r : _),
      s.pwr.coreOn = true ∧ s.mode.mode ≠ .retention ∧ s.shr.nextShed = some r ∧ s.parity pageShr = false) ∧
    (∃ (s : State),
      s.pageLive pageShr = true) :=
  ⟨⟨{ run with shr := { Shares.reset with busy := true } }, by decide +kernel⟩,
    ⟨{ run with shr := { Shares.reset with nextShed := some { shed := 1, residual := false, cause := 0, shedLow := 0, slices := [], hubs := 0, pl := none } } }, { shed := 1, residual := false, cause := 0, shedLow := 0, slices := [], hubs := 0, pl := none }, by decide +kernel⟩,
    ⟨{ run with shr := { Shares.reset with busy := true } }, by decide +kernel⟩⟩

/-- The hypotheses of `Obligations.StripStoreReachesOneLine` are met, clause by clause. -/
theorem test_hypotheses_StripStoreReachesOneLine :
    (∃ (s : State) (c : Fin 80) (stripe : Nat) (a : Nat),
      Memory.wf s.mem = true ∧
      ((s.slices[c].sched.ckc.any fun k => k.line == s.checkLine stripe) = true ∨ s.slices[c].sched.ckc.length < 512) ∧
      (a < sliceByte c (64 * s.dataLine stripe) ∨ sliceByte c (64 * s.dataLine stripe) + 64 ≤ a)) :=
  ⟨run, 0, 0, 64, by decide +kernel⟩

/-- The hypotheses of `Obligations.MemberOperationsReturn` are met, clause by clause. -/
theorem test_hypotheses_MemberOperationsReturn :
    (∃ (c : Fin 80) (index : Nat) (o : MemOp) (err : ReadErr) (s : State),
      s.slices[c].serves = true ∧ s.slices[c].sched.alert = none ∧ s.slices[c].health.cmdReset = false ∧
      s.slices[c].sched.fwds[index]? = some o ∧ (judgeStrip o (o.data ^^^ err.data) (o.word ^^^ err.check) false).failed = false) ∧
    (∃ (c : Fin 80) (index : Nat) (k : Nat) (o : MemOp) (s : State),
      s.slices[c].serves = true ∧ s.slices[c].sched.alert = none ∧ s.slices[c].health.cmdReset = false ∧
      s.slices[c].sched.fwds[index]? = none ∧ s.slices[c].sched.retryReads[index - s.slices[c].sched.fwds.length]? = some (k, o) ∧
      o.readsCk = true ∧ s.ckRoom c o.line = true ∧ s.slices[c].train.lecc = false) ∧
    (∃ (c : Fin 80) (index : Nat) (k : Nat) (o : MemOp) (s : State),
      s.slices[c].serves = true ∧ s.slices[c].sched.alert = none ∧ s.slices[c].health.cmdReset = false ∧
      s.slices[c].sched.fwds[index]? = none ∧ s.slices[c].sched.retryReads[index - s.slices[c].sched.fwds.length]? = some (k, o) ∧
      o.readsCk = false ∧ s.wordThere c o.stripe = false) ∧
    (∃ (c : Fin 80) (index : Nat) (k : Nat) (o : MemOp) (err : ReadErr) (s : State),
      s.slices[c].serves = true ∧ s.slices[c].sched.alert = none ∧ s.slices[c].health.cmdReset = false ∧
      s.slices[c].sched.fwds[index]? = none ∧ s.slices[c].sched.retryReads[index - s.slices[c].sched.fwds.length]? = some (k, o) ∧
      o.readsCk = false ∧ s.wordThere c o.stripe = true ∧ (s.fetchStrip c o err).2.failed = true) ∧
    (∃ (c : Fin 80) (index : Nat) (k : Nat) (o : MemOp) (err : ReadErr) (s : State),
      s.slices[c].serves = true ∧ s.slices[c].sched.alert = none ∧ s.slices[c].health.cmdReset = false ∧
      s.slices[c].sched.fwds[index]? = none ∧ s.slices[c].sched.retryReads[index - s.slices[c].sched.fwds.length]? = some (k, o) ∧
      o.readsCk = false ∧ s.wordThere c o.stripe = true ∧ (s.fetchStrip c o err).2.failed = false) ∧
    (∃ (c : Fin 80) (index : Nat) (o : MemOp) (s : State),
      s.slices[c].serves = true ∧ s.slices[c].sched.alert = none ∧ s.slices[c].health.cmdReset = false ∧
      s.slices[c].sched.fwds[index]? = none ∧ s.slices[c].sched.retryReads[index - s.slices[c].sched.fwds.length]? = none ∧
      s.slices[c].sched.replayed[index - s.slices[c].sched.fwds.length - s.slices[c].sched.retryReads.length]? = some o ∧
      s.wordThere c o.stripe = true) ∧
    (∃ (c : Fin 80) (index : Nat) (k : Nat) (o : MemOp) (s : State) (u : State) (v : State) (w : State),
      s.slices[c].serves = true ∧ s.slices[c].sched.alert = none ∧ s.slices[c].health.cmdReset = false ∧
      s.slices[c].sched.retryWrites[index]? = some (k, o) ∧ (o.evicts || s.ckRoom c (s.checkLine o.stripe)) = true ∧
      (u = s.modSched c (fun x => { x with retry := x.retry.eraseIdx k })) ∧
      v = (if o.evicts then u.setRawLine c o.line o.data else if o.check then u.cacheWord c o.line (s.checkIdx o.stripe) o.word else u.putStrip c o.stripe o.data o.word) ∧
      (w = ((o.jid :: o.also).foldl (fun (x : State) (j : Nat) => x.writeAcked o.group j o.member) v).kick o.group)) :=
  ⟨⟨0, 0, { mop with word := checkWord 0 0 0 0 }, { data := 0, check := 0, linkCe := 0, linkUc := false : ReadErr }, runSched 0 fun x => { x with fwds := [{ mop with word := checkWord 0 0 0 0 }] }, by decide +kernel⟩,
    ⟨0, 0, 0, { mop with check := true, line := 2033600 }, runSched 0 fun x => { x with retry := [.rd { mop with check := true, line := 2033600 }] }, by decide +kernel⟩,
    ⟨0, 0, 0, mop, runSched 0 fun x => { x with retry := [.rd mop] }, by decide +kernel⟩,
    ⟨0, 0, 0, mop, { data := 1, check := 0, linkCe := 2, linkUc := false : ReadErr }, runSched 0 fun x => { x with retry := [.rd mop], ckc := [{ line := 2033600, valid := 1, dirty := false, data := BitVec.setWidth 512 (checkWord 0 0 0 0) }] }, by decide +kernel⟩,
    ⟨0, 0, 0, mop, { data := 0, check := 0, linkCe := 0, linkUc := false : ReadErr }, runSched 0 fun x => { x with retry := [.rd mop], ckc := [{ line := 2033600, valid := 1, dirty := false, data := BitVec.setWidth 512 (checkWord 0 0 0 0) }] }, by decide +kernel⟩,
    ⟨0, 0, { mop with replay := true }, runSched 0 fun x => { x with replayed := [{ mop with replay := true }], ckc := [{ line := 2033600, valid := 1, dirty := false, data := BitVec.setWidth 512 (checkWord 0 0 0 0) }] }, by decide +kernel⟩,
    ⟨79, 0, 0, run.evictOp 79 { line := 5, valid := 1, dirty := true, data := 0 }, runSched 79 fun x => { x with retry := [.wr (run.evictOp 79 { line := 5, valid := 1, dirty := true, data := 0 })] }, run, run, run, by decide +kernel⟩⟩

/-- The hypotheses of `Obligations.GroupHubCommands` are met, clause by clause. -/
theorem test_hypotheses_GroupHubCommands :
    (∃ (g : Fin 8) (s : State) (v : _) (rest : _),
      s.populated g = true ∧ s.inService = true ∧ s.pwr.phase = .awake ∧ s.groupIdle g = true ∧ s.hubs[g].voids = v :: rest ∧
      s.chunkBusy g v.1 = false ∧ s.reserveRoom g = true ∧ (∀ m : Fin 9, (s.targetOf g s.hubs[g].epoch m (8 * v.1)).isSome = true)) ∧
    (∃ (g : Fin 8) (s : State),
      s.pageLive (pageGrp g) = true) :=
  ⟨⟨0, run.modHub 0 fun x => { x with voids := [(0, 4)], zeroing := true }, ((0, 4) : Nat × Nat), [], by decide +kernel⟩,
    ⟨0, run.modHub 0 fun x => { x with voids := [(0, 4)], zeroing := true }, by decide +kernel⟩⟩

/-- The hypotheses of `Obligations.SliceIssuesNextCommand` are met, clause by clause. -/
theorem test_hypotheses_SliceIssuesNextCommand :
    (∃ (c : Fin 80) (o : MemOp) (s : State) (w : State),
      s.mayIssue c = true ∧ s.slices[c].sched.owed < 8 ∧ s.slices[c].sched.tLead = false ∧ w = s.modSched c Sched.dropDriven ∧
      w.slices[c].sched.replayHead = some o ∧ w.rowHit c o = true) ∧
    (∃ (c : Fin 80) (late : Nat) (o : MemOp) (s : State) (w : State) (u : State),
      s.mayIssue c = true ∧ s.slices[c].sched.owed < 8 ∧ s.slices[c].sched.tLead = false ∧ w = s.modSched c Sched.dropDriven ∧
      w.slices[c].sched.replayHead = none ∧ w.slices[c].sched.retry.length < 64 ∧
      (u = (w.modSched c fun x => { x with fullSeen := false }).turnGust c) ∧ (u.serveOrder c)[late]? = some o ∧
      ((u.slices[c].sched.rows.find? fun r => r.1 == (u.bankRow c o).1) = none)) ∧
    (∃ (c : Fin 80) (late : Nat) (o : MemOp) (s : State) (w : State) (u : State),
      s.mayIssue c = true ∧ s.slices[c].sched.owed < 8 ∧ s.slices[c].sched.tLead = false ∧ w = s.modSched c Sched.dropDriven ∧
      w.slices[c].sched.replayHead = none ∧ w.slices[c].sched.retry.length < 64 ∧
      (u = (w.modSched c fun x => { x with fullSeen := false }).turnGust c) ∧ (u.serveOrder c)[late]? = some o ∧ u.rowHit c o = false ∧
      ((u.slices[c].sched.rows.any fun r => r.1 == (u.bankRow c o).1) = true)) ∧
    (∃ (c : Fin 80) (late : Nat) (o : MemOp) (s : State) (w : State) (u : State),
      s.mayIssue c = true ∧ s.slices[c].sched.owed < 8 ∧ s.slices[c].sched.tLead = false ∧ w = s.modSched c Sched.dropDriven ∧
      w.slices[c].sched.replayHead = none ∧ w.slices[c].sched.retry.length < 64 ∧
      (u = (w.modSched c fun x => { x with fullSeen := false }).turnGust c) ∧ (u.serveOrder c)[late]? = some o ∧ u.rowHit c o = true) :=
  ⟨⟨0, { mop with replay := true }, (runSched 0 fun x => { x with retry := [.rd { mop with replay := true }], rows := [((run.bankRow 0 mop).1, (run.bankRow 0 mop).2, 0)] }), ((runSched 0 fun x => { x with retry := [.rd { mop with replay := true }], rows := [((run.bankRow 0 mop).1, (run.bankRow 0 mop).2, 0)] }).modSched 0 Sched.dropDriven).closeIdle 0, by decide +kernel⟩,
    ⟨0, 0, mop, (runSched 0 fun x => { x with rq := [mop] }), ((runSched 0 fun x => { x with rq := [mop] }).modSched 0 Sched.dropDriven).closeIdle 0, ((((runSched 0 fun x => { x with rq := [mop] }).modSched 0 Sched.dropDriven).closeIdle 0).modSched 0 fun x => { x with fullSeen := false }).turnGust 0, by decide +kernel⟩,
    ⟨0, 0, mop, (runSched 0 fun x => { x with rq := [mop], rows := [((run.bankRow 0 mop).1, (run.bankRow 0 mop).2 + 1, 0)] }), ((runSched 0 fun x => { x with rq := [mop], rows := [((run.bankRow 0 mop).1, (run.bankRow 0 mop).2 + 1, 0)] }).modSched 0 Sched.dropDriven).closeIdle 0, ((((runSched 0 fun x => { x with rq := [mop], rows := [((run.bankRow 0 mop).1, (run.bankRow 0 mop).2 + 1, 0)] }).modSched 0 Sched.dropDriven).closeIdle 0).modSched 0 fun x => { x with fullSeen := false }).turnGust 0, by decide +kernel⟩,
    ⟨0, 0, mop, (runSched 0 fun x => { x with rq := [mop], rows := [((run.bankRow 0 mop).1, (run.bankRow 0 mop).2, 0)] }), ((runSched 0 fun x => { x with rq := [mop], rows := [((run.bankRow 0 mop).1, (run.bankRow 0 mop).2, 0)] }).modSched 0 Sched.dropDriven).closeIdle 0, ((((runSched 0 fun x => { x with rq := [mop], rows := [((run.bankRow 0 mop).1, (run.bankRow 0 mop).2, 0)] }).modSched 0 Sched.dropDriven).closeIdle 0).modSched 0 fun x => { x with fullSeen := false }).turnGust 0, by decide +kernel⟩⟩

/-- The hypotheses of `Obligations.RefreshSteps` are met, clause by clause. -/
theorem test_hypotheses_RefreshSteps :
    (∃ (c : Fin 80) (s : State),
      s.slices[c].refreshes = true ∧ s.slices[c].health.cmdReset = false ∧ s.placeOf c = none ∧ s.slices[c].sched.inRef = false ∧
      s.slices[c].sched.perBank = false ∧ s.slices[c].sched.owed < 7 ∧ s.slices[c].sched.inFlight = false) ∧
    (∃ (c : Fin 80) (s : State),
      s.slices[c].refreshes = true ∧ s.slices[c].health.cmdReset = false ∧ s.placeOf c = none ∧ s.slices[c].sched.inRef = false ∧
      s.slices[c].sched.perBank = false ∧ s.slices[c].sched.owed < 7 ∧ s.slices[c].sched.inFlight = true) ∧
    (∃ (c : Fin 80) (s : State),
      s.slices[c].sched.tLead = true) ∧
    (∃ (c : Fin 80) (s : State),
      s.slices[c].sched.inRef = true) ∧
    (∃ (c : Fin 80) (s : State),
      s.slices[c].refreshes = true ∧ s.slices[c].sched.perBank = true ∧ s.slices[c].sched.pbDone < s.perBankQuota c) ∧
    (∃ (c : Fin 80) (worst : DevTemp) (s : State),
      s.slices[c].refreshes = true ∧
      BitVec.ofNat 2 (max (tempMult worst).toNat (s.cfgField (pageCh c) 0x048 1 0)) = s.slices[c].sched.mult) ∧
    (∃ (c : Fin 80) (worst : DevTemp) (s : State) (want : BitVec 2),
      s.slices[c].refreshes = true ∧ want = BitVec.ofNat 2 (max (tempMult worst).toNat (s.cfgField (pageCh c) 0x048 1 0)) ∧
      s.slices[c].sched.mult.toNat < want.toNat ∧ s.slices[c].sched.nextMult ≠ some want) :=
  ⟨⟨79, run, by decide +kernel⟩,
    ⟨79, runSched 79 fun x => { x with retry := [.rd mop] }, by decide +kernel⟩,
    ⟨0, runSched 0 fun x => { x with tLead := true }, by decide +kernel⟩,
    ⟨0, (runSched 0 fun x => { x with inRef := true }).modHub 0 fun x => { x with line := { x.line with token := some 0 } }, by decide +kernel⟩,
    ⟨0, runSched 0 fun x => { x with perBank := true, pbDone := 7 }, by decide +kernel⟩,
    ⟨79, DevTemp.nominal, run, by decide +kernel⟩,
    ⟨0, DevTemp.aboveLimit, run, (3 : BitVec 2), by decide +kernel⟩⟩

/-- The hypotheses of `Obligations.SliceCommands` are met, clause by clause. -/
theorem test_hypotheses_SliceCommands :
    (∃ (c : Fin 80) (index : Nat) (s : State),
      s.slices[c].drives = true ∧ s.slices[c].health.cmdReset = false ∧ s.slices[c].sched.alert = none ∧
      index < s.slices[c].sched.retry.length) ∧
    (∃ (c : Fin 80) (index : Nat) (s : State),
      s.slices[c].sched.alert = some index) ∧
    (∃ (c : Fin 80) (s : State) (o : _) (rest : _),
      s.slices[c].sched.gust = false ∧ s.slices[c].sched.wq = o :: rest ∧ s.wrAgeNs c ≤ s.waited o ∧ s.mayIssue c = true) ∧
    (∃ (c : Fin 80) (s : State),
      s.pageLive (0x80 + c.val) = true ∧ s.slices[c].sched.wq ≠ [] ∧ (s.slices[c].sched.gust = false ∨ s.slices[c].sched.gustCause ≠ 4)) ∧
    (∃ (c : Fin 80) (s : State),
      s.pageLive (0x80 + c.val) = true ∧ s.slices[c].sched.wq = []) :=
  ⟨⟨0, 0, runSched 0 fun x => { x with retry := [.rd mop] }, by decide +kernel⟩,
    ⟨0, 0, runSched 0 fun x => { x with alert := some 0, retry := [.rd mop] }, by decide +kernel⟩,
    ⟨0, { runSched 0 fun x => { x with wq := [{ mop with write := true }] } with tb := 1000000 }, { mop with write := true }, [], by decide +kernel⟩,
    ⟨0, { runSched 0 fun x => { x with wq := [{ mop with write := true }] } with tb := 1000000 }, by decide +kernel⟩,
    ⟨0, runSched 0 fun x => { x with retry := [.rd mop] }, by decide +kernel⟩⟩

/-- The hypotheses of `Obligations.LullCommands` are met, clause by clause. -/
theorem test_hypotheses_LullCommands :
    (∃ (c : Fin 80) (s : State),
      s.slices[c].refreshes = true ∧ (s.role c = roleHome ∨ s.role c = roleAttached) ∧ s.cfgField (pageCh c) 0x104 5 0 ≠ 0) ∧
    (∃ (c : Fin 80) (s : State) (x : Instr),
      s.slices[c].refreshes = true ∧
      ((x = .lullIntervalExpiry c ∧ s.cfgField (pageCh c) 0x104 31 22 ≠ 0) ∨ (x = .lull c ∧ s.pageLive (0x80 + c.val) = true)) ∧
      s.votes = false) ∧
    (∃ (c : Fin 80) (s : State) (x : Instr),
      s.slices[c].refreshes = true ∧
      ((x = .lullIntervalExpiry c ∧ s.cfgField (pageCh c) 0x104 31 22 ≠ 0) ∨ (x = .lull c ∧ s.pageLive (0x80 + c.val) = true)) ∧
      s.votes = true) ∧
    (∃ (c : Fin 80) (s : State),
      s.slices[c].refreshes = true ∧ s.lullMayOpen c = true) :=
  ⟨⟨0, run, by decide +kernel⟩,
    ⟨0, run, .lull 0, by decide +kernel⟩,
    ⟨0, voting .prepare1 3 (1#100 <<< 99), .lull 0, by decide +kernel⟩,
    ⟨79, runSlice 79 fun x => { x with train := { x.train with lullReq := true } }, by decide +kernel⟩⟩

/-- The hypotheses of `Obligations.TrainingCommands` are met, clause by clause. -/
theorem test_hypotheses_TrainingCommands :
    (∃ (c : Fin 80) (s : State),
      s.pageLive (0x80 + c.val) = true ∧ s.role c = roleQuarantine ∧ s.slices[c].train.st ≠ 5) ∧
    (∃ (c : Fin 80) (s : State),
      s.pageLive (0x80 + c.val) = true ∧ s.role c = roleQuarantine ∧ s.slices[c].train.st = 5) ∧
    (∃ (c : Fin 80) (s : State),
      s.pageLive (0x80 + c.val) = true ∧ s.role c ≠ roleQuarantine ∧ s.servesMember c = false) ∧
    (∃ (c : Fin 80) (s : State) (m : _),
      s.slices[c].train.marginFail = true ∧ s.slices[c].train.st = 4 ∧ s.inService = true ∧ s.servesMember c = true ∧
      s.slices[c].health.mem = some m ∧ s.otherUnreachable s.slices[c].health.grp m = false ∧ s.inRelayout c = false ∧
      s.spr.rly[s.slices[c].health.grp] = none) ∧
    (∃ (c : Fin 80) (s : State),
      s.slices[c].refreshes = true ∧ s.slices[c].train.marginFail = true ∧ s.slices[c].train.st = 4 ∧ s.inService = false) ∧
    (∃ (c : Fin 80) (dev : Readback) (s : State),
      s.slices[c].train.st = 5 ∧ dev.ranks ≠ 0 ∧ refuseCode dev = 0 ∧ capHalves s.cap ≤ dev.ranks.toNat * densHalves dev.dens ∧
      s.mode.mode = .diagnostic ∧ (s.role c = roleHome ∨ s.role c = roleAttached)) ∧
    (∃ (c : Fin 80) (dev : Readback) (s : State),
      s.slices[c].train.st = 5 ∧ dev.ranks ≠ 0 ∧ refuseCode dev = 0 ∧ capHalves s.cap ≤ dev.ranks.toNat * densHalves dev.dens ∧
      s.role c = roleQuarantine ∧ s.slices[c].health.mem = none) ∧
    (∃ (c : Fin 80) (s : State),
      s.pageLive (0x80 + c.val) = true ∧ s.scanError c = 0) ∧
    (∃ (c : Fin 80) (s : State),
      s.slices[c].train.scanBusy = true) :=
  ⟨⟨79, runSlice 79 fun x => { x with health := { x.health with role := roleQuarantine } }, by decide +kernel⟩,
    ⟨79, runSlice 79 fun x => { x with train := { x.train with st := 5 }, health := { x.health with role := roleQuarantine } }, by decide +kernel⟩,
    ⟨79, run, by decide +kernel⟩,
    ⟨0, runSlice 0 fun x => { x with train := { x.train with marginFail := true } }, 0, by decide +kernel⟩,
    ⟨0, { runSlice 0 fun x => { x with train := { x.train with marginFail := true } } with mode := { run.mode with mode := .bringUp } }, by decide +kernel⟩,
    ⟨0, { mfr := 0, rev := 0, dens := 4, ranks := 2, x8 := false, lecc := false, unequal := false, no5x := false, disagree := false : Readback }, { runSlice 0 fun x => { x with train := { x.train with st := 5 } } with mode := { run.mode with mode := .diagnostic } }, by decide +kernel⟩,
    ⟨79, { mfr := 0, rev := 0, dens := 4, ranks := 2, x8 := false, lecc := false, unequal := false, no5x := false, disagree := false : Readback }, runSlice 79 fun x => { x with train := { x.train with st := 5 }, health := { x.health with role := roleQuarantine } }, by decide +kernel⟩,
    ⟨79, runSlice 79 fun x => { x with health := { x.health with role := roleQuarantine } }, by decide +kernel⟩,
    ⟨79, runSlice 79 fun x => { x with train := { x.train with st := 0xA, scanBusy := true } }, by decide +kernel⟩⟩

/-- The hypotheses of `Obligations.PerformanceLevelSteps` are met, clause by clause. -/
theorem test_hypotheses_PerformanceLevelSteps :
    (∃ (s : State),
      s.plMayDecide = true) ∧
    (∃ (c : Fin 80) (s : State),
      s.pwr.switching = true ∧ s.slices[c].train.switching = true ∧ s.pwr.steps = false ∧ s.pwr.waitFeas = true) ∧
    (∃ (c : Fin 80) (s : State),
      s.pwr.steps = true ∧ s.slices[c].train.switching = true ∧ s.switches c = true ∧ s.inService = true ∧ s.fab.wrst = false ∧
      s.slices[c].train.scanBusy = false ∧ s.slices[c].sched.alert = none ∧ s.slices[c].sched.inRef = false ∧ s.windowFree c = true ∧
      s.stepTurn c = true ∧ s.slices[c].sched.wq = []) ∧
    (∃ (s : State),
      s.pwr.switching = true ∧ s.pwr.raising = true) ∧
    (∃ (s : State),
      s.pwr.vidHold = true ∧ s.pwr.switching = false) ∧
    (∃ (s : State),
      s.pwr.vidHold = true ∧ s.pwr.switching = true) :=
  ⟨⟨runWith [(1, 0x050, 3)], by decide +kernel⟩,
    ⟨79, { runSlice 79 fun x => { x with train := { x.train with switching := true } } with pwr := { run.pwr with switching := true, waitFeas := true } }, by decide +kernel⟩,
    ⟨79, { runSlice 79 fun x => { x with train := { x.train with switching := true } } with pwr := { run.pwr with switching := true, steps := true } }, by decide +kernel⟩,
    ⟨{ runWith [(1, 0x050, 3)] with pwr := { run.pwr with switching := true, raising := true, vidHold := true, plGoal := 0 } }, by decide +kernel⟩,
    ⟨{ run with pwr := { run.pwr with vidHold := true } }, by decide +kernel⟩,
    ⟨{ runWith [(1, 0x050, 3)] with pwr := { run.pwr with switching := true, raising := true, vidHold := true, plGoal := 0 } }, by decide +kernel⟩⟩

/-- The hypotheses of `Obligations.MonitorReadings` are met, clause by clause. -/
theorem test_hypotheses_MonitorReadings :
    (∃ (s : State),
      s.paceAct ≠ 0 ∧ s.paceLow = true ∧ s.pwr.vofs.toNat < 5) :=
  ⟨{ runWith [(1, 0x040, 0x10)] with pwr := { run.pwr with paceSeen := 1, vofs := 4 } }, by decide +kernel⟩

/-- The hypotheses of `Obligations.FailureSteps` are met, clause by clause. -/
theorem test_hypotheses_FailureSteps :
    (∃ (c : Fin 80) (s : State),
      ((s.slices[c].sched.ops.any fun o => s.tooSlow c o) = true)) ∧
    (∃ (c : Fin 80) (cause : BitVec 4) (s : State),
      s.slices[c].health.mem = none ∧ s.role c ≠ roleFailed ∧ s.role c ≠ roleUnused ∧ s.role c ≠ roleUnavailable ∧ cause ≠ 7) ∧
    (∃ (c : Fin 80) (s : State),
      s.role c = roleFailed ∧ s.slices[c].on = true ∧ s.inService = true ∧ s.pwr.phase = .awake) :=
  ⟨⟨0, { run.modSched 0 fun x => { x with rq := [{ mop with jid := 1 }] } with tb := 500000 }, by decide +kernel⟩,
    ⟨79, (15 : BitVec 4), run, by decide +kernel⟩,
    ⟨0, runSlice 0 fun x => { x with health := { x.health with role := roleFailed } }, by decide +kernel⟩⟩

/-- The hypotheses of `Obligations.RelayoutSteps` are met, clause by clause. -/
theorem test_hypotheses_RelayoutSteps :
    (∃ (g : Fin 8) (r : Relayout) (s : State),
      s.inService = true ∧ s.parity pageSpr = false ∧ s.pwr.phase = .awake ∧ s.rlyCount < 2 ∧ s.spr.rly[g] = some r ∧ r.running = false ∧
      r.suspended = false) ∧
    (∃ (g : Fin 8) (r : Relayout) (s : State),
      s.inService = true ∧ s.parity pageSpr = false ∧ s.pwr.phase = .awake ∧ s.rlyCount < 2 ∧ s.spr.rly[g] = none ∧ s.nextRly g = some r) ∧
    (∃ (g : Fin 8) (r : Relayout) (s : State),
      s.rlyWorks g = some r ∧ s.hubs[g].voids = [] ∧ (r.kind = .resync → r.full = true) ∧ r.bound < s.groupStripes ∧ r.done = [] ∧
      s.windowStripes g = []) ∧
    (∃ (g : Fin 8) (r : Relayout) (s : State),
      s.rlyWorks g = some r ∧ s.hubs[g].voids = [] ∧ (r.kind = .resync → r.full = true) ∧ r.bound < s.groupStripes ∧ r.done = [r.bound]) ∧
    (∃ (g : Fin 8) (r : Relayout) (s : State),
      s.rlyWorks g = some r ∧ s.groupStripes ≤ r.bound ∧ r.src ≠ some r.dst ∧
      (∀ c : Fin 80, s.slices[c].health.errLevel = 0 ∧ s.slices[c].train.marginFail = false)) :=
  ⟨⟨0, rly, run.setRly 0 (some rly), by decide +kernel⟩,
    ⟨0, rly, { run with spr := { run.spr with queue := [(0, rly)], members := run.spr.members.set 0 (run.spr.members[0].set 8 { Member.home 0 8 with st := .absent }) } }, by decide +kernel⟩,
    ⟨0, { rly with running := true, bound := 3 }, run.setRly 0 (some { rly with running := true, bound := 3 }), by decide +kernel⟩,
    ⟨0, { rly with running := true, bound := 3, done := [3] }, run.setRly 0 (some { rly with running := true, bound := 3, done := [3] }), by decide +kernel⟩,
    ⟨0, { rly with running := true, bound := 2 ^ 40 }, run.setRly 0 (some { rly with running := true, bound := 2 ^ 40 }), by decide +kernel⟩⟩

/-- The hypotheses of `Obligations.SpareCommands` are met, clause by clause. -/
theorem test_hypotheses_SpareCommands :
    (∃ (g : Fin 8) (d : Fin 80) (s : State),
      s.pageLive pageSpr = true ∧ s.inService = true ∧ s.populated g = true ∧ s.role d ≠ roleUnused ∧ s.role d ≠ roleFailed ∧
      s.role d ≠ roleUnavailable ∧ s.slices[d].health.mem = none) ∧
    (∃ (g : Fin 8) (m : Fin 9) (d : Fin 80) (s : State),
      s.pageLive pageSpr = true ∧ s.inService = true ∧ s.populated g = true ∧ s.otherUnreachable g m = false ∧
      (s.member g m).st = .healthy ∧ s.spareAsked g m = false ∧ s.role d = roleSpareFree) ∧
    (∃ (g : Fin 8) (m : Fin 9) (s : State),
      s.pageLive pageSpr = true ∧ s.inService = true ∧ s.populated g = true ∧ (s.member g m).st = .healthy ∧
      (s.member g m).slice ≠ homeSlice g m ∧ s.role (homeSlice g m) = roleSpareFree ∧ s.spr.rly[g] = none ∧
      ((s.spr.queue.any fun q => q.1 == g) = false)) ∧
    (∃ (g : Fin 8) (s : State) (r : _),
      s.pageLive pageSpr = true ∧ s.inService = true ∧ s.populated g = true ∧ s.spr.rly[g] = some r ∧ r.running = true) ∧
    (∃ (g : Fin 8) (s : State) (r : _),
      s.pageLive pageSpr = true ∧ s.inService = true ∧ s.populated g = true ∧ s.spr.rly[g] = some r ∧ r.suspended = true ∧
      s.parity pageSpr = false) ∧
    (∃ (g : Fin 8) (d : Fin 80) (s : State),
      s.pageLive pageSpr = true ∧ s.inService = true ∧ s.populated g = true ∧ s.role d = roleQuarantine ∧
      s.slices[d].health.retrained = true ∧ s.slices[d].health.tested = true) ∧
    (∃ (g : Fin 8) (m : Fin 9) (d : Fin 80) (s : State) (r : _),
      s.pageLive pageSpr = true ∧ s.inService = true ∧ s.populated g = true ∧
      ((s.spr.requests.find? fun r => r.grp == g && r.mem == m) = some r) ∧ s.role d = roleSpareFree) :=
  ⟨⟨7, 79, runWith [(0, 0x050, 3)], by decide +kernel⟩,
    ⟨7, 8, 79, runWith [(0, 0x050, 3)], by decide +kernel⟩,
    ⟨0, 0, (run.setMember 0 0 { st := .healthy, slice := 79, retrain := false }).setRole 0 roleSpareFree, by decide +kernel⟩,
    ⟨0, run.setRly 0 (some { rly with running := true }), { rly with running := true }, by decide +kernel⟩,
    ⟨0, run.setRly 0 (some { rly with suspended := true }), { rly with suspended := true }, by decide +kernel⟩,
    ⟨0, 79, runSlice 79 fun x => { x with health := { x.health with role := roleQuarantine, retrained := true, tested := true } }, by decide +kernel⟩,
    ⟨0, 8, 72, { run with spr := { run.spr with requests := [{ grp := 0, mem := 8, evac := false }] } }, { grp := 0, mem := 8, evac := false : SpareReq }, by decide +kernel⟩⟩

/-- The hypotheses of `Obligations.SpareMaintenance` are met, clause by clause. -/
theorem test_hypotheses_SpareMaintenance :
    (∃ (c : Fin 80) (s : State),
      s.role c = roleTesting) ∧
    (∃ (g : Fin 8) (s : State) (b : Nat) (p : Line),
      s.inService = true ∧ s.pwr.phase = .awake ∧ s.populated g = true ∧ s.hubs[g].verify = false ∧ s.patrolRate ≠ 0 ∧
      s.patrolGroup = some g ∧ s.spr.patGrp = BitVec.ofNat 3 g.val ∧ s.spr.patPos.toNat = b ∧ s.hubs[g].voids = [] ∧
      s.stripeFree g b true = true ∧ b + 1 < s.groupStripes ∧ s.bare g b = false ∧
      (∀ m : Fin 9, ((s.readStripe g b [])[m].stored).isSome = true) ∧
      (p = xorLines ((allMembers.filter fun m => m != parityMember b).map fun m => ((s.readStripe g b [])[m].stored).getD 0)) ∧
      (s.readStripe g b [])[parityMember b] = .got p) ∧
    (∃ (g : Fin 8) (s : State) (b : Nat) (p : Line),
      s.inService = true ∧ s.pwr.phase = .awake ∧ s.populated g = true ∧ s.hubs[g].verify = false ∧ s.patrolRate ≠ 0 ∧
      s.patrolGroup = some g ∧ s.spr.patGrp = BitVec.ofNat 3 g.val ∧ s.spr.patPos.toNat = b ∧ s.hubs[g].voids = [] ∧
      s.stripeFree g b true = true ∧ b + 1 < s.groupStripes ∧ s.bare g b = false ∧
      (∀ m : Fin 9, ((s.readStripe g b [])[m].stored).isSome = true) ∧
      (p = xorLines ((allMembers.filter fun m => m != parityMember b).map fun m => ((s.readStripe g b [])[m].stored).getD 0)) ∧
      (s.readStripe g b [])[parityMember b] ≠ .got p) ∧
    (∃ (g : Fin 8) (s : State),
      s.inService = true ∧ s.pwr.phase = .awake ∧ s.populated g = true ∧ s.hubs[g].verify = true) ∧
    (∃ (s : State),
      s.pageLive pageSpr = true ∧ s.inService = true) ∧
    (∃ (s : State) (c : Instr),
      s.pageLive pageSpr = true ∧ s.inService = false ∧ (c = .clrLoss ∨ c = .sprClrCounters)) :=
  ⟨⟨79, runSlice 79 fun x => { x with health := { x.health with role := roleTesting } }, by decide +kernel⟩,
    ⟨0, { ((allMembers).foldl (fun (s : State) (m : Fin 9) => s.putStrip (homeSlice 0 m) 3 0 (checkWord 0 m 3 0)) (runWith [(0xD, 0x044, 0x10)])) with spr := { run.spr with patPos := 3 } }, 3, (0 : Line), by decide +kernel⟩,
    ⟨0, { ((allMembers).foldl (fun (s : State) (m : Fin 9) => s.putStrip (homeSlice 0 m) 3 0 (checkWord 0 m 3 0)) (runWith [(0xD, 0x044, 0x10)])).putStrip (homeSlice 0 0) 3 1 (checkWord 0 0 3 1) with spr := { run.spr with patPos := 3 } }, 3, (1 : Line), by decide +kernel⟩,
    ⟨0, run.modHub 0 fun x => { x with verify := true }, by decide +kernel⟩,
    ⟨runSlice 79 fun x => { x with health := { x.health with role := roleTesting } }, by decide +kernel⟩,
    ⟨{ run with mode := { run.mode with mode := .bringUp } }, .clrLoss, by decide +kernel⟩⟩

/-- The hypotheses of `Obligations.SupplyCommands` are met, clause by clause. -/
theorem test_hypotheses_SupplyCommands :
    (∃ (s : State),
      s.ao.onVbk = false) ∧
    (∃ (s : State),
      (s.ao.lpMode = false ∨ s.mode.refWait = true)) ∧
    (∃ (s : State),
      s.mode.mode ≠ .holdUp) ∧
    (∃ (s : State),
      s.mode.mode = .holdUp) ∧
    (∃ (s : State),
      s.pageLive pagePwr = true) :=
  ⟨⟨run, by decide +kernel⟩,
    ⟨run, by decide +kernel⟩,
    ⟨run, by decide +kernel⟩,
    ⟨{ run with mode := { run.mode with mode := .holdUp } }, by decide +kernel⟩,
    ⟨run, by decide +kernel⟩⟩

/-- The hypotheses of `Obligations.SleepVote` are met, clause by clause. -/
theorem test_hypotheses_SleepVote :
    (∃ (s : State),
      s.pageLive pagePwr = true ∧ s.pwr.phase = .awake ∧ s.cfgField pagePwr 0x044 1 0 ≠ 0) ∧
    (∃ (s : State),
      s.pageLive pagePwr = true ∧ s.pwr.phase = .awake ∧ s.cfgField pagePwr 0x044 1 0 = 0) ∧
    (∃ (s : State),
      s.pageLive pagePwr = true ∧ s.pwr.phase ∈ [.prepare1, .prepare2, .rollback]) ∧
    (∃ (s : State),
      s.pins.pwrReq = false ∧ s.pwr.phase = .awake ∧ s.pwr.coreOn = true) ∧
    (∃ (s : State),
      s.pins.pwrReq = true ∧ s.pwr.phase = .awake) ∧
    (∃ (s : State),
      s.cfgField pagePwr 0x040 31 24 ≠ 0 ∧ s.inService = true ∧ s.pwr.phase = .awake ∧ s.busyBanks = 0 ∧ s.squall.active = false) ∧
    (∃ (d : Fin 100) (s : State),
      (s.pwr.phase = .prepare1 ∨ s.pwr.phase = .prepare2) ∧ s.pwr.asked.getLsbD d = true ∧ s.refusal d = none ∧
      s.pwr.asked &&& ~~~(1#100 <<< d.val) ≠ 0) ∧
    (∃ (d : Fin 100) (s : State),
      (s.pwr.phase = .prepare1 ∨ s.pwr.phase = .prepare2) ∧ s.pwr.asked.getLsbD d = true ∧ s.pwr.phase = .prepare2 ∧ s.refusal d = none ∧
      s.pwr.asked &&& ~~~(1#100 <<< d.val) = 0 ∧ s.pwr.target ≠ 3) ∧
    (∃ (d : Fin 100) (s : State) (why : _),
      (s.pwr.phase = .prepare1 ∨ s.pwr.phase = .prepare2) ∧ s.pwr.asked.getLsbD d = true ∧ s.refusal d = some why) ∧
    (∃ (s : State),
      s.pwr.phase = .rollback ∧ s.pwr.vetoBy ≠ 0x7F ∧ s.pwr.warmNext = false ∧ s.pwr.after = none ∧ s.pwr.reqWaits = false) :=
  ⟨⟨runWith [(1, 0x044, 3), (1, 0x040, 0xFF000000)], by decide +kernel⟩,
    ⟨{ run with pins := { run.pins with pwrReq := true } }, by decide +kernel⟩,
    ⟨voting .prepare1 3 (3#100 <<< 88), by decide +kernel⟩,
    ⟨runWith [(1, 0x044, 3), (1, 0x040, 0xFF000000)], by decide +kernel⟩,
    ⟨{ run with pins := { run.pins with pwrReq := true } }, by decide +kernel⟩,
    ⟨runWith [(1, 0x044, 3), (1, 0x040, 0xFF000000)], by decide +kernel⟩,
    ⟨88, voting .prepare1 3 (3#100 <<< 88), by decide +kernel⟩,
    ⟨99, voting .prepare2 2 (1#100 <<< 99), by decide +kernel⟩,
    ⟨99, { voting .prepare1 3 (1#100 <<< 99) with ao := { run.ao with vbkLow := true } }, 9, by decide +kernel⟩,
    ⟨{ run with pwr := { run.pwr with phase := .rollback, vetoBy := 99, vetoWhy := 9 } }, by decide +kernel⟩⟩

/-- The hypotheses of `Obligations.SleepSteps` are met, clause by clause. -/
theorem test_hypotheses_SleepSteps :
    (∃ (s : State),
      s.pwr.phase = .entering ∧ s.slicesQuiet = true ∧ s.pwr.wakeSoon = 0 ∧ s.pwr.reqWaits = false) ∧
    (∃ (s : State),
      s.pwr.phase = .waking ∧ s.regs.napHeld = []) ∧
    (∃ (s : State),
      s.pwr.phase = .waking ∧ s.membersAwake = true ∧ s.pwr.warmNext = false ∧ s.pwr.after = none ∧ s.pwr.reqWaits = false) :=
  ⟨⟨{ run with pwr := { run.pwr with phase := .entering, asleep := 1 } }, by decide +kernel⟩,
    ⟨{ run with pwr := { run.pwr with phase := .waking, asleep := 2 } }, by decide +kernel⟩,
    ⟨{ run with pwr := { run.pwr with phase := .waking, asleep := 2 } }, by decide +kernel⟩⟩

/-- The hypotheses of `Obligations.SleepVoteRefusals` are met, clause by clause. -/
theorem test_hypotheses_SleepVoteRefusals :
    (∃ (s : State),
      s.pwr.target = 3) ∧
    (∃ (s : State) (d : Fin 100) (why : _),
      d.val ∈ [89, 95, 96] ∧ (s.pwr.phase = .prepare1 ∨ s.pwr.phase = .prepare2) ∧ s.pwr.asked.getLsbD d = true ∧ s.refusal d = some why) ∧
    (∃ (s : State) (d : Fin 100),
      d.val ∈ [89, 95, 96] ∧ (s.pwr.phase = .prepare1 ∨ s.pwr.phase = .prepare2) ∧ s.pwr.asked.getLsbD d = true ∧ s.refusal d = none) :=
  ⟨⟨{ voting .prepare1 3 (1#100 <<< 89) with ledger := { Ledger.reset with groups := [(7, { st := .committing, entries := 0, inflight := 0 })] } }, by decide +kernel⟩,
    ⟨{ voting .prepare1 3 (1#100 <<< 89) with ledger := { Ledger.reset with groups := [(7, { st := .committing, entries := 0, inflight := 0 })] } }, 89, 4, by decide +kernel⟩,
    ⟨{ voting .prepare1 1 (3#100 <<< 95) with ingest := run.ingest.set 7 { Ingest.reset with enWanted := true } }, 95, by decide +kernel⟩⟩

/-- The hypotheses of `Obligations.HoldUpEntry` are met, clause by clause. -/
theorem test_hypotheses_HoldUpEntry :
    (∃ (s : State),
      s.pins.mainPg = true ∧ s.mode.coldLow = false ∧ s.mode.mode ≠ .holdUp ∧ s.mode.mode ≠ .retention) :=
  ⟨run, by decide +kernel⟩

/-- The hypotheses of `Obligations.SquallSteps` are met, clause by clause. -/
theorem test_hypotheses_SquallSteps :
    (∃ (s : State),
      s.mode.mode = .holdUp ∧ s.squall.drained = false ∧ (s.squall.limit = true ∨ ∀ r ∈ s.reqs, r.isDone = true ∨ r.dropped = true)) ∧
    (∃ (s : State),
      s.fab.wrst = false ∧ s.saveReady = true) ∧
    (∃ (c : Fin 80) (s : State),
      s.fab.wrst = false ∧ s.mayRetain c = true) ∧
    (∃ (s : State),
      s.squall.active = true ∧ s.squall.todo = 0 ∧ s.squall.drained = true ∧ (s.squall.headers = true ∨ s.squall.save = false) ∧
      s.squall.cause = 3) ∧
    (∃ (s : State),
      s.squall.active = true ∧ s.squall.todo = 0 ∧ s.squall.drained = true ∧ (s.squall.headers = true ∨ s.squall.save = false) ∧
      s.squall.cause ≠ 3 ∧ s.squall.cause ≠ 4 ∧ s.squall.rose = false) ∧
    (∃ (s : State),
      s.mode.mode = .holdUp ∧ s.squall.active = true ∧ s.squall.token = false ∧ s.mayTake = true) :=
  ⟨⟨{ run with mode := { run.mode with mode := .holdUp }, squall := { Squall.reset with active := true, cause := 1, save := true } }, by decide +kernel⟩,
    ⟨{ run with mode := { run.mode with mode := .holdUp }, squall := { Squall.reset with active := true, cause := 1, save := true, token := true, drained := true, todo := 1#80 <<< 79 } }, by decide +kernel⟩,
    ⟨79, { run with mode := { run.mode with mode := .holdUp }, squall := { Squall.reset with active := true, cause := 1, save := true, headers := true, token := true, drained := true, todo := 1#80 <<< 79 } }, by decide +kernel⟩,
    ⟨{ run with squall := { Squall.reset with active := true, cause := 3, drained := true } }, by decide +kernel⟩,
    ⟨{ run with mode := { run.mode with mode := .holdUp }, squall := { Squall.reset with active := true, cause := 1, save := true, headers := true, drained := true } }, by decide +kernel⟩,
    ⟨{ run with mode := { run.mode with mode := .holdUp }, squall := { Squall.reset with active := true, cause := 1, save := true } }, by decide +kernel⟩⟩

/-- The hypotheses of `Obligations.BringupSteps` are met, clause by clause. -/
theorem test_hypotheses_BringupSteps :
    (∃ (s : State),
      s.pins.mainPg = false ∧ s.mode.mode = .retention) ∧
    (∃ (s : State),
      s.mode.refWait = true ∧ s.mode.mode = .bringUp) ∧
    (∃ (s : State),
      s.bringsUp = true ∧ s.mode.ucodeOk = false ∧ s.mode.buKind ≠ .cold ∧
      (s.mode.buKind = .coldInit → (allSlices.any fun d => s.wanted d && s.slices[d].power == .off) = false)) ∧
    (∃ (s : State),
      s.bringsUp = true ∧ s.mode.ucodeOk = false ∧ s.mode.buKind = .cold ∧ s.allSigned = false) ∧
    (∃ (s : State),
      s.bringsUp = true ∧ s.mode.ucodeOk = false ∧ s.mode.buKind = .cold ∧ s.allSigned = true) ∧
    (∃ (s : State),
      s.bringsUp = true ∧ s.mode.memRstLow = true) ∧
    (∃ (c : Fin 80) (dev : Readback) (s : State),
      s.trainDue c = true ∧ dev.ranks ≠ 0 ∧ refuseCode dev = 0 ∧ capHalves s.cap ≤ dev.ranks.toNat * densHalves dev.dens) ∧
    (∃ (c : Fin 80) (dev : Readback) (s : State),
      s.trainDue c = true ∧ dev.ranks ≠ 0 ∧ refuseCode dev ≠ 0) ∧
    (∃ (c : Fin 80) (s : State),
      s.exitTurn c = true ∧ s.mode.mode = .holdUp) ∧
    (∃ (c : Fin 80) (s : State),
      s.exitTurn c = true ∧ s.mode.mode ≠ .holdUp ∧ (s.mode.mode = .bringUp → s.isShort c = false)) ∧
    (∃ (c : Fin 80) (s : State),
      s.exitTurn c = true ∧ s.mode.mode = .bringUp ∧ s.isShort c = true) :=
  ⟨⟨{ run with mode := { run.mode with mode := .retention }, pins := { run.pins with mainPg := false } }, by decide +kernel⟩,
    ⟨{ run with mode := { run.mode with mode := .bringUp, refWait := true } }, by decide +kernel⟩,
    ⟨{ run with mode := { run.mode with mode := .bringUp, ucodeOk := false, buKind := .warm } }, by decide +kernel⟩,
    ⟨{ run with mode := { run.mode with mode := .bringUp, ucodeOk := false } }, by decide +kernel⟩,
    ⟨{ run with mode := { run.mode with mode := .bringUp, ucodeOk := false }, slices := Vector.ofFn fun c => { sl c.val with power := .selfRefresh, sig := some (run.firstSignature c) } }, by decide +kernel⟩,
    ⟨{ run with mode := { run.mode with mode := .bringUp, memRstLow := true } }, by decide +kernel⟩,
    ⟨79, { mfr := 0, rev := 0, dens := 4, ranks := 2, x8 := false, lecc := false, unequal := false, no5x := false, disagree := false : Readback }, { runSlice 79 fun x => { x with train := { x.train with st := 0 } } with mode := { run.mode with mode := .bringUp } }, by decide +kernel⟩,
    ⟨79, { mfr := 0, rev := 0, dens := 4, ranks := 2, x8 := true, lecc := false, unequal := false, no5x := false, disagree := false : Readback }, { runSlice 79 fun x => { x with train := { x.train with st := 0 } } with mode := { run.mode with mode := .bringUp } }, by decide +kernel⟩,
    ⟨0, { runSlice 0 fun x => { x with power := .selfRefresh, ranks := 2, dens := 4, train := { x.train with st := 0 } } with mode := { run.mode with mode := .holdUp }, squall := { Squall.reset with active := true, cause := 1, save := true, todo := 1 } }, by decide +kernel⟩,
    ⟨0, { runSlice 0 fun x => { x with power := .selfRefresh, ranks := 2, dens := 4, train := { x.train with st := 0 } } with mode := { run.mode with mode := .bringUp, buKind := .resume } }, by decide +kernel⟩,
    ⟨0, { runSlice 0 fun x => { x with power := .selfRefresh, ranks := 0, dens := 4, train := { x.train with st := 0 } } with mode := { run.mode with mode := .bringUp, buKind := .resume } }, by decide +kernel⟩⟩

/-- The hypotheses of `Obligations.BringupEnds` are met, clause by clause. -/
theorem test_hypotheses_BringupEnds :
    (∃ (s : State),
      s.bringsUp = true ∧ s.mode.ucodeOk = true ∧ s.mode.memRstLow = false ∧ allSlices.all s.settled = true ∧
      (s.restoreAll s.keepPick).someGroup = true ∧ s.patchAgain s.keepPick = 0) ∧
    (∃ (s : State),
      s.bringsUp = true ∧ s.mode.ucodeOk = true ∧ s.mode.memRstLow = false ∧ allSlices.all s.settled = true ∧
      (s.restoreAll s.keepPick).someGroup = false) ∧
    (∃ (s : State),
      s.bringsUp = true ∧ s.mode.ucodeOk = true ∧ s.mode.memRstLow = false ∧ allSlices.all s.settled = true ∧
      (s.restoreAll s.keepPick).someGroup = true ∧ s.patchAgain s.keepPick ≠ 0) :=
  ⟨⟨bringing, by decide +kernel, by decide +kernel, by decide +kernel, by decide +kernel, bringing_someGroup, by decide +kernel⟩,
    ⟨bringingNone, by decide +kernel, by decide +kernel, by decide +kernel, by decide +kernel, bringingNone_someGroup⟩,
    ⟨bringingPatch, by decide +kernel, by decide +kernel, by decide +kernel, by decide +kernel, bringingPatch_someGroup, bringingPatch_again⟩⟩

/-- The hypotheses of `Obligations.ResetCommands` are met, clause by clause. -/
theorem test_hypotheses_ResetCommands :
    (∃ (s : State),
      s.pins.coldRstN = false ∧ s.mode.coldLow = true ∧ s.pins.mainPg = true) ∧
    (∃ (s : State),
      s.mode.coldLow = false ∧ s.inService = true ∧ s.fab.wrst = false ∧ s.pwr.phase = .awake) ∧
    (∃ (s : State),
      (s.mode.mode = .holdUp ∨ s.mode.mode = .retention)) ∧
    (∃ (s : State),
      s.fab.wrst = true) :=
  ⟨⟨{ run with pins := { run.pins with coldRstN := false }, mode := { run.mode with coldLow := true } }, by decide +kernel⟩,
    ⟨run, by decide +kernel⟩,
    ⟨{ run with mode := { run.mode with mode := .retention }, fab := { run.fab with wrst := true } }, by decide +kernel⟩,
    ⟨{ run with mode := { run.mode with mode := .retention }, fab := { run.fab with wrst := true } }, by decide +kernel⟩⟩

/-- The hypotheses of `Obligations.BreezeFrames` are met, clause by clause. -/
theorem test_hypotheses_BreezeFrames :
    (∃ (dest : Byte) (src : Byte) (cmd : Byte) (b : Byte) (payload : List Byte) (s : State),
      s.brz.joined = true ∧ payload.length ≤ 16 ∧ crcFrame ([dest, src, cmd, BitVec.ofNat 8 payload.length] ++ payload) ≠ b) ∧
    (∃ (src : Byte) (payload : List Byte) (s : State),
      s.brz.joined = true ∧ payload.length ≤ 16 ∧ src ≠ s.brzOwn ∧ s.brz.replies.length < 4) ∧
    (∃ (src : Byte) (payload : List Byte) (s : State),
      s.brz.joined = true ∧ payload.length ≤ 16 ∧ src ≠ s.brzOwn ∧ 4 ≤ s.brz.replies.length) ∧
    (∃ (src : Byte) (payload : List Byte) (s : State),
      s.brz.joined = true ∧ payload.length ≤ 16 ∧ src ≠ s.brzOwn ∧ s.mode.mode ≠ .retention ∧ s.pwr.phase = .asleep) ∧
    (∃ (src : Byte) (payload : List Byte) (s : State),
      s.brz.joined = true ∧ payload.length ≤ 16 ∧ src ≠ s.brzOwn ∧ s.brzPeer src = true) ∧
    (∃ (src : Byte) (payload : List Byte) (s : State),
      s.brz.joined = true ∧ payload.length ≤ 16 ∧ src ≠ s.brzOwn ∧ s.brz.rxValid = false ∧ payload.length = 4) :=
  ⟨⟨(2 : Byte), (5 : Byte), brzPing, (0 : Byte), ([1, 2] : List Byte), run, by decide +kernel⟩,
    ⟨(5 : Byte), ([1, 2] : List Byte), run, by decide +kernel⟩,
    ⟨(5 : Byte), ([1, 2, 3, 4] : List Byte), { run with brz := { run.brz with peers := 0x20, replies := [[], [], [], []] }, pwr := { run.pwr with phase := .asleep } }, by decide +kernel⟩,
    ⟨(5 : Byte), ([1, 2, 3, 4] : List Byte), { run with brz := { run.brz with peers := 0x20, replies := [[], [], [], []] }, pwr := { run.pwr with phase := .asleep } }, by decide +kernel⟩,
    ⟨(5 : Byte), ([1, 2, 3, 4] : List Byte), { run with brz := { run.brz with peers := 0x20, replies := [[], [], [], []] }, pwr := { run.pwr with phase := .asleep } }, by decide +kernel⟩,
    ⟨(5 : Byte), ([1, 2, 3, 4] : List Byte), { run with brz := { run.brz with peers := 0x20, replies := [[], [], [], []] }, pwr := { run.pwr with phase := .asleep } }, by decide +kernel⟩⟩

/-- The hypotheses of `Obligations.BreezeSender` are met, clause by clause. -/
theorem test_hypotheses_BreezeSender :
    (∃ (s : State),
      s.pins.aoValid = true ∧ s.brz.joined = true) ∧
    (∃ (s : State),
      s.pageLive pageBrz = true ∧ (((s.stored pageBrz 0x054).extractLsb' 16 8 : Byte)) ∈ [brzPing, brzStatus, brzWake] ∧
      s.brz.txHost = none) ∧
    (∃ (s : State),
      s.pageLive pageBrz = true ∧ (((s.stored pageBrz 0x054).extractLsb' 16 8 : Byte)) ∈ [brzPing, brzStatus, brzWake] ∧
      s.brz.txHost.isSome = true) ∧
    (∃ (s : State),
      s.pageLive pageBrz = true ∧ (((s.stored pageBrz 0x054).extractLsb' 16 8 : Byte)) ∉ [brzPing, brzStatus, brzWake]) ∧
    (∃ (k : TxKind) (s : State),
      s.brz.joined = true ∧ s.txNext = some k ∧ s.brz.retries[k.order] < s.brzRetry) ∧
    (∃ (k : TxKind) (s : State),
      s.brz.joined = true ∧ s.txNext = some k ∧ s.brzRetry ≤ s.brz.retries[k.order]) ∧
    (∃ (k : TxKind) (rivals : List (Byte × Byte)) (s : State),
      s.brz.joined = true ∧ s.txNext = some k ∧ s.brz.stuck = false ∧ s.brz.busy = false ∧
      (∃ r ∈ rivals, headerRank r.1 r.2 < frameRank (s.txFrame k))) ∧
    (∃ (k : TxKind) (rivals : List (Byte × Byte)) (collision : Bool) (s : State),
      s.brz.joined = true ∧ s.txNext = some k ∧ s.brz.stuck = false ∧ s.brz.busy = false ∧
      (∀ r ∈ rivals, frameRank (s.txFrame k) ≤ headerRank r.1 r.2) ∧ collision = true ∧
      (∃ r ∈ rivals, headerRank r.1 r.2 = frameRank (s.txFrame k))) ∧
    (∃ (k : TxKind) (rivals : List (Byte × Byte)) (collision : Bool) (s : State),
      s.brz.joined = true ∧ s.txNext = some k ∧ s.brz.stuck = false ∧ s.brz.busy = false ∧
      (∀ r ∈ rivals, frameRank (s.txFrame k) ≤ headerRank r.1 r.2) ∧ collision = false) :=
  ⟨⟨{ runWith [(2, 0x054, 0x00010000)] with brz := { run.brz with replies := [[1, 2]] } }, by decide +kernel⟩,
    ⟨run.store pageBrz 0x054 0x00010000, by decide +kernel⟩,
    ⟨{ run.store pageBrz 0x054 0x00010000 with brz := { run.brz with txHost := some [1] } }, by decide +kernel⟩,
    ⟨run.store pageBrz 0x054 0x00FF0000, by decide +kernel⟩,
    ⟨TxKind.reply, { runWith [(2, 0x054, 0x00010000)] with brz := { run.brz with replies := [[1, 2]] } }, by decide +kernel⟩,
    ⟨TxKind.host, { runWith [(2, 0x054, 0)] with brz := { run.brz with txHost := some [1, 2], retries := Vector.replicate 5 3 } }, by decide +kernel⟩,
    ⟨.reply, [(0, 0)], { run with brz := { run.brz with replies := [[1, 2]] } }, by decide +kernel, by decide +kernel, by decide +kernel, by decide +kernel, ⟨(0, 0), List.mem_singleton.mpr rfl, by
      rw [show frameRank (State.txFrame { run with brz := { run.brz with replies := [[1, 2]] } } .reply) = 258 from rfl, show headerRank 0 0 = 0 from rfl]; decide⟩⟩,
    ⟨.host, [(1, 2)], true, { run with brz := { run.brz with txHost := some [1, 2] } }, by decide +kernel, by decide +kernel, by decide +kernel, by decide +kernel, fun r hr => by rw [List.mem_singleton.mp hr]; exact Nat.le_of_eq rfl, rfl, ⟨(1, 2), List.mem_singleton.mpr rfl, rfl⟩⟩,
    ⟨.host, [], false, { run with brz := { run.brz with txHost := some [1, 2] } }, by decide +kernel, by decide +kernel, by decide +kernel, by decide +kernel, fun r hr => absurd hr List.not_mem_nil, rfl⟩⟩

/-- The hypotheses of `Obligations.RegisterWriteEffects` are met, clause by clause. -/
theorem test_hypotheses_RegisterWriteEffects :
    (∃ (a : Access) (s : State),
      s.portOpen = true ∧ s.mode.mode ≠ .holdUp ∧ s.pageThere (pageOf a.addr) = false) ∧
    (∃ (a : Access) (s : State),
      s.portOpen = true ∧ s.mode.mode ≠ .holdUp ∧ s.pageThere (pageOf a.addr) = true ∧ secureOnly a = true) ∧
    (∃ (a : Access) (s : State),
      s.portOpen = true ∧ s.mode.mode ≠ .holdUp ∧ s.pageThere (pageOf a.addr) = true ∧ a.secure = true ∧ isAligned a = false ∧
      (s.header (pageOf a.addr)).accessErr = false) ∧
    (∃ (a : Access) (s : State) (r : RegSpec),
      s.portOpen = true ∧ s.mode.mode ≠ .holdUp ∧ regSpec (pageOf a.addr) (addrOfs a.addr) = some r ∧
      (pageKind (pageOf a.addr)).isSome = true ∧ s.pageThere (pageOf a.addr) = true ∧ s.pageSafe (pageOf a.addr) = false ∧
      s.sliceNaps (pageOf a.addr) = false ∧ a.secure = true ∧ isAligned a = true ∧ a.size = 2 ∧ s.regs.seq.held = false ∧
      0x040 ≤ addrOfs a.addr ∧ addrOfs a.addr < 0x400 ∧ r.rw &&& laneMask a.addr a.size ≠ 0 ∧ r.w1 = 0 ∧
      (s.regs.locked = true → r.lk = 0) ∧ r.lo = false ∧ r.hi = false ∧ ¬(pageOf a.addr = pageSec ∧ 0x100 ≤ addrOfs a.addr) ∧
      ¬(pageOf a.addr = pageGlb ∧ addrOfs a.addr = 0x058) ∧ r.ap = .imm ∧ pageOf a.addr ∉ [pageGlb, pageBrz, pageErr, pageTel] ∧
      ¬(0x20 ≤ pageOf a.addr ∧ pageOf a.addr < 0x28)) ∧
    (∃ (a : Access) (s : State) (r : RegSpec),
      s.portOpen = true ∧ s.mode.mode ≠ .holdUp ∧ regSpec (pageOf a.addr) (addrOfs a.addr) = some r ∧
      (pageKind (pageOf a.addr)).isSome = true ∧ s.pageThere (pageOf a.addr) = true ∧ s.pageSafe (pageOf a.addr) = false ∧
      s.sliceNaps (pageOf a.addr) = false ∧ a.secure = true ∧ isAligned a = true ∧ a.size = 2 ∧ s.regs.seq.held = false ∧
      0x040 ≤ addrOfs a.addr ∧ addrOfs a.addr < 0x400 ∧ r.rw &&& laneMask a.addr a.size ≠ 0 ∧ r.w1 = 0 ∧
      (s.regs.locked = true → r.lk = 0) ∧ r.lo = false ∧ r.hi = false ∧ ¬(pageOf a.addr = pageSec ∧ 0x100 ≤ addrOfs a.addr) ∧
      ¬(pageOf a.addr = pageGlb ∧ addrOfs a.addr = 0x058) ∧ r.ap = .imm ∧ pageOf a.addr ∈ [pageBrz, pageErr, pageTel] ∧
      ¬(pageOf a.addr = pageBrz ∧ addrOfs a.addr = 0x044)) ∧
    (∃ (a : Access) (s : State) (r : RegSpec),
      s.portOpen = true ∧ s.mode.mode ≠ .holdUp ∧ regSpec (pageOf a.addr) (addrOfs a.addr) = some r ∧
      (pageKind (pageOf a.addr)).isSome = true ∧ s.pageThere (pageOf a.addr) = true ∧ s.pageSafe (pageOf a.addr) = false ∧
      s.sliceNaps (pageOf a.addr) = false ∧ a.secure = true ∧ isAligned a = true ∧ a.size = 2 ∧ s.regs.seq.held = false ∧
      0x040 ≤ addrOfs a.addr ∧ addrOfs a.addr < 0x400 ∧ r.rw &&& laneMask a.addr a.size ≠ 0 ∧ r.w1 = 0 ∧
      (s.regs.locked = true → r.lk = 0) ∧ r.lo = false ∧ r.hi = false ∧ ¬(pageOf a.addr = pageSec ∧ 0x100 ≤ addrOfs a.addr) ∧
      ¬(pageOf a.addr = pageGlb ∧ addrOfs a.addr = 0x058) ∧ r.ap ≠ .imm) :=
  ⟨⟨{ addr := 0xFF000, size := 2, wdata := 0, secure := true, reqid := 0 : Access }, run, by decide +kernel⟩,
    ⟨{ addr := 0x03040, size := 2, wdata := 0, secure := false, reqid := 0 : Access }, run, by decide +kernel⟩,
    ⟨{ addr := 0x01042, size := 2, wdata := 0, secure := true, reqid := 0 : Access }, run, by decide +kernel⟩,
    ⟨{ addr := 0x01050, size := 2, wdata := 1, secure := true, reqid := 0 : Access }, run, ((regSpec 1 0x050).getD noSpec), by decide +kernel⟩,
    ⟨{ addr := 0x05040, size := 2, wdata := 0, secure := true, reqid := 0 }, run, (regSpec 5 0x040).getD noSpec, by decide +kernel⟩,
    ⟨{ addr := 0x10040, size := 2, wdata := 1, secure := true, reqid := 0 : Access }, run, ((regSpec 0x10 0x040).getD noSpec), by decide +kernel⟩⟩

/-- The hypotheses of `Obligations.RegisterReadEffects` are met, clause by clause. -/
theorem test_hypotheses_RegisterReadEffects :
    (∃ (a : Access) (s : State),
      s.portOpen = true ∧ s.pageThere (pageOf a.addr) = false) ∧
    (∃ (a : Access) (s : State),
      s.portOpen = true ∧ s.pageThere (pageOf a.addr) = true ∧ a.secure = true ∧ isAligned a = true ∧ a.size.toNat < 3 ∧
      (∀ r, regSpec (pageOf a.addr) (addrOfs a.addr) = some r → r.pop = false)) ∧
    (∃ (a : Access) (s : State),
      s.portOpen = true ∧ s.pageThere (pageOf a.addr) = true ∧ a.secure = true ∧ isAligned a = true ∧ a.size.toNat < 3 ∧
      hasParity (pageOf a.addr) (addrOfs a.addr) = true) ∧
    (∃ (page : BitVec 8) (s : State),
      s.pageOn page.toNat = true ∧ s.unitIdle page.toNat = true) ∧
    (∃ (page : BitVec 8) (ofs : BitVec 10) (s : State),
      s.pageThere page.toNat = true ∧ hasParity page.toNat (addrOfs (BitVec.ofNat 20 (page.toNat * 4096 + ofs.toNat))) = true) :=
  ⟨⟨{ addr := 0xFF000, size := 2, wdata := 0, secure := true, reqid := 0 : Access }, run, by decide +kernel⟩,
    ⟨{ addr := 0x01050, size := 2, wdata := 0, secure := true, reqid := 0 : Access }, run, by decide +kernel⟩,
    ⟨{ addr := 0x01050, size := 2, wdata := 0, secure := true, reqid := 0 : Access }, run, by decide +kernel⟩,
    ⟨(0x10 : BitVec 8), run, by decide +kernel⟩,
    ⟨(0x10 : BitVec 8), (0x040 : BitVec 10), run, by decide +kernel⟩⟩

/-- The hypotheses of `Obligations.HeaderCommands` are met, clause by clause. -/
theorem test_hypotheses_HeaderCommands :
    (∃ (page : BitVec 8) (s : State),
      s.pageLive page.toNat = true ∧ page.toNat = pageGlb ∧ s.regs.seq.held = false) :=
  ⟨(0 : BitVec 8), run, by decide +kernel⟩

/-- The hypotheses of `Obligations.SequenceLock` are met, clause by clause. -/
theorem test_hypotheses_SequenceLock :
    (∃ (s : State),
      s.pageLive pageGlb = true ∧ s.leaseOver = false ∧ s.regs.seq.held = false) ∧
    (∃ (id : BitVec 5) (s : State),
      s.pageLive pageGlb = true ∧ s.leaseOver = false ∧ s.regs.seq.held = true ∧ s.regs.seq.owner = ownerId id ∧
      s.regs.seq.overflow = true) ∧
    (∃ (id : BitVec 5) (s : State),
      s.pageLive pageGlb = true ∧ s.leaseOver = false ∧ s.regs.seq.held = true ∧ s.regs.seq.owner = ownerId id ∧
      s.regs.seq.overflow = false) ∧
    (∃ (id : BitVec 5) (s : State),
      s.pageLive pageGlb = true ∧ s.leaseOver = false ∧ s.regs.seq.held = true ∧ s.regs.seq.owner ≠ ownerId id) ∧
    (∃ (a : Access) (r : RegSpec) (s : State),
      s.regs.seq.held = true ∧ s.leaseOver = false ∧ regSpec (pageOf a.addr) (addrOfs a.addr) = some r ∧ r.rw ≠ 0 ∧
      ¬(pageOf a.addr = pageGlb ∧ addrOfs a.addr = 0x058) ∧ s.regs.seq.owner = ownerId a.reqid ∧ s.regs.seq.staged.length < 64) ∧
    (∃ (a : Access) (r : RegSpec) (s : State),
      s.regs.seq.held = true ∧ s.leaseOver = false ∧ regSpec (pageOf a.addr) (addrOfs a.addr) = some r ∧ r.rw ≠ 0 ∧
      ¬(pageOf a.addr = pageGlb ∧ addrOfs a.addr = 0x058) ∧ s.regs.seq.owner = ownerId a.reqid ∧ 64 ≤ s.regs.seq.staged.length) ∧
    (∃ (a : Access) (r : RegSpec) (s : State),
      s.regs.seq.held = true ∧ s.leaseOver = false ∧ regSpec (pageOf a.addr) (addrOfs a.addr) = some r ∧ r.rw ≠ 0 ∧
      ¬(pageOf a.addr = pageGlb ∧ addrOfs a.addr = 0x058) ∧ s.regs.seq.owner ≠ ownerId a.reqid) ∧
    (∃ (s : State) (n : Fin 8) (c : Instr) (p : Nat) (o : Nat) (w : Reg),
      s.regs.seq.held = true ∧ s.leaseOver = false ∧ s.regs.seq.staged.length < 64 ∧
      (c, p, o, w) ∈ [(Instr.glbLock, pageGlb, 0x054, (1 : Reg)), (.ingEnable n, pageIng n, 0x044, 1), (.ingDisable n, pageIng n, 0x044, 0)] ∧
      s.pageLive p = true) ∧
    (∃ (s : State) (n : Fin 8),
      s.regs.seq.held = true ∧ s.leaseOver = false ∧ s.regs.seq.staged.length < 63 ∧ s.pageLive (pageIng n) = true) ∧
    (∃ (s : State),
      s.leaseOver = true) :=
  ⟨⟨run, by decide +kernel⟩,
    ⟨7, { run with regs := { run.regs with seq := { run.regs.seq with held := true, owner := ownerId 7, overflow := true } } }, by decide +kernel⟩,
    ⟨(4 : BitVec 5), { run with regs := { run.regs with seq := { SeqLock.reset with held := true, owner := 4 } } }, by decide +kernel⟩,
    ⟨(5 : BitVec 5), { run with regs := { run.regs with seq := { SeqLock.reset with held := true, owner := 4, overflow := true, staged := List.replicate 64 { addr := 0, size := 2, wdata := 0, secure := true, reqid := 4 } } } }, by decide +kernel⟩,
    ⟨{ addr := 0x20044, size := 2, wdata := 1, secure := true, reqid := 7 }, (regSpec 0x20 0x044).getD { ofs := 0 }, { run with regs := { run.regs with seq := { run.regs.seq with held := true, owner := ownerId 7 } } }, by decide +kernel⟩,
    ⟨{ addr := 0x20044, size := 2, wdata := 1, secure := true, reqid := 7 }, (regSpec 0x20 0x044).getD { ofs := 0 }, { run with regs := { run.regs with seq := { run.regs.seq with held := true, owner := ownerId 7, staged := List.replicate 64 { addr := 0x20044, size := 2, wdata := 1, secure := true, reqid := 7 } } } }, by decide +kernel⟩,
    ⟨{ addr := 0x20044, size := 2, wdata := 1, secure := true, reqid := 8 }, (regSpec 0x20 0x044).getD { ofs := 0 }, { run with regs := { run.regs with seq := { run.regs.seq with held := true, owner := ownerId 7 } } }, by decide +kernel⟩,
    ⟨{ run with regs := { run.regs with seq := { run.regs.seq with held := true, owner := ownerId 7 } } }, 7, .ingEnable 7, pageIng 7, 0x044, 1, by decide +kernel⟩,
    ⟨{ run with regs := { run.regs with seq := { SeqLock.reset with held := true, owner := 4 } } }, 0, by decide +kernel⟩,
    ⟨{ run with tb := 100000000000, regs := { run.regs with seq := { run.regs.seq with held := true, owner := ownerId 7 } } }, by decide +kernel⟩⟩

/-- The hypotheses of `Obligations.MailboxRings` are met, clause by clause. -/
theorem test_hypotheses_MailboxRings :
    (∃ (v : Fin 24) (op : Byte) (c : Instr) (s : State),
      s.pageLive (pageVane v) = true ∧ s.parity (pageVane v) = false ∧ s.vanes[v].busy = false ∧
      (c, v, op) ∈ [(Instr.mboxPing v, v, opPing), (Instr.cfgSweep, 23, opSweep), (Instr.patrolRestart, 19, opPatrol)] ∧
      s.opMode op = true) ∧
    (∃ (v : Fin 24) (op : Byte) (s : State),
      s.pageLive (pageVane v) = true ∧ s.parity (pageVane v) = false ∧ s.vanes[v].busy = false ∧ Machine.opListed v op = false) ∧
    (∃ (v : Fin 24) (op : Byte) (c : Instr) (s : State),
      s.pageLive (pageVane v) = true ∧ s.parity (pageVane v) = false ∧ s.vanes[v].busy = false ∧
      (c, v, op) ∈ [(Instr.mboxPing v, v, opPing), (Instr.cfgSweep, 23, opSweep), (Instr.patrolRestart, 19, opPatrol), (Instr.diagExit, 23, opDiagExit)] ∧
      s.opMode op = false) ∧
    (∃ (v : Fin 24) (op : Byte) (c : Instr) (s : State),
      s.pageLive (pageVane v) = true ∧ s.parity (pageVane v) = false ∧ s.vanes[v].busy = true ∧
      (c, v, op) ∈ [(Instr.mboxPing v, v, opPing), (Instr.cfgSweep, 23, opSweep), (Instr.patrolRestart, 19, opPatrol), (Instr.diagEnter, 23, opDiagEnter)]) ∧
    (∃ (v : Fin 24) (s : State),
      s.pageLive (pageVane v) = true ∧ s.parity (pageVane v) = false ∧ s.vanes[v].busy = true ∧ opAbortable s.vanes[v].op = true) :=
  ⟨⟨0, opPing, Instr.mboxPing 0, run, by decide +kernel⟩,
    ⟨0, opPatrol, run, by decide +kernel⟩,
    ⟨23, opDiagExit, .diagExit, run, by decide +kernel⟩,
    ⟨23, opPing, Instr.mboxPing 23, run.modVane 23 fun x => { x with busy := true, op := opBist }, by decide +kernel⟩,
    ⟨23, run.modVane 23 fun x => { x with busy := true, op := opBist }, by decide +kernel⟩⟩

/-- The hypotheses of `Obligations.DiagnosticCommands` are met, clause by clause. -/
theorem test_hypotheses_DiagnosticCommands :
    (∃ (s : State),
      s.pageLive (pageVane 23) = true ∧ s.parity (pageVane 23) = false ∧ s.vanes[(23 : Fin 24)].busy = false ∧ s.diagReason = 0 ∧
      s.fab.wrst = false) ∧
    (∃ (s : State),
      s.pageLive (pageVane 23) = true ∧ s.parity (pageVane 23) = false ∧ s.vanes[(23 : Fin 24)].busy = false ∧ s.diagReason = 0 ∧
      s.fab.wrst = true) ∧
    (∃ (s : State),
      s.pageLive (pageVane 23) = true ∧ s.parity (pageVane 23) = false ∧ s.vanes[(23 : Fin 24)].busy = false ∧ s.diagReason ≠ 0) ∧
    (∃ (s : State),
      s.pageLive (pageVane 23) = true ∧ s.parity (pageVane 23) = false ∧ s.vanes[(23 : Fin 24)].busy = false ∧ s.mode.mode = .diagnostic) ∧
    (∃ (s : State),
      s.pageLive (pageVane 23) = true ∧ s.parity (pageVane 23) = false ∧ s.vanes[(23 : Fin 24)].busy = false ∧ s.mode.mode ≠ .diagnostic) ∧
    (∃ (v : Fin 24) (s : State),
      s.pageLive (pageVane v) = true ∧ s.parity (pageVane v) = false ∧ s.vanes[v].busy = false ∧ v.val < 16 ∧ s.mode.mode ≠ .diagnostic) ∧
    (∃ (v : Fin 24) (slice : BitVec 7) (pat : BitVec 2) (seed : BitVec 16) (first : Reg) (count : Reg) (s : State),
      s.pageLive (pageVane v) = true ∧ s.parity (pageVane v) = false ∧ s.vanes[v].busy = false ∧ v.val < 16 ∧ s.mode.mode = .diagnostic ∧
      s.patternArgs v ((#v[slice.setWidth 32, fld seed.toNat 16 ||| pat.setWidth 32, first, count] : Vector Reg 4)) = true ∧
      Memory.wf s.mem = true) ∧
    (∃ (v : Fin 24) (s : State),
      s.vanes[v].busy = true ∧ s.vanes[v].abortReq = true) ∧
    (∃ (v : Fin 24) (s : State),
      s.vanes[v].busy = true ∧ s.vanes[v].abortReq = false ∧ s.vanes[v].op = opPing) ∧
    (∃ (v : Fin 24) (s : State),
      s.vanes[v].busy = true ∧ s.vanes[v].abortReq = false ∧ s.vanes[v].op = opPattern) ∧
    (∃ (v : Fin 24) (s : State),
      s.vanes[v].busy = true ∧ s.vanes[v].abortReq = false ∧ s.vanes[v].op = opSweep) ∧
    (∃ (v : Fin 24) (s : State),
      s.vanes[v].busy = true ∧ s.vanes[v].abortReq = false ∧ s.vanes[v].op = opBist) ∧
    (∃ (v : Fin 24) (s : State),
      s.vanes[v].busy = true ∧ s.vanes[v].abortReq = false ∧ s.vanes[v].op = opPatrol) ∧
    (∃ (v : Fin 24) (s : State),
      s.vanes[v].busy = true ∧ s.vanes[v].abortReq = false ∧ s.vanes[v].op = opDiagEnter ∧ s.squall.active = true ∧ s.squall.cause = 4 ∧
      s.squall.headers = true ∧ s.mode.mode ≠ .diagnostic) :=
  ⟨⟨run, by decide +kernel⟩,
    ⟨{ run with fab := { run.fab with wrst := true } }, by decide +kernel⟩,
    ⟨{ run with mode := { run.mode with mode := .diagnostic } }, by decide +kernel⟩,
    ⟨{ run with mode := { run.mode with mode := .diagnostic } }, by decide +kernel⟩,
    ⟨run, by decide +kernel⟩,
    ⟨0, run, by decide +kernel⟩,
    ⟨15, 79, 0, 0, 0, 2, { run with mode := { run.mode with mode := .diagnostic } }, by decide +kernel⟩,
    ⟨0, run.modVane 0 fun x => { x with busy := true, abortReq := true }, by decide +kernel⟩,
    ⟨19, run.modVane 19 fun x => { x with busy := true, op := opPing }, by decide +kernel⟩,
    ⟨0, run.modVane 0 fun x => { x with busy := true, op := opPattern }, by decide +kernel⟩,
    ⟨19, run.modVane 19 fun x => { x with busy := true, op := opSweep }, by decide +kernel⟩,
    ⟨19, run.modVane 19 fun x => { x with busy := true, op := opBist }, by decide +kernel⟩,
    ⟨0, run.modVane 0 fun x => { x with busy := true, op := opPatrol }, by decide +kernel⟩,
    ⟨23, { run.modVane 23 fun x => { x with busy := true, op := opDiagEnter } with squall := { Squall.reset with active := true, cause := 4, headers := true } }, by decide +kernel⟩⟩

/-- The hypotheses of `Obligations.DebugPort` are met, clause by clause. -/
theorem test_hypotheses_DebugPort :
    (∃ (s : State) (k : Instr) (op : Nat),
      s.pageLive pageDbg = true ∧ (k, op) ∈ [(Instr.dbgRead, 0), (.dbgWrite, 1), (.directRead, 2), (.directWrite, 3)] ∧
      s.dbgError op ≠ 0) ∧
    (∃ (s : State) (k : Instr) (op : BitVec 4),
      s.pageLive pageDbg = true ∧ (k, op) ∈ [(Instr.dbgRead, opcRead), (.dbgWrite, opcWrite)] ∧ s.dbgError op.toNat = 0) ∧
    (∃ (c : Fin 80) (s : State),
      s.pageLive pageDbg = true ∧ s.dbgSlice = some c ∧ s.dbgError 2 = 0) ∧
    (∃ (c : Fin 80) (s : State),
      s.pageLive pageDbg = true ∧ s.dbgSlice = some c ∧ s.dbgError 3 = 0 ∧ Memory.wf s.mem = true) ∧
    (∃ (s : State),
      s.dbg.busy = true ∧ s.dbg.direct = true) ∧
    (∃ (r : Req) (code : BitVec 4) (s : State),
      s.dbg.busy = true ∧ s.dbg.direct = false ∧ ((s.reqs.find? fun r => r.src == srcDebug) = some r) ∧ r.phase = .done code) :=
  ⟨⟨run, .dbgRead, 0, by decide +kernel⟩,
    ⟨{ runWith [(0xC, 0x040, 0x80000000), (0xC, 0x050, 0x00080000)] with mode := { run.mode with mode := .diagnostic } }, .dbgRead, opcRead, by decide +kernel⟩,
    ⟨79, { runWith [(0xC, 0x040, 0x80000000), (0xC, 0x050, 0x004F0000)] with mode := { run.mode with mode := .diagnostic } }, by decide +kernel⟩,
    ⟨79, { runWith [(0xC, 0x040, 0x80000000), (0xC, 0x050, 0x004F0000)] with mode := { run.mode with mode := .diagnostic } }, by decide +kernel⟩,
    ⟨{ run with dbg := { run.dbg with busy := true, direct := true } }, by decide +kernel⟩,
    ⟨{ req 1 0 opcRead (.done 0) with src := srcDebug }, 0, { runReqs [{ req 1 0 opcRead (.done 0) with src := srcDebug }] with dbg := { Debug.reset with busy := true } }, by decide +kernel⟩⟩

/-- The hypotheses of `Obligations.ErrorCommands` are met, clause by clause. -/
theorem test_hypotheses_ErrorCommands :
    (∃ (s : State),
      s.pageLive pageErr = true) :=
  ⟨run, by decide +kernel⟩

/-- The hypotheses of `Obligations.TelemetryCommands` are met, clause by clause. -/
theorem test_hypotheses_TelemetryCommands :
    (∃ (s : State),
      s.pageLive pageTel = true ∧ s.tel.snapBusy = false) ∧
    (∃ (s : State),
      s.pageLive pageTel = true ∧ s.tel.snapBusy = true) ∧
    (∃ (s : State),
      s.pageLive pageTel = true ∧ s.tel.fill ≠ [] ∧ s.tel.readBank = false) ∧
    (∃ (s : State),
      s.pageLive pageTel = true ∧ s.tel.fill = []) ∧
    (∃ (w : BitVec 32) (rest : List (BitVec 32)) (s : State),
      s.pageOn pageTel = true ∧ s.tel.read = w :: rest ∧ s.tel.closeDue = false) ∧
    (∃ (s : State),
      s.pageOn pageTel = true ∧ s.tel.read = []) ∧
    (∃ (s : State),
      s.cfgField pageTel 0x108 15 0 ≠ 0 ∧ s.tel.fillT.toNat + s.cfgField pageTel 0x108 15 0 * 1000 ≤ s.tb.toNat ∧ s.tel.fill ≠ [] ∧
      s.tel.readBank = false) :=
  ⟨⟨run, by decide +kernel⟩,
    ⟨{ runWith [(6, 0x108, 1)] with tel := { Telemetry.reset with snapBusy := true, fill := [[]] }, tb := 1000 }, by decide +kernel⟩,
    ⟨{ runWith [(6, 0x108, 1)] with tel := { Telemetry.reset with snapBusy := true, fill := [[]] }, tb := 1000 }, by decide +kernel⟩,
    ⟨run, by decide +kernel⟩,
    ⟨(7 : BitVec 32), ([8] : List (BitVec 32)), { run with tel := { Telemetry.reset with read := [7, 8], readBank := true } }, by decide +kernel⟩,
    ⟨run, by decide +kernel⟩,
    ⟨{ runWith [(6, 0x108, 1)] with tel := { Telemetry.reset with snapBusy := true, fill := [[]] }, tb := 1000 }, by decide +kernel⟩⟩

/-- The hypotheses of `Obligations.SlotCounts` are met, clause by clause. -/
theorem test_hypotheses_SlotCounts :
    (∃ (c : Fin 80) (s : State),
      s.sliceClock c = true) ∧
    (∃ (c : Fin 80) (s : State),
      s.sliceClock c = false) :=
  ⟨⟨79, runWith [(6, 0x040, 1)], by decide +kernel⟩,
    ⟨0, State.reset.store 6 0x040 0, by decide +kernel⟩⟩

/-- The hypotheses of `Obligations.OneTimeRow` are met, clause by clause. -/
theorem test_hypotheses_OneTimeRow :
    (∃ (s : State),
      s.pageLive pageOtp = true ∧ s.parity pageOtp = false ∧ s.sec.otpBusy = false ∧ s.cfg pageOtp 0x05C ≠ 0x0000A5C3) ∧
    (∃ (i : Nat) (s : State),
      s.pageLive pageOtp = true ∧ s.parity pageOtp = false ∧ s.sec.otpBusy = false ∧ s.cfg pageOtp 0x05C = 0x0000A5C3 ∧
      s.cfgField pageOtp 0x050 5 0 = i ∧ 2 ≤ i ∧ (i < 12 → s.feature 3 = false) ∧ (s.sec.otp i).st = 0 ∧ s.otpSupplyOk = true) ∧
    (∃ (i : Nat) (s : State),
      s.pageLive pageOtp = true ∧ s.parity pageOtp = false ∧ s.sec.otpBusy = false ∧ s.cfg pageOtp 0x05C = 0x0000A5C3 ∧
      s.cfgField pageOtp 0x050 5 0 = i ∧ 2 ≤ i ∧ (i < 12 → s.feature 3 = false) ∧ (s.sec.otp i).st = 1) ∧
    (∃ (s : State),
      s.sec.otpBusy = true) :=
  ⟨⟨run, by decide +kernel⟩,
    ⟨63, { runWith [(4, 0x05C, 0x0000A5C3), (4, 0x050, 63)] with pwr := { run.pwr with coreMv := 800, pllOk := true } }, by decide +kernel⟩,
    ⟨11, { runWith [(4, 0x05C, 0x0000A5C3), (4, 0x050, 11)] with sec := { Security.reset with words := Security.reset.words.set 11 { OtpWord.blank with begun := true, done := true } } }, by decide +kernel⟩,
    ⟨{ run with sec := { run.sec with otpBusy := true } }, by decide +kernel⟩⟩

/-- The hypotheses of `Obligations.KeysAndPatches` are met, clause by clause. -/
theorem test_hypotheses_KeysAndPatches :
    (∃ (s : State),
      s.pageLive pageSec = true ∧ s.parity pageSec = false ∧ s.sec.cmdBusy = false ∧
      s.sec.rootOk (if s.cfgBit pageSec 0x048 8 then 1 else 0) = true ∧ s.slotInUse s.slotArg = false) ∧
    (∃ (s : State),
      s.pageLive pageSec = true ∧ s.parity pageSec = false ∧ s.sec.cmdBusy = false ∧
      s.sec.rootOk (if s.cfgBit pageSec 0x048 8 then 1 else 0) = false) ∧
    (∃ (s : State) (c : Instr),
      s.pageLive pageSec = true ∧ s.parity pageSec = false ∧ s.sec.cmdBusy = true ∧ c ∈ [Instr.keyDerive, .keyClear, .patchLoad]) ∧
    (∃ (k : Fin 16) (s : State),
      s.sec.deriving_ = some k) ∧
    (∃ (s : State),
      s.sec.loading = true ∧ s.feature 0 = true) ∧
    (∃ (s : State),
      s.sec.loading = true ∧ s.feature 0 = false ∧ s.sec.image = [] ∧ s.inService = true ∧ s.patchBase % 4096 = 0 ∧
      s.lineThere s.patchBase = true ∧ patchLength (imageField (linesBytes [s.vaneLine s.patchBase]) 12 4) = true ∧
      (((List.range (imageField (linesBytes [s.vaneLine s.patchBase]) 12 4 / 64)).all fun j => s.lineThere (s.patchBase + 64 * j)) = true) ∧
      (linesBytes [s.vaneLine s.patchBase]).take 8 = patchMagic ∧
      (∀ x ∈ (s.vaneLines s.patchBase (imageField (linesBytes [s.vaneLine s.patchBase]) 12 4 / 64)), x ≠ none)) ∧
    (∃ (s : State),
      s.sec.image ≠ [] ∧ s.sec.taken = false) :=
  ⟨⟨rooted, by decide +kernel⟩,
    ⟨run, by decide +kernel⟩,
    ⟨{ run with sec := { run.sec with cmdBusy := true } }, .keyDerive, by decide +kernel⟩,
    ⟨15, { run with sec := { Security.reset with cmdBusy := true, deriving_ := some 15 } }, by decide +kernel⟩,
    ⟨{ run with sec := { Security.reset with loading := true, features := 1, image := [1] } }, by decide +kernel⟩,
    ⟨loaded, by decide +kernel, by decide +kernel, by decide +kernel, by decide +kernel, by decide +kernel, by decide +kernel, by rw [show loaded.vaneLine loaded.patchBase = some patchLine by decide +kernel]; decide +kernel, by rw [show loaded.vaneLine loaded.patchBase = some patchLine by decide +kernel]; decide +kernel, by rw [show loaded.vaneLine loaded.patchBase = some patchLine by decide +kernel]; decide +kernel, by rw [show loaded.vaneLine loaded.patchBase = some patchLine by decide +kernel]; exact loaded_lines⟩,
    ⟨{ run with sec := { Security.reset with loading := true, features := 1, image := [1] } }, by decide +kernel⟩⟩

/-- The hypotheses of `Obligations.TestAccessCommands` are met, clause by clause. -/
theorem test_hypotheses_TestAccessCommands :
    (∃ (s : State) (c : _),
      s.tapOn = true ∧ c ∈ [Instr.tapReset, .idcode]) ∧
    (∃ (s : State),
      s.tapOn = true ∧ s.mode.coldLow = false) ∧
    (∃ (s : State) (p : _),
      s.tapOn = true ∧ p ∈ [(Instr.clamp, irClamp), (.highz, irHighz), (.bypass, irBypass)]) ∧
    (∃ (dr : RegaccDr) (s : State) (a : Access) (u : State),
      s.tapOn = true ∧
      a = ⟨dr.word.extractLsb' 33 20, 2, toLanes (dr.word.extractLsb' 33 20) (dr.word.extractLsb' 0 32), dr.word.getLsbD 32 && !s.feature 1, 0x18⟩ ∧
      u = (if dr.word.getLsbD 53 then (s.respondPort 0 false).regWrite a else (s.respondPort 0 false).regReadAccess a dr.parityFault)) ∧
    (∃ (s : State),
      s.tapOn = true ∧ s.mode.coldLow = true ∧ s.mode.mode ≠ .holdUp) :=
  ⟨⟨run, .idcode, by decide +kernel⟩,
    ⟨run, by decide +kernel⟩,
    ⟨run, (.clamp, irClamp), by decide +kernel⟩,
    ⟨{ word := 0x1FE00000000000, parityFault := false : RegaccDr }, run, ⟨(0x1FE00000000000 : BitVec 54).extractLsb' 33 20, 2, toLanes ((0x1FE00000000000 : BitVec 54).extractLsb' 33 20) ((0x1FE00000000000 : BitVec 54).extractLsb' 0 32), (0x1FE00000000000 : BitVec 54).getLsbD 32 && !run.feature 1, 0x18⟩, (run.respondPort 0 false).regReadAccess ⟨(0x1FE00000000000 : BitVec 54).extractLsb' 33 20, 2, toLanes ((0x1FE00000000000 : BitVec 54).extractLsb' 33 20) ((0x1FE00000000000 : BitVec 54).extractLsb' 0 32), (0x1FE00000000000 : BitVec 54).getLsbD 32 && !run.feature 1, 0x18⟩ false, by decide +kernel⟩,
    ⟨{ run with mode := { run.mode with coldLow := true } }, by decide +kernel⟩⟩

end Sys2Proof.Tests
end

section
/-!
Register writes (O43). In the safe state of the ERR page its configuration fields take their reset values (R392), and the page goes on
taking writes, as only GLB, SEC and OTP refuse them. A write made there is stored, and the register does not read back so:
`Obligations.RegisterWriteEffects` has no hypothesis that keeps the ERR page out of its safe state.
-/
namespace Sys2Proof.Machine

/-- ERR_CTRL reads as its reset value in the safe state of the ERR page, whatever is stored (R392). -/
theorem State.regRead_errCtrl_of_parity (s : State) (h : s.parity pageErr = true) :
    s.regRead pageErr 0x040 = regReset pageErr 0x040 := by
  have hread : s.regRead pageErr 0x040 = s.cfg pageErr 0x040 := rfl
  have hbrz : pageErr ≠ pageBrz := by decide
  rw [hread]
  simp [State.cfg, h, hbrz]

end Sys2Proof.Machine

namespace Sys2Proof.Proofs
open Sys2Proof.Machine

/-- A block in RUN with its core supplied, every register at reset. -/
def inRun : State :=
  { State.reset with mode := { ModeState.reset with mode := .run }, pwr := { Power.reset with coreOn := true } }

/-- The same block once a parity fault of ERR_CTRL has been found (R391). -/
def inRunErrSafe : State := inRun.parityFault pageErr 0x040

/-- ERR_CTRL as the model gives it: five RW fields, all 1 at reset. -/
def errCtrl : RegSpec := { ofs := 0x040, rw := 0x1F, reset := 0x1F }

/-- A secure word write of 0 to ERR_CTRL. -/
def zeroErrCtrl : Access := wordWrite pageErr 0x040 0

/-- The block after that write. -/
def errCtrlZeroed : State := { inRunErrSafe with pins := { inRunErrSafe.pins with cpRstN := true } }.regWrite zeroErrCtrl

/-- The sweep of V23 leads into the safe state. -/
theorem exec_cfgParitySweep_inRun : exec (.cfgParitySweep 0x05 0x040 true) inRun = .next inRunErrSafe := rfl

theorem exec_zeroErrCtrl : exec (.registerWrite zeroErrCtrl) inRunErrSafe = .next errCtrlZeroed := rfl

/-- The write is taken. -/
theorem errCtrlZeroed_stored : errCtrlZeroed.stored pageErr 0x040 = 0 := by decide +kernel

/-- The write does not end the safe state. -/
theorem errCtrlZeroed_parity : errCtrlZeroed.parity pageErr = true := by decide +kernel

/-- The register shows its reset value, not the 0 that is stored. -/
theorem errCtrlZeroed_regRead : errCtrlZeroed.regRead pageErr 0x040 = 0x1F :=
  State.regRead_errCtrl_of_parity _ errCtrlZeroed_parity

/-- The secure word write of 0 does not read back as 0 from ERR_CTRL. -/
theorem not_completes_zeroErrCtrl :
    ¬ Completes (.registerWrite zeroErrCtrl) inRunErrSafe fun t => t.regRead pageErr 0x040 &&& errCtrl.rw = 0 := by
  rintro ⟨t, ht, hread⟩
  obtain rfl : errCtrlZeroed = t := by simpa [exec_zeroErrCtrl] using ht
  rw [errCtrlZeroed_regRead] at hread
  exact absurd hread (by decide)

/-- Refutes O43: with the ERR page in its safe state, which takes writes, the word 0 written to ERR_CTRL (an RW register of apply point IMM
on page ERR) is stored and reads back as the reset value 0x1F (R391, R392). The clause on BRZ, ERR and TEL lacks the hypothesis that the
ERR page is not in its safe state. -/
theorem not_registerWriteEffects : ¬ Obligations.RegisterWriteEffects := by
  unfold Obligations.RegisterWriteEffects
  intro h
  have hpage : pageOf zeroErrCtrl.addr = pageErr := by decide
  have hofs : addrOfs zeroErrCtrl.addr = 0x040 := by decide
  obtain ⟨-, -, -, hword⟩ := h zeroErrCtrl inRunErrSafe (by decide +kernel) (by decide +kernel)
  rw [hpage, hofs] at hword
  have hback := (hword errCtrl (by decide) (by decide) (by decide +kernel) (by decide) (by decide +kernel) (by decide) (by decide) (by decide)
    (by decide +kernel) (by decide) (by decide) (by decide) (by decide) (by decide +kernel) (by decide) (by decide) (by decide) (by decide)).2.1
    (by decide) (by decide) (by decide)
  obtain ⟨t, ht, hread, -⟩ := hback
  refine not_completes_zeroErrCtrl ⟨t, ht, hread.trans ?_⟩
  decide +kernel

end Sys2Proof.Proofs
end

section
/-!
The end of a bring-up (O39): the three ends of `State.bringupDone`, and the mode and the wake pin that service begins with.
-/
namespace Sys2Proof.Machine


@[simp] theorem State.raiseIf_mode (s : State) (c : Bool) (page j : Nat) : (s.raiseIf c page j).mode = s.mode :=
  (s.raiseIf_keeps c page j).p .mode (by decide)

@[simp] theorem State.raiseIf_pins (s : State) (c : Bool) (page j : Nat) : (s.raiseIf c page j).pins = s.pins :=
  (s.raiseIf_keeps c page j).p .pins (by decide)

@[simp] theorem State.setMode_mode (s : State) (m : Mode) : (s.setMode m).mode = { s.mode with mode := m } := by
  unfold State.setMode
  split
  · subst_vars; rfl
  · rfl

@[simp] theorem State.setMode_pins (s : State) (m : Mode) : (s.setMode m).pins = s.pins :=
  (s.setMode_keeps m).p .pins (by decide)

/-- The last steps of the entry to service: the ingest ports leave OFF, and what waited for the end of the wake goes on. -/
theorem State.openIngest_keeps (s : State) :
    Keeps 0x3363eef224c s (((List.finRange 8).foldl (fun (s : State) (n : Fin 8) => s.leaveOff n) s).feasTrigger.afterSleep) :=
  (State.afterSleep_keeps _).on ((State.feasTrigger_keeps _).on
    (Keeps.foldl Keeps.rfl' fun u n => (u.leaveOff_keeps n).mono (by decide)) (by decide)) (by decide)

/-- The mode and the wake pin as service begins with them. -/
theorem State.enterService_begins (s : State) (p : KeepPick) (gen : BitVec 64) :
    ((s.enterService p gen).mode.mode = .run ∨ (s.enterService p gen).mode.mode = .degraded) ∧ (s.enterService p gen).mode.served = true ∧
      (s.enterService p gen).mode.keepSrc = p.src ∧ (s.enterService p gen).mode.step = 0 ∧ (s.enterService p gen).pins.wakeOut = false := by
  have hmode (u : State) : _ = u.mode := u.openIngest_keeps.p .mode (by decide)
  have hpins (u : State) : _ = u.pins := u.openIngest_keeps.p .pins (by decide)
  simp only [State.enterService, hmode, hpins, State.raiseIf_mode, State.raise_mode, State.setMode_mode, State.raiseIf_pins, State.raise_pins,
    State.setMode_pins, and_true]
  split <;> simp

/-- A bring-up with every slice settled goes on to what it restores. -/
theorem State.trainedAll_of_settled {s : State} (hb : s.bringsUp = true) (hu : s.mode.ucodeOk = true) (hm : s.mode.memRstLow = false)
    (hs : allSlices.all s.settled = true) : s.trainedAll = true := by
  simp [State.trainedAll, hb, hu, hm, hs]

section
variable {s : State} (hd : s.trainedAll = true)
include hd

theorem State.bringupDone_of_service (hg : (s.restoreAll s.keepPick).someGroup = true) (hp : s.patchAgain s.keepPick = 0) :
    s.bringupDone = (s.restoreAll s.keepPick).enterService s.keepPick s.genFound := by
  simp [State.bringupDone, hd, hg, hp]

theorem State.bringupDone_of_noGroup (hg : (s.restoreAll s.keepPick).someGroup = false) : s.bringupDone = s.stickBringup 3 0x7F := by
  simp [State.bringupDone, hd, hg]

theorem State.bringupDone_of_patch (hg : (s.restoreAll s.keepPick).someGroup = true) (hp : s.patchAgain s.keepPick ≠ 0) :
    s.bringupDone = State.stickBringup { s.restoreFirst s.keepPick with
      sec := { (s.restoreFirst s.keepPick).sec with patchReason := s.patchAgain s.keepPick } } 4 0x7F := by
  simp only [State.bringupDone, hd, hg, Bool.true_eq_false, if_false]
  exact if_pos hp

end

end Sys2Proof.Machine

namespace Sys2Proof.Proofs
open Sys2Proof.Machine

/-- Settles O39: the three ends of `State.bringupDone`, told apart by the groups and the patch that the restore finds. -/
theorem bringupEnds : Obligations.BringupEnds := by
  unfold Obligations.BringupEnds
  intro s hb hu hm hs
  have hd := State.trainedAll_of_settled hb hu hm hs
  refine ⟨fun hg hp => ⟨_, rfl, ?_⟩, fun hg => ⟨_, rfl, ?_⟩, fun hg hp => ⟨_, rfl, ?_⟩⟩
  · rw [State.bringupDone_of_service hd hg hp]
    exact State.enterService_begins ..
  · rw [State.bringupDone_of_noGroup hd hg]
    exact ⟨rfl, rfl, rfl, rfl, rfl⟩
  · rw [State.bringupDone_of_patch hd hg hp]
    exact ⟨rfl, rfl, rfl, rfl, rfl, rfl, rfl, rfl⟩

end Sys2Proof.Proofs
end

section
/-!
The reset state (O60): the invariant holds of it, and no port is ready while the block is in BRING-UP.
-/
namespace Sys2Proof.Machine

/-- Nothing is queued, logged or in flight at reset. -/
theorem inv_reset : Inv State.reset where
  mem := rfl
  seq := seqOk_reset
  replies := by simp [State.reset, Breeze.reset]
  reqs := reqsOk_nil
  unack := by simp [State.reset, ErrLog.reset]
  squall := by simp [State.reset, Squall.reset]
  fill := by simp [State.reset, Telemetry.reset]

/-- A port takes no request unless the block is in service (R36). -/
theorem State.reqReady_of_not_inService {s : State} (h : s.inService = false) (p : Fin 16) : s.reqReady p = false := by
  simp [State.reqReady, h]

end Sys2Proof.Machine

namespace Sys2Proof.Proofs
open Sys2Proof.Machine

/-- Settles O60: the reset values as they stand, the ports by way of the mode. -/
theorem resetState : Obligations.ResetState := by
  refine ⟨inv_reset, rfl, rfl, rfl, rfl, rfl, rfl, rfl, rfl, rfl, rfl, ?ports, ?ingest, ?slices⟩
  case ports => exact State.reqReady_of_not_inService rfl
  case ingest => simp [State.reset, Ingest.reset]
  case slices => simp [State.reset, Slice.reset]

end Sys2Proof.Proofs
end

section
/-!
What an ordered drain does to memory (R211, R221): it writes check lines back, so where no check line is dirty, or no flush is part of it,
memory stands as it was.
-/
namespace Sys2Proof.Machine

/-- A slice after one slice has been changed. -/
theorem State.modSlice_getElem (s : State) (c d : Fin 80) (f : Slice → Slice) :
    (s.modSlice c f).slices[d] = if d = c then f s.slices[c] else s.slices[d] := by
  split
  next h => rw [h]; exact s.modSlice_self c f
  next h => exact s.modSlice_other c d f h

/-- The scheduler of a slice after it has been changed. -/
theorem State.modSched_self (s : State) (c : Fin 80) (f : Sched → Sched) : (s.modSched c f).slices[c].sched = f s.slices[c].sched := by
  rw [State.modSched, State.modSlice_self]

/-- No check line of a slice is dirty. -/
def State.ckClean (s : State) (c : Fin 80) : Prop := s.slices[c].sched.ckc.any CkLine.dirty = false

/-- Memory, and the check lines that the slices hold, stand as they were. -/
structure CkKept (s t : State) : Prop where
  mem : t.mem = s.mem
  ckc : ∀ d : Fin 80, t.slices[d].sched.ckc = s.slices[d].sched.ckc

theorem CkKept.refl (s : State) : CkKept s s := ⟨rfl, fun _ => rfl⟩

theorem CkKept.trans {s t u : State} (h : CkKept s t) (h' : CkKept t u) : CkKept s u :=
  ⟨h'.mem.trans h.mem, fun d => (h'.ckc d).trans (h.ckc d)⟩

theorem CkKept.ckClean {s t : State} (h : CkKept s t) {c : Fin 80} (hc : s.ckClean c) : t.ckClean c := by
  rw [State.ckClean, h.ckc c]; exact hc

theorem CkKept.ofEq {s t : State} (hm : t.mem = s.mem) (hs : t.slices = s.slices) : CkKept s t := ⟨hm, fun d => by rw [hs]⟩

theorem CkKept.modSlice (s : State) (c : Fin 80) {f : Slice → Slice} (hf : ∀ x, (f x).sched.ckc = x.sched.ckc) : CkKept s (s.modSlice c f) := by
  refine ⟨rfl, fun d => ?_⟩
  rw [State.modSlice_getElem]
  split
  next h => rw [h]; exact hf _
  next => rfl

theorem CkKept.modSched (s : State) (c : Fin 80) {f : Sched → Sched} (hf : ∀ x, (f x).ckc = x.ckc) : CkKept s (s.modSched c f) :=
  .modSlice s c fun x => hf x.sched

theorem CkKept.bumpCh (s : State) (c : Fin 80) (i : Nat) : CkKept s (s.bumpCh c i) := .modSlice s c fun _ => rfl

theorem CkKept.ite {s t u : State} {p : Prop} [Decidable p] (h : p → CkKept s t) (h' : ¬p → CkKept s u) : CkKept s (if p then t else u) := by
  split
  · exact h ‹_›
  · exact h' ‹_›

theorem CkKept.foldl {α : Type} {l : List α} {f : State → α → State} (hf : ∀ s a, CkKept s (f s a)) (s : State) : CkKept s (l.foldl f s) := by
  induction l generalizing s with
  | nil => exact .refl s
  | cons a l ih => exact (hf s a).trans (ih _)

/-- The same of a fold whose steps need clean check lines. -/
theorem CkKept.foldl_of_ckClean {l : List (Fin 80)} {f : State → Fin 80 → State} (hf : ∀ s c, s.ckClean c → CkKept s (f s c)) (s : State)
    (hs : ∀ c, s.ckClean c) : CkKept s (l.foldl f s) := by
  induction l generalizing s with
  | nil => exact .refl s
  | cons c l ih =>
    have h := hf s c (hs c)
    exact h.trans (ih _ fun d => h.ckClean (hs d))

theorem State.writeBackCk_of_ckClean {s : State} {c : Fin 80} (h : s.ckClean c) (l : Nat) : s.writeBackCk c l = s := by
  unfold State.writeBackCk
  split
  next k hk =>
    have hd : k.dirty = false := by simpa using List.any_eq_false.1 h k (List.mem_of_find?_eq_some hk)
    simp [hd]
  next => rfl

theorem State.flushCk_of_ckClean {s : State} {c : Fin 80} (h : s.ckClean c) : s.flushCk c = s := by
  unfold State.flushCk
  exact List.foldlRecOn (motive := (· = s)) _ _ rfl fun t ht l _ => by rw [ht, State.writeBackCk_of_ckClean h]

/-- A flush that is ordered at a slice finds nothing to write back. -/
def State.flushIdle (s : State) (c : Fin 80) : Prop := s.slices[c].sched.flushing = true → s.ckClean c

/-- A change of a scheduler that orders no flush and leaves the check lines. -/
theorem State.modSched_flushIdle {s : State} {c : Fin 80} {f : Sched → Sched} (hf : ∀ x, (f x).flushing = true → x.flushing = true)
    (hc : ∀ x, (f x).ckc = x.ckc) (h : s.flushIdle c) : (s.modSched c f).flushIdle c := by
  rw [State.flushIdle, State.ckClean, State.modSched_self, hc]
  exact fun hfl => h (hf _ hfl)

theorem State.endDrain_ckKept {s : State} {c : Fin 80} (h : s.flushIdle c) : CkKept s (s.endDrain c) ∧ (s.endDrain c).flushIdle c := by
  have hflush : (if s.slices[c].sched.flushing then s.flushCk c else s) = s := by
    split
    · exact State.flushCk_of_ckClean (h ‹_›)
    · rfl
  simp only [State.endDrain, hflush]
  split
  · exact ⟨.modSched _ _ fun _ => rfl, State.modSched_flushIdle (fun _ hf => absurd hf Bool.false_ne_true) (fun _ => rfl) h⟩
  · exact ⟨.refl s, h⟩

theorem State.stopGust_ckKept {s : State} {c : Fin 80} (h : s.flushIdle c) : CkKept s (s.stopGust c) ∧ (s.stopGust c).flushIdle c := by
  unfold State.stopGust
  split
  · obtain ⟨hk, hi⟩ := State.endDrain_ckKept h
    exact ⟨hk.trans (.modSched _ _ fun _ => rfl), State.modSched_flushIdle (fun _ hf => hf) (fun _ => rfl) hi⟩
  · exact ⟨.refl s, h⟩

theorem State.startGust_ckKept {s : State} {c : Fin 80} (cause : BitVec 3) (h : s.flushIdle c) :
    CkKept s (s.startGust c cause) ∧ (s.startGust c cause).flushIdle c := by
  unfold State.startGust
  have hi := State.modSched_flushIdle (f := fun x => { x with gust := true, gustCause := cause, gustDone := 0 }) (fun _ hf => hf) (fun _ => rfl) h
  refine ⟨CkKept.trans (.modSched s c ?_) (.bumpCh _ c 4), ?_⟩
  · exact fun _ => rfl
  rw [State.flushIdle, State.ckClean, State.bumpCh, State.modSlice_self]
  exact hi

/-- A drain writes nothing where no flush is part of it, or no check line is dirty. -/
theorem State.orderDrain_ckKept {s : State} {c : Fin 80} {flush : Bool} (h : (s.slices[c].sched.flushing || flush) = true → s.ckClean c) :
    CkKept s (s.orderDrain c flush) := by
  unfold State.orderDrain
  extract_lets t on u
  have ht : CkKept s t := .modSched s c fun _ => rfl
  have hti : t.flushIdle c := fun hf => ht.ckClean (h (by rwa [State.modSched_self] at hf))
  obtain ⟨hu, hui⟩ : CkKept t u ∧ u.flushIdle c := by
    unfold u
    split
    · exact ⟨.refl t, hti⟩
    · exact State.startGust_ckKept 4 hti
  obtain ⟨hv, hvi⟩ := State.stopGust_ckKept hui
  exact ((ht.trans hu).trans hv).trans (State.endDrain_ckKept hvi).1

theorem State.drainAll_ckKept {s : State} (h : ∀ c, s.ckClean c) : CkKept s s.drainAll :=
  CkKept.foldl_of_ckClean (fun _ _ hc => CkKept.ite (fun _ => State.orderDrain_ckKept fun _ => hc) fun _ => .refl _) s h

end Sys2Proof.Machine
end

section
/-!
What the ledger's retries and its freeze leave alone (R108, R120): of the Squall all but its log copy, and a request that they touch does
not await data after them when it did not before.
-/
namespace Sys2Proof.Machine

/-- A Squall but for its log copy. -/
def Squall.core (q : Squall) : Squall := { q with log := [], logOvf := false }

/-- The part of the frame that leaves the log copy out. -/
theorem Keeps.squallCore {m : Nat} {s t : State} (h : Keeps m s t) (hq : m.testBit Part.squall.idx = false) : t.squall.core = s.squall.core :=
  h.p .squall hq

/-- The Squall stands as it was but for its log copy, and where no request awaited write data, none does. -/
structure LedgerWork (s t : State) : Prop where
  squall : t.squall.core = s.squall.core
  noAwait : (∀ r ∈ s.reqs, r.phase ≠ .awaitData) → ∀ r ∈ t.reqs, r.phase ≠ .awaitData

theorem LedgerWork.refl (s : State) : LedgerWork s s := ⟨rfl, id⟩

theorem LedgerWork.trans {s t u : State} (h : LedgerWork s t) (h' : LedgerWork t u) : LedgerWork s u :=
  ⟨h'.squall.trans h.squall, fun hs => h'.noAwait (h.noAwait hs)⟩

/-- The last operation first, as the text of a meaning has them. -/
theorem LedgerWork.on {s t u : State} (h' : LedgerWork t u) (h : LedgerWork s t) : LedgerWork s u := h.trans h'

theorem LedgerWork.ite {s t u : State} {p : Prop} [Decidable p] (h : p → LedgerWork s t) (h' : ¬p → LedgerWork s u) :
    LedgerWork s (if p then t else u) := by
  split
  · exact h ‹_›
  · exact h' ‹_›

theorem LedgerWork.foldl {α : Type} {l : List α} {f : State → α → State} (hf : ∀ s a, LedgerWork s (f s a)) (s : State) :
    LedgerWork s (l.foldl f s) := by
  induction l generalizing s with
  | nil => exact .refl s
  | cons a l ih => exact (hf s a).trans (ih _)

/-- A change outside the Squall and the requests. -/
theorem Keeps.ledgerWork {m : Nat} {s t : State} (h : Keeps m s t) (hq : m.testBit Part.squall.idx = false) (hr : m.testBit Part.reqs.idx = false) :
    LedgerWork s t := by
  have hreqs : t.reqs = s.reqs := h.p .reqs hr
  exact ⟨h.squallCore hq, fun hs => by rwa [hreqs]⟩

theorem LedgerWork.ledger (s : State) (x : Ledger) : LedgerWork s { s with ledger := x } := ⟨rfl, id⟩

theorem LedgerWork.setEntry (s : State) (i : Nat) (e : LEntry) : LedgerWork s (s.setEntry i e) := .ledger s _

theorem LedgerWork.mapReqs (s : State) {f : Req → Req} (hf : ∀ r, r.phase ≠ .awaitData → (f r).phase ≠ .awaitData) :
    LedgerWork s (s.mapReqs f) := by
  refine ⟨rfl, fun hs r hr => ?_⟩
  obtain ⟨q, hq, rfl⟩ := List.mem_map.1 hr
  exact hf q (hs q hq)

theorem LedgerWork.modReq (s : State) (rid : Nat) {f : Req → Req} (hf : ∀ r, r.phase ≠ .awaitData → (f r).phase ≠ .awaitData) :
    LedgerWork s (s.modReq rid f) :=
  .mapReqs s fun r hr => by
    split
    · exact hf r hr
    · exact hr

theorem LedgerWork.dropReq (s : State) (rid : Nat) : LedgerWork s (s.dropReq rid) :=
  ⟨rfl, fun hs r hr => hs r (List.mem_of_mem_filter hr)⟩

theorem LedgerWork.finishReq (s : State) (rid : Nat) (code : BitVec 4) : LedgerWork s (s.finishReq rid code) :=
  .modReq s rid fun _ _ => nofun

theorem LedgerWork.flagReq (s : State) (rid bit : Nat) : LedgerWork s (s.flagReq rid bit) := .modReq s rid fun _ h => h

theorem LedgerWork.waitLedger (s : State) (rid : Nat) : LedgerWork s (s.waitLedger rid) :=
  .on (.modReq _ rid fun _ _ => nofun) ⟨rfl, id⟩

/-! ### Entries (R117) -/

/-- The Squall's log copy is all that an event changes in it (R429). -/
theorem squallLogAfter_core (q : Squall) (ev : ErrEvent) (now : Time) (seq : BitVec 16) (coalesce nested : Bool) :
    (squallLogAfter q ev now seq coalesce nested).core = q.core := by
  simp only [squallLogAfter]
  split_ifs <;> rfl

theorem LedgerWork.logError (s : State) (ev : ErrEvent) : LedgerWork s (s.logError ev) := by
  unfold State.logError
  extract_lets +onlyGivenNames t cfg u nested v
  have ht : LedgerWork s t := ⟨rfl, id⟩
  refine .ite (fun _ => ht) fun _ => .ite (fun _ => ht) fun _ => ?_
  have hu : LedgerWork t u := (t.noteFatal_keeps ev).ledgerWork (by decide) (by decide)
  have hv : LedgerWork u v := .ite (fun _ => ⟨squallLogAfter_core .., id⟩) fun _ => .refl u
  exact ((ht.trans hu).trans hv).trans ((v.logRing_keeps ..).ledgerWork (by decide) (by decide))

theorem LedgerWork.poisonEntry (s : State) (i : Nat) : LedgerWork s (s.poisonEntry i) := by
  unfold State.poisonEntry
  extract_lets +onlyGivenNames e t
  refine .on (.logError ..) (.on ((State.raise_keeps ..).ledgerWork (by decide) (by decide)) (.on (.ledger ..) (.on (t := t) ?_ (.setEntry s ..))))
  refine .ite (fun _ => ((State.groupLosesEntry_keeps ..).ledgerWork (by decide) (by decide))) fun _ => .ite (fun _ => ?_) fun _ => .refl _
  split
  · exact .ite (fun _ => .ledger _ _) fun _ => .refl _
  · exact .refl _

theorem LedgerWork.readEntry (s : State) (i : Nat) (ecc : BitVec 96) : LedgerWork s (s.readEntry i ecc) := by
  unfold State.readEntry
  extract_lets raw
  split
  · exact .refl s
  · exact .on (.logError ..) (.on (.ledger _ _) ((State.setRawEntry_keeps ..).ledgerWork (by decide) (by decide)))
  · exact .poisonEntry s i

theorem LedgerWork.checkEntries (s : State) (r : Req) (ecc : BitVec 96) : LedgerWork s (s.checkEntries r ecc) :=
  .foldl (fun s _ => .readEntry s _ _) s

/-! ### Decisions (R105 to R111) -/

theorem LedgerWork.ledgerFull (s : State) (rid : Nat) (exhaust : Bool) : LedgerWork s (s.ledgerFull rid exhaust) :=
  .on (.finishReq ..) (.on ((State.raiseIf_keeps ..).ledgerWork (by decide) (by decide)) (.ledger s _))

theorem LedgerWork.ledgerConflict (s : State) (rid : Nat) : LedgerWork s (s.ledgerConflict rid) :=
  .on (.finishReq ..) (.on ((State.telSys_keeps ..).ledgerWork (by decide) (by decide)) (.ledger s _))

theorem LedgerWork.askDemand (s : State) (rid i : Nat) : LedgerWork s (s.askDemand rid i) := by
  unfold State.askDemand
  refine (LedgerWork.flagReq s rid flagMerge).trans (.ite (fun _ => .waitLedger _ rid) fun _ => .ite (fun _ => .ledgerFull _ rid true) fun _ => ?_)
  exact .on (.waitLedger ..) (.ledger ..)

theorem LedgerWork.placeReq (s : State) (rid : Nat) (ops : List LineOp) (p : Option Place) : LedgerWork s (s.placeReq rid ops p) := by
  cases p with
  | none => exact .finishReq s rid _
  | some p => exact .modReq s rid fun _ _ => nofun

theorem LedgerWork.arriveHub (s : State) (rid : Nat) (ops : List LineOp) : LedgerWork s (s.arriveHub rid ops) := by
  unfold State.arriveHub
  split
  · exact .finishReq ..
  · exact .placeReq ..

theorem LedgerWork.claim (s : State) (rid : Nat) (gv : Bool) (gid : BitVec 12) (i : Nat) (units : List Nat) :
    LedgerWork s (s.claim rid gv gid i units) := by
  unfold State.claim
  extract_lets e before mask
  refine .ite (fun _ => ?_) fun _ => ?_
  · exact .on (.modReq _ rid fun _ h => h) (.on (.setEntry ..) (.ledger ..))
  · split
    · exact .on (.modReq _ rid fun _ h => h) (.on (.setEntry ..) (.ledger ..))
    · exact .refl s

theorem LedgerWork.decidedWrite (s : State) (rid : Nat) (r : Req) (cl : List (Nat × List Nat)) : LedgerWork s (s.decidedWrite rid r cl) := by
  unfold State.decidedWrite
  refine .on (.arriveHub ..) (.on (.modReq _ rid fun _ h => h) (.on (.ledger ..) (.on (.ite (fun _ => .ledger ..) fun _ => .refl _) ?_)))
  exact .foldl (fun s _ => .claim s ..) s

theorem LedgerWork.decideWrite (s : State) (rid : Nat) (r : Req) : LedgerWork s (s.decideWrite rid r) := by
  unfold State.decideWrite
  extract_lets cl checks
  refine .ite (fun _ => .finishReq s rid _) fun _ => .ite (fun _ => .ledgerConflict s rid) fun _ => .ite (fun _ => .ledgerFull s rid _) fun _ =>
    .ite (fun _ => .ledgerFull s rid _) fun _ => ?_
  split
  · exact .askDemand s rid _
  · exact .ite (fun _ => .waitLedger s rid) fun _ => .decidedWrite s rid r cl

theorem LedgerWork.readPoisoned (s : State) (rid : Nat) (r : Req) : LedgerWork s (s.readPoisoned rid r) := by
  unfold State.readPoisoned
  extract_lets +onlyGivenNames t
  have ht : LedgerWork s t := .modReq s rid fun _ h => h
  refine ht.trans (.ite (fun _ => .finishReq t rid _) fun _ => ?_)
  split
  · exact .on (.placeReq ..) (.modReq t rid fun _ h => h)
  · exact .on (.finishReq ..) (.modReq t rid fun _ h => h)

theorem LedgerWork.resolveRead (s : State) (rid : Nat) (r : Req) : LedgerWork s (s.resolveRead rid r) := by
  unfold State.resolveRead
  extract_lets +onlyGivenNames windowed ops t
  refine .ite (fun _ => ?_) fun _ => .ite (fun _ => .readPoisoned s rid r) fun _ => ?_
  · exact .on (.modReq _ rid fun _ h => h) (.on (.waitLedger ..) (.flagReq ..))
  · exact .on (.arriveHub t rid ops) (.modReq s rid fun _ h => h)

theorem LedgerWork.retryOne (s : State) (rid : Nat) : LedgerWork s (s.retryOne rid) := by
  unfold State.retryOne
  split
  next r _ =>
    refine .ite (fun _ => ?_) fun _ => .refl s
    extract_lets t
    have ht : LedgerWork s t := .ite (fun _ => .checkEntries s r 0) fun _ => .refl s
    exact ht.trans (.ite (fun _ => .resolveRead t rid r) fun _ => .decideWrite t rid r)
  next => exact .refl s

theorem LedgerWork.retryLedger (s : State) : LedgerWork s s.retryLedger :=
  .foldl (f := fun s (r : Req) => s.retryOne r.rid) (fun s r => .retryOne s r.rid) s

/-! ### The freeze (R120, R138) -/

theorem LedgerWork.freezeLedger (s : State) : LedgerWork s s.freezeLedger := by
  unfold State.freezeLedger
  refine .on (.retryLedger _) (.on (.mapReqs _ fun r hr => ?_) (.on (.ledger ..) (.on (.foldl (fun s x => ?_) _) (.foldl (fun s g => ?_) s))))
  · split
    · exact nofun
    · exact hr
  · exact (s.rollSolo_keeps x.1 x.2).ledgerWork (by decide) (by decide)
  · exact (s.abortGroup_keeps g.1).ledgerWork (by decide) (by decide)

theorem LedgerWork.warmFreeze (s : State) : LedgerWork s s.warmFreeze := .ite (fun _ => .freezeLedger s) fun _ => .refl s

/-! ### Requests that end -/

theorem LedgerWork.discardReq (s : State) (p : Fin 16) (r : Req) (code : BitVec 4) : LedgerWork s (s.discardReq p r code) := by
  unfold State.discardReq
  extract_lets +onlyGivenNames t
  have ht : LedgerWork s t := .trans ((s.sampleDone_keeps ..).ledgerWork (by decide) (by decide)) ⟨rfl, id⟩
  exact ht.trans (.dropReq t r.rid)

theorem LedgerWork.ackDrain (s : State) (n : Fin 8) (r : Req) : LedgerWork s (s.ackDrain n r) :=
  .on ((State.settleCwp_keeps ..).ledgerWork (by decide) (by decide)) (.on (t := s.dropReq r.rid) ⟨rfl, id⟩ (.dropReq s r.rid))

theorem LedgerWork.leaveReq (s : State) (r : Req) : LedgerWork s (s.leaveReq r) := by
  unfold State.leaveReq
  refine .ite (fun _ => .discardReq s ..) fun _ => ?_
  split
  · exact .ite (fun _ => .ackDrain s _ r) fun _ => .dropReq s r.rid
  · exact .dropReq s r.rid

end Sys2Proof.Machine
end

section
/-!
Resets (O40): a cold reset and its end, and a warm reset in service, which starts a Squall.
-/
namespace Sys2Proof.Machine

/-- The always-on domain is the same where both of its parts are. -/
theorem Keeps.ao_eq {m : Nat} {s t : State} (h : Keeps m s t) (ha : m.testBit Part.ao.idx = false) (he : m.testBit Part.errSeq.idx = false) :
    t.ao = s.ao := by
  have hrest : { t.ao with errSeq := 0 } = { s.ao with errSeq := 0 } := h.p .ao ha
  have hseq : t.ao.errSeq = s.ao.errSeq := h.p .errSeq he
  calc t.ao = { ({ t.ao with errSeq := 0 } : AlwaysOn) with errSeq := t.ao.errSeq } := rfl
    _ = s.ao := by rw [hrest, hseq]

/-! ### Cold reset and its end (R28, R488) -/

theorem State.beginBringup_mode (s : State) (k : BuKind) : (s.beginBringup k).mode = { s.mode with
    mode := .bringUp, buKind := k, stuck := false, cause := 0, buSlice := 0x7F, keepSrc := 0, shortGrp := 0, step := 1, ucodeOk := false
    retained := false, memRstLow := false, refWait := false, served := false, warmed := false } := by
  simp [State.beginBringup]

/-- The core off: a cold bring-up that has not begun, with nothing in flight. -/
theorem State.coldReset_state (s : State) : s.coldReset.mode.mode = .bringUp ∧ s.coldReset.mode.buKind = .cold ∧ s.coldReset.mode.coldLow = true ∧
    s.coldReset.pwr.coreOn = false ∧ s.coldReset.tb = 0 ∧ s.coldReset.reqs = [] ∧ s.coldReset.pins.coldRstN = false ∧ s.coldReset.squall.active = false := by
  have hm := (s.otpInterrupt.coreReset .cold).beginBringup_mode .cold
  have hreqs : ((s.otpInterrupt.coreReset .cold).beginBringup .cold).reqs = [] :=
    (State.beginBringup_keeps _ .cold).p .reqs (by decide)
  exact ⟨by simp [State.coldReset, State.coldState, hm], by simp [State.coldReset, State.coldState, hm], rfl, rfl, rfl, hreqs, rfl, rfl⟩

theorem State.loseSnaps_pins (s : State) :
    (allSlices.foldl (fun (s : State) (c : Fin 80) => s.modTrain c Train.loseSnaps) s).pins = s.pins :=
  (Keeps.foldl (m := 0x800000) .rfl' fun u c => u.modTrain_keeps c Train.loseSnaps).p .pins (by decide)

theorem State.initAo_aoValid (s : State) : s.initAo.pins.aoValid = true := by
  unfold State.initAo
  split
  next h => exact h
  next =>
    exact congrArg Pins.aoValid (State.loseSnaps_pins _)

/-- What the power-up of the core leaves of the always-on domain, the power manager and the bring-up record, whatever the slices hold. -/
theorem State.coreUp_core (s : State) : s.coreUp.pwr.coreOn = true ∧ s.coreUp.ao.lpMode = false ∧ s.coreUp.mode.refWait = false ∧
    s.coreUp.mode.coldLow = false ∧ s.coreUp.mode.step = 2 := by
  have hk (u : State) : Keeps 0x800040 u u.mapFromSig.powerSlices.startProbe :=
    ((State.startProbe_keeps _).on ((State.powerSlices_keeps _).on (u.mapFromSig_keeps.mono (by decide)) (by decide)) (by decide))
  have hpwr (u : State) : u.mapFromSig.powerSlices.startProbe.pwr = u.pwr := (hk u).p .pwr (by decide)
  have hao (u : State) : u.mapFromSig.powerSlices.startProbe.ao = u.ao := (hk u).ao_eq (by decide) (by decide)
  refine ⟨?_, ?_, rfl, rfl, rfl⟩
  · rw [State.coreUp, hpwr]
  · rw [State.coreUp, hao]

/-- COLD_RST_N rises with MAIN_PG high: the core is powered on. -/
theorem State.coldRise_of_mainPg {s : State} (hc : s.pins.coldRstN = false) (hl : s.mode.coldLow = true) (hm : s.pins.mainPg = true) :
    ∃ u : State, u.pins.coldRstN = true ∧ u.mem = s.mem ∧ s.coldRise = u.startCold :=
  ⟨{ s with pins := { s.pins with coldRstN := true } }, rfl, rfl, by simp [State.coldRise, hc, hl, hm]⟩

theorem State.startCold_state (s : State) : s.startCold.pins = s.initAo.pins ∧ s.startCold.pwr.coreOn = true ∧ s.startCold.mode.coldLow = false ∧
    s.startCold.mode.step = 2 ∧ s.startCold.mem = s.mem := by
  obtain ⟨hcore, -, -, hlow, hstep⟩ := s.initAo.coreUp_core
  exact ⟨s.initAo.coreUp_keeps.p .pins (by decide), hcore, hlow, hstep,
    ((State.coreUp_keeps _).on (s.initAo_keeps.mono (n := 0x10e800072) (by decide)) (by decide)).p .mem (by decide)⟩

theorem State.initAo_coldRstN (s : State) : s.initAo.pins.coldRstN = s.pins.coldRstN := by
  unfold State.initAo
  split
  · rfl
  · exact (congrArg Pins.coldRstN (State.loseSnaps_pins _)).trans rfl

/-! ### Warm reset (R138, R489) -/

/-- In service, awake and in no warm reset: a warm-reset Squall starts. -/
theorem State.warmReset_of_service {s : State} (hc : s.mode.coldLow = false) (hs : s.inService = true) (hw : s.fab.wrst = false)
    (hp : s.pwr.phase = .awake) : s.warmReset = s.startWarm := by
  have hmode : s.mode.mode = .run ∨ s.mode.mode = .degraded := by simpa [State.inService] using hs
  rcases hmode with hm | hm <;> simp [State.warmReset, hc, hm, hw, hp]

theorem State.warmReset_of_holdUp {s : State} (h : s.mode.mode = .holdUp ∨ s.mode.mode = .retention) : s.warmReset = s := by
  rcases h with hm | hm <;> simp [State.warmReset, hm]

theorem State.feasTrigger_ingest (s : State) : s.feasTrigger.ingest = s.ingest := s.feasTrigger_keeps.p .ingest (by decide)

/-- A port's FIFO once EN is cleared, as `State.ingOff` has it. -/
def Ingest.disabled (x : Ingest) : Ingest :=
  let x := { x with enWanted := false }
  if x.listens then
    let x := x.close ingDisabled
    { x with phase := .closing, gapQ := x.gapQ ++ (x.gap.map fun g => { g with flags := g.flags ||| ingDisabled }).toList, gap := none, trigPend := false }
  else if x.phase = .frozen ∧ x.freezing = false then x.enterOff
  else x

theorem State.ingOff_eq (s : State) (n : Fin 8) : s.ingOff n = s.noteEn n fun s => s.modIng n fun _ => s.ingest[n].disabled := rfl

theorem Ingest.close_enWanted (x : Ingest) (why : BitVec 16) : (x.close why).enWanted = x.enWanted := by
  unfold Ingest.close
  split
  · simp only [Ingest.modLast]
    split <;> rfl
  · rfl

theorem Ingest.disabled_enWanted (x : Ingest) : x.disabled.enWanted = false := by
  simp only [Ingest.disabled]
  split_ifs
  · exact Ingest.close_enWanted ..
  · rfl
  · rfl

theorem State.noteEn_ingest (s : State) (n : Fin 8) (f : State → State) : (s.noteEn n f).ingest = (f s).ingest := by
  simp only [State.noteEn]
  split
  · rfl
  · exact State.feasTrigger_ingest _

theorem State.ingOff_enWanted (s : State) (n j : Fin 8) (h : j = n ∨ s.ingest[j].enWanted = false) : (s.ingOff n).ingest[j].enWanted = false := by
  rw [State.ingOff_eq, State.noteEn_ingest]
  by_cases hj : j = n
  · rw [hj, State.modIng_self]
    exact Ingest.disabled_enWanted _
  · rw [State.modIng_other _ _ _ _ hj]
    exact h.resolve_left hj

/-- EN cleared at every port of a list. -/
theorem State.foldl_ingOff_enWanted (l : List (Fin 8)) (s : State) (j : Fin 8) (h : j ∈ l ∨ s.ingest[j].enWanted = false) :
    (l.foldl (fun (s : State) (n : Fin 8) => s.ingOff n) s).ingest[j].enWanted = false := by
  induction l generalizing s with
  | nil => exact h.resolve_left (List.not_mem_nil)
  | cons n l ih =>
    refine ih _ ?_
    by_cases hj : j ∈ l
    · exact .inl hj
    · exact .inr (s.ingOff_enWanted n j (by simpa [hj] using h))

/-- The last steps of the start of a warm reset: the slices drain, the relayouts stop, and what ends at once ends. -/
theorem State.stopForWarm_keeps (s : State) : Keeps 0x336368d224c s s.drainAll.stopCopies.endCommands.warmFreeze :=
  (State.warmFreeze_keeps _).on ((State.endCommands_keeps _).on ((State.stopCopies_keeps _).on
    (s.drainAll_keeps.mono (by decide)) (by decide)) (by decide)) (by decide)

/-- Of the Squall they leave all but its log copy. -/
theorem State.stopForWarm_squall (s : State) : s.drainAll.stopCopies.endCommands.warmFreeze.squall.core = s.squall.core := by
  have hk : Keeps 0x33002812244 s s.drainAll.stopCopies.endCommands :=
    (State.endCommands_keeps _).on ((State.stopCopies_keeps _).on (s.drainAll_keeps.mono (by decide)) (by decide)) (by decide)
  exact (LedgerWork.warmFreeze _).squall.trans (hk.squallCore (by decide))

theorem State.freeLock_seq (s : State) : s.freeLock.regs.seq = SeqLock.reset := by
  have hraise (u : State) (c : Bool) : (u.raiseIf c pageGlb 3).regs.seq = u.regs.seq := (u.raiseIf_keeps ..).p .regSeq (by decide)
  rw [State.freeLock, hraise]

theorem State.endCommands_seq (s : State) : s.endCommands.regs.seq = SeqLock.reset := by
  have hk (u : State) : Keeps 0x3000000244 u u.mboxStop.patchInterrupt.otpInterrupt :=
    (State.otpInterrupt_keeps _).on ((State.patchInterrupt_keeps _).on (u.mboxStop_keeps.mono (by decide)) (by decide)) (by decide)
  have hseq (u : State) : u.mboxStop.patchInterrupt.otpInterrupt.regs.seq = u.regs.seq := (hk u).p .regSeq (by decide)
  rw [State.endCommands, hseq, State.freeLock_seq]

/-- EN cleared at every ingest port. -/
def State.closeIngest (s : State) : State := (List.finRange 8).foldl (fun (s : State) (n : Fin 8) => s.ingOff n) s

theorem State.closeIngest_keeps (s : State) : Keeps 0x420000 s s.closeIngest := .foldl .rfl' fun u n => u.ingOff_keeps n

theorem State.beginSquall_record (s : State) (cause : BitVec 8) (save : Bool) : (s.beginSquall cause save).squall.active = true ∧
    (s.beginSquall cause save).squall.cause = cause ∧ (s.beginSquall cause save).squall.save = save := ⟨rfl, rfl, rfl⟩

/-- What a Squall that differs from another in its log copy alone has in common with it. -/
theorem Squall.fields_of_core {q r : Squall} (h : q.core = r.core) : q.active = r.active ∧ q.cause = r.cause ∧ q.save = r.save := by
  have hactive := congrArg Squall.active h
  have hcause := congrArg Squall.cause h
  have hsave := congrArg Squall.save h
  exact ⟨hactive, hcause, hsave⟩

/-- The Squall's record as a warm reset begins it, with the PL switch stopped. -/
def State.warmRecord (s : State) : State :=
  let s := (s.beginSquall 3 true).stopSwitch
  { s with fab := { s.fab with wrst := true } }

theorem State.warmRecord_squall (s : State) : s.warmRecord.squall.core = (s.beginSquall 3 true).squall.core := by
  simp only [State.warmRecord]
  exact (s.beginSquall 3 true).stopSwitch_keeps.squallCore (by decide)

theorem State.startWarm_eq (s : State) : s.startWarm = s.warmRecord.closeIngest.drainAll.stopCopies.endCommands.warmFreeze := rfl

/-- The mode, the lock, the ports and the Squall once a warm reset has started. -/
theorem State.startWarm_state (s : State) : s.startWarm.fab.wrst = true ∧ s.startWarm.squall.active = true ∧ s.startWarm.squall.cause = 3 ∧
    s.startWarm.squall.save = true ∧ s.startWarm.regs.seq = SeqLock.reset ∧ (∀ n : Fin 8, s.startWarm.ingest[n].enWanted = false) ∧
    s.startWarm.mode = s.mode := by
  have hstop := s.warmRecord.closeIngest.stopForWarm_keeps
  have hclose := s.warmRecord.closeIngest_keeps
  have hsquall : s.startWarm.squall.core = (s.beginSquall 3 true).squall.core := by
    rw [s.startWarm_eq, State.stopForWarm_squall, hclose.squallCore (by decide), s.warmRecord_squall]
  have hfab : s.startWarm.fab = s.warmRecord.closeIngest.fab := hstop.p .fab (by decide)
  have hfab' : s.warmRecord.closeIngest.fab = s.warmRecord.fab := hclose.p .fab (by decide)
  have hing : s.startWarm.ingest = s.warmRecord.closeIngest.ingest := hstop.p .ingest (by decide)
  have hseq (u : State) : u.warmFreeze.regs.seq = u.regs.seq := u.warmFreeze_keeps.p .regSeq (by decide)
  obtain ⟨hactive, hcause, hsave⟩ := Squall.fields_of_core hsquall
  obtain ⟨hactive', hcause', hsave'⟩ := s.beginSquall_record 3 true
  refine ⟨by rw [hfab, hfab']; rfl, hactive.trans hactive', hcause.trans hcause', hsave.trans hsave', ?_, fun n => ?_,
    s.startWarm_keeps.p .mode (by decide)⟩
  · rw [s.startWarm_eq, hseq, State.endCommands_seq]
  · rw [hing]
    exact State.foldl_ingOff_enWanted _ _ n (.inl (List.mem_finRange n))

theorem CkKept.modTrain (s : State) (c : Fin 80) (f : Train → Train) : CkKept s (s.modTrain c f) := .modSlice s c fun _ => rfl

theorem CkKept.pwr (s : State) (x : Power) : CkKept s { s with pwr := x } := ⟨rfl, fun _ => rfl⟩

theorem CkKept.stopSwitch (s : State) : CkKept s s.stopSwitch := by
  have hclear (u : State) : CkKept u u.clearSwitching := .foldl (fun u c => .ite (fun _ => .modTrain u c _) fun _ => .refl u) u
  exact (CkKept.pwr s _).trans (hclear _)

theorem CkKept.beginSquall (s : State) (cause : BitVec 8) (save : Bool) : CkKept s (s.beginSquall cause save) := ⟨rfl, fun _ => rfl⟩

theorem CkKept.fab (s : State) (x : Fabric) : CkKept s { s with fab := x } := ⟨rfl, fun _ => rfl⟩

/-- With no dirty check line a warm reset writes no memory. -/
theorem State.startWarm_mem {s : State} (h : ∀ c, s.ckClean c) : s.startWarm.mem = s.mem := by
  have hrecord : CkKept s s.warmRecord := ((CkKept.beginSquall s 3 true).trans (.stopSwitch _)).trans (.fab _ _)
  have hclose : CkKept s.warmRecord s.warmRecord.closeIngest :=
    .ofEq (s.warmRecord.closeIngest_keeps.p .mem (by decide)) (s.warmRecord.closeIngest_keeps.p .slices (by decide))
  have hbegun := hrecord.trans hclose
  have hdrain := hbegun.trans (State.drainAll_ckKept fun c => hbegun.ckClean (h c))
  have hstop (u : State) : u.stopCopies.endCommands.warmFreeze.mem = u.mem := by
    have hk : Keeps 0x236368d224c u u.stopCopies.endCommands.warmFreeze :=
      (State.warmFreeze_keeps _).on ((State.endCommands_keeps _).on (u.stopCopies_keeps.mono (by decide)) (by decide)) (by decide)
    exact hk.p .mem (by decide)
  rw [s.startWarm_eq, hstop, hdrain.mem]

/-! ### The limit (R139) -/

/-- Past the limit no request awaits write data: those that did end, and what follows makes none wait. -/
theorem State.warmLimit_noAwait {s : State} (h : s.fab.wrst = true) : ∀ r ∈ s.warmLimit.reqs, r.phase ≠ .awaitData := by
  simp only [State.warmLimit, h, Bool.true_eq_false, if_false]
  refine LedgerWork.noAwait (.on (.warmFreeze _) (.foldl (fun u r => .leaveReq u r) _)) fun r hr => ?_
  obtain ⟨q, -, rfl⟩ := List.mem_map.1 hr
  by_cases hq : q.phase = .awaitData <;> simp [hq]

end Sys2Proof.Machine

namespace Sys2Proof.Proofs
open Sys2Proof.Machine

/-- Settles O40: a cold reset part by part; a warm reset in service by the Squall that it starts (`State.startWarm_state`), the limit by
what it leaves of the requests (`State.warmLimit_noAwait`). -/
theorem resetCommands : Obligations.ResetCommands := by
  unfold Obligations.ResetCommands
  intro s
  refine ⟨⟨_, rfl, ?cold⟩, fun hc hl hm => ⟨_, rfl, ?rise⟩, fun hc hs hw hp => ⟨_, rfl, ?warm⟩, fun h => ?_, fun h => ⟨_, rfl, ?limit⟩⟩
  case cold =>
    have hk := s.coldReset_keeps
    obtain ⟨hmode, hkind, hlow, hcore, htb, hreqs, hpin, hsq⟩ := s.coldReset_state
    exact ⟨hmode, hkind, hlow, hcore, htb, hreqs, hpin, hsq, hk.ao_eq (by decide) (by decide), hk.p .mem (by decide), hk.p .keepA (by decide), hk.p .keepB (by decide)⟩
  case rise =>
    obtain ⟨u, hpin, hum, hrise⟩ := State.coldRise_of_mainPg hc hl hm
    obtain ⟨hpins, hcore, hlow, hstep, hmem⟩ := u.startCold_state
    rw [hrise]
    exact ⟨by rw [hpins, State.initAo_coldRstN, hpin], by rw [hpins, State.initAo_aoValid], hcore, hlow, hstep, hmem.trans hum⟩
  case warm =>
    rw [State.warmReset_of_service hc hs hw hp]
    obtain ⟨hwrst, hactive, hcause, hsave, hseq, hing, hmode⟩ := s.startWarm_state
    exact ⟨hwrst, hactive, hcause, hsave, hseq, hing, hmode, State.startWarm_mem⟩
  case limit => exact ⟨s.warmLimit_keeps.p .mode (by decide), State.warmLimit_noAwait h⟩
  · exact congrArg _ (State.warmReset_of_holdUp h)

end Sys2Proof.Proofs
end

section
/-!
Bring-up steps (O38). A slice that was found SHORT in the bring-up stays in self-refresh with STATE 9 (R233), and in service SELF_REFRESH_EXIT
takes it out of self-refresh and leaves its STATE: `Obligations.BringupSteps` says of every exit outside HOLD-UP that STATE is READY after it, and
has no hypothesis on the STATE of a slice that leaves self-refresh in service.
-/
namespace Sys2Proof.Proofs
open Sys2Proof.Machine

/-- A home slice that a bring-up has left in self-refresh as SHORT. -/
def shortSlice : Slice :=
  { Slice.reset with
    power := .selfRefresh, on := true, train := { Train.reset with st := 9 }, health := { Health.reset with role := roleHome, mem := some 0 } }

/-- A block in RUN, awake, whose slice 0 is that slice. -/
def inRunShort : State := { inRun with slices := inRun.slices.set 0 shortSlice }

/-- The exit order comes to it first. -/
theorem inRunShort_exitTurn : inRunShort.exitTurn 0 = true := by decide +kernel

theorem exec_selfRefreshExit_inRunShort : exec (.selfRefreshExit 0) inRunShort = .next (inRunShort.exitSlice 0) := by
  show Host.Outcome.next (if inRunShort.exitTurn 0 = true then _ else _) = _
  rw [if_pos inRunShort_exitTurn]

/-- It leaves self-refresh, and its STATE stays SHORT. -/
theorem inRunShort_exit_st : (inRunShort.exitSlice 0).slices[(0 : Fin 80)].train.st = 9 := by decide +kernel

/-- Refutes O38: in RUN, a slice in self-refresh whose STATE is SHORT (9) leaves self-refresh and is not READY (4) after it. -/
theorem not_bringupSteps : ¬ Obligations.BringupSteps := by
  unfold Obligations.BringupSteps
  intro h
  obtain ⟨-, -, -, -, -, -, hexit⟩ := h 0 ⟨0, 0, 0, 0, false, false, false, false, false⟩ 0 0 inRunShort
  obtain ⟨-, hready, -⟩ := hexit inRunShort_exitTurn
  obtain ⟨t, ht, -, -, -, hst, -⟩ := hready (by decide) (fun hm => absurd hm (by decide))
  obtain rfl : inRunShort.exitSlice 0 = t := by simpa [exec_selfRefreshExit_inRunShort] using ht
  exact absurd (inRunShort_exit_st.symm.trans hst) (by decide)

end Sys2Proof.Proofs
end

section
/-!
Raw slice lines: what a line reads as after it, or another one, has been written, and what a range of lines overwritten by a test leaves.
-/
namespace Sys2Proof.Machine

/-- The bytes of a number, little-endian, give it back modulo their range. -/
theorem foldr_bytes (n x : Nat) : ((List.range n).map fun k => x / 256 ^ k % 256).foldr (fun b acc => b + 256 * acc) 0 = x % 256 ^ n := by
  induction n generalizing x with
  | zero => simp [Nat.mod_one]
  | succ n ih =>
    have hmap : (List.range n).map ((fun k => x / 256 ^ k % 256) ∘ Nat.succ) = (List.range n).map fun k => x / 256 / 256 ^ k % 256 := by
      refine List.map_congr_left fun k _ => ?_
      simp [Nat.div_div_eq_div_mul, pow_succ']
    rw [List.range_succ_eq_map, List.map_cons, List.foldr_cons, List.map_map, hmap, ih, pow_succ', Nat.mod_mul]
    simp

theorem toNat_byteAt {w : Nat} (v : BitVec w) (k : Nat) : (byteAt v k).toNat = v.toNat / 256 ^ k % 256 := by
  simp [byteAt, BitVec.extractLsb'_toNat, Nat.shiftRight_eq_div_pow, pow_mul]

/-- The bytes of a line give it back. -/
theorem lineOf_lineBytes (l : Line) : lineOf (lineBytes l) = l := by
  refine BitVec.eq_of_toNat_eq ?_
  have hsum : (lineBytes l).foldr (fun b acc => b.toNat + 256 * acc) 0 = l.toNat % 256 ^ 64 := by
    rw [lineBytes, bytesOf, List.foldr_map, ← foldr_bytes, List.foldr_map]
    simp only [toNat_byteAt]
  have hlt := l.isLt
  have hexp : 256 ^ 64 = 2 ^ 512 := by rw [show 256 = 2 ^ 8 from rfl, ← pow_mul]
  rw [lineOf, wordOf, BitVec.toNat_ofNat, hsum, hexp, Nat.mod_eq_of_lt hlt, Nat.mod_eq_of_lt hlt]

theorem lineBytes_length (l : Line) : (lineBytes l).length = 64 := by simp [lineBytes, bytesOf]

/-! ### A line written -/

theorem State.setRawLine_mem (s : State) (c : Fin 80) (l : Nat) (d : Line) :
    (s.setRawLine c l d).mem = Memory.writeBytes s.mem (sliceByte c (64 * l)) (lineBytes (d ^^^ s.blankLine c l)) := by
  simp only [State.setRawLine]

/-- What unwritten lines read as does not hang on what has been written. -/
theorem State.blankLine_mem (s : State) (m : List Host.Cell) (c : Fin 80) (k : Nat) : State.blankLine { s with mem := m } c k = s.blankLine c k := rfl

theorem State.blankLine_setRawLine (s : State) (c : Fin 80) (l : Nat) (d : Line) (k : Nat) :
    (s.setRawLine c l d).blankLine c k = s.blankLine c k := by
  rw [State.setRawLine, State.blankLine_mem]

section
variable {s : State} (h : Memory.wf s.mem = true) (c : Fin 80) (l : Nat) (d : Line)
include h

theorem State.setRawLine_wf : Memory.wf (s.setRawLine c l d).mem = true := by
  rw [State.setRawLine_mem]
  exact Memory.writeBytes_wf _ _ h

/-- No byte outside the line changes. -/
theorem State.setRawLine_read_other {a : Nat} (ha : a < sliceByte c (64 * l) ∨ sliceByte c (64 * l) + 64 ≤ a) :
    Memory.read (s.setRawLine c l d).mem a = Memory.read s.mem a := by
  rw [State.setRawLine_mem]
  exact Memory.read_writeBytes_other _ a _ h (by rwa [lineBytes_length])

theorem State.rawLine_setRawLine_same : (s.setRawLine c l d).rawLine c l = d := by
  have hread : Memory.readBytes (s.setRawLine c l d).mem (sliceByte c (64 * l)) 64 = lineBytes (d ^^^ s.blankLine c l) := by
    refine List.ext_getElem (by simp [Memory.readBytes, lineBytes_length]) fun k _ hk => ?_
    simpa [Memory.readBytes, State.setRawLine_mem] using Memory.read_writeBytes_same (sliceByte c (64 * l)) k _ h hk
  rw [State.rawLine, hread, lineOf_lineBytes, State.blankLine_setRawLine, BitVec.xor_assoc, BitVec.xor_self, BitVec.xor_zero]

/-- Every other line of the slice reads as before. -/
theorem State.rawLine_setRawLine_other {k : Nat} (hk : k ≠ l) : (s.setRawLine c l d).rawLine c k = s.rawLine c k := by
  have hread : Memory.readBytes (s.setRawLine c l d).mem (sliceByte c (64 * k)) 64 = Memory.readBytes s.mem (sliceByte c (64 * k)) 64 := by
    refine List.map_congr_left fun i hi => State.setRawLine_read_other h c l d ?_
    have hi := List.mem_range.1 hi
    simp only [sliceByte]
    omega
  rw [State.rawLine, hread, State.blankLine_setRawLine, State.rawLine]

end

/-! ### Lines lost in a test (R405) -/

/-- The lines of a range overwritten one by one. -/
def State.spoilRange (s : State) (c : Fin 80) (seed first n : Nat) : State :=
  (List.range n).foldl (fun (s : State) (k : Nat) => s.spoilLine c seed (first + k)) s

theorem State.spoilRange_succ (s : State) (c : Fin 80) (seed first n : Nat) :
    s.spoilRange c seed first (n + 1) = (s.spoilRange c seed first n).spoilLine c seed (first + n) := by
  simp [State.spoilRange, List.range_succ]

section
variable {s : State} (h : Memory.wf s.mem = true) (c : Fin 80) (seed first : Nat)
include h

theorem State.spoilRange_wf (n : Nat) : Memory.wf (s.spoilRange c seed first n).mem = true := by
  induction n with
  | zero => exact h
  | succ n ih =>
    rw [State.spoilRange_succ]
    exact State.setRawLine_wf ih ..

/-- Each line of the range is lost. -/
theorem State.spoilRange_rawLine {n k : Nat} (hk : k < n) : (s.spoilRange c seed first n).rawLine c (first + k) = Config.lostLine seed c.val (first + k) := by
  induction n with
  | zero => omega
  | succ n ih =>
    have hwf := State.spoilRange_wf h c seed first n
    rw [State.spoilRange_succ, State.spoilLine]
    rcases Nat.lt_succ_iff_lt_or_eq.1 hk with hlt | rfl
    · rw [State.rawLine_setRawLine_other hwf c _ _ (by omega), ih hlt]
    · exact State.rawLine_setRawLine_same hwf c _ _

/-- No byte outside the range changes. -/
theorem State.spoilRange_read_other {n a : Nat} (ha : a < sliceByte c (64 * first) ∨ sliceByte c (64 * first) + 64 * n ≤ a) :
    Memory.read (s.spoilRange c seed first n).mem a = Memory.read s.mem a := by
  induction n with
  | zero => rfl
  | succ n ih =>
    simp only [sliceByte] at ha ih
    rw [State.spoilRange_succ, State.spoilLine, State.setRawLine_read_other (State.spoilRange_wf h c seed first n) c _ _ (by simp only [sliceByte]; omega)]
    exact ih (by omega)

end

end Sys2Proof.Machine
end

section
/-!
Mailboxes (R404 to R407): what a ring leads to, what the end of a command leaves in the mailbox, and what a reset leaves of it.
-/
namespace Sys2Proof.Machine

/-! ### Sources raised (R372) -/

theorem getKey_setKey {α : Type} (l : List (Nat × α)) (k : Nat) (v : α) : getKey (setKey l k v) k = some v := by
  induction l with
  | nil => simp [setKey, getKey]
  | cons x l ih =>
    obtain ⟨k', v'⟩ := x
    simp only [setKey]
    split_ifs with hlt heq
    · simp [getKey, ih, show k' ≠ k by omega]
    · simp [getKey]
    · simp [getKey]

theorem getKey_dropKey {α : Type} (l : List (Nat × α)) (k : Nat) : getKey (dropKey l k) k = none := by
  induction l with
  | nil => rfl
  | cons x l ih =>
    obtain ⟨k', v'⟩ := x
    simp only [dropKey]
    split_ifs with heq
    · exact ih
    · simp [getKey, heq, ih]

/-- A header reads as it was set. -/
theorem State.setHeader_self (s : State) (page : Nat) (h : Header) : (s.setHeader page h).header page = h := by
  simp only [State.setHeader, State.header]
  split_ifs with hreset
  · rw [getKey_dropKey, hreset]; rfl
  · rw [getKey_setKey]; rfl

/-- A source that the page has is set after it has been raised. -/
theorem State.raise_intRaw (s : State) {page j : Nat} (h : (flag true j &&& sourceMask page).getLsbD j = true) :
    ((s.raise page j).intRaw page).getLsbD j = true := by
  rw [State.intRaw, State.raise, State.raiseMask, State.modHeader, State.setHeader_self, BitVec.getLsbD_or, h, Bool.or_true]

/-! ### The end of a command (R404) -/

/-- The return words that a command leaves: those it names, and free values. -/
def State.returnWords (s : State) (words : List Reg) : Vector Reg 4 :=
  Vector.ofFn fun i => (words[i.val]?).getD (Config.freeValue 32 (s.free + i.val))

section
variable (s : State) (v : Fin 24) (code : BitVec 4) (reason : BitVec 8) (words : List Reg)

theorem State.mboxEnd_self : (s.mboxEnd v code reason words).vanes[v] = { s.vanes[v] with
    busy := false, doneBit := true, code := code, reason := reason, seq := s.vanes[v].seq + 1, rdata := s.returnWords words, abortReq := false
    refuseCnt := if code = 0 then s.vanes[v].refuseCnt else satInc s.vanes[v].refuseCnt } := by
  rw [State.mboxEnd, State.raise_vanes, State.modVane_self]
  rfl

theorem State.mboxEnd_other {j : Fin 24} (hj : j ≠ v) : (s.mboxEnd v code reason words).vanes[j] = s.vanes[j] := by
  rw [State.mboxEnd, State.raise_vanes, State.modVane_other _ _ _ _ hj]

@[simp] theorem State.mboxEnd_mode : (s.mboxEnd v code reason words).mode = s.mode := rfl
@[simp] theorem State.mboxEnd_squall : (s.mboxEnd v code reason words).squall = s.squall := rfl

/-- GLB's source of a completed command is set. -/
theorem State.mboxEnd_intRaw : ((s.mboxEnd v code reason words).intRaw pageGlb).getLsbD 2 = true := State.raise_intRaw _ (by decide)

end

/-! ### Rings (R404 to R406) -/

/-- A mailbox that has taken a ring. -/
def State.mboxLatch (s : State) (v : Fin 24) (op : Byte) (a : Vector Reg 4) : State :=
  s.modVane v fun x => { x with busy := true, doneBit := false, ringLost := false, op := op, args := a, abortReq := false, cmdCnt := satInc x.cmdCnt }

/-- A ring on an idle mailbox of a page that takes writes. -/
theorem State.ringOn_of_idle {s : State} {v : Fin 24} (hl : s.pageLive (pageVane v) = true) (hb : s.vanes[v].busy = false) (op : Byte) (a : Vector Reg 4) :
    s.ringOn v op a = (s.mboxLatch v op a).mboxTake v op a := by
  simp only [State.ringOn, State.whenLive, hl, if_true, State.mboxRing, hb, Bool.false_eq_true, if_false]
  rfl

theorem State.mboxLatch_self (s : State) (v : Fin 24) (op : Byte) (a : Vector Reg 4) : (s.mboxLatch v op a).vanes[v] =
    { s.vanes[v] with busy := true, doneBit := false, ringLost := false, op := op, args := a, abortReq := false, cmdCnt := satInc s.vanes[v].cmdCnt } :=
  State.modVane_self _ _ _

section
variable {s : State} {v : Fin 24} {op : Byte} {a : Vector Reg 4}

/-- DIAG_ENTER refused by a condition of R26. -/
theorem State.mboxTake_of_diagReason (hp : s.parity (pageVane v) = false) (hl : opListed v opDiagEnter = true) (hr : s.diagReason ≠ 0) :
    s.mboxTake v opDiagEnter a = s.mboxEnd v 1 s.diagReason [] := by
  simp only [State.mboxTake, hp, hl, Bool.false_eq_true, Bool.true_eq_false, if_false, true_and]
  exact if_pos hr

/-- A command that the mode does not list. -/
theorem State.mboxTake_of_mode (hp : s.parity (pageVane v) = false) (hl : opListed v op = true) (hr : ¬(op = opDiagEnter ∧ s.diagReason ≠ 0))
    (hm : s.opMode op = false) : s.mboxTake v op a = s.mboxEnd v 1 0xF [] := by
  simp only [State.mboxTake, hp, hl, hr, hm, Bool.false_eq_true, Bool.true_eq_false, if_false, if_true]

/-- A command that passes every check. -/
theorem State.mboxTake_of_args (hp : s.parity (pageVane v) = false) (hl : opListed v op = true) (hr : ¬(op = opDiagEnter ∧ s.diagReason ≠ 0))
    (hm : s.opMode op = true) (ha : s.opArgs v op a = true) : s.mboxTake v op a = s.mboxStart v op a := by
  simp only [State.mboxTake, hp, hl, hr, hm, ha, Bool.false_eq_true, Bool.true_eq_false, if_false]

end

end Sys2Proof.Machine
end

section
/-!
DIAGNOSTIC (O48): the Squall that DIAG_ENTER starts, the warm bring-up that DIAG_EXIT begins, BIST and PATTERN, and the ends of commands.
-/
namespace Sys2Proof.Machine

/-! ### DIAG_ENTER (R26, R406) -/

/-- No condition of R26 stands against an entry in RUN alone. -/
theorem State.mode_of_diagReason {s : State} (h : s.diagReason = 0) : s.mode.mode = .run := by
  by_contra hm
  simp [State.diagReason, hm] at h

/-- The diagnostic-entry Squall: begun, saving, with nothing to drain, and no memory written where no check line is dirty. -/
theorem State.enterDiag_state {s : State} (v : Fin 24) (h : s.fab.wrst = false) : (s.enterDiag v).squall.active = true ∧ (s.enterDiag v).squall.cause = 4 ∧
    (s.enterDiag v).squall.save = true ∧ (s.enterDiag v).squall.drained = true ∧ (s.enterDiag v).vanes = s.vanes ∧ (s.enterDiag v).mode = s.mode ∧
    ((∀ c, s.ckClean c) → (s.enterDiag v).mem = s.mem) := by
  rw [State.enterDiag, if_neg (by rw [h]; exact Bool.false_ne_true)]
  extract_lets +onlyGivenNames t
  have hdrain : Keeps 0x10000800000 (s.beginSquall 4 true) t := State.drainAll_keeps _
  have hsquall : t.squall.core = (s.beginSquall 4 true).squall.core := hdrain.squallCore (by decide)
  have hvanes : t.vanes = s.vanes := hdrain.p .vanes (by decide)
  have hmode : t.mode = s.mode := hdrain.p .mode (by decide)
  have hmem (hc : ∀ c, s.ckClean c) : t.mem = s.mem :=
    ((CkKept.beginSquall s 4 true).trans (State.drainAll_ckKept fun c => (CkKept.beginSquall s 4 true).ckClean (hc c))).mem
  clear_value t
  obtain ⟨hactive, hcause, hsave⟩ := Squall.fields_of_core hsquall
  obtain ⟨hactive', hcause', hsave'⟩ := s.beginSquall_record 4 true
  have hwake := State.wakeBy_keeps { t with squall := { t.squall with drained := true } } 5
  have hq := hwake.squallCore (by decide)
  obtain ⟨ha, hc, hs⟩ := Squall.fields_of_core hq
  have hd := congrArg Squall.drained hq
  exact ⟨ha.trans (hactive.trans hactive'), hc.trans (hcause.trans hcause'), hs.trans (hsave.trans hsave'), hd,
    Eq.trans (hwake.p .vanes (by decide)) hvanes, Eq.trans (hwake.p .mode (by decide)) hmode, fun h => Eq.trans (hwake.p .mem (by decide)) (hmem h)⟩

/-! ### DIAG_EXIT (R407) -/

/-- An idle mailbox is not touched by what ends the commands in progress. -/
theorem State.mboxStop_idle {s : State} {v : Fin 24} (h : s.vanes[v].busy = false) : s.mboxStop.vanes[v] = s.vanes[v] := by
  unfold State.mboxStop
  extract_lets diag
  refine List.foldlRecOn (motive := fun (u : State) => u.vanes[v] = s.vanes[v]) _ _ rfl fun u hu w _ => ?_
  split_ifs with hw
  · have hne : v ≠ w := by
      rintro rfl
      simp only [hu, h, Bool.false_and, Bool.false_eq_true] at hw
    rw [State.mboxEnd_other _ _ _ _ _ hne, hu]
  · exact hu

/-- The always-on contents, GLB_MAP and the slices' domains, as a warm bring-up begins with them. -/
theorem State.bootMap_keeps (s : State) : Keeps 0x106c302e2 s (s.initAo.applyPoint pageGlb .boot).powerSlices :=
  (State.powerSlices_keeps _).on ((State.applyPoint_keeps _ _ _).on (s.initAo_keeps.mono (by decide)) (by decide)) (by decide)

theorem State.coreReset_vane (s : State) (k : ResetKind) (v : Fin 24) : (s.coreReset k).vanes[v] = s.vanes[v].afterReset k := by
  simp only [State.coreReset]
  exact Vector.getElem_map ..

/-- A warm bring-up runs as a cold one with the always-on contents lost (R293), and every mailbox is reset. -/
theorem State.warmBringup_state (s : State) (k : BuKind) : (s.warmBringup k).mode.mode = .bringUp ∧
    (s.warmBringup k).mode.buKind = (if s.pins.aoValid then k else .cold) ∧ ∀ v : Fin 24, (s.warmBringup k).vanes[v] = s.vanes[v].afterReset .warm := by
  unfold State.warmBringup
  extract_lets +onlyGivenNames t u
  have hu : Keeps 0x106c302e2 ((s.parkSlices.coreReset .warm).beginBringup (if s.pins.aoValid then k else .cold)) u := State.bootMap_keeps _
  have hmode : u.mode = _ := hu.p .mode (by decide)
  have hvanes : u.vanes = _ := hu.p .vanes (by decide)
  have hbegin : ((s.parkSlices.coreReset .warm).beginBringup (if s.pins.aoValid then k else .cold)).vanes = (s.parkSlices.coreReset .warm).vanes :=
    (State.beginBringup_keeps _ _).p .vanes (by decide)
  clear_value u
  have hpark : s.parkSlices.vanes = s.vanes := s.parkSlices_keeps.p .vanes (by decide)
  refine ⟨by simp [hmode, State.beginBringup_mode], by simp [hmode, State.beginBringup_mode], fun v => ?_⟩
  have hmap : u.vanes[v] = s.vanes[v].afterReset .warm := by rw [hvanes, hbegin, State.coreReset_vane, hpark]
  exact hmap

/-- What leaving DIAGNOSTIC ends before its bring-up. -/
theorem State.stopForExit_keeps (s : State) : Keeps 0x27000012244 s (s.endCommands.dbgStop true) :=
  (State.dbgStop_keeps _ _).on (s.endCommands_keeps.mono (by decide)) (by decide)

/-- What leaving DIAGNOSTIC leaves of a mailbox that is idle. -/
theorem State.leaveDiag_vane {s : State} {v : Fin 24} (h : s.vanes[v].busy = false) : s.leaveDiag.vanes[v] = s.vanes[v].afterReset .warm := by
  have hkeep (u : State) : (s.keepFailed u).vanes = u.vanes := (State.keepFailed_keeps s u).p .vanes (by decide)
  have hlock : s.freeLock.vanes = s.vanes := s.freeLock_keeps.p .vanes (by decide)
  have hstop (u : State) : (u.patchInterrupt.otpInterrupt.dbgStop true).vanes = u.vanes :=
    ((State.dbgStop_keeps _ _).on ((State.otpInterrupt_keeps _).on (u.patchInterrupt_keeps.mono (n := 0x25000010240) (by decide)) (by decide)) (by decide)).p
      .vanes (by decide)
  have hidle : s.freeLock.vanes[v].busy = false := by rw [hlock]; exact h
  obtain ⟨-, -, hvane⟩ := (s.endCommands.dbgStop true).warmBringup_state .warm
  rw [State.leaveDiag, hkeep, hvane, State.endCommands, hstop, State.mboxStop_idle hidle, hlock]

/-- The bring-up that follows DIAGNOSTIC: warm, or cold with the always-on contents lost. -/
theorem State.leaveDiag_mode (s : State) : s.leaveDiag.mode.mode = .bringUp ∧ s.leaveDiag.mode.buKind = if s.pins.aoValid then .warm else .cold := by
  have hkeep (u : State) : (s.keepFailed u).mode = u.mode := (State.keepFailed_keeps s u).p .mode (by decide)
  have hpins : (s.endCommands.dbgStop true).pins = s.pins := s.stopForExit_keeps.p .pins (by decide)
  obtain ⟨hmode, hkind, -⟩ := (s.endCommands.dbgStop true).warmBringup_state .warm
  rw [State.leaveDiag, hkeep]
  exact ⟨hmode, by rw [hkind, hpins]⟩

end Sys2Proof.Machine
end

section
/-!
The obligation on DIAGNOSTIC (O48), command by command.
-/
namespace Sys2Proof.Machine

/-! ### Rings that a vane takes, by operation (R405) -/

section
variable {s : State} {v : Fin 24} {op : Byte} {a : Vector Reg 4} (hl : s.pageLive (pageVane v) = true) (hp : s.parity (pageVane v) = false)
  (hb : s.vanes[v].busy = false)
include hl hp hb

/-- A ring that passes every check starts its command on the latched mailbox. -/
theorem State.ringOn_start (hop : opListed v op = true) (hr : op = opDiagEnter → s.diagReason = 0) (hm : s.opMode op = true) (ha : s.opArgs v op a = true) :
    s.ringOn v op a = (s.mboxLatch v op a).mboxStart v op a := by
  rw [State.ringOn_of_idle hl hb]
  exact State.mboxTake_of_args hp hop (fun h => h.2 (hr h.1)) hm ha

/-- A ring of an operation other than DIAG_ENTER that the mode does not list ends REFUSED with REASON 0xF. -/
theorem State.ringOn_refused (hop : opListed v op = true) (hne : op ≠ opDiagEnter) (hm : s.opMode op = false) :
    s.ringOn v op a = (s.mboxLatch v op a).mboxEnd v 1 0xF [] := by
  rw [State.ringOn_of_idle hl hb]
  exact State.mboxTake_of_mode hp hop (fun h => hne h.1) hm

/-- What such a refusal leaves. -/
theorem State.ringOn_refused_state (hop : opListed v op = true) (hne : op ≠ opDiagEnter) (hm : s.opMode op = false) :
    (s.ringOn v op a).vanes[v].busy = false ∧ (s.ringOn v op a).vanes[v].doneBit = true ∧ (s.ringOn v op a).vanes[v].code = 1 ∧
      (s.ringOn v op a).vanes[v].reason = 0xF ∧ (s.ringOn v op a).ledger = s.ledger ∧ (s.ringOn v op a).mem = s.mem := by
  have hself := State.mboxEnd_self (s.mboxLatch v op a) v 1 0xF []
  rw [State.ringOn_refused hl hp hb hop hne hm]
  exact ⟨by rw [hself], by rw [hself], by rw [hself], by rw [hself], rfl, rfl⟩

end

/-- BIST and PATTERN are listed in DIAGNOSTIC alone. -/
theorem State.opMode_of_not_diagnostic {s : State} (h : s.mode.mode ≠ .diagnostic) : s.opMode opBist = false ∧ s.opMode opPattern = false := by
  unfold State.opMode
  split
  case h_4 hdiag => exact absurd hdiag h
  all_goals decide

section
variable (s : State) (v : Fin 24) (a : Vector Reg 4)

theorem State.mboxStart_diagEnter : s.mboxStart v opDiagEnter a = s.enterDiag v := by rw [State.mboxStart, if_pos rfl]

theorem State.mboxStart_diagExit : s.mboxStart v opDiagExit a = s.exitDiag := by
  rw [State.mboxStart, if_neg (show opDiagExit ≠ opDiagEnter by decide), if_pos rfl]

theorem State.mboxStart_bist : s.mboxStart v opBist a = s.runBist a[0] := by
  rw [State.mboxStart, if_neg (show opBist ≠ opDiagEnter by decide), if_neg (show opBist ≠ opDiagExit by decide), if_pos rfl]

theorem State.mboxStart_pattern : s.mboxStart v opPattern a = s.runPattern a := by
  rw [State.mboxStart, if_neg (show opPattern ≠ opDiagEnter by decide), if_neg (show opPattern ≠ opDiagExit by decide),
    if_neg (show opPattern ≠ opBist by decide), if_pos rfl]

end

/-- A command without checked arguments passes their check. -/
theorem State.opArgs_of_ne {op : Byte} (h : op ≠ opPattern) (s : State) (v : Fin 24) (a : Vector Reg 4) : s.opArgs v op a = true := by
  simp [State.opArgs, h]

/-- DIAG_EXIT ends OK, and its outcome stays to be read in the bring-up it begins. -/
theorem State.exitDiag_state (s : State) : s.exitDiag.mode.mode = .bringUp ∧ s.exitDiag.mode.buKind = (if s.pins.aoValid then .warm else .cold) ∧
    s.exitDiag.vanes[(23 : Fin 24)].doneBit = true ∧ s.exitDiag.vanes[(23 : Fin 24)].code = 0 := by
  have hself := (s.mboxEnd 23 0 0 []).modVane_self 23 fun x => { x with keepRes := true }
  rw [State.mboxEnd_self] at hself
  obtain ⟨hbring, hkind⟩ := ((s.mboxEnd 23 0 0 []).modVane 23 fun x => { x with keepRes := true }).leaveDiag_mode
  have hvane := State.leaveDiag_vane (congrArg Vane.busy hself)
  rw [hself] at hvane
  exact ⟨hbring, hkind, congrArg Vane.doneBit hvane, congrArg Vane.code hvane⟩

/-- PATTERN overwrites the lines of its range, and marks the slice's group. -/
theorem State.runPattern_eq (s : State) (a : Vector Reg 4) :
    s.runPattern a = (s.tookFree.touchGroup (sliceOf (fieldOf a[0] 6 0))).spoilRange (sliceOf (fieldOf a[0] 6 0)) s.free a[2].toNat a[3].toNat := rfl

/-- PATTERN is listed for the sixteen vanes of the slices. -/
theorem opListed_pattern {v : Fin 24} (hv : v.val < 16) : opListed v opPattern = true := by simp [opListed, hv]

/-- The slice that PATTERN's first argument names. -/
theorem fieldOf_sliceArg (slice : BitVec 7) : fieldOf (slice.setWidth 32) 6 0 = slice.toNat := by
  have := slice.isLt
  simp only [fieldOf, BitVec.toNat_setWidth]
  omega

/-! ### The clauses of O48 -/

section
variable {s : State} (hl : s.pageLive (pageVane 23) = true) (hp : s.parity (pageVane 23) = false) (hb : s.vanes[(23 : Fin 24)].busy = false)
include hl hp hb

/-- DIAG_ENTER that nothing refuses. -/
theorem State.ringOn_diagEnter (hr : s.diagReason = 0) (a : Vector Reg 4) :
    s.ringOn 23 opDiagEnter a = (s.mboxLatch 23 opDiagEnter a).enterDiag 23 := by
  have hm : s.opMode opDiagEnter = true := by rw [State.opMode, State.mode_of_diagReason hr]; decide
  rw [State.ringOn_start hl hp hb (by decide) (fun _ => hr) hm (State.opArgs_of_ne (by decide) ..), State.mboxStart_diagEnter]

theorem diagEnter_squall (hr : s.diagReason = 0) (hw : s.fab.wrst = false) :
    Completes .diagEnter s fun t => t.squall.active = true ∧ t.squall.cause = 4 ∧ t.squall.save = true ∧
      t.squall.drained = true ∧ t.vanes[(23 : Fin 24)].busy = true ∧ t.vanes[(23 : Fin 24)].op = opDiagEnter ∧ t.mode = s.mode ∧
      ((∀ c : Fin 80, s.slices[c].sched.ckc.any CkLine.dirty = false) → t.mem = s.mem) := by
  obtain ⟨hactive, hcause, hsave, hdrained, hvanes, hmode, hmem⟩ := State.enterDiag_state (s := s.mboxLatch 23 opDiagEnter (s.mboxArgs 23)) 23 hw
  refine ⟨_, rfl, ?_⟩
  rw [State.ringOn_diagEnter hl hp hb hr]
  have hself := s.mboxLatch_self 23 opDiagEnter (s.mboxArgs 23)
  exact ⟨hactive, hcause, hsave, hdrained, by rw [hvanes, hself], by rw [hvanes, hself], hmode, hmem⟩

theorem diagEnter_aborted (hr : s.diagReason = 0) (hw : s.fab.wrst = true) :
    Completes .diagEnter s fun t => t.vanes[(23 : Fin 24)].busy = false ∧ t.vanes[(23 : Fin 24)].doneBit = true ∧
      t.vanes[(23 : Fin 24)].code = 4 ∧ t.mode = s.mode ∧ t.squall = s.squall ∧ t.mem = s.mem := by
  refine ⟨_, rfl, ?_⟩
  have habort : (s.mboxLatch 23 opDiagEnter (s.mboxArgs 23)).enterDiag 23 = (s.mboxLatch 23 opDiagEnter (s.mboxArgs 23)).mboxEnd 23 4 0 [] := if_pos hw
  rw [State.ringOn_diagEnter hl hp hb hr, habort]
  have hself := State.mboxEnd_self (s.mboxLatch 23 opDiagEnter (s.mboxArgs 23)) 23 4 0 []
  exact ⟨by rw [hself], by rw [hself], by rw [hself], rfl, rfl, rfl⟩

theorem diagEnter_refused (hr : s.diagReason ≠ 0) :
    Completes .diagEnter s fun t => t.vanes[(23 : Fin 24)].code = 1 ∧ t.vanes[(23 : Fin 24)].reason = s.diagReason ∧
      t.vanes[(23 : Fin 24)].doneBit = true ∧ t.mode = s.mode ∧ t.squall = s.squall := by
  refine ⟨_, rfl, ?_⟩
  have hrefuse : (s.mboxLatch 23 opDiagEnter (s.mboxArgs 23)).mboxTake 23 opDiagEnter (s.mboxArgs 23) =
      (s.mboxLatch 23 opDiagEnter (s.mboxArgs 23)).mboxEnd 23 1 s.diagReason [] := State.mboxTake_of_diagReason hp (by decide) hr
  rw [State.ringOn_of_idle hl hb, hrefuse]
  have hself := State.mboxEnd_self (s.mboxLatch 23 opDiagEnter (s.mboxArgs 23)) 23 1 s.diagReason []
  exact ⟨congrArg Vane.code hself, congrArg Vane.reason hself, congrArg Vane.doneBit hself, rfl, rfl⟩

theorem diagExit_bringup (hm : s.mode.mode = .diagnostic) :
    Completes .diagExit s fun t => t.mode.mode = .bringUp ∧ t.mode.buKind = (if s.pins.aoValid then .warm else .cold) ∧
      t.vanes[(23 : Fin 24)].doneBit = true ∧ t.vanes[(23 : Fin 24)].code = 0 := by
  have hmode : s.opMode opDiagExit = true := by rw [State.opMode, hm]; decide
  have hring := State.ringOn_start hl hp hb (a := s.mboxArgs 23) (by decide) (fun h => absurd h (by decide)) hmode (State.opArgs_of_ne (by decide) ..)
  rw [State.mboxStart_diagExit] at hring
  exact ⟨_, congrArg Host.Outcome.next hring, State.exitDiag_state _⟩

theorem bist_started (hm : s.mode.mode = .diagnostic) (sets : BitVec 6) :
    Completes (.bist sets) s fun t => t.vanes[(23 : Fin 24)].busy = true ∧ t.vanes[(23 : Fin 24)].op = opBist ∧
      t.vanes[(23 : Fin 24)].args[0] = sets.setWidth 32 ∧ t.mode = s.mode ∧ t.mem = s.mem := by
  have hmode : s.opMode opBist = true := by rw [State.opMode, hm]; decide
  have hring := State.ringOn_start hl hp hb (a := (s.mboxArgs 23).set 0 (sets.setWidth 32)) (by decide) (fun h => absurd h (by decide)) hmode
    (State.opArgs_of_ne (by decide) ..)
  rw [State.mboxStart_bist] at hring
  have hself := s.mboxLatch_self 23 opBist ((s.mboxArgs 23).set 0 (sets.setWidth 32))
  have hrun := State.runBist_keeps (s.mboxLatch 23 opBist ((s.mboxArgs 23).set 0 (sets.setWidth 32))) ((s.mboxArgs 23).set 0 (sets.setWidth 32))[0]
  have hvanes := congrArg (fun l : Vector Vane 24 => l[(23 : Fin 24)]) (hrun.p .vanes (by decide))
  have hvane := hvanes.trans hself
  refine ⟨_, congrArg Host.Outcome.next hring, congrArg Vane.busy hvane, congrArg Vane.op hvane, ?_, hrun.p .mode (by decide), hrun.p .mem (by decide)⟩
  exact (congrArg (fun x : Vane => x.args[0]) hvane).trans (Vector.getElem_set_self ..)

theorem bist_refused (hm : s.mode.mode ≠ .diagnostic) (sets : BitVec 6) :
    Completes (.bist sets) s fun t => t.vanes[(23 : Fin 24)].busy = false ∧ t.vanes[(23 : Fin 24)].doneBit = true ∧
      t.vanes[(23 : Fin 24)].code = 1 ∧ t.vanes[(23 : Fin 24)].reason = 0xF ∧ t.ledger = s.ledger ∧ t.mem = s.mem :=
  ⟨_, rfl, State.ringOn_refused_state hl hp hb (by decide) (by decide) (State.opMode_of_not_diagnostic hm).1⟩

end

section
variable {s : State} {v : Fin 24} (hl : s.pageLive (pageVane v) = true) (hp : s.parity (pageVane v) = false) (hb : s.vanes[v].busy = false)
  (hv : v.val < 16)
include hl hp hb hv

theorem pattern_refused (hm : s.mode.mode ≠ .diagnostic) (slice : BitVec 7) (pat : BitVec 2) (seed : BitVec 16) (first count : Reg) :
    Completes (.pattern v slice pat seed first count) s fun t => t.vanes[v].busy = false ∧ t.vanes[v].doneBit = true ∧ t.vanes[v].code = 1 ∧
      t.vanes[v].reason = 0xF ∧ t.mem = s.mem := by
  obtain ⟨hbusy, hdone, hcode, hreason, -, hmem⟩ := State.ringOn_refused_state hl hp hb
    (a := #v[slice.setWidth 32, fld seed.toNat 16 ||| pat.setWidth 32, first, count]) (opListed_pattern hv) (by decide)
    (State.opMode_of_not_diagnostic hm).2
  exact ⟨_, rfl, hbusy, hdone, hcode, hreason, hmem⟩

/-- PATTERN that starts, for arguments whose first names the slice. -/
theorem State.ringOn_pattern (hm : s.mode.mode = .diagnostic) {a : Vector Reg 4} (ha : s.patternArgs v a = true) {c : Fin 80}
    (hc : sliceOf (fieldOf a[0] 6 0) = c) :
    s.ringOn v opPattern a = ((s.mboxLatch v opPattern a).tookFree.touchGroup c).spoilRange c s.free a[2].toNat a[3].toNat := by
  have hmode : s.opMode opPattern = true := by rw [State.opMode, hm]; decide
  rw [State.ringOn_start hl hp hb (opListed_pattern hv) (fun h => absurd h (by decide)) hmode (by simpa [State.opArgs] using ha), State.mboxStart_pattern,
    State.runPattern_eq, hc]
  rfl

theorem pattern_started (hm : s.mode.mode = .diagnostic) {slice : BitVec 7} {pat : BitVec 2} {seed : BitVec 16} {first count : Reg}
    (ha : s.patternArgs v #v[slice.setWidth 32, fld seed.toNat 16 ||| pat.setWidth 32, first, count] = true) (hwf : Memory.wf s.mem = true) :
    Completes (.pattern v slice pat seed first count) s fun t => t.vanes[v].busy = true ∧ t.vanes[v].op = opPattern ∧
      t.vanes[v].args = #v[slice.setWidth 32, fld seed.toNat 16 ||| pat.setWidth 32, first, count] ∧ t.mode = s.mode ∧
      (∀ k < count.toNat, t.rawLine (sliceOf slice.toNat) (first.toNat + k) = Config.lostLine s.free (sliceOf slice.toNat).val (first.toNat + k)) ∧
      ∀ a, (a < sliceByte (sliceOf slice.toNat) (64 * first.toNat) ∨ sliceByte (sliceOf slice.toNat) (64 * first.toNat) + 64 * count.toNat ≤ a) →
        Memory.read t.mem a = Memory.read s.mem a := by
  have hc : sliceOf (fieldOf (#v[slice.setWidth 32, fld seed.toNat 16 ||| pat.setWidth 32, first, count] : Vector Reg 4)[0] 6 0) = sliceOf slice.toNat :=
    congrArg sliceOf (fieldOf_sliceArg slice)
  have hring := State.ringOn_pattern hl hp hb hv hm ha hc
  have hself := s.mboxLatch_self v opPattern #v[slice.setWidth 32, fld seed.toNat 16 ||| pat.setWidth 32, first, count]
  have hrun := State.runPattern_keeps (s.mboxLatch v opPattern #v[slice.setWidth 32, fld seed.toNat 16 ||| pat.setWidth 32, first, count])
    #v[slice.setWidth 32, fld seed.toNat 16 ||| pat.setWidth 32, first, count]
  rw [State.runPattern_eq, hc] at hrun
  have htouch := State.touchGroup_keeps (s.mboxLatch v opPattern #v[slice.setWidth 32, fld seed.toNat 16 ||| pat.setWidth 32, first, count]).tookFree
    (sliceOf slice.toNat)
  have hmem := htouch.p .mem (by decide)
  have hvane := (congrArg (fun l : Vector Vane 24 => l[v]) (hrun.p .vanes (by decide))).trans hself
  have hwf' : Memory.wf _ = true := hmem ▸ hwf
  refine ⟨_, congrArg Host.Outcome.next hring, congrArg Vane.busy hvane, congrArg Vane.op hvane, congrArg Vane.args hvane, hrun.p .mode (by decide), fun k hk => ?_,
    fun b hout => ?_⟩
  · exact State.spoilRange_rawLine hwf' _ _ _ hk
  · exact (State.spoilRange_read_other hwf' _ _ _ hout).trans (congrArg (Memory.read · b) hmem)

end

end Sys2Proof.Machine
end

section
/-!
The end of a command, with the code and the words of its OP (R404 to R406), and the obligation on DIAGNOSTIC (O48).
-/
namespace Sys2Proof.Machine

/-! ### The end of a command, by operation -/

section
variable {s : State} {v : Fin 24} (hb : s.vanes[v].busy = true)
include hb

theorem State.mboxFinish_aborted (ha : s.vanes[v].abortReq = true) (r0 r1 r2 : Reg) : s.mboxFinish v r0 r1 r2 = s.mboxEnd v 4 0 [] := by
  simp only [State.mboxFinish, hb, ha, Bool.true_eq_false, if_false, if_true]

/-- The end of a command that no abort was asked for. -/
theorem State.mboxFinish_of_op (ha : s.vanes[v].abortReq = false) {op : Byte} (hop : s.vanes[v].op = op) (r0 r1 r2 : Reg) :
    s.mboxFinish v r0 r1 r2 =
      if op = opPing then s.mboxEnd v 0 0 [s.vaneId v, s.ucodeId]
      else if op = opDiagEnter then s.diagEntered v
      else if op = opSweep then s.mboxEnd v 0 0 [r0]
      else if op = opBist then s.mboxEnd v 0 0 [s.vanes[v].args[0] &&& r0, s.vanes[v].args[0] &&& ~~~r0]
      else if op = opPattern then s.mboxEnd v 0 0 [r0, r1, r2 &&& 0xFFFF]
      else if op = opPatrol then ({ s with spr := { s.spr with patGrp := 0, patPos := 0 } }).mboxEnd v 0 0 [s.patrolPosReg]
      else s := by
  simp only [State.mboxFinish, hb, ha, hop, Bool.true_eq_false, Bool.false_eq_true, if_false]

end

/-- What the end of a command leaves that the host reads. -/
theorem State.mboxEnd_read (s : State) (v : Fin 24) (code : BitVec 4) (reason : BitVec 8) (words : List Reg) :
    (s.mboxEnd v code reason words).vanes[v].busy = false ∧ (s.mboxEnd v code reason words).vanes[v].doneBit = true ∧
    (s.mboxEnd v code reason words).vanes[v].code = code ∧ (s.mboxEnd v code reason words).vanes[v].seq = s.vanes[v].seq + 1 ∧
    (s.mboxEnd v code reason words).vanes[v].rdata = s.returnWords words := by
  rw [State.mboxEnd_self]
  exact ⟨rfl, rfl, rfl, rfl, rfl⟩

/-- A return word that the command names. -/
theorem State.returnWords_of_lt (s : State) {words : List Reg} {k : Nat} (hk : k < 4) (hw : k < words.length) :
    (s.returnWords words)[k] = words[k] := by
  simp [State.returnWords, hw]

@[simp] theorem State.setMode_squall (s : State) (m : Mode) : (s.setMode m).squall = s.squall := by
  unfold State.setMode
  split_ifs <;> rfl

/-- DIAGNOSTIC entered: the diagnostic-entry Squall has saved. -/
theorem State.diagEntered_state {s : State} (v : Fin 24) (hactive : s.squall.active = true) (hcause : s.squall.cause = 4) (hheaders : s.squall.headers = true) :
    (s.diagEntered v).mode.mode = .diagnostic ∧ (s.diagEntered v).squall.active = false ∧ (s.diagEntered v).vanes[v].code = 0 ∧
      (s.diagEntered v).vanes[v].rdata[0] = loWord s.tb := by
  rw [State.diagEntered, if_pos (by simp [hactive, hcause, hheaders])]
  simp only [State.mboxEnd_mode, State.mboxEnd_squall, State.mboxEnd_self, State.setMode_mode, State.setMode_squall, true_and]
  exact State.returnWords_of_lt _ (by decide) (by simp)

end Sys2Proof.Machine

namespace Sys2Proof.Proofs
open Sys2Proof.Machine

section
variable {s : State} {v : Fin 24} (hb : s.vanes[v].busy = true)
include hb

theorem mboxDone_aborted (ha : s.vanes[v].abortReq = true) (r0 r1 r2 : Reg) : Completes (.mboxDone v r0 r1 r2) s fun t =>
    t.vanes[v].busy = false ∧ t.vanes[v].code = 4 ∧ t.vanes[v].seq = s.vanes[v].seq + 1 := by
  obtain ⟨hbusy, -, hcode, hseq, -⟩ := s.mboxEnd_read v 4 0 []
  exact ⟨_, congrArg Host.Outcome.next (State.mboxFinish_aborted hb ha r0 r1 r2), hbusy, hcode, hseq⟩

variable (ha : s.vanes[v].abortReq = false)
include ha

theorem mboxDone_ping (hop : s.vanes[v].op = opPing) (r0 r1 r2 : Reg) : Completes (.mboxDone v r0 r1 r2) s fun t => t.vanes[v].busy = false ∧
    t.vanes[v].doneBit = true ∧ t.vanes[v].code = 0 ∧ t.vanes[v].rdata[0] = s.vaneId v ∧ t.vanes[v].rdata[1] = s.ucodeId ∧
    t.vanes[v].seq = s.vanes[v].seq + 1 ∧ (t.intRaw pageGlb).getLsbD 2 = true := by
  have hfin : s.mboxFinish v r0 r1 r2 = s.mboxEnd v 0 0 [s.vaneId v, s.ucodeId] := State.mboxFinish_of_op hb ha hop r0 r1 r2
  obtain ⟨hbusy, hdone, hcode, hseq, hwords⟩ := s.mboxEnd_read v 0 0 [s.vaneId v, s.ucodeId]
  refine ⟨_, congrArg Host.Outcome.next hfin, hbusy, hdone, hcode, ?_, ?_, hseq, State.mboxEnd_intRaw ..⟩ <;>
  · rw [hwords]
    exact State.returnWords_of_lt s (by decide) (by simp)

theorem mboxDone_pattern (hop : s.vanes[v].op = opPattern) (r0 r1 r2 : Reg) : Completes (.mboxDone v r0 r1 r2) s fun t => t.vanes[v].busy = false ∧
    t.vanes[v].code = 0 ∧ t.vanes[v].rdata[0] = r0 ∧ t.vanes[v].rdata[1] = r1 ∧ t.vanes[v].rdata[2] = r2 &&& 0xFFFF := by
  have hfin : s.mboxFinish v r0 r1 r2 = s.mboxEnd v 0 0 [r0, r1, r2 &&& 0xFFFF] := State.mboxFinish_of_op hb ha hop r0 r1 r2
  obtain ⟨hbusy, -, hcode, -, hwords⟩ := s.mboxEnd_read v 0 0 [r0, r1, r2 &&& 0xFFFF]
  refine ⟨_, congrArg Host.Outcome.next hfin, hbusy, hcode, ?_, ?_, ?_⟩ <;>
  · rw [hwords]
    exact State.returnWords_of_lt s (by decide) (by simp)

theorem mboxDone_sweep (hop : s.vanes[v].op = opSweep) (r0 r1 r2 : Reg) : Completes (.mboxDone v r0 r1 r2) s fun t => t.vanes[v].busy = false ∧
    t.vanes[v].code = 0 ∧ t.vanes[v].rdata[0] = r0 := by
  have hfin : s.mboxFinish v r0 r1 r2 = s.mboxEnd v 0 0 [r0] := State.mboxFinish_of_op hb ha hop r0 r1 r2
  obtain ⟨hbusy, -, hcode, -, hwords⟩ := s.mboxEnd_read v 0 0 [r0]
  refine ⟨_, congrArg Host.Outcome.next hfin, hbusy, hcode, ?_⟩
  rw [hwords]
  exact State.returnWords_of_lt s (by decide) (by simp)

theorem mboxDone_bist (hop : s.vanes[v].op = opBist) (r0 r1 r2 : Reg) : Completes (.mboxDone v r0 r1 r2) s fun t => t.vanes[v].busy = false ∧
    t.vanes[v].code = 0 ∧ t.vanes[v].rdata[0] = s.vanes[v].args[0] &&& r0 ∧ t.vanes[v].rdata[1] = s.vanes[v].args[0] &&& ~~~r0 := by
  have hfin : s.mboxFinish v r0 r1 r2 = s.mboxEnd v 0 0 [s.vanes[v].args[0] &&& r0, s.vanes[v].args[0] &&& ~~~r0] :=
    State.mboxFinish_of_op hb ha hop r0 r1 r2
  obtain ⟨hbusy, -, hcode, -, hwords⟩ := s.mboxEnd_read v 0 0 [s.vanes[v].args[0] &&& r0, s.vanes[v].args[0] &&& ~~~r0]
  refine ⟨_, congrArg Host.Outcome.next hfin, hbusy, hcode, ?_, ?_⟩ <;>
  · rw [hwords]
    exact State.returnWords_of_lt s (by decide) (by simp)

theorem mboxDone_patrol (hop : s.vanes[v].op = opPatrol) (r0 r1 r2 : Reg) : Completes (.mboxDone v r0 r1 r2) s fun t =>
    t.vanes[v].rdata[0] = s.patrolPosReg ∧ t.spr.patGrp = 0 ∧ t.spr.patPos = 0 := by
  have hfin : s.mboxFinish v r0 r1 r2 = State.mboxEnd { s with spr := { s.spr with patGrp := 0, patPos := 0 } } v 0 0 [s.patrolPosReg] :=
    State.mboxFinish_of_op hb ha hop r0 r1 r2
  obtain ⟨-, -, -, -, hwords⟩ := State.mboxEnd_read { s with spr := { s.spr with patGrp := 0, patPos := 0 } } v 0 0 [s.patrolPosReg]
  refine ⟨_, congrArg Host.Outcome.next hfin, ?_, rfl, rfl⟩
  rw [hwords]
  exact State.returnWords_of_lt _ (by decide) (by simp)

theorem mboxDone_diagEnter (hop : s.vanes[v].op = opDiagEnter) (hactive : s.squall.active = true) (hcause : s.squall.cause = 4)
    (hheaders : s.squall.headers = true) (r0 r1 r2 : Reg) : Completes (.mboxDone v r0 r1 r2) s fun t =>
      t.mode.mode = .diagnostic ∧ t.squall.active = false ∧ t.vanes[v].code = 0 ∧ t.vanes[v].rdata[0] = loWord s.tb :=
  have hfin : s.mboxFinish v r0 r1 r2 = s.diagEntered v := State.mboxFinish_of_op hb ha hop r0 r1 r2
  ⟨_, congrArg Host.Outcome.next hfin, State.diagEntered_state v hactive hcause hheaders⟩

end

/-- Settles O48: a ring is checked on the latched mailbox and starts its command, and the end of a command returns the words of its OP. -/
theorem diagnosticCommands : Obligations.DiagnosticCommands := by
  intro v sets slice pat seed first count r0 r1 r2 s
  refine ⟨fun hl hp hb => ⟨diagEnter_squall hl hp hb, diagEnter_aborted hl hp hb, diagEnter_refused hl hp hb, fun hm => ?_, fun hm => ?_⟩,
    fun hl hp hb hv hm => pattern_refused hl hp hb hv hm slice pat seed first count,
    fun hl hp hb hv hm ha hwf => pattern_started hl hp hb hv hm ha hwf, fun hb => ⟨?_, ?_, ?_, ?_, ?_, ?_, ?_⟩⟩
  · exact ⟨diagExit_bringup hl hp hb hm, bist_started hl hp hb hm sets⟩
  · exact bist_refused hl hp hb hm sets
  · exact fun ha => mboxDone_aborted hb ha r0 r1 r2
  · exact fun ha hop => mboxDone_ping hb ha hop r0 r1 r2
  · exact fun ha hop => mboxDone_pattern hb ha hop r0 r1 r2
  · exact fun ha hop => mboxDone_sweep hb ha hop r0 r1 r2
  · exact fun ha hop => mboxDone_bist hb ha hop r0 r1 r2
  · exact fun ha hop => mboxDone_patrol hb ha hop r0 r1 r2
  · exact fun ha hop hactive hcause hheaders _ => mboxDone_diagEnter hb ha hop hactive hcause hheaders r0 r1 r2

end Sys2Proof.Proofs
end

section
/-!
Requests of a port (R36, R49): what finds them, and what the changes that name no request leave of them. A request is found by its number or by
its port and tag, so an operation that keeps the keys of the requests (`Req.key`) keeps where they are found.
-/
namespace Sys2Proof.Machine

theorem srcPort_toNat (p : Fin 16) : (srcPort p).toNat = p.val := by
  have hp : p.val < 2 ^ 5 := p.isLt.trans (by decide)
  rw [srcPort, BitVec.toNat_ofNat, Nat.mod_eq_of_lt hp]

theorem State.portReqs_congr {s t : State} (h : t.reqs = s.reqs) (p : Fin 16) : t.portReqs p = s.portReqs p := by
  rw [State.portReqs, h, State.portReqs]

theorem State.byTag_congr {s t : State} (h : t.reqs = s.reqs) (p : Fin 16) (tag : BitVec 10) : t.byTag p tag = s.byTag p tag := by
  rw [State.byTag, State.portReqs_congr h, State.byTag]

/-- A port has no request where no key names it. -/
theorem State.portReqs_eq_nil_iff {s : State} {p : Fin 16} : s.portReqs p = [] ↔ ∀ k ∈ s.reqs.map Req.key, k.2.1 ≠ srcPort p := by
  simp [State.portReqs, Req.key]

theorem State.portReqs_eq_nil_of_keys {s t : State} {p : Fin 16} (h : t.reqs.map Req.key = s.reqs.map Req.key) (hs : s.portReqs p = []) :
    t.portReqs p = [] := by
  rw [State.portReqs_eq_nil_iff, h]
  exact State.portReqs_eq_nil_iff.1 hs

/-! ### One request changed -/

section
variable {f : Req → Req} (hsrc : ∀ r, (f r).src = r.src)
include hsrc

theorem State.portReqs_modReq (s : State) (rid : Nat) (p : Fin 16) :
    (s.modReq rid f).portReqs p = (s.portReqs p).map fun r => if r.rid = rid then f r else r := by
  have hkeep : ∀ r : Req, (if r.rid = rid then f r else r).src = r.src := fun r => by
    split
    · exact hsrc r
    · rfl
  simp only [State.portReqs, State.modReq, List.filter_map, Function.comp_def, hkeep]

/-- A change that keeps the tag leaves a request found where it was. -/
theorem State.byTag_modReq (htag : ∀ r, (f r).tag = r.tag) (s : State) (rid : Nat) (p : Fin 16) (tag : BitVec 10) :
    (s.modReq rid f).byTag p tag = (s.byTag p tag).map fun r => if r.rid = rid then f r else r := by
  have hkeep : ∀ r : Req, (if r.rid = rid then f r else r).tag = r.tag := fun r => by
    split
    · exact htag r
    · rfl
  simp only [State.byTag, State.portReqs_modReq hsrc, List.find?_map, Function.comp_def, hkeep]

end

theorem State.byTag_modReq_of_some {s : State} {p : Fin 16} {tag : BitVec 10} {r : Req} (h : s.byTag p tag = some r) {f : Req → Req}
    (hsrc : ∀ r, (f r).src = r.src) (htag : ∀ r, (f r).tag = r.tag) : (s.modReq r.rid f).byTag p tag = some (f r) := by
  rw [State.byTag_modReq hsrc htag, h, Option.map_some, if_pos rfl]

theorem State.tag_of_byTag {s : State} {p : Fin 16} {tag : BitVec 10} {r : Req} (h : s.byTag p tag = some r) : r.tag = tag := by
  simpa using List.find?_some h

@[simp] theorem State.dropReq_ports (s : State) (rid : Nat) : (s.dropReq rid).ports = s.ports := rfl

/-! ### The freeze of a warm reset (R120, R138) -/

theorem State.warmFreeze_of_not_wrst {s : State} (h : s.fab.wrst = false) : s.warmFreeze = s := by
  simp [State.warmFreeze, h]

theorem State.warmFreeze_ports (s : State) : s.warmFreeze.ports = s.ports := s.warmFreeze_keeps.p .ports (by decide)

theorem State.warmFreeze_keys (s : State) : s.warmFreeze.reqs.map Req.key = s.reqs.map Req.key := s.warmFreeze_keeps.p .reqList (by decide)

/-- The ledger freezes only when no port has a request, and then none comes. -/
theorem State.warmFreeze_portReqs (s : State) (p : Fin 16) : s.warmFreeze.portReqs p = s.portReqs p := by
  by_cases hfreeze : (s.fab.wrst && !s.ledger.frozen && s.reqs.all fun r => decide (16 ≤ r.src.toNat)) = true
  · have hnil : s.portReqs p = [] := by
      simp only [Bool.and_eq_true, List.all_eq_true, decide_eq_true_eq] at hfreeze
      simp only [State.portReqs, List.filter_eq_nil_iff, beq_iff_eq]
      rintro r hr hsrc
      have hge := hfreeze.2 r hr
      rw [hsrc, srcPort_toNat] at hge
      omega
    rw [hnil, State.portReqs_eq_nil_of_keys s.warmFreeze_keys hnil]
  · rw [State.warmFreeze, if_neg hfreeze]

/-! ### Writes dropped (R61, R64) -/

theorem State.dropAwaiting_ports (s : State) (p : Fin 16) : (s.dropAwaiting p).ports = s.ports := (s.dropAwaiting_keeps p).p .ports (by decide)

theorem State.dropAwaiting_portReqs (s : State) (p : Fin 16) :
    (s.dropAwaiting p).portReqs p = (s.portReqs p).filter fun r => r.phase != .awaitData := by
  rw [State.dropAwaiting, State.warmFreeze_portReqs]
  simp only [State.portReqs, List.filter_filter]
  refine List.filter_congr fun r _ => ?_
  cases r.src == srcPort p <;> simp [bne]

end Sys2Proof.Machine
end

section
/-!
Ports (R36, R61, R64): READY, isolation and the start of a reset.
-/
namespace Sys2Proof.Machine

theorem State.reqReady_of_rstActive {s : State} {p : Fin 16} (h : s.ports[p].rstActive = true) : s.reqReady p = false := by
  simp only [State.reqReady, h, Bool.not_true, Bool.and_false, Bool.false_and]

/-- A port that takes requests is not isolated, and no warm reset runs (R36, R138). -/
theorem State.of_reqReady {s : State} {p : Fin 16} (h : s.reqReady p = true) : s.ports[p].isolated = false ∧ s.fab.wrst = false := by
  simp only [State.reqReady, Bool.and_eq_true, Bool.not_eq_true'] at h
  tauto

theorem State.not_isolated_of_wdReady {s : State} {p : Fin 16} (h : s.wdReady p = true) : s.ports[p].isolated = false := by
  simp only [State.wdReady, Bool.and_eq_true, Bool.not_eq_true'] at h
  tauto

/-! ### Isolation (R61) -/

/-- A port isolated and the error reported, its writes without data not dropped yet. -/
def State.reportIsolation (s : State) (p : Fin 16) (cause : BitVec 3) : State :=
  ((s.modPort p fun x => { x with isolated := true, isoCause := cause }).raise (pagePort p) 0).logError
    { cls := clsUc, page := pagePort p, code := 0x0040, detail := cause.setWidth 64 }

theorem State.reportIsolation_keeps (s : State) (p : Fin 16) (cause : BitVec 3) :
    Keeps 0x234080204 (s.modPort p fun x => { x with isolated := true, isoCause := cause }) (s.reportIsolation p cause) :=
  .on (State.logError_keeps ..) ((State.raise_keeps ..).mono (by decide)) (by decide)

section
variable {s : State} {p : Fin 16} (h : s.ports[p].isolated = false) (cause : BitVec 3)
include h

theorem State.isolate_eq : s.isolate p cause = (s.reportIsolation p cause).dropAwaiting p := by
  rw [State.isolate, if_neg (by rw [h]; decide)]
  rfl

theorem State.isolate_port : (s.isolate p cause).ports[p] = { s.ports[p] with isolated := true, isoCause := cause } := by
  rw [State.isolate_eq h, State.dropAwaiting_ports, (s.reportIsolation_keeps p cause).p .ports (by decide), State.modPort_self]

theorem State.isolate_fields : (s.isolate p cause).ports[p].isolated = true ∧ (s.isolate p cause).ports[p].isoCause = cause ∧
    (s.isolate p cause).ports[p].epoch = s.ports[p].epoch := by
  rw [State.isolate_port h]
  exact ⟨rfl, rfl, rfl⟩

theorem State.isolate_portReqs : (s.isolate p cause).portReqs p = (s.portReqs p).filter fun r => r.phase != .awaitData := by
  rw [State.isolate_eq h, State.dropAwaiting_portReqs, State.portReqs_congr ((s.reportIsolation_keeps p cause).p .reqs (by decide))]
  rfl

theorem State.isolate_ids (hw : s.fab.wrst = false) : (s.isolate p cause).ids = s.ids := by
  have hfab : (s.reportIsolation p cause).fab = s.fab := (s.reportIsolation_keeps p cause).p .fab (by decide)
  have hids : (s.reportIsolation p cause).ids = s.ids := (s.reportIsolation_keeps p cause).p .ids (by decide)
  rw [State.isolate_eq h, State.dropAwaiting, State.warmFreeze_of_not_wrst (by rw [hfab, hw]), hids]

end

/-! ### The start of a reset (R64) -/

section
variable {s : State} {p : Fin 16} (h : s.ports[p].rstActive = false)
include h

theorem State.startPortReset_eq : s.startPortReset p =
    ((s.modPort p fun x => { x with rstActive := true, rstDone := false, epoch := x.epoch + 1 }).dropAwaiting p).dropLockOf (srcPort p) := by
  rw [State.startPortReset, if_neg (by rw [h]; decide)]

theorem State.startPortReset_ports : (s.startPortReset p).ports =
    s.ports.set p { s.ports[p] with rstActive := true, rstDone := false, epoch := s.ports[p].epoch + 1 } := by
  rw [State.startPortReset_eq h, (State.dropLockOf_keeps ..).p .ports (by decide), State.dropAwaiting_ports, State.modPort]

theorem State.startPortReset_portReqs : (s.startPortReset p).portReqs p = (s.portReqs p).filter fun r => r.phase != .awaitData := by
  rw [State.startPortReset_eq h, State.portReqs_congr ((State.dropLockOf_keeps ..).p .reqs (by decide)), State.dropAwaiting_portReqs]
  rfl

theorem State.startPortReset_reqReady : (s.startPortReset p).reqReady p = false :=
  State.reqReady_of_rstActive (by rw [State.startPortReset_ports h, Fin.getElem_fin, Vector.getElem_set_self])

end

end Sys2Proof.Machine
end

section
/-!
The commands that put a request to a port (R39), and what a port does that does not take one: O2, and the errors of write data, O4.
-/
namespace Sys2Proof.Machine

/-- The commands that present a request at a port, each with its opcode (R39). -/
def presenters (p : Fin 16) (f : ReqFields) (e : EntryRead) (uc : Bool) (op : BitVec 4) : List (Instr × BitVec 4) :=
  [(Instr.opRead p f e, opcRead), (Instr.opWrite p f e, opcWrite), (Instr.opWriteXor p f e, opcXor), (Instr.opFill p f e, opcFill),
    (Instr.groupOpen p ⟨f, uc⟩, opcOpen), (Instr.groupCommit p ⟨f, uc⟩, opcCommit), (Instr.groupAbort p ⟨f, uc⟩, opcAbort), (Instr.opBarrier p f, opcBarrier),
    (Instr.reservedOpcode p op f, op)]

/-- Each of them presents its opcode with the operands given. -/
theorem exec_presenter {p : Fin 16} {f : ReqFields} {e : EntryRead} {uc : Bool} {op op' : BitVec 4} {c : Instr} (h : (c, op') ∈ presenters p f e uc op)
    (s : State) : ∃ e', exec c s = .next (s.present p op' f e') := by
  simp only [presenters, List.mem_cons, List.not_mem_nil, or_false, Prod.mk.injEq] at h
  rcases h with ⟨rfl, rfl⟩ | ⟨rfl, rfl⟩ | ⟨rfl, rfl⟩ | ⟨rfl, rfl⟩ | ⟨rfl, rfl⟩ | ⟨rfl, rfl⟩ | ⟨rfl, rfl⟩ | ⟨rfl, rfl⟩ | ⟨rfl, rfl⟩ <;>
  exact ⟨_, rfl⟩

theorem State.present_of_not_ready {s : State} {p : Fin 16} (h : s.reqReady p = false) (op : BitVec 4) (f : ReqFields) (e : EntryRead) :
    s.present p op f e = s := if_pos h

section
variable {s : State} {p : Fin 16} (h : s.reqReady p = true) (op : BitVec 4) (f : ReqFields) (e : EntryRead)
include h

theorem State.present_of_tag_in_use (ht : (s.byTag p f.tag).isSome = true) : s.present p op f e = s.isolate p 3 := by
  rw [State.present, if_neg (by rw [h]; decide), if_pos ht]

theorem State.present_of_tag_free (ht : s.byTag p f.tag = none) : s.present p op f e = s.enterPort p op f e := by
  rw [State.present, if_neg (by rw [h]; decide), if_neg (by rw [ht]; decide)]

end

/-! ### Write data (R37, R38, R62) -/

/-- A beat that a port takes, for the oldest write that awaits data. -/
theorem exec_writeDataBeat {s : State} {p : Fin 16} {b : WdFields} {r : Req} (hready : s.wdReady p = true) (hr : s.awaiting p = some r) :
    exec (.writeDataBeat p b) s = .next (
      if b.tag ≠ r.tag then s.isolate p 1
      else if b.last ≠ (r.beats.length + 1 == beatsOf r.op r.len r.pi) then s.isolate p 2
      else
        let t := s.modReq r.rid fun r => { r with beats := r.beats ++ [{ data := b.data, be := b.be }] }
        if r.beats.length + 1 == beatsOf r.op r.len r.pi then t.takeUp r.rid else t) := by
  show Host.Outcome.next (if s.wdReady p = false then s else _) = _
  rw [if_neg (by rw [hready]; decide), hr]

theorem exec_wdTimeout {s : State} {p : Fin 16} {tag : BitVec 10} {r : Req} (hr : s.byTag p tag = some r) (hphase : r.phase = .awaitData) :
    exec (.wdTimeout p tag) s = .next (s.isolate p 5) := by
  show execWdTimeout p tag s = _
  rw [execWdTimeout, hr]
  exact congrArg Host.Outcome.next (if_pos hphase)

end Sys2Proof.Machine

namespace Sys2Proof.Proofs
open Sys2Proof.Machine

/-- Settles O2: a port that is not ready leaves the state, and a tag in use isolates it. -/
theorem portTurnsAway : Obligations.PortTurnsAway := by
  unfold Obligations.PortTurnsAway
  intro p f e uc op s c hc
  obtain ⟨⟨c, op'⟩, hmem, rfl⟩ : ∃ x ∈ presenters p f e uc op, x.1 = c := List.mem_map.1 hc
  obtain ⟨e', hexec⟩ := exec_presenter hmem s
  refine ⟨fun hready => ?_, fun hready htag => ⟨s.isolate p 3, ?_, ?_⟩⟩
  · rw [hexec, State.present_of_not_ready hready]
  · rw [hexec, State.present_of_tag_in_use hready _ _ _ htag]
  · obtain ⟨hiso, hwarm⟩ := State.of_reqReady hready
    obtain ⟨hon, hcause, -⟩ := State.isolate_fields hiso 3
    exact ⟨hon, hcause, State.isolate_ids hiso 3 hwarm, State.isolate_portReqs hiso 3⟩

/-- Settles O4: each of the three errors isolates the port with its own cause. -/
theorem writeDataErrorsIsolate : Obligations.WriteDataErrorsIsolate := by
  unfold Obligations.WriteDataErrorsIsolate
  intro p b r tag s
  refine ⟨fun hready hr htag => ?_, fun hready hr htag hlast => ?_, fun hr hphase hiso => ?_⟩
  · obtain ⟨hon, hcause, -⟩ := State.isolate_fields (State.not_isolated_of_wdReady hready) 1
    exact ⟨_, by rw [exec_writeDataBeat hready hr, if_pos htag], hon, hcause⟩
  · obtain ⟨hon, hcause, -⟩ := State.isolate_fields (State.not_isolated_of_wdReady hready) 2
    exact ⟨_, by rw [exec_writeDataBeat hready hr, if_neg (not_not_intro htag), if_pos hlast], hon, hcause⟩
  · obtain ⟨hon, hcause, hepoch⟩ := State.isolate_fields hiso 5
    exact ⟨_, exec_wdTimeout hr hphase, hon, hcause, hepoch.symm⟩

end Sys2Proof.Proofs
end

section
/-!
Resets of a port (R64 to R68): O5. The drain discards the response of every request of the port, each under its own number, so none is left.
-/
namespace Sys2Proof.Machine

/-! ### CFG_PARITY under sources raised (R391) -/

theorem getKey_setKey_of_ne {α : Type} (l : List (Nat × α)) {k j : Nat} (v : α) (h : j ≠ k) : getKey (setKey l k v) j = getKey l j := by
  induction l with
  | nil => simp [setKey, getKey, h.symm]
  | cons x l ih =>
    obtain ⟨k', v'⟩ := x
    simp only [setKey]
    split_ifs with hlt heq
    · simp [getKey, ih]
    · simp [getKey, heq, h.symm]
    · simp [getKey, h.symm]

theorem getKey_dropKey_of_ne {α : Type} (l : List (Nat × α)) {k j : Nat} (h : j ≠ k) : getKey (dropKey l k) j = getKey l j := by
  induction l with
  | nil => rfl
  | cons x l ih =>
    obtain ⟨k', v'⟩ := x
    simp only [dropKey]
    split_ifs with heq
    · simp [getKey, ih, heq, h.symm]
    · simp [getKey, ih]

theorem State.setHeader_other (s : State) {page q : Nat} (h : Header) (hq : q ≠ page) : (s.setHeader page h).header q = s.header q := by
  simp only [State.setHeader, State.header]
  split_ifs
  · rw [getKey_dropKey_of_ne _ hq]
  · rw [getKey_setKey_of_ne _ _ hq]

/-- A source raised leaves every page's parity flag. -/
@[simp] theorem State.raise_parity (s : State) (page j q : Nat) : (s.raise page j).parity q = s.parity q := by
  by_cases hq : q = page
  · rw [hq, State.raise, State.raiseMask, State.modHeader, State.parity, State.setHeader_self, State.parity]
  · rw [State.raise, State.raiseMask, State.modHeader, State.parity, State.setHeader_other _ _ hq, State.parity]

@[simp] theorem State.raiseIf_parity (s : State) (c : Bool) (page j q : Nat) : (s.raiseIf c page j).parity q = s.parity q := by
  cases c
  · rfl
  · exact s.raise_parity page j q

/-- Telemetry holds no header. -/
@[simp] theorem State.tel_parity (s : State) (x : Telemetry) (q : Nat) : ({ s with tel := x } : State).parity q = s.parity q := rfl

section
variable (s : State) (q : Nat)

@[simp] theorem State.closeFill_parity : s.closeFill.parity q = s.parity q := by
  unfold State.closeFill
  split_ifs <;> simp

@[simp] theorem State.writeRecord_parity (b : List Byte) : (s.writeRecord b).parity q = s.parity q := by
  unfold State.writeRecord
  extract_lets x t
  split_ifs <;> simp [t]

@[simp] theorem State.dropRecord_parity (seq : BitVec 32) : (s.dropRecord seq).parity q = s.parity q := by
  simp [State.dropRecord]

@[simp] theorem State.offerRecord_parity (seq : BitVec 32) (b : List Byte) : (s.offerRecord seq b).parity q = s.parity q := by
  unfold State.offerRecord
  dsimp only
  split_ifs <;> simp

theorem State.sampleDone_parity (r : Req) (code : BitVec 4) (disc : Bool) : (s.sampleDone r code disc).parity q = s.parity q := by
  unfold State.sampleDone
  split
  · exact s.offerRecord_parity q _ _
  · rfl

end

/-! ### The drain (R64) -/

/-- A request of a port that is done, discarded. -/
def State.discardDone (p : Fin 16) (s : State) (r : Req) : State :=
  match r.phase with
  | .done code => s.discardReq p r code
  | _ => s

/-- What one discard leaves: the requests under other numbers, the port's epoch, the parity flags. -/
theorem State.discardReq_state (s : State) (p : Fin 16) (r : Req) (code : BitVec 4) :
    (s.discardReq p r code).reqs = (s.reqs.filter fun a => a.rid != r.rid) ∧ (s.discardReq p r code).ports[p].epoch = s.ports[p].epoch ∧
      ∀ q, (s.discardReq p r code).parity q = s.parity q := by
  have hsample := s.sampleDone_keeps r code true
  have hreqs : (s.sampleDone r code true).reqs = s.reqs := hsample.p .reqs (by decide)
  have hports : (s.sampleDone r code true).ports = s.ports := hsample.p .ports (by decide)
  refine ⟨?_, ?_, fun q => s.sampleDone_parity q r code true⟩
  · rw [← hreqs]
    rfl
  · rw [State.discardReq, State.dropReq_ports, State.modPort_self, hports]

/-- What a drain leaves. -/
structure Drained (p : Fin 16) (l : List Req) (s t : State) : Prop where
  reqs : ∀ r ∈ t.reqs, r ∈ s.reqs ∧ ∀ a ∈ l, r.rid ≠ a.rid
  epoch : t.ports[p].epoch = s.ports[p].epoch
  parity : ∀ q, t.parity q = s.parity q

theorem State.foldl_discardDone (p : Fin 16) (l : List Req) (hl : l.all Req.isDone = true) (s : State) :
    Drained p l s (l.foldl (State.discardDone p) s) := by
  induction l generalizing s with
  | nil => exact ⟨fun r hr => ⟨hr, List.forall_mem_nil _⟩, rfl, fun _ => rfl⟩
  | cons a l ih =>
    obtain ⟨ha, hl⟩ : a.isDone = true ∧ l.all Req.isDone = true := by simpa using hl
    obtain ⟨code, hcode⟩ : ∃ code, a.phase = .done code := by
      unfold Req.isDone at ha
      split at ha
      next code hcode => exact ⟨code, hcode⟩
      next => exact absurd ha nofun
    have hstep : s.discardDone p a = s.discardReq p a code := by rw [State.discardDone, hcode]
    obtain ⟨hreqs, hepoch, hparity⟩ := s.discardReq_state p a code
    obtain ⟨hreqs', hepoch', hparity'⟩ := ih hl (s.discardReq p a code)
    rw [List.foldl_cons, hstep]
    refine ⟨fun r hr => ?_, hepoch'.trans hepoch, fun q => (hparity' q).trans (hparity q)⟩
    obtain ⟨hr, hother⟩ := hreqs' r hr
    rw [hreqs, List.mem_filter, bne_iff_ne] at hr
    exact ⟨hr.1, List.forall_mem_cons.2 ⟨hr.2, hother⟩⟩

/-- After the drain of its own requests a port has none. -/
theorem Drained.portReqs {p : Fin 16} {s t : State} (h : Drained p (s.portReqs p) s t) : t.portReqs p = [] := by
  refine List.filter_eq_nil_iff.2 fun r hr hsrc => ?_
  obtain ⟨hmem, hother⟩ := h.reqs r hr
  exact hother r (List.mem_filter.2 ⟨hmem, hsrc⟩) rfl

/-- A drained port out of reset (R64 steps 5 and 6), its isolation left to the page's safe state (R392). -/
def State.endPortReset (s : State) (p : Fin 16) : State :=
  ((s.modPort p fun x => { x with rstActive := false, rstDone := true, isolated := s.parity (pagePort p) }).raise (pagePort p) 1).warmFreeze

theorem State.endPortReset_port (s : State) (p : Fin 16) : (s.endPortReset p).ports[p] =
    { s.ports[p] with rstActive := false, rstDone := true, isolated := s.parity (pagePort p) } := by
  rw [State.endPortReset, State.warmFreeze_ports, (State.raise_keeps ..).p .ports (by decide), State.modPort_self]

theorem State.endPortReset_portReqs (s : State) (p : Fin 16) : (s.endPortReset p).portReqs p = s.portReqs p := by
  rw [State.endPortReset, State.warmFreeze_portReqs, State.portReqs_congr ((State.raise_keeps ..).p .reqs (by decide))]
  rfl

theorem exec_portResetPin {s : State} {p : Fin 16} (h : s.ports[p].pinLow = false) :
    exec (.portResetPin p) s = .next ((s.modPort p fun x => { x with pinLow := true }).startPortReset p) :=
  congrArg Host.Outcome.next (if_neg (by rw [h]; decide))

theorem exec_portResetDrainDone {s : State} {p : Fin 16} (h : s.ports[p].rstActive = true) (hdone : (s.portReqs p).all Req.isDone = true) :
    exec (.portResetDrainDone p) s = .next (((s.portReqs p).foldl (State.discardDone p) s).endPortReset p) := by
  show Host.Outcome.next (if s.ports[p].rstActive = false ∨ ((s.portReqs p).any fun r => !r.isDone) = true then s else _) = _
  rw [if_neg]
  · rfl
  · have hany : ((s.portReqs p).any fun r => !r.isDone) = false := by rw [← List.not_all_eq_any_not, hdone]; rfl
    rw [h, hany]
    decide

end Sys2Proof.Machine

namespace Sys2Proof.Proofs
open Sys2Proof.Machine

/-- Settles O5: the start of a reset by `State.startPortReset`, its end by the drain, the other two as they stand. -/
theorem portResetCommands : Obligations.PortResetCommands := by
  unfold Obligations.PortResetCommands
  intro p s
  refine ⟨fun hpin hrst => ⟨_, exec_portResetPin hpin, ?pin⟩, fun hlive hrst => ⟨_, congrArg Host.Outcome.next (if_pos hlive), ?command⟩,
    fun hrst hdone => ⟨_, exec_portResetDrainDone hrst hdone, ?drain⟩, rfl, fun hlive => congrArg Host.Outcome.next (if_pos hlive)⟩
  case pin =>
    have hself := s.modPort_self p fun x => { x with pinLow := true }
    have hrst' : (s.modPort p fun x => { x with pinLow := true }).ports[p].rstActive = false := by rw [hself, hrst]
    refine ⟨?_, State.startPortReset_reqReady hrst', State.startPortReset_portReqs hrst'⟩
    rw [State.startPortReset_ports hrst', hself]
    exact Vector.set_set ..
  case command => exact ⟨State.startPortReset_ports hrst, State.startPortReset_reqReady hrst, State.startPortReset_portReqs hrst⟩
  case drain =>
    have hdrain := State.foldl_discardDone p (s.portReqs p) hdone s
    have hport := State.endPortReset_port ((s.portReqs p).foldl (State.discardDone p) s) p
    exact ⟨(State.endPortReset_portReqs ..).trans hdrain.portReqs, congrArg Port.rstActive hport, congrArg Port.rstDone hport,
      (congrArg Port.isolated hport).trans (hdrain.parity _), (congrArg Port.epoch hport).trans hdrain.epoch⟩

end Sys2Proof.Proofs
end

section
/-!
Responses (R50 to R52): O6. What the response of a completed request shows, and that driving it takes the request out.
-/
namespace Sys2Proof.Machine

/-- What RSP and RD show of a request that ended with a code (R50 to R52). -/
def Req.response (r : Req) (code : BitVec 4) : RspOut :=
  { tag := r.tag, code := code, gid := if r.op = opcOpen then (if code = rspOk then r.gid else 0) else 0
    beats := if r.op = opcRead ∧ (code = rspOk ∨ code = rspPoison) then rdBeats (sortBeats r.out) else [] }

theorem Req.response_gid (r : Req) (code : BitVec 4) : (r.response code).gid = if r.op = opcOpen ∧ code = rspOk then r.gid else 0 :=
  (ite_and ..).symm

/-- Read data is driven of a READ that ended OK or POISON. -/
theorem Req.response_beats_of_read {r : Req} {code : BitVec 4} (hop : r.op = opcRead) (hcode : code ∈ [rspOk, rspPoison]) :
    (r.response code).beats = rdBeats (sortBeats r.out) :=
  if_pos ⟨hop, by simpa using hcode⟩

/-- Nothing else has any. -/
theorem Req.response_beats_of_other {r : Req} {code : BitVec 4} (h : r.op ≠ opcRead ∨ code ∉ [rspOk, rspPoison]) : (r.response code).beats = [] :=
  if_neg fun ⟨hop, hcode⟩ => h.elim (fun hne => hne hop) fun hnot => hnot (by simpa using hcode)

/-- What measuring and sampling leave before a response is driven. -/
theorem State.measured_keeps (s : State) (r : Req) (code : BitVec 4) : Keeps 0xc00400200 s ((s.measureRead r).sampleDone r code false) :=
  .on (State.sampleDone_keeps ..) ((s.measureRead_keeps r).mono (by decide)) (by decide)

theorem State.driveRsp_eq (s : State) (p : Fin 16) (r : Req) (code : BitVec 4) : s.driveRsp p r code =
    (((s.measureRead r).sampleDone r code false).modPort p fun x => { x with rsp := some (r.response code) }).dropReq r.rid := rfl

theorem State.driveRsp_rsp (s : State) (p : Fin 16) (r : Req) (code : BitVec 4) : (s.driveRsp p r code).ports[p].rsp = some (r.response code) := by
  rw [State.driveRsp_eq, State.dropReq_ports, State.modPort_self]

theorem State.driveRsp_reqs (s : State) (p : Fin 16) (r : Req) (code : BitVec 4) :
    (s.driveRsp p r code).reqs = s.reqs.filter fun a => a.rid != r.rid := by
  rw [← (s.measured_keeps r code).p .reqs (by decide)]
  rfl

/-- The response of a completed request at a port that drives responses and holds no more read data than it may (R60). -/
theorem State.respond_of_done {s : State} {p : Fin 16} {tag : BitVec 10} {r : Req} {code : BitVec 4} (hr : s.byTag p tag = some r)
    (hphase : r.phase = .done code) (hmute : s.ports[p].mute = false) (hsink : s.sinkBeats p ≤ s.sinkLimit p) :
    s.respond p tag = s.driveRsp p r code := by
  have hcheck : s.checkSink p = s := if_neg hsink.not_gt
  simp only [State.respond, hcheck, hr, hphase]
  exact if_neg (by rw [hmute]; decide)

end Sys2Proof.Machine

namespace Sys2Proof.Proofs
open Sys2Proof.Machine

/-- Settles O6: the response that is driven (`Req.response`), which a freeze after it leaves. -/
theorem responseFreesTag : Obligations.ResponseFreesTag := by
  unfold Obligations.ResponseFreesTag
  intro p tag r code s hr hphase hmute hsink
  have hdrive := State.respond_of_done hr hphase hmute hsink
  refine ⟨(s.respond p tag).warmFreeze, rfl, ⟨r.response code, ?_, rfl, rfl, Req.response_beats_of_read, Req.response_beats_of_other, r.response_gid code⟩, ?_⟩
  · rw [State.warmFreeze_ports, hdrive, State.driveRsp_rsp]
  · rw [State.warmFreeze_keys, hdrive, State.driveRsp_reqs]

end Sys2Proof.Proofs
end

section
/-!
Requests that were held at their port (R46, R47, R55, R103, R119) and tags in use too long (R63): O7.
-/
namespace Sys2Proof.Machine

/-! ### The class counters of the error log (R431) -/

/-- The four class counters. -/
def ErrLog.counts (e : ErrLog) : Reg × Reg × Reg × Reg := (e.ceCnt, e.rcvCnt, e.ucCnt, e.fatalCnt)

theorem State.raiseIf_err (s : State) (c : Bool) (page j : Nat) : (s.raiseIf c page j).err = s.err := (s.raiseIf_keeps c page j).p .err (by decide)

theorem State.noteFatal_counts (s : State) (ev : ErrEvent) : (s.noteFatal ev).err.counts = s.err.counts := by
  unfold State.noteFatal
  dsimp only
  split_ifs
  · simp only [State.raise_err, ErrLog.counts]
  · simp only [State.raise_err, ErrLog.counts]
  · rfl

theorem State.writeEntry_counts (s : State) (slot : Nat) (x : LogEntry) : (s.writeEntry slot x).err.counts = s.err.counts := by
  simp only [State.writeEntry, State.raiseIf_err, State.raise_err, ErrLog.counts]

/-- The ring is written without the counters. -/
theorem State.logRing_counts (s : State) (ev : ErrEvent) (squall coalesce : Bool) : (s.logRing ev squall coalesce).err.counts = s.err.counts := by
  unfold State.logRing
  extract_lets e x
  split
  · split <;> rfl
  · split_ifs
    · rw [State.raiseIf_err]
      exact State.writeEntry_counts ..
    · split
      · exact State.writeEntry_counts ..
      · rfl
    · rfl

/-- An error is counted in its class, whether it is logged or not (R431). -/
theorem State.logError_counts (s : State) (ev : ErrEvent) : (s.logError ev).err.counts = (countClass s.err ev.cls).counts := by
  unfold State.logError
  dsimp only
  split_ifs
  · rfl
  · rfl
  · rw [State.logRing_counts]
    exact State.noteFatal_counts ..
  · rw [State.logRing_counts]
    exact State.noteFatal_counts ..

theorem State.logError_fatalCnt (s : State) {ev : ErrEvent} (h : ev.cls = clsFatal) : (s.logError ev).err.fatalCnt = satInc s.err.fatalCnt := by
  have hcounts := s.logError_counts ev
  rw [h] at hcounts
  exact congrArg (fun c : Reg × Reg × Reg × Reg => c.2.2.2) hcounts

theorem State.tableError_fatalCnt (s : State) (solo : Bool) (k : Nat) : (s.tableError solo k).err.fatalCnt = satInc s.err.fatalCnt := by
  rw [State.tableError]
  exact s.logError_fatalCnt rfl

/-! ### A held request tried again -/

/-- The group table is of the ledger's part. -/
theorem Keeps.groups {m : Nat} {s t : State} (h : Keeps m s t) (hl : m.testBit Part.ledger.idx = false) : t.ledger.groups = s.ledger.groups := by
  have hledger : { t.ledger with tableBad := false } = { s.ledger with tableBad := false } := h.p .ledger hl
  have hgroups := congrArg Ledger.groups hledger
  exact hgroups

section
variable {s : State} {r : Req} (hr : s.req r.rid = some r)
include hr

theorem State.retryHeld_of_free (hphase : r.phase = .held) (hop : r.op ≠ opcBarrier) (hfree : s.mustHold r = false) :
    s.retryHeld r.rid = s.forward r.rid := by
  simp only [State.retryHeld, hr]
  exact if_pos ⟨hphase, hop, hfree⟩

/-- A read or a write goes on to the ledger (R55). -/
theorem State.forward_access (hopen : r.op ≠ opcOpen) (hcommit : r.op ≠ opcCommit) (habort : r.op ≠ opcAbort) : s.forward r.rid = s.toLedger r.rid := by
  simp only [State.forward, hr]
  exact if_neg (by tauto)

section
variable (hop : r.op = opcCommit)
include hop

/-- A commit whose group's record cannot be corrected (R119). -/
theorem State.forward_commit_uc (huc : r.tableUc = true) :
    s.forward r.rid = (s.tableError false r.gid.toNat).modReq r.rid fun r => { r with phase := .held, tableUc := false } := by
  have hne : r.op ≠ opcOpen := by rw [hop]; decide
  simp only [State.forward, hr, State.groupError]
  rw [if_pos (.inr (.inl hop)), if_pos huc, if_neg hne]

/-- A commit of an open group (R103). -/
theorem State.forward_commit_open (huc : r.tableUc = false) (hst : (s.group r.gid.toNat).st = .open_) : s.forward r.rid =
    (s.setGroup r.gid.toNat { s.group r.gid.toNat with st := .committing }).modReq r.rid fun r => { r with phase := .ledger } := by
  have hne : r.op ≠ opcOpen := by rw [hop]; decide
  simp only [State.forward, hr, State.endGroup]
  rw [if_pos (.inr (.inl hop)), if_neg (by rw [huc]; decide), if_neg hne, if_neg (not_not_intro hst), if_pos hop]

end

end

/-- A read or a write is no group operation and no barrier. -/
theorem op_of_access {op : BitVec 4} (h : isWriteOp op = true ∨ op = opcRead) : op ≠ opcOpen ∧ op ≠ opcCommit ∧ op ≠ opcAbort ∧ op ≠ opcBarrier := by
  revert op
  decide

/-! ### The commands -/

/-- A request as its completion leaves it (R50, R51). -/
def Req.finished (r : Req) (code : BitVec 4) : Req :=
  { r with phase := .done code, out := if code = rspOk ∨ code = rspPoison then r.out else [] }

section
variable {s : State} {p : Fin 16} {tag : BitVec 10} {r : Req} (htag : s.byTag p tag = some r)
include htag

theorem exec_groupCommitForward (hop : r.op = opcCommit) : exec (.groupCommitForward p tag) s = .next (s.retryHeld r.rid) := by
  show execGroupCommitForward p tag s = _
  rw [execGroupCommitForward, htag]
  exact congrArg Host.Outcome.next (if_pos (.inl hop))

theorem exec_orderedForward (hcommit : r.op ≠ opcCommit) (habort : r.op ≠ opcAbort) : exec (.orderedForward p tag) s = .next (s.retryHeld r.rid) := by
  show execOrderedForward p tag s = _
  rw [execOrderedForward, htag]
  exact congrArg Host.Outcome.next (if_neg (not_or.2 ⟨hcommit, habort⟩))

/-- The report of a tag in use beyond its limit (R63). -/
theorem exec_tagWatchdog : exec (.tagWatchdog p tag) s = .next (if r.stuck then s else
    (s.modReq r.rid fun r => { r with stuck := true }).logError { cls := clsFatal, page := pagePort p, code := 0x0041, detail := tag.setWidth 64 }) := by
  show execTagWatchdog p tag s = _
  rw [execTagWatchdog, htag]

/-- The barrier answered, the held requests of its port tried again. -/
theorem exec_barrierComplete (hop : r.op = opcBarrier) (hphase : r.phase = .held)
    (hfree : (s.reqs.any fun a => a.src == r.src && decide (a.rid < r.rid) && (r.aux.getLsbD 0 || a.ord == r.ord)) = false) :
    let t := (s.finishReq r.rid rspOk).respond p tag
    exec (.barrierComplete p tag) s = .next (((t.portReqs p).map Req.rid).foldl State.retryHeld t).warmFreeze := by
  show execBarrierComplete p tag s = _
  rw [execBarrierComplete, htag]
  refine congrArg Host.Outcome.next (if_neg ?_)
  rw [hfree]
  exact fun h => h.elim (fun hne => hne hop) fun h => h.elim (fun hne => hne hphase) nofun

theorem State.respond_finishReq (hmute : s.ports[p].mute = false) (code : BitVec 4) (hsink : (s.finishReq r.rid code).sinkBeats p ≤ s.sinkLimit p) :
    (s.finishReq r.rid code).respond p tag =
      (s.finishReq r.rid code).driveRsp p (r.finished code) code :=
  State.respond_of_done (State.byTag_modReq_of_some htag (fun _ => rfl) fun _ => rfl) rfl hmute hsink

end

theorem State.foldl_retryHeld_ports (s : State) (l : List Nat) : (l.foldl State.retryHeld s).ports = s.ports :=
  (Keeps.foldl .rfl' fun s rid => s.retryHeld_keeps rid).p .ports (by decide)

end Sys2Proof.Machine

namespace Sys2Proof.Proofs
open Sys2Proof.Machine

section
variable {p : Fin 16} {tag : BitVec 10} {r : Req} {s : State} (htag : s.byTag p tag = some r)
include htag

/-- A barrier that nothing holds answers OK, and what it lets go on does not take its response away. -/
theorem barrierComplete_answers (hop : r.op = opcBarrier) (hphase : r.phase = .held)
    (hfree : (s.reqs.any fun a => a.src == r.src && decide (a.rid < r.rid) && (r.aux.getLsbD 0 || a.ord == r.ord)) = false)
    (hmute : s.ports[p].mute = false) (hsink : (s.finishReq r.rid rspOk).sinkBeats p ≤ s.sinkLimit p) :
    Completes (.barrierComplete p tag) s fun t => ∃ x, t.ports[p].rsp = some x ∧ x.tag = tag ∧ x.code = rspOk ∧ x.beats = [] := by
  refine ⟨_, exec_barrierComplete htag hop hphase hfree, (r.finished rspOk).response rspOk, ?_, (State.tag_of_byTag htag :), rfl,
    Req.response_beats_of_other (.inl ?_)⟩
  · rw [State.warmFreeze_ports, State.foldl_retryHeld_ports, State.respond_finishReq htag hmute rspOk hsink, State.driveRsp_rsp]
  · show r.op ≠ opcRead
    rw [hop]
    decide

theorem groupCommitForward_uc (hr : s.req r.rid = some r) (hop : r.op = opcCommit) (hphase : r.phase = .held) (hfree : s.mustHold r = false)
    (huc : r.tableUc = true) : Completes (.groupCommitForward p tag) s fun t =>
      t.ledger.groups = s.ledger.groups ∧ t.err.fatalCnt = satInc s.err.fatalCnt ∧ (t.byTag p tag).map Req.phase = some .held := by
  have hbarrier : r.op ≠ opcBarrier := by rw [hop]; decide
  have herror := s.tableError_keeps false r.gid.toNat
  have hgroups : (s.tableError false r.gid.toNat).ledger.groups = s.ledger.groups := herror.groups (by decide)
  have hbyTag : (s.tableError false r.gid.toNat).byTag p tag = some r := (State.byTag_congr (herror.p .reqs (by decide)) p tag).trans htag
  have hretry := (State.retryHeld_of_free hr hphase hbarrier hfree).trans (State.forward_commit_uc hr hop huc)
  refine ⟨_, (exec_groupCommitForward htag hop).trans (congrArg Host.Outcome.next hretry), hgroups, s.tableError_fatalCnt false _, ?_⟩
  rw [State.byTag_modReq_of_some hbyTag]
  · rfl
  · exact fun _ => rfl
  · exact fun _ => rfl

theorem tagWatchdog_reports (hstuck : r.stuck = false) : Completes (.tagWatchdog p tag) s fun t =>
    t.err.fatalCnt = satInc s.err.fatalCnt ∧ t.reqs = s.reqs.map fun a => if a.rid = r.rid then { a with stuck := true } else a := by
  refine ⟨_, (exec_tagWatchdog htag).trans (congrArg Host.Outcome.next (if_neg (by rw [hstuck]; decide))), ?_, ?_⟩
  · exact State.logError_fatalCnt _ rfl
  · exact (State.logError_keeps ..).p .reqs (by decide)

end

/-- Settles O7: each command tries the one request again that its tag names. -/
theorem heldRequestsGoOn : Obligations.HeldRequestsGoOn := by
  unfold Obligations.HeldRequestsGoOn
  intro p tag r s htag hr
  refine ⟨barrierComplete_answers htag, fun hop hphase hfree hst huc => ?commit, groupCommitForward_uc htag hr, fun hop hphase hfree => ?access,
    tagWatchdog_reports htag, fun hstuck => ?again⟩
  case commit =>
    have hbarrier : r.op ≠ opcBarrier := by rw [hop]; decide
    rw [exec_groupCommitForward htag hop, State.retryHeld_of_free hr hphase hbarrier hfree, State.forward_commit_open hr hop huc hst]
  case access =>
    obtain ⟨hopen, hcommit, habort, hbarrier⟩ := op_of_access hop
    rw [exec_orderedForward htag hcommit habort, State.retryHeld_of_free hr hphase hbarrier hfree, State.forward_access hr hopen hcommit habort]
  case again => rw [exec_tagWatchdog htag, if_pos hstuck]

end Sys2Proof.Proofs
end

section
/-!
Acceptance (R34, R36, R39): O1. A request that enters a port is pushed under the next number, and what its entry leads to after that gives no
number back.
-/
namespace Sys2Proof.Machine

/-! ### Request numbers are not given back -/

/-- Every number that had been given out still is. -/
structure IdsGrow (s t : State) : Prop where
  le : s.ids ≤ t.ids

theorem IdsGrow.refl (s : State) : IdsGrow s s := ⟨le_rfl⟩

theorem IdsGrow.trans {s t u : State} (h : IdsGrow s t) (h' : IdsGrow t u) : IdsGrow s u := ⟨h.le.trans h'.le⟩

theorem IdsGrow.ite {s t u : State} {p : Prop} [Decidable p] (h : p → IdsGrow s t) (h' : ¬p → IdsGrow s u) : IdsGrow s (if p then t else u) := by
  split
  · exact h ‹_›
  · exact h' ‹_›

theorem IdsGrow.foldl {α : Type} {l : List α} {f : State → α → State} (hf : ∀ s a, IdsGrow s (f s a)) (s : State) : IdsGrow s (l.foldl f s) := by
  induction l generalizing s with
  | nil => exact .refl s
  | cons a l ih => exact (hf s a).trans (ih _)

/-- A change outside the numbers. -/
theorem Keeps.idsGrow {m : Nat} {s t : State} (h : Keeps m s t) (hm : m.testBit Part.ids.idx = false) : IdsGrow s t := ⟨(h.p .ids hm).ge⟩

section
variable (s : State) (rid : Nat)

/-- A request changed takes no number. -/
theorem IdsGrow.modReq (f : Req → Req) : IdsGrow s (s.modReq rid f) := ⟨le_rfl⟩

/-- A wait takes a number of its own (R108). -/
theorem IdsGrow.waitLedger : IdsGrow s (s.waitLedger rid) := ⟨Nat.le_succ s.ids⟩

theorem IdsGrow.askDemand (i : Nat) : IdsGrow s (s.askDemand rid i) := by
  unfold State.askDemand
  extract_lets t
  have ht : IdsGrow s t := .modReq s rid _
  refine ht.trans ?_
  exact .ite (fun _ => .waitLedger t rid) fun _ => .ite (fun _ => (t.ledgerFull_keeps ..).idsGrow (by decide)) fun _ => ⟨Nat.le_succ t.ids⟩

theorem IdsGrow.decideWrite (r : Req) : IdsGrow s (s.decideWrite rid r) := by
  unfold State.decideWrite
  extract_lets cl checks
  refine .ite (fun _ => (s.finishReq_keeps ..).idsGrow (by decide)) fun _ => .ite (fun _ => (s.ledgerConflict_keeps ..).idsGrow (by decide)) fun _ =>
    .ite (fun _ => (s.ledgerFull_keeps ..).idsGrow (by decide)) fun _ => .ite (fun _ => (s.ledgerFull_keeps ..).idsGrow (by decide)) fun _ => ?_
  split
  · exact .askDemand s rid _
  · exact .ite (fun _ => .waitLedger s rid) fun _ => (s.decidedWrite_keeps ..).idsGrow (by decide)

theorem IdsGrow.resolveRead (r : Req) : IdsGrow s (s.resolveRead rid r) := by
  unfold State.resolveRead
  extract_lets windowed ops t
  refine .ite (fun _ => ⟨Nat.le_succ s.ids⟩) fun _ => .ite (fun _ => (s.readPoisoned_keeps ..).idsGrow (by decide)) fun _ => ?_
  have ht : IdsGrow s t := .modReq s rid _
  exact ht.trans ((t.arriveHub_keeps ..).idsGrow (by decide))

theorem IdsGrow.recordError (solo : Bool) (k : Nat) : IdsGrow s (s.recordError rid solo k) :=
  ((s.tableError_keeps solo k).idsGrow (by decide)).trans ⟨Nat.le_succ _⟩

theorem IdsGrow.retryOne : IdsGrow s (s.retryOne rid) := by
  unfold State.retryOne
  split
  next r _ =>
    refine .ite (fun _ => ?_) fun _ => .refl s
    extract_lets t
    have ht : IdsGrow s t := .ite (fun _ => (s.checkEntries_keeps ..).idsGrow (by decide)) fun _ => .refl s
    exact ht.trans (.ite (fun _ => .resolveRead t rid r) fun _ => .decideWrite t rid r)
  next => exact .refl s

theorem IdsGrow.retryLedger : IdsGrow s s.retryLedger := .foldl (f := fun s (r : Req) => s.retryOne r.rid) (fun s r => .retryOne s r.rid) s

theorem IdsGrow.toLedger : IdsGrow s (s.toLedger rid) := by
  unfold State.toLedger
  split
  next => exact .refl s
  next r _ =>
    split
    next => exact (s.finishReq_keeps ..).idsGrow (by decide)
    next =>
      extract_lets looks t u v
      have ht : IdsGrow s t :=
        .ite (fun _ => ((s.checkEntries_keeps ..).idsGrow (by decide)).trans ((State.telSys_keeps ..).idsGrow (by decide))) fun _ => .refl s
      have hu : IdsGrow t u := .ite (fun _ => .retryLedger t) fun _ => .refl t
      have hv : IdsGrow u v := .modReq u rid _
      refine (ht.trans (hu.trans hv)).trans ?_
      split
      next => exact .recordError v rid _ _
      next =>
        refine .ite (fun _ => ?_) fun _ => .ite (fun _ => .resolveRead v rid r) fun _ => .decideWrite v rid r
        exact (IdsGrow.modReq v rid _).trans ((State.arriveHub_keeps ..).idsGrow (by decide))

theorem IdsGrow.forward : IdsGrow s (s.forward rid) := by
  unfold State.forward
  split
  next => exact .refl s
  next r _ =>
    refine .ite (fun _ => .ite (fun _ => ?_) fun _ => .ite (fun _ => ?_) fun _ => ?_) fun _ => .toLedger s rid
    · exact (s.groupError_keeps ..).idsGrow (by decide)
    · exact (s.openGroup_keeps ..).idsGrow (by decide)
    · exact (s.endGroup_keeps ..).idsGrow (by decide)

theorem IdsGrow.takeUp : IdsGrow s (s.takeUp rid) := by
  unfold State.takeUp
  split
  next => exact .refl s
  next r _ =>
    split
    next => exact (s.finishReq_keeps ..).idsGrow (by decide)
    next => exact .ite (fun _ => .modReq s rid _) fun _ => .forward s rid

end

/-! ### A request enters its port -/

/-- What a request's checks count at its port (R67). -/
def Port.checked (x : Port) (bad denied : Bool) : Port :=
  { x with malfCnt := if bad then satInc x.malfCnt else x.malfCnt, denyCnt := if denied then satInc x.denyCnt else x.denyCnt }

/-- A request that enters takes the next number, joins the requests in flight and is counted at its port; what follows its entry leaves the ports
and the requests that are in flight. -/
theorem State.enterPort_state (s : State) (p : Fin 16) (op : BitVec 4) (f : ReqFields) (e : EntryRead) :
    s.ids < (s.enterPort p op f e).ids ∧
    (s.enterPort p op f e).reqs.map Req.key = s.reqs.map Req.key ++ [(s.ids, srcPort p, f.tag, op)] ∧
    (s.enterPort p op f e).ports = (s.modPort p fun x => x.checked (s.malformed p op f)
      (!s.malformed p op f && s.portVerdict p op f == some rspDenied)).ports := by
  have hsample : Keeps 0x800000000 s (s.sampleNext p op f.cls).1 := State.sampleNext_keeps ..
  unfold State.enterPort
  split
  next s1 n hnext =>
  rw [hnext] at hsample
  have hids : s1.ids = s.ids := hsample.p .ids (by decide)
  have hreqs : s1.reqs = s.reqs := hsample.p .reqs (by decide)
  have hports : s1.ports = s.ports := hsample.p .ports (by decide)
  extract_lets rid verdict bad denied src0 r s2 s3 s4 s5 s6
  have hids3 : s3.ids = s.ids + 1 := congrArg (· + 1) hids
  have hkeys3 : s3.reqs.map Req.key = s.reqs.map Req.key ++ [(s.ids, srcPort p, f.tag, op)] := by
    show (s1.reqs ++ [r]).map Req.key = _
    rw [hreqs, List.map_append]
    rfl
  have hports3 : s3.ports = (s.modPort p fun x => x.checked bad denied).ports := by
    show s1.ports.set p (s1.ports[p].checked bad denied) = s.ports.set p (s.ports[p].checked bad denied)
    rw [hports]
  have h4 : Keeps 0x408000220 s3 s4 := (s3.telSys_keeps ..).mono (by decide)
  have h5 : Keeps 0x408000220 s3 s5 := .ite (fun _ => (s4.telSys_keeps ..).on h4 (by decide)) fun _ => h4
  have h6 : Keeps 0x408000220 s3 s6 :=
    (State.lateTraffic_keeps ..).on (.ite (fun _ => (s5.wakeBy_keeps 1).on h5 (by decide)) fun _ => h5) (by decide)
  have hlast : Keeps 0x63c0d022c s3 (if beatsOf op f.len f.pi = 0 then s6.takeUp rid else s6) :=
    .ite (fun _ => (s6.takeUp_keeps rid).on (h6.mono (by decide)) (by decide)) fun _ => h6.mono (by decide)
  have hgrow : IdsGrow s3 (if beatsOf op f.len f.pi = 0 then s6.takeUp rid else s6) :=
    (h6.idsGrow (by decide)).trans (.ite (fun _ => .takeUp s6 rid) fun _ => .refl s6)
  exact ⟨Nat.lt_of_lt_of_le (by rw [hids3]; exact s.ids.lt_succ_self) hgrow.le, (hlast.p .reqList (by decide)).trans hkeys3,
    (hlast.p .ports (by decide)).trans hports3⟩

end Sys2Proof.Machine

namespace Sys2Proof.Proofs
open Sys2Proof.Machine

/-- Settles O1: a ready port takes a request under a free tag, and what its entry leaves (`State.enterPort_state`). -/
theorem portAcceptsRequest : Obligations.PortAcceptsRequest := by
  unfold Obligations.PortAcceptsRequest
  intro p f e uc op c s hready htag hmem
  obtain ⟨e', hexec⟩ := exec_presenter hmem s
  obtain ⟨hids, hkeys, hports⟩ := s.enterPort_state p op f e'
  have hself := s.modPort_self p fun x => x.checked (s.malformed p op f) (!s.malformed p op f && s.portVerdict p op f == some rspDenied)
  refine ⟨_, hexec.trans (congrArg Host.Outcome.next (State.present_of_tag_free hready op f e' htag)), hids, hkeys, ?_, ?_, fun q hq => ?_⟩
  · rw [hports, hself]
    rfl
  · rw [hports, hself]
    rfl
  · rw [hports]
    exact s.modPort_other p q _ hq

end Sys2Proof.Proofs
end

section
/-!
Write data (R37): O3. A beat joins the request under the number of the oldest awaiting write, and `Obligations.WriteBeatJoinsItsWrite` says of
its last beat that the state is as if that write alone, its beat joined, stood under its number. The two differ where another request has the
same number: `Inv` excludes that, and the obligation has no such hypothesis.
-/
namespace Sys2Proof.Proofs
open Sys2Proof.Machine

/-- What a write and a read of one line present at a port. -/
def oneLine (tag : BitVec 10) : ReqFields :=
  { tag := tag, addr := 0, len := 0, cls := 0, ord := 0, gv := false, gid := 0, pi := 0, aux := 0 }

/-- A write of port 0 that failed a check there and awaits its one beat. -/
def deniedWrite : Req := { newReq 1 (srcPort 0) opcWrite (oneLine 5) 0 with verdict := some rspDenied }

/-- A read of port 0 with the same number. -/
def twinRead : Req := { newReq 1 (srcPort 0) opcRead (oneLine 6) 0 with phase := .held }

/-- A block in RUN with both in flight. -/
def inRunTwins : State := { inRun with reqs := [deniedWrite, twinRead], ids := 2 }

/-- The last beat of the write. -/
def lastBeat : WdFields := { tag := 5, data := 0, be := 0, last := true }

/-- The write with its beat. -/
def wholeWrite : Req := { deniedWrite with beats := deniedWrite.beats ++ [{ data := lastBeat.data, be := lastBeat.be }] }

/-- The block answers the write, and both requests stand under their own tags. -/
theorem inRunTwins_tags : ∃ t, exec (.writeDataBeat 0 lastBeat) inRunTwins = .next t ∧ t.reqs.map Req.tag = [5, 6] := by
  refine ⟨_, exec_writeDataBeat (r := deniedWrite) (by decide +kernel) rfl, ?_⟩
  decide +kernel

/-- Refutes O3: where a denied write (tag 5) and a read (tag 6) of port 0 share the number 1, the last beat of the write leaves the read its
tag, and the state that the obligation names has the tag 5 twice. -/
theorem not_writeBeatJoinsItsWrite : ¬ Obligations.WriteBeatJoinsItsWrite := by
  unfold Obligations.WriteBeatJoinsItsWrite
  intro h
  obtain ⟨-, hlast⟩ := h 0 lastBeat deniedWrite inRunTwins (by decide +kernel) rfl rfl rfl
  obtain ⟨hverdict, -⟩ := hlast rfl (by decide) wholeWrite _ rfl rfl
  obtain ⟨t, ht, htags⟩ := inRunTwins_tags
  obtain rfl := Host.Outcome.next.inj (ht.symm.trans (hverdict rspDenied rfl))
  exact absurd htags (by decide +kernel)

end Sys2Proof.Proofs
end

section
/-!
Stream ingest, beats (O8): what a beat makes of the FIFO of its port where no segment is open (R70, R71, R72, R80).
-/
namespace Sys2Proof.Machine

@[simp] theorem State.raiseIf_ingest (s : State) (c : Bool) (page j : Nat) : (s.raiseIf c page j).ingest = s.ingest :=
  (s.raiseIf_keeps c page j).p .ingest (by decide)

/-- In_FULL_WARN driven is a change of the one FIFO. -/
theorem State.driveWarn_self (s : State) (n : Fin 8) : (s.driveWarn n).ingest[n] = { s.ingest[n] with warnPin := s.fullWarn n } :=
  s.modIng_self n _

theorem State.driveWarn_other (s : State) {n m : Fin 8} (h : m ≠ n) : (s.driveWarn n).ingest[m] = s.ingest[m] :=
  s.modIng_other n m _ h

/-! ### The newest segment (R72) -/

/-- With no segment open, a reason to close closes nothing. -/
theorem Ingest.close_of_openSeg_none {x : Ingest} (h : x.openSeg = none) (why : BitVec 16) : x.close why = x := by
  rw [Ingest.close, h]

theorem Ingest.openSeg_of_segs {x : Ingest} {l : List Segment} {g : Segment} (h : x.segs = l ++ [g]) :
    x.openSeg = if g.closed then none else some g := by
  simp [Ingest.openSeg, h]

/-! ### A beat that finds no segment open (R71, R72, R80) -/

/-- A FIFO without the marks of a trigger that waits for its beat. -/
def Ingest.unmarked (x : Ingest) : Ingest := { x with swTrig := false, pinTrig := false }

/-- The segment that the first beat of a segment leaves. -/
def Ingest.firstSegment (x : Ingest) (b : IngFields) (now : Time) : Segment :=
  { bytes := bytesOf b.data 32, closed := false, flags := if b.sop then ingSop else 0, trigOfs := 0xFFFFFFFF, tFirst := now, tLast := now
    pos := x.pos, issued := 0, before := x.gapQ ++ x.gap.toList }

/-- A FIFO once the first beat of a segment is taken. -/
def Ingest.opened (x : Ingest) (b : IngFields) (now : Time) : Ingest :=
  { x with phase := .open_, gap := none, gapQ := [], segs := x.segs ++ [x.firstSegment b now], pos := x.pos + 32 }

/-- A first beat without EOP and without a trigger opens a segment with its 32 bytes. -/
theorem acceptBeat_openSegment (x : Ingest) {b : IngFields} (heop : b.eop = false) (now : Time) :
    acceptBeat (openSegment x b now) b now false false = x.opened b now := by
  have hbytes : beatBytes b = 32 := by simp [beatBytes, heop]
  simp [Ingest.opened, acceptBeat, openSegment, Ingest.modLast, Ingest.openSeg, Ingest.firstSegment, hbytes, heop, bytesOf]

section
variable {s : State} {n : Fin 8} (hlow : s.ingest[n].rstLow = false) (hcore : s.pwr.coreOn = true) (hmode : s.mode.mode ≠ .retention)
include hlow hcore hmode

/-- The beat meets the FIFO. -/
theorem State.meetsBeat : ¬(s.ingest[n].rstLow || !s.pwr.coreOn || s.mode.mode == .retention) = true := by
  rw [hlow, hcore, beq_false_of_ne hmode]
  decide

/-- A port that does not listen counts the beat as refused. -/
theorem State.takeBeat_of_deaf (hl : s.ingest[n].listens = false) (b : IngFields) :
    s.takeBeat n b = s.modIng n fun x => { x with disc := satInc x.disc } :=
  (if_neg (State.meetsBeat hlow hcore hmode)).trans (if_pos hl)

/-- A beat that finds no segment open, with no freeze to come and no TRIG waiting: it opens a segment, or with two segments still held it is
dropped. -/
theorem State.takeBeat_of_fresh (hl : s.ingest[n].listens = true) (hopen : s.ingest[n].openSeg = none) (hpend : s.ingest[n].trigPend = false)
    (hsw : s.ingest[n].swTrig = false) (b : IngFields) :
    s.takeBeat n b = if 2 ≤ s.ingest[n].segs.length then
        (s.modIng n fun x => dropBeat x.unmarked b s.tb (s.ringFull n) x.pinTrig false).raiseIf s.ingest[n].gap.isNone (pageIng n) 0
      else s.modIng n fun x => acceptBeat (openSegment x.unmarked b s.tb) b s.tb x.pinTrig false := by
  refine (if_neg (State.meetsBeat hlow hcore hmode)).trans ((if_neg (by rw [hl]; decide)).trans ?_)
  extract_lets full byWrite trig x1 x2 x3 ends freeze fresh dropIt begun x4 x5
  have hwrite : byWrite = false := by simp only [byWrite, hsw, Bool.false_and]
  have h2 : x2 = s.ingest[n].unmarked := by simp only [x2, hwrite, Bool.false_eq_true, if_false]; rfl
  have h3 : x3 = s.ingest[n].unmarked := by simp only [x3, h2, Ingest.close_of_openSeg_none (x := s.ingest[n].unmarked) hopen, ite_self]
  have hpend3 : x3.trigPend = false := by rw [h3]; exact hpend
  have hfreeze : freeze = false := by simp only [freeze, hpend3, Bool.false_and]
  have hfresh : fresh = true := by simp only [fresh, h3]; rw [show s.ingest[n].unmarked.openSeg = none from hopen]; rfl
  have htrig : trig = s.ingest[n].pinTrig := by simp only [trig, hwrite, Bool.or_false]
  have hdrop : dropIt = decide (2 ≤ s.ingest[n].segs.length) := by simp only [dropIt, hfresh, h3, Bool.true_and]; rfl
  have h5 : x5 = x4 := by simp only [x5, hfreeze, Bool.false_eq_true, if_false]
  by_cases hheld : 2 ≤ s.ingest[n].segs.length
  · have h4 : x4 = dropBeat s.ingest[n].unmarked b s.tb full s.ingest[n].pinTrig false := by
      simp only [x4, hdrop, hheld, decide_true, if_true, h3, htrig, hfreeze]
    have hbegun : begun = s.ingest[n].gap.isNone := by simp only [begun, hdrop, hheld, decide_true, Bool.true_and, h3]; rfl
    rw [if_pos hheld, h5, h4, hbegun]
    rfl
  · have h4 : x4 = acceptBeat (openSegment s.ingest[n].unmarked b s.tb) b s.tb s.ingest[n].pinTrig false := by
      simp only [x4, hdrop, hheld, decide_false, Bool.false_eq_true, if_false, hfresh, if_true, h3, htrig, hfreeze]
    have hbegun : begun = false := by simp only [begun, hdrop, hheld, decide_false, Bool.false_and]
    rw [if_neg hheld, h5, h4, hbegun]
    rfl

end

end Sys2Proof.Machine

namespace Sys2Proof.Proofs
open Sys2Proof.Machine

section
variable {n : Fin 8} {s : State} (hlow : s.ingest[n].rstLow = false) (hcore : s.pwr.coreOn = true) (hmode : s.mode.mode ≠ .retention)
include hlow hcore hmode

/-- The first beat of a segment, in IDLE. -/
theorem ingestBeat_opens (hphase : s.ingest[n].phase = .idle) (hopen : s.ingest[n].openSeg = none) (hheld : s.ingest[n].segs.length < 2)
    (hpend : s.ingest[n].trigPend = false) (hsw : s.ingest[n].swTrig = false) (hpin : s.ingest[n].pinTrig = false) {b : IngFields}
    (heop : b.eop = false) : Completes (.ingestBeat n b) s fun t =>
      t.ingest[n].phase = .open_ ∧ t.ingest[n].openSeg.map (fun g => g.bytes) = some (bytesOf b.data 32) ∧
        t.ingest[n].pos = s.ingest[n].pos + 32 ∧ t.ingest[n].segs.length = s.ingest[n].segs.length + 1 ∧ ∀ m : Fin 8, m ≠ n → t.ingest[m] = s.ingest[m] := by
  have hl : s.ingest[n].listens = true := by rw [Ingest.listens, hphase]; rfl
  have hbeat : s.takeBeat n b = s.modIng n fun x => acceptBeat (openSegment x.unmarked b s.tb) b s.tb x.pinTrig false := by
    rw [State.takeBeat_of_fresh hlow hcore hmode hl hopen hpend hsw, if_neg (by omega)]
  have hself : (s.takeBeat n b).ingest[n] = s.ingest[n].unmarked.opened b s.tb := by
    rw [hbeat, State.modIng_self, hpin]
    exact acceptBeat_openSegment _ heop s.tb
  refine ⟨_, rfl, ?_⟩
  beta_reduce
  rw [State.driveWarn_self, hself]
  refine ⟨rfl, ?_, rfl, List.length_append .., fun m hm => ?_⟩
  · rw [Ingest.openSeg_of_segs rfl]
    rfl
  · rw [State.driveWarn_other _ hm, hbeat, State.modIng_other _ _ _ _ hm]

/-- A beat with two segments still held. -/
theorem ingestBeat_drops (hl : s.ingest[n].listens = true) (hopen : s.ingest[n].openSeg = none) (hheld : 2 ≤ s.ingest[n].segs.length)
    (hpend : s.ingest[n].trigPend = false) (hsw : s.ingest[n].swTrig = false) (b : IngFields) : Completes (.ingestBeat n b) s fun t =>
      t.ingest[n].phase = .drop ∧ t.ingest[n].gap.isSome = true ∧ t.ingest[n].segs = s.ingest[n].segs ∧
        t.ingest[n].drop = s.ingest[n].drop + BitVec.ofNat 64 (beatBytes b) := by
  have hself : (s.takeBeat n b).ingest[n] = dropBeat s.ingest[n].unmarked b s.tb (s.ringFull n) s.ingest[n].pinTrig false := by
    rw [State.takeBeat_of_fresh hlow hcore hmode hl hopen hpend hsw, if_pos hheld, State.raiseIf_ingest, State.modIng_self]
  refine ⟨_, rfl, ?_⟩
  beta_reduce
  rw [State.driveWarn_self, hself]
  exact ⟨rfl, rfl, rfl, rfl⟩

end

/-- Settles O8: a port that does not listen by `State.takeBeat_of_deaf`, a beat that finds no segment open by `State.takeBeat_of_fresh`. -/
theorem ingestBeatAsThePhaseSays : Obligations.IngestBeatAsThePhaseSays := by
  unfold Obligations.IngestBeatAsThePhaseSays
  intro n b s hlow hcore hmode
  refine ⟨fun hl => ?_, fun hphase hopen hheld hpend hsw hpin heop => ?_, fun hl hopen hheld hpend hsw => ?_⟩
  · show Host.Outcome.next ((s.takeBeat n b).driveWarn n) = _
    rw [State.takeBeat_of_deaf hlow hcore hmode hl]
    rfl
  · exact ingestBeat_opens hlow hcore hmode hphase hopen hheld hpend hsw hpin heop
  · exact ingestBeat_drops hlow hcore hmode hl hopen hheld hpend hsw b

end Sys2Proof.Proofs
end

section
/-!
Stream ingest, the drain (O9): a stripe issued, and a stripe acknowledged (R78, R81, R82).
-/
namespace Sys2Proof.Machine

/-- A record's stripe noted leaves the pointers. -/
theorem Ingest.noteStripe_pointers (x : Ingest) (first last : Bool) : (x.noteStripe first last).wp = x.wp ∧ (x.noteStripe first last).cwp = x.cwp := by
  unfold Ingest.noteStripe
  extract_lets w
  split
  · exact ⟨rfl, rfl⟩
  · split <;> exact ⟨rfl, rfl⟩

/-- A stripe that goes into the core is one request more, under the next number, and moves the write pointer by 512. -/
theorem State.issueStripe_state (s : State) (n : Fin 8) (lines : List Line) :
    (s.issueStripe n lines).ids = s.ids + 1 ∧ (s.issueStripe n lines).ingest[n].wp = s.ingest[n].wp + 512 ∧
    (s.issueStripe n lines).ingest[n].cwp = s.ingest[n].cwp ∧
    (s.issueStripe n lines).reqs.map Req.key = s.reqs.map Req.key ++ [(s.ids, srcIng n, 0, opcWrite)] := by
  unfold State.issueStripe
  extract_lets x at_ rid f src0 r t u
  have harrive := u.arriveHub_keeps rid r.storeLines
  have hids : (u.arriveHub rid r.storeLines).ids = u.ids := harrive.p .ids (by decide)
  have hing : (u.arriveHub rid r.storeLines).ingest = u.ingest := harrive.p .ingest (by decide)
  have hkeys : (u.arriveHub rid r.storeLines).reqs.map Req.key = u.reqs.map Req.key := harrive.p .reqList (by decide)
  have hself : u.ingest[n] = { s.ingest[n] with wp := s.ingest[n].wp + 512 } := t.modIng_self n _
  rw [hids, hing, hkeys, hself]
  exact ⟨rfl, rfl, rfl, List.map_append⟩

/-- A stripe that the ring has room for, a gap record's or a data record's, is issued once its record is noted. -/
theorem State.drainOnce_issues {s : State} {n : Fin 8}
    (h : (∃ g q, s.drainItem n = some (.gap g q) ∧ s.ringSpace n true = true) ∨ (∃ y, s.drainItem n = some (.data y) ∧ s.ringSpace n false = true)) :
    ∃ (f : Ingest → Ingest) (lines : List Line), s.drainOnce n = (s.modIng n f).issueStripe n lines ∧ ∀ x, (f x).wp = x.wp ∧ (f x).cwp = x.cwp := by
  unfold State.drainOnce
  rcases h with ⟨g, queued, hitem, hspace⟩ | ⟨y, hitem, hspace⟩
  · rw [hitem]
    simp only [hspace, Bool.true_eq_false, if_false]
    exact ⟨_, _, rfl, fun x => x.noteStripe_pointers true true⟩
  · rw [hitem]
    simp only [hspace, Bool.true_eq_false, if_false]
    exact ⟨_, _, rfl, fun x => x.noteStripe_pointers _ _⟩

/-- CWP settled moves neither requests nor the write pointer. -/
theorem State.settleCwp_state (s : State) (n : Fin 8) : (s.settleCwp n).reqs = s.reqs ∧ (s.settleCwp n).ingest[n].wp = s.ingest[n].wp ∧
    (s.settleCwp n).ingest[n].cwp = (advanceCwp s.ingest[n].records s.ingest[n].cwp).2 := by
  refine ⟨s.settleCwp_keeps n |>.p .reqs (by decide), ?_⟩
  simp only [State.settleCwp, State.raiseIf_ingest, State.modIng_self, and_self]

end Sys2Proof.Machine

namespace Sys2Proof.Proofs
open Sys2Proof.Machine

/-- Settles O9: an issue by what a stripe is in the core (`State.issueStripe_state`), an acknowledgement by CWP settled. -/
theorem ingestDrain : Obligations.IngestDrain := by
  unfold Obligations.IngestDrain
  intro n s
  refine ⟨fun hservice hlow hitem => ?_, fun r hr => ?_⟩
  · obtain ⟨f, lines, hdrain, hf⟩ := State.drainOnce_issues hitem
    obtain ⟨hwp, hcwp⟩ := hf s.ingest[n]
    obtain ⟨hids, hwp', hcwp', hkeys⟩ := (s.modIng n f).issueStripe_state n lines
    rw [State.modIng_self] at hwp' hcwp'
    have hexec : exec (.drainStripeIssue n) s = .next ((s.modIng n f).issueStripe n lines) := by
      rw [← hdrain]
      exact congrArg Host.Outcome.next (if_pos ⟨hservice, hlow⟩)
    exact ⟨_, hexec, hids, by rw [hwp', hwp], by rw [hcwp', hcwp], hkeys⟩
  · have hexec : exec (.drainStripeAck n) s = .next (s.ackDrain n r) := by
      show execDrainStripeAck n s = _
      rw [execDrainStripeAck, hr]
    obtain ⟨hreqs, hwp, hcwp⟩ := ((s.dropReq r.rid).modIng n fun x => { x with records := ackStripe x.records r.ring }).settleCwp_state n
    rw [State.modIng_self] at hwp hcwp
    exact ⟨_, hexec, hreqs, hwp, hcwp⟩

end Sys2Proof.Proofs
end

section
/-!
Stream ingest, the commands (O10): closing, triggers and the freeze (R72, R84 to R86), reset (R88), enabling and disabling (R89, R92), and the
pending values of a port's page, which apply when it is OFF (R382).
-/
namespace Sys2Proof.Machine

/-! ### The open segment (R72) -/

theorem Ingest.openSeg_congr {x y : Ingest} (h : y.segs = x.segs) : y.openSeg = x.openSeg := by
  rw [Ingest.openSeg, Ingest.openSeg, h]

/-- The open segment is the newest one. -/
theorem Ingest.segs_of_openSeg {x : Ingest} {g : Segment} (h : x.openSeg = some g) : x.segs = x.segs.dropLast ++ [g] := by
  unfold Ingest.openSeg at h
  split at h
  next y hlast =>
    split_ifs at h
    obtain rfl := Option.some.inj h
    exact (List.dropLast_append_getLast? y hlast).symm
  next => exact absurd h nofun

/-- The open segment closed: it is the newest still, and the FIFO is IDLE. -/
theorem Ingest.close_of_openSeg {x : Ingest} {g : Segment} (h : x.openSeg = some g) (why : BitVec 16) :
    x.close why = { x with phase := .idle, segs := x.segs.dropLast ++ [{ g with closed := true, flags := g.flags ||| why }] } := by
  have hlast : x.segs.getLast? = some g := by rw [Ingest.segs_of_openSeg h, List.getLast?_concat]
  simp only [Ingest.close, h, Ingest.modLast, hlast]

theorem Ingest.close_openSeg (x : Ingest) (why : BitVec 16) : (x.close why).openSeg = none := by
  cases h : x.openSeg with
  | none => rw [Ingest.close_of_openSeg_none h, h]
  | some g =>
    rw [Ingest.close_of_openSeg h, Ingest.openSeg_of_segs rfl]
    rfl

theorem Ingest.close_segs_length (x : Ingest) (why : BitVec 16) : (x.close why).segs.length = x.segs.length := by
  cases h : x.openSeg with
  | none => rw [Ingest.close_of_openSeg_none h]
  | some g =>
    rw [Ingest.close_of_openSeg h]
    conv_rhs => rw [Ingest.segs_of_openSeg h]
    simp only [List.length_append, List.length_singleton]

/-- A FIFO that listens, disabled: its segment closes, its drop ends, and it drains (R89). -/
theorem Ingest.disabled_of_listens {x : Ingest} (h : x.listens = true) :
    x.disabled.phase = .closing ∧ x.disabled.openSeg = none ∧ x.disabled.gap = none := by
  have hl : ({ x with enWanted := false } : Ingest).listens = true := h
  simp only [Ingest.disabled, hl, if_true, true_and, and_true]
  exact (Ingest.openSeg_congr rfl).trans (Ingest.close_openSeg _ _)

/-! ### Commands and register writes of a port (R367, R396) -/

theorem State.whenLive_of_live {s : State} {page : Nat} (h : s.pageLive page = true) (f : State → State) : s.whenLive page f = f s := if_pos h

/-- With the sequence lock free a command that writes registers acts at once. -/
theorem State.rowWrite_of_free {s : State} (h : s.regs.seq.held = false) (l : List Access) (f : State → State) : s.rowWrite l f = f s := by
  have hlease : s.expireLease = s := if_neg (by simp [State.leaseOver, h])
  rw [State.rowWrite, hlease, h]
  rfl

/-- An ingest page has both its sources. -/
theorem sourceMask_pageIng_event (n : Fin 8) : (flag true 1 &&& sourceMask (pageIng n)).getLsbD 1 = true := by
  revert n
  decide

theorem groupOf_pageIng (n : Fin 8) : groupOf (pageIng n - 0x20) = n := by
  revert n
  decide

theorem State.noteEn_regs (s : State) (n : Fin 8) (f : State → State) : (s.noteEn n f).regs = (f s).regs := by
  have hfeas (u : State) : u.feasTrigger.regs = u.regs := by
    unfold State.feasTrigger
    split <;> rfl
  unfold State.noteEn
  dsimp only
  split
  · rfl
  · exact hfeas _

/-! ### Reset (R88) -/

theorem State.cutRecords_self (s : State) (n : Fin 8) : (s.cutRecords n).ingest[n] = { s.ingest[n] with
    segs := [], gap := none, gapQ := [], records := s.ingest[n].records.filter Record.issued, wp := s.ingest[n].issueBack } :=
  State.modIng_self _ n _

theorem State.cutRecords_other (s : State) {n m : Fin 8} (h : m ≠ n) : (s.cutRecords n).ingest[m] = s.ingest[m] :=
  State.modIng_other _ n m _ h

/-! ### Leaving OFF (R77, R92) -/

/-- A FIFO with EN set. -/
def Ingest.enabled (x : Ingest) : Ingest := { x with enWanted := true }

theorem State.ingOn_of_sound {s : State} {n : Fin 8} (h : s.parity (pageIng n) = false) :
    s.ingOn n = s.noteEn n fun s => (s.modIng n Ingest.enabled).leaveOff n := if_neg (by rw [h]; decide)

/-- The check of a ring looks at the other ports' states alone. -/
theorem State.ringError_modIng (s : State) (n : Fin 8) {f : Ingest → Ingest} (hf : ∀ x, (f x).phase = x.phase) :
    (s.modIng n f).ringError n = s.ringError n := by
  have hphase (m : Fin 8) : (s.modIng n f).ingest[m].phase = s.ingest[m].phase := by
    by_cases hm : m = n
    · rw [hm, State.modIng_self, hf]
    · rw [State.modIng_other _ _ _ _ hm]
  unfold State.ringError
  simp only [hphase]
  rfl

/-- A port whose ring is in order leaves OFF, for FROZEN where its ring is frozen (R86). -/
theorem State.leaveOff_of_ring {s : State} {n : Fin 8} (hphase : s.ingest[n].phase = .off) (hen : s.ingest[n].enWanted = true)
    (hservice : s.inService = true) (hdiag : s.entersDiag = false) (hring : s.ringError n = 0) :
    s.leaveOff n = s.modIng n fun x =>
      { x with cfgErr := 0, trigSeen := false, swTrig := false, pinTrig := false, phase := if x.frozen then .frozen else .idle } := by
  unfold State.leaveOff
  rw [if_neg (by simp only [hphase, hen, hservice, hdiag]; decide)]
  exact if_neg (by simp only [hring]; decide)

theorem State.leaveOff_of_not_wanted {s : State} {n : Fin 8} (h : s.ingest[n].enWanted = false) : s.leaveOff n = s := if_pos (.inr (.inl h))

/-! ### Pending values that apply (R382) -/

theorem mem_dropKey {α : Type} {l : List (Nat × α)} {k : Nat} {x : Nat × α} (h : x ∈ dropKey l k) : x ∈ l ∧ x.1 ≠ k := by
  induction l with
  | nil => exact absurd h (List.not_mem_nil)
  | cons y l ih =>
    obtain ⟨k', v⟩ := y
    simp only [dropKey] at h
    split_ifs at h with hk
    · exact ⟨List.mem_cons_of_mem _ (ih h).1, (ih h).2⟩
    · rcases List.mem_cons.1 h with rfl | h
      · exact ⟨List.mem_cons_self, hk⟩
      · exact ⟨List.mem_cons_of_mem _ (ih h).1, (ih h).2⟩

/-- A shadow that is left when the shadows at some offsets of a page have been applied is at none of them. -/
theorem State.mem_shadows_foldl_applyShadow (page : Nat) (l : List Nat) (s : State) {x : Nat × Shadow}
    (h : x ∈ (l.foldl (fun (t : State) (o : Nat) => t.applyShadow page o) s).regs.shadows) :
    x ∈ s.regs.shadows ∧ ∀ o ∈ l, x.1 ≠ regKey page o := by
  induction l generalizing s with
  | nil => exact ⟨h, fun o ho => absurd ho List.not_mem_nil⟩
  | cons o l ih =>
    obtain ⟨hx, hl⟩ := ih _ h
    obtain ⟨hx, ho⟩ := mem_dropKey (k := regKey page o) (l := s.regs.shadows) hx
    exact ⟨hx, List.forall_mem_cons.2 ⟨ho, hl⟩⟩

theorem State.pendingAt_congr {s t : State} (h : t.regs.shadows = s.regs.shadows) (page : Nat) (ap : Apply) : t.pendingAt page ap = s.pendingAt page ap := by
  rw [State.pendingAt, State.pendingAt, h]

theorem State.intRaw_congr {s t : State} (h : t.regs.headers = s.regs.headers) (page : Nat) : t.intRaw page = s.intRaw page := by
  rw [State.intRaw, State.intRaw, State.header, State.header, h]

section
variable (s : State) (page : Nat) (ap : Apply)

/-- The pending values of a page under an apply point, applied, before what they set off. -/
def State.applyValues : State := (s.pendingAt page ap).foldl (fun (t : State) (o : Nat) => t.applyShadow page o) s

theorem State.applyPoint_eq : s.applyPoint page ap = if (s.pendingAt page ap).isEmpty then s
    else ((s.applyValues page ap).modHeader page fun h => { h with applied := h.applied + 1 }).appliedHook s page (s.pendingAt page ap) := rfl

theorem State.applyValues_keeps : Keeps 0xc0 s (s.applyValues page ap) := .foldl .rfl' fun u o => u.applyShadow_keeps page o

theorem State.applyValues_pendingAt : (s.applyValues page ap).pendingAt page ap = [] := by
  rw [State.pendingAt, List.map_eq_nil_iff, List.filter_eq_nil_iff]
  intro x hx hat
  obtain ⟨hmem, hne⟩ := State.mem_shadows_foldl_applyShadow page _ s hx
  have hpage : x.1 / 1024 = page := beq_iff_eq.1 (Bool.and_eq_true_iff.1 hat).1
  refine hne (x.1 % 1024) (List.mem_map.2 ⟨x, List.mem_filter.2 ⟨hmem, hat⟩, rfl⟩) ?_
  rw [regKey, ← hpage, Nat.div_add_mod']

/-- When its apply point has come nothing is pending under it. -/
theorem State.applyPoint_pendingAt : (s.applyPoint page ap).pendingAt page ap = [] := by
  rw [State.applyPoint_eq]
  split
  next h => exact List.isEmpty_iff.1 h
  next =>
    have hhook (u : State) (l : List Nat) : (u.appliedHook s page l).regs.shadows = u.regs.shadows := (u.appliedHook_keeps ..).p .regShadows (by decide)
    rw [State.pendingAt_congr (hhook _ _), ← State.applyValues_pendingAt s page ap]
    exact State.pendingAt_congr rfl page ap

/-- Values that apply leave the sources that are raised. -/
theorem State.applyPoint_intRaw : (s.applyPoint page ap).intRaw page = s.intRaw page := by
  rw [State.applyPoint_eq]
  split
  next => rfl
  next =>
    have hhook (u : State) (l : List Nat) : (u.appliedHook s page l).regs.headers = u.regs.headers := (u.appliedHook_keeps ..).p .regHeaders (by decide)
    have hvalues : (s.applyValues page ap).regs.headers = s.regs.headers := (s.applyValues_keeps page ap).p .regHeaders (by decide)
    rw [State.intRaw_congr (hhook _ _), State.intRaw, State.modHeader, State.setHeader_self]
    exact State.intRaw_congr hvalues page

end

/-- On an ingest page a changed base or size begins a new ring (R93). -/
theorem State.appliedHook_pageIng (s old : State) (n : Fin 8) (l : List Nat) : s.appliedHook old (pageIng n) l =
    if s.ringBase n ≠ old.ringBase n ∨ s.ringSize n ≠ old.ringSize n then s.modIng n Ingest.newRing else s := by
  have hpage : 0x20 ≤ pageIng n ∧ pageIng n < 0x28 := ⟨Nat.le_add_right _ _, by simp only [pageIng]; omega⟩
  simp only [State.appliedHook, hpage, and_self, if_true, groupOf_pageIng]

/-- On an ingest page the values that apply may begin a new ring of the port, and touch no other port. -/
theorem State.applyPoint_ingest (s : State) (n : Fin 8) (ap : Apply) :
    (s.applyPoint (pageIng n) ap).ingest = s.ingest ∨ (s.applyPoint (pageIng n) ap).ingest = (s.modIng n Ingest.newRing).ingest := by
  have hvalues : (s.applyValues (pageIng n) ap).ingest = s.ingest := (s.applyValues_keeps _ ap).p .ingest (by decide)
  rw [State.applyPoint_eq, State.appliedHook_pageIng]
  split_ifs
  · exact .inl rfl
  · exact .inr (by simp only [State.modIng, State.modHeader_ingest, hvalues])
  · exact .inl hvalues

/-! ### The end of CLOSING (R77) -/

/-- OFF entered at the end of CLOSING, with EVENT and the values that apply there. -/
def State.closed (s : State) (n : Fin 8) : State := ((s.modIng n Ingest.enterOff).raise (pageIng n) 1).applyPoint (pageIng n) .idle

/-- In OFF the port keeps what was written of EN. -/
theorem State.closed_self (s : State) (n : Fin 8) : (s.closed n).ingest[n].phase = .off ∧ (s.closed n).ingest[n].enWanted = s.ingest[n].enWanted := by
  have hoff : ((s.modIng n Ingest.enterOff).raise (pageIng n) 1).ingest[n] = s.ingest[n].enterOff := s.modIng_self n _
  unfold State.closed
  rcases State.applyPoint_ingest ((s.modIng n Ingest.enterOff).raise (pageIng n) 1) n .idle with h | h <;> rw [h]
  · rw [hoff]
    exact ⟨rfl, rfl⟩
  · rw [State.modIng_self, hoff]
    exact ⟨rfl, rfl⟩

theorem State.closed_other (s : State) {n m : Fin 8} (hm : m ≠ n) : (s.closed n).ingest[m] = s.ingest[m] := by
  have hoff : ((s.modIng n Ingest.enterOff).raise (pageIng n) 1).ingest[m] = s.ingest[m] := s.modIng_other n m _ hm
  unfold State.closed
  rcases State.applyPoint_ingest ((s.modIng n Ingest.enterOff).raise (pageIng n) 1) n .idle with h | h <;> rw [h]
  · exact hoff
  · rw [State.modIng_other _ _ _ _ hm, hoff]

end Sys2Proof.Machine

namespace Sys2Proof.Proofs
open Sys2Proof.Machine

section
variable {n : Fin 8} {s : State}

theorem idleClose_closes (hus : s.cfgField (pageIng n) 0x040 15 8 ≠ 0) (hopen : s.ingest[n].openSeg.isSome = true) :
    Completes (.idleClose n) s fun t => t.ingest[n].phase = .idle ∧ t.ingest[n].openSeg = none ∧ t.ingest[n].segs.length = s.ingest[n].segs.length ∧
      ∀ m : Fin 8, m ≠ n → t.ingest[m] = s.ingest[m] := by
  obtain ⟨g, hg⟩ := Option.isSome_iff_exists.1 hopen
  refine ⟨_, congrArg Host.Outcome.next (if_neg hus), ?_⟩
  beta_reduce
  rw [State.modIng_self]
  exact ⟨by rw [Ingest.close_of_openSeg hg], Ingest.close_openSeg _ _, Ingest.close_segs_length _ _, fun m hm => s.modIng_other n m _ hm⟩

theorem trigger_latches (hpin : s.cfgBit (pageIng n) 0x040 1 = true) (hl : s.ingest[n].listens = true) (hseen : s.ingest[n].trigSeen = false)
    (hlow : s.ingest[n].rstLow = false) : exec (.trigger n) s = .next (({ s with ingest := s.ingest.set n { s.ingest[n] with
      trigSeen := true, trigPos := s.ingest[n].pos, trigPend := s.ingWrap n, pinTrig := true } } : State).driveWarn n) := by
  show execTrigger n s = _
  simp only [execTrigger, hpin, if_true, State.modIng, hl, hseen, hlow, Bool.not_false, Bool.and_self, Ingest.latchTrigger]

theorem freezeComplete_freezes (hfreezing : s.ingest[n].freezing = true) (hdrained : s.ingest[n].drained = true) :
    Completes (.freezeComplete n) s fun t => t.ingest[n].frozen = true ∧ t.ingest[n].freezing = false ∧ t.ingest[n].trigPend = false ∧
      t.ingest[n].phase = (if s.ingest[n].enWanted then s.ingest[n].phase else .off) ∧ (t.intRaw (pageIng n)).getLsbD 1 = true ∧
      ∀ m : Fin 8, m ≠ n → t.ingest[m] = s.ingest[m] := by
  refine ⟨_, congrArg Host.Outcome.next (if_neg (by simp only [hfreezing, hdrained]; decide)), ?_⟩
  beta_reduce
  rw [State.raise_ingest, State.modIng_self]
  exact ⟨rfl, rfl, rfl, rfl, State.raise_intRaw _ (sourceMask_pageIng_event n), fun m hm => s.modIng_other n m _ hm⟩

theorem ingestPortReset_discards : Completes (.ingestPortReset n) s fun t => t.ingest[n].rstLow = true ∧ t.ingest[n].segs = [] ∧
    t.ingest[n].gap = none ∧ t.ingest[n].gapQ = [] ∧ t.ingest[n].cwp = s.ingest[n].cwp ∧ t.ingest[n].drop = s.ingest[n].drop ∧
    ∀ m : Fin 8, m ≠ n → t.ingest[m] = s.ingest[m] := by
  refine ⟨_, rfl, ?_⟩
  beta_reduce
  rw [State.modIng_self, State.cutRecords_self]
  exact ⟨rfl, rfl, rfl, rfl, rfl, rfl, fun m hm => (State.modIng_other _ n m _ hm).trans (s.cutRecords_other hm)⟩

theorem ingestPortResetRelease_ends : Completes (.ingestPortResetRelease n) s fun t => t.ingest[n].rstLow = false ∧
    t.ingest[n].segs = s.ingest[n].segs ∧ ∀ m : Fin 8, m ≠ n → t.ingest[m] = s.ingest[m] := by
  refine ⟨_, rfl, ?_⟩
  beta_reduce
  rw [State.modIng_self]
  exact ⟨rfl, rfl, fun m hm => s.modIng_other n m _ hm⟩

theorem ingEnable_leavesOff (hlive : s.pageLive (pageIng n) = true) (hlock : s.regs.seq.held = false) (hparity : s.parity (pageIng n) = false)
    (hphase : s.ingest[n].phase = .off) (hservice : s.inService = true) (hdiag : s.entersDiag = false) (hring : s.ringError n = 0) :
    Completes (.ingEnable n) s fun t => t.ingest[n].enWanted = true ∧ t.ingest[n].cfgErr = 0 ∧
      t.ingest[n].phase = (if s.ingest[n].frozen then .frozen else .idle) ∧ ∀ m : Fin 8, m ≠ n → t.ingest[m] = s.ingest[m] := by
  have hexec : exec (.ingEnable n) s = .next (s.ingOn n) := by
    show execIngEnable n s = _
    rw [execIngEnable, State.whenLive_of_live hlive, State.rowWrite_of_free hlock]
  have hself := s.modIng_self n Ingest.enabled
  have hring' : (s.modIng n Ingest.enabled).ringError n = 0 := (s.ringError_modIng n (f := Ingest.enabled) fun _ => rfl).trans hring
  have hleave := State.leaveOff_of_ring (s := s.modIng n Ingest.enabled) (by rw [hself]; exact hphase) (by rw [hself]; rfl) hservice hdiag hring'
  refine ⟨_, hexec, ?_⟩
  beta_reduce
  rw [State.ingOn_of_sound hparity, State.noteEn_ingest, hleave, State.modIng_self, hself]
  exact ⟨rfl, rfl, rfl, fun m hm => (State.modIng_other _ n m _ hm).trans (s.modIng_other n m _ hm)⟩

theorem ingDisable_closes (hlive : s.pageLive (pageIng n) = true) (hlock : s.regs.seq.held = false) (hl : s.ingest[n].listens = true) :
    Completes (.ingDisable n) s fun t => t.ingest[n].enWanted = false ∧ t.ingest[n].phase = .closing ∧ t.ingest[n].openSeg = none ∧
      t.ingest[n].gap = none ∧ ∀ m : Fin 8, m ≠ n → t.ingest[m] = s.ingest[m] := by
  have hexec : exec (.ingDisable n) s = .next (s.ingOff n) := by
    show execIngDisable n s = _
    rw [execIngDisable, State.whenLive_of_live hlive, State.rowWrite_of_free hlock]
  obtain ⟨hphase, hopen, hgap⟩ := Ingest.disabled_of_listens hl
  refine ⟨_, hexec, ?_⟩
  beta_reduce
  rw [State.ingOff_eq, State.noteEn_ingest, State.modIng_self]
  exact ⟨Ingest.disabled_enWanted _, hphase, hopen, hgap, fun m hm => s.modIng_other n m _ hm⟩

theorem ingRpWrite_takes (v : BitVec 64) (hlive : s.pageLive (pageIng n) = true) (hlock : s.regs.seq.held = false) (hwrap : s.ingWrap n = false)
    (hlo : s.ingest[n].cwp.toNat ≤ v.toNat + s.ringSize n) (hhi : v.toNat ≤ s.ingest[n].cwp.toNat) :
    exec (.ingRpWrite n v) s = .next { s with ingest := s.ingest.set n { s.ingest[n] with rp := v } } := by
  show execIngRpWrite n v s = _
  rw [execIngRpWrite, State.whenLive_of_live hlive, State.rowWrite_of_free hlock, State.writeRp, if_neg (by rw [hwrap]; decide), if_pos ⟨hlo, hhi⟩]
  rfl

theorem closingComplete_entersOff (hphase : s.ingest[n].phase = .closing) (hdrained : s.ingest[n].drained = true) (hen : s.ingest[n].enWanted = false) :
    Completes (.closingComplete n) s fun t => t.ingest[n].phase = .off ∧ t.ingest[n].enWanted = false ∧ t.pendingAt (pageIng n) .idle = [] ∧
      (t.intRaw (pageIng n)).getLsbD 1 = true ∧ ∀ m : Fin 8, m ≠ n → t.ingest[m] = s.ingest[m] := by
  obtain ⟨hoff, hkept⟩ := s.closed_self n
  have hleave : (s.closed n).leaveOff n = s.closed n := State.leaveOff_of_not_wanted (hkept.trans hen)
  have hexec : exec (.closingComplete n) s = .next (s.noteEn n fun s => (s.closed n).leaveOff n) :=
    congrArg Host.Outcome.next (if_neg (by simp only [hphase, hdrained]; decide))
  have hing : (s.noteEn n fun s => (s.closed n).leaveOff n).ingest = (s.closed n).ingest := by rw [State.noteEn_ingest, hleave]
  have hregs : (s.noteEn n fun s => (s.closed n).leaveOff n).regs = (s.closed n).regs := by rw [State.noteEn_regs, hleave]
  refine ⟨_, hexec, ?_⟩
  beta_reduce
  rw [hing, State.pendingAt_congr (s := s.closed n) (by rw [hregs]), State.intRaw_congr (s := s.closed n) (by rw [hregs])]
  refine ⟨hoff, hkept.trans hen, State.applyPoint_pendingAt _ _ _, ?_, fun m hm => s.closed_other hm⟩
  rw [State.closed, State.applyPoint_intRaw]
  exact State.raise_intRaw _ (sourceMask_pageIng_event n)

theorem exec_rearm (hlive : s.pageLive (pageIng n) = true) : exec (.rearm n) s = .next (s.ingRearm n) :=
  congrArg Host.Outcome.next (State.whenLive_of_live hlive _)

theorem rearm_stop (hlive : s.pageLive (pageIng n) = true) (hwrap : s.ingWrap n = false) :
    exec (.rearm n) s = .next { s with ingest := s.ingest.set n { s.ingest[n] with trigSeen := false } } := by
  simp only [exec_rearm hlive, State.ingRearm, hwrap, Bool.false_eq_true, if_false, State.modIng]

theorem rearm_wrap (hlive : s.pageLive (pageIng n) = true) (hwrap : s.ingWrap n = true) : Completes (.rearm n) s fun t =>
    t.ingest[n].trigSeen = false ∧ t.ingest[n].trigPend = false ∧ t.ingest[n].frozen = false ∧ t.ingest[n].trigPos = BitVec.allOnes 64 ∧
    ∀ m : Fin 8, m ≠ n → t.ingest[m] = s.ingest[m] := by
  refine ⟨_, exec_rearm hlive, ?_⟩
  simp only [State.ingRearm, hwrap, if_true, State.modIng_self, true_and]
  exact fun m hm => s.modIng_other n m _ hm

theorem trig_waits (hlive : s.pageLive (pageIng n) = true) (hl : s.ingest[n].listens = true) (hseen : s.ingest[n].trigSeen = false) :
    exec (.trig n) s = .next { s with ingest := s.ingest.set n { s.ingest[n] with swTrig := true } } := by
  show execTrig n s = _
  simp only [execTrig, State.whenLive_of_live hlive, State.ingTrigger, State.modIng, hl, hseen, Bool.not_false, Bool.and_self, if_true]

theorem ingClrCounters_clears (hlive : s.pageLive (pageIng n) = true) : exec (.ingClrCounters n) s =
    .next { s with ingest := s.ingest.set n { s.ingest[n] with drop := 0, disc := 0, gapCnt := 0, segCnt := 0 } } :=
  congrArg Host.Outcome.next (State.whenLive_of_live hlive _)

end

/-- Settles O10, command by command. -/
theorem ingestCommands : Obligations.IngestCommands := by
  unfold Obligations.IngestCommands
  intro n v s
  exact ⟨idleClose_closes, trigger_latches, freezeComplete_freezes, ingestPortReset_discards, ingestPortResetRelease_ends,
    fun hlive hlock => ⟨ingEnable_leavesOff hlive hlock, ingDisable_closes hlive hlock, ingRpWrite_takes v hlive hlock⟩,
    closingComplete_entersOff, fun hlive => ⟨rearm_stop hlive, rearm_wrap hlive, trig_waits hlive, ingClrCounters_clears hlive⟩⟩

end Sys2Proof.Proofs
end

section
/-!
HOLD-UP entry (O36), the freeze: once the ledger is frozen, the requests that are taken again leave it so (R108, R120).
-/
namespace Sys2Proof.Machine

/-- A ledger that is frozen, or is not, is so still. -/
structure FreezeKept (s t : State) : Prop where
  frozen : t.ledger.frozen = s.ledger.frozen

namespace FreezeKept

theorem refl (s : State) : FreezeKept s s := ⟨rfl⟩

theorem trans {s t u : State} (h : FreezeKept s t) (h' : FreezeKept t u) : FreezeKept s u := ⟨h'.frozen.trans h.frozen⟩

/-- The last operation first, as the text of a meaning has them. -/
theorem on {s t u : State} (h' : FreezeKept t u) (h : FreezeKept s t) : FreezeKept s u := h.trans h'

theorem ite {s t u : State} {p : Prop} [Decidable p] (h : p → FreezeKept s t) (h' : ¬p → FreezeKept s u) : FreezeKept s (if p then t else u) := by
  split
  · exact h ‹_›
  · exact h' ‹_›

theorem foldl {α : Type} {l : List α} {f : State → α → State} (hf : ∀ s a, FreezeKept s (f s a)) (s : State) : FreezeKept s (l.foldl f s) := by
  induction l generalizing s with
  | nil => exact .refl s
  | cons a l ih => exact (hf s a).trans (ih _)

/-- The part of the frame that holds the freeze. -/
theorem ofKeeps {m : Nat} {s t : State} (h : Keeps m s t) (hl : m.testBit Part.ledger.idx = false) : FreezeKept s t := by
  have hrest : ({ t.ledger with tableBad := false } : Ledger) = { s.ledger with tableBad := false } := h.p .ledger hl
  have hfrozen := congrArg Ledger.frozen hrest
  exact ⟨hfrozen⟩

theorem ledger (s : State) {x : Ledger} (h : x.frozen = s.ledger.frozen) : FreezeKept s { s with ledger := x } := ⟨h⟩

theorem reqs (s : State) (l : List Req) : FreezeKept s { s with reqs := l } := ⟨rfl⟩

section
variable (s : State)

theorem modReq (rid : Nat) (f : Req → Req) : FreezeKept s (s.modReq rid f) := .reqs s _

theorem finishReq (rid : Nat) (code : BitVec 4) : FreezeKept s (s.finishReq rid code) := .modReq s rid _

theorem waitLedger (rid : Nat) : FreezeKept s (s.waitLedger rid) := .ofKeeps (s.waitLedger_keeps rid) (by decide)

/-! ### Entries (R117) -/

theorem setRawEntry (i : Nat) (v : BitVec 96) : FreezeKept s (s.setRawEntry i v) := .ledger s rfl

theorem setEntry (i : Nat) (e : LEntry) : FreezeKept s (s.setEntry i e) := .setRawEntry s i e.pack

theorem setGroup (gid : Nat) (x : GroupRec) : FreezeKept s (s.setGroup gid x) := .ledger s rfl

theorem freeSolo (slot : Nat) : FreezeKept s (s.freeSolo slot) := .ledger s rfl

theorem bumpHalf (half : Fin 2) (uc : Bool) : FreezeKept s { s with ledger := Machine.bumpHalf s.ledger half uc } := by
  refine .ledger s ?_
  unfold Machine.bumpHalf
  split_ifs <;> rfl

theorem logError (ev : ErrEvent) : FreezeKept s (s.logError ev) := .ofKeeps (s.logError_keeps ev) (by decide)

theorem poisonEntry (i : Nat) : FreezeKept s (s.poisonEntry i) := by
  unfold State.poisonEntry
  extract_lets e t u v w
  have hu : FreezeKept t u := by
    refine .ite (fun _ => .setGroup t ..) fun _ => .ite (fun _ => ?_) fun _ => .refl t
    split
    · exact .ite (fun _ => .freeSolo t _) fun _ => .refl t
    · exact .refl t
  have hw : FreezeKept v w := .ofKeeps (v.raise_keeps ..) (by decide)
  exact .on (.logError w _) (.on hw (.on (.bumpHalf u ..) (hu.on (.setEntry s ..))))

theorem readEntry (i : Nat) (ecc : BitVec 96) : FreezeKept s (s.readEntry i ecc) := by
  unfold State.readEntry
  extract_lets raw
  split
  · exact .refl s
  · exact .on (.logError ..) (.on (.bumpHalf ..) (.setRawEntry s ..))
  · exact .poisonEntry s i

theorem checkEntries (r : Req) (ecc : BitVec 96) : FreezeKept s (s.checkEntries r ecc) := .foldl (fun s _ => .readEntry s ..) s

/-! ### Decisions (R105 to R111) -/

theorem ledgerFull (rid : Nat) (exhaust : Bool) : FreezeKept s (s.ledgerFull rid exhaust) :=
  .on (.finishReq ..) (.on (.ofKeeps (State.raiseIf_keeps ..) (by decide)) (.ledger s rfl))

theorem ledgerConflict (rid : Nat) : FreezeKept s (s.ledgerConflict rid) :=
  .on (.finishReq ..) (.on (.ofKeeps (State.telSys_keeps ..) (by decide)) (.ledger s rfl))

theorem askDemand (rid i : Nat) : FreezeKept s (s.askDemand rid i) := by
  unfold State.askDemand
  extract_lets t
  have ht : FreezeKept s t := .modReq s rid _
  refine ht.trans (.ite (fun _ => .waitLedger t rid) fun _ => .ite (fun _ => .ledgerFull t rid true) fun _ => ?_)
  exact .on (.waitLedger ..) (.ledger t rfl)

theorem claim (rid : Nat) (gv : Bool) (gid : BitVec 12) (i : Nat) (units : List Nat) : FreezeKept s (s.claim rid gv gid i units) := by
  unfold State.claim
  extract_lets e before mask
  refine .ite (fun _ => ?_) fun _ => ?_
  · exact .on (.modReq ..) (.on (.setEntry ..) (.setGroup s ..))
  · split
    · exact .on (.modReq ..) (.on (.setEntry ..) (.ledger s rfl))
    · exact .refl s

theorem decidedWrite (rid : Nat) (r : Req) (cl : List (Nat × List Nat)) : FreezeKept s (s.decidedWrite rid r cl) := by
  unfold State.decidedWrite
  refine .on (.ofKeeps (State.arriveHub_keeps ..) (by decide)) (.on (.modReq ..) (.on (.ledger _ rfl) (.on (.ite (fun _ => .setGroup ..) fun _ => .refl _) ?_)))
  exact .foldl (fun s _ => .claim s ..) s

theorem decideWrite (rid : Nat) (r : Req) : FreezeKept s (s.decideWrite rid r) := by
  unfold State.decideWrite
  extract_lets cl checks
  refine .ite (fun _ => .finishReq s rid _) fun _ => .ite (fun _ => .ledgerConflict s rid) fun _ => .ite (fun _ => .ledgerFull s rid _) fun _ =>
    .ite (fun _ => .ledgerFull s rid _) fun _ => ?_
  split
  · exact .askDemand s rid _
  · exact .ite (fun _ => .waitLedger s rid) fun _ => .decidedWrite s rid r cl

theorem retryOne (rid : Nat) : FreezeKept s (s.retryOne rid) := by
  unfold State.retryOne
  split
  next r _ =>
    refine .ite (fun _ => ?_) fun _ => .refl s
    extract_lets t
    have ht : FreezeKept s t := .ite (fun _ => .checkEntries s r 0) fun _ => .refl s
    exact ht.trans (.ite (fun _ => .ofKeeps (t.resolveRead_keeps rid r) (by decide)) fun _ => .decideWrite t rid r)
  next => exact .refl s

theorem retryLedger : FreezeKept s s.retryLedger := .foldl (f := fun s (r : Req) => s.retryOne r.rid) (fun s r => .retryOne s r.rid) s

end

end FreezeKept

theorem State.freezeLedger_frozen (s : State) : s.freezeLedger.ledger.frozen = true := by
  unfold State.freezeLedger
  rw [(FreezeKept.retryLedger _).frozen]
  rfl

end Sys2Proof.Machine
end

section
/-!
HOLD-UP entry (O36), stage by stage: the Squall's record, the freeze, the marks of the sleep sequencer and the mode (R90, R120, R312, R324, R398).
-/
namespace Sys2Proof.Machine

/-! ### What a Squall keeps from its beginning on (R323, R328) -/

/-- A Squall's cause, whether it saves, and the time that it saves. -/
def Squall.begun (q : Squall) : Bool × BitVec 8 × Bool × Time := (q.active, q.cause, q.save, q.saveTime)

theorem Squall.begun_of_core {q r : Squall} (h : q.core = r.core) : q.begun = r.begun := by
  have hbegun := congrArg Squall.begun h
  exact hbegun

theorem Keeps.squallBegun {m : Nat} {s t : State} (h : Keeps m s t) (hq : m.testBit Part.squall.idx = false) : t.squall.begun = s.squall.begun :=
  Squall.begun_of_core (h.squallCore hq)

theorem State.beginSquall_begun (s : State) (cause : BitVec 8) (save : Bool) : (s.beginSquall cause save).squall.begun = (true, cause, save, s.tb) := rfl

/-! ### Ingest ports (R90) -/

/-- A FIFO as HOLD-UP entry leaves it: OFF, with its wholly issued records alone. -/
def Ingest.heldUp (x : Ingest) : Prop := x.phase = .off ∧ x.segs = [] ∧ ∀ r ∈ x.records, r.issued = true

theorem State.ingHoldUp_self (s : State) (n : Fin 8) : (s.ingHoldUp n).ingest[n].heldUp := by
  unfold State.ingHoldUp
  rw [State.modIng_self, State.cutRecords_self]
  exact ⟨rfl, rfl, fun r hr => (List.mem_filter.1 hr).2⟩

theorem State.ingHoldUp_other (s : State) {n m : Fin 8} (h : m ≠ n) : (s.ingHoldUp n).ingest[m] = s.ingest[m] :=
  (State.modIng_other _ n m _ h).trans (s.cutRecords_other h)

/-- Every port of a list is turned OFF. -/
theorem State.foldl_ingHoldUp (l : List (Fin 8)) (s : State) (j : Fin 8) (h : j ∈ l ∨ s.ingest[j].heldUp) :
    (l.foldl (fun (s : State) (n : Fin 8) => s.ingHoldUp n) s).ingest[j].heldUp := by
  induction l generalizing s with
  | nil => exact h.resolve_left List.not_mem_nil
  | cons n l ih =>
    refine ih _ ?_
    by_cases hj : j = n
    · exact .inr (hj ▸ s.ingHoldUp_self n)
    · exact (h.imp_left fun hmem => List.mem_of_ne_of_mem hj hmem).imp_right fun hheld => by rwa [s.ingHoldUp_other hj]

/-! ### The stages -/

/-- The commands ended, and the Squall's record begun; a vote and a PL switch end. -/
def State.holdUpRecord (s : State) (cause : BitVec 8) : State :=
  ((s.endCommands.dbgStop false).beginSquall cause s.inService).preemptVote.stopSwitch

/-- The ingest ports turned OFF. -/
def State.holdUpIngest (s : State) : State := (List.finRange 8).foldl (fun (s : State) (n : Fin 8) => s.ingHoldUp n) s

/-- The ingest ports turned OFF, the requests not admitted ended, the ledger frozen, and what Breeze sent given up. -/
def State.holdUpFreeze (s : State) : State := s.holdUpIngest.abortWaiting.freezeLedger.brzHoldUp

/-! ### What each stage leaves -/

section
variable (s : State)

theorem State.holdUpRecord_keeps (cause : BitVec 8) : Keeps 0x2703a812244 s (s.holdUpRecord cause) :=
  (State.stopSwitch_keeps _).on ((State.preemptVote_keeps _).on ((State.beginSquall_keeps ..).on ((State.dbgStop_keeps ..).on
    (s.endCommands_keeps.mono (by decide)) (by decide)) (by decide)) (by decide)) (by decide)

theorem State.holdUpRecord_squall (cause : BitVec 8) : (s.holdUpRecord cause).squall.begun = (true, cause, s.inService, s.tb) := by
  have hended : Keeps 0x27000012244 s (s.endCommands.dbgStop false) := (State.dbgStop_keeps ..).on (s.endCommands_keeps.mono (by decide)) (by decide)
  have htb : (s.endCommands.dbgStop false).tb = s.tb := hended.p .tb (by decide)
  have hstopped (u : State) : Keeps 0x8800000 u u.preemptVote.stopSwitch := (State.stopSwitch_keeps _).on (u.preemptVote_keeps.mono (by decide)) (by decide)
  rw [State.holdUpRecord, (hstopped _).squallBegun (by decide), State.beginSquall_begun, htb]

theorem State.holdUpRecord_seq (cause : BitVec 8) : (s.holdUpRecord cause).regs.seq = SeqLock.reset := by
  have hrest : Keeps 0x2403a810200 s.endCommands (s.holdUpRecord cause) :=
    (State.stopSwitch_keeps _).on ((State.preemptVote_keeps _).on ((State.beginSquall_keeps ..).on ((State.dbgStop_keeps ..).mono (by decide))
      (by decide)) (by decide)) (by decide)
  have hseq : (s.holdUpRecord cause).regs.seq = s.endCommands.regs.seq := hrest.p .regSeq (by decide)
  rw [hseq, State.endCommands_seq]

theorem State.holdUpIngest_keeps : Keeps 0x30000 s s.holdUpIngest := .foldl .rfl' fun u n => u.ingHoldUp_keeps n

theorem State.holdUpFreeze_keeps : Keeps 0x207340f020c s s.holdUpFreeze :=
  (State.brzHoldUp_keeps _).on ((State.freezeLedger_keeps _).on ((State.abortWaiting_keeps _).on (s.holdUpIngest_keeps.mono (by decide))
    (by decide)) (by decide)) (by decide)

theorem State.holdUpFreeze_frozen : s.holdUpFreeze.ledger.frozen = true := by
  rw [State.holdUpFreeze, (FreezeKept.ofKeeps (State.brzHoldUp_keeps _) (by decide)).frozen]
  exact State.freezeLedger_frozen _

theorem State.holdUpFreeze_squall : s.holdUpFreeze.squall.begun = s.squall.begun := by
  have hended : Keeps 0x20000070000 s s.holdUpIngest.abortWaiting := (State.abortWaiting_keeps _).on (s.holdUpIngest_keeps.mono (by decide)) (by decide)
  rw [State.holdUpFreeze, (State.brzHoldUp_keeps _).squallBegun (by decide), Squall.begun_of_core (LedgerWork.freezeLedger _).squall,
    hended.squallBegun (by decide)]

theorem State.holdUpFreeze_ingest (n : Fin 8) : s.holdUpFreeze.ingest[n].heldUp := by
  have hrest : Keeps 0x207340d020c s.holdUpIngest s.holdUpFreeze :=
    (State.brzHoldUp_keeps _).on ((State.freezeLedger_keeps _).on ((State.abortWaiting_keeps _).mono (by decide)) (by decide)) (by decide)
  have hing : s.holdUpFreeze.ingest = s.holdUpIngest.ingest := hrest.p .ingest (by decide)
  rw [hing]
  exact State.foldl_ingHoldUp _ s n (.inl (List.mem_finRange n))

end

/-! ### After the freeze -/

/-- What HOLD-UP entry leaves as it is once the ledger is frozen. -/
structure HoldUpKept (s t : State) : Prop where
  begun : t.squall.begun = s.squall.begun
  seq : t.regs.seq = s.regs.seq
  frozen : t.ledger.frozen = s.ledger.frozen
  ingest : t.ingest = s.ingest
  mainPg : t.pins.mainPg = s.pins.mainPg

namespace HoldUpKept

theorem trans {s t u : State} (h : HoldUpKept s t) (h' : HoldUpKept t u) : HoldUpKept s u :=
  ⟨h'.begun.trans h.begun, h'.seq.trans h.seq, h'.frozen.trans h.frozen, h'.ingest.trans h.ingest, h'.mainPg.trans h.mainPg⟩

/-- The parts that hold it. -/
def parts : List Part := [.squall, .regSeq, .ledger, .ingest, .pins]

/-- A change outside those parts. -/
theorem ofKeeps {m : Nat} {s t : State} (h : Keeps m s t) (hm : ∀ p ∈ parts, m.testBit p.idx = false) : HoldUpKept s t := by
  have hpins : t.pins = s.pins := h.p .pins (hm _ (by decide))
  exact ⟨h.squallBegun (hm _ (by decide)), h.p .regSeq (hm _ (by decide)), (FreezeKept.ofKeeps h (hm _ (by decide))).frozen,
    h.p .ingest (hm _ (by decide)), by rw [hpins]⟩

theorem takeToken (s : State) : HoldUpKept s s.takeToken := ⟨rfl, rfl, rfl, rfl, rfl⟩

theorem ackS3 (s : State) : HoldUpKept s s.ackS3 := by
  unfold State.ackS3
  split <;> exact ⟨rfl, rfl, rfl, rfl, rfl⟩

end HoldUpKept

/-- The stages after the freeze mark the Squall, the mode and the sleep sequencer, and leave the rest. -/
theorem State.enterHoldUp_kept (s : State) (cause : BitVec 8) : HoldUpKept (s.holdUpRecord cause).holdUpFreeze (s.enterHoldUp cause) ∧
    (s.enterHoldUp cause).mode.mode = .holdUp ∧ (s.enterHoldUp cause).pwr.phase = .squall := by
  unfold State.enterHoldUp
  extract_lets +onlyGivenNames asleep begun record off frozen quiet mode0 fab0 ao0 squall0 flags active pwr0 phase entered last
  have hrecord : record = s.holdUpRecord cause := rfl
  have hoff : off = record.holdUpIngest := rfl
  have hquiet : quiet = off.abortWaiting.freezeLedger.brzHoldUp := rfl
  clear_value quiet
  have hflags : HoldUpKept quiet flags := ⟨rfl, rfl, rfl, rfl, rfl⟩
  have hactive : Keeps 0x800000 flags active := .foldl .rfl' fun u c => .ite (fun _ => u.modSlice_keeps c _) fun _ => .rfl'
  clear_value flags active
  have hphase : HoldUpKept active phase := ⟨rfl, rfl, rfl, rfl, rfl⟩
  have hsquall : phase.pwr.phase = .squall := rfl
  clear_value phase
  have hset : Keeps 0x210 phase (phase.setMode .holdUp) := phase.setMode_keeps .holdUp
  have hstop : Keeps 0x20002010000 (phase.setMode .holdUp) entered := State.stopCopies_keeps _
  have hmode : entered.mode = (phase.setMode .holdUp).mode := hstop.p .mode (by decide)
  have hpwr : entered.pwr = phase.pwr := (hstop.p .pwr (by decide)).trans (hset.p .pwr (by decide))
  clear_value entered
  have hlast : HoldUpKept entered last ∧ last.mode = entered.mode ∧ last.pwr = entered.pwr := by
    simp only [last]
    split
    · exact ⟨.takeToken entered, rfl, rfl⟩
    · exact ⟨.ofKeeps .rfl' (m := 0) (by decide), rfl, rfl⟩
  obtain ⟨hlast, hmode', hpwr'⟩ := hlast
  have hackMode : last.ackS3.mode = last.mode := last.ackS3_keeps.p .mode (by decide)
  have hackPwr : last.ackS3.pwr = last.pwr := last.ackS3_keeps.p .pwr (by decide)
  refine ⟨?_, ?_, ?_⟩
  · rw [State.holdUpFreeze, ← hrecord, ← hoff, ← hquiet]
    exact hflags.trans ((HoldUpKept.ofKeeps hactive (by decide)).trans (hphase.trans ((HoldUpKept.ofKeeps hset (by decide)).trans
      ((HoldUpKept.ofKeeps hstop (by decide)).trans (hlast.trans (.ackS3 last))))))
  · rw [hackMode, hmode', hmode, State.setMode_mode]
  · rw [hackPwr, hpwr', hpwr, hsquall]

/-- MAIN_PG lost in any mode but HOLD-UP and RETENTION, out of cold reset: HOLD-UP entry with cause 1 (R324). -/
theorem State.mainPgFall_of_mode {s : State} (hpg : s.pins.mainPg = true) (hcold : s.mode.coldLow = false) (hholdUp : s.mode.mode ≠ .holdUp)
    (hretention : s.mode.mode ≠ .retention) : s.mainPgFall = ({ s with pins := { s.pins with mainPg := false } } : State).enterHoldUp 1 := by
  simp only [State.mainPgFall, hpg, hcold, Bool.true_eq_false, Bool.false_eq_true, if_false]

/-- The state once HOLD-UP is entered. -/
theorem State.enterHoldUp_state (s : State) (cause : BitVec 8) : (s.enterHoldUp cause).squall.begun = (true, cause, s.inService, s.tb) ∧
    (s.enterHoldUp cause).regs.seq = SeqLock.reset ∧ (s.enterHoldUp cause).ledger.frozen = true ∧
    (∀ n : Fin 8, (s.enterHoldUp cause).ingest[n].heldUp) ∧ (s.enterHoldUp cause).pins.mainPg = s.pins.mainPg := by
  obtain ⟨hkept, -, -⟩ := s.enterHoldUp_kept cause
  have hfreeze := (s.holdUpRecord cause).holdUpFreeze_keeps
  have hseq : (s.holdUpRecord cause).holdUpFreeze.regs.seq = (s.holdUpRecord cause).regs.seq := hfreeze.p .regSeq (by decide)
  have hpins : (s.holdUpRecord cause).holdUpFreeze.pins = (s.holdUpRecord cause).pins := hfreeze.p .pins (by decide)
  have hpins' : (s.holdUpRecord cause).pins = s.pins := (s.holdUpRecord_keeps cause).p .pins (by decide)
  refine ⟨?_, ?_, ?_, fun n => ?_, ?_⟩
  · rw [hkept.begun, State.holdUpFreeze_squall, State.holdUpRecord_squall]
  · rw [hkept.seq, hseq, State.holdUpRecord_seq]
  · rw [hkept.frozen, State.holdUpFreeze_frozen]
  · rw [hkept.ingest]
    exact State.holdUpFreeze_ingest _ n
  · rw [hkept.mainPg, hpins, hpins']

end Sys2Proof.Machine

namespace Sys2Proof.Proofs
open Sys2Proof.Machine

/-- Settles O36: a loss of MAIN_PG is HOLD-UP entry with cause 1, by what its stages leave (`State.enterHoldUp_state`). -/
theorem holdUpEntry : Obligations.HoldUpEntry := by
  unfold Obligations.HoldUpEntry
  intro s hpg hcold hholdUp hretention
  have hexec : exec .mainPgFall s = .next (({ s with pins := { s.pins with mainPg := false } } : State).enterHoldUp 1) :=
    congrArg Host.Outcome.next (State.mainPgFall_of_mode hpg hcold hholdUp hretention)
  refine ⟨_, hexec, ?_⟩
  generalize hu : ({ s with pins := { s.pins with mainPg := false } } : State) = u
  have hservice : u.inService = s.inService := by rw [← hu]; rfl
  have htb : u.tb = s.tb := by rw [← hu]
  have hmem : u.mem = s.mem := by rw [← hu]
  have hpin : u.pins.mainPg = false := by rw [← hu]
  obtain ⟨hbegun, hseq, hfrozen, hing, hpins⟩ := u.enterHoldUp_state 1
  obtain ⟨-, hmode, hphase⟩ := u.enterHoldUp_kept 1
  obtain ⟨hactive, hcause, hsave, htime⟩ : _ ∧ _ ∧ _ ∧ _ := by simpa only [Squall.begun, Prod.mk.injEq] using hbegun
  have hkeeps := u.enterHoldUp_keeps 1
  have hmemU : (u.enterHoldUp 1).mem = u.mem := hkeeps.p .mem (by decide)
  have htbU : (u.enterHoldUp 1).tb = u.tb := hkeeps.p .tb (by decide)
  exact ⟨hmode, hpins.trans hpin, hactive, hcause, hsave.trans hservice, htime.trans htb, hphase, hseq, hing, hfrozen, hmemU.trans hmem, htbU.trans htb⟩

end Sys2Proof.Proofs
end

section
/-!
The commit ledger's state: what the group table, the entries and the cursors hold after each operation on them (R99, R100, R113).
-/
namespace Sys2Proof.Machine

/-! ### Operations outside the ledger's part -/

/-- A ledger but for its mark of a bad table. -/
def Ledger.core (l : Ledger) : Ledger := { l with tableBad := false }

/-- Outside the ledger's part every field of the ledger but that mark stands. -/
theorem Keeps.ledgerField {m : Nat} {s t : State} {α : Type} (h : Keeps m s t) (f : Ledger → α) (hf : ∀ l : Ledger, f l.core = f l := by intro _; rfl)
    (hl : m.testBit Part.ledger.idx = false := by decide) : f t.ledger = f s.ledger := by
  have hcore : t.ledger.core = s.ledger.core := h.p .ledger hl
  rw [← hf t.ledger, hcore, hf]

/-- A FATAL of the group table or of the solo table: counted, and the step that met it does nothing else (R119). -/
structure TableFault (s t : State) : Prop where
  counted : t.err.fatalCnt = satInc s.err.fatalCnt
  reqs : t.reqs = s.reqs
  mem : t.mem = s.mem
  entries : t.ledger.entries = s.ledger.entries
  solos : t.ledger.solos = s.ledger.solos
  groups : t.ledger.groups = s.ledger.groups
  demand : t.ledger.demand = s.ledger.demand

theorem State.tableError_fault (s : State) (solo : Bool) (k : Nat) : TableFault s (s.tableError solo k) :=
  have hk := s.tableError_keeps solo k
  ⟨s.tableError_fatalCnt solo k, hk.p .reqs (by decide), hk.p .mem (by decide), hk.ledgerField Ledger.entries, hk.ledgerField Ledger.solos,
    hk.ledgerField Ledger.groups, hk.ledgerField Ledger.demand⟩

/-! ### Groups (R100) -/

theorem State.group_congr {s t : State} (h : t.ledger.groups = s.ledger.groups) (g : Nat) : t.group g = s.group g := by
  rw [State.group, State.group, h]

@[simp] theorem State.group_setGroup_self (s : State) (g : Nat) (x : GroupRec) : (s.setGroup g x).group g = x := by
  simp only [State.group, State.setGroup]
  split_ifs with hfree
  · rw [getKey_dropKey, hfree]; rfl
  · rw [getKey_setKey]; rfl

theorem State.group_setGroup_of_ne (s : State) {g k : Nat} (h : k ≠ g) (x : GroupRec) : (s.setGroup g x).group k = s.group k := by
  simp only [State.group, State.setGroup]
  split_ifs
  · rw [getKey_dropKey_of_ne _ h]
  · rw [getKey_setKey_of_ne _ _ h]

/-- An unswept group is FREE when it has no entry. -/
theorem GroupRec.settle_st {x : GroupRec} (h : x.st = .committed ∨ x.st = .aborted) : x.settle.st = if x.entries = 0 then .free else x.st := by
  by_cases hentries : x.entries = 0
  · rw [GroupRec.settle, if_pos ⟨h, hentries⟩, if_pos hentries]; rfl
  · rw [GroupRec.settle, if_neg fun hboth => hentries hboth.2, if_neg hentries]

/-! ### Entries (R99) -/

@[simp] theorem State.rawEntry_setRawEntry_self (s : State) (i : Nat) (v : BitVec 96) : (s.setRawEntry i v).rawEntry i = v := by
  simp only [State.rawEntry, State.setRawEntry]
  split_ifs with hfill
  · rw [getKey_dropKey, hfill]; rfl
  · rw [getKey_setKey]; rfl

theorem State.setRawEntry_groups (s : State) (i : Nat) (v : BitVec 96) : (s.setRawEntry i v).ledger.groups = s.ledger.groups := rfl

theorem State.setEntry_groups (s : State) (i : Nat) (e : LEntry) : (s.setEntry i e).ledger.groups = s.ledger.groups :=
  s.setRawEntry_groups i e.pack

/-- A CLEAN entry is read as it was stored. -/
theorem unpackEntry_pack_cleanEntry (cslot : Bool) : unpackEntry (cleanEntry cslot).pack = cleanEntry cslot := by
  cases cslot <;> decide +kernel

theorem State.entry_setEntry_clean (s : State) (i : Nat) (cslot : Bool) : (s.setEntry i (cleanEntry cslot)).entry i = cleanEntry cslot := by
  rw [State.entry, State.setEntry, State.rawEntry_setRawEntry_self, unpackEntry_pack_cleanEntry]

/-- An owner's record changes no entry. -/
theorem State.leaveOwner_entry (s : State) (e : LEntry) (i : Nat) : (s.leaveOwner e).entry i = s.entry i := by
  unfold State.leaveOwner
  split <;> rfl

theorem getKey_mem {α : Type} {l : List (Nat × α)} {k : Nat} {v : α} (h : getKey l k = some v) : (k, v) ∈ l := by
  induction l with
  | nil => cases h
  | cons x l ih =>
    obtain ⟨k', v'⟩ := x
    rw [getKey] at h
    split_ifs at h with hk
    · cases h; exact hk ▸ List.mem_cons_self
    · exact List.mem_cons_of_mem _ (ih h)

/-! ### Cursors (R113) -/

@[simp] theorem Ledger.cursor_setCursor (l : Ledger) (half : Fin 2) (v : BitVec 18) : (l.setCursor half v).cursor half = v := by
  unfold Ledger.setCursor Ledger.cursor
  split <;> rfl

@[simp] theorem Ledger.setCursor_entries (l : Ledger) (half : Fin 2) (v : BitVec 18) : (l.setCursor half v).entries = l.entries := by
  unfold Ledger.setCursor
  split <;> rfl

/-- In a block that holds an owned entry the cursor goes to the next entry. -/
theorem State.skipCursor_of_busy {s : State} {half : Fin 2} (h : s.blockBusy half ((s.ledger.cursor half).toNat / 64) = true) :
    s.skipCursor half = { s with ledger := s.ledger.setCursor half (s.ledger.cursor half + 1) } := by
  have hnext : BitVec.ofNat 18 ((s.ledger.cursor half).toNat + 1) = s.ledger.cursor half + 1 := by
    rw [BitVec.ofNat_add, BitVec.ofNat_toNat, BitVec.setWidth_eq]; rfl
  rw [State.skipCursor, if_pos h, hnext]

/-- Past a block that holds none it goes at once. -/
theorem State.skipCursor_of_empty {s : State} {half : Fin 2} (h : s.blockBusy half ((s.ledger.cursor half).toNat / 64) = false) :
    s.skipCursor half = { s with ledger := s.ledger.setCursor half (BitVec.ofNat 18 (((s.ledger.cursor half).toNat / 64 + 1) * 64)) } := by
  rw [State.skipCursor, if_neg (by rw [h]; decide)]

theorem State.skipCursor_entries (s : State) (half : Fin 2) : (s.skipCursor half).ledger.entries = s.ledger.entries :=
  Ledger.setCursor_entries ..

end Sys2Proof.Machine
end

section
/-!
The flip (O11) and the resolving of an entry without a copy (O12): one update of the group table, one of the entry (R103, R104, R112, R114).
-/
namespace Sys2Proof.Machine

/-! ### The flip (R103, R112) -/

/-- The one update of the group table, which is counted. -/
def State.commitGroup (s : State) (gid : Nat) : State :=
  let t := s.setGroup gid ({ s.group gid with st := .committed } : GroupRec).settle
  { t with ledger := { t.ledger with commitCnt := satInc t.ledger.commitCnt } }

/-- The flip before it answers the commits that wait for it. -/
def State.flipGroup (s : State) (gid : Nat) : State := (s.commitGroup gid).telSys 0x0C none 1

/-- A commit of the group that waits for the flip, answered. -/
def Req.answerCommit (gid : BitVec 12) (r : Req) : Req :=
  if r.phase == .ledger && r.op == opcCommit && r.gid == gid then { r with phase := .done rspOk } else r

section
variable {s : State} {gid : BitVec 12} (hst : (s.group gid.toNat).st = .committing) (hinflight : (s.group gid.toNat).inflight = 0)
  (hfrozen : s.ledger.frozen = false)
include hst hinflight hfrozen

/-- A group that may flip does, unless its record cannot be read. -/
theorem exec_flip (uc : Bool) : exec (.flip ⟨gid, uc⟩) s =
    .next (if uc then s.tableError false gid.toNat else (s.flipGroup gid.toNat).mapReqs (Req.answerCommit gid)) := by
  have hmay : ¬((s.group gid.toNat).st ≠ .committing ∨ (s.group gid.toNat).inflight ≠ 0 ∨ s.ledger.frozen = true) := by
    rw [hst, hinflight, hfrozen]; decide
  exact congrArg Host.Outcome.next (if_neg hmay)

end

/-- What the flip leaves of the group table, of the entries and of what it does not touch. -/
theorem State.flipGroup_state (s : State) (gid : Nat) :
    ((s.flipGroup gid).group gid).st = (if (s.group gid).entries = 0 then .free else .committed) ∧
      (∀ g, g ≠ gid → (s.flipGroup gid).group g = s.group g) ∧ (s.flipGroup gid).ledger.commitCnt = satInc s.ledger.commitCnt ∧
      (s.flipGroup gid).ledger.entries = s.ledger.entries ∧ (s.flipGroup gid).mem = s.mem ∧ (s.flipGroup gid).reqs = s.reqs := by
  have htel : Keeps 0x400000200 (s.commitGroup gid) (s.flipGroup gid) := State.telSys_keeps ..
  have hgroup (g : Nat) : (s.flipGroup gid).group g = (s.commitGroup gid).group g := State.group_congr (htel.ledgerField Ledger.groups) g
  have hmem : (s.flipGroup gid).mem = (s.commitGroup gid).mem := htel.p .mem (by decide)
  have hreqs : (s.flipGroup gid).reqs = (s.commitGroup gid).reqs := htel.p .reqs (by decide)
  refine ⟨?_, fun g hg => ?_, htel.ledgerField Ledger.commitCnt, htel.ledgerField Ledger.entries, hmem, hreqs⟩
  · calc ((s.flipGroup gid).group gid).st = ((s.setGroup gid ({ s.group gid with st := .committed } : GroupRec).settle).group gid).st := by
          rw [hgroup]; rfl
      _ = if (s.group gid).entries = 0 then .free else .committed := by rw [State.group_setGroup_self, GroupRec.settle_st (.inl rfl)]
  · exact (hgroup g).trans (State.group_setGroup_of_ne s hg _)

/-! ### Resolving (R104, R114) -/

/-- An entry made CLEAN as it leaves its owner. -/
theorem State.cleanLeaves (s : State) (i : Nat) (cslot : Bool) (e : LEntry) :
    ((s.setEntry i (cleanEntry cslot)).leaveOwner e).entry i = cleanEntry cslot ∧ ((s.setEntry i (cleanEntry cslot)).leaveOwner e).mem = s.mem :=
  ⟨by rw [State.leaveOwner_entry, State.entry_setEntry_clean],
    ((State.leaveOwner_keeps _ e).on (s.setEntry_keeps i _) (by decide)).p .mem (by decide)⟩

theorem State.resolveEntry_of_aborted {s : State} {i : Nat} (h : s.resolvable i = some false) :
    s.resolveEntry i = (s.setEntry i (cleanEntry (s.entry i).cslot)).leaveOwner (s.entry i) := by
  rw [State.resolveEntry, h]

theorem pendingUnits_allOnes : (pendingUnits (BitVec.allOnes 64)).length = 64 := by decide

/-- With every unit pending the slots change their meaning, and nothing is copied. -/
theorem State.resolveEntry_of_full {s : State} {i : Nat} (h : s.resolvable i = some true) (hfull : (s.entry i).pmask = BitVec.allOnes 64) :
    s.resolveEntry i = (s.setEntry i (cleanEntry (!(s.entry i).cslot))).leaveOwner (s.entry i) := by
  have hk : (pendingUnits (s.entry i).pmask).length = 64 := by rw [hfull, pendingUnits_allOnes]
  rw [State.resolveEntry, h]
  exact if_pos hk

end Sys2Proof.Machine

namespace Sys2Proof.Proofs
open Sys2Proof.Machine

/-- Settles O11: the flip is one update of the group table (`State.flipGroup_state`), or the FATAL of a record that cannot be read. -/
theorem flipCommits : Obligations.FlipCommits := by
  unfold Obligations.FlipCommits
  intro gid s hst hinflight hfrozen
  have hexec := exec_flip hst hinflight hfrozen
  refine ⟨⟨_, hexec false, ?_⟩, ⟨_, hexec true, ?_⟩⟩
  · obtain ⟨hself, hother, hcount, hentries, hmem, hreqs⟩ := s.flipGroup_state gid.toNat
    exact ⟨hself, hother, hcount, hentries, hmem, congrArg (List.map (Req.answerCommit gid)) hreqs⟩
  · have hfault := s.tableError_fault false gid.toNat
    exact ⟨hfault.groups, hfault.entries, hfault.reqs, hfault.mem, hfault.counted⟩

/-- Settles O12: in both cases the resolving is one update, of the entry and of its owner (`State.cleanLeaves`). -/
theorem resolvingWithoutCopy : Obligations.ResolvingWithoutCopy := by
  unfold Obligations.ResolvingWithoutCopy
  intro i s
  refine ⟨fun h => ?_, fun h hfull => ?_⟩
  · rw [State.resolveEntry_of_aborted h]
    exact s.cleanLeaves i _ _
  · rw [State.resolveEntry_of_full h hfull]
    exact s.cleanLeaves i _ _

end Sys2Proof.Proofs
end

section
/-!
The ledger's own steps (O13): the end of a solo write, an entry settled on demand or by the sweep, and the cursor (R108 to R110, R113, R114, R119).
-/
namespace Sys2Proof.Machine

/-! ### The end of a solo write (R108) -/

/-- The solo of a decision marked done. -/
def State.markSolo (s : State) (d : Decision) : State :=
  match s.solo d.owner with
  | some x => if d.solo then { s with ledger := { s.ledger with solos := setKey s.ledger.solos d.owner { x with done := true } } } else s
  | none => s

/-- The solos of a write's decisions marked done. -/
def State.markSolos (s : State) (l : List Decision) : State := l.foldl State.markSolo s

theorem State.endSolo_eq (s : State) (r : Req) :
    s.endSolo r = ((s.markSolos r.decisions).finishReq r.rid (if r.xorBad then rspPoison else rspOk)).retryLedger := rfl

theorem State.markSolo_reqs (s : State) (d : Decision) : (s.markSolo d).reqs = s.reqs := by
  unfold State.markSolo
  split
  · split <;> rfl
  · rfl

theorem State.markSolos_reqs (s : State) (l : List Decision) : (s.markSolos l).reqs = s.reqs :=
  List.foldlRecOn (motive := fun t : State => t.reqs = s.reqs) l State.markSolo rfl fun t ht d _ => (t.markSolo_reqs d).trans ht

/-- A slot after one decision: done where the decision names it. -/
theorem State.markSolo_solo (s : State) (d : Decision) (k : Nat) :
    (s.markSolo d).solo k = (s.solo k).map fun x => { x with done := x.done || (d.solo && d.owner == k) } := by
  by_cases hnames : (d.solo && d.owner == k) = true
  · obtain ⟨hsolo, rfl⟩ : d.solo = true ∧ d.owner = k := by simpa using hnames
    cases hx : s.solo d.owner with
    | none => simp only [State.markSolo, hx, Option.map_none]
    | some x =>
      have hmark : (s.markSolo d).ledger.solos = setKey s.ledger.solos d.owner { x with done := true } := by
        simp only [State.markSolo, hx, hsolo, if_true]
      rw [State.solo, hmark, getKey_setKey]
      simp [hsolo]
  · have hsame : (s.markSolo d).solo k = s.solo k := by
      unfold State.markSolo
      split
      · split
        next hsolo => exact getKey_setKey_of_ne _ _ fun hk => hnames (by rw [hsolo, hk]; simp)
        next => rfl
      · rfl
    simp [hsame, hnames]

/-- A slot after all decisions: done where one of them names it. -/
theorem State.markSolos_solo (s : State) (l : List Decision) (k : Nat) :
    (s.markSolos l).solo k = (s.solo k).map fun x => { x with done := x.done || l.any fun d => d.solo && d.owner == k } := by
  induction l generalizing s with
  | nil => simp [State.markSolos]
  | cons d l ih =>
    rw [State.markSolos, List.foldl_cons, ← State.markSolos, ih, State.markSolo_solo, Option.map_map]
    simp [Function.comp_def, Bool.or_assoc]

/-- The solos that a write's decisions name are done. -/
theorem State.markSolos_done {s : State} {l : List Decision} {d : Decision} (hd : d ∈ l) (hsolo : d.solo = true)
    (hslot : (s.solo d.owner).isSome = true) : ((s.markSolos l).solo d.owner).map Solo.done = some true := by
  obtain ⟨x, hx⟩ := Option.isSome_iff_exists.1 hslot
  have hany : (l.any fun a => a.solo && a.owner == d.owner) = true := List.any_eq_true.2 ⟨d, hd, by simp [hsolo]⟩
  rw [State.markSolos_solo, hx, hany]
  simp

/-- A write completes with a code under which its read data stands. -/
theorem State.finishReq_reqs_of_read (s : State) (rid : Nat) {code : BitVec 4} (h : code = rspOk ∨ code = rspPoison) :
    (s.finishReq rid code).reqs = s.reqs.map fun a => if a.rid = rid then { a with phase := .done code } else a := by
  simp only [State.finishReq, State.modReq, if_pos h]

section
variable {s : State} {slot : BitVec 8} {r : Req}
  (hr : (s.reqs.find? fun r => r.idle && r.decisions.any fun d => d.solo && d.owner == slot.toNat) = some r)
include hr

theorem exec_soloDone (uc : Bool) : exec (.soloDone ⟨slot, uc⟩) s =
    .next (if uc then s.tableError true slot.toNat else if s.soloLost r then s.refuseSolo r else s.endSolo r) := by
  show execSoloDone ⟨slot, uc⟩ s = _
  simp only [execSoloDone, hr]

end

/-! ### An entry settled (R109, R110, R114) -/

/-- An entry read and resolved, its demand slot free, before what waits is taken again. -/
def State.resolved (s : State) (i : Nat) (ecc : BitVec 96) : State :=
  let t := (s.readEntry i ecc).resolveEntry i
  { t with ledger := { t.ledger with demand := t.ledger.demand.filter fun x => x.2.1 != i } }

/-- What settling an entry leaves: what its reading and its resolving do, no demand for it, and what waits taken again. -/
def Settles (s : State) (i : Nat) (ecc : BitVec 96) (t : State) : Prop :=
  ∃ u : State, t = u.retryLedger ∧ u.ledger.entries = ((s.readEntry i ecc).resolveEntry i).ledger.entries ∧
    u.mem = ((s.readEntry i ecc).resolveEntry i).mem ∧ ∀ x ∈ u.ledger.demand, x.2.1 ≠ i

theorem State.settleEntry_settles (s : State) (i : Nat) (ecc : BitVec 96) : Settles s i ecc (s.settleEntry i ecc) :=
  ⟨s.resolved i ecc, rfl, rfl, rfl, fun _ hx => bne_iff_ne.1 (List.mem_filter.1 hx).2⟩

theorem State.withOwner_read (s : State) (i : Nat) (f : State → State) : s.withOwner i false f = f s := rfl

theorem State.withOwner_lost {s : State} {i : Nat} (h : (s.entry i).st = entOwned ∨ (s.entry i).st = entSolo) (f : State → State) :
    s.withOwner i true f = s.tableError ((s.entry i).st == entSolo) (s.entry i).owner := by
  have howned : (true && ((s.entry i).st == entOwned || (s.entry i).st == entSolo)) = true := by simpa using h
  exact if_pos howned

/-- The oldest demand of a half, its granule free. -/
theorem exec_demandResolution {s : State} {half : Fin 2} {d : Nat × Nat × Nat} (hd : (s.ledger.demand.find? fun d => d.1 == half.val) = some d)
    (hbusy : s.granuleBusy d.2.1 = false) (hfree : s.copyFree d.2.1 false = true) (e : EntryRead) :
    exec (.demandResolution half e) s = .next (s.withOwner d.2.1 e.tableUc fun s => s.settleEntry d.2.1 e.ecc) := by
  show execDemandResolution half e s = _
  simp only [execDemandResolution, hd, hbusy, hfree, Bool.not_true, Bool.or_self, Bool.false_eq_true, if_false]

/-! ### The sweep (R113) -/

theorem exec_sweepStep {s : State} (h : s.sweepRuns = true) (half : Fin 2) (ecc : BitVec 96) :
    exec (.sweepStep half ⟨ecc, false⟩) s = .next (s.sweepOnce half ecc false) :=
  congrArg Host.Outcome.next (if_pos h)

/-- A done solo comes first. -/
theorem State.sweepOnce_of_solo {s : State} {half : Fin 2} {i : Nat} (h : s.oldestSolo half = some i) (hbusy : s.granuleBusy i = false)
    (hfree : s.copyFree i true = true) (ecc : BitVec 96) : s.sweepOnce half ecc false = s.settleEntry i ecc := by
  rw [State.sweepOnce, h]
  simp only [hbusy, hfree, Bool.not_true, Bool.or_self, Bool.false_eq_true, if_false]
  exact s.withOwner_read i _

/-- With nothing to resolve at the cursor, it moves on. -/
theorem State.sweepOnce_of_idle {s : State} {half : Fin 2} (h : s.oldestSolo half = none)
    (hres : (s.resolvable (2 * (s.ledger.cursor half).toNat + half.val)).isNone = true) (ecc : BitVec 96) :
    s.sweepOnce half ecc false = if s.blockBusy half ((s.ledger.cursor half).toNat / 64) then
        ((s.readEntry (2 * (s.ledger.cursor half).toNat + half.val) ecc).skipCursor half).retryLedger
      else s.skipCursor half := by
  have hnone : s.resolvable (2 * (s.ledger.cursor half).toNat + half.val) = none := by simpa using hres
  have hblock : (2 * (s.ledger.cursor half).toNat + half.val) / 128 = (s.ledger.cursor half).toNat / 64 := by
    have hhalf := half.isLt
    omega
  rw [State.sweepOnce, h]
  simp only [hnone, Option.isSome_none, Bool.false_eq_true, and_false, if_false, hblock]

/-- The entry at the cursor is read and the cursor moves on: what is left of entries and memory, and where the cursor stands when the read found
nothing wrong. -/
theorem State.readSkip_state {s : State} {half : Fin 2} (hblock : s.blockBusy half ((s.ledger.cursor half).toNat / 64) = true) (i : Nat)
    (ecc : BitVec 96) : ((s.readEntry i ecc).skipCursor half).ledger.entries = (s.readEntry i ecc).ledger.entries ∧
      ((s.readEntry i ecc).skipCursor half).mem = s.mem ∧
      (s.readEntry i ecc = s → ((s.readEntry i ecc).skipCursor half).ledger.cursor half = s.ledger.cursor half + 1) := by
  refine ⟨State.skipCursor_entries .., ?_, fun hread => ?_⟩
  · exact ((State.skipCursor_keeps _ half).on ((s.readEntry_keeps i ecc).mono (by decide)) (by decide)).p (m := 0x2340c0204) .mem (by decide)
  · rw [hread, State.skipCursor_of_busy hblock, Ledger.cursor_setCursor]

end Sys2Proof.Machine

namespace Sys2Proof.Proofs
open Sys2Proof.Machine

/-! ### The clauses of O13 -/

section
variable {s : State} {slot : BitVec 8} {r : Req}
  (hr : (s.reqs.find? fun r => r.idle && r.decisions.any fun d => d.solo && d.owner == slot.toNat) = some r)
include hr

theorem soloDone_completes (hkept : s.soloLost r = false) : Completes (.soloDone ⟨slot, false⟩) s fun t => ∃ u : State, t = u.retryLedger ∧
    (∀ d ∈ r.decisions, d.solo = true → (s.solo d.owner).isSome = true → (u.solo d.owner).map Solo.done = some true) ∧
    u.reqs = s.reqs.map fun a => if a.rid = r.rid then { a with phase := .done (if r.xorBad then rspPoison else rspOk) } else a := by
  have hexec : exec (.soloDone ⟨slot, false⟩) s = .next (s.endSolo r) := by rw [exec_soloDone hr, hkept]; rfl
  have hcode : (if r.xorBad then rspPoison else rspOk) = rspOk ∨ (if r.xorBad then rspPoison else rspOk) = rspPoison := by
    split
    · exact .inr rfl
    · exact .inl rfl
  refine ⟨_, hexec, _, s.endSolo_eq r, fun d hd hsolo hslot => State.markSolos_done hd hsolo hslot, ?_⟩
  rw [State.finishReq_reqs_of_read _ _ hcode, State.markSolos_reqs]

theorem soloDone_fatal : Completes (.soloDone ⟨slot, true⟩) s (TableFault s) :=
  ⟨_, exec_soloDone hr true, s.tableError_fault true slot.toNat⟩

end

theorem demandResolution_settles {s : State} {half : Fin 2} {d : Nat × Nat × Nat} (hd : (s.ledger.demand.find? fun d => d.1 == half.val) = some d)
    (hbusy : s.granuleBusy d.2.1 = false) (hfree : s.copyFree d.2.1 false = true) (ecc : BitVec 96) :
    Completes (.demandResolution half ⟨ecc, false⟩) s (Settles s d.2.1 ecc) :=
  ⟨_, exec_demandResolution hd hbusy hfree _, s.settleEntry_settles d.2.1 ecc⟩

theorem demandResolution_fatal {s : State} {half : Fin 2} {d : Nat × Nat × Nat} (hd : (s.ledger.demand.find? fun d => d.1 == half.val) = some d)
    (hbusy : s.granuleBusy d.2.1 = false) (hfree : s.copyFree d.2.1 false = true) (ecc : BitVec 96)
    (howned : (s.entry d.2.1).st = entOwned ∨ (s.entry d.2.1).st = entSolo) :
    Completes (.demandResolution half ⟨ecc, true⟩) s (TableFault s) := by
  refine ⟨_, exec_demandResolution hd hbusy hfree _, ?_⟩
  rw [State.withOwner_lost howned]
  exact s.tableError_fault ..

/-- Settles O13: a solo's end by `State.markSolos_solo`, a demand and a done solo by the settling of one entry, the rest by the cursor. -/
theorem ledgerSteps : Obligations.LedgerSteps := by
  unfold Obligations.LedgerSteps
  intro slot half ecc s
  refine ⟨fun r hr => ⟨soloDone_completes hr, ?_⟩, fun d hd hbusy hfree => ⟨demandResolution_settles hd hbusy hfree ecc, fun howned => ?_⟩,
    fun hruns => ⟨fun i hi hbusy hfree => ⟨_, exec_sweepStep hruns half ecc, ?_⟩, ?_⟩⟩
  · obtain ⟨t, hexec, h⟩ := soloDone_fatal hr
    exact ⟨t, hexec, h.counted, h.reqs, h.mem, h.entries, h.solos, h.groups, h.demand⟩
  · obtain ⟨t, hexec, h⟩ := demandResolution_fatal hd hbusy hfree ecc howned
    exact ⟨t, hexec, h.counted, h.reqs, h.mem, h.entries, h.solos, h.groups, h.demand⟩
  · rw [State.sweepOnce_of_solo hi hbusy hfree]
    exact s.settleEntry_settles i ecc
  · rintro _ rfl hsolo hres
    have honce := State.sweepOnce_of_idle hsolo hres ecc
    refine ⟨fun hblock => ⟨_, exec_sweepStep hruns half ecc, _, ?_, State.readSkip_state hblock _ ecc⟩, fun hblock => ?_⟩
    · rw [honce, if_pos hblock]
    · rw [exec_sweepStep hruns, honce, if_neg (by rw [hblock]; decide), State.skipCursor_of_empty hblock]

end Sys2Proof.Proofs
end

section
/-!
The LDG commands (O14): the poison of every entry or of one cleared, and a group aborted (R104, R117, R126).
-/
namespace Sys2Proof.Machine

/-- The entries read one after the other, as CLEAR_ALL_POISON reads them. -/
def State.readAll (s : State) (l : List (Nat × BitVec 96)) : State := l.foldl (fun (s : State) (e : Nat × BitVec 96) => s.readEntry e.1 0) s

/-- Reads that each find their entry right change nothing. -/
theorem State.readAll_of_sound {s : State} {l : List (Nat × BitVec 96)} (h : ∀ e ∈ l, s.readEntry e.1 0 = s) : s.readAll l = s :=
  List.foldlRecOn (motive := (· = s)) l _ rfl fun t ht e he => by rw [ht, h e he]

/-- What CLEAR_ALL_POISON keeps of the entries that it has read. -/
def keptEntry (e : Nat × BitVec 96) : Bool := (unpackEntry e.2).st != entPoisoned && e.2 != 0

theorem State.clearAllPoison_eq (s : State) : s.clearAllPoison =
    { s.readAll s.ledger.entries with ledger := { (s.readAll s.ledger.entries).ledger with
      fill := 0, entries := (s.readAll s.ledger.entries).ledger.entries.filter keptEntry } } := rfl

/-- No entry is POISONED where none that is listed is, and the others read as zero. -/
theorem State.entry_not_poisoned {s : State} (hfill : s.ledger.fill = 0) (h : ∀ e ∈ s.ledger.entries, keptEntry e = true) (i : Nat) :
    (s.entry i).st ≠ entPoisoned := by
  rw [State.entry, State.rawEntry]
  cases hi : getKey s.ledger.entries i with
  | none => rw [hfill]; decide
  | some v => exact bne_iff_ne.1 (Bool.and_eq_true_iff.1 (h _ (getKey_mem hi))).1

/-- The selected entry cleared, where it is POISONED once read. -/
theorem State.clearSelPoison_of_poisoned {s : State}
    (h : ((s.readEntry (s.cfgField (pageLdg 0) 0x064 18 0) 0).entry (s.cfgField (pageLdg 0) 0x064 18 0)).st = entPoisoned) :
    s.clearSelPoison = (s.readEntry (s.cfgField (pageLdg 0) 0x064 18 0) 0).setEntry (s.cfgField (pageLdg 0) 0x064 18 0) (cleanEntry false) :=
  if_pos h

/-- An abort is counted, and leaves its group unswept, or FREE with no entry. -/
theorem State.abortGroup_state (s : State) (g : Nat) : (s.abortGroup g).ledger.abortCnt = satInc s.ledger.abortCnt ∧
    ((s.abortGroup g).group g).st = if (s.group g).entries = 0 then .free else .aborted := by
  refine ⟨rfl, ?_⟩
  calc ((s.abortGroup g).group g).st = ((s.setGroup g ({ s.group g with st := .aborted } : GroupRec).settle).group g).st := rfl
    _ = if (s.group g).entries = 0 then .free else .aborted := by rw [State.group_setGroup_self, GroupRec.settle_st (.inr rfl)]

end Sys2Proof.Machine

namespace Sys2Proof.Proofs
open Sys2Proof.Machine

section
variable {s : State} (hlive : s.pageLive (pageLdg 0) = true)
include hlive

theorem clearAllPoison_clears : Completes .clearAllPoison s fun t => (∀ i, (t.entry i).st ≠ entPoisoned) ∧ t.mem = s.mem ∧
    ((∀ e ∈ s.ledger.entries, s.readEntry e.1 0 = s) → t.ledger.groups = s.ledger.groups) := by
  refine ⟨s.clearAllPoison, congrArg Host.Outcome.next (State.whenLive_of_live hlive _), fun i => ?_,
    s.clearAllPoison_keeps.p .mem (by decide), fun hsound => ?_⟩
  · rw [State.clearAllPoison_eq]
    exact State.entry_not_poisoned rfl (fun e he => (List.mem_filter.1 he).2) i
  · rw [State.clearAllPoison_eq, State.readAll_of_sound hsound]

theorem clearPoison_clears
    (hpoison : ((s.readEntry (s.cfgField (pageLdg 0) 0x064 18 0) 0).entry (s.cfgField (pageLdg 0) 0x064 18 0)).st = entPoisoned) :
    Completes .clearPoison s fun t => t.entry (s.cfgField (pageLdg 0) 0x064 18 0) = cleanEntry false ∧ t.mem = s.mem ∧
      (s.readEntry (s.cfgField (pageLdg 0) 0x064 18 0) 0 = s → t.ledger.groups = s.ledger.groups) := by
  refine ⟨s.clearSelPoison, congrArg Host.Outcome.next (State.whenLive_of_live hlive _), ?_, s.clearSelPoison_keeps.p .mem (by decide),
    fun hsound => ?_⟩
  · rw [State.clearSelPoison_of_poisoned hpoison, State.entry_setEntry_clean]
  · rw [State.clearSelPoison_of_poisoned hpoison, State.setEntry_groups, hsound]

theorem abortGrp_aborts (hopen : (s.group (s.cfgField (pageLdg 0) 0x05C 11 0)).st = .open_) :
    Completes .abortGrp s fun t => ∃ u : State, t = u.retryLedger ∧ u.ledger.abortCnt = satInc s.ledger.abortCnt ∧
      (u.group (s.cfgField (pageLdg 0) 0x05C 11 0)).st =
        if (s.group (s.cfgField (pageLdg 0) 0x05C 11 0)).entries = 0 then .free else .aborted :=
  ⟨s.abortSelGroup, congrArg Host.Outcome.next (State.whenLive_of_live hlive _), _, if_pos hopen, s.abortGroup_state _⟩

end

/-- Settles O14, command by command. -/
theorem ledgerCommands : Obligations.LedgerCommands := by
  unfold Obligations.LedgerCommands
  intro s hlive
  exact ⟨congrArg Host.Outcome.next (State.whenLive_of_live hlive _), clearAllPoison_clears hlive, clearPoison_clears hlive, abortGrp_aborts hlive⟩

end Sys2Proof.Proofs
end

section
/-!
Who refuses a sleep vote (O35): what the ledger and the two ingest domains say, and how their answer goes (R91, R124, R308, R309).
-/
namespace Sys2Proof.Machine

/-! ### What a domain says (R309) -/

theorem State.groupsOpen_iff (s : State) : s.groupsOpen = true ↔ ∃ g ∈ s.ledger.groups, g.2.st = .open_ ∨ g.2.st = .committing := by
  simp only [State.groupsOpen, List.any_eq_true, Bool.or_eq_true, beq_iff_eq]

/-- An ingest port has EN = 1 among the four from a number on. -/
theorem State.ingestEn_iff (s : State) (k : Nat) :
    s.ingestEn k = true ↔ ∃ n : Fin 8, k ≤ n.val ∧ n.val < k + 4 ∧ s.ingest[n].enWanted = true := by
  simp only [State.ingestEn, List.any_eq_true, List.mem_take_iff_getElem, List.getElem_drop, List.length_drop, Vector.length_toList, Vector.getElem_toList]
  constructor
  · rintro ⟨_, ⟨j, hj, rfl⟩, hen⟩
    exact ⟨⟨k + j, by omega⟩, by simp, by simp; omega, hen⟩
  · rintro ⟨n, hle, hlt, hen⟩
    exact ⟨_, ⟨n.val - k, by omega, rfl⟩, by simpa [Nat.add_sub_cancel' hle] using hen⟩

theorem State.refusal_ledger {s : State} (h : s.pwr.target = 3) :
    s.refusal 89 = if ∃ g ∈ s.ledger.groups, g.2.st = .open_ ∨ g.2.st = .committing then some 4 else none := by
  have hsays : s.refusal 89 = if (s.pwr.target == 3 && s.groupsOpen) = true then some 4 else none := rfl
  rw [hsays, h, beq_self_eq_true, Bool.true_and]
  simp only [State.groupsOpen_iff]

theorem State.refusal_ingestLow (s : State) :
    s.refusal 95 = if ∃ n : Fin 8, n.val < 4 ∧ s.ingest[n].enWanted = true then some 3 else none := by
  have hsays : s.refusal 95 = if s.ingestEn 0 = true then some 3 else none := rfl
  rw [hsays]
  simp only [State.ingestEn_iff, Nat.zero_le, true_and, Nat.zero_add]

theorem State.refusal_ingestHigh (s : State) :
    s.refusal 96 = if ∃ n : Fin 8, 4 ≤ n.val ∧ s.ingest[n].enWanted = true then some 3 else none := by
  have hsays : s.refusal 96 = if s.ingestEn 4 = true then some 3 else none := rfl
  have hall (n : Fin 8) : n.val < 4 + 4 := n.isLt
  rw [hsays]
  simp only [State.ingestEn_iff, hall, true_and]

/-! ### HOLD-UP leaves who has agreed (R312) -/

/-- HOLD-UP entry that follows a COMMIT preempts no vote. -/
theorem State.holdUpRecord_agreed {s : State} (h : s.pwr.phase = .squall) (cause : BitVec 8) :
    (s.holdUpRecord cause).pwr.agreed = s.pwr.agreed := by
  have hkeeps : Keeps 0x27032012244 s ((s.endCommands.dbgStop false).beginSquall cause s.inService) :=
    (State.beginSquall_keeps ..).on ((State.dbgStop_keeps ..).on (s.endCommands_keeps.mono (by decide)) (by decide)) (by decide)
  have hpwr : _ = s.pwr := hkeeps.p .pwr (by decide)
  rw [State.holdUpRecord]
  generalize (s.endCommands.dbgStop false).beginSquall cause s.inService = begun at hpwr ⊢
  have hvote : begun.preemptVote = begun := if_neg (by rw [hpwr, h]; decide)
  have hstop (u : State) : u.stopSwitch.pwr.agreed = u.pwr.agreed := by
    have hclear (v : State) : v.clearSwitching.pwr = v.pwr := v.clearSwitching_keeps.p .pwr (by decide)
    rw [State.stopSwitch, hclear]
  rw [hstop, hvote, hpwr]

/-- The stages after the record leave who has agreed. -/
theorem State.enterHoldUp_agreed {s : State} (h : s.pwr.phase = .squall) (cause : BitVec 8) : (s.enterHoldUp cause).pwr.agreed = s.pwr.agreed := by
  unfold State.enterHoldUp
  extract_lets +onlyGivenNames asleep begun record off frozen quiet mode0 fab0 ao0 squall0 flags active pwr0 phase entered last
  have hstages : record = s.holdUpRecord cause := rfl
  have hrecord : record.pwr.agreed = s.pwr.agreed := by rw [hstages, State.holdUpRecord_agreed h]
  clear_value record
  have hfreeze : quiet = record.holdUpFreeze := rfl
  have hquiet : quiet.pwr = record.pwr := by rw [hfreeze]; exact record.holdUpFreeze_keeps.p .pwr (by decide)
  clear_value quiet
  have hflags : flags.pwr = quiet.pwr := rfl
  clear_value flags
  have hactive : Keeps 0x800000 flags active := .foldl .rfl' fun u c => .ite (fun _ => u.modSlice_keeps c _) fun _ => .rfl'
  have hactivePwr : active.pwr = flags.pwr := hactive.p .pwr (by decide)
  clear_value active
  have hphase : phase.pwr.agreed = active.pwr.agreed := rfl
  clear_value phase
  have hentered : Keeps 0x20002010210 phase entered := (State.stopCopies_keeps _).on ((phase.setMode_keeps .holdUp).mono (by decide)) (by decide)
  have hlast : Keeps 0x110000000 entered last := .ite (fun _ => entered.takeToken_keeps) fun _ => .rfl'
  have hpwr : last.ackS3.pwr = phase.pwr := ((last.ackS3_keeps.p .pwr (by decide)).trans (hlast.p .pwr (by decide))).trans (hentered.p .pwr (by decide))
  calc last.ackS3.pwr.agreed = active.pwr.agreed := by rw [hpwr, hphase]
    _ = s.pwr.agreed := by rw [hactivePwr, hflags, hquiet, hrecord]

/-! ### How an answer goes (R308, R310) -/

/-- The answer of a domain that is asked, no more asked of it, with the sweep paused where it is the ledger's. -/
def State.takeAgree (s : State) (d : Fin 100) : State :=
  let t := { s with pwr := { s.pwr with asked := s.pwr.asked &&& ~~~(1#100 <<< d.val), agreed := s.pwr.agreed ||| (1#100 <<< d.val) } }
  if d.val = 89 then { t with ledger := { t.ledger with paused := true } } else t

theorem State.takeAgree_pwr (s : State) (d : Fin 100) : (s.takeAgree d).pwr =
    { s.pwr with asked := s.pwr.asked &&& ~~~(1#100 <<< d.val), agreed := s.pwr.agreed ||| (1#100 <<< d.val) } := by
  unfold State.takeAgree
  split <;> rfl

/-- A vote in which no domain has refused, with the domains that have agreed. -/
def State.unvetoed (s : State) (agreed : BitVec 100) : Prop := s.pwr.phase ≠ .rollback ∧ s.pwr.agreed = agreed

theorem State.votePromote_unvetoed {s : State} {a : BitVec 100} (h : s.unvetoed a) : s.votePromote.unvetoed a := by
  unfold State.votePromote
  split
  · exact ⟨nofun, h.2⟩
  · exact h

theorem State.voteCommit_unvetoed {s : State} {a : BitVec 100} (h : s.unvetoed a) : s.voteCommit.unvetoed a := by
  unfold State.voteCommit
  split
  · split
    · generalize hu : ({ s with pwr := { s.pwr with phase := .squall, result := 1 } } : State) = u
      have hphase : u.pwr.phase = .squall := by rw [← hu]
      have hagreed : u.pwr.agreed = a := by rw [← hu]; exact h.2
      refine ⟨?_, (State.enterHoldUp_agreed hphase 2).trans hagreed⟩
      obtain ⟨-, -, hheld⟩ := u.enterHoldUp_kept 2
      rw [hheld]
      nofun
    · extract_lets _ t
      have ht : t.unvetoed a := ⟨nofun, h.2⟩
      split
      · have hpwr : t.drainAll.pwr = t.pwr := t.drainAll_keeps.p .pwr (by decide)
        rwa [State.unvetoed, hpwr]
      · exact ht
  · exact h

section
variable {s : State} {d : Fin 100} (hvote : s.pwr.phase = .prepare1 ∨ s.pwr.phase = .prepare2) (hasked : s.pwr.asked.getLsbD d = true)
include hasked

/-- The tier that the domain belongs to has not ended, as the domain is still asked. -/
theorem State.votePromote_of_asked : s.votePromote = s :=
  if_neg fun ⟨_, hnone, _⟩ => by
    rw [hnone] at hasked
    simp at hasked

include hvote

theorem State.answerVote_of_refusal {why : BitVec 4} (h : s.refusal d = some why) : s.answerVote d false = s.voteRefuse d why := by
  rw [State.answerVote, State.votePromote_of_asked hasked, if_pos ⟨hvote, hasked⟩, h]
  rfl

theorem State.answerVote_of_agree (h : s.refusal d = none) : s.answerVote d false = (s.takeAgree d).votePromote.voteCommit := by
  rw [State.answerVote, State.votePromote_of_asked hasked, if_pos ⟨hvote, hasked⟩, h]
  rfl

theorem voteAnswer_refuses {why : BitVec 4} (h : s.refusal d = some why) :
    Completes (.voteAnswer d) s fun t => t.pwr.phase = .rollback ∧ t.pwr.vetoBy = BitVec.ofNat 7 d ∧ t.pwr.vetoWhy = why := by
  refine ⟨s.voteRefuse d why, congrArg Host.Outcome.next (State.answerVote_of_refusal hvote hasked h), ?_⟩
  rw [State.voteRefuse, if_pos hvote]
  exact ⟨rfl, rfl, rfl⟩

theorem voteAnswer_agrees (h : s.refusal d = none) :
    Completes (.voteAnswer d) s fun t => t.pwr.phase ≠ .rollback ∧ t.pwr.agreed.getLsbD d = true := by
  have hphase : s.pwr.phase ≠ .rollback := by rcases hvote with hp | hp <;> rw [hp] <;> nofun
  have htaken : (s.takeAgree d).unvetoed (s.pwr.agreed ||| (1#100 <<< d.val)) := by rw [State.unvetoed, State.takeAgree_pwr]; exact ⟨hphase, rfl⟩
  obtain ⟨hdone, hagreed⟩ := State.voteCommit_unvetoed (State.votePromote_unvetoed htaken)
  refine ⟨_, congrArg Host.Outcome.next (State.answerVote_of_agree hvote hasked h), hdone, ?_⟩
  rw [hagreed, BitVec.getLsbD_or]
  simp

end

end Sys2Proof.Machine

namespace Sys2Proof.Proofs
open Sys2Proof.Machine

/-- Settles O35: what the three domains say, and that an answer is a veto or an AGREE that what follows it leaves. -/
theorem sleepVoteRefusals : Obligations.SleepVoteRefusals := by
  unfold Obligations.SleepVoteRefusals
  intro s
  exact ⟨State.refusal_ledger, s.refusal_ingestLow, s.refusal_ingestHigh, fun _ _ hvote hasked =>
    ⟨fun _ => voteAnswer_refuses hvote hasked, voteAnswer_agrees hvote hasked⟩⟩

end Sys2Proof.Proofs
end

section
/-!
The ticks and the grants of a hub's arbiter (O15): its phases with nothing waiting and with one request that can be granted (R148 to R152, R156).
-/
namespace Sys2Proof.Machine

/-! ### Ticks (R148) -/

/-- The stamp of a waiting request held at the largest age. -/
def Req.holdAge (h : Fin 8) (tick : BitVec 16) (r : Req) : Req :=
  if r.phase == .waiting && r.hub == h && decide (32767 < (tick - r.stamp).toNat) then { r with stamp := tick - 32767 } else r

@[simp] theorem Req.holdAge_phase (h : Fin 8) (tick : BitVec 16) (r : Req) : (r.holdAge h tick).phase = r.phase := by
  unfold Req.holdAge
  split <;> rfl

@[simp] theorem Req.holdAge_hub (h : Fin 8) (tick : BitVec 16) (r : Req) : (r.holdAge h tick).hub = r.hub := by
  unfold Req.holdAge
  split <;> rfl

theorem State.advanceTick_hubs (s : State) (h : Fin 8) :
    (s.advanceTick h).hubs = s.hubs.set h { s.hubs[h] with tick := s.hubs[h].tick + 1 } :=
  (State.raiseIf_keeps ..).p .hubs (by decide)

theorem State.advanceTick_reqs (s : State) (h : Fin 8) :
    (s.advanceTick h).reqs = s.reqs.map (Req.holdAge h (s.hubs[h].tick + 1)) := by
  have hreqs : (s.advanceTick h).reqs = s.reqs.map (Req.holdAge h (s.modHub h fun x => { x with tick := x.tick + 1 }).hubs[h].tick) :=
    (State.raiseIf_keeps ..).p .reqs (by decide)
  rw [hreqs, State.modHub_self]

/-- A tick leaves who waits. -/
theorem State.waitingAt_advanceTick (s : State) (h : Fin 8) :
    (s.advanceTick h).waitingAt h = (s.waitingAt h).map (Req.holdAge h (s.hubs[h].tick + 1)) := by
  simp only [State.waitingAt, State.advanceTick_reqs, List.filter_map, Function.comp_def, Req.holdAge_phase, Req.holdAge_hub]

/-! ### Phases (R152) -/

theorem State.req_modReq_of_some {s : State} {r : Req} (hr : s.req r.rid = some r) {f : Req → Req} (hrid : ∀ q, (f q).rid = q.rid) :
    (s.modReq r.rid f).req r.rid = some (f r) := by
  have hkeep (q : Req) : (if q.rid = r.rid then f q else q).rid = q.rid := by
    split
    · exact hrid q
    · rfl
  have hfind : s.reqs.find? (fun q => q.rid == r.rid) = some r := hr
  simp only [State.req, State.modReq, List.find?_map, Function.comp_def, hkeep, hfind, Option.map_some, if_pos]

/-- A request that a phase has seen (R156). -/
def State.see (s : State) (r : Req) : State := s.modReq r.rid fun q => { q with seen := true }

theorem State.see_keeps (s : State) (r : Req) : Keeps 0x10000 s (s.see r) := s.modReq_keeps _ _ fun _ => rfl

theorem State.mapReqs_seen_singleton (s : State) (r : Req) :
    (s.mapReqs fun q => if [r].any fun c => c.rid == q.rid then { q with seen := true } else q) = s.see r := by
  have hsame (q : Req) : ([r].any fun c => c.rid == q.rid) = true ↔ q.rid = r.rid := by
    rw [List.any_cons, List.any_nil, Bool.or_false, beq_iff_eq, eq_comm]
  simp only [State.mapReqs, State.see, State.modReq, hsame]

theorem State.arbitrate_of_none {s : State} {h : Fin 8} (hnone : (s.advanceTick h).waitingAt h = []) (flit : Option (BitVec 128)) :
    s.arbitrate h flit = s.advanceTick h := by
  simp [State.arbitrate, hnone, State.winner, State.mapReqs]

/-- The one candidate, which has credit, is the winner of the phase, and the only one that it sees. -/
theorem State.arbitrate_of_one {s : State} {h : Fin 8} {r : Req} (hone : (s.advanceTick h).waitingAt h = [r])
    (hr : (s.advanceTick h).req r.rid = some r) (hcand : (s.advanceTick h).isCandidate h r = true) (hcredit : (s.advanceTick h).hasCredit h r = true)
    (flit : Option (BitVec 128)) : ∃ reserved : Bool, s.arbitrate h flit = ((s.advanceTick h).see r).grant h { r with seen := true } reserved flit := by
  unfold State.arbitrate
  extract_lets +onlyGivenNames t cand poor good reserved win late counted seen refused
  have hcands : cand = [r] := by simp [cand, t, hone, hcand]
  have hpoor : poor = [] := by simp [poor, hcands, t, hcredit]
  have hgood : good = [r] := by simp [good, hcands, t, hcredit]
  have hwin : win = some r := by simp [win, hgood, State.winner]
  have hlate : late = [] := by simp [late, hcands, hwin]
  have hrefused : refused = (s.advanceTick h).see r := by
    rw [← State.mapReqs_seen_singleton]
    simp only [refused, seen, counted, hpoor, hlate, hcands, t, List.foldl_nil]
  have hseen : ((s.advanceTick h).see r).req r.rid = some { r with seen := true } := State.req_modReq_of_some hr fun _ => rfl
  exact ⟨reserved, by simp only [hwin, hrefused, hseen]⟩

/-! ### The grant (R151, R156) -/

/-- An overtaking packet of the debug port is counted apart from the grants (R154). -/
theorem State.mayPreempt_grants (s : State) (r : Req) : (s.mayPreempt r).fab.grants = s.fab.grants := by
  unfold State.mayPreempt
  split
  · extract_lets n t
    split <;> rfl
  · rfl

/-- A delivered grant is counted for its source, and the work of the request then begins. -/
theorem State.grant_starts (s : State) (h : Fin 8) (r : Req) (reserved : Bool) : ∃ u : State, s.grant h r reserved none = u.startReq r.rid r ∧
    u.fab.grants = bumpAt s.fab.grants r.src.toNat ∧ u.reqs.map Req.key = s.reqs.map Req.key ∧ u.mem = s.mem := by
  unfold State.grant
  extract_lets +onlyGivenNames lvl ep ns src turn longest _ booked counted marked hdr
  have hbooked : Keeps 0x300000 s booked := (keeps_fab ..).on ((s.modHub_keeps ..).mono (by decide)) (by decide)
  have hgrants : booked.fab.grants = bumpAt s.fab.grants r.src.toNat := rfl
  clear_value booked
  have hcounted : Keeps 0x400000200 (booked.mayPreempt r) counted := State.telSys_keeps ..
  have hmarked : Keeps 0x10000 counted marked := State.modReq_keeps _ _ _ fun _ => rfl
  have hcaptured : Keeps 0x4000000200 marked (marked.captureHeader h r hdr) := State.captureHeader_keeps ..
  have hall : Keeps 0x4400310204 s (marked.captureHeader h r hdr) :=
    hcaptured.on (hmarked.on (hcounted.on ((booked.mayPreempt_keeps r).on (hbooked.mono (by decide)) (by decide)) (by decide)) (by decide)) (by decide)
  have hafter : (marked.captureHeader h r hdr).fab = (booked.mayPreempt r).fab :=
    (hcaptured.p .fab (by decide)).trans ((hmarked.p .fab (by decide)).trans (hcounted.p .fab (by decide)))
  refine ⟨marked.captureHeader h r hdr, rfl, ?_, hall.p .reqList (by decide), hall.p .mem (by decide)⟩
  rw [hafter, State.mayPreempt_grants, hgrants]

end Sys2Proof.Machine

namespace Sys2Proof.Proofs
open Sys2Proof.Machine

section
variable {h : Fin 8} {r : Req} {s : State} (hon : s.pwr.coreOn = true)
include hon

theorem exec_arbPhase (flit : Option (BitVec 128)) : exec (.arbPhase h flit) s = .next (s.arbitrate h flit) :=
  congrArg Host.Outcome.next (if_pos hon)

theorem arbPhase_grants (hone : (s.advanceTick h).waitingAt h = [r]) (hr : (s.advanceTick h).req r.rid = some r)
    (hcand : (s.advanceTick h).isCandidate h r = true) (hcredit : (s.advanceTick h).hasCredit h r = true) :
    Completes (.arbPhase h none) s fun t => ∃ u : State, t = u.startReq r.rid { r with seen := true } ∧
      u.fab.grants = bumpAt s.fab.grants r.src.toNat ∧ u.reqs.map Req.key = s.reqs.map Req.key ∧ u.mem = s.mem := by
  have hseen : Keeps 0x110200 s ((s.advanceTick h).see r) := (State.see_keeps ..).on (s.advanceTick_keeps h) (by decide)
  obtain ⟨reserved, hgrant⟩ := State.arbitrate_of_one hone hr hcand hcredit none
  obtain ⟨u, hstart, hgrants, hkeys, hmem⟩ := ((s.advanceTick h).see r).grant_starts h { r with seen := true } reserved
  refine ⟨s.arbitrate h none, exec_arbPhase hon none, u, ?_, ?_, hkeys.trans (hseen.p .reqList (by decide)), hmem.trans (hseen.p .mem (by decide))⟩
  · rw [hgrant, hstart]
  · have hfab : ((s.advanceTick h).see r).fab = s.fab := hseen.p .fab (by decide)
    rw [hgrants, hfab]

theorem arbPhase_ticks (hnone : s.waitingAt h = []) (flit : Option (BitVec 128)) : exec (.arbPhase h flit) s = .next (s.advanceTick h) := by
  have hstill : (s.advanceTick h).waitingAt h = [] := by rw [State.waitingAt_advanceTick, hnone, List.map_nil]
  rw [exec_arbPhase hon, State.arbitrate_of_none hstill]

end

/-- Settles O15: one candidate with credit is granted, and with nothing waiting the tick advances. -/
theorem arbiterGrants : Obligations.ArbiterGrants := by
  unfold Obligations.ArbiterGrants
  intro h flit r s hon
  exact ⟨arbPhase_grants hon, fun hnone => arbPhase_ticks hon hnone flit⟩

end Sys2Proof.Proofs
end

section
/-!
The steps of the fabric (O16): ticks, backoffs, route epochs, fences, late responses, and the counter commands (R141, R142, R148, R150, R156,
R158, R159).
-/
namespace Sys2Proof.Machine

/-! ### Route epochs (R141, R142) -/

/-- What a hub routes by: its epoch, the table of the epoch, and the table that waits for the next one. -/
def Hub.routing (x : Hub) : BitVec 16 × Vector Route 9 × Option (Vector Route 9) := (x.epoch, x.table, x.staged)

theorem State.removeCancelled_routing (s : State) (h : Fin 8) : (s.removeCancelled h).hubs[h].routing = s.hubs[h].routing := by
  unfold State.removeCancelled
  extract_lets l dropAt kept emptied touched cleared
  have hcleared : Keeps 0x800000 emptied cleared :=
    .foldl .rfl' fun u c => (State.modHealth_keeps ..).on (u.modSched_keeps ..) (by decide)
  have hhubs : cleared.hubs = emptied.hubs := hcleared.p .hubs (by decide)
  calc cleared.hubs[h].routing = emptied.hubs[h].routing := by rw [hhubs]
    _ = s.hubs[h].routing := by rw [State.modHub_self]; rfl

/-- The staged table made current under the next epoch, with nothing cancelled yet (R141, R334). -/
def State.enterEpoch (s : State) (h : Fin 8) (tbl : Vector Route 9) : State :=
  ((s.modHub h fun x => { x with
    old := x.old ++ [{ epoch := x.epoch, table := x.table }], epoch := x.epoch + 1, table := tbl, staged := none, cut := 0
    rosterGen := x.rosterGen + 1 }).signGroup h).voidGuarantees fun r => r.hub == h

theorem State.enterEpoch_routing (s : State) (h : Fin 8) (tbl : Vector Route 9) :
    (s.enterEpoch h tbl).hubs[h].routing = (s.hubs[h].epoch + 1, tbl, none) := by
  unfold State.enterEpoch
  generalize hswapped : s.modHub h _ = swapped
  have hkept : Keeps 0x810000 swapped ((swapped.signGroup h).voidGuarantees fun r => r.hub == h) :=
    (State.voidGuarantees_keeps ..).on ((swapped.signGroup_keeps h).mono (by decide)) (by decide)
  have hhubs : ((swapped.signGroup h).voidGuarantees fun r => r.hub == h).hubs = swapped.hubs := hkept.p .hubs (by decide)
  rw [hhubs, ← hswapped, State.modHub_self]
  rfl

theorem State.swapEpoch_of_staged {s : State} {h : Fin 8} {tbl : Vector Route 9} (hstaged : s.hubs[h].staged = some tbl)
    (hold : s.hubs[h].old.length < 2) : s.swapEpoch h =
      (((s.enterEpoch h tbl).cancelled h).foldl (fun s x => s.reissue h x.2.1) ((s.enterEpoch h tbl).removeCancelled h)).kick h := by
  simp only [State.swapEpoch, hstaged, if_neg (Nat.not_le.2 hold), State.enterEpoch]

/-! ### Late responses (R142, R279) -/

theorem State.modHealth_self (s : State) (c : Fin 80) (f : Health → Health) : (s.modHealth c f).slices[c].health = f s.slices[c].health :=
  congrArg Slice.health (s.modSlice_self c _)

theorem State.ownLine_health (s : State) (c : Fin 80) : (s.ownLine c).slices[c].health = s.slices[c].health := by
  rw [State.ownLine, State.modSched, State.modSlice_self]

theorem State.quarantine_late (s : State) (c : Fin 80) : (s.quarantine c).slices[c].health.late = s.slices[c].health.late := by
  by_cases hfailed : s.role c = roleFailed
  · generalize ht : s.modHealth c (fun h => { h with role := roleQuarantine, mem := none, tested := false, retrained := false }) = t
    have hquarantine : s.quarantine c = (t.ownLine c).raise pageSpr 2 := by rw [← ht]; exact if_pos hfailed
    have hslices : ((t.ownLine c).raise pageSpr 2).slices = (t.ownLine c).slices := (State.raise_keeps ..).p .slices (by decide)
    rw [hquarantine, hslices, State.ownLine_health, ← ht, State.modHealth_self]
  · rw [State.quarantine, if_neg hfailed]

/-- A late response counted, with one fewer to come. -/
def State.countLate (s : State) (c : Fin 80) : State :=
  let t := s.modHealth c fun x => { x with late := x.late - 1 }
  { t with fab := { t.fab with lateCnt := satInc t.fab.lateCnt, lateArmed := false } }

theorem State.countLate_late (s : State) (c : Fin 80) : (s.countLate c).slices[c].health.late = s.slices[c].health.late - 1 := by
  have hslices : (s.countLate c).slices = (s.modHealth c fun x => { x with late := x.late - 1 }).slices := rfl
  rw [hslices, State.modHealth_self]

end Sys2Proof.Machine

namespace Sys2Proof.Proofs
open Sys2Proof.Machine

theorem arbTickAdvance_ticks {h : Fin 8} {s : State} (hwait : s.waitingAt h ≠ []) : Completes (.arbTickAdvance h) s fun t =>
    t.hubs[h].tick = s.hubs[h].tick + 1 ∧ (∀ g : Fin 8, g ≠ h → t.hubs[g] = s.hubs[g]) ∧ t.reqs.map Req.key = s.reqs.map Req.key := by
  refine ⟨s.advanceTick h, congrArg Host.Outcome.next (if_neg (by simpa using hwait)), ?_, fun g hg => ?_,
    (s.advanceTick_keeps h).p .reqList (by decide)⟩
  all_goals rw [State.advanceTick_hubs]
  · simp
  · exact s.modHub_other h g (fun x => { x with tick := x.tick + 1 }) hg

theorem routeEpochSwap_swaps {h : Fin 8} {s : State} {tbl : Vector Route 9} (hstaged : s.hubs[h].staged = some tbl) (hold : s.hubs[h].old.length < 2) :
    Completes (.routeEpochSwap h) s fun t => ∃ (u : State) (l : List (Fin 80 × MemOp × Bool)), t = (l.foldl (fun s x => s.reissue h x.2.1) u).kick h ∧
      u.hubs[h].epoch = s.hubs[h].epoch + 1 ∧ u.hubs[h].table = tbl ∧ u.hubs[h].staged = none := by
  have hrouting := ((s.enterEpoch h tbl).removeCancelled_routing h).trans (s.enterEpoch_routing h tbl)
  rw [Hub.routing, Prod.mk.injEq, Prod.mk.injEq] at hrouting
  exact ⟨s.swapEpoch h, rfl, _, _, State.swapEpoch_of_staged hstaged hold, hrouting⟩

theorem fenceDone_retires {h : Fin 8} {s : State} {o : OldEpoch} {rest : List OldEpoch} (hold : s.hubs[h].old = o :: rest)
    (hidle : s.epochBusy h o.epoch = false) :
    Completes (.fenceDone h) s fun t => t.hubs = s.hubs.set h { s.hubs[h] with old := rest } := by
  refine ⟨(s.modHub h fun x => { x with old := rest }).raise pageFab 0, ?_, (State.raise_keeps ..).p .hubs (by decide)⟩
  have hexec : exec (.fenceDone h) s = execFenceDone h s := rfl
  simp only [hexec, execFenceDone, hold, hidle, Bool.false_eq_true, if_false]

theorem lateResponse_counts {c : Fin 80} {s : State} (hlate : s.slices[c].health.late ≠ 0) : Completes (.lateResponse c) s fun t =>
    t.fab = { s.fab with lateCnt := satInc s.fab.lateCnt, lateArmed := false } ∧ t.slices[c].health.late = s.slices[c].health.late - 1 ∧
      t.hubs = s.hubs := by
  have hraised : Keeps 0x200 (s.countLate c) ((s.countLate c).raiseIf s.fab.lateArmed pageFab 1) := State.raiseIf_keeps ..
  have hended : Keeps 0x800200 (s.countLate c) (((s.countLate c).raiseIf s.fab.lateArmed pageFab 1).quarantine c) :=
    (State.quarantine_keeps ..).on (hraised.mono (by decide)) (by decide)
  have hslices : ((s.countLate c).raiseIf s.fab.lateArmed pageFab 1).slices = (s.countLate c).slices := hraised.p .slices (by decide)
  refine ⟨_, congrArg Host.Outcome.next (if_neg hlate), hended.p .fab (by decide), ?_, hended.p .hubs (by decide)⟩
  calc _ = ((s.countLate c).raiseIf s.fab.lateArmed pageFab 1).slices[c].health.late := State.quarantine_late ..
    _ = s.slices[c].health.late - 1 := by rw [hslices, State.countLate_late]

/-- Settles O16, command by command. -/
theorem fabricSteps : Obligations.FabricSteps := by
  unfold Obligations.FabricSteps
  intro h c s
  exact ⟨arbTickAdvance_ticks, rfl, fun _ => routeEpochSwap_swaps, fun _ _ => fenceDone_retires, lateResponse_counts,
    fun hlive => congrArg Host.Outcome.next (State.whenLive_of_live hlive State.clearFab),
    fun hlive => congrArg Host.Outcome.next (State.whenLive_of_live hlive State.clearArb),
    fun hlive => congrArg Host.Outcome.next (State.whenLive_of_live hlive State.clearLongest)⟩

end Sys2Proof.Proofs
end

section
/-!
Regulation (O17): the feasibility check and the epoch that its result takes effect at (R163, R168 to R173, R177). What the epoch does beside
that, the values that apply and a PL change that goes on, asks for checks and leaves the result; it writes memory only where a flush of
check lines is ordered.
-/
namespace Sys2Proof.Machine

/-! ### Safe states under values that apply (R382, R391) -/

theorem State.modHeader_parity (s : State) (page q : Nat) {f : Header → Header}
    (hf : ∀ h, (f h).parity = h.parity := by exact fun _ => rfl) :
    (s.modHeader page f).parity q = s.parity q := by
  by_cases hq : q = page
  · rw [hq, State.modHeader, State.parity, State.setHeader_self, hf, State.parity]
  · rw [State.modHeader, State.parity, State.setHeader_other _ _ hq, State.parity]

theorem State.parity_congr {s t : State} (h : t.regs.headers = s.regs.headers) (q : Nat) : t.parity q = s.parity q := by
  rw [State.parity, State.parity, State.header, State.header, h]

/-- Values that apply leave every page's parity flag. -/
theorem State.applyPoint_parity (s : State) (page : Nat) (ap : Apply) (q : Nat) : (s.applyPoint page ap).parity q = s.parity q := by
  rw [State.applyPoint_eq]
  split
  next => rfl
  next =>
    have hhook (u : State) (l : List Nat) : (u.appliedHook s page l).regs.headers = u.regs.headers := (u.appliedHook_keeps ..).p .regHeaders (by decide)
    rw [State.parity_congr (hhook _ _)]
    exact (State.modHeader_parity _ page q).trans (State.parity_congr ((s.applyValues_keeps page ap).p .regHeaders (by decide)) q)

theorem State.applyPages_parity (s : State) (pages : List Nat) (ap : Apply) (q : Nat) : (s.applyPages pages ap).parity q = s.parity q :=
  List.foldlRecOn (motive := fun t => State.parity t q = s.parity q) pages _ rfl fun t ht page _ => (t.applyPoint_parity page ap q).trans ht

/-! ### The result in force, and the one that waits for the epoch (R168, R171) -/

/-- What the shares hold of the results of checks: the shed classes, OVERCOMMIT, whether the last result fits, and the result to come. -/
def Shares.verdict (q : Shares) : BitVec 8 × Bool × Bool × Option FeasResult := (q.shed, q.overcommit, q.residual, q.nextShed)

theorem Keeps.verdict {m : Nat} {s t : State} (h : Keeps m s t) (hm : m.testBit Part.shr.idx = false) : t.shr.verdict = s.shr.verdict :=
  congrArg Shares.verdict (h.p .shr hm)

theorem State.foldl_verdict {α : Type} {f : State → α → State} (hf : ∀ u a, (f u a).shr.verdict = u.shr.verdict) (l : List α) (s : State) :
    (l.foldl f s).shr.verdict = s.shr.verdict := by
  induction l generalizing s with
  | nil => rfl
  | cons a l ih => exact (ih _).trans (hf s a)

theorem State.feasTrigger_verdict (s : State) : s.feasTrigger.shr.verdict = s.shr.verdict := by
  unfold State.feasTrigger
  split <;> rfl

/-- A check that is asked for runs, and the regulation state alone differs. -/
theorem State.feasTrigger_busy (s : State) : s.feasTrigger.shr.busy = true ∧ s.feasTrigger = { s with shr := s.feasTrigger.shr } := by
  unfold State.feasTrigger
  split
  next h => exact ⟨h, rfl⟩
  next => exact ⟨rfl, rfl⟩

theorem State.detectCut_verdict (s : State) (hubs : BitVec 8) : (s.detectCut hubs).shr.verdict = s.shr.verdict := by
  unfold State.detectCut
  rw [State.feasTrigger_verdict, (State.voidGuarantees_keeps ..).verdict (by decide)]
  dsimp only
  split <;> rfl

theorem State.notePace_verdict (s old : State) : (s.notePace old).shr.verdict = s.shr.verdict := by
  unfold State.notePace
  extract_lets _ _ _ _ noted t
  have ht : t.shr.verdict = s.shr.verdict := by
    unfold t
    split
    · rfl
    · exact State.detectCut_verdict ..
  split
  · exact ht
  · exact ht

theorem State.plDone_verdict (s : State) : s.plDone.shr.verdict = s.shr.verdict := by
  unfold State.plDone
  extract_lets old slower goal _ _ moved noted
  have hnoted : noted.shr.verdict = s.shr.verdict :=
    ((State.clearSwitching_keeps _).verdict (by decide)).trans (State.notePace_verdict moved old)
  split
  · exact hnoted
  · exact (noted.plEnd_keeps.verdict (by decide)).trans hnoted

theorem State.plSettle_verdict (s : State) : s.plSettle.shr.verdict = s.shr.verdict := by
  unfold State.plSettle
  split_ifs
  · rfl
  all_goals dsimp only; split_ifs
  all_goals first | rfl | exact State.plDone_verdict _

theorem State.appliedHook_verdict (s old : State) (page : Nat) (l : List Nat) : (s.appliedHook old page l).shr.verdict = s.shr.verdict := by
  unfold State.appliedHook
  split
  · exact Keeps.verdict (m := 0x20000) (.ite (fun _ => State.modIng_keeps ..) fun _ => .rfl') (by decide)
  split
  · rw [State.feasTrigger_verdict, (State.voidGuarantees_keeps ..).verdict (by decide)]
    exact State.foldl_verdict (fun u c => by split <;> rfl) _ s
  split
  · exact s.feasTrigger_verdict
  split
  · exact s.feasTrigger_verdict
  · rfl

theorem State.applyPoint_verdict (s : State) (page : Nat) (ap : Apply) : (s.applyPoint page ap).shr.verdict = s.shr.verdict := by
  rw [State.applyPoint_eq]
  split
  · rfl
  · rw [State.appliedHook_verdict, (State.modHeader_keeps ..).verdict (by decide), (s.applyValues_keeps page ap).verdict (by decide)]

theorem State.applyPages_verdict (s : State) (pages : List Nat) (ap : Apply) : (s.applyPages pages ap).shr.verdict = s.shr.verdict :=
  State.foldl_verdict (fun u page => u.applyPoint_verdict page ap) pages s

/-- A result put in force (R168, R171). -/
def State.putResult (s : State) (r : FeasResult) : State :=
  { s with shr := { s.shr with
    shed := r.shed, shedLow := r.shedLow, residual := r.residual, cause := r.cause, overcommit := r.shed != 0, nextShed := none
    ovcCnt := if r.shed != 0 && !s.shr.overcommit then satInc s.shr.ovcCnt else s.shr.ovcCnt } }

/-- What it voids and lets go on: guarantees, the first shedding notified or not, and the refresh multipliers that the check has seen (R171, R173). -/
def State.actOnResult (s : State) (r : FeasResult) (first : Bool) : State :=
  r.slices.foldl (fun (s : State) (c : Fin 80 × BitVec 2) => s.modSched c.1 fun x => { x with multOk := x.multOk || x.nextMult == some c.2 })
    ((if first then (s.raise pageShr 0).voidGuarantees fun _ => true else s).voidGuarantees fun q => r.shed.getLsbD q.cls.toNat)

/-- The PL change that has waited for it (R302). -/
def State.freePl (s : State) (r : FeasResult) : State :=
  if r.pl == some s.pwr.plGoal && s.pwr.waitFeas then ({ s with pwr := { s.pwr with waitFeas := false } }).plSettle else s

/-- With the SHR page sound a result takes effect as it stands. -/
theorem State.applyFeas_of_sound {s : State} {r : FeasResult} (hnext : s.shr.nextShed = some r) (hsound : s.parity pageShr = false) :
    s.applyFeas = ((s.putResult r).actOnResult r (r.shed != 0 && !s.shr.overcommit)).freePl r := by
  simp only [State.applyFeas, hnext, hsound]
  rfl

theorem State.voidShed_keeps (s : State) (r : FeasResult) (first : Bool) : Keeps 0x10200 s
    ((if first then (s.raise pageShr 0).voidGuarantees fun _ => true else s).voidGuarantees fun q => r.shed.getLsbD q.cls.toNat) :=
  (State.voidGuarantees_keeps ..).on
    (.ite (fun _ => (State.voidGuarantees_keeps ..).on ((State.raise_keeps ..).mono (by decide)) (by decide)) fun _ => .rfl') (by decide)

theorem State.actOnResult_verdict (s : State) (r : FeasResult) (first : Bool) : (s.actOnResult r first).shr.verdict = s.shr.verdict :=
  (State.foldl_verdict (fun _ _ => by rfl) _ _).trans ((s.voidShed_keeps r first).verdict (by decide))

theorem State.freePl_verdict (s : State) (r : FeasResult) : (s.freePl r).shr.verdict = s.shr.verdict := by
  unfold State.freePl
  split
  · exact State.plSettle_verdict _
  · rfl

theorem State.tailwind_verdict (s : State) : s.tailwind.shr.verdict = s.shr.verdict := by
  unfold State.tailwind
  exact State.foldl_verdict (fun _ _ => by rfl) _ s

/-! ### What is written back (R221) -/

/-- No slice has a flush ordered. -/
def State.calm (s : State) : Prop := ∀ c : Fin 80, s.slices[c].sched.flushing = false

/-- Where no flush is ordered memory stands as it was, and none becomes ordered. -/
def CalmKept (s t : State) : Prop := s.calm → t.mem = s.mem ∧ t.calm

theorem CalmKept.refl (s : State) : CalmKept s s := fun h => ⟨rfl, h⟩

theorem CalmKept.trans {s t u : State} (h : CalmKept s t) (h' : CalmKept t u) : CalmKept s u := fun hs =>
  have ⟨ht, htc⟩ := h hs
  have ⟨hu, huc⟩ := h' htc
  ⟨hu.trans ht, huc⟩

theorem Keeps.calmKept {m : Nat} {s t : State} (h : Keeps m s t) (hmem : m.testBit Part.mem.idx = false) (hslices : m.testBit Part.slices.idx = false) :
    CalmKept s t := fun hs =>
  ⟨h.p .mem hmem, fun c => by rw [show t.slices = s.slices from h.p .slices hslices]; exact hs c⟩

theorem CalmKept.ite {s t u : State} {p : Prop} [Decidable p] (h : p → CalmKept s t) (h' : ¬p → CalmKept s u) : CalmKept s (if p then t else u) := by
  split
  · exact h ‹_›
  · exact h' ‹_›

theorem CalmKept.foldl {α : Type} {l : List α} {f : State → α → State} (hf : ∀ s a, CalmKept s (f s a)) (s : State) : CalmKept s (l.foldl f s) := by
  induction l generalizing s with
  | nil => exact .refl s
  | cons a l ih => exact (hf s a).trans (ih _)

theorem CalmKept.modSlice (s : State) (c : Fin 80) {f : Slice → Slice}
    (hf : ∀ x, x.sched.flushing = false → (f x).sched.flushing = false := by exact fun _ h => h) :
    CalmKept s (s.modSlice c f) := fun hs => by
  refine ⟨rfl, fun d => ?_⟩
  rw [State.modSlice_getElem]
  split
  · exact hf _ (hs c)
  · exact hs d

theorem CalmKept.modSched (s : State) (c : Fin 80) {f : Sched → Sched}
    (hf : ∀ x, x.flushing = false → (f x).flushing = false := by exact fun _ h => h) :
    CalmKept s (s.modSched c f) := .modSlice s c fun x => hf x.sched

theorem CalmKept.modTrain (s : State) (c : Fin 80) (f : Train → Train) : CalmKept s (s.modTrain c f) := .modSlice s c

/-- A drain without a flush leaves memory. -/
theorem CalmKept.endDrain (s : State) (c : Fin 80) : CalmKept s (s.endDrain c) := fun hs => by
  have hnoflush : s.endDrain c = if s.slices[c].sched.drain && s.slices[c].sched.wq.isEmpty then
      s.modSched c fun x => { x with drain := s.slices[c].train.lullReq || s.slices[c].train.switching, flushing := false } else s := by
    simp only [State.endDrain, hs c, Bool.false_eq_true, if_false]
  rw [hnoflush]
  exact CalmKept.ite (fun _ => .modSched s c fun _ _ => rfl) (fun _ => .refl s) hs

theorem CalmKept.stopGust (s : State) (c : Fin 80) : CalmKept s (s.stopGust c) :=
  .ite (fun _ => (CalmKept.endDrain s c).trans (.modSched _ c)) fun _ => .refl s

theorem CalmKept.startGust (s : State) (c : Fin 80) (cause : BitVec 3) : CalmKept s (s.startGust c cause) :=
  (CalmKept.modSched s c).trans (.modSlice _ c)

theorem CalmKept.orderDrain (s : State) (c : Fin 80) : CalmKept s (s.orderDrain c false) := by
  unfold State.orderDrain
  extract_lets ordered on begun
  have hordered : CalmKept s ordered := .modSched s c fun _ h => by rw [h]; rfl
  have hbegun : CalmKept ordered begun := .ite (fun _ => .refl ordered) fun _ => .startGust ordered c 4
  exact ((hordered.trans hbegun).trans (.stopGust begun c)).trans (.endDrain _ c)

theorem CalmKept.requestLull (s : State) (c : Fin 80) : CalmKept s (s.requestLull c) :=
  .ite (fun _ => .refl s) fun _ => (CalmKept.modTrain s c _).trans (.ite (fun _ => .refl _) fun _ => .orderDrain _ c)

theorem CalmKept.loadTiming (s : State) (c : Fin 80) (pl : BitVec 2) : CalmKept s (s.loadTiming c pl) := by
  unfold State.loadTiming
  refine CalmKept.trans (.foldl (fun u o => ?_) s) (.modSched _ c)
  exact CalmKept.trans (t := { u with regs := { u.regs with shadows := dropKey u.regs.shadows (regKey (pageCh c) o) } }) (fun hs => ⟨rfl, hs⟩)
    ((State.store_keeps ..).calmKept (by decide) (by decide))

theorem CalmKept.atPl (s : State) (c : Fin 80) (pl : BitVec 2) : CalmKept s (s.atPl c pl) := by
  unfold State.atPl
  extract_lets load moved
  have hmoved : CalmKept s moved := (CalmKept.modTrain s c _).trans (.modTrain _ c _)
  exact .ite (fun _ => hmoved.trans (.loadTiming moved c pl)) fun _ => hmoved

theorem CalmKept.takeUpPl (s : State) (c : Fin 80) (pl : BitVec 2) : CalmKept s (s.takeUpPl c pl) :=
  .ite (fun _ => .modTrain s c _) fun _ => .atPl s c pl

theorem CalmKept.afterSwitch (s : State) (c : Fin 80) (goal : BitVec 2) : CalmKept s (s.afterSwitch c goal) :=
  .ite (fun _ => CalmKept.trans (.ite (fun _ => .takeUpPl s c goal) fun _ => .refl s) (.requestLull _ c)) fun _ => .refl s

theorem CalmKept.clearSwitching (s : State) : CalmKept s s.clearSwitching :=
  .foldl (fun u c => .ite (fun _ => .modTrain u c _) fun _ => .refl u) s

theorem CalmKept.plEnd (s : State) : CalmKept s s.plEnd := by
  unfold State.plEnd
  extract_lets goal _ done
  have hdone : Keeps 0x8000200 s done := (State.raise_keeps ..).on ((keeps_pwr s _).mono (by decide)) (by decide)
  exact (hdone.calmKept (by decide) (by decide)).trans (.foldl (fun u c => .afterSwitch u c goal) done)

theorem CalmKept.plDone (s : State) : CalmKept s s.plDone := by
  unfold State.plDone
  extract_lets old slower goal _ _ moved noted
  have hmoved : CalmKept s moved := fun hs => ⟨rfl, hs⟩
  have hnoted : CalmKept s noted :=
    (hmoved.trans ((moved.notePace_keeps old).calmKept (by decide) (by decide))).trans (.clearSwitching _)
  exact .ite (fun _ => hnoted) fun _ => hnoted.trans (.plEnd noted)

theorem CalmKept.plSettle (s : State) : CalmKept s s.plSettle := by
  unfold State.plSettle
  refine .ite (fun _ => .refl s) fun _ => ?_
  extract_lets l _ ready
  have hready : CalmKept s ready := .ite (fun _ => fun hs => ⟨rfl, hs⟩) fun _ => .refl s
  exact .ite (fun _ => hready.trans (.plDone ready)) fun _ => hready

theorem CalmKept.actOnResult (s : State) (r : FeasResult) (first : Bool) : CalmKept s (s.actOnResult r first) :=
  ((s.voidShed_keeps r first).calmKept (by decide) (by decide)).trans (.foldl (fun (u : State) (c : Fin 80 × BitVec 2) => .modSched u c.1) _)

theorem CalmKept.freePl (s : State) (r : FeasResult) : CalmKept s (s.freePl r) :=
  .ite (fun _ => CalmKept.trans (t := { s with pwr := { s.pwr with waitFeas := false } }) (fun hs => ⟨rfl, hs⟩) (.plSettle _)) fun _ => .refl s

end Sys2Proof.Machine

namespace Sys2Proof.Proofs
open Sys2Proof.Machine

theorem feasibilityCheck_completes {s : State} (hbusy : s.shr.busy = true) (hon : s.pwr.coreOn = true) (hmode : s.mode.mode ≠ .retention) :
    Completes .feasibilityCheck s fun t =>
      t = { s with shr := t.shr } ∧ t.shr.busy = s.shr.again ∧ t.shr.again = false ∧ t.shr.shed = s.shr.shed ∧ t.shr.classes = s.shr.classes ∧
      ∃ r, t.shr.nextShed = some r ∧ r.residual = !s.fits s.feasD r.shed s.umax := by
  refine ⟨s.feasCheck, congrArg Host.Outcome.next (if_pos ?_), rfl, rfl, rfl, rfl, rfl, _, rfl, rfl⟩
  simp [hbusy, hon, hmode]

theorem regulationEpoch_applies {s : State} {r : FeasResult} (hon : s.pwr.coreOn = true) (hmode : s.mode.mode ≠ .retention)
    (hnext : s.shr.nextShed = some r) (hsound : s.parity pageShr = false) :
    Completes .regulationEpoch s fun t => t.shr.shed = r.shed ∧ t.shr.overcommit = (r.shed != 0) ∧ t.shr.residual = r.residual ∧
      t.shr.nextShed = none ∧ ((∀ c : Fin 80, s.slices[c].sched.flushing = false) → t.mem = s.mem) := by
  refine ⟨_, congrArg Host.Outcome.next (if_neg (by simp [hon, hmode])), ?_⟩
  have happly : CalmKept s (s.applyPages [pageArb, pageShr, pageLdg 0, pageSpr] .epoch) :=
    (s.applyPages_keeps ..).calmKept (by decide) (by decide)
  have hverdict := s.applyPages_verdict [pageArb, pageShr, pageLdg 0, pageSpr] .epoch
  have hparity := s.applyPages_parity [pageArb, pageShr, pageLdg 0, pageSpr] .epoch pageShr
  generalize s.applyPages [pageArb, pageShr, pageLdg 0, pageSpr] .epoch = u at happly hverdict hparity
  have hunext : u.shr.nextShed = some r := (congrArg (fun v => v.2.2.2) hverdict).trans hnext
  rw [State.applyFeas_of_sound hunext (hparity.trans hsound)]
  generalize hfirst : (r.shed != 0 && !u.shr.overcommit) = first
  have hend : (((u.putResult r).actOnResult r first).freePl r).tailwind.plSettle.shr.verdict = (r.shed, r.shed != 0, r.residual, none) := by
    rw [State.plSettle_verdict, State.tailwind_verdict, State.freePl_verdict, State.actOnResult_verdict]
    rfl
  simp only [Shares.verdict, Prod.mk.injEq] at hend
  obtain ⟨hshed, hover, hresidual, hnone⟩ := hend
  refine ⟨hshed, hover, hresidual, hnone, fun hcalm => ?_⟩
  have hput : CalmKept u (u.putResult r) := fun hs => ⟨rfl, hs⟩
  have hresult := ((happly.trans hput).trans (.actOnResult _ r first)).trans (.freePl _ r)
  have htail := (State.tailwind_keeps (((u.putResult r).actOnResult r first).freePl r)).calmKept (by decide) (by decide)
  exact (((hresult.trans htail).trans (.plSettle _)) hcalm).1

/-- Settles O17, command by command. -/
theorem regulationSteps : Obligations.RegulationSteps := by
  unfold Obligations.RegulationSteps
  intro s
  exact ⟨feasibilityCheck_completes, fun r => regulationEpoch_applies,
    fun hlive => ⟨_, congrArg Host.Outcome.next (State.whenLive_of_live hlive State.feasTrigger), s.feasTrigger_busy⟩,
    fun hlive => congrArg Host.Outcome.next (State.whenLive_of_live hlive State.clearShr)⟩

end Sys2Proof.Proofs
end

section
/-!
Refresh of a slice (O22): what a refresh makes of its schedule, on its own timeline, and what the rate poll asks for (R173, R212, R214, R215).
-/
namespace Sys2Proof.Machine

/-! ### The schedule of a slice under a refresh (R214, R217, R219) -/

/-- What refresh moves in a schedule: the stall, the lead time, the open rows, and the refreshes owed. -/
def Sched.stall (x : Sched) : Bool × Bool × List (Nat × Nat × Time) × Nat := (x.inRef, x.tLead, x.rows, x.owed)

/-- A command put behind what the retry buffer holds, where it has room (R223). -/
def Sched.push (x : Sched) (k : Cmd) : Sched :=
  if 64 ≤ x.retry.length then x else { x with retry := x.retry ++ [k], peak := BitVec.ofNat 7 (max x.peak.toNat (x.retry.length + 1)) }

theorem State.pushCmd_sched (s : State) (c : Fin 80) (k : Cmd) : (s.pushCmd c k).slices[c].sched = s.slices[c].sched.push k := by
  unfold State.pushCmd Sched.push
  split
  · rfl
  · rw [State.modSched_self]

theorem Sched.push_retry (x : Sched) (k : Cmd) : (x.push k).retry = x.retry ++ (if 64 ≤ x.retry.length then [] else [k]) := by
  unfold Sched.push
  split <;> simp

theorem Sched.push_rows (x : Sched) (k : Cmd) : (x.push k).rows = x.rows := by
  unfold Sched.push
  split <;> rfl

theorem Sched.push_pbDone (x : Sched) (k : Cmd) : (x.push k).pbDone = x.pbDone := by
  unfold Sched.push
  split <;> rfl

theorem Sched.push_owed (x : Sched) (k : Cmd) : (x.push k).owed = x.owed := by
  unfold Sched.push
  split <;> rfl

theorem Sched.settle_rows (x : Sched) : x.settle.rows = x.rows := by
  unfold Sched.settle
  split <;> rfl

theorem Sched.settle_pbDone (x : Sched) : x.settle.pbDone = x.pbDone := by
  unfold Sched.settle
  split <;> rfl

theorem Sched.settle_owed (x : Sched) : x.settle.owed = x.owed := by
  unfold Sched.settle
  split <;> rfl

theorem State.slices_of_keeps {m : Nat} {s t : State} (h : Keeps m s t) (hm : m.testBit Part.slices.idx = false) (c : Fin 80) :
    t.slices[c] = s.slices[c] := by
  rw [show t.slices = s.slices from h.p .slices hm]

theorem State.bumpCh_sched (s : State) (c : Fin 80) (i : Nat) : (s.bumpCh c i).slices[c].sched = s.slices[c].sched := by
  rw [State.bumpCh, State.modSlice_self]

theorem State.clampTiming_stall (s : State) (c : Fin 80) : (s.clampTiming c).slices[c].sched.stall = s.slices[c].sched.stall := by
  unfold State.clampTiming
  split
  · rfl
  extract_lets pl low up stored
  split
  · rfl
  · have hstored : Keeps 0x40 s stored := .foldl .rfl' fun u o => u.store_keeps _ o _
    rw [State.modSched_self, State.slices_of_keeps hstored (by decide)]
    rfl

/-- The RB apply point moves none of it (R219). -/
theorem State.applyRb_stall (s : State) (c : Fin 80) : (s.applyRb c).slices[c].sched.stall = s.slices[c].sched.stall := by
  unfold State.applyRb
  extract_lets timing applied clamped
  have hclamped : clamped.slices[c].sched.stall = s.slices[c].sched.stall := by
    have happlied : applied.slices[c] = s.slices[c] := State.slices_of_keeps (s.applyPoint_keeps _ _) (by decide) c
    unfold clamped
    split
    · rw [State.clampTiming_stall, happlied]
    · rw [happlied]
  split
  next m _ _ =>
    extract_lets fell moved noted
    have hnoted : noted.slices[c].sched.stall = s.slices[c].sched.stall := by
      rw [State.slices_of_keeps (moved.raise_keeps _ _) (by decide), State.modSched_self]
      exact hclamped
    split
    · rw [State.slices_of_keeps noted.feasTrigger_keeps (by decide), hnoted]
    · exact hnoted
  next => exact hclamped

/-- A refresh closes the rows and begins the stall (R214). -/
theorem State.refreshNow_stall (s : State) (c : Fin 80) :
    (s.refreshNow c).slices[c].sched.stall = (true, false, [], s.slices[c].sched.owed - 1) := by
  unfold State.refreshNow
  extract_lets settled queued stalled
  have hsettled : settled.slices[c].sched = s.slices[c].sched.settle := by rw [State.modSlice_self]
  have howed : queued.slices[c].sched.owed = s.slices[c].sched.owed := by
    rw [State.pushCmd_sched, State.pushCmd_sched, Sched.push_owed, Sched.push_owed, hsettled, Sched.settle_owed]
  rw [State.applyRb_stall, State.modSched_self, ← howed]
  rfl

theorem State.forceRefresh_of_owed {s : State} {c : Fin 80} (h : s.slices[c].sched.owed < 8) : s.forceRefresh c = s := if_pos h

/-! ### The boundary of a slice on its own timeline (R214, R217, R218) -/

theorem State.windowOf_of_placeOf {s : State} {c : Fin 80} (h : s.placeOf c = none) : s.windowOf c = none := by
  rw [State.windowOf, h, ite_self]

/-- The refresh that a boundary adds to those owed. -/
def State.oweRefresh (s : State) (c : Fin 80) : State := s.modSched c fun x => { x with owed := min 8 (x.owed + 1), skip := true }

/-- On its own timeline a slice passes no boundary of all-bank refresh. -/
theorem State.atBoundary_of_own {s : State} {c : Fin 80} (hplace : s.placeOf c = none) (hbank : s.slices[c].sched.perBank = false) :
    s.atBoundary c = if s.slices[c].sched.inFlight then
        (s.oweRefresh c).modSched c fun x => { x with tLead := true, stallEnd := s.tb + BitVec.ofNat 64 ((s.oweRefresh c).wMin c) }
      else (s.oweRefresh c).refreshNow c := by
  simp only [State.atBoundary, hbank, State.windowOf_of_placeOf hplace, Option.isSome_none, Bool.false_eq_true, and_false, if_false]
  rfl

theorem State.oweRefresh_wMin (s : State) (c : Fin 80) : (s.oweRefresh c).wMin c = s.wMin c := by
  rw [State.wMin, State.wMin, State.oweRefresh, State.modSched, State.modSlice_self]
  rfl

theorem State.oweRefresh_owed {s : State} {c : Fin 80} (h : s.slices[c].sched.owed < 7) :
    (s.oweRefresh c).slices[c].sched.owed = s.slices[c].sched.owed + 1 := by
  rw [State.oweRefresh, State.modSched_self]
  exact Nat.min_eq_right (Nat.le_of_lt (Nat.add_lt_add_right h 1))

/-- With nothing in flight the boundary's refresh is made at once. -/
theorem State.atBoundary_stall {s : State} {c : Fin 80} (hplace : s.placeOf c = none) (hbank : s.slices[c].sched.perBank = false)
    (howed : s.slices[c].sched.owed < 7) (hidle : s.slices[c].sched.inFlight = false) :
    (s.atBoundary c).slices[c].sched.stall = (true, false, [], s.slices[c].sched.owed) := by
  have hat : s.atBoundary c = (s.oweRefresh c).refreshNow c :=
    (State.atBoundary_of_own hplace hbank).trans (if_neg (by rw [hidle]; exact Bool.false_ne_true))
  rw [hat, State.refreshNow_stall, State.oweRefresh_owed howed, Nat.add_sub_cancel]

/-- With bursts in flight it begins the lead time. -/
theorem State.atBoundary_lead {s : State} {c : Fin 80} (hplace : s.placeOf c = none) (hbank : s.slices[c].sched.perBank = false)
    (howed : s.slices[c].sched.owed < 7) (hflight : s.slices[c].sched.inFlight = true) :
    (s.atBoundary c).slices[c].sched = { s.slices[c].sched with
      owed := s.slices[c].sched.owed + 1, skip := true, tLead := true, stallEnd := s.tb + BitVec.ofNat 64 (s.wMin c) } := by
  rw [State.atBoundary_of_own hplace hbank, if_pos hflight, State.modSched_self, State.oweRefresh_wMin, State.oweRefresh, State.modSched_self,
    Nat.min_eq_right (Nat.le_of_lt (Nat.add_lt_add_right howed 1))]

/-! ### The end of the stall (R213, R214) -/

/-- The stall over, and the token with it. -/
def State.endStall (s : State) (c : Fin 80) : State := (s.modSched c fun x => { x with inRef := false }).releaseToken c

/-- A slice that sleeps in S1 is in power-down again (R218). -/
def State.repower (s : State) (c : Fin 80) : State :=
  if s.pwr.phase == .asleep && s.pwr.asleep == 1 && s.slices[c].power == .active then s.modSlice c fun x => { x with power := .powerDown } else s

theorem State.endStall_sched (s : State) (c : Fin 80) : (s.endStall c).slices[c].sched = { s.slices[c].sched with inRef := false } := by
  rw [State.endStall, State.slices_of_keeps (State.releaseToken_keeps _ _) (by decide), State.modSched_self]

theorem State.endStall_mem (s : State) (c : Fin 80) : (s.endStall c).mem = s.mem := (State.releaseToken_keeps _ c).p .mem (by decide)

theorem State.repower_sched (s : State) (c : Fin 80) : (s.repower c).slices[c].sched = s.slices[c].sched := by
  unfold State.repower
  split
  · rw [State.modSlice_self]
  · rfl

theorem State.repower_keeps (s : State) (c : Fin 80) : Keeps 0x800000 s (s.repower c) := .ite (fun _ => s.modSlice_keeps c _) fun _ => .rfl'

theorem State.windowOf_stallOver (s : State) (c : Fin 80) : (s.modSched c fun x => { x with inRef := false }).windowOf c = s.windowOf c := by
  simp only [State.windowOf, State.placeOf, State.seatOf, State.modSched, State.modSlice_self]
  rfl

theorem State.modLine_self (s : State) (g : Fin 8) (f : Timeline → Timeline) : (s.modLine g f).hubs[g].line = f s.hubs[g].line :=
  congrArg Hub.line (s.modHub_self g _)

theorem State.releaseToken_free {s : State} {c : Fin 80} {g : Fin 8} {m : Fin 9} (h : s.windowOf c = some (g, m)) :
    (s.releaseToken c).hubs[g].line.token ≠ some m := by
  simp only [State.releaseToken, h]
  split
  · rw [State.modLine_self]
    exact nofun
  next hother => exact hother

/-- The member whose window the slice stands in holds the token no more. -/
theorem State.endStall_free {s : State} {c : Fin 80} {g : Fin 8} {m : Fin 9} (h : s.windowOf c = some (g, m)) :
    (s.endStall c).hubs[g].line.token ≠ some m :=
  State.releaseToken_free ((s.windowOf_stallOver c).trans h)

/-! ### The rate poll (R212) -/

/-- The multiplier that a poll calls for. -/
def State.wantedMult (s : State) (c : Fin 80) (worst : DevTemp) : BitVec 2 :=
  BitVec.ofNat 2 (max (tempMult worst).toNat (s.cfgField (pageCh c) 0x048 1 0))

/-- What a poll records, notifies and logs. -/
def State.notePoll (s : State) (c : Fin 80) (worst : DevTemp) (field : BitVec 8) : State :=
  let hot := worst == .aboveLimit
  let t := (s.modSched c fun x => { x with rr := field, hot := hot, hotSeen := x.hotSeen || hot }).raiseIf (hot && !s.slices[c].sched.hot) (pageCh c) 2
  if hot && !s.slices[c].sched.hotSeen then t.logError { cls := clsCe, page := pageCh c, code := 0x0013, detail := field.setWidth 64 } else t

theorem State.notePoll_sched (s : State) (c : Fin 80) (worst : DevTemp) (field : BitVec 8) : (s.notePoll c worst field).slices[c].sched =
    { s.slices[c].sched with rr := field, hot := worst == .aboveLimit, hotSeen := s.slices[c].sched.hotSeen || worst == .aboveLimit } := by
  unfold State.notePoll
  extract_lets hot polled
  have hpolled : polled.slices[c].sched = { s.slices[c].sched with rr := field, hot := hot, hotSeen := s.slices[c].sched.hotSeen || hot } := by
    rw [State.slices_of_keeps (State.raiseIf_keeps ..) (by decide), State.modSched_self]
  split
  · rw [State.slices_of_keeps (State.logError_keeps ..) (by decide), hpolled]
  · exact hpolled

end Sys2Proof.Machine

namespace Sys2Proof.Proofs
open Sys2Proof.Machine

section
variable {c : Fin 80} {s : State}

section
variable (hrefreshes : s.slices[c].refreshes = true) (hreset : s.slices[c].health.cmdReset = false) (hplace : s.placeOf c = none)
  (hstall : s.slices[c].sched.inRef = false) (hbank : s.slices[c].sched.perBank = false) (howed : s.slices[c].sched.owed < 7)
include hrefreshes hreset hplace hstall

/-- A boundary that leaves fewer than 8 refreshes owed forces none (R217). -/
theorem exec_refreshBoundary_of_own (hfew : (s.atBoundary c).slices[c].sched.owed < 8) :
    exec (.refreshBoundary c) s = .next (s.atBoundary c) := by
  have hexec : exec (.refreshBoundary c) s = execRefreshBoundary c s := rfl
  simp only [hexec, execRefreshBoundary, hrefreshes, hreset, hplace, State.ownBoundary, hstall, State.forceRefresh_of_owed hfew,
    Bool.true_eq_false, Bool.false_eq_true, decide_false, Bool.or_false, if_false]

include hbank howed

theorem refreshBoundary_stalls (hidle : s.slices[c].sched.inFlight = false) :
    Completes (.refreshBoundary c) s fun t =>
      t.slices[c].sched.inRef = true ∧ t.slices[c].sched.rows = [] ∧ t.slices[c].sched.owed = s.slices[c].sched.owed := by
  have hstalled := State.atBoundary_stall hplace hbank howed hidle
  simp only [Sched.stall, Prod.mk.injEq] at hstalled
  obtain ⟨href, -, hrows, howes⟩ := hstalled
  exact ⟨_, exec_refreshBoundary_of_own hrefreshes hreset hplace hstall (howes ▸ Nat.lt_succ_of_lt howed), href, hrows, howes⟩

theorem refreshBoundary_leads (hflight : s.slices[c].sched.inFlight = true) :
    Completes (.refreshBoundary c) s fun t => t.slices[c].sched =
      { s.slices[c].sched with owed := s.slices[c].sched.owed + 1, skip := true, tLead := true, stallEnd := s.tb + BitVec.ofNat 64 (s.wMin c) } := by
  have hsched := State.atBoundary_lead hplace hbank howed hflight
  have hfew : (s.atBoundary c).slices[c].sched.owed < 8 := by
    rw [hsched]
    exact Nat.add_lt_add_right howed 1
  exact ⟨_, exec_refreshBoundary_of_own hrefreshes hreset hplace hstall hfew, hsched⟩

end

theorem tleadExpiry_stalls (hlead : s.slices[c].sched.tLead = true) : Completes (.tleadExpiry c) s fun t =>
    t.slices[c].sched.inRef = true ∧ t.slices[c].sched.tLead = false ∧ t.slices[c].sched.rows = [] ∧
      t.slices[c].sched.owed = s.slices[c].sched.owed - 1 := by
  have hstalled : ((s.refreshNow c).bumpCh c 7).slices[c].sched.stall = _ := (congrArg Sched.stall (State.bumpCh_sched ..)).trans (s.refreshNow_stall c)
  simp only [Sched.stall, Prod.mk.injEq] at hstalled
  exact ⟨_, congrArg Host.Outcome.next (if_pos hlead), hstalled⟩

theorem refreshStallEnd_frees (hstall : s.slices[c].sched.inRef = true) : Completes (.refreshStallEnd c) s fun t => ∃ u : State,
    t = u.kick u.slices[c].health.grp ∧ u.slices[c].sched.inRef = false ∧ u.slices[c].sched.wq = s.slices[c].sched.wq ∧ u.mem = s.mem ∧
      ∀ g : Fin 8, ∀ m, s.windowOf c = some (g, m) → u.hubs[g].line.token ≠ some m := by
  have hsched : ((s.endStall c).repower c).slices[c].sched = { s.slices[c].sched with inRef := false } :=
    (State.repower_sched ..).trans (s.endStall_sched c)
  have hhubs : ((s.endStall c).repower c).hubs = (s.endStall c).hubs := (State.repower_keeps ..).p .hubs (by decide)
  refine ⟨_, congrArg Host.Outcome.next (if_neg (by rw [hstall]; decide)), (s.endStall c).repower c, rfl, by rw [hsched],
    by rw [hsched], ((State.repower_keeps ..).p .mem (by decide)).trans (s.endStall_mem c), fun g m hwindow => ?_⟩
  rw [hhubs]
  exact State.endStall_free hwindow

theorem perBankRefresh_refreshes (hrefreshes : s.slices[c].refreshes = true) (hbank : s.slices[c].sched.perBank = true)
    (hquota : s.slices[c].sched.pbDone < s.perBankQuota c) :
    Completes (.perBankRefresh c) s fun t => t.slices[c].sched.pbDone = s.slices[c].sched.pbDone + 1 ∧ t.mem = s.mem ∧
      t.slices[c].sched.rows = s.slices[c].sched.rows.filter (fun r => r.1 % 8 != s.slices[c].sched.pbDone % 8) ∧
      t.slices[c].sched.retry = s.slices[c].sched.settle.retry ++
        (if 64 ≤ s.slices[c].sched.settle.retry.length then [] else [.refPb (s.slices[c].sched.pbDone % 8)]) := by
  have hpushed : ((s.modSched c Sched.settle).pushCmd c (.refPb (s.slices[c].sched.pbDone % 8))).slices[c].sched =
      s.slices[c].sched.settle.push (.refPb (s.slices[c].sched.pbDone % 8)) := by
    rw [State.pushCmd_sched, State.modSched_self]
  refine ⟨_, congrArg Host.Outcome.next (if_neg (by simp [-Fin.getElem_fin, hrefreshes, hbank, hquota])), ?_, ?_, ?_, ?_⟩
  · rw [State.modSched_self, hpushed]
    exact congrArg (· + 1) ((Sched.push_pbDone ..).trans (Sched.settle_pbDone _))
  · exact (State.pushCmd_keeps ..).p .mem (by decide)
  · rw [State.modSched_self, hpushed]
    exact congrArg (List.filter _) ((Sched.push_rows ..).trans (Sched.settle_rows _))
  · rw [State.modSched_self, hpushed]
    exact Sched.push_retry ..

section
variable {worst : DevTemp} {field : BitVec 8} (hrefreshes : s.slices[c].refreshes = true)
include hrefreshes

theorem exec_refreshRatePoll : exec (.refreshRatePoll c worst field) s = .next (
    if s.wantedMult c worst = s.slices[c].sched.mult then (s.notePoll c worst field).modSched c fun x => { x with nextMult := none, multOk := false }
    else if s.slices[c].sched.nextMult = some (s.wantedMult c worst) then s.notePoll c worst field
    else if (s.wantedMult c worst).toNat < s.slices[c].sched.mult.toNat then
      (s.notePoll c worst field).modSched c fun x => { x with nextMult := some (s.wantedMult c worst), multOk := true }
    else ((s.notePoll c worst field).modSched c fun x => { x with nextMult := some (s.wantedMult c worst), multOk := false }).feasTrigger) :=
  congrArg Host.Outcome.next (if_neg (by rw [hrefreshes]; decide))

theorem refreshRatePoll_withdraws (hwant : s.wantedMult c worst = s.slices[c].sched.mult) :
    Completes (.refreshRatePoll c worst field) s fun t => t.slices[c].sched.rr = field ∧ t.slices[c].sched.hot = (worst == .aboveLimit) ∧
      t.slices[c].sched.nextMult = none ∧ t.slices[c].sched.mult = s.slices[c].sched.mult := by
  refine ⟨_, (exec_refreshRatePoll hrefreshes).trans (congrArg Host.Outcome.next (if_pos hwant)), ?_⟩
  beta_reduce
  rw [State.modSched_self, State.notePoll_sched]
  exact ⟨rfl, rfl, rfl, rfl⟩

theorem refreshRatePoll_asks (hmore : s.slices[c].sched.mult.toNat < (s.wantedMult c worst).toNat)
    (hnew : s.slices[c].sched.nextMult ≠ some (s.wantedMult c worst)) :
    Completes (.refreshRatePoll c worst field) s fun t => t.slices[c].sched.rr = field ∧ t.slices[c].sched.nextMult = some (s.wantedMult c worst) ∧
      t.slices[c].sched.multOk = false ∧ t.slices[c].sched.mult = s.slices[c].sched.mult ∧ t.shr.busy = true := by
  have hne : s.wantedMult c worst ≠ s.slices[c].sched.mult := fun h => absurd hmore (by rw [h]; exact Nat.lt_irrefl _)
  have hexec := exec_refreshRatePoll (worst := worst) (field := field) hrefreshes
  rw [if_neg hne, if_neg hnew, if_neg (Nat.lt_asymm hmore)] at hexec
  refine ⟨_, hexec, ?_⟩
  beta_reduce
  rw [State.slices_of_keeps (State.feasTrigger_keeps _) (by decide), State.modSched_self, State.notePoll_sched]
  exact ⟨rfl, rfl, rfl, rfl, (State.feasTrigger_busy _).1⟩

end

end

/-- Settles O22, command by command. -/
theorem refreshSteps : Obligations.RefreshSteps := by
  unfold Obligations.RefreshSteps
  intro c worst field s
  exact ⟨fun hrefreshes hreset hplace hstall hbank howed => ⟨refreshBoundary_stalls hrefreshes hreset hplace hstall hbank howed,
      refreshBoundary_leads hrefreshes hreset hplace hstall hbank howed⟩,
    tleadExpiry_stalls, refreshStallEnd_frees, perBankRefresh_refreshes,
    fun hrefreshes => ⟨refreshRatePoll_withdraws hrefreshes, fun want hwant hmore hnew => by
      subst hwant
      exact refreshRatePoll_asks hrefreshes hmore hnew⟩⟩

end Sys2Proof.Proofs
end

section
/-!
Relayouts (O29): what the start, a stripe and the end of one make of the spares and of the slices (R173, R256, R257, R263, R264, R278).
-/
namespace Sys2Proof.Machine

/-! ### The start (R256, R263) -/

/-- The state of a member under a relayout of a kind. -/
def RlyKind.memberSt : RlyKind → MemSt
  | .rebuild => .rebuilding
  | .resync => .resync
  | .evacuate => .evacuating
  | .return_ => .returning

/-- The slice that serves a member under a relayout, when `now` serves it before. -/
def Relayout.serving (r : Relayout) (now : Fin 80) : Fin 80 :=
  match r.kind with
  | .rebuild | .resync => r.dst
  | _ => now

/-- The slice that a relayout moves a member from. -/
def Relayout.leaves (r : Relayout) (now : Fin 80) : Option (Fin 80) :=
  match r.kind with
  | .evacuate | .return_ => some now
  | _ => none

/-- A relayout as it begins. -/
def Relayout.begun (r : Relayout) (now : Fin 80) (lost : Bool) : Relayout :=
  { r with src := r.leaves now, bound := 0, running := true, suspended := false, done := [], full := r.kind == .resync && lost }

/-- A relayout taken from the queue, with its member in the state for it. -/
def State.enterRly (s : State) (g : Fin 8) (r : Relayout) : State :=
  (({ s with spr := { s.spr with queue := s.spr.queue.filter fun q => q != (g, r) } }).setRly g
    (some (r.begun (s.member g r.mem).slice s.hubs[g].staleLost))).setMember g r.mem
    { st := r.kind.memberSt, slice := r.serving (s.member g r.mem).slice, retrain := false }

/-- The new slice made ready: it rejoins, or waits for the group's next cycle (R218, R249). -/
def State.readyDst (s : State) (r : Relayout) : State :=
  (if r.kind = .resync then (s.setFence r.dst false).rejoinPl r.dst else s.modSched r.dst fun x => { x with nextCyc := true }).modHealth r.dst
    fun h => { h with errLevel := 0, inService := true }

theorem State.beginRly_eq (s : State) (g : Fin 8) (r : Relayout) : s.beginRly g r =
    (((((s.enterRly g r).readyDst r).stageRoute g r.mem { slice := r.dst, absent := false }).checkpoint g 0).followMembers).detectCut (1#8 <<< g.val) := by
  obtain ⟨kind, mem, dst, src, bound, running, suspended, done, full, order⟩ := r
  cases kind <;> rfl

theorem State.readyDst_keeps (s : State) (r : Relayout) : Keeps 0xa000c0 s (s.readyDst r) := by
  unfold State.readyDst
  refine (State.modHealth_keeps ..).on (.ite (fun _ => ?_) fun _ => (State.modSched_keeps ..).mono (by decide)) (by decide)
  exact (State.rejoinPl_keeps ..).on ((State.setFence_keeps ..).mono (by decide)) (by decide)

/-- What follows the swap at the start: the mode, and the check that the cut of bandwidth asks for. -/
theorem State.afterStage_keeps (s : State) (hubs : BitVec 8) : Keeps 0x410210 s (s.followMembers.detectCut hubs) :=
  (State.detectCut_keeps ..).on (s.followMembers_keeps.mono (by decide)) (by decide)

theorem State.beginRly_spr (s : State) (g : Fin 8) (r : Relayout) : (s.beginRly g r).spr = (s.enterRly g r).spr := by
  rw [State.beginRly_eq]
  have hready : ((s.enterRly g r).readyDst r).spr = (s.enterRly g r).spr := (State.readyDst_keeps ..).p .spr (by decide)
  exact ((State.afterStage_keeps _ _).p .spr (by decide)).trans hready

theorem State.beginRly_nextTable (s : State) (g : Fin 8) (r : Relayout) :
    (s.beginRly g r).hubs[g].nextTable[r.mem] = { slice := r.dst, absent := false } := by
  rw [State.beginRly_eq]
  generalize (s.enterRly g r).readyDst r = u
  have hhubs : (((u.stageRoute g r.mem { slice := r.dst, absent := false }).checkpoint g 0).followMembers.detectCut (1#8 <<< g.val)).hubs =
      (u.stageRoute g r.mem { slice := r.dst, absent := false }).hubs := (State.afterStage_keeps _ _).p .hubs (by decide)
  rw [hhubs, State.stageRoute, State.modHub_self, Hub.nextTable]
  simp

theorem State.setRly_self (s : State) (g : Fin 8) (r : Option Relayout) : (s.setRly g r).spr.rly[g] = r := by simp [State.setRly]

theorem State.setMember_self (s : State) (g : Fin 8) (m : Fin 9) (x : Member) : (s.setMember g m x).member g m = x := by
  simp [State.setMember, State.member]

theorem State.member_congr {s t : State} (h : t.spr = s.spr) (g : Fin 8) (m : Fin 9) : t.member g m = s.member g m := by
  rw [State.member, State.member, h]

/-! ### The boundary and its window (R264) -/

theorem State.rly_of_rlyWorks {s : State} {g : Fin 8} {r : Relayout} (h : s.rlyWorks g = some r) : s.spr.rly[g] = some r := by
  unfold State.rlyWorks at h
  split at h
  next r' hr =>
    split_ifs at h
    rw [hr, h]
  next => exact absurd h nofun

section
variable {s : State} {g : Fin 8} {r : Relayout}

/-- With no void chunk, and none that a resynchronisation need not copy, no stripe is passed. -/
theorem State.passFrom_of_plain (hvoids : s.hubs[g].voids = []) (hfull : r.kind = .resync → r.full = true) {b : Nat} (hb : b ≤ s.groupStripes) :
    s.passFrom g r b = b := by
  have hcopied : ¬(r.kind = .resync ∧ r.full = false ∧ s.isStale g b = false) := fun ⟨hkind, hpart, _⟩ => by simp [hfull hkind] at hpart
  have hto : s.passTo g r (s.hubs[g].voids.length + s.hubs[g].stale.length + 1) b = b := by
    rcases hb.lt_or_eq with hlt | heq
    · rw [State.passTo, if_neg (Nat.not_le.2 hlt), hvoids]
      exact if_neg hcopied
    · rw [State.passTo, if_pos heq.ge, heq]
  rw [State.passFrom, hto, Nat.min_eq_right hb]

/-- BOUND set where it stands, with no stripe retired, changes nothing. -/
theorem State.advanceTo_bound (hr : s.spr.rly[g] = some r) (hdone : r.done = []) : s.advanceTo g r r.bound = s := by
  have hsame : ({ r with bound := r.bound, done := r.done.filter fun k => decide (r.bound ≤ k) } : Relayout) = r := by
    rw [hdone, List.filter_nil, ← hdone]
  have hset : s.setRly g (some r) = s := by
    rw [State.setRly, ← hr]
    simp
  simp only [State.advanceTo, hsame, hset, if_true]

/-- Where no stripe has retired BOUND stays. -/
theorem State.settleBound_of_none (hr : s.spr.rly[g] = some r) (hvoids : s.hubs[g].voids = []) (hfull : r.kind = .resync → r.full = true)
    (hbound : r.bound ≤ s.groupStripes) (hdone : r.done = []) (fuel : Nat) : s.settleBound g (fuel + 1) = s := by
  simp only [State.settleBound, hr, State.passFrom_of_plain hvoids hfull hbound, hdone, List.contains_nil, Bool.false_eq_true, if_false]
  exact State.advanceTo_bound hr hdone

theorem State.advanceTo_rly (hdone : r.done = [r.bound]) :
    (s.advanceTo g r (r.bound + 1)).spr.rly[g] = some { r with bound := r.bound + 1, done := [] } := by
  have hspr : (s.advanceTo g r (r.bound + 1)).spr = (s.setRly g (some { r with bound := r.bound + 1, done := [] })).spr := by
    have hfilter : (r.done.filter fun k => decide (r.bound + 1 ≤ k)) = [] := by simp [hdone]
    simp only [State.advanceTo, hfilter]
    split <;> rfl
  rw [hspr, State.setRly_self]

theorem State.advanceTo_groupStripes (b : Nat) : (s.advanceTo g r b).groupStripes = s.groupStripes := by
  unfold State.advanceTo
  split <;> rfl

/-- BOUND moves past the stripe that has retired. -/
theorem State.settleBound_of_next (hr : s.spr.rly[g] = some r) (hvoids : s.hubs[g].voids = []) (hfull : r.kind = .resync → r.full = true)
    (hbound : r.bound < s.groupStripes) (hdone : r.done = [r.bound]) (fuel : Nat) :
    s.settleBound g (fuel + 2) = s.advanceTo g r (r.bound + 1) := by
  have hpast : s.settleBound g (fuel + 2) = (s.advanceTo g r (r.bound + 1)).settleBound g (fuel + 1) := by
    rw [State.settleBound]
    simp only [hr, State.passFrom_of_plain hvoids hfull hbound.le, hdone, List.contains_cons, BEq.rfl, Bool.true_or, if_true]
  have hnext : (s.advanceTo g r (r.bound + 1)).spr.rly[g] = some { r with bound := r.bound + 1, done := [] } := State.advanceTo_rly hdone
  have hkept := s.advanceTo_keeps g r (r.bound + 1)
  have hhubs : (s.advanceTo g r (r.bound + 1)).hubs = s.hubs := hkept.p .hubs (by decide)
  rw [hpast]
  exact State.settleBound_of_none hnext (by rw [hhubs, hvoids]) hfull (by rw [State.advanceTo_groupStripes]; exact hbound) rfl fuel

/-- The next stripe enters an empty window. -/
theorem State.openWindow_of_empty (hworks : s.rlyWorks g = some r) (hvoids : s.hubs[g].voids = []) (hfull : r.kind = .resync → r.full = true)
    (hbound : r.bound < s.groupStripes) (hdone : r.done = []) (hempty : s.windowStripes g = []) : s.openWindow g = s.askCopy g r.bound := by
  have hnext : s.nextStripe g r [] 17 r.bound = r.bound := by
    simp only [State.nextStripe, State.passFrom_of_plain hvoids hfull hbound.le, List.contains_nil, Bool.false_eq_true, if_false]
  simp only [State.openWindow, hworks, hdone, hempty, List.append_nil, hnext]
  exact if_neg (by simp [hbound])

end

theorem State.askCopy_windowStripes (s : State) (g : Fin 8) (stripe : Nat) :
    (s.askCopy g stripe).windowStripes g = s.windowStripes g ++ [stripe] := by
  simp [State.windowStripes, State.askCopy, newReq]

/-! ### The end (R256, R269, R270) -/

/-- What the spares hold of members and relayouts, and how many of these have ended. -/
def Spares.life (x : Spares) : Vector (Vector Member 9) 8 × Vector (Option Relayout) 8 × Reg := (x.members, x.rly, x.doneCnt)

/-- No slice has errors counted against it or a failed margin. -/
def State.fit (s : State) : Prop := ∀ c : Fin 80, s.slices[c].health.errLevel = 0 ∧ s.slices[c].train.marginFail = false

theorem State.fit_congr {s t : State} (h : t.slices = s.slices) (hs : s.fit) : t.fit := by
  rw [State.fit, h]
  exact hs

/-- A change of a slice that counts no error and fails no margin. -/
theorem State.modSlice_fit {s : State} (h : s.fit) (c : Fin 80) {f : Slice → Slice}
    (hlevel : ∀ x, x.health.errLevel = 0 → (f x).health.errLevel = 0) (hmargin : ∀ x, (f x).train = x.train) : (s.modSlice c f).fit := fun e => by
  rw [State.modSlice_getElem]
  split
  · exact ⟨hlevel _ (h c).1, by rw [hmargin]; exact (h c).2⟩
  · exact h e

theorem State.modHealth_fit {s : State} (h : s.fit) (c : Fin 80) {f : Health → Health}
    (hlevel : ∀ x, x.errLevel = 0 → (f x).errLevel = 0 := by exact fun _ h => h) : (s.modHealth c f).fit :=
  State.modSlice_fit h c (fun x => hlevel x.health) fun _ => rfl

/-- Where slice `d` is no free spare and every slice is fit: the members and relayouts stand as they were, `d` keeps its place, and every
slice is fit still. -/
def KeptAt (d : Fin 80) (s t : State) : Prop :=
  s.role d ≠ roleSpareFree → s.fit → t.spr.life = s.spr.life ∧ t.slices[d].health = s.slices[d].health ∧ t.fit

section
variable {d : Fin 80} {s t u : State}

theorem KeptAt.refl (d : Fin 80) (s : State) : KeptAt d s s := fun _ h => ⟨rfl, rfl, h⟩

theorem KeptAt.trans (h : KeptAt d s t) (h' : KeptAt d t u) : KeptAt d s u := fun hrole hfit => by
  obtain ⟨hlife, hhealth, hfit'⟩ := h hrole hfit
  obtain ⟨hlife', hhealth', hfit''⟩ := h' (by rw [State.role, hhealth]; exact hrole) hfit'
  exact ⟨hlife'.trans hlife, hhealth'.trans hhealth, hfit''⟩

theorem KeptAt.ite {p : Prop} [Decidable p] (h : p → KeptAt d s t) (h' : ¬p → KeptAt d s u) : KeptAt d s (if p then t else u) := by
  split
  · exact h ‹_›
  · exact h' ‹_›

theorem KeptAt.foldl {α : Type} {l : List α} {f : State → α → State} (hf : ∀ s a, KeptAt d s (f s a)) (s : State) : KeptAt d s (l.foldl f s) := by
  induction l generalizing s with
  | nil => exact .refl d s
  | cons a l ih => exact (hf s a).trans (ih _)

theorem Keeps.keptAt {m : Nat} (h : Keeps m s t) (hspr : m.testBit Part.spr.idx = false) (hslices : m.testBit Part.slices.idx = false) :
    KeptAt d s t := fun _ hfit =>
  ⟨congrArg Spares.life (h.p .spr hspr), by rw [State.slices_of_keeps h hslices], State.fit_congr (h.p .slices hslices) hfit⟩

theorem KeptAt.ofSpr (s : State) {x : Spares} (h : x.life = s.spr.life := by exact rfl) : KeptAt d s { s with spr := x } := fun _ hfit => ⟨h, rfl, hfit⟩

/-- A change of a slice that counts no error: of its health only where it is another slice. -/
theorem KeptAt.modSlice (s : State) (c : Fin 80) {f : Slice → Slice} (hhealth : d ≠ c ∨ (f s.slices[c]).health = s.slices[c].health)
    (hlevel : ∀ x, x.health.errLevel = 0 → (f x).health.errLevel = 0 := by exact fun _ h => h)
    (hmargin : ∀ x, (f x).train = x.train := by exact fun _ => rfl) : KeptAt d s (s.modSlice c f) := fun _ hfit => by
  refine ⟨rfl, ?_, State.modSlice_fit hfit c hlevel hmargin⟩
  rw [State.modSlice_getElem]
  split
  next h => rw [hhealth.resolve_left (fun hne => hne h), h]
  next => rfl

theorem KeptAt.modSched (s : State) (c : Fin 80) (f : Sched → Sched) : KeptAt d s (s.modSched c f) := .modSlice s c (.inr rfl)

theorem KeptAt.ownLine (s : State) (c : Fin 80) : KeptAt d s (s.ownLine c) := .modSched s c _

theorem KeptAt.modHealth (s : State) {c : Fin 80} (h : d ≠ c) {f : Health → Health}
    (hlevel : ∀ x, x.errLevel = 0 → (f x).errLevel = 0 := by exact fun _ h => h) : KeptAt d s (s.modHealth c f) :=
  .modSlice s c (.inl h) fun x => hlevel x.health

/-! ### Free spares given out (R262) -/

theorem State.chooseSpare_free {s : State} {g : Fin 8} {m : Fin 9} {c : Fin 80} (h : s.chooseSpare g m = some c) : s.role c = roleSpareFree := by
  have hfree {c : Fin 80} (hc : c ∈ s.freeSpares) : s.role c = roleSpareFree := by
    simpa using (List.mem_filter.1 hc).2
  unfold State.chooseSpare at h
  extract_lets free at h
  split at h
  next hhome =>
    obtain rfl := Option.some.inj h
    exact hfree (by simpa using (Bool.and_eq_true_iff.1 hhome).2)
  split at h
  · have hnear : ∀ b, free.foldl (fun best c => match best with
        | none => some c
        | some b => if ringHops g c < ringHops g b then some c else some b) none = some b → b ∈ free := by
      refine List.foldlRecOn (motive := fun best => ∀ b, best = some b → b ∈ free) free _ nofun fun best hbest c hc b hb => ?_
      split at hb
      · exact Option.some.inj hb ▸ hc
      · split at hb
        · exact Option.some.inj hb ▸ hc
        · exact hbest b hb
    exact hfree (hnear c h)
  · exact hfree (List.mem_of_mem_head? h)

theorem KeptAt.noteSpareCount (s : State) : KeptAt d s s.noteSpareCount := by
  unfold State.noteSpareCount
  extract_lets low
  exact KeptAt.trans (.ofSpr s) ((State.raiseIf_keeps ..).keptAt (by decide) (by decide))

theorem KeptAt.grantSpare (s : State) (g : Fin 8) (m : Fin 9) (evac : Bool) {c : Fin 80} (h : d ≠ c) : KeptAt d s (s.grantSpare g m evac c) := by
  unfold State.grantSpare
  extract_lets granted src queued
  have hgranted : KeptAt d s granted := .modHealth s h fun _ _ => rfl
  have hqueued : KeptAt d granted queued := .ofSpr granted
  exact (hgranted.trans hqueued).trans (.noteSpareCount queued)

/-- A spare that is given out was free. -/
theorem KeptAt.serveRequests (s : State) : KeptAt d s s.serveRequests := by
  unfold State.serveRequests
  refine .foldl (fun s r => .ite (fun _ => ?_) fun _ => .refl d s) s
  split
  next c hc =>
    intro hrole
    have hne : d ≠ c := fun h => hrole (h ▸ State.chooseSpare_free hc)
    exact KeptAt.trans (t := { s with spr := { s.spr with requests := s.spr.requests.erase r } }) (.ofSpr s) (.grantSpare _ _ _ _ hne) hrole
  next => exact .refl d s

theorem KeptAt.freeSlice (s : State) {c : Fin 80} (h : d ≠ c) : KeptAt d s (s.freeSlice c) := by
  unfold State.freeSlice
  extract_lets freed
  have hfreed : KeptAt d s freed := .modHealth s h
  exact (hfreed.trans (.ofSpr freed)).trans (.serveRequests _)

end

/-! ### Fit slices (R259, R245) -/

theorem State.actOnLevel_of_fit {s : State} (h : s.fit) (c : Fin 80) : s.actOnLevel c = s := by
  have hlow : ¬max 1 (s.cfgField (pageCh c) 0x0C0 23 16) ≤ s.slices[c].health.errLevel := by
    rw [(h c).1]
    exact Nat.not_le.2 (Nat.lt_of_lt_of_le Nat.zero_lt_one (Nat.le_max_left ..))
  have hcalm (g : Fin 8) (m : Fin 9) : s.evacDue g m c = false := by
    simp only [State.evacDue, (h c).1, Nat.le_zero]
    by_cases hevac : s.cfgField (pageCh c) 0x0C0 31 24 = 0 <;> simp [hevac]
  unfold State.actOnLevel
  extract_lets x lim
  split
  · rw [if_neg hlow, hcalm]
    simp
  · exact if_neg hlow

theorem State.recheckLevels_of_fit {s : State} (h : s.fit) (g : Fin 8) : s.recheckLevels g = s :=
  List.foldlRecOn (motive := (· = s)) _ _ rfl fun t ht m _ => by rw [ht, State.actOnLevel_of_fit h]

theorem State.retryMargin_of_fit {s : State} (h : s.fit) (c : Fin 80) : s.retryMargin c = s := by
  unfold State.retryMargin
  extract_lets x
  have hmargin : x.train.marginFail = false := (h c).2
  split
  · rw [hmargin]
    rfl
  · rfl

theorem State.retryMargins_of_fit {s : State} (h : s.fit) (g : Fin 8) :
    allMembers.foldl (fun (s : State) (m : Fin 9) => s.retryMargin (s.member g m).slice) s = s :=
  List.foldlRecOn (motive := (· = s)) _ _ rfl fun t ht m _ => by rw [ht, State.retryMargin_of_fit h]

/-! ### What is left of a relayout that has ended -/

/-- The member HEALTHY on its new slice, with the swap to that staged. -/
def State.assignMember (s : State) (g : Fin 8) (r : Relayout) : State :=
  ((((s.setRly g none).setMember g r.mem { st := .healthy, slice := r.dst, retrain := false }).endLosses g r.mem).stageRoute g r.mem
    { slice := r.dst, absent := false }).checkpoint g 0

/-- The slice then has the role for the member. -/
def State.settleMember (s : State) (g : Fin 8) (r : Relayout) : State :=
  (s.assignMember g r).modHealth r.dst
    fun h => { h with role := if r.dst = homeSlice g r.mem then roleHome else roleAttached, grp := g, mem := some r.mem }

/-- The slice that an evacuation or a return has moved the member from (R269, R270). -/
def State.leaveSrc (s : State) (r : Relayout) : State :=
  match r.kind, r.src with
  | .evacuate, some c => ((s.setFence c true).modHealth c fun h => { h with role := roleQuarantine, mem := none, tested := false, retrained := false }).ownLine c
  | .return_, some c => (s.ownLine c).freeSlice c
  | _, _ => s

/-- After a resynchronisation no region is stale. -/
def State.dropStale (s : State) (g : Fin 8) (r : Relayout) : State :=
  if r.kind = .resync then s.modHub g fun h => { h with stale := [], staleLost := false } else s

/-- A relayout that has ended, counted. -/
def State.countDone (s : State) : State := { s with spr := { s.spr with doneCnt := satInc s.spr.doneCnt } }

/-- A relayout that has ended, notified: the mode follows, and a check is asked for. -/
def State.noteDone (s : State) : State := ((s.raise pageSpr 1).followMembers).feasTrigger

theorem State.completeRly_eq (s : State) (g : Fin 8) (r : Relayout) : s.completeRly g r =
    allMembers.foldl (fun (s : State) (m : Fin 9) => s.retryMargin (s.member g m).slice)
      ((((((s.settleMember g r).leaveSrc r).dropStale g r).countDone).noteDone).recheckLevels g) := rfl

section
variable {s : State} {g : Fin 8} {r : Relayout}

/-- Beside the member and the relayout the spares are as they were. -/
theorem State.assignMember_keeps (s : State) (g : Fin 8) (r : Relayout) :
    Keeps 0x2100000 ((s.setRly g none).setMember g r.mem { st := .healthy, slice := r.dst, retrain := false }) (s.assignMember g r) :=
  (State.checkpoint_keeps ..).on ((State.stageRoute_keeps ..).on ((State.endLosses_keeps ..).mono (by decide)) (by decide)) (by decide)

theorem State.assignMember_slices : (s.assignMember g r).slices = s.slices :=
  ((s.assignMember_keeps g r).p .slices (by decide)).trans ((State.setMember_keeps ..).p .slices (by decide))

theorem State.settleMember_spr : (s.settleMember g r).spr =
    ((s.setRly g none).setMember g r.mem { st := .healthy, slice := r.dst, retrain := false }).spr :=
  (s.assignMember_keeps g r).p .spr (by decide)

theorem State.settleMember_health : (s.settleMember g r).slices[r.dst].health =
    { s.slices[r.dst].health with role := if r.dst = homeSlice g r.mem then roleHome else roleAttached, grp := g, mem := some r.mem } := by
  rw [State.settleMember, State.modHealth_self, State.assignMember_slices]

theorem State.settleMember_role : (s.settleMember g r).role r.dst ≠ roleSpareFree := by
  rw [State.role, State.settleMember_health]
  dsimp only
  split <;> decide

theorem State.settleMember_fit (h : s.fit) : (s.settleMember g r).fit :=
  State.modHealth_fit (State.fit_congr State.assignMember_slices h) r.dst

theorem KeptAt.leaveSrc (s : State) (h : r.src ≠ some r.dst) : KeptAt r.dst s (s.leaveSrc r) := by
  unfold State.leaveSrc
  split
  next c _ hsrc =>
    have hne : r.dst ≠ c := fun hc => h (hc ▸ hsrc)
    have hfenced : KeptAt r.dst s (s.setFence c true) := (State.setFence_keeps ..).keptAt (by decide) (by decide)
    exact hfenced.trans (KeptAt.trans (.modHealth _ hne) (.ownLine _ c))
  next c _ hsrc =>
    have hne : r.dst ≠ c := fun hc => h (hc ▸ hsrc)
    exact KeptAt.trans (.ownLine s c) (.freeSlice _ hne)
  next => exact .refl _ s

theorem KeptAt.dropStale (d : Fin 80) (s : State) (g : Fin 8) (r : Relayout) : KeptAt d s (s.dropStale g r) :=
  .ite (fun _ => (State.modHub_keeps ..).keptAt (by decide) (by decide)) fun _ => .refl d s

theorem State.noteDone_keeps (s : State) : Keeps 0x400210 s s.noteDone :=
  (State.feasTrigger_keeps _).on ((State.followMembers_keeps _).on ((State.raise_keeps ..).mono (by decide)) (by decide)) (by decide)

/-- With every slice fit no member is taken out or evacuated at the end, and what has been settled stands. -/
theorem State.completeRly_of_fit (hfit : s.fit) (hsrc : r.src ≠ some r.dst) :
    (s.completeRly g r).spr.rly[g] = none ∧ (s.completeRly g r).member g r.mem = { st := .healthy, slice := r.dst, retrain := false } ∧
      (s.completeRly g r).slices[r.dst].health = (s.settleMember g r).slices[r.dst].health ∧
      (s.completeRly g r).spr.doneCnt = satInc s.spr.doneCnt := by
  have hleft : KeptAt r.dst (s.settleMember g r) (((s.settleMember g r).leaveSrc r).dropStale g r) :=
    (KeptAt.leaveSrc _ hsrc).trans (.dropStale _ _ g r)
  obtain ⟨hlife, hhealth, hfitLeft⟩ := hleft State.settleMember_role (State.settleMember_fit hfit)
  rw [State.completeRly_eq]
  generalize ((s.settleMember g r).leaveSrc r).dropStale g r = u at hlife hhealth hfitLeft
  have hspr : u.countDone.noteDone.spr = u.countDone.spr := u.countDone.noteDone_keeps.p .spr (by decide)
  have hslices (c : Fin 80) : u.countDone.noteDone.slices[c] = u.slices[c] := State.slices_of_keeps u.countDone.noteDone_keeps (by decide) c
  have hdone : u.countDone.noteDone.fit := State.fit_congr (u.countDone.noteDone_keeps.p .slices (by decide)) hfitLeft
  rw [State.recheckLevels_of_fit hdone, State.retryMargins_of_fit hdone]
  simp only [Spares.life, Prod.mk.injEq] at hlife
  obtain ⟨hmembers, hrly, hcount⟩ := hlife
  rw [State.settleMember_spr] at hmembers hrly hcount
  refine ⟨?_, ?_, by rw [hslices, hhealth], ?_⟩
  · rw [hspr, State.countDone]
    dsimp only
    rw [hrly]
    exact s.setRly_self g none
  · rw [State.member, hspr, State.countDone]
    dsimp only
    rw [hmembers]
    exact State.setMember_self (s.setRly g none) g r.mem _
  · rw [hspr, State.countDone]
    dsimp only
    rw [hcount]
    rfl

end

/-! ### Keep copies mended (R278) -/

theorem State.modSched_health (s : State) (c d : Fin 80) (f : Sched → Sched) : (s.modSched c f).slices[d].health = s.slices[d].health := by
  rw [State.modSched, State.modSlice_getElem]
  split
  next h => rw [h]
  next => rfl

theorem State.wordsLaid_health (s : State) (g : Fin 8) (x : Laid) (covers : Nat → Bool) (strip : Nat → Fin 9 → Line) (d : Fin 80) :
    (s.wordsLaid g x covers strip).slices[d].health = s.slices[d].health := by
  unfold State.wordsLaid
  refine List.foldlRecOn (motive := fun (t : State) => t.slices[d].health = s.slices[d].health) _ _ rfl fun t ht k _ => ?_
  exact (t.modSched_health _ d _).trans ht

theorem State.health_of_keeps {m : Nat} {s t : State} (h : Keeps m s t) (hm : m.testBit Part.slices.idx = false) (d : Fin 80) :
    t.slices[d].health = s.slices[d].health := by rw [State.slices_of_keeps h hm]

theorem State.layMap_health (s : State) (g : Fin 8) (d : Fin 80) : (s.layMap g).slices[d].health = s.slices[d].health :=
  State.wordsLaid_health ..

theorem State.fillChunks_health (s : State) (g : Fin 8) (l : List (Nat × Nat)) (d : Fin 80) :
    (s.fillChunks g l).slices[d].health = s.slices[d].health := by
  unfold State.fillChunks
  extract_lets v
  split
  · rfl
  · exact (State.health_of_keeps (State.noteZeroed_keeps ..) (by decide) d).trans (State.layMap_health ..)

theorem State.layCopy_health (s : State) (b : Bool) (k : KeepCopy) (d : Fin 80) : (s.layCopy b k).slices[d].health = s.slices[d].health := by
  have hset : Keeps 0x100c0000000 s ((s.clearLaid k.at_ k.covers).setCopy b k) :=
    (State.setCopy_keeps ..).on ((State.clearLaid_keeps ..).mono (by decide)) (by decide)
  calc (s.layCopy b k).slices[d].health = _ := State.health_of_keeps (State.countLaid_keeps ..) (by decide) d
    _ = _ := State.fillChunks_health ..
    _ = _ := State.wordsLaid_health ..
    _ = s.slices[d].health := State.health_of_keeps hset (by decide) d

theorem State.mendCopy_health (s : State) (g : Fin 8) (m : Fin 9) (b : Bool) (d : Fin 80) :
    (s.mendCopy g m b).slices[d].health = s.slices[d].health := by
  unfold State.mendCopy
  split
  · rfl
  split
  · rfl
  split
  · rfl
  · exact State.layCopy_health ..

theorem State.mendKeep_health (s : State) (g : Fin 8) (r : Relayout) (d : Fin 80) : (s.mendKeep g r).slices[d].health = s.slices[d].health := by
  unfold State.mendKeep
  split
  · exact (State.mendCopy_health ..).trans (State.mendCopy_health ..)
  · rfl

/-- Without a copy there is none to mend. -/
theorem State.mendKeep_of_none {s : State} (ha : s.keepA = none) (hb : s.keepB = none) (g : Fin 8) (r : Relayout) : s.mendKeep g r = s := by
  have hnone (b : Bool) : s.mendCopy g r.mem b = s := by
    have hcopy : s.copyAt b = none := by cases b <;> assumption
    rw [State.mendCopy, hcopy]
  unfold State.mendKeep
  split
  · rw [hnone, hnone]
  · rfl

end Sys2Proof.Machine

namespace Sys2Proof.Proofs
open Sys2Proof.Machine

section
variable {g : Fin 8} {r : Relayout} {s : State}

section
variable (hservice : s.inService = true) (hsound : s.parity pageSpr = false) (hawake : s.pwr.phase = .awake) (hfree : s.rlyCount < 2)
include hservice hsound hawake hfree

/-- A vane takes up a relayout. -/
theorem relayoutStart_open : (s.inService = false || s.parity pageSpr || s.pwr.phase != .awake || decide (2 ≤ s.rlyCount)) = false := by
  simp [hservice, hsound, hawake, hfree]

theorem relayoutStart_resumes (hr : s.spr.rly[g] = some r) (hrunning : r.running = false) (hsuspended : r.suspended = false) :
    exec (.relayoutStart g) s = .next ((s.setRly g (some { r with running := true })).detectCut (1#8 <<< g.val)) := by
  have hexec : exec (.relayoutStart g) s = execRelayoutStart g s := rfl
  simp only [hexec, execRelayoutStart, relayoutStart_open hservice hsound hawake hfree, hr, hrunning, hsuspended, Bool.or_self, Bool.false_eq_true, if_false]

theorem relayoutStart_begins (hnone : s.spr.rly[g] = none) (hnext : s.nextRly g = some r) : Completes (.relayoutStart g) s fun t =>
    ∃ x, t.spr.rly[g] = some x ∧ x.mem = r.mem ∧ x.dst = r.dst ∧ x.kind = r.kind ∧ x.running = true ∧ x.bound = 0 ∧ x.done = [] ∧
      (t.member g r.mem).st = r.kind.memberSt ∧ (t.member g r.mem).slice = r.serving (s.member g r.mem).slice ∧
      t.hubs[g].nextTable[r.mem] = { slice := r.dst, absent := false } ∧ t.spr.queue = s.spr.queue.filter (fun q => q != (g, r)) ∧ t.mem = s.mem := by
  have hexec : exec (.relayoutStart g) s = .next (s.beginRly g r) := by
    have hexec : exec (.relayoutStart g) s = execRelayoutStart g s := rfl
    simp only [hexec, execRelayoutStart, relayoutStart_open hservice hsound hawake hfree, hnone, hnext, Bool.false_eq_true, if_false]
  have hspr := s.beginRly_spr g r
  have hmember : (s.beginRly g r).member g r.mem = _ := (State.member_congr hspr g r.mem).trans (State.setMember_self _ g r.mem _)
  refine ⟨_, hexec, r.begun (s.member g r.mem).slice s.hubs[g].staleLost, ?_, rfl, rfl, rfl, rfl, rfl, rfl, by rw [hmember], by rw [hmember],
    s.beginRly_nextTable g r, by rw [hspr]; rfl, (s.beginRly_keeps g r).p .mem (by decide)⟩
  rw [hspr]
  exact State.setRly_self _ g _

end

section
variable (hworks : s.rlyWorks g = some r)
include hworks

theorem exec_relayoutStripe (due : Bool) : exec (.relayoutStripe g due) s =
    .next (if due then (s.settleBound g 17).openWindow g else s.settleBound g 17) :=
  congrArg Host.Outcome.next (if_neg (by simp [hworks]))

section
variable (hvoids : s.hubs[g].voids = []) (hfull : r.kind = .resync → r.full = true) (hbound : r.bound < s.groupStripes)
include hvoids hfull hbound

theorem relayoutStripe_enters (hdone : r.done = []) (hempty : s.windowStripes g = []) : Completes (.relayoutStripe g true) s fun t =>
    t.spr.rly[g] = some r ∧ t.ids = s.ids + 1 ∧ t.reqs.map Req.key = s.reqs.map Req.key ++ [(s.ids, srcVane, 0, opcRead)] ∧
      t.windowStripes g = [r.bound] ∧ (∃ q ∈ t.reqs, q.rid = s.ids ∧ q.phase = .waiting ∧ q.hub = g) ∧ t.mem = s.mem := by
  have hr := State.rly_of_rlyWorks hworks
  have hexec : exec (.relayoutStripe g true) s = .next (s.askCopy g r.bound) := by
    rw [exec_relayoutStripe hworks, State.settleBound_of_none hr hvoids hfull hbound.le hdone 16,
      State.openWindow_of_empty hworks hvoids hfull hbound hdone hempty]
    rfl
  refine ⟨_, hexec, hr, rfl, List.map_append, ?_, ⟨_, List.mem_append_right _ (List.mem_singleton_self _), rfl, rfl, rfl⟩, rfl⟩
  rw [State.askCopy_windowStripes, hempty]
  rfl

theorem relayoutStripe_retires (due : Bool) (hdone : r.done = [r.bound]) : Completes (.relayoutStripe g due) s fun t =>
    t.spr.rly[g] = some { r with bound := r.bound + 1, done := [] } ∧ t.mem = s.mem := by
  have hsettled := State.settleBound_of_next (State.rly_of_rlyWorks hworks) hvoids hfull hbound hdone 15
  have hopened (u : State) : Keeps 0x20000010008 u (if due then u.openWindow g else u) := .ite (fun _ => u.openWindow_keeps g) fun _ => .rfl'
  have hexec := exec_relayoutStripe hworks due
  rw [hsettled] at hexec
  have hspr := (hopened (s.advanceTo g r (r.bound + 1))).p .spr (by decide)
  have hmem := (hopened (s.advanceTo g r (r.bound + 1))).p .mem (by decide)
  exact ⟨_, hexec, (congrArg (fun x => x.rly[g]) hspr).trans (State.advanceTo_rly hdone), hmem.trans ((s.advanceTo_keeps g r _).p .mem (by decide))⟩

end

theorem relayoutComplete_ends (hbound : s.groupStripes ≤ r.bound) :
    exec (.relayoutComplete g) s = .next ((s.completeRly g r).mendKeep g r) := by
  have hexec : exec (.relayoutComplete g) s = execRelayoutComplete g s := rfl
  simp only [hexec, execRelayoutComplete, hworks, if_pos hbound]

theorem relayoutComplete_settles (hbound : s.groupStripes ≤ r.bound) (hsrc : r.src ≠ some r.dst) (hfit : s.fit) :
    Completes (.relayoutComplete g) s fun t => t.spr.rly[g] = none ∧ t.member g r.mem = { st := .healthy, slice := r.dst, retrain := false } ∧
      t.slices[r.dst].health.role = (if r.dst = homeSlice g r.mem then roleHome else roleAttached) ∧ t.slices[r.dst].health.mem = some r.mem ∧
      t.spr.doneCnt = satInc s.spr.doneCnt ∧ (s.keepA = none → s.keepB = none → t.mem = s.mem) := by
  obtain ⟨hrly, hmember, hhealth, hcount⟩ := State.completeRly_of_fit (g := g) hfit hsrc
  have hspr : ((s.completeRly g r).mendKeep g r).spr = (s.completeRly g r).spr := (State.mendKeep_keeps ..).p .spr (by decide)
  have hkept := s.completeRly_keeps g r
  have hplaced := (((s.completeRly g r).mendKeep_health g r r.dst).trans hhealth).trans State.settleMember_health
  refine ⟨_, relayoutComplete_ends hworks hbound, by rw [hspr, hrly], (State.member_congr hspr g r.mem).trans hmember, by rw [hplaced], by rw [hplaced],
    by rw [hspr, hcount], fun ha hb => ?_⟩
  rw [State.mendKeep_of_none ((hkept.p .keepA (by decide)).trans ha) ((hkept.p .keepB (by decide)).trans hb)]
  exact hkept.p .mem (by decide)

end

end

/-- Settles O29, command by command. -/
theorem relayoutSteps : Obligations.RelayoutSteps := by
  unfold Obligations.RelayoutSteps
  intro g r s
  exact ⟨fun hservice hsound hawake hfree => ⟨relayoutStart_resumes hservice hsound hawake hfree, relayoutStart_begins hservice hsound hawake hfree⟩,
    fun hworks hvoids hfull hbound => ⟨relayoutStripe_enters hworks hvoids hfull hbound, relayoutStripe_retires hworks hvoids hfull hbound⟩,
    fun hworks hbound => ⟨relayoutComplete_ends hworks hbound, relayoutComplete_settles hworks hbound⟩⟩

end Sys2Proof.Proofs
end

section
/-!
Strips stored (O18): where the check word finds room in the cache (R220), it moves no line of the devices, so that a strip is stored as its data
line is written raw.
-/
namespace Sys2Proof.Machine

/-! ### Lines under a change of a scheduler -/

theorem State.modSched_lost (s : State) (c d : Fin 80) (f : Sched → Sched) : (s.modSched c f).slices[d].lost = s.slices[d].lost := by
  rw [State.modSched, State.modSlice_getElem]
  split
  next h => rw [h]
  next => rfl

theorem State.laidStrip_modSched (s : State) (c d : Fin 80) (f : Sched → Sched) (pick : Laid → Option Nat) :
    (s.modSched c f).laidStrip d pick = s.laidStrip d pick := by
  have hlayer : (s.modSched c f).layer d = s.layer d := funext fun x => by simp only [State.layer, State.modSched_lost]
  simp only [State.laidStrip, hlayer, State.modSched_hubs]
  rfl

theorem State.rawLine_modSched (s : State) (c d : Fin 80) (f : Sched → Sched) (l : Nat) : (s.modSched c f).rawLine d l = s.rawLine d l := by
  have heighth : (s.modSched c f).eighthOf l = s.eighthOf l := rfl
  have hlaid : (s.modSched c f).laid = s.laid := rfl
  simp only [State.rawLine, State.blankLine, State.laidStrip_modSched, State.modSched_lost, heighth, hlaid, State.modSched_mem]

/-! ### A check word that finds room (R220) -/

/-- Its cache alone changes. -/
theorem State.cacheWord_of_room {s : State} {c : Fin 80} {l : Nat} (j : Nat) (w : Check)
    (hroom : (s.slices[c].sched.ckc.any fun k => k.line == l) = true ∨ s.slices[c].sched.ckc.length < 512) :
    ∃ f, s.cacheWord c l j w = s.modSched c f := by
  unfold State.cacheWord
  split
  · exact ⟨_, rfl⟩
  next habsent =>
    have hlength : s.slices[c].sched.ckc.length < 512 := hroom.resolve_left (by simpa using habsent)
    have hmade : s.makeCkRoom c = s := if_pos hlength
    exact ⟨_, by rw [hmade]⟩

theorem State.setRawLine_slices (s : State) (c : Fin 80) (l : Nat) (d : Line) : (s.setRawLine c l d).slices = s.slices := by
  rw [State.setRawLine]

theorem State.putStrip_of_room {s : State} {c : Fin 80} {stripe : Nat} (d : Line) (w : Check)
    (hroom : (s.slices[c].sched.ckc.any fun k => k.line == s.checkLine stripe) = true ∨ s.slices[c].sched.ckc.length < 512) :
    ∃ f, s.putStrip c stripe d w = (s.setRawLine c (s.dataLine stripe) d).modSched c f :=
  State.cacheWord_of_room _ w (by rwa [State.setRawLine_slices])

end Sys2Proof.Machine

namespace Sys2Proof.Proofs
open Sys2Proof.Machine

/-- Settles O18: the store is a raw write of the data line (`State.setRawLine`), as its check word finds room. -/
theorem stripStoreReachesOneLine : Obligations.StripStoreReachesOneLine := by
  unfold Obligations.StripStoreReachesOneLine
  intro s c stripe d w hwf hroom
  obtain ⟨f, hput⟩ := State.putStrip_of_room d w hroom
  rw [hput, State.modSched_mem, State.rawLine_modSched]
  exact ⟨State.rawLine_setRawLine_same hwf c _ d, fun a ha => State.setRawLine_read_other hwf c _ d ha⟩

end Sys2Proof.Proofs
end

section
/-!
Member operations that return (O19): which operation in flight `index` picks (R207, R225), and what reading a strip with its check word leaves of
the slice (R220, R253).
-/
namespace Sys2Proof.Machine

theorem State.checkIdx_modSched (s : State) (c : Fin 80) (f : Sched → Sched) (stripe : Nat) : (s.modSched c f).checkIdx stripe = s.checkIdx stripe :=
  rfl

/-! ### What reading a strip leaves -/

theorem State.bumpTrn_sched (s : State) (c : Fin 80) (i n : Nat) : (s.bumpTrn c i n).slices[c].sched = s.slices[c].sched := by
  rw [State.bumpTrn, State.modSlice_self]

/-- The order of the check lines in the cache is all that moves in the scheduler. -/
theorem State.fetchStrip_sched (s : State) (c : Fin 80) (o : MemOp) (err : ReadErr) :
    (s.fetchStrip c o err).1.slices[c].sched =
      { s.slices[c].sched with ckc := touchCk s.slices[c].sched.ckc (s.checkLine o.stripe) } := by
  simp only [State.fetchStrip]
  split <;> split <;> simp only [State.bumpTrn_sched, State.modSched_self]

theorem State.fetchStrip_hubs (s : State) (c : Fin 80) (o : MemOp) (err : ReadErr) : (s.fetchStrip c o err).1.hubs = s.hubs :=
  (s.fetchStrip_keeps c o err).p .hubs (by decide)

/-- A strip that has not failed its check goes to its job and counts against no slice. -/
theorem State.deliverStrip_of_passed (s : State) (c : Fin 80) (o : MemOp) {x : Strip} (h : x.failed = false) :
    s.deliverStrip c o x = (s.stripArrives o.group o.jid o.member x).kick o.group := by
  simp only [State.deliverStrip, h, Bool.false_eq_true, if_false]

/-! ### A first read, by its verdict (R185) -/

section
variable {s : State} {c : Fin 80} {k : Nat} {o : MemOp} {err : ReadErr}

theorem State.returnRead_of_failed (h : (s.fetchStrip c o err).2.failed = true) : s.returnRead c k o err =
    (((s.fetchStrip c o err).1.bumpCh c 1).flagOp o flagRetry).modSched c fun y => { y with retry := y.retry.set k (.rd { o with replay := true }) } := by
  simp only [State.returnRead, h, if_true]

theorem State.returnRead_of_passed (h : (s.fetchStrip c o err).2.failed = false) : s.returnRead c k o err =
    (((s.fetchStrip c o err).1.modSched c fun y => { y with retry := y.retry.eraseIdx k }).stripArrives o.group o.jid o.member
      (s.fetchStrip c o err).2).kick o.group := by
  simp only [State.returnRead, h, Bool.false_eq_true, if_false]
  exact State.deliverStrip_of_passed _ c o h

/-- The mark of a replay leaves the hubs and the keys of the requests. -/
theorem State.flagReplay_keeps (s : State) (c : Fin 80) (o : MemOp) (err : ReadErr) :
    Keeps 0x810000 s (((s.fetchStrip c o err).1.bumpCh c 1).flagOp o flagRetry) :=
  (State.flagOp_keeps ..).on ((State.bumpCh_keeps ..).on ((s.fetchStrip_keeps c o err).mono (by decide)) (by decide)) (by decide)

theorem State.flagReplay_sched (s : State) (c : Fin 80) (o : MemOp) (err : ReadErr) :
    (((s.fetchStrip c o err).1.bumpCh c 1).flagOp o flagRetry).slices[c].sched = (s.fetchStrip c o err).1.slices[c].sched := by
  rw [State.slices_of_keeps (State.flagOp_keeps ..) (by decide), State.bumpCh_sched]

end

/-! ### A replayed read (R185) -/

/-- What logs a replayed strip that is good now. -/
def MemOp.replayGood (o : MemOp) : ErrEvent :=
  { cls := clsCe, page := pageGrp o.group, code := 0x0001, detail := stripDetail o.stripe o.member }

section
variable (s : State) (c : Fin 80) (k : Nat) (o : MemOp) (err : ReadErr)

theorem State.returnReplay_of_passed (h : (s.fetchStrip c o err).2.failed = false) : s.returnReplay c k o err =
    ((((s.fetchStrip c o err).1.modSched c fun y => { y with replayed := y.replayed.eraseIdx k }).logError o.replayGood).stripArrives
      o.group o.jid o.member (s.fetchStrip c o err).2).kick o.group := by
  simp only [State.returnReplay, h, Bool.false_eq_true, if_false]
  exact State.deliverStrip_of_passed _ c o h

/-- Whatever the strip is, it goes to its job. -/
theorem State.returnReplay_delivers : ∃ u : State,
    s.returnReplay c k o err = (u.stripArrives o.group o.jid o.member (s.fetchStrip c o err).2).kick o.group ∧
    ((s.fetchStrip c o err).2.failed = false → u.hubs = s.hubs ∧ u.slices[c].sched.replayed = s.slices[c].sched.replayed.eraseIdx k) := by
  cases h : (s.fetchStrip c o err).2.failed with
  | true => exact ⟨_, rfl, nofun⟩
  | false =>
    have hlogged := State.logError_keeps ((s.fetchStrip c o err).1.modSched c fun y => { y with replayed := y.replayed.eraseIdx k }) o.replayGood
    refine ⟨_, s.returnReplay_of_passed c k o err h, fun _ => ⟨(hlogged.p .hubs (by decide)).trans (s.fetchStrip_hubs c o err), ?_⟩⟩
    rw [State.slices_of_keeps hlogged (by decide), State.modSched_self, State.fetchStrip_sched]

end

end Sys2Proof.Machine

namespace Sys2Proof.Proofs
open Sys2Proof.Machine

theorem exec_memberReadReturn (c : Fin 80) (index : Nat) (err : ReadErr) (s : State) :
    exec (.memberReadReturn c index err) s = execMemberReadReturn c index err s := rfl

section
variable {c : Fin 80} {index k : Nat} {o : MemOp} {err : ReadErr} {s : State} (hserves : s.slices[c].serves = true)
  (halert : s.slices[c].sched.alert = none) (hreset : s.slices[c].health.cmdReset = false)
include hserves halert hreset

/-- The slice is in service, so that its operations return. -/
theorem memberReturns : ¬ ((s.slices[c].serves = false || s.slices[c].sched.alert.isSome || s.slices[c].health.cmdReset) = true) := by
  rw [hserves, halert, hreset]
  decide

/-! ### A read answered from the write queue -/

theorem memberReadReturn_forwarded (ho : s.slices[c].sched.fwds[index]? = some o)
    (hpassed : (judgeStrip o (o.data ^^^ err.data) (o.word ^^^ err.check) false).failed = false) :
    Completes (.memberReadReturn c index err) s fun t => ∃ u : State,
      t = (u.stripArrives o.group o.jid o.member (judgeStrip o (o.data ^^^ err.data) (o.word ^^^ err.check) false)).kick o.group ∧
      u.slices[c].sched.fwds = s.slices[c].sched.fwds.eraseIdx index ∧ u.mem = s.mem ∧ u.hubs = s.hubs := by
  have hexec : exec (.memberReadReturn c index err) s = .next (s.returnForwarded c index o err) := by
    simp only [exec_memberReadReturn, execMemberReadReturn, if_neg (memberReturns hserves halert hreset), ho]
  exact ⟨_, hexec, _, State.deliverStrip_of_passed _ c o hpassed, by rw [State.modSched_self], rfl, rfl⟩

/-! ### A first read of the devices -/

section
variable (hfwd : s.slices[c].sched.fwds[index]? = none)
  (ho : s.slices[c].sched.retryReads[index - s.slices[c].sched.fwds.length]? = some (k, o))
include hfwd ho

theorem exec_memberReadReturn_first : exec (.memberReadReturn c index err) s = .next (s.returnFirst c k o err) := by
  simp only [exec_memberReadReturn, execMemberReadReturn, if_neg (memberReturns hserves halert hreset), hfwd, ho]

theorem memberReadReturn_check (hck : o.readsCk = true) (hroom : s.ckRoom c o.line = true) (hlecc : s.slices[c].train.lecc = false) :
    exec (.memberReadReturn c index err) s =
      .next ((s.mergeCheck c o.line err.data).modSched c fun y => { y with retry := y.retry.eraseIdx k }) := by
  rw [exec_memberReadReturn_first hserves halert hreset hfwd ho, State.returnFirst, if_pos hck, State.returnCheck, if_pos hroom]
  simp only [hlecc, Bool.false_and, Bool.false_eq_true, if_false]

theorem memberReadReturn_missed (hstrip : o.readsCk = false) (hword : s.wordThere c o.stripe = false) :
    exec (.memberReadReturn c index err) s = .next (s.missWord c o) := by
  rw [exec_memberReadReturn_first hserves halert hreset hfwd ho]
  simp only [State.returnFirst, hstrip, hword, Bool.false_eq_true, if_false]

theorem exec_memberReadReturn_strip (hstrip : o.readsCk = false) (hword : s.wordThere c o.stripe = true) :
    exec (.memberReadReturn c index err) s = .next (s.returnRead c k o err) := by
  rw [exec_memberReadReturn_first hserves halert hreset hfwd ho]
  simp only [State.returnFirst, hstrip, hword, Bool.false_eq_true, if_false, if_true]

theorem memberReadReturn_toReplay (hstrip : o.readsCk = false) (hword : s.wordThere c o.stripe = true)
    (hfailed : (s.fetchStrip c o err).2.failed = true) :
    Completes (.memberReadReturn c index err) s fun t => t.hubs = s.hubs ∧ t.reqs.map Req.key = s.reqs.map Req.key ∧
      t.slices[c].sched.retry = s.slices[c].sched.retry.set k (.rd { o with replay := true }) := by
  have hexec := exec_memberReadReturn_strip hserves halert hreset hfwd ho hstrip hword (err := err)
  rw [State.returnRead_of_failed hfailed] at hexec
  have hflagged := s.flagReplay_keeps c o err
  refine ⟨_, hexec, hflagged.p .hubs (by decide), hflagged.p .reqList (by decide), ?_⟩
  rw [State.modSched_self, State.flagReplay_sched, State.fetchStrip_sched]

theorem memberReadReturn_delivers (hstrip : o.readsCk = false) (hword : s.wordThere c o.stripe = true)
    (hpassed : (s.fetchStrip c o err).2.failed = false) :
    Completes (.memberReadReturn c index err) s fun t => ∃ u : State,
      t = (u.stripArrives o.group o.jid o.member (s.fetchStrip c o err).2).kick o.group ∧
      u.slices[c].sched.retry = s.slices[c].sched.retry.eraseIdx k ∧ u.hubs = s.hubs := by
  refine ⟨_, exec_memberReadReturn_strip hserves halert hreset hfwd ho hstrip hword, _, State.returnRead_of_passed hpassed, ?_,
    s.fetchStrip_hubs c o err⟩
  rw [State.modSched_self, State.fetchStrip_sched]

end

/-! ### A replayed read -/

theorem memberReadReturn_replayed (hfwd : s.slices[c].sched.fwds[index]? = none)
    (hread : s.slices[c].sched.retryReads[index - s.slices[c].sched.fwds.length]? = none)
    (ho : s.slices[c].sched.replayed[index - s.slices[c].sched.fwds.length - s.slices[c].sched.retryReads.length]? = some o)
    (hword : s.wordThere c o.stripe = true) :
    Completes (.memberReadReturn c index err) s fun t => ∃ u : State,
      t = (u.stripArrives o.group o.jid o.member (s.fetchStrip c o err).2).kick o.group ∧
      ((s.fetchStrip c o err).2.failed = false → u.hubs = s.hubs ∧ u.slices[c].sched.replayed =
        s.slices[c].sched.replayed.eraseIdx (index - s.slices[c].sched.fwds.length - s.slices[c].sched.retryReads.length)) := by
  refine ⟨_, ?_, s.returnReplay_delivers c _ o err⟩
  simp only [exec_memberReadReturn, execMemberReadReturn, if_neg (memberReturns hserves halert hreset), hfwd, hread, ho, State.returnSecond, hword, if_true]

/-! ### A write -/

theorem exec_memberWriteAck (ho : s.slices[c].sched.retryWrites[index]? = some (k, o))
    (hroom : (o.evicts || s.ckRoom c (s.checkLine o.stripe)) = true) : exec (.memberWriteAck c index) s = .next (s.landOp c k o) := by
  have hexec : exec (.memberWriteAck c index) s = execMemberWriteAck c index s := rfl
  simp only [hexec, execMemberWriteAck, if_neg (memberReturns hserves halert hreset), ho, if_pos hroom]

end

/-- Settles O19, by the queue or buffer in which the operation stands. -/
theorem memberOperationsReturn : Obligations.MemberOperationsReturn := by
  unfold Obligations.MemberOperationsReturn
  intro c index k o err s hserves halert hreset
  refine ⟨memberReadReturn_forwarded hserves halert hreset, memberReadReturn_check hserves halert hreset,
    memberReadReturn_missed hserves halert hreset, fun hfwd ho hstrip hword =>
      ⟨memberReadReturn_toReplay hserves halert hreset hfwd ho hstrip hword, memberReadReturn_delivers hserves halert hreset hfwd ho hstrip hword⟩,
    memberReadReturn_replayed hserves halert hreset, ?_⟩
  rintro u v w ho hroom rfl rfl rfl
  rw [exec_memberWriteAck hserves halert hreset ho hroom, State.landOp, State.checkIdx_modSched]

end Sys2Proof.Proofs
end

section
/-!
Group hub commands (O20). The stripe writes of a zero fill have no request (R200) and carry the number 0 in its place, and a member write that
meets a slice in refresh flags the request under the number it carries (R450): `Obligations.GroupHubCommands` says that the requests stand as they
were, and has no hypothesis that keeps a request from the number 0. The numbers given out begin at 1 (`State.reset`), which `Inv` does not hold.
-/
namespace Sys2Proof.Proofs
open Sys2Proof.Machine

/-- A read of port 0 under the number 0. -/
def readZero : Req := { newReq 0 (srcPort 0) opcRead (oneLine 5) 0 with phase := .held }

/-- A block in RUN with that read, whose group 0 has one void chunk and a member in refresh. -/
def inRunVoid : State :=
  { (inRun.modHub 0 fun h => { h with voids := [(0, 1)] }).modSched 0 fun x => { x with inRef := true } with reqs := [readZero] }

theorem exec_zeroFillStep_inRunVoid : exec (.zeroFillStep 0) inRunVoid = .next ((inRunVoid.spawnZero 0 0 0).vaneGrants 0) := by
  have hidle : (inRunVoid.populated 0 && inRunVoid.inService && inRunVoid.pwr.phase == .awake && inRunVoid.groupIdle 0) = true := by decide +kernel
  have hvoids : inRunVoid.hubs[(0 : Fin 8)].voids = [(0, 1)] := by decide +kernel
  have hfree : ¬ (inRunVoid.chunkBusy 0 0 || !inRunVoid.reserveRoom 0) = true := by decide +kernel
  have hexec : exec (.zeroFillStep 0) inRunVoid = execZeroFillStep 0 inRunVoid := rfl
  simp only [hexec, execZeroFillStep, if_pos hidle, hvoids, if_neg hfree]

/-- The read is flagged as one that waited for a refresh. -/
theorem inRunVoid_spawnZero_flags : (inRunVoid.spawnZero 0 0 0).reqs.map Req.flags = [0x04] := by decide +kernel

/-- Refutes O20: where a request of port 0 has the number 0 and member 0 of group 0 is in refresh, the zero fill of chunk 0 sets that request's
refresh flag. -/
theorem not_groupHubCommands : ¬ Obligations.GroupHubCommands := by
  unfold Obligations.GroupHubCommands
  intro h
  obtain ⟨hfill, -⟩ := h 0 inRunVoid
  obtain ⟨t, ht, -, -, -, hreqs, -⟩ := hfill (0, 1) [] (by decide +kernel) (by decide +kernel) (by decide +kernel) (by decide +kernel)
    (by decide +kernel) (by decide +kernel) (by decide +kernel) (by decide +kernel)
  obtain rfl := Host.Outcome.next.inj (exec_zeroFillStep_inRunVoid.symm.trans ht)
  have hgrants : ((inRunVoid.spawnZero 0 0 0).vaneGrants 0).reqs = (inRunVoid.spawnZero 0 0 0).reqs :=
    (State.vaneGrants_keeps ..).p .reqs (by decide)
  have hflags : [0x04] = inRunVoid.reqs.map Req.flags := by rw [← inRunVoid_spawnZero_flags, ← hgrants, hreqs]
  exact absurd hflags (by decide)

end Sys2Proof.Proofs
end

section
/-!
Commands of a slice (O21): which command the operation served next gets, and what the retry buffer and the queues hold after it (R209, R210,
R223, R225).
-/
namespace Sys2Proof.Machine

/-! ### Check lines written back take no room in the retry buffer (R221, R223) -/

theorem State.writeBackCk_retry_le (s : State) (c : Fin 80) (l : Nat) :
    (s.writeBackCk c l).slices[c].sched.retry.length ≤ s.slices[c].sched.retry.length := by
  unfold State.writeBackCk
  split
  · split
    · rw [State.modSched_self, State.modSched_self, State.setRawLine_slices]
      exact List.length_filter_le ..
    · exact Nat.le_refl _
  · exact Nat.le_refl _

theorem State.flushCk_retry_le (s : State) (c : Fin 80) : (s.flushCk c).slices[c].sched.retry.length ≤ s.slices[c].sched.retry.length :=
  List.foldlRecOn (motive := fun t : State => t.slices[c].sched.retry.length ≤ s.slices[c].sched.retry.length) _ _ (Nat.le_refl _)
    fun t ht l _ => (t.writeBackCk_retry_le c l).trans ht

theorem State.endDrain_retry_le (s : State) (c : Fin 80) : (s.endDrain c).slices[c].sched.retry.length ≤ s.slices[c].sched.retry.length := by
  unfold State.endDrain
  extract_lets x flushed
  split
  · rw [State.modSched_self]
    unfold flushed
    split
    · exact s.flushCk_retry_le c
    · exact Nat.le_refl _
  · exact Nat.le_refl _

theorem State.stopGust_retry_le (s : State) (c : Fin 80) : (s.stopGust c).slices[c].sched.retry.length ≤ s.slices[c].sched.retry.length := by
  unfold State.stopGust
  split
  · rw [State.modSched_self]
    exact s.endDrain_retry_le c
  · exact Nat.le_refl _

theorem State.startGust_sched (s : State) (c : Fin 80) (cause : BitVec 3) : (s.startGust c cause).slices[c].sched =
    { s.slices[c].sched with gust := true, gustCause := cause, gustDone := 0 } := by
  rw [State.startGust, State.bumpCh_sched, State.modSched_self]

theorem State.turnGust_retry_le (s : State) (c : Fin 80) : (s.turnGust c).slices[c].sched.retry.length ≤ s.slices[c].sched.retry.length := by
  unfold State.turnGust
  extract_lets stopped cause
  have hstopped : stopped.slices[c].sched.retry.length ≤ s.slices[c].sched.retry.length := s.stopGust_retry_le c
  split
  · exact hstopped
  split
  · exact hstopped
  · rw [State.startGust_sched]
    exact hstopped

/-- Gusts that turn before a command leave the buffer its room. -/
theorem State.turnGust_room {c : Fin 80} {w u : State} (hspace : w.slices[c].sched.retry.length < 64)
    (hu : u = (w.modSched c fun x => { x with fullSeen := false }).turnGust c) : u.slices[c].sched.retry.length < 64 := by
  rw [hu]
  refine Nat.lt_of_le_of_lt (State.turnGust_retry_le _ c) ?_
  rwa [State.modSched_self]

/-! ### A command that finds room (R223) -/

theorem State.pushCmd_retry {s : State} {c : Fin 80} (hroom : s.slices[c].sched.retry.length < 64) (k : Cmd) :
    (s.pushCmd c k).slices[c].sched.retry = s.slices[c].sched.retry ++ [k] := by
  rw [State.pushCmd_sched, Sched.push_retry, if_neg (Nat.not_le.2 hroom)]

theorem State.pushCmd_rows (s : State) (c : Fin 80) (k : Cmd) : (s.pushCmd c k).slices[c].sched.rows = s.slices[c].sched.rows := by
  rw [State.pushCmd_sched, Sched.push_rows]

theorem Sched.push_queues (x : Sched) (k : Cmd) : (x.push k).rq = x.rq ∧ (x.push k).wq = x.wq := by
  unfold Sched.push
  split <;> exact ⟨rfl, rfl⟩

theorem State.modSched_other {s : State} {c d : Fin 80} (h : d ≠ c) (f : Sched → Sched) : (s.modSched c f).slices[d] = s.slices[d] :=
  s.modSlice_other c d _ h

theorem State.pushCmd_other {s : State} {c d : Fin 80} (h : d ≠ c) (k : Cmd) : (s.pushCmd c k).slices[d] = s.slices[d] := by
  unfold State.pushCmd
  split
  · rfl
  · exact State.modSched_other h _

/-! ### The operation served (R209, R210) -/

section
variable {c : Fin 80} {o : MemOp} {u : State}

/-- With its bank closed no row is open for an operation. -/
theorem State.rowHit_of_closed (h : (u.slices[c].sched.rows.any fun r => r.1 == (u.bankRow c o).1) = false) : u.rowHit c o = false := by
  rw [State.rowHit, List.any_eq_false]
  intro r hr hhit
  exact List.any_eq_false.1 h r hr (Bool.and_eq_true_iff.1 hhit).1

theorem State.stepFor_of_closed (h : (u.slices[c].sched.rows.any fun r => r.1 == (u.bankRow c o).1) = false) : u.stepFor c o =
    (u.modSched c fun x => { x with rows := x.rows ++ [((u.bankRow c o).1, (u.bankRow c o).2, u.tb)] }).pushCmd c
      (.act (u.bankRow c o).1 (u.bankRow c o).2) := by
  simp only [State.stepFor, State.openRow, State.rowHit_of_closed h, h, Bool.false_eq_true, if_false]

theorem State.stepFor_of_otherRow (hmiss : u.rowHit c o = false) (h : (u.slices[c].sched.rows.any fun r => r.1 == (u.bankRow c o).1) = true) :
    u.stepFor c o = (u.modSched c fun x => { x with rows := x.rows.filter fun r => r.1 != (u.bankRow c o).1 }).pushCmd c (.pre (u.bankRow c o).1) := by
  simp only [State.stepFor, State.openRow, hmiss, h, Bool.false_eq_true, if_false, if_true]

/-- The column command enters the buffer as its operation leaves its queue; then the hub tries its jobs. -/
theorem State.stepFor_of_hit (hhit : u.rowHit c o = true) (hroom : u.slices[c].sched.retry.length < 64) : ∃ v : State,
    u.stepFor c o = v.kick o.group ∧ v.mem = u.mem ∧
    v.slices[c].sched.retry = u.slices[c].sched.retry ++ [if o.write then .wr o else .rd o] ∧
    v.slices[c].sched.rq = (if o.write then u.slices[c].sched.rq else u.slices[c].sched.rq.erase o) ∧
    v.slices[c].sched.wq = (if o.write then u.slices[c].sched.wq.erase o else u.slices[c].sched.wq) := by
  refine ⟨_, if_pos hhit, (State.pushCmd_keeps ..).p .mem (by decide), ?_, ?_, ?_⟩
  · rw [State.pushCmd_retry] <;> rw [State.modSched_self]
    exact hroom
  · rw [State.pushCmd_sched, State.modSched_self, (Sched.push_queues _ _).1]
  · rw [State.pushCmd_sched, State.modSched_self, (Sched.push_queues _ _).2]

end

end Sys2Proof.Machine

namespace Sys2Proof.Proofs
open Sys2Proof.Machine

section
variable {c : Fin 80} {late : Nat} {o : MemOp} {s w u : State} (hissue : s.mayIssue c = true) (howed : s.slices[c].sched.owed < 8)
  (hlead : s.slices[c].sched.tLead = false) (hw : w = s.modSched c Sched.dropDriven)
include hissue howed hlead hw

/-- With no refresh due a replay goes first (R209). -/
theorem exec_sliceCommandIssue_replay (hhead : w.slices[c].sched.replayHead = some o) :
    exec (.sliceCommandIssue c late) s = .next (w.replayStep c o) := by
  have hexec : exec (.sliceCommandIssue c late) s = .next (s.issueCmd c late) := rfl
  subst hw
  simp only [hexec, State.issueCmd, hissue, hlead, hhead, if_neg (Nat.not_le.2 howed), Bool.true_eq_false, Bool.false_eq_true, if_false]

theorem sliceCommandIssue_replays (hhead : w.slices[c].sched.replayHead = some o) (hhit : w.rowHit c o = true) :
    Completes (.sliceCommandIssue c late) s fun t => t.slices[c].sched.retry = w.slices[c].sched.retry.erase (.rd o) ∧
      t.slices[c].sched.replayed = w.slices[c].sched.replayed ++ [o] ∧ t.mem = s.mem := by
  have hexec := exec_sliceCommandIssue_replay (late := late) hissue howed hlead hw hhead
  rw [State.replayStep, if_pos hhit] at hexec
  refine ⟨_, hexec, ?_, ?_, by rw [hw]; rfl⟩ <;> rw [State.modSched_self]

section
variable (hhead : w.slices[c].sched.replayHead = none) (hspace : w.slices[c].sched.retry.length < 64)
  (hu : u = (w.modSched c fun x => { x with fullSeen := false }).turnGust c) (ho : (u.serveOrder c)[late]? = some o)
include hhead hspace hu ho

/-- With no replay to go first, the operation at its place in the serving order goes on. -/
theorem exec_sliceCommandIssue_serve : exec (.sliceCommandIssue c late) s = .next (u.stepFor c o) := by
  have hexec : exec (.sliceCommandIssue c late) s = .next (s.issueCmd c late) := rfl
  have hnext : w.issueNext c late = u.stepFor c o := by
    simp only [State.issueNext, if_neg (Nat.not_le.2 hspace), ← hu, ho]
  rw [← hnext]
  subst hw
  simp only [hexec, State.issueCmd, hissue, hlead, hhead, if_neg (Nat.not_le.2 howed), Bool.true_eq_false, Bool.false_eq_true, if_false]

theorem sliceCommandIssue_activates (hclosed : (u.slices[c].sched.rows.find? fun r => r.1 == (u.bankRow c o).1) = none) :
    Completes (.sliceCommandIssue c late) s fun t =>
      t.slices[c].sched.retry = u.slices[c].sched.retry ++ [.act (u.bankRow c o).1 (u.bankRow c o).2] ∧
      t.slices[c].sched.rows = u.slices[c].sched.rows ++ [((u.bankRow c o).1, (u.bankRow c o).2, u.tb)] ∧ t.mem = u.mem ∧
      ∀ d : Fin 80, d ≠ c → t.slices[d] = u.slices[d] := by
  have hexec := exec_sliceCommandIssue_serve hissue howed hlead hw hhead hspace hu ho
  rw [State.stepFor_of_closed (List.any_eq_false.2 (List.find?_eq_none.1 hclosed))] at hexec
  refine ⟨_, hexec, ?_, ?_, (State.pushCmd_keeps ..).p .mem (by decide),
    fun d hd => (State.pushCmd_other hd _).trans (State.modSched_other hd _)⟩
  · rw [State.pushCmd_retry] <;> rw [State.modSched_self]
    exact State.turnGust_room hspace hu
  · rw [State.pushCmd_rows, State.modSched_self]

theorem sliceCommandIssue_precharges (hmiss : u.rowHit c o = false)
    (hopen : (u.slices[c].sched.rows.any fun r => r.1 == (u.bankRow c o).1) = true) :
    Completes (.sliceCommandIssue c late) s fun t =>
      t.slices[c].sched.retry = u.slices[c].sched.retry ++ [.pre (u.bankRow c o).1] ∧
      t.slices[c].sched.rows = u.slices[c].sched.rows.filter (fun r => r.1 != (u.bankRow c o).1) ∧ t.mem = u.mem := by
  have hexec := exec_sliceCommandIssue_serve hissue howed hlead hw hhead hspace hu ho
  rw [State.stepFor_of_otherRow hmiss hopen] at hexec
  refine ⟨_, hexec, ?_, ?_, (State.pushCmd_keeps ..).p .mem (by decide)⟩
  · rw [State.pushCmd_retry] <;> rw [State.modSched_self]
    exact State.turnGust_room hspace hu
  · rw [State.pushCmd_rows, State.modSched_self]

end

end

/-- Settles O21, by what the slice serves and the row that it needs. -/
theorem sliceIssuesNextCommand : Obligations.SliceIssuesNextCommand := by
  unfold Obligations.SliceIssuesNextCommand
  intro c late o s w u hissue howed hlead hw
  refine ⟨sliceCommandIssue_replays hissue howed hlead hw, fun hhead hspace hu ho => ?_⟩
  exact ⟨sliceCommandIssue_activates hissue howed hlead hw hhead hspace hu ho,
    sliceCommandIssue_precharges hissue howed hlead hw hhead hspace hu ho,
    fun hhit => ⟨_, exec_sliceCommandIssue_serve hissue howed hlead hw hhead hspace hu ho,
      State.stepFor_of_hit hhit (State.turnGust_room hspace hu)⟩⟩

end Sys2Proof.Proofs
end

section
/-!
Commands of a slice (O23): parity alerts, Gusts and the flush of the check lines (R211, R221, R224, R228). What a flush writes back does not
depend on the Gust that it is ordered in.
-/
namespace Sys2Proof.Machine

/-! ### A flush beside a change that leaves the writes (R221) -/

/-- The writes and the check lines of a slice, as a flush changes them. -/
def Slice.putWrites (x : Slice) (wq : List MemOp) (retry : List Cmd) (ckc : List CkLine) : Slice :=
  { x with sched := { x.sched with wq := wq, retry := retry, ckc := ckc } }

/-- A slice whose check line `l` has been written back as `d`: the line is valid and clean, and no evicted write of it is left (R221). -/
def Slice.cleanLine (x : Slice) (l : Nat) (d : Line) : Slice :=
  x.putWrites (x.sched.dropEvicted l).wq (x.sched.dropEvicted l).retry
    (x.sched.ckc.map fun k => if k.line = l then { k with valid := BitVec.allOnes 32, dirty := false, data := d } else k)

theorem State.modSlice_modSlice (s : State) (c : Fin 80) (f g : Slice → Slice) : (s.modSlice c f).modSlice c g = s.modSlice c fun x => g (f x) := by
  rw [State.modSlice, State.modSlice_self, State.modSlice, State.modSlice]
  simp only [Fin.getElem_fin, Vector.set_set]

section
variable {s : State} {c : Fin 80} {l : Nat}

theorem State.writeBackCk_of_dirty {k : CkLine} (hk : (s.slices[c].sched.ckc.find? fun k => k.line == l) = some k) (hdirty : k.dirty = true) :
    s.writeBackCk c l = (s.setRawLine c l (overlayWords (s.ckBase c l) k)).modSlice c fun x => x.cleanLine l (overlayWords (s.ckBase c l) k) := by
  simp only [State.writeBackCk, hk, hdirty, if_true, State.modSched, State.modSlice_modSlice]
  rfl

theorem State.writeBackCk_of_clean (h : ∀ k, (s.slices[c].sched.ckc.find? fun k => k.line == l) = some k → k.dirty = false) :
    s.writeBackCk c l = s := by
  unfold State.writeBackCk
  split
  next k hk => rw [if_neg (by rw [h k hk]; decide)]
  next => rfl

end

/-- A change of a slice that neither moves what a flush reads and writes nor looks at it. -/
structure Slice.Beside (f : Slice → Slice) : Prop where
  lost : ∀ x, (f x).lost = x.lost := by exact fun _ => rfl
  putWrites : ∀ x wq retry ckc, f (x.putWrites wq retry ckc) = (f x).putWrites wq retry ckc := by exact fun _ _ _ _ => rfl

theorem Slice.Beside.comp {f g : Slice → Slice} (hf : Slice.Beside f) (hg : Slice.Beside g) : Slice.Beside fun x => g (f x) :=
  ⟨fun x => (hg.lost _).trans (hf.lost x), fun x wq retry ckc => by rw [hf.putWrites, hg.putWrites]⟩

section
variable {f : Slice → Slice} (hf : Slice.Beside f) (s : State) (c : Fin 80)
include hf

/-- The writes and the check lines stand as they were. -/
theorem Slice.Beside.writes (x : Slice) : (f x).sched.wq = x.sched.wq ∧ (f x).sched.retry = x.sched.retry ∧ (f x).sched.ckc = x.sched.ckc := by
  have hsame : f x = (f x).putWrites x.sched.wq x.sched.retry x.sched.ckc := hf.putWrites x x.sched.wq x.sched.retry x.sched.ckc
  rw [hsame]
  exact ⟨rfl, rfl, rfl⟩

theorem State.modSlice_lost (d : Fin 80) : (s.modSlice c f).slices[d].lost = s.slices[d].lost := by
  rw [State.modSlice_getElem]
  split
  next h => rw [hf.lost, h]
  next => rfl

theorem State.blankLine_modSlice (d : Fin 80) (l : Nat) : (s.modSlice c f).blankLine d l = s.blankLine d l := by
  have hlayer : (s.modSlice c f).layer d = s.layer d := funext fun x => by simp only [State.layer, State.modSlice_lost hf]
  have hstrip : (s.modSlice c f).laidStrip d = s.laidStrip d := funext fun pick => by
    simp only [State.laidStrip, hlayer]
    rfl
  have hlaid : (s.modSlice c f).laid = s.laid := rfl
  have heighth : (s.modSlice c f).eighthOf l = s.eighthOf l := rfl
  simp only [State.blankLine, hstrip, hlaid, heighth, State.modSlice_lost hf]

theorem State.ckBase_modSlice (l : Nat) : (s.modSlice c f).ckBase c l = s.ckBase c l := by
  have hraw : (s.modSlice c f).rawLine c l = s.rawLine c l := by
    rw [State.rawLine, State.rawLine, State.blankLine_modSlice hf]
    rfl
  obtain ⟨hwq, hretry, -⟩ := hf.writes s.slices[c]
  have hout : (f s.slices[c]).sched.writesOut = s.slices[c].sched.writesOut := by rw [Sched.writesOut, Sched.writesOut, hwq, hretry]
  rw [State.ckBase, State.ckBase, State.modSlice_self, hout, hraw]

theorem State.setRawLine_modSlice (l : Nat) (d : Line) : (s.modSlice c f).setRawLine c l d = (s.setRawLine c l d).modSlice c f := by
  rw [State.setRawLine, State.setRawLine, State.blankLine_modSlice hf]
  generalize lineBytes _ = bytes
  rfl

theorem Slice.Beside.cleanLine (x : Slice) (l : Nat) (d : Line) : (f x).cleanLine l d = f (x.cleanLine l d) := by
  obtain ⟨hwq, hretry, hckc⟩ := hf.writes x
  simp only [Slice.cleanLine, Sched.dropEvicted, hf.putWrites, hwq, hretry, hckc]

/-- Such a change and the write-back of a check line can be made in either order. -/
theorem State.writeBackCk_modSlice (l : Nat) : (s.modSlice c f).writeBackCk c l = (s.writeBackCk c l).modSlice c f := by
  have hckc : (s.modSlice c f).slices[c].sched.ckc = s.slices[c].sched.ckc := by
    rw [State.modSlice_self]
    exact (hf.writes _).2.2
  by_cases hclean : ∀ k, (s.slices[c].sched.ckc.find? fun k => k.line == l) = some k → k.dirty = false
  · rw [State.writeBackCk_of_clean hclean, State.writeBackCk_of_clean (by rwa [hckc])]
  · push Not at hclean
    obtain ⟨k, hk, hdirty⟩ := hclean
    rw [Bool.ne_false_iff] at hdirty
    rw [State.writeBackCk_of_dirty hk hdirty, State.writeBackCk_of_dirty (by rwa [hckc]) hdirty, State.ckBase_modSlice hf,
      State.setRawLine_modSlice hf, State.modSlice_modSlice, State.modSlice_modSlice]
    simp only [hf.cleanLine]

theorem State.flushCk_modSlice : (s.modSlice c f).flushCk c = (s.flushCk c).modSlice c f := by
  have hckc : (s.modSlice c f).slices[c].sched.ckc = s.slices[c].sched.ckc := by
    rw [State.modSlice_self]
    exact (hf.writes _).2.2
  rw [State.flushCk, State.flushCk, hckc]
  generalize s.slices[c].sched.ckc.map CkLine.line = lines
  clear hckc
  induction lines generalizing s with
  | nil => rfl
  | cons l lines ih => rw [List.foldl_cons, List.foldl_cons, State.writeBackCk_modSlice hf, ih]

end

/-! ### The flush of a drain that is ordered (R211, R221) -/

/-- Every check line that `s` held at a slice has been written back, and no flush is ordered there. -/
structure Flushed (s : State) (c : Fin 80) (t : State) : Prop where
  flushing : t.slices[c].sched.flushing = false
  ckc : t.slices[c].sched.ckc = (s.flushCk c).slices[c].sched.ckc
  mem : t.mem = (s.flushCk c).mem

section
variable {s t : State} {c : Fin 80}

theorem Flushed.modSched (h : Flushed s c t) {f : Sched → Sched} (hflushing : ∀ x, x.flushing = false → (f x).flushing = false := by exact fun _ h => h)
    (hckc : ∀ x, (f x).ckc = x.ckc := by exact fun _ => rfl) : Flushed s c (t.modSched c f) := by
  refine ⟨?_, ?_, h.mem⟩ <;> rw [State.modSched_self]
  · exact hflushing _ h.flushing
  · exact (hckc _).trans h.ckc

/-- The end of a drain that has been flushed writes nothing more. -/
theorem Flushed.endDrain (h : Flushed s c t) : Flushed s c (t.endDrain c) := by
  simp only [State.endDrain, h.flushing, Bool.false_eq_true, if_false]
  split
  · exact h.modSched fun _ _ => rfl
  · exact h

/-- A drain with nothing queued flushes at its end. -/
theorem Flushed.ofDrain {f : Slice → Slice} (hf : Slice.Beside f) (hwq : s.slices[c].sched.wq = []) (hdrain : (f s.slices[c]).sched.drain = true)
    (hflushing : (f s.slices[c]).sched.flushing = true) : Flushed s c ((s.modSlice c f).endDrain c) := by
  have hempty : (f s.slices[c]).sched.wq = [] := (hf.writes _).1.trans hwq
  simp only [State.endDrain, State.modSlice_self, hempty, hdrain, hflushing, List.isEmpty_nil, Bool.and_self, if_true, State.flushCk_modSlice hf]
  refine ⟨?_, ?_, rfl⟩ <;> rw [State.modSched_self]
  rw [State.modSlice_self]
  exact (hf.writes _).2.2

/-- So does a Gust that ends, or the drain behind it. -/
theorem Flushed.ofGust (h : Flushed s c (t.endDrain c)) : Flushed s c ((t.stopGust c).endDrain c) := by
  unfold State.stopGust
  split
  · exact h.modSched.endDrain
  · exact h

/-- The order of a drain that ends in a flush. -/
def orderedFlush (x : Slice) : Slice := { x with sched := { x.sched with drain := true, flushing := true } }

/-- A Gust of a drain that has been ordered. -/
def drainGust (x : Slice) : Slice := { x with sched := { x.sched with gust := true, gustCause := 4, gustDone := 0 }, cnt := bumpAt x.cnt 4 }

theorem State.startGust_drain (s : State) (c : Fin 80) : s.startGust c 4 = s.modSlice c drainGust := by
  rw [State.startGust, State.bumpCh, State.modSched, State.modSlice_modSlice]
  rfl

theorem State.orderDrain_ordered (s : State) (c : Fin 80) :
    (s.modSched c fun x => { x with drain := true, flushing := x.flushing || true }) = s.modSlice c orderedFlush := by
  simp only [Bool.or_true]
  rfl

/-- With no write queued the flush that is ordered is done at once. -/
theorem Flushed.orderDrain (hwq : s.slices[c].sched.wq = []) : Flushed s c (s.orderDrain c true) := by
  unfold State.orderDrain
  rw [State.orderDrain_ordered]
  extract_lets ordered on begun
  refine .ofGust ?_
  unfold begun
  split
  · exact .ofDrain {} hwq rfl rfl
  · rw [State.startGust_drain, State.modSlice_modSlice]
    exact .ofDrain (Slice.Beside.comp (f := orderedFlush) {} (g := drainGust) {}) hwq rfl rfl

/-- A drain that still has writes queued goes on. -/
theorem State.endDrain_of_queued (hwq : s.slices[c].sched.wq ≠ []) : s.endDrain c = s := by
  simp only [State.endDrain, List.isEmpty_eq_false_iff.2 hwq, Bool.and_false, Bool.false_eq_true, if_false]

/-- So does its Gust. -/
theorem State.stopGust_of_queued (hwq : s.slices[c].sched.wq ≠ []) (hcause : s.slices[c].sched.gustCause = 4) : s.stopGust c = s := by
  have hover : s.gustOver c = false := by
    simp only [State.gustOver, hcause, List.isEmpty_eq_false_iff.2 hwq]
    rfl
  rw [State.stopGust, if_neg (by rw [hover, Bool.and_false]; decide)]

/-- With writes queued the flush that is ordered waits for a Gust of cause 4. -/
theorem State.orderDrain_of_queued (hwq : s.slices[c].sched.wq ≠ [])
    (hother : s.slices[c].sched.gust = false ∨ s.slices[c].sched.gustCause ≠ 4) :
    s.orderDrain c true = s.modSlice c fun x => drainGust (orderedFlush x) := by
  have hon : ((s.modSlice c orderedFlush).slices[c].sched.gust && (s.modSlice c orderedFlush).slices[c].sched.gustCause == 4) = false := by
    rw [State.modSlice_self]
    rcases hother with hidle | hcause
    · exact Bool.and_eq_false_imp.2 fun h => absurd (hidle.symm.trans h) Bool.false_ne_true
    · exact Bool.and_eq_false_imp.2 fun _ => beq_false_of_ne hcause
  have hdue : (s.modSlice c orderedFlush).slices[c].sched.drainDue = true := by
    rw [State.modSlice_self]
    simp only [Sched.drainDue, orderedFlush, List.isEmpty_eq_false_iff.2 hwq, Bool.not_false, Bool.true_or, Bool.and_self]
  unfold State.orderDrain
  rw [State.orderDrain_ordered]
  simp only [hon, hdue, Bool.true_eq_false, decide_false, Bool.or_false, Bool.false_eq_true, if_false, State.startGust_drain, State.modSlice_modSlice]
  rw [State.stopGust_of_queued, State.endDrain_of_queued] <;> rw [State.modSlice_self]
  · exact hwq
  · exact hwq
  · rfl

end

end Sys2Proof.Machine

namespace Sys2Proof.Proofs
open Sys2Proof.Machine

section
variable {c : Fin 80} {s : State}

theorem parityAlert_marks {index : Nat} (hdrives : s.slices[c].drives = true) (hreset : s.slices[c].health.cmdReset = false)
    (halert : s.slices[c].sched.alert = none) (hindex : index < s.slices[c].sched.retry.length) :
    Completes (.parityAlert c index) s fun t => t.slices[c].sched = { s.slices[c].sched with alert := some index } ∧ t.mem = s.mem := by
  have hraised := State.raise_keeps ((s.modSched c fun x => { x with alert := some index }).bumpCh c 0) (pageCh c) 0
  refine ⟨_, congrArg Host.Outcome.next (if_neg ?_), ?_, (hraised.p .mem (by decide)).trans rfl⟩
  · simp [-Fin.getElem_fin, hdrives, hreset, halert, hindex]
  · rw [State.slices_of_keeps hraised (by decide), State.bumpCh_sched, State.modSched_self]

section
variable {index : Nat} (halert : s.slices[c].sched.alert = some index)
include halert

theorem replayReissue_clears : exec (.replayReissue c false false) s = .next (s.modSched c fun x => { x with alert := none }) :=
  congrArg Host.Outcome.next (if_neg (by rw [halert]; exact Bool.false_ne_true))

/-- A second alert, or a bad copy, is a fault of the PHY. -/
theorem replayReissue_resets {again copyBad : Bool} (hbad : (again || copyBad) = true) :
    Completes (.replayReissue c again copyBad) s fun t => t.slices[c].health.cmdReset = true := by
  refine ⟨_, congrArg Host.Outcome.next ((if_neg (by rw [halert]; exact Bool.false_ne_true)).trans (if_pos hbad)), ?_⟩
  beta_reduce
  rw [State.modHealth_self]

end

theorem gustWrAge_starts {o : MemOp} {rest : List MemOp} (hidle : s.slices[c].sched.gust = false) (hwq : s.slices[c].sched.wq = o :: rest)
    (hage : s.wrAgeNs c ≤ s.waited o) (hissue : s.mayIssue c = true) : Completes (.gustWrAge c) s fun t =>
      t.slices[c].sched = { s.slices[c].sched with gust := true, gustCause := 2, gustDone := 0 } ∧ t.mem = s.mem := by
  have hexec : exec (.gustWrAge c) s = execGustWrAge c s := rfl
  refine ⟨s.startGust c 2, ?_, s.startGust_sched c 2, rfl⟩
  simp only [hexec, execGustWrAge, hwq, hidle, hissue, decide_eq_true hage, Bool.not_false, Bool.and_self, if_true]

section
variable (hlive : s.pageLive (0x80 + c.val) = true)
include hlive

theorem ckcFlush_waits (hwq : s.slices[c].sched.wq ≠ []) (hother : s.slices[c].sched.gust = false ∨ s.slices[c].sched.gustCause ≠ 4) :
    Completes (.ckcFlush c) s fun t => t.slices[c].sched =
      { s.slices[c].sched with drain := true, flushing := true, gust := true, gustCause := 4, gustDone := 0 } ∧ t.mem = s.mem := by
  have hexec : exec (.ckcFlush c) s = .next (s.orderDrain c true) := congrArg Host.Outcome.next (if_pos hlive)
  rw [State.orderDrain_of_queued hwq hother] at hexec
  refine ⟨_, hexec, ?_, rfl⟩
  rw [State.modSlice_self]
  rfl

theorem ckcFlush_flushes (hwq : s.slices[c].sched.wq = []) : Completes (.ckcFlush c) s fun t =>
    t.slices[c].sched.flushing = false ∧ t.slices[c].sched.ckc = (s.flushCk c).slices[c].sched.ckc ∧ t.mem = (s.flushCk c).mem :=
  have hflushed : Flushed s c (s.orderFlush c) := .orderDrain hwq
  ⟨_, congrArg Host.Outcome.next (if_pos hlive), hflushed.flushing, hflushed.ckc, hflushed.mem⟩

end

end

/-- Settles O23, command by command. -/
theorem sliceCommands : Obligations.SliceCommands := by
  unfold Obligations.SliceCommands
  intro c index s
  exact ⟨parityAlert_marks, fun halert => ⟨replayReissue_clears halert, replayReissue_resets halert rfl, replayReissue_resets halert rfl⟩,
    fun _ _ => gustWrAge_starts, ckcFlush_waits, ckcFlush_flushes, fun hlive => congrArg Host.Outcome.next (if_pos hlive)⟩

end Sys2Proof.Proofs
end

section
/-!
Failures (O28): a slice that serves no member is declared failed with no change of a member or of memory, and a failed slice that answers
its probe is quarantined (R258, R261, R279).
-/
namespace Sys2Proof.Machine

/-! ### A slice that serves no member is declared failed (R258, R261) -/

/-- A slice recorded as FAILED, with its cause and time, and the failure counted. -/
def State.recordFailed (s : State) (c : Fin 80) (cause : BitVec 4) : State :=
  let t := s.modHealth c fun h => { h with role := roleFailed, cause := cause, failTime := s.tb, cmdReset := false }
  { t with spr := { t.spr with failCnt := satInc t.spr.failCnt } }

/-- The failure notified and logged. -/
def State.noteFailed (s : State) (c : Fin 80) (cause : BitVec 4) : State :=
  (s.raise pageSpr 0).logError { cls := clsRcv, page := pageCh c, code := 0x0010, detail := cause.setWidth 64 }

/-- What follows once a slice of no member is fenced off: the count of free spares, the mode and the check of the shares. -/
def State.afterFence (s : State) (spare : Bool) : State := (if spare then s.noteSpareCount else s).followMembers.detectCut 0

/-- No member fails with it. -/
theorem State.declareFailed_of_unseated {s : State} {c : Fin 80} {cause : BitVec 4} (hmem : s.slices[c].health.mem = none)
    (hfailed : s.role c ≠ roleFailed) (hunused : s.role c ≠ roleUnused) (hunavailable : s.role c ≠ roleUnavailable) (hcause : cause ≠ 7) :
    s.declareFailed c cause =
      (((s.recordFailed c cause).noteFailed c cause).setFence c true).afterFence (decide (s.role c = roleSpareFree)) := by
  have hdeclared : ¬ (s.slices[c].health.role = roleFailed ∨ s.slices[c].health.role = roleUnused ∨ s.slices[c].health.role = roleUnavailable) :=
    not_or.2 ⟨hfailed, not_or.2 ⟨hunused, hunavailable⟩⟩
  simp only [State.declareFailed, if_neg hdeclared, hmem, hcause, false_and, if_false, Option.isSome_none, Bool.false_eq_true,
    State.afterFence, decide_eq_true_eq]
  rfl

section
variable (s : State) (c : Fin 80) (cause : BitVec 4) (spare : Bool)

theorem State.recordFailed_health : (s.recordFailed c cause).slices[c].health =
    { s.slices[c].health with role := roleFailed, cause := cause, failTime := s.tb, cmdReset := false } :=
  s.modHealth_self c fun h => { h with role := roleFailed, cause := cause, failTime := s.tb, cmdReset := false }

theorem State.noteFailed_keeps : Keeps 0x234080204 s (s.noteFailed c cause) :=
  (State.logError_keeps ..).on ((State.raise_keeps ..).mono (by decide)) (by decide)

theorem State.setFence_self : (s.setFence c true).fab.fence.getLsbD c.val = true := by
  simp [State.setFence, c.isLt]

theorem State.noteSpareCount_failCnt : s.noteSpareCount.spr.failCnt = s.spr.failCnt := by
  unfold State.noteSpareCount
  extract_lets low
  exact (congrArg Spares.failCnt ((State.raiseIf_keeps ..).p .spr (by decide))).trans rfl

theorem State.afterFence_keeps : Keeps 0x1410210 s (s.afterFence spare) :=
  (State.detectCut_keeps ..).on ((State.followMembers_keeps _).on
    (.ite (fun _ => (State.noteSpareCount_keeps _).mono (by decide)) fun _ => .rfl') (by decide)) (by decide)

theorem State.afterFence_failCnt : (s.afterFence spare).spr.failCnt = s.spr.failCnt := by
  have hspr : (s.afterFence spare).spr = (if spare then s.noteSpareCount else s).spr :=
    ((State.detectCut_keeps ..).on ((State.followMembers_keeps _).mono (by decide)) (by decide) : Keeps 0x410210 _ _).p .spr (by decide)
  rw [hspr]
  split
  · exact s.noteSpareCount_failCnt
  · rfl

end

/-! ### The probe (R279) -/

/-- A slice that is not FAILED any more: its mode registers have answered. -/
theorem State.quarantine_health {s : State} {c : Fin 80} (hfailed : s.role c = roleFailed) : (s.quarantine c).slices[c].health =
    { s.slices[c].health with role := roleQuarantine, mem := none, tested := false, retrained := false } := by
  rw [State.quarantine, if_pos hfailed, State.slices_of_keeps (State.raise_keeps ..) (by decide), State.ownLine_health, State.modHealth_self]

theorem State.pushCmd_health (s : State) (c : Fin 80) (k : Cmd) : (s.pushCmd c k).slices[c].health = s.slices[c].health := by
  unfold State.pushCmd
  split
  · rfl
  · rw [State.modSched_health]

end Sys2Proof.Machine

namespace Sys2Proof.Proofs
open Sys2Proof.Machine

section
variable {c : Fin 80} {s : State}

theorem declareFailed_records {cause : BitVec 4} (hmem : s.slices[c].health.mem = none) (hfailed : s.role c ≠ roleFailed)
    (hunused : s.role c ≠ roleUnused) (hunavailable : s.role c ≠ roleUnavailable) (hcause : cause ≠ 7) :
    (s.declareFailed c cause).slices[c].health =
      { s.slices[c].health with role := roleFailed, cause := cause, failTime := s.tb, cmdReset := false } ∧
    (s.declareFailed c cause).spr.failCnt = satInc s.spr.failCnt ∧ (s.declareFailed c cause).fab.fence.getLsbD c.val = true ∧
    (s.declareFailed c cause).mem = s.mem := by
  rw [State.declareFailed_of_unseated hmem hfailed hunused hunavailable hcause]
  have hnoted := (s.recordFailed c cause).noteFailed_keeps c cause
  have hfenced := ((s.recordFailed c cause).noteFailed c cause).setFence_keeps c true
  have hafter := (((s.recordFailed c cause).noteFailed c cause).setFence c true).afterFence_keeps (decide (s.role c = roleSpareFree))
  refine ⟨?_, ?_, ?_, ?_⟩
  · rw [State.slices_of_keeps hafter (by decide), State.slices_of_keeps hfenced (by decide), State.slices_of_keeps hnoted (by decide),
      State.recordFailed_health]
  · exact (State.afterFence_failCnt _ _).trans (congrArg Spares.failCnt ((hfenced.p .spr (by decide)).trans (hnoted.p .spr (by decide))))
  · rw [show _ = _ from hafter.p .fab (by decide)]
    exact State.setFence_self _ c
  · exact (hafter.p .mem (by decide)).trans ((hfenced.p .mem (by decide)).trans (hnoted.p .mem (by decide)))

section
variable (hfailed : s.role c = roleFailed) (hon : s.slices[c].on = true) (hservice : s.inService = true) (hawake : s.pwr.phase = .awake)
include hfailed hon hservice hawake

theorem exec_quarantineProbe (answered : Bool) : exec (.quarantineProbe c answered) s = .next (
    if answered then ((s.modHealth c fun h => { h with cmdReset := false }).pushCmd c .mrr).quarantine c
    else (s.modHealth c fun h => { h with cmdReset := false }).pushCmd c .mrr) :=
  congrArg Host.Outcome.next (if_pos ⟨hfailed, hon, hservice, hawake⟩)

theorem quarantineProbe_quarantines : Completes (.quarantineProbe c true) s fun t => t.slices[c].health =
    { s.slices[c].health with cmdReset := false, role := roleQuarantine, mem := none, tested := false, retrained := false } := by
  have hprobed : ((s.modHealth c fun h => { h with cmdReset := false }).pushCmd c .mrr).slices[c].health =
      { s.slices[c].health with cmdReset := false } := by
    rw [State.pushCmd_health, State.modHealth_self]
  refine ⟨_, exec_quarantineProbe hfailed hon hservice hawake true, ?_⟩
  beta_reduce
  rw [if_pos rfl, State.quarantine_health ((congrArg Health.role hprobed).trans hfailed), hprobed]

end

end

/-- Settles O28, command by command. -/
theorem failureSteps : Obligations.FailureSteps := by
  unfold Obligations.FailureSteps
  intro c cause s
  exact ⟨fun hslow => congrArg Host.Outcome.next (if_pos hslow), declareFailed_records, rfl, fun hfailed hon hservice hawake =>
    ⟨quarantineProbe_quarantines hfailed hon hservice hawake, exec_quarantineProbe hfailed hon hservice hawake false⟩⟩

end Sys2Proof.Proofs
end

section
/-!
Lulls (O24): what a drain, and a Lull requested, leave of a slice, and what a Lull that passes makes of it (R241 to R244, R308).
-/
namespace Sys2Proof.Machine

/-! ### What a drain leaves of a slice (R211, R221) -/

/-- Slice `c` alone differs, and of it neither the training state nor the open rows. -/
structure DrainKept (c : Fin 80) (s t : State) : Prop where
  train : t.slices[c].train = s.slices[c].train
  rows : t.slices[c].sched.rows = s.slices[c].sched.rows
  other : ∀ d : Fin 80, d ≠ c → t.slices[d] = s.slices[d]

section
variable {c : Fin 80}

theorem DrainKept.refl (s : State) : DrainKept c s s := ⟨rfl, rfl, fun _ _ => rfl⟩

theorem DrainKept.trans {s t u : State} (h : DrainKept c s t) (h' : DrainKept c t u) : DrainKept c s u :=
  ⟨h'.train.trans h.train, h'.rows.trans h.rows, fun d hd => (h'.other d hd).trans (h.other d hd)⟩

/-- The same, the later change first. -/
theorem DrainKept.on {s t u : State} (h' : DrainKept c t u) (h : DrainKept c s t) : DrainKept c s u := h.trans h'

theorem DrainKept.ofSlices {s t : State} (h : t.slices = s.slices) : DrainKept c s t := by
  refine ⟨?_, ?_, fun d _ => ?_⟩ <;> rw [h]

theorem DrainKept.ite {s t u : State} {p : Prop} [Decidable p] (h : p → DrainKept c s t) (h' : ¬p → DrainKept c s u) :
    DrainKept c s (if p then t else u) := by
  split
  · exact h ‹_›
  · exact h' ‹_›

theorem DrainKept.modSlice (s : State) {f : Slice → Slice} (htrain : ∀ x, (f x).train = x.train := by exact fun _ => rfl)
    (hrows : ∀ x, (f x).sched.rows = x.sched.rows := by exact fun _ => rfl) : DrainKept c s (s.modSlice c f) := by
  refine ⟨?_, ?_, fun d hd => s.modSlice_other c d f hd⟩ <;> rw [State.modSlice_self]
  · exact htrain _
  · exact hrows _

theorem DrainKept.modSched (s : State) {f : Sched → Sched} (hrows : ∀ x, (f x).rows = x.rows := by exact fun _ => rfl) :
    DrainKept c s (s.modSched c f) := .modSlice s (fun _ => rfl) fun x => hrows x.sched

theorem DrainKept.writeBackCk (s : State) (l : Nat) : DrainKept c s (s.writeBackCk c l) := by
  by_cases hclean : ∀ k, (s.slices[c].sched.ckc.find? fun k => k.line == l) = some k → k.dirty = false
  · rw [State.writeBackCk_of_clean hclean]
    exact .refl s
  · push Not at hclean
    obtain ⟨k, hk, hdirty⟩ := hclean
    rw [State.writeBackCk_of_dirty hk (Bool.ne_false_iff.1 hdirty)]
    exact DrainKept.on (.modSlice _) (.ofSlices (s.setRawLine_slices c l _))

theorem DrainKept.flushCk (s : State) : DrainKept c s (s.flushCk c) :=
  List.foldlRecOn (motive := DrainKept c s) _ _ (.refl s) fun t ht l _ => ht.trans (.writeBackCk t l)

/-- The flush that is part of a drain, where one is. -/
theorem DrainKept.flushIf (s : State) : DrainKept c s (if s.slices[c].sched.flushing then s.flushCk c else s) :=
  .ite (fun _ => .flushCk s) fun _ => .refl s

theorem DrainKept.endDrain (s : State) : DrainKept c s (s.endDrain c) :=
  .ite (fun _ => DrainKept.on (.modSched _) (.flushIf s)) fun _ => .refl s

theorem DrainKept.stopGust (s : State) : DrainKept c s (s.stopGust c) :=
  .ite (fun _ => DrainKept.on (.modSched _) (.endDrain s)) fun _ => .refl s

theorem DrainKept.startGust (s : State) (cause : BitVec 3) : DrainKept c s (s.startGust c cause) := by
  unfold State.startGust State.bumpCh
  exact .on (.modSlice _) (.modSched s)

theorem DrainKept.orderDrain (s : State) (flush : Bool) : DrainKept c s (s.orderDrain c flush) := by
  unfold State.orderDrain
  extract_lets ordered on begun
  have hordered : DrainKept c s ordered := .modSched s
  have hbegun : DrainKept c ordered begun := .ite (fun _ => .refl ordered) fun _ => .startGust ordered 4
  exact ((hordered.trans hbegun).trans (.stopGust begun)).trans (.endDrain _)

theorem DrainKept.dropDrain (s : State) : DrainKept c s (s.dropDrain c) := by
  unfold State.dropDrain
  exact .on (.modSched _) (.flushIf s)

theorem DrainKept.pushCmd (s : State) (k : Cmd) : DrainKept c s (s.pushCmd c k) := .ite (fun _ => .refl s) fun _ => .modSched s

end

/-! ### A drain for a Lull stands until its window opens (R243) -/

/-- A drain ordered for a Lull. -/
structure State.Draining (s : State) (c : Fin 80) : Prop where
  lullReq : s.slices[c].train.lullReq = true
  drain : s.slices[c].sched.drain = true

section
variable {s : State} {c : Fin 80}

theorem State.Draining.modSched (h : s.Draining c) {f : Sched → Sched} (hdrain : ∀ x, (f x).drain = x.drain := by exact fun _ => rfl) :
    (s.modSched c f).Draining c := by
  constructor <;> rw [State.modSched, State.modSlice_self]
  · exact h.lullReq
  · exact (hdrain _).trans h.drain

theorem State.Draining.startGust (h : s.Draining c) (cause : BitVec 3) : (s.startGust c cause).Draining c := by
  constructor
  · rw [(DrainKept.startGust s cause).train]
    exact h.lullReq
  · rw [State.startGust_sched]
    exact h.drain

theorem State.Draining.endDrain (h : s.Draining c) : (s.endDrain c).Draining c := by
  refine ⟨(congrArg Train.lullReq (DrainKept.endDrain s).train).trans h.lullReq, ?_⟩
  unfold State.endDrain
  extract_lets x flushed more
  split
  · rw [State.modSched_self]
    have hmore : flushed.slices[c].train.lullReq = true := (congrArg Train.lullReq (DrainKept.flushIf s).train).trans h.lullReq
    exact Bool.or_eq_true_iff.2 (.inl hmore)
  · exact h.drain

theorem State.Draining.stopGust (h : s.Draining c) : (s.stopGust c).Draining c := by
  unfold State.stopGust
  split
  · exact h.endDrain.modSched
  · exact h

theorem State.Draining.orderDrain (hlull : s.slices[c].train.lullReq = true) : (s.orderDrain c false).Draining c := by
  unfold State.orderDrain
  extract_lets ordered on begun
  have hordered : ordered.Draining c :=
    ⟨(congrArg Train.lullReq (DrainKept.modSched s).train).trans hlull, congrArg Sched.drain (State.modSched_self ..)⟩
  have hbegun : begun.Draining c := by
    unfold begun
    split
    · exact hordered
    · exact hordered.startGust 4
  exact hbegun.stopGust.endDrain

end

/-! ### A Lull requested (R242, R243, R308) -/

/-- A slice that a Lull is requested for. -/
def State.askLull (s : State) (c : Fin 80) : State := s.modTrain c fun x => { x with lullReq := true }

section
variable {s : State} {c : Fin 80}

theorem State.modTrain_self (s : State) (c : Fin 80) (f : Train → Train) : (s.modTrain c f).slices[c].train = f s.slices[c].train :=
  congrArg Slice.train (s.modSlice_self c _)

theorem State.modTrain_other (s : State) {c d : Fin 80} (h : d ≠ c) (f : Train → Train) : (s.modTrain c f).slices[d] = s.slices[d] :=
  s.modSlice_other c d _ h

theorem State.modTrain_sched (s : State) (c : Fin 80) (f : Train → Train) : (s.modTrain c f).slices[c].sched = s.slices[c].sched := by
  rw [State.modTrain, State.modSlice_self]

theorem State.modTrain_refreshes (s : State) (c : Fin 80) {f : Train → Train} (hst : ∀ x, (f x).st = x.st := by exact fun _ => rfl) :
    (s.modTrain c f).slices[c].refreshes = s.slices[c].refreshes := by
  rw [State.modTrain, State.modSlice_self]
  simp only [Slice.refreshes, hst]

section
variable (hrefreshes : s.slices[c].refreshes = true)
include hrefreshes

theorem State.requestLull_of_refreshes : s.requestLull c = if s.votes then s.askLull c else (s.askLull c).orderDrain c false :=
  if_neg (Bool.eq_false_iff.not_left.2 hrefreshes)

/-- Outside a vote the request orders a drain. -/
theorem State.requestLull_awake (hvotes : s.votes = false) : s.requestLull c = (s.askLull c).orderDrain c false := by
  rw [State.requestLull_of_refreshes hrefreshes, hvotes]
  rfl

theorem State.requestLull_voting (hvotes : s.votes = true) : s.requestLull c = s.askLull c := by
  rw [State.requestLull_of_refreshes hrefreshes, if_pos hvotes]

/-- The request is recorded, and a drain follows it at most. -/
theorem State.requestLull_kept : DrainKept c (s.askLull c) (s.requestLull c) := by
  rw [State.requestLull_of_refreshes hrefreshes]
  exact .ite (fun _ => .refl _) fun _ => .orderDrain _ false

theorem State.requestLull_train : (s.requestLull c).slices[c].train = { s.slices[c].train with lullReq := true } :=
  (State.requestLull_kept hrefreshes).train.trans (s.modTrain_self c _)

theorem State.requestLull_other {d : Fin 80} (hd : d ≠ c) : (s.requestLull c).slices[d] = s.slices[d] :=
  ((State.requestLull_kept hrefreshes).other d hd).trans (s.modTrain_other hd _)

end

end

/-! ### Windows (R216, R243, R249) -/

/-- The rows of a slice closed where its window opens; the drain ordered for the window is over. -/
def State.closeRows (s : State) (c : Fin 80) : State := ((s.pushCmd c .preAb).dropDrain c).modSched c fun x => { x with rows := [] }

section
variable (s : State) (c : Fin 80)

theorem State.closeRows_keeps : Keeps 0x10000800000 s (s.closeRows c) :=
  (State.modSched_keeps ..).on ((State.dropDrain_keeps ..).on ((s.pushCmd_keeps c _).mono (by decide)) (by decide)) (by decide)

theorem State.modSched_train (d : Fin 80) (f : Sched → Sched) : (s.modSched c f).slices[d].train = s.slices[d].train := by
  rw [State.modSched, State.modSlice_getElem]
  split
  next h => rw [h]
  next => rfl

theorem State.closeRows_train : (s.closeRows c).slices[c].train = s.slices[c].train := by
  rw [State.closeRows, State.modSched_train]
  exact ((DrainKept.pushCmd s .preAb).trans (.dropDrain _)).train

theorem State.closeRows_sched : (s.closeRows c).slices[c].sched.rows = [] ∧ (s.closeRows c).slices[c].sched.drain = false := by
  have hdropped : ((s.pushCmd c .preAb).dropDrain c).slices[c].sched.drain = false := by rw [State.dropDrain, State.modSched_self]
  rw [State.closeRows, State.modSched_self]
  simp only [hdropped, and_self]

end

/-! ### A Lull that passes (R243, R244) -/

/-- The window of a Lull taken. -/
def State.openLull (s : State) (c : Fin 80) : State := ((s.takeWindow c (s.lullNs c)).bumpTrn c 0).closeRows c

/-- The request of a Lull met. -/
def Train.lulled (x : Train) (now : Time) : Train := { x with lullReq := false, temp := x.tempNow, tLull := now }

/-- Drift and a failed margin made good. -/
def Train.tracked (x : Train) : Train := { x with marginFail := false, drift := 0 }

/-- One snapshot written again. -/
def Train.putSnap (x : Train) (pl : Fin 4) (v : Snapshot) : Train := { x with snaps := x.snaps.set pl v }

section
variable (s : State) (c : Fin 80)

theorem State.openLull_tb : (s.openLull c).tb = s.tb :=
  ((State.closeRows_keeps _ c).on ((State.bumpTrn_keeps ..).on ((s.takeWindow_keeps c _).mono (by decide)) (by decide)) (by decide) :
    Keeps 0x10000900000 s _).p .tb (by decide)

theorem State.openLull_sched : (s.openLull c).slices[c].sched.rows = [] ∧ (s.openLull c).slices[c].sched.drain = false := by
  rw [State.openLull]
  exact State.closeRows_sched _ c

theorem State.lullSnapshot_slices (moved : Bool) : ∃ pl v, (s.lullSnapshot c moved).slices = (s.modTrain c fun x => x.putSnap pl v).slices :=
  ⟨_, _, rfl⟩

theorem State.runLull_pass : s.runLull c .pass =
    (((s.openLull c).modTrain c fun x => x.lulled (s.openLull c).tb).lullSnapshot c false).modTrain c Train.tracked := rfl

theorem State.runLull_sched : (s.runLull c .pass).slices[c].sched = (s.openLull c).slices[c].sched := by
  obtain ⟨pl, v, hsnap⟩ := ((s.openLull c).modTrain c fun x => x.lulled (s.openLull c).tb).lullSnapshot_slices c false
  rw [State.runLull_pass, State.modTrain_sched, hsnap, State.modTrain_sched, State.modTrain_sched]

theorem State.runLull_train : ∃ pl v, (s.runLull c .pass).slices[c].train =
    (((s.openLull c).slices[c].train.lulled s.tb).putSnap pl v).tracked := by
  obtain ⟨pl, v, hsnap⟩ := ((s.openLull c).modTrain c fun x => x.lulled (s.openLull c).tb).lullSnapshot_slices c false
  exact ⟨pl, v, by rw [State.runLull_pass, State.modTrain_self, hsnap, State.modTrain_self, State.modTrain_self, State.openLull_tb]⟩

end

end Sys2Proof.Machine

namespace Sys2Proof.Proofs
open Sys2Proof.Machine

section
variable {c : Fin 80} {s : State}

theorem exec_oscillatorPoll {drift : BitVec 8} (hrefreshes : s.slices[c].refreshes = true) (hrole : s.role c = roleHome ∨ s.role c = roleAttached)
    (hpoll : s.cfgField (pageCh c) 0x104 5 0 ≠ 0) : exec (.oscillatorPoll c drift) s = .next (
      if s.cfgField (pageCh c) 0x104 17 12 ≠ 0 ∧ s.cfgField (pageCh c) 0x104 17 12 ≤ drift.toInt.natAbs then
        (s.modTrain c fun x => { x with drift := drift }).requestLull c
      else s.modTrain c fun x => { x with drift := drift }) := by
  refine congrArg Host.Outcome.next (if_neg (ne_true_of_eq_false ?_))
  simp only [hrefreshes, hpoll]
  rcases hrole with hhome | hattached
  · rw [hhome]
    rfl
  · rw [hattached]
    rfl

theorem oscillatorPoll_records {drift : BitVec 8} (hrefreshes : s.slices[c].refreshes = true) (hrole : s.role c = roleHome ∨ s.role c = roleAttached)
    (hpoll : s.cfgField (pageCh c) 0x104 5 0 ≠ 0) :
    Completes (.oscillatorPoll c drift) s fun t => t.slices[c].train.drift = drift ∧ t.slices[c].train.st = s.slices[c].train.st ∧
      (s.cfgField (pageCh c) 0x104 17 12 ≠ 0 → s.cfgField (pageCh c) 0x104 17 12 ≤ drift.toInt.natAbs → t.slices[c].train.lullReq = true) := by
  refine ⟨_, exec_oscillatorPoll hrefreshes hrole hpoll, ?_⟩
  split
  · rw [State.requestLull_train ((s.modTrain_refreshes c).trans hrefreshes), State.modTrain_self]
    exact ⟨rfl, rfl, fun _ _ => rfl⟩
  next hwithin =>
    rw [State.modTrain_self]
    exact ⟨rfl, rfl, fun hlimit hbeyond => absurd ⟨hlimit, hbeyond⟩ hwithin⟩

/-- An interval's end and CH_TRN_CMD.LULL both request a Lull (R242). -/
theorem exec_lullRequest {x : Instr} (hx : (x = .lullIntervalExpiry c ∧ s.cfgField (pageCh c) 0x104 31 22 ≠ 0) ∨
    (x = .lull c ∧ s.pageLive (0x80 + c.val) = true)) : exec x s = .next (s.requestLull c) := by
  rcases hx with ⟨rfl, hinterval⟩ | ⟨rfl, hlive⟩
  · exact congrArg Host.Outcome.next (if_neg hinterval)
  · exact congrArg Host.Outcome.next (if_pos hlive)

theorem lullWindow_passes (hopen : s.lullMayOpen c = true) : Completes (.lullWindow c .pass) s fun t =>
    t.slices[c].train.lullReq = false ∧ t.slices[c].sched.drain = false ∧ t.slices[c].train.marginFail = false ∧ t.slices[c].train.drift = 0 ∧
    t.slices[c].train.tLull = s.tb ∧ t.slices[c].sched.rows = [] := by
  obtain ⟨pl, v, htrain⟩ := s.runLull_train c
  obtain ⟨hrows, hdrain⟩ := s.openLull_sched c
  refine ⟨_, congrArg Host.Outcome.next (if_pos hopen), ?_⟩
  beta_reduce
  rw [htrain, State.runLull_sched]
  exact ⟨rfl, hdrain, rfl, rfl, rfl, hrows⟩

end

/-- Settles O24: a Lull requested is recorded with the drain that it orders, and one that passes leaves nothing of the request. -/
theorem lullCommands : Obligations.LullCommands := by
  unfold Obligations.LullCommands
  intro c drift s hrefreshes
  refine ⟨oscillatorPoll_records hrefreshes, fun x hx => ⟨fun hvotes => ?_, fun hvotes => ?_⟩, lullWindow_passes⟩ <;>
    refine ⟨_, exec_lullRequest hx, congrArg Train.lullReq (State.requestLull_train hrefreshes), ?_, fun d hd => State.requestLull_other hrefreshes hd⟩
  · rw [State.requestLull_awake hrefreshes hvotes]
    exact (State.Draining.orderDrain (congrArg Train.lullReq (s.modTrain_self c _))).drain
  · rw [State.requestLull_voting hrefreshes hvotes]
    exact s.modTrain_sched c _

end Sys2Proof.Proofs
end

section
/-!
Full retrains and margin scans (O25): what training, a set point and a retrain make of a slice (R233, R235, R236, R245 to R247, R252, R255).
-/
namespace Sys2Proof.Machine

/-! ### Parts of a slice that training leaves -/

/-- What no training step changes of a slice: the fitted ranks and density, and the health. -/
def Slice.fitting (x : Slice) : BitVec 2 × BitVec 4 × Health := (x.ranks, x.dens, x.health)

section
variable (s : State) (c : Fin 80)

theorem State.modTrain_fitting (f : Train → Train) : (s.modTrain c f).slices[c].fitting = s.slices[c].fitting := by
  rw [State.modTrain, State.modSlice_self]
  rfl

theorem State.modSched_fitting (f : Sched → Sched) : (s.modSched c f).slices[c].fitting = s.slices[c].fitting := by
  rw [State.modSched, State.modSlice_self]
  rfl

theorem State.modHealth_train (f : Health → Health) : (s.modHealth c f).slices[c].train = s.slices[c].train := by
  rw [State.modHealth, State.modSlice_self]

end

/-! ### Set points (R232, R249, R252) -/

/-- A set point: the PL, the set of mode registers, link ECC and data bus inversion. -/
def Train.setPoint (x : Train) (pl : BitVec 2) (fsp lecc dbi : Bool) : Train := { x with pl := pl, fsp := fsp, lecc := lecc, dbi := dbi }

section
variable (s : State) (c : Fin 80)

theorem State.setLink_train : ∃ lecc dbi, (s.setLink c).slices[c].train =
    s.slices[c].train.setPoint s.slices[c].train.pl s.slices[c].train.fsp lecc dbi := by
  unfold State.setLink
  extract_lets x lecc
  exact ⟨_, _, s.modTrain_self c _⟩

theorem State.setLink_fitting : (s.setLink c).slices[c].fitting = s.slices[c].fitting := s.modTrain_fitting c _

/-- The set of mode registers turned over or not, with the PL, and the link set for it. -/
theorem State.movePl_train (pl : BitVec 2) (turn : Train → Bool) : ∃ fsp lecc dbi,
    ((s.modTrain c fun x => { x with pl := pl, fsp := turn x }).setLink c).slices[c].train = s.slices[c].train.setPoint pl fsp lecc dbi := by
  obtain ⟨lecc, dbi, hlink⟩ := (s.modTrain c fun x => { x with pl := pl, fsp := turn x }).setLink_train c
  refine ⟨turn s.slices[c].train, lecc, dbi, ?_⟩
  rw [hlink, State.modTrain_self]
  rfl

/-- The standard's timing loaded leaves each slice, but for its TCLAMP. -/
theorem State.loadTiming_slices (pl : BitVec 2) : (s.loadTiming c pl).slices = (s.modSched c fun x => { x with tclamp := false }).slices := by
  unfold State.loadTiming
  extract_lets loaded
  have hloaded : loaded.slices = s.slices :=
    List.foldlRecOn (motive := fun (t : State) => t.slices = s.slices) _ _ rfl fun t ht o _ => ((State.store_keeps ..).p .slices (by decide)).trans ht
  simp only [State.modSched, State.modSlice, hloaded]

theorem State.atPl_kept (pl : BitVec 2) : ∃ fsp lecc dbi, (s.atPl c pl).slices[c].train = s.slices[c].train.setPoint pl fsp lecc dbi ∧
    (s.atPl c pl).slices[c].fitting = s.slices[c].fitting ∧ (s.atPl c pl).slices[c].sched.rows = s.slices[c].sched.rows := by
  unfold State.atPl
  extract_lets load moved
  obtain ⟨fsp, lecc, dbi, htrain⟩ : ∃ fsp lecc dbi, moved.slices[c].train = s.slices[c].train.setPoint pl fsp lecc dbi := s.movePl_train c pl _
  have hfitting : moved.slices[c].fitting = s.slices[c].fitting := (State.setLink_fitting _ c).trans (s.modTrain_fitting c _)
  have hsched : moved.slices[c].sched = s.slices[c].sched := (State.modTrain_sched ..).trans (s.modTrain_sched c _)
  refine ⟨fsp, lecc, dbi, ?_⟩
  by_cases hload : load = true
  · rw [if_pos hload, State.loadTiming_slices, State.modSched_train, State.modSched_fitting, State.modSched_self, hsched]
    exact ⟨htrain, hfitting, rfl⟩
  · rw [if_neg hload]
    exact ⟨htrain, hfitting, by rw [hsched]⟩

theorem State.scanMove_train (pl : BitVec 2) (timing : Vector Reg 4) : ∃ fsp lecc dbi,
    (s.scanMove c pl timing).slices[c].train = s.slices[c].train.setPoint pl fsp lecc dbi := by
  unfold State.scanMove
  by_cases hthere : s.slices[c].train.pl = pl
  · rw [if_pos hthere]
    exact ⟨s.slices[c].train.fsp, s.slices[c].train.lecc, s.slices[c].train.dbi, by subst hthere; rfl⟩
  · rw [if_neg hthere, State.slices_of_keeps (State.putTiming_keeps ..) (by decide)]
    exact s.movePl_train c pl fun x => !x.fsp

end

/-! ### Snapshots (R235, R236) -/

/-- Snapshots taken, and which PLs have one. -/
def Train.putSnaps (x : Train) (snaps : Vector Snapshot 4) (valid : BitVec 4) : Train := { x with snaps := snaps, snapValid := valid }

/-- The PLs that have a snapshot once some have been taken. -/
def snapsWith (valid : BitVec 4) (l : List (BitVec 2)) : BitVec 4 := l.foldl (fun v p => v ||| (1#4 <<< p.toNat)) valid

/-- A training of all four PLs leaves a snapshot of each. -/
theorem snapsWith_all (valid : BitVec 4) : snapsWith valid (trainOrder none) = 0xF := by
  revert valid
  decide

section
variable (s : State) (c : Fin 80)

theorem State.takeSnapshot_slices (pl : BitVec 2) (saved : Option Snapshot) : ∃ snap, (s.takeSnapshot c pl saved).slices =
    (s.modTrain c fun x => x.putSnaps (x.snaps.set pl.toFin snap) (x.snapValid ||| (1#4 <<< pl.toNat))).slices := ⟨_, rfl⟩

theorem State.takeSnapshots_fitting (l : List (BitVec 2)) (saved : BitVec 2 → Option Snapshot) :
    (s.takeSnapshots c l saved).slices[c].fitting = s.slices[c].fitting := by
  refine List.foldlRecOn (motive := fun (t : State) => t.slices[c].fitting = s.slices[c].fitting) _ _ rfl fun t ht p _ => ?_
  obtain ⟨snap, htaken⟩ := t.takeSnapshot_slices c p (saved p)
  rw [htaken, State.modTrain_fitting, ht]

theorem State.takeSnapshots_train (l : List (BitVec 2)) (saved : BitVec 2 → Option Snapshot) : ∃ snaps,
    (s.takeSnapshots c l saved).slices[c].train = s.slices[c].train.putSnaps snaps (snapsWith s.slices[c].train.snapValid l) := by
  induction l generalizing s with
  | nil => exact ⟨s.slices[c].train.snaps, rfl⟩
  | cons p l ih =>
    obtain ⟨snap, htaken⟩ := s.takeSnapshot_slices c p (saved p)
    obtain ⟨snaps, hrest⟩ := ih (s.takeSnapshot c p (saved p))
    refine ⟨snaps, hrest.trans ?_⟩
    rw [htaken, State.modTrain_self]
    rfl

end

/-! ### The end of a full training (R235, R236) -/

/-- READY, nothing failed. -/
def Train.ready (x : Train) : Train := { x with st := 4, marginFail := false, drift := 0, failStep := 0, failPl := 0 }

/-- FAILED at a step and a set point. -/
def Train.failedAt (x : Train) (step : BitVec 3) (pl : BitVec 2) : Train := { x with st := 6, failStep := step, failPl := pl }

section
variable (s : State) (c : Fin 80) (x : TrainPlan)

theorem State.trained_kept : ∃ snaps fsp lecc dbi, (s.trained c x).slices[c].train =
      ((s.slices[c].train.putSnaps snaps (snapsWith s.slices[c].train.snapValid x.order)).ready).setPoint s.pwr.pl fsp lecc dbi ∧
    (s.trained c x).slices[c].fitting = s.slices[c].fitting := by
  obtain ⟨snaps, hsnaps⟩ := s.takeSnapshots_train c x.order x.saved
  obtain ⟨fsp, lecc, dbi, htrain, hfitting, -⟩ := ((s.takeSnapshots c x.order x.saved).modTrain c Train.ready).atPl_kept c s.pwr.pl
  refine ⟨snaps, fsp, lecc, dbi, htrain.trans ?_, hfitting.trans ?_⟩
  · rw [State.modTrain_self, hsnaps]
  · rw [State.modTrain_fitting, State.takeSnapshots_fitting]

theorem State.trainFailed_kept (step : BitVec 3) (pl : BitVec 2) : ∃ snaps, (s.trainFailed c x step pl).slices[c].train =
      (s.slices[c].train.putSnaps snaps (snapsWith s.slices[c].train.snapValid (x.order.takeWhile fun p => p != pl))).failedAt step pl ∧
    (s.trainFailed c x step pl).slices[c].fitting = s.slices[c].fitting := by
  obtain ⟨snaps, hsnaps⟩ := s.takeSnapshots_train c (x.order.takeWhile fun p => p != pl) x.saved
  refine ⟨snaps, ?_, ?_⟩ <;> rw [State.trainFailed, State.slices_of_keeps (State.raise_keeps ..) (by decide)]
  · rw [State.modTrain_self, hsnaps]
    rfl
  · rw [State.modTrain_fitting, State.takeSnapshots_fitting]

end

/-! ### Readback (R233) -/

/-- What the devices answered put on record, and the fitted ranks and density with it. -/
def State.noteReadback (s : State) (c : Fin 80) (d : Readback) : State :=
  (s.modTrain c fun x => { x with devId := devIdOf d, refuse := 0, leccCap := d.lecc }).modSlice c fun x => { x with ranks := d.ranks, dens := d.dens }

section
variable (s : State) (c : Fin 80) (d : Readback)

/-- Devices that are fitted, not refused and not short: training goes on. -/
theorem State.readBack_of_fitted (hfitted : d.ranks ≠ 0) (haccepted : refuseCode d = 0)
    (hlong : capHalves s.cap ≤ d.ranks.toNat * densHalves d.dens) : s.readBack c d = (s.noteReadback c d, 0) :=
  (if_neg hfitted).trans ((if_neg (not_not.2 haccepted)).trans (if_neg (Nat.not_lt.2 hlong)))

theorem State.noteReadback_train : (s.noteReadback c d).slices[c].train =
    { s.slices[c].train with devId := devIdOf d, refuse := 0, leccCap := d.lecc } := by
  rw [State.noteReadback, State.modSlice_self]
  exact s.modTrain_self c _

theorem State.noteReadback_fitting : (s.noteReadback c d).slices[c].fitting = (d.ranks, d.dens, s.slices[c].health) := by
  rw [State.noteReadback, State.modSlice_self, State.modTrain, State.modSlice_self]
  rfl

end

/-! ### What a retrain ends in (R245 to R247) -/

section
variable {s : State} {c : Fin 80}

theorem State.health_of_fitting {t : State} (h : t.slices[c].fitting = s.slices[c].fitting) : t.slices[c].health = s.slices[c].health :=
  congrArg (fun y => y.2.2) h

/-- A slice of no member trains all four PLs. -/
theorem State.retrainPlan_of_unseated (hmem : s.slices[c].health.mem = none) : (s.retrainPlan c).order = trainOrder none := by
  have habsent : s.isAbsent c = false := by
    unfold State.isAbsent
    rw [hmem]
  rw [State.retrainPlan, habsent]
  rfl

/-- No member rejoins on a slice that has none. -/
theorem State.rejoin_of_unseated (hmem : s.slices[c].health.mem = none) : s.rejoin c = s := by
  unfold State.rejoin
  rw [hmem]

/-- A slice in quarantine whose training has passed has been retrained, and is to be tested. -/
def State.markRetrained (s : State) (c : Fin 80) : State :=
  if s.role c = roleQuarantine then s.modHealth c fun h => { h with retrained := true, tested := false } else s

theorem State.markRetrained_kept (s : State) (c : Fin 80) : (s.markRetrained c).slices[c].health.mem = s.slices[c].health.mem ∧
    (s.markRetrained c).slices[c].train = s.slices[c].train ∧ (s.markRetrained c).slices[c].ranks = s.slices[c].ranks ∧
    (s.markRetrained c).slices[c].dens = s.slices[c].dens := by
  unfold State.markRetrained
  split
  · rw [State.modHealth, State.modSlice_self]
    exact ⟨rfl, rfl, rfl, rfl⟩
  · exact ⟨rfl, rfl, rfl, rfl⟩

theorem State.retrainPassed_eq (s : State) (c : Fin 80) : s.retrainPassed c = ((s.trained c (s.retrainPlan c)).markRetrained c).rejoin c := rfl

/-- A slice that serves no member is READY. -/
theorem State.retrainPassed_of_unseated (hmem : s.slices[c].health.mem = none) : ∃ snaps fsp lecc dbi,
    (s.retrainPassed c).slices[c].train = ((s.slices[c].train.putSnaps snaps 0xF).ready).setPoint s.pwr.pl fsp lecc dbi ∧
    (s.retrainPassed c).slices[c].ranks = s.slices[c].ranks ∧ (s.retrainPassed c).slices[c].dens = s.slices[c].dens := by
  obtain ⟨snaps, fsp, lecc, dbi, htrain, hfitting⟩ := s.trained_kept c (s.retrainPlan c)
  rw [State.retrainPlan_of_unseated hmem, snapsWith_all] at htrain
  refine ⟨snaps, fsp, lecc, dbi, ?_⟩
  rw [State.retrainPassed_eq]
  generalize s.trained c (s.retrainPlan c) = done at *
  obtain ⟨hmem', htrain', hranks', hdens'⟩ := done.markRetrained_kept c
  have hunseated : (done.markRetrained c).slices[c].health.mem = none :=
    hmem'.trans ((congrArg Health.mem (State.health_of_fitting hfitting)).trans hmem)
  rw [State.rejoin_of_unseated hunseated]
  exact ⟨htrain'.trans htrain, hranks'.trans (congrArg (fun y => y.1) hfitting), hdens'.trans (congrArg (fun y => y.2.1) hfitting)⟩

/-- A slice of no member that is declared failed keeps its training state. -/
theorem State.declareFailed_train {cause : BitVec 4} (hmem : s.slices[c].health.mem = none) (hfailed : s.role c ≠ roleFailed)
    (hunused : s.role c ≠ roleUnused) (hunavailable : s.role c ≠ roleUnavailable) (hcause : cause ≠ 7) :
    (s.declareFailed c cause).slices[c].train = s.slices[c].train := by
  rw [State.declareFailed_of_unseated hmem hfailed hunused hunavailable hcause, State.slices_of_keeps (State.afterFence_keeps ..) (by decide),
    State.slices_of_keeps (State.setFence_keeps ..) (by decide), State.slices_of_keeps (State.noteFailed_keeps ..) (by decide)]
  exact s.modHealth_train c fun h => { h with role := roleFailed, cause := cause, failTime := s.tb, cmdReset := false }

end

/-! ### A retrain begins (R245) -/

theorem State.beginRetrain_train (s : State) (c : Fin 80) : (s.beginRetrain c).slices[c].train = { s.slices[c].train with st := 5, lullReq := false } := by
  rw [State.beginRetrain, State.modTrain_self, State.bumpTrn, State.modSlice_self]

/-! ### A member taken out for a retrain (R245, R268) -/

theorem State.member_of_members {s t : State} (h : t.spr.members = s.spr.members) (g : Fin 8) (m : Fin 9) : t.member g m = s.member g m := by
  rw [State.member, State.member, h]

theorem State.noteSpareCount_members (s : State) : s.noteSpareCount.spr.members = s.spr.members := by
  unfold State.noteSpareCount
  extract_lets low
  exact (congrArg Spares.members ((State.raiseIf_keeps ..).p .spr (by decide))).trans rfl

theorem State.grantSpare_members (s : State) (g : Fin 8) (m : Fin 9) (evac : Bool) (d : Fin 80) :
    (s.grantSpare g m evac d).spr.members = s.spr.members := State.noteSpareCount_members _

theorem State.serveRequests_members (s : State) : s.serveRequests.spr.members = s.spr.members := by
  refine List.foldlRecOn (motive := fun (t : State) => t.spr.members = s.spr.members) _ _ rfl fun t ht r _ => ?_
  split
  · split
    · exact (State.grantSpare_members ..).trans ht
    · exact ht
  · exact ht

/-- A spare given back changes no member. -/
theorem State.freeSlice_members (s : State) (d : Fin 80) : (s.freeSlice d).spr.members = s.spr.members := State.serveRequests_members _

theorem State.memberAbsent_retrain (s : State) (g : Fin 8) (m : Fin 9) :
    ((s.memberAbsent g m true).member g m).st = .absent ∧ ((s.memberAbsent g m true).member g m).retrain = true := by
  unfold State.memberAbsent
  extract_lets lost absent routed back fresh
  have hback : (back.foldl State.freeSlice ((fresh.dropQueued g m).ownLine (fresh.member g m).slice)).spr.members = absent.spr.members :=
    List.foldlRecOn (motive := fun (t : State) => t.spr.members = absent.spr.members) _ _ rfl fun t ht d _ => (t.freeSlice_members d).trans ht
  rw [if_pos rfl, State.member_of_members hback, State.setMember_self]
  exact ⟨rfl, rfl⟩

section
variable {s : State} {c : Fin 80} {m : Fin 9}

theorem State.takeOut_eq {g : Fin 8} (hgrp : s.slices[c].health.grp = g) (hmem : s.slices[c].health.mem = some m) : s.takeOut c =
    (((s.setFence c true).memberFails g m c true).followMembers.detectCut (1#8 <<< g.val)).beginRetrain c := by
  unfold State.takeOut
  rw [hmem, hgrp]

/-- Without a relayout the member that the slice serves becomes ABSENT. -/
theorem State.memberFails_of_serving {g : Fin 8} (hserves : (s.member g m).slice = c) (hrly : s.spr.rly[g] = none) (retrain : Bool) :
    s.memberFails g m c retrain = s.memberAbsent g m retrain := by
  simp only [State.memberFails, hrly, hserves, if_true]

theorem State.takeOut_state {g : Fin 8} (hgrp : s.slices[c].health.grp = g) (hmem : s.slices[c].health.mem = some m)
    (hserves : (s.member g m).slice = c) (hrly : s.spr.rly[g] = none) :
    (s.takeOut c).slices[c].train.st = 5 ∧ (s.takeOut c).fab.fence.getLsbD c.val = true ∧ ((s.takeOut c).member g m).st = .absent ∧
      ((s.takeOut c).member g m).retrain = true := by
  rw [State.takeOut_eq hgrp hmem]
  generalize hout : (s.setFence c true).memberFails g m c true = out
  have hfails := State.memberFails_of_serving (s := s.setFence c true) hserves hrly true
  have habsent : (out.member g m).st = .absent ∧ (out.member g m).retrain = true := by
    rw [← hout, hfails]
    exact State.memberAbsent_retrain ..
  have hfence : out.fab.fence.getLsbD c.val = true := by
    rw [← hout, show State.fab _ = _ from (State.memberFails_keeps ..).p .fab (by decide)]
    exact s.setFence_self c
  have hbegun : Keeps 0xc10210 out ((out.followMembers.detectCut (1#8 <<< g.val)).beginRetrain c) :=
    (State.beginRetrain_keeps ..).on ((out.afterStage_keeps _).mono (by decide)) (by decide)
  refine ⟨congrArg Train.st (State.beginRetrain_train _ c), ?_, ?_⟩
  · rw [show State.fab _ = _ from hbegun.p .fab (by decide)]
    exact hfence
  · rw [State.member_congr (hbegun.p .spr (by decide))]
    exact habsent

end

/-! ### Margin scans (R252) -/

/-- A scan that runs, and what its end restores. -/
def Train.scanning (x : Train) (timing : Vector Reg 4) : Train :=
  { x with scanBusy := true, scanErr := 0, st := 0xA, scanPl := x.pl, scanTiming := timing }

/-- A scan that has ended, with its result words. -/
def Train.scanned (x : Train) (r0 r1 r2 : Reg) : Train :=
  { x with scanBusy := false, st := if x.st = 0xA then 4 else x.st, res0 := r0, res1 := r1, res2 := r2 &&& 0xFFFFFF00 }

section
variable {s : State} {c : Fin 80}

theorem State.startScan_of_allowed (hallowed : s.scanError c = 0) : ∃ timing, s.startScan c =
    (s.modTrain c fun x => x.scanning (s.timingWords c)).scanMove c (BitVec.ofNat 2 (fieldOf (s.cfg (pageCh c) 0x140) 23 22)) timing :=
  ⟨_, if_pos hallowed⟩

end

end Sys2Proof.Machine

namespace Sys2Proof.Proofs
open Sys2Proof.Machine

section
variable {c : Fin 80} {s : State}

/-! ### CH_TRN_CMD.RETRAIN (R247) -/

section
variable (hlive : s.pageLive (0x80 + c.val) = true)
include hlive

theorem exec_retrain : exec (.retrain c) s = .next (s.orderRetrain c) := congrArg Host.Outcome.next (if_pos hlive)

theorem retrain_begins (hrole : s.role c = roleQuarantine) (hst : s.slices[c].train.st ≠ 5) : Completes (.retrain c) s fun t =>
    t.slices[c].train.st = 5 ∧ t.slices[c].train.cmdRefused = false ∧ t.slices[c].train.lullReq = false := by
  refine ⟨_, (exec_retrain hlive).trans (congrArg Host.Outcome.next ((if_pos hrole).trans (if_neg hst))), ?_⟩
  beta_reduce
  rw [State.beginRetrain_train, State.modTrain_self]
  exact ⟨rfl, rfl, rfl⟩

theorem retrain_goesOn (hrole : s.role c = roleQuarantine) (hst : s.slices[c].train.st = 5) :
    exec (.retrain c) s = .next (s.modTrain c fun x => { x with cmdRefused := false }) :=
  (exec_retrain hlive).trans (congrArg Host.Outcome.next ((if_pos hrole).trans (if_pos hst)))

theorem retrain_refused (hrole : s.role c ≠ roleQuarantine) (hserves : s.servesMember c = false) :
    exec (.retrain c) s = .next (s.modTrain c fun x => { x with cmdRefused := true }) :=
  (exec_retrain hlive).trans (congrArg Host.Outcome.next ((if_neg hrole).trans (if_neg (by rw [hserves]; exact Bool.false_ne_true))))

end

/-! ### After a failed margin (R246) -/

section
variable (hmargin : s.slices[c].train.marginFail = true) (hready : s.slices[c].train.st = 4)
include hmargin hready

theorem exec_marginFailRetry : exec (.marginFailRetry c) s =
    .next (if (s.retryMargin c).slices[c].train.st = 5 then s.retryMargin c else s.requestLull c) :=
  congrArg Host.Outcome.next (if_neg (by rw [hmargin, hready]; decide))

theorem marginFailRetry_takesOut {m : Fin 9} (hservice : s.inService = true) (hserves : s.servesMember c = true)
    (hmem : s.slices[c].health.mem = some m) (hreachable : s.otherUnreachable s.slices[c].health.grp m = false)
    (hidle : s.inRelayout c = false) (hrly : s.spr.rly[s.slices[c].health.grp] = none) :
    Completes (.marginFailRetry c) s fun t => t.slices[c].train.st = 5 ∧ t.fab.fence.getLsbD c.val = true ∧
      (t.member s.slices[c].health.grp m).st = .absent ∧ (t.member s.slices[c].health.grp m).retrain = true := by
  have hslice : (s.member s.slices[c].health.grp m).slice = c := by
    simp only [State.servesMember, hmem, Bool.and_eq_true, beq_iff_eq] at hserves
    obtain ⟨⟨-, hslice⟩, -⟩ := hserves
    exact hslice
  have htaken : s.retryMargin c = s.takeOut c := by
    simp only [State.retryMargin, hmem, hmargin, hserves, hservice, hreachable, hidle, Bool.not_false, Bool.and_self, if_true]
  obtain ⟨hbegun, hrest⟩ := State.takeOut_state rfl hmem hslice hrly
  refine ⟨_, exec_marginFailRetry hmargin hready, ?_⟩
  rw [htaken, if_pos hbegun]
  exact ⟨hbegun, hrest⟩

/-- Out of service the member stays where it is, and a further Lull is requested. -/
theorem marginFailRetry_waits (hrefreshes : s.slices[c].refreshes = true) (hservice : s.inService = false) :
    Completes (.marginFailRetry c) s fun t => t.slices[c].train.lullReq = true ∧ t.slices[c].train.st = 4 := by
  have hkept : s.retryMargin c = s := by
    simp only [State.retryMargin, hservice, Bool.and_false, Bool.false_and, Bool.false_eq_true, if_false]
    split <;> rfl
  refine ⟨_, exec_marginFailRetry hmargin hready, ?_⟩
  beta_reduce
  rw [hkept, if_neg (by rw [hready]; decide), State.requestLull_train hrefreshes]
  exact ⟨rfl, hready⟩

end

/-! ### The end of a full retrain (R233, R236, R247) -/

section
variable {dev : Readback} (hst : s.slices[c].train.st = 5) (hfitted : dev.ranks ≠ 0) (haccepted : refuseCode dev = 0)
  (hlong : capHalves s.cap ≤ dev.ranks.toNat * densHalves dev.dens)
include hst hfitted haccepted hlong

theorem exec_fullRetrainDone_pass : exec (.fullRetrainDone c ⟨dev, .pass⟩) s = .next ((s.noteReadback c dev).retrainPassed c) := by
  refine congrArg Host.Outcome.next ((if_neg (not_not.2 hst)).trans ?_)
  rw [State.readBack_of_fitted s c dev hfitted haccepted hlong]
  rfl

theorem exec_fullRetrainDone_fail (step : BitVec 3) (pl : BitVec 2) : exec (.fullRetrainDone c ⟨dev, .fail step pl⟩) s =
    .next (((s.noteReadback c dev).trainFailed c ((s.noteReadback c dev).retrainPlan c) step pl).retrainFailed c) := by
  refine congrArg Host.Outcome.next ((if_neg (not_not.2 hst)).trans ?_)
  rw [State.readBack_of_fitted s c dev hfitted haccepted hlong]
  rfl

theorem fullRetrainDone_passes (hmem : s.slices[c].health.mem = none) : Completes (.fullRetrainDone c ⟨dev, .pass⟩) s fun t =>
    t.slices[c].train.st = 4 ∧ t.slices[c].train.snapValid = 0xF ∧ t.slices[c].train.marginFail = false ∧
    t.slices[c].train.devId = devIdOf dev ∧ t.slices[c].ranks = dev.ranks ∧ t.slices[c].dens = dev.dens := by
  have hfitting := s.noteReadback_fitting c dev
  have hunseated : (s.noteReadback c dev).slices[c].health.mem = none := (congrArg (fun y => y.2.2.mem) hfitting).trans hmem
  obtain ⟨snaps, fsp, lecc, dbi, htrain, hranks, hdens⟩ := State.retrainPassed_of_unseated hunseated
  refine ⟨_, exec_fullRetrainDone_pass hst hfitted haccepted hlong, ?_⟩
  beta_reduce
  rw [htrain, State.noteReadback_train]
  exact ⟨rfl, rfl, rfl, rfl, hranks.trans (congrArg (fun y => y.1) hfitting), hdens.trans (congrArg (fun y => y.2.1) hfitting)⟩

/-- What a failed training keeps of the slice, before the failure is acted on. -/
theorem trainFailed_records (step : BitVec 3) (pl : BitVec 2) :
    ∃ u : State, exec (.fullRetrainDone c ⟨dev, .fail step pl⟩) s = .next (u.retrainFailed c) ∧ u.mode = s.mode ∧
      u.slices[c].health = s.slices[c].health ∧ u.slices[c].train.st = 6 ∧ u.slices[c].train.failStep = step ∧ u.slices[c].train.failPl = pl := by
  obtain ⟨snaps, htrain, hfitting⟩ := (s.noteReadback c dev).trainFailed_kept c ((s.noteReadback c dev).retrainPlan c) step pl
  refine ⟨_, exec_fullRetrainDone_fail hst hfitted haccepted hlong step pl, (State.trainFailed_keeps ..).p .mode (by decide), ?_, ?_⟩
  · exact (State.health_of_fitting hfitting).trans (congrArg (fun y => y.2.2) (s.noteReadback_fitting c dev))
  · rw [htrain]
    exact ⟨rfl, rfl, rfl⟩

/-- In DIAGNOSTIC the slice of a member is left to the bring-up that follows (R247). -/
theorem fullRetrainDone_fails (step : BitVec 3) (pl : BitVec 2) (hmode : s.mode.mode = .diagnostic)
    (hrole : s.role c = roleHome ∨ s.role c = roleAttached) : Completes (.fullRetrainDone c ⟨dev, .fail step pl⟩) s fun t =>
      t.slices[c].train.st = 6 ∧ t.slices[c].train.failStep = step ∧ t.slices[c].train.failPl = pl ∧ t.slices[c].health = s.slices[c].health := by
  obtain ⟨u, hexec, humode, hhealth, hst', hstep, hpl⟩ := trainFailed_records hst hfitted haccepted hlong step pl
  have hleft : u.retrainFailed c = u := if_pos ⟨by rw [humode, hmode], by rw [State.role, hhealth]; exact hrole⟩
  rw [hleft] at hexec
  exact ⟨u, hexec, hst', hstep, hpl, hhealth⟩

theorem fullRetrainDone_declares (step : BitVec 3) (pl : BitVec 2) (hrole : s.role c = roleQuarantine) (hmem : s.slices[c].health.mem = none) :
    Completes (.fullRetrainDone c ⟨dev, .fail step pl⟩) s fun t =>
      t.slices[c].train.st = 6 ∧ t.slices[c].health.role = roleFailed ∧ t.slices[c].health.cause = 1 := by
  obtain ⟨u, hexec, -, hhealth, hst', -⟩ := trainFailed_records hst hfitted haccepted hlong step pl
  have hurole : u.role c = roleQuarantine := (congrArg Health.role hhealth).trans hrole
  have humem : u.slices[c].health.mem = none := (congrArg Health.mem hhealth).trans hmem
  have hdeclared : u.retrainFailed c = u.declareFailed c 1 := if_neg fun h => absurd h.2 (by rw [hurole]; decide)
  have hother {r : BitVec 4} (hr : roleQuarantine ≠ r) : u.role c ≠ r := by rwa [hurole]
  have hrecord := (declareFailed_records humem (hother (by decide)) (hother (by decide)) (hother (by decide)) (cause := 1) (by decide)).1
  have htrain := State.declareFailed_train humem (hother (by decide)) (hother (by decide)) (hother (by decide)) (cause := 1) (by decide)
  rw [hdeclared] at hexec
  refine ⟨_, hexec, ?_⟩
  beta_reduce
  rw [hrecord, htrain]
  exact ⟨hst', rfl, rfl⟩

end

/-! ### Margin scans (R252) -/

theorem scan_starts (hlive : s.pageLive (0x80 + c.val) = true) (hallowed : s.scanError c = 0) : Completes (.scan c) s fun t =>
    t.slices[c].train.scanBusy = true ∧ t.slices[c].train.scanErr = 0 ∧ t.slices[c].train.st = 0xA ∧
    t.slices[c].train.scanPl = s.slices[c].train.pl ∧
    t.slices[c].train.pl = BitVec.ofNat 2 (fieldOf (s.cfg (pageCh c) 0x140) 23 22) ∧ t.mem = s.mem := by
  have hexec : exec (.scan c) s = .next (s.startScan c) := congrArg Host.Outcome.next (if_pos hlive)
  have hmem : (s.startScan c).mem = s.mem := (s.startScan_keeps c).p .mem (by decide)
  obtain ⟨timing, hstart⟩ := State.startScan_of_allowed hallowed
  obtain ⟨fsp, lecc, dbi, htrain⟩ := (s.modTrain c fun x => x.scanning (s.timingWords c)).scanMove_train c
    (BitVec.ofNat 2 (fieldOf (s.cfg (pageCh c) 0x140) 23 22)) timing
  rw [← hstart, State.modTrain_self] at htrain
  refine ⟨_, hexec, ?_⟩
  beta_reduce
  rw [htrain, hmem]
  exact ⟨rfl, rfl, rfl, rfl, rfl, rfl⟩

theorem scanDone_ends (r0 r1 r2 : Reg) (hbusy : s.slices[c].train.scanBusy = true) : Completes (.scanDone c r0 r1 r2) s fun t =>
    t.slices[c].train.scanBusy = false ∧ t.slices[c].train.st = (if s.slices[c].train.st = 0xA then 4 else s.slices[c].train.st) ∧
    t.slices[c].train.pl = s.slices[c].train.scanPl ∧ t.slices[c].train.res0 = r0 ∧ t.slices[c].train.res1 = r1 ∧
    t.slices[c].train.res2 = r2 &&& 0xFFFFFF00 ∧ t.mem = s.mem := by
  have hexec : exec (.scanDone c r0 r1 r2) s = .next (((s.scanMove c s.slices[c].train.scanPl s.slices[c].train.scanTiming).modTrain c fun x =>
      x.scanned r0 r1 r2).raise (pageCh c) 5) := congrArg Host.Outcome.next (if_pos hbusy)
  obtain ⟨fsp, lecc, dbi, htrain⟩ := s.scanMove_train c s.slices[c].train.scanPl s.slices[c].train.scanTiming
  have hmem : (s.scanMove c s.slices[c].train.scanPl s.slices[c].train.scanTiming).mem = s.mem := (s.scanMove_keeps c ..).p .mem (by decide)
  generalize s.scanMove c s.slices[c].train.scanPl s.slices[c].train.scanTiming = moved at *
  refine ⟨_, hexec, ?_⟩
  beta_reduce
  rw [State.slices_of_keeps (State.raise_keeps ..) (by decide), State.modTrain_self, htrain]
  exact ⟨rfl, rfl, rfl, rfl, rfl, rfl, hmem⟩

end

/-- Settles O25, command by command. -/
theorem trainingCommands : Obligations.TrainingCommands := by
  unfold Obligations.TrainingCommands
  intro c dev step pl r0 r1 r2 s
  exact ⟨retrain_begins, retrain_goesOn, retrain_refused, fun m hmargin hready => marginFailRetry_takesOut hmargin hready,
    fun hrefreshes hmargin hready => marginFailRetry_waits hmargin hready hrefreshes, fun hst hfitted haccepted hlong =>
      ⟨fullRetrainDone_passes hst hfitted haccepted hlong, fullRetrainDone_fails hst hfitted haccepted hlong step pl,
        fullRetrainDone_declares hst hfitted haccepted hlong step pl⟩,
    scan_starts, scanDone_ends r0 r1 r2, fun hlive => congrArg Host.Outcome.next (if_pos hlive)⟩

end Sys2Proof.Proofs
end

section
/-!
Changes of the performance level (O26): what a change waits for, what its steps make of a slice, and how it ends (R248 to R250, R301, R302, R477).
-/
namespace Sys2Proof.Machine

/-! ### A change that waits (R248, R302) -/

/-- The steps of a change begin when nothing is left to wait for. -/
def State.readySteps (s : State) : State :=
  if s.pwr.steps = false ∧ s.pwr.waitFeas = false ∧ s.pwr.raising = false ∧ (s.stillSwitching.all fun c => s.slices[c].train.pllReady) then
    { s with pwr := { s.pwr with steps := true } }
  else s

theorem State.plSettle_eq (s : State) : s.plSettle =
    if s.pwr.switching = false ∨ s.pwr.vidHold = true then s
    else if s.readySteps.pwr.steps && s.stillSwitching.isEmpty then s.readySteps.plDone else s.readySteps := rfl

/-- A change that waits for a check or for the rails, with no step under way, stays as it is. -/
theorem State.plSettle_of_waiting {s : State} (hsteps : s.pwr.steps = false) (hwait : s.pwr.waitFeas = true ∨ s.pwr.raising = true) :
    s.plSettle = s := by
  have hready : s.readySteps = s := if_neg fun ⟨_, hfeas, hraising, _⟩ =>
    hwait.elim (fun h => absurd (hfeas.symm.trans h) Bool.false_ne_true) fun h => absurd (hraising.symm.trans h) Bool.false_ne_true
  rw [State.plSettle_eq, hready, hsteps]
  split <;> rfl

/-! ### A decision (R301, R302) -/

/-- The power manager with a change towards `goal` begun: a faster one waits for the rails, a slower one for a check. -/
def Power.begun (p : Power) (goal : BitVec 2) (core slice : BitVec 6) : Power :=
  { p with plGoal := goal, switching := true, steps := false, vidHold := false, raising := decide (goal.toNat < p.pl.toNat)
           waitFeas := !decide (goal.toNat < p.pl.toNat), formerCore := core, formerSlice := slice
           vofs := if goal.toNat < p.pl.toNat then 0 else p.vofs }

/-- The hint, the goal, and the VID codes of a faster change. -/
def State.beginPl (s : State) : State :=
  let goal := s.plForce
  let faster := decide (goal.toNat < s.pwr.pl.toNat)
  let s := s.queueHint goal
  let s := { s with
    pwr := { s.pwr with plGoal := goal, switching := true, steps := false, vidHold := false, raising := faster, waitFeas := !faster
                        formerCore := s.pins.coreVid, formerSlice := s.pins.sliceVid } }
  if faster then ({ s with pwr := { s.pwr with vofs := 0 } }).setVid (nominalVid goal) (nominalVid goal) else s

/-- The slices that take part in a change. -/
def State.joinSwitch (s : State) : State :=
  allSlices.foldl (fun (s : State) (c : Fin 80) => if s.switches c then s.modTrain c fun x => { x with switching := true, pllReady := false } else s) s

section
variable (s : State)

theorem State.decidePl_of_decides (h : s.plMayDecide = true) : s.decidePl = s.beginPl.joinSwitch.feasTrigger.plSettle := by
  rw [State.decidePl, if_neg (ne_false_of_eq_true h)]
  rfl

theorem State.beginPl_pwr : s.beginPl.pwr = s.pwr.begun s.plForce s.pins.coreVid s.pins.sliceVid := by
  have hpwr : (s.queueHint s.plForce).pwr = s.pwr := (s.queueHint_keeps _).p .pwr (by decide)
  have hpins : (s.queueHint s.plForce).pins = s.pins := (s.queueHint_keeps _).p .pins (by decide)
  unfold State.beginPl Power.begun
  by_cases hfaster : s.plForce.toNat < s.pwr.pl.toNat
  · simp only [hfaster, decide_true, if_true, State.setVid, hpwr, hpins]
  · simp only [hfaster, decide_false, if_false, Bool.false_eq_true, hpwr, hpins]

theorem State.beginPl_mem : s.beginPl.mem = s.mem := by
  have hmem : (s.queueHint s.plForce).mem = s.mem := (s.queueHint_keeps _).p .mem (by decide)
  unfold State.beginPl
  dsimp only
  split
  · exact hmem
  · exact hmem

/-- The slices join, and a check is asked for: the power manager stands as the change began. -/
theorem State.joinSwitch_feasTrigger_keeps : Keeps 0xc00000 s s.joinSwitch.feasTrigger :=
  (State.feasTrigger_keeps _).on (.foldl .rfl' fun u c => .ite (fun _ => (u.modTrain_keeps c _).mono (by decide)) fun _ => .rfl') (by decide)

/-- A change that has been decided waits. -/
theorem State.decidePl_waits (h : s.plMayDecide = true) : s.decidePl = s.beginPl.joinSwitch.feasTrigger := by
  have hpwr : s.beginPl.joinSwitch.feasTrigger.pwr = s.pwr.begun s.plForce s.pins.coreVid s.pins.sliceVid :=
    (s.beginPl.joinSwitch_feasTrigger_keeps.p .pwr (by decide)).trans s.beginPl_pwr
  rw [State.decidePl_of_decides s h]
  refine State.plSettle_of_waiting (by rw [hpwr]; rfl) ?_
  rw [hpwr]
  by_cases hfaster : s.plForce.toNat < s.pwr.pl.toNat
  · exact .inr (decide_eq_true hfaster)
  · exact .inl (by simp only [Power.begun, hfaster, decide_false, Bool.not_false])

end

/-! ### The end of a change (R250, R302, R477) -/

/-- What the supply monitor reads put on record (R288). -/
def State.noteRails (s : State) (core slice : BitVec 10) (ok : Bool) : State :=
  { s with pwr := { s.pwr with coreMv := core, sliceMv := slice, pllOk := ok } }

/-- What the supply monitor has read, and whether the rails are waited for. -/
def Power.rails (p : Power) : BitVec 10 × BitVec 10 × Bool × Bool := (p.coreMv, p.sliceMv, p.pllOk, p.raising)

section
variable (s : State)

/-- The change noted as over, with PL_DONE. -/
def State.notePlEnd (s : State) : State := ({ s with pwr := { s.pwr with switching := false, vfault := false } }).raise pagePwr 3

/-- The Lulls that follow a change. -/
def State.lullAll (s : State) (goal : BitVec 2) : State := allSlices.foldl (fun (s : State) (c : Fin 80) => s.afterSwitch c goal) s

theorem State.plEnd_eq : s.plEnd = s.notePlEnd.lullAll s.pwr.plGoal := rfl

theorem State.lullAll_keeps (goal : BitVec 2) : Keeps 0x100008000c0 s (s.lullAll goal) := .foldl .rfl' fun u c => u.afterSwitch_keeps c goal

theorem State.plEnd_pwr : s.plEnd.pwr = { s.pwr with switching := false, vfault := false } :=
  ((State.lullAll_keeps ..).p .pwr (by decide)).trans ((State.raise_keeps ..).p .pwr (by decide))

theorem State.plEnd_done : (s.plEnd.intRaw pagePwr).getLsbD 3 = true := by
  rw [State.plEnd_eq, State.intRaw_congr ((State.lullAll_keeps ..).p .regHeaders (by decide))]
  exact State.raise_intRaw _ (by decide)

/-- The new PL in operation, before what follows it. -/
def State.takePl (s : State) : State :=
  { s with
    pwr := { s.pwr with pl := s.pwr.plGoal, steps := false, vidHold := decide (s.pwr.pl.toNat < s.pwr.plGoal.toNat) }
    pins := { s.pins with pwrPl := if s.pwr.pl.toNat < s.pwr.plGoal.toNat then s.pwr.plGoal else s.pins.pwrPl } }

/-- The pace noted at the new PL, and the slices that have switched let go. -/
def State.letGo (s : State) : State := (s.takePl.notePace s).clearSwitching

theorem State.plDone_eq : s.plDone = if s.pwr.pl.toNat < s.pwr.plGoal.toNat then s.letGo else s.letGo.plEnd := by
  unfold State.plDone State.letGo State.takePl
  simp only [decide_eq_true_eq]

theorem State.letGo_pwr : s.letGo.pwr = s.takePl.pwr :=
  ((State.clearSwitching_keeps _).p .pwr (by decide)).trans ((s.takePl.notePace_keeps s).p .pwr (by decide))

theorem State.plDone_rails : s.plDone.pwr.rails = s.pwr.rails := by
  rw [State.plDone_eq]
  split
  · rw [State.letGo_pwr]
    rfl
  · rw [State.plEnd_pwr, State.letGo_pwr]
    rfl

theorem State.readySteps_rails : s.readySteps.pwr.rails = s.pwr.rails := by
  unfold State.readySteps
  split <;> rfl

theorem State.plSettle_rails : s.plSettle.pwr.rails = s.pwr.rails := by
  rw [State.plSettle_eq]
  split
  · rfl
  split
  · exact (State.plDone_rails _).trans s.readySteps_rails
  · exact s.readySteps_rails

/-- The rails of a faster change are up. -/
theorem State.railsUp_of_up {s : State} (hswitching : s.pwr.switching = true) (hraising : s.pwr.raising = true)
    (hcore : minMv s.pwr.plGoal ≤ s.pwr.coreMv.toNat) (hslice : minMv s.pwr.plGoal ≤ s.pwr.sliceMv.toNat) :
    s.railsUp.pwr.rails = (s.pwr.coreMv, s.pwr.sliceMv, s.pwr.pllOk, false) := by
  unfold State.railsUp
  rw [if_pos (by simp only [hswitching, hraising, decide_eq_true hcore, decide_eq_true hslice, Bool.and_self])]
  exact State.plSettle_rails _

/-- What the monitor has read stands. -/
theorem State.railsUp_read : s.railsUp.pwr.coreMv = s.pwr.coreMv ∧ s.railsUp.pwr.sliceMv = s.pwr.sliceMv ∧ s.railsUp.pwr.pllOk = s.pwr.pllOk := by
  unfold State.railsUp
  split
  · have hrails := State.plSettle_rails { s with pwr := { s.pwr with raising := false }, pins := { s.pins with pwrPl := s.pwr.plGoal } }
    exact ⟨congrArg (fun y => y.1) hrails, congrArg (fun y => y.2.1) hrails, congrArg (fun y => y.2.2.1) hrails⟩
  · exact ⟨rfl, rfl, rfl⟩

end

/-! ### A slice that has taken its step (R249, R250) -/

theorem State.atPl_other (s : State) {c d : Fin 80} (hd : c ≠ d) (pl : BitVec 2) : (s.atPl d pl).slices[c] = s.slices[c] := by
  unfold State.atPl
  extract_lets load moved
  have hmoved : moved.slices[c] = s.slices[c] := (State.modTrain_other _ hd _).trans (s.modTrain_other hd _)
  by_cases hload : load = true
  · rw [if_pos hload, State.loadTiming_slices, State.modSched_other hd, hmoved]
  · rw [if_neg hload, hmoved]

theorem State.takeUpPl_other (s : State) {c d : Fin 80} (hd : c ≠ d) (pl : BitVec 2) : (s.takeUpPl d pl).slices[c] = s.slices[c] := by
  unfold State.takeUpPl
  split
  · exact s.modTrain_other hd _
  · exact s.atPl_other hd pl

/-- A slice at the goal of the change, its step taken and its rows closed. -/
structure State.AtGoal (s : State) (c : Fin 80) (goal : BitVec 2) : Prop where
  plGoal : s.pwr.plGoal = goal
  pl : s.slices[c].train.pl = goal
  switching : s.slices[c].train.switching = false
  rows : s.slices[c].sched.rows = []

namespace State.AtGoal
variable {s t : State} {c : Fin 80} {goal : BitVec 2} (h : s.AtGoal c goal)
include h

theorem ofSlice (hgoal : t.pwr.plGoal = s.pwr.plGoal) (hslice : t.slices[c] = s.slices[c]) : t.AtGoal c goal := by
  refine ⟨hgoal.trans h.plGoal, ?_, ?_, ?_⟩ <;> rw [hslice]
  · exact h.pl
  · exact h.switching
  · exact h.rows

theorem ofKeeps {m : Nat} (hk : Keeps m s t) (hpwr : m.testBit Part.pwr.idx = false) (hslices : m.testBit Part.slices.idx = false) : t.AtGoal c goal :=
  h.ofSlice (congrArg Power.plGoal (hk.p .pwr hpwr)) (State.slices_of_keeps hk hslices c)

theorem modTrain (d : Fin 80) {f : Train → Train} (hpl : ∀ x, (f x).pl = x.pl := by exact fun _ => rfl)
    (hswitching : ∀ x, x.switching = false → (f x).switching = false := by exact fun _ h => h) : (s.modTrain d f).AtGoal c goal := by
  by_cases hd : c = d
  · subst hd
    refine ⟨h.plGoal, ?_, ?_, ?_⟩
    · rw [State.modTrain_self, hpl, h.pl]
    · rw [State.modTrain_self, hswitching _ h.switching]
    · rw [State.modTrain_sched, h.rows]
  · exact h.ofSlice rfl (s.modTrain_other hd f)

theorem drainKept {d : Fin 80} (hk : DrainKept d s t) (hpwr : t.pwr = s.pwr) : t.AtGoal c goal := by
  by_cases hd : c = d
  · subst hd
    exact ⟨by rw [hpwr, h.plGoal], by rw [hk.train, h.pl], by rw [hk.train, h.switching], hk.rows.trans h.rows⟩
  · exact h.ofSlice (by rw [hpwr]) (hk.other c hd)

theorem requestLull (d : Fin 80) : (s.requestLull d).AtGoal c goal := by
  by_cases hrefreshes : s.slices[d].refreshes = true
  · have hasked : (s.askLull d).AtGoal c goal := h.modTrain d
    exact hasked.drainKept (State.requestLull_kept hrefreshes) ((s.requestLull_keeps d).p .pwr (by decide))
  · rw [State.requestLull, if_pos (Bool.eq_false_iff.2 hrefreshes)]
    exact h

theorem takeUpPl {d : Fin 80} (hd : c ≠ d) (pl : BitVec 2) : (s.takeUpPl d pl).AtGoal c goal :=
  h.ofSlice (congrArg Power.plGoal ((s.takeUpPl_keeps d pl).p .pwr (by decide))) (s.takeUpPl_other hd pl)

/-- At the goal already, the slice takes up no further PL. -/
theorem afterSwitch (d : Fin 80) : (s.afterSwitch d goal).AtGoal c goal := by
  unfold State.afterSwitch
  split
  · extract_lets taken
    have htaken : taken.AtGoal c goal := by
      unfold taken
      split
      next haway => exact h.takeUpPl (fun hd => haway.2 (by subst hd; exact h.pl)) goal
      next => exact h
    exact htaken.requestLull d
  · exact h

theorem clearSwitching : s.clearSwitching.AtGoal c goal := by
  refine List.foldlRecOn (motive := fun (t : State) => t.AtGoal c goal) _ _ h fun t ht d _ => ?_
  split
  · exact ht.modTrain d (fun _ => rfl) fun _ _ => rfl
  · exact ht

theorem plEnd : s.plEnd.AtGoal c goal := by
  have hnoted : s.notePlEnd.AtGoal c goal :=
    State.AtGoal.ofKeeps (s := { s with pwr := { s.pwr with switching := false, vfault := false } }) (h.ofSlice rfl rfl) (State.raise_keeps ..)
      (by decide) (by decide)
  rw [State.plEnd_eq, h.plGoal]
  exact List.foldlRecOn (motive := fun (t : State) => t.AtGoal c goal) _ _ hnoted fun t ht d _ => ht.afterSwitch d

theorem plDone : s.plDone.AtGoal c goal := by
  have htaken : s.takePl.AtGoal c goal := h.ofSlice rfl rfl
  have hletGo : s.letGo.AtGoal c goal := (htaken.ofKeeps (s.takePl.notePace_keeps s) (by decide) (by decide)).clearSwitching
  rw [State.plDone_eq]
  split
  · exact hletGo
  · exact hletGo.plEnd

theorem plSettle : s.plSettle.AtGoal c goal := by
  have hready : s.readySteps.AtGoal c goal := by
    unfold State.readySteps
    split
    · exact h.ofSlice rfl rfl
    · exact h
  rw [State.plSettle_eq]
  split
  · exact h
  split
  · exact hready.plDone
  · exact hready

end State.AtGoal

/-- A slice that no scan holds is at the goal after its step. -/
theorem State.switchStep_atGoal {s : State} {c : Fin 80} (hscan : s.slices[c].train.scanBusy = false) : (s.switchStep c).AtGoal c s.pwr.plGoal := by
  have hclosed : Keeps 0x10000900000 s ((s.takeWindow c 300).closeRows c) :=
    (State.closeRows_keeps ..).on ((s.takeWindow_keeps c 300).mono (by decide)) (by decide)
  have htrain : ((s.takeWindow c 300).closeRows c).slices[c].train = s.slices[c].train :=
    (State.closeRows_train _ c).trans (congrArg Slice.train (State.slices_of_keeps (s.takeWindow_keeps c 300) (by decide) c))
  have hrows := (State.closeRows_sched (s.takeWindow c 300) c).1
  have hpwr := hclosed.p .pwr (by decide)
  have hstep : s.switchStep c = ((((s.takeWindow c 300).closeRows c).takeUpPl c ((s.takeWindow c 300).closeRows c).pwr.plGoal).modTrain c fun x =>
      { x with switching := false, pllReady := false }).plSettle := rfl
  generalize (s.takeWindow c 300).closeRows c = closed at *
  have hpl : closed.takeUpPl c closed.pwr.plGoal = closed.atPl c s.pwr.plGoal := by
    rw [State.takeUpPl, htrain, hscan, show closed.pwr = s.pwr from hpwr]
    rfl
  obtain ⟨fsp, lecc, dbi, hset, -, hkept⟩ := closed.atPl_kept c s.pwr.plGoal
  rw [hstep, hpl]
  refine State.AtGoal.plSettle ⟨?_, ?_, ?_, ?_⟩
  · exact congrArg Power.plGoal (((closed.atPl_keeps c _).p .pwr (by decide)).trans hpwr)
  · rw [State.modTrain_self, hset]
    rfl
  · rw [State.modTrain_self]
  · rw [State.modTrain_sched, hkept, hrows]

/-! ### A change abandoned (R302) -/

section
variable (s : State)

theorem State.setCap_pwr (cap : BitVec 2) : (s.setCap cap).pwr = { s.pwr with plCap := cap } := by
  unfold State.setCap
  dsimp only
  split
  · rfl
  · exact (State.queueHint_keeps ..).p .pwr (by decide)

/-- The rails at their former codes, and the fault noted. -/
def State.dropRails (s : State) : State :=
  let t := s.setVid s.pwr.formerCore s.pwr.formerSlice
  { t with pwr := { t.pwr with switching := false, raising := false, steps := false, vfault := true
                               vofs := (s.pwr.formerCore - nominalVid s.pwr.pl).setWidth 3 } }

theorem State.abandonPl_eq : s.abandonPl = (s.dropRails.clearSwitching.setCap s.pwr.pl).raise pagePwr 4 := rfl

theorem State.abandonPl_pwr : s.abandonPl.pwr = { s.dropRails.pwr with plCap := s.pwr.pl } := by
  have hraised : s.abandonPl.pwr = (s.dropRails.clearSwitching.setCap s.pwr.pl).pwr := (State.raise_keeps ..).p .pwr (by decide)
  rw [hraised, State.setCap_pwr, show State.pwr _ = _ from (State.clearSwitching_keeps _).p .pwr (by decide)]

theorem State.abandonPl_pins : s.abandonPl.pins = s.dropRails.pins :=
  ((State.raise_keeps ..).on ((State.setCap_keeps ..).on ((State.clearSwitching_keeps s.dropRails).mono (by decide)) (by decide)) (by decide) :
    Keeps 0x108800200 s.dropRails _).p .pins (by decide)

end

end Sys2Proof.Machine

namespace Sys2Proof.Proofs
open Sys2Proof.Machine

section
variable {c : Fin 80} {s : State}

theorem plChangeDecision_begins (hdecides : s.plMayDecide = true) : Completes .plChangeDecision s fun t =>
    t.pwr.plGoal = s.plForce ∧ t.pwr.pl = s.pwr.pl ∧ t.pwr.switching = true ∧
    t.pwr.raising = decide (s.plForce.toNat < s.pwr.pl.toNat) ∧ t.mem = s.mem := by
  have hjoined := s.beginPl.joinSwitch_feasTrigger_keeps
  refine ⟨_, congrArg Host.Outcome.next (s.decidePl_waits hdecides), ?_⟩
  beta_reduce
  rw [show State.pwr _ = _ from hjoined.p .pwr (by decide), show State.mem _ = _ from hjoined.p .mem (by decide), State.beginPl_pwr]
  exact ⟨rfl, rfl, rfl, rfl, s.beginPl_mem⟩

theorem supplyMonitorUpdate_records (core slice : BitVec 10) (ok : Bool) : Completes (.supplyMonitorUpdate core slice ok) s fun t =>
    t.pwr.coreMv = core ∧ t.pwr.sliceMv = slice ∧ t.pwr.pllOk = ok ∧
    (s.pwr.switching = true → s.pwr.raising = true → minMv s.pwr.plGoal ≤ core.toNat → minMv s.pwr.plGoal ≤ slice.toNat → t.pwr.raising = false) := by
  have hsettled := (s.noteRails core slice ok).railsUp.plSettle_rails
  obtain ⟨hcore, hslice, hok⟩ := (s.noteRails core slice ok).railsUp_read
  refine ⟨_, rfl, (congrArg (fun y => y.1) hsettled).trans hcore, (congrArg (fun y => y.2.1) hsettled).trans hslice,
    (congrArg (fun y => y.2.2.1) hsettled).trans hok, fun hswitching hraising hcoreUp hsliceUp => ?_⟩
  have hup := State.railsUp_of_up (s := s.noteRails core slice ok) hswitching hraising hcoreUp hsliceUp
  exact congrArg (fun y => y.2.2.2) (hsettled.trans hup)

theorem standbyPllLocked_notes (hswitching : s.pwr.switching = true) (hslice : s.slices[c].train.switching = true) (hsteps : s.pwr.steps = false)
    (hfeas : s.pwr.waitFeas = true) : exec (.standbyPllLocked c) s = .next (s.modTrain c fun x => { x with pllReady := true }) :=
  congrArg Host.Outcome.next ((if_pos (by rw [hswitching, hslice]; rfl)).trans
    (State.plSettle_of_waiting (s := s.modTrain c fun x => { x with pllReady := true }) hsteps (.inl hfeas)))

theorem switchStep_takes (hsteps : s.pwr.steps = true) (hslice : s.slices[c].train.switching = true) (hswitches : s.switches c = true)
    (hservice : s.inService = true) (hwarm : s.fab.wrst = false) (hscan : s.slices[c].train.scanBusy = false)
    (halert : s.slices[c].sched.alert = none) (hstall : s.slices[c].sched.inRef = false) (hfree : s.windowFree c = true)
    (hturn : s.stepTurn c = true) (hdrained : s.slices[c].sched.wq = []) : Completes (.switchStep c) s fun t =>
      t.slices[c].train.pl = s.pwr.plGoal ∧ t.slices[c].train.switching = false ∧ t.slices[c].sched.rows = [] := by
  have hdue : (s.pwr.steps && s.slices[c].train.switching && s.switches c && s.inService && !s.fab.wrst && s.slices[c].sched.alert.isNone &&
      !s.slices[c].sched.inRef && s.windowFree c && s.stepTurn c) = true := by
    rw [hsteps, hslice, hswitches, hservice, hwarm, halert, hstall, hfree, hturn]
    rfl
  have hempty : s.slices[c].sched.wq.isEmpty = true := by rw [hdrained]; rfl
  have hgoal := State.switchStep_atGoal hscan
  exact ⟨_, congrArg Host.Outcome.next ((if_pos hdue).trans (if_pos hempty)), hgoal.pl, hgoal.switching, hgoal.rows⟩

theorem vrampExpiry_abandons (hswitching : s.pwr.switching = true) (hraising : s.pwr.raising = true) : Completes .vrampExpiry s fun t =>
    t.pwr.switching = false ∧ t.pwr.vfault = true ∧ t.pwr.pl = s.pwr.pl ∧ t.pins.coreVid = s.pwr.formerCore ∧
    t.pins.sliceVid = s.pwr.formerSlice := by
  refine ⟨_, congrArg Host.Outcome.next (if_pos (by rw [hswitching, hraising]; rfl)), ?_⟩
  beta_reduce
  rw [State.abandonPl_pwr, State.abandonPl_pins]
  exact ⟨rfl, rfl, rfl, rfl, rfl⟩

section
variable (hhold : s.pwr.vidHold = true)
include hhold

theorem vidHoldExpiry_settles (hswitching : s.pwr.switching = false) : exec .vidHoldExpiry s = .next { s with
    pwr := { s.pwr with vidHold := false, vofs := 0 }, pins := { s.pins with coreVid := nominalVid s.pwr.pl, sliceVid := nominalVid s.pwr.pl } } :=
  congrArg Host.Outcome.next ((if_pos hhold).trans (if_neg (ne_true_of_eq_false hswitching)))

theorem vidHoldExpiry_ends (hswitching : s.pwr.switching = true) : Completes .vidHoldExpiry s fun t =>
    t.pwr.switching = false ∧ t.pwr.vidHold = false ∧ t.pwr.vofs = 0 ∧ t.pwr.pl = s.pwr.pl ∧ t.pins.coreVid = nominalVid s.pwr.pl ∧
    t.pins.sliceVid = nominalVid s.pwr.pl ∧ (t.intRaw pagePwr).getLsbD 3 = true := by
  refine ⟨_, congrArg Host.Outcome.next ((if_pos hhold).trans (if_pos hswitching)), ?_⟩
  beta_reduce
  rw [State.plEnd_pwr, show State.pins _ = _ from (State.plEnd_keeps _).p .pins (by decide)]
  exact ⟨rfl, rfl, rfl, rfl, rfl, rfl, State.plEnd_done _⟩

end

end

/-- Settles O26, command by command. -/
theorem performanceLevelSteps : Obligations.PerformanceLevelSteps := by
  unfold Obligations.PerformanceLevelSteps
  intro c core slice ok s
  exact ⟨plChangeDecision_begins, supplyMonitorUpdate_records core slice ok, standbyPllLocked_notes, switchStep_takes, vrampExpiry_abandons,
    fun hhold => ⟨vidHoldExpiry_settles hhold, vidHoldExpiry_ends hhold⟩⟩

end Sys2Proof.Proofs
end

section
/-!
Spare commands (O30): how their arguments read, and what each act makes of the slices, the relayouts and the queue (R258, R262, R267, R269 to
R271, R280, R281, R284).
-/
namespace Sys2Proof.Machine

/-! ### Arguments and results (R284) -/

theorem sliceArg_ofNat (d : Fin 80) : sliceArg (BitVec.ofNat 7 d.val) = some d := by
  have hval : (BitVec.ofNat 7 d.val).toNat = d.val := Nat.mod_eq_of_lt (d.isLt.trans (by decide))
  simp [sliceArg, hval]

section
variable {s : State} {g : Fin 8}

theorem State.memberArg_ofNat (hpopulated : s.populated g = true) (m : Fin 9) : s.memberArg g (BitVec.ofNat 4 m.val) = some m := by
  have hval : (BitVec.ofNat 4 m.val).toNat = m.val := Nat.mod_eq_of_lt (m.isLt.trans (by decide))
  simp [State.memberArg, hval, hpopulated]

/-- A free spare that a command names is the one it gets. -/
theorem State.spareArg_ofNat {d : Fin 80} (hfree : s.role d = roleSpareFree) (m : Fin 9) :
    s.spareArg g m (BitVec.ofNat 7 d.val) = .inr (some d) := by
  have hnamed : BitVec.ofNat 7 d.val ≠ 0x7F := fun h => by
    have hval : d.val % 2 ^ 7 = 127 := congrArg BitVec.toNat h
    omega
  simp only [State.spareArg, if_neg hnamed, sliceArg_ofNat, if_pos hfree]

/-- A command that nothing refuses is done. -/
theorem State.sprDo_of_service (hservice : s.inService = true) (f : State → State) (ok : BitVec 4) : s.sprDo 0 f ok = (f s).sprResult ok :=
  (if_neg (by rw [hservice]; decide)).trans (if_pos rfl)

theorem State.servesMember_of_unseated {d : Fin 80} (hmem : s.slices[d].health.mem = none) : s.servesMember d = false := by
  rw [State.servesMember, hmem]

end

section
variable (s : State) (r : BitVec 4)

theorem State.sprResult_spr : (s.sprResult r).spr = { s.spr with result := r } := State.raise_spr ..

theorem State.sprResult_slices : (s.sprResult r).slices = s.slices := State.raise_slices ..

theorem State.sprResult_fab : (s.sprResult r).fab = s.fab := State.raise_fab ..

theorem State.sprResult_ao : (s.sprResult r).ao = s.ao := State.raise_ao ..

end

/-! ### A spare given out (R262, R263, R270) -/

/-- A slice ATTACHED to a member. -/
def State.attachSlice (s : State) (g : Fin 8) (m : Fin 9) (d : Fin 80) : State :=
  s.modHealth d fun h => { h with role := roleAttached, grp := g, mem := some m, errLevel := 0 }

/-- The home slice of a member ATTACHED to it, and its return queued. -/
def State.queueReturn (s : State) (g : Fin 8) (m : Fin 9) : State :=
  ((s.attachSlice g m (homeSlice g m)).queueRly g
    { kind := .return_, mem := m, dst := homeSlice g m, src := some (s.member g m).slice, bound := 0, running := false, suspended := false
      done := [], full := false, order := 0 }).noteSpareCount

section
variable (s : State) (g : Fin 8) (m : Fin 9) (evac : Bool) (d : Fin 80)

theorem State.attachSlice_health : (s.attachSlice g m d).slices[d].health =
    { s.slices[d].health with role := roleAttached, grp := g, mem := some m, errLevel := 0 } := State.modHealth_self ..

/-- The count of the free spares is all that is noted. -/
theorem State.noteSpareCount_spr : ∃ low, s.noteSpareCount.spr = { s.spr with low := low } :=
  ⟨_, (State.raiseIf_keeps ..).p .spr (by decide)⟩

theorem State.noteSpareCount_queue : s.noteSpareCount.spr.queue = s.spr.queue := by
  obtain ⟨low, hspr⟩ := s.noteSpareCount_spr
  rw [hspr]

theorem State.noteSpareCount_slices : s.noteSpareCount.slices = s.slices := (State.noteSpareCount_keeps _).p .slices (by decide)

theorem State.queueRly_length (r : Relayout) : (s.queueRly g r).spr.queue.length = s.spr.queue.length + 1 := by
  simp [State.queueRly]

theorem State.grantSpare_health : (s.grantSpare g m evac d).slices[d].health =
    { s.slices[d].health with role := roleAttached, grp := g, mem := some m, errLevel := 0 } := by
  have hslices : (s.grantSpare g m evac d).slices = (s.attachSlice g m d).slices := State.noteSpareCount_slices _
  rw [hslices, State.attachSlice_health]

theorem State.grantSpare_queue : (s.grantSpare g m evac d).spr.queue.length = s.spr.queue.length + 1 :=
  (congrArg List.length (State.noteSpareCount_queue _)).trans (State.queueRly_length (s.attachSlice g m d) g _)

theorem State.grantSpare_requests : (s.grantSpare g m evac d).spr.requests = s.spr.requests := by
  unfold State.grantSpare
  extract_lets attached src queued
  obtain ⟨low, hspr⟩ := queued.noteSpareCount_spr
  rw [hspr]
  rfl

theorem State.queueReturn_role : (s.queueReturn g m).slices[homeSlice g m].health.role = roleAttached := by
  have hslices : (s.queueReturn g m).slices = (s.attachSlice g m (homeSlice g m)).slices := State.noteSpareCount_slices _
  rw [hslices, State.attachSlice_health]

theorem State.queueReturn_queue : (s.queueReturn g m).spr.queue.length = s.spr.queue.length + 1 :=
  (congrArg List.length (State.noteSpareCount_queue _)).trans (State.queueRly_length (s.attachSlice g m (homeSlice g m)) g _)

end

/-! ### A relayout suspended (R267, R271) -/

section
variable {s : State} {g : Fin 8} {r : Relayout} (hr : s.spr.rly[g] = some r)
include hr

theorem State.suspendRly_eq : s.suspendRly g =
    ((s.setRly g (some { r with running := false, suspended := true })).dropCopies g).checkpointStopped g := by
  simp only [State.suspendRly, State.haltRly, hr, Bool.or_true]

theorem State.suspendRly_rly : (s.suspendRly g).spr.rly[g] = some { r with running := false, suspended := true } := by
  have hspr : (s.suspendRly g).spr = (s.setRly g (some { r with running := false, suspended := true })).spr := by
    rw [State.suspendRly_eq hr]
    exact (State.checkpointStopped_keeps ..).p .spr (by decide)
  rw [hspr, State.setRly_self]

/-- The checkpoint is written where no copy of the window is at work. -/
theorem State.suspendRly_ckpt : (s.suspendRly g).ao.ckpt =
    if (s.dropCopies g).windowStripes g = [] then s.ao.ckpt.set g r.bound else s.ao.ckpt := by
  have hset : ((s.setRly g (some { r with running := false, suspended := true })).dropCopies g).spr.rly[g] =
      some { r with running := false, suspended := true } := s.setRly_self g _
  have hwindow : ((s.setRly g (some { r with running := false, suspended := true })).dropCopies g).windowStripes g =
      (s.dropCopies g).windowStripes g := rfl
  rw [State.suspendRly_eq hr, State.checkpointStopped]
  simp only [hset, hwindow, Bool.true_or, Bool.true_and, List.isEmpty_iff]
  split <;> rfl

end

/-! ### A relayout resumed (R173, R263, R271) -/

/-- It goes on at once where a vane is free, and then takes bandwidth from its hub. -/
def State.resumeRly (s : State) (g : Fin 8) (r : Relayout) : State :=
  let t := s.setRly g (some { r with suspended := false, running := decide (s.rlyCount < 2) })
  if s.rlyCount < 2 then t.detectCut (1#8 <<< g.val) else t

theorem State.resumeRly_rly (s : State) (g : Fin 8) (r : Relayout) :
    (s.resumeRly g r).spr.rly[g] = some { r with suspended := false, running := decide (s.rlyCount < 2) } := by
  have hspr : (s.resumeRly g r).spr = (s.setRly g (some { r with suspended := false, running := decide (s.rlyCount < 2) })).spr := by
    unfold State.resumeRly
    split
    · exact (State.detectCut_keeps ..).p .spr (by decide)
    · rfl
  rw [hspr, State.setRly_self]

/-! ### A slice admitted (R281) -/

/-- Its fence and its error level cleared, it becomes a free spare. -/
def State.admitSlice (s : State) (c : Fin 80) : State := ((s.setFence c false).modHealth c fun h => { h with errLevel := 0 }).freeSlice c

section
variable (s : State) (c : Fin 80)

theorem State.setFence_clear : (s.setFence c false).fab.fence.getLsbD c.val = false := by
  simp [State.setFence, c.isLt]

theorem State.admitSlice_fence : (s.admitSlice c).fab.fence.getLsbD c.val = false := by
  have hfab : (s.admitSlice c).fab = (s.setFence c false).fab := (State.freeSlice_keeps ..).p .fab (by decide)
  rw [hfab, State.setFence_clear]

end

section
variable {s : State} (hnone : s.spr.requests = [])
include hnone

theorem State.serveRequests_of_none : s.serveRequests = s := by
  rw [State.serveRequests, hnone, List.foldl_nil]

/-- With no request that waits for a spare, a slice set free stays so. -/
theorem State.freeSlice_role (c : Fin 80) : (s.freeSlice c).slices[c].health.role = roleSpareFree := by
  have hslices : (s.freeSlice c).slices = (s.modHealth c fun h => { h with role := roleSpareFree, mem := none }).slices :=
    (congrArg State.slices (State.serveRequests_of_none (by exact hnone))).trans rfl
  rw [hslices, State.modHealth_self]

end

end Sys2Proof.Machine

namespace Sys2Proof.Proofs
open Sys2Proof.Machine

section
variable {g : Fin 8} {m : Fin 9} {d : Fin 80} {s : State} (hlive : s.pageLive pageSpr = true) (hservice : s.inService = true)
include hlive

/-- A command does what it does where its page takes writes. -/
theorem exec_of_sprLive {i : Instr} {f : State → State} {t : State} (hexec : exec i s = .next (s.whenLive pageSpr f)) (hf : f s = t) :
    exec i s = .next t := by
  rw [hexec, State.whenLive_of_live hlive, hf]

include hservice

theorem sprFail_declares (hunused : s.role d ≠ roleUnused) (hfailed : s.role d ≠ roleFailed) (hunavailable : s.role d ≠ roleUnavailable)
    (hmem : s.slices[d].health.mem = none) :
    exec (.sprFail (BitVec.ofNat 7 d.val)) s = .next ((s.declareFailed d 6).sprResult 0) := by
  refine exec_of_sprLive hlive rfl ?_
  simp only [State.cmdFail, sliceArg_ofNat, hunused, hfailed, hunavailable, State.servesMember_of_unseated hmem, or_self, Bool.false_eq_true,
    false_and, if_false, State.sprDo_of_service hservice]

theorem sliceTest_tests (hrole : s.role d = roleQuarantine) : Completes (.sliceTest (BitVec.ofNat 7 d.val)) s fun t =>
    t.spr.result = 0 ∧ t.slices[d].health = { s.slices[d].health with role := roleTesting } := by
  have hdone : s.cmdTest (BitVec.ofNat 7 d.val) = (s.modHealth d fun h => { h with role := roleTesting }).sprResult 0 := by
    simp only [State.cmdTest, sliceArg_ofNat, if_pos hrole, State.sprDo_of_service hservice]
  refine ⟨_, exec_of_sprLive hlive rfl hdone, ?_⟩
  beta_reduce
  rw [State.sprResult_spr, State.sprResult_slices, State.modHealth_self]
  exact ⟨rfl, rfl⟩

theorem admitSlice_admits (hrole : s.role d = roleQuarantine) (hretrained : s.slices[d].health.retrained = true)
    (htested : s.slices[d].health.tested = true) : Completes (.admitSlice (BitVec.ofNat 7 d.val)) s fun t =>
      t.spr.result = 0 ∧ t.fab.fence.getLsbD d.val = false ∧ (s.spr.requests = [] → t.slices[d].health.role = roleSpareFree) := by
  have hfit : s.slices[d].health.role = roleQuarantine ∧ s.slices[d].health.retrained = true ∧ s.slices[d].health.tested = true :=
    ⟨hrole, hretrained, htested⟩
  have hdone : s.cmdAdmit (BitVec.ofNat 7 d.val) = (s.admitSlice d).sprResult 0 := by
    simp only [State.cmdAdmit, sliceArg_ofNat, if_pos hfit, State.sprDo_of_service hservice, State.admitSlice]
  refine ⟨_, exec_of_sprLive hlive rfl hdone, ?_⟩
  beta_reduce
  rw [State.sprResult_spr, State.sprResult_slices, State.sprResult_fab]
  exact ⟨rfl, s.admitSlice_fence d, fun hnone => State.freeSlice_role (by exact hnone) d⟩

section
variable (hpopulated : s.populated g = true)
include hpopulated

theorem evacuate_queues (hreach : s.otherUnreachable g m = false) (hhealthy : (s.member g m).st = .healthy) (hasked : s.spareAsked g m = false)
    (hfree : s.role d = roleSpareFree) : Completes (.evacuate g (BitVec.ofNat 4 m.val) (BitVec.ofNat 7 d.val)) s fun t =>
      t.spr.result = s.rlyNow g ∧ t.slices[d].health.role = roleAttached ∧ t.slices[d].health.mem = some m ∧ t.slices[d].health.grp = g ∧
      t.spr.queue.length = s.spr.queue.length + 1 := by
  have hdone : s.cmdEvacuate g (BitVec.ofNat 4 m.val) (BitVec.ofNat 7 d.val) = (s.grantSpare g m true d).sprResult (s.rlyNow g) := by
    simp only [State.cmdEvacuate, State.memberArg_ofNat hpopulated, State.spareArg_ofNat hfree, hreach, hhealthy, hasked, Bool.false_eq_true,
      ne_eq, not_true_eq_false, or_self, if_false, State.sprDo_of_service hservice]
  refine ⟨_, exec_of_sprLive hlive rfl hdone, ?_⟩
  beta_reduce
  rw [State.sprResult_spr, State.sprResult_slices, State.grantSpare_health]
  exact ⟨rfl, rfl, rfl, rfl, State.grantSpare_queue ..⟩

theorem returnHome_queues (hhealthy : (s.member g m).st = .healthy) (haway : (s.member g m).slice ≠ homeSlice g m)
    (hfree : s.role (homeSlice g m) = roleSpareFree) (hnone : s.spr.rly[g] = none) (hqueue : (s.spr.queue.any fun q => q.1 == g) = false) :
    Completes (.returnHome g (BitVec.ofNat 4 m.val)) s fun t => t.spr.result = s.rlyNow g ∧
      t.slices[homeSlice g m].health.role = roleAttached ∧ t.spr.queue.length = s.spr.queue.length + 1 := by
  have hreturns : (s.member g m).st = .healthy ∧ (s.member g m).slice ≠ homeSlice g m ∧ s.role (homeSlice g m) = roleSpareFree ∧
      (s.spr.rly[g]).isNone ∧ (s.spr.queue.any fun q => q.1 == g) = false := ⟨hhealthy, haway, hfree, Option.isNone_iff_eq_none.2 hnone, hqueue⟩
  have hdone : s.cmdReturn g (BitVec.ofNat 4 m.val) = (s.queueReturn g m).sprResult (s.rlyNow g) := by
    simp only [State.cmdReturn, State.memberArg_ofNat hpopulated, if_pos hreturns, State.sprDo_of_service hservice, State.queueReturn,
      State.attachSlice]
  refine ⟨_, exec_of_sprLive hlive rfl hdone, ?_⟩
  beta_reduce
  rw [State.sprResult_spr, State.sprResult_slices]
  exact ⟨rfl, State.queueReturn_role .., State.queueReturn_queue ..⟩

theorem suspend_suspends {r : Relayout} (hr : s.spr.rly[g] = some r) (hrunning : r.running = true) : Completes (.suspend g) s fun t =>
    t.spr.result = 0 ∧ t.spr.rly[g] = some { r with running := false, suspended := true } ∧
      t.ao.ckpt = (if (s.dropCopies g).windowStripes g = [] then s.ao.ckpt.set g r.bound else s.ao.ckpt) := by
  have hdone : s.cmdSuspend g = (s.suspendRly g).sprResult 0 := by
    simp only [State.cmdSuspend, hpopulated, State.rlyRunning, hr, hrunning, Bool.true_or, Bool.true_eq_false, if_true, if_false,
      State.sprDo_of_service hservice]
  refine ⟨_, exec_of_sprLive hlive rfl hdone, ?_⟩
  beta_reduce
  rw [State.sprResult_spr, State.sprResult_ao]
  exact ⟨rfl, State.suspendRly_rly hr, State.suspendRly_ckpt hr⟩

theorem resume_resumes {r : Relayout} (hr : s.spr.rly[g] = some r) (hsuspended : r.suspended = true) (hsound : s.parity pageSpr = false) :
    Completes (.resume g) s fun t => t.spr.result = (if s.rlyCount < 2 then 0 else 6) ∧
      t.spr.rly[g] = some { r with suspended := false, running := decide (s.rlyCount < 2) } := by
  have hdone : s.cmdResume g = (s.resumeRly g r).sprResult (if s.rlyCount < 2 then 0 else 6) := by
    simp only [State.cmdResume, hpopulated, State.rlyHeld, hr, hsuspended, hsound, Bool.not_false, Bool.and_true, Bool.true_eq_false, if_true,
      if_false, State.sprDo_of_service hservice, decide_eq_true_eq, State.resumeRly]
  refine ⟨_, exec_of_sprLive hlive rfl hdone, ?_⟩
  beta_reduce
  rw [State.sprResult_spr]
  exact ⟨rfl, s.resumeRly_rly g r⟩

theorem attach_grants {r : SpareReq} (hr : (s.spr.requests.find? fun r => r.grp == g && r.mem == m) = some r) (hfree : s.role d = roleSpareFree) :
    Completes (.attach g (BitVec.ofNat 4 m.val) (BitVec.ofNat 7 d.val)) s fun t => t.spr.result = s.rlyNow g ∧
      t.slices[d].health.role = roleAttached ∧ t.slices[d].health.mem = some m ∧ t.spr.requests = s.spr.requests.erase r := by
  have hdone : s.cmdAttach g (BitVec.ofNat 4 m.val) (BitVec.ofNat 7 d.val) =
      (({ s with spr := { s.spr with requests := s.spr.requests.erase r } } : State).grantSpare g m r.evac d).sprResult (s.rlyNow g) := by
    simp only [State.cmdAttach, State.memberArg_ofNat hpopulated, hr, State.spareArg_ofNat hfree, State.sprDo_of_service hservice]
  refine ⟨_, exec_of_sprLive hlive rfl hdone, ?_⟩
  beta_reduce
  rw [State.sprResult_spr, State.sprResult_slices, State.grantSpare_health]
  exact ⟨rfl, rfl, rfl, State.grantSpare_requests ..⟩

end

end

/-- Settles O30, command by command. -/
theorem spareCommands : Obligations.SpareCommands := by
  unfold Obligations.SpareCommands
  intro g m d s hlive hservice hpopulated
  exact ⟨sprFail_declares hlive hservice, evacuate_queues hlive hservice hpopulated, returnHome_queues hlive hservice hpopulated,
    fun r => suspend_suspends hlive hservice hpopulated, fun r => resume_resumes hlive hservice hpopulated, sliceTest_tests hlive hservice,
    admitSlice_admits hlive hservice, fun r => attach_grants hlive hservice hpopulated⟩

end Sys2Proof.Proofs
end

section
/-!
Spare maintenance (O31). A slice answers a read of a strip from a write of it that is queued (`State.stripNow`, R207), and Patrol mends the parity in
the devices and leaves the queues alone: `Obligations.SpareMaintenance` says that the parity reads as mended, and has no hypothesis that keeps such
a write from the parity's line. `State.stripeFree` asks for no job of the hub at the stripe, and `Inv` does not say that a queued write has one.
-/
namespace Sys2Proof.Proofs
open Sys2Proof.Machine

/-- A block in RUN that scrubs (SPR_RATE.PATROL 16) and counts no events, whose group 0 holds zero strips with their check words in stripe 0. -/
def inRunScrubbed : State :=
  allMembers.foldl (fun s m => s.putStrip (homeSlice 0 m) 0 0 (checkWord 0 m 0 0))
    ((inRun.store pageSpr 0x044 0x10).store pageTel 0x040 0)

/-- A write of the parity strip of that stripe (member 8), with the contents 1 and their check word, that no job of the hub has sent. -/
def strayParity : MemOp :=
  { jid := 1, group := 0, member := 8, stripe := 0, line := 0, write := true, check := false, data := 1, word := checkWord 0 8 0 1
    level := 0, epoch := 0, tEnter := 0, replay := false, also := [] }

/-- That block with the write queued at the member's slice. -/
def inRunStray : State := inRunScrubbed.modSched 8 fun x => { x with wq := [strayParity] }

/-- Patrol finds a good strip at every member, and a parity that does not match. -/
theorem inRunStray_reads (m : Fin 9) : (inRunStray.readStripe 0 0 [])[m] = if m = 8 then .got 1 else .got 0 := by
  revert m
  decide +kernel

/-- After the mending the parity reads as it did. -/
theorem inRunStray_scrubbed : ∃ t, exec (.patrolStripe 0 []) inRunStray = .next t ∧ (t.readStripe 0 0 [])[parityMember 0] = .got 1 := by
  refine ⟨_, rfl, ?_⟩
  decide +kernel

/-- Refutes O31: where a write of the parity strip of stripe 0 of group 0 is queued at its slice and no job of the hub is at that stripe, Patrol
counts the parity as mended, and the slice still returns the contents of the write. -/
theorem not_spareMaintenance : ¬ Obligations.SpareMaintenance := by
  unfold Obligations.SpareMaintenance
  intro h
  obtain ⟨-, hpatrol, -⟩ := h 0 false 0 [] inRunStray
  obtain ⟨-, hstripe⟩ := hpatrol (by decide +kernel) (by decide +kernel) (by decide +kernel) (by decide +kernel) (by decide +kernel)
    (by decide +kernel)
  obtain ⟨-, hparity⟩ := hstripe 0 (by decide +kernel) (by decide +kernel) (by decide +kernel) (by decide +kernel) (by decide +kernel)
  have hgood (m : Fin 9) : ((inRunStray.readStripe 0 0 [])[m].stored).isSome = true := by
    rw [inRunStray_reads]
    split <;> rfl
  obtain ⟨-, hmends⟩ := hparity 0 (by decide +kernel) hgood (by decide +kernel)
  obtain ⟨t, ht, -, hmended⟩ := hmends (by decide +kernel)
  obtain ⟨u, hu, hread⟩ := inRunStray_scrubbed
  obtain rfl := Host.Outcome.next.inj (hu.symm.trans ht)
  exact absurd (hread.symm.trans hmended) (by decide +kernel)

end Sys2Proof.Proofs
end

section
/-!
The frame and the invariant of every command and of every step (O57, O58, O59), from the masks of Laws/KeepsCommands.lean.
-/
namespace Sys2Proof.Machine

/-- The mask of a list of parts. -/
def partsMask (l : List Part) : Nat := l.foldr (fun p m => 1 <<< p.idx ||| m) 0

theorem Part.idx_inj {p q : Part} (h : p.idx = q.idx) : p = q := by
  rw [← Part.ofNat_ctorIdx p, ← Part.ofNat_ctorIdx q]
  exact congrArg Part.ofNat h

/-- The mask of a list has the bits of its parts alone. -/
theorem testBit_partsMask (l : List Part) (p : Part) : (partsMask l).testBit p.idx = decide (p ∈ l) := by
  induction l with
  | nil => simp [partsMask]
  | cons q l ih =>
    have hcons : partsMask (q :: l) = 1 <<< q.idx ||| partsMask l := rfl
    have hidx : q.idx = p.idx ↔ p = q := ⟨fun h => (Part.idx_inj h).symm, fun h => congrArg Part.idx h.symm⟩
    rw [hcons, Nat.testBit_or, ih, Nat.one_shiftLeft, Nat.testBit_two_pow]
    simp [hidx]

/-- A change within the mask of a list leaves every part outside the list. -/
theorem Keeps.frame_of_partsMask {l : List Part} {s t : State} (h : Keeps (partsMask l) s t) : Frame l s t :=
  h.frame.frame fun p hp => by rw [testBit_partsMask, decide_eq_false hp]

/-- A command whose mask lies within the parts that `touches` names for it. -/
theorem Does.within {m : Nat} {s : State} {o : Host.Outcome State Fault Refusal} {c : Instr} (h : Does m s o)
    (hm : m &&& partsMask (touches c) = m := by simp only [touches]; decide) : Does (partsMask (touches c)) s o :=
  h.imp fun _ ht => ⟨ht.1, ht.2.mono hm⟩

/-- Every command answers a next state within the parts that `touches` names for it, one arm for each command. -/
theorem exec_does : ∀ (c : Instr) (s : State), Does (partsMask (touches c)) s (exec c s)
  | .opRead _ _ _, _ => (execOpRead_keeps ..).within
  | .opWrite _ _ _, _ => (execOpWrite_keeps ..).within
  | .opWriteXor _ _ _, _ => (execOpWriteXor_keeps ..).within
  | .opFill _ _ _, _ => (execOpFill_keeps ..).within
  | .groupOpen _ _, _ => (execGroupOpen_keeps ..).within
  | .groupCommit _ _, _ => (execGroupCommit_keeps ..).within
  | .groupAbort _ _, _ => (execGroupAbort_keeps ..).within
  | .opBarrier _ _, _ => (execOpBarrier_keeps ..).within
  | .reservedOpcode _ _ _, _ => (execReservedOpcode_keeps ..).within
  | .writeDataBeat _ _, _ => (execWriteDataBeat_keeps ..).within
  | .response _ _, _ => (execResponse_keeps ..).within
  | .barrierComplete _ _, _ => (execBarrierComplete_keeps ..).within
  | .groupCommitForward _ _, _ => (execGroupCommitForward_keeps ..).within
  | .orderedForward _ _, _ => (execOrderedForward_keeps ..).within
  | .portResetPin _, _ => (execPortResetPin_keeps ..).within
  | .portReset _, _ => (execPortReset_keeps ..).within
  | .portResetDrainDone _, _ => (execPortResetDrainDone_keeps ..).within
  | .portResetRelease _, _ => (execPortResetRelease_keeps ..).within
  | .prtClrCounters _, _ => (execPrtClrCounters_keeps ..).within
  | .wdTimeout _ _, _ => (execWdTimeout_keeps ..).within
  | .tagWatchdog _ _, _ => (execTagWatchdog_keeps ..).within
  | .ingestBeat _ _, _ => (execIngestBeat_keeps ..).within
  | .idleClose _, _ => (execIdleClose_keeps ..).within
  | .drainStripeIssue _, _ => (execDrainStripeIssue_keeps ..).within
  | .drainStripeAck _, _ => (execDrainStripeAck_keeps ..).within
  | .trigger _, _ => (execTrigger_keeps ..).within
  | .freezeComplete _, _ => (execFreezeComplete_keeps ..).within
  | .ingestPortReset _, _ => (execIngestPortReset_keeps ..).within
  | .ingestPortResetRelease _, _ => (execIngestPortResetRelease_keeps ..).within
  | .ingEnable _, _ => (execIngEnable_keeps ..).within
  | .ingDisable _, _ => (execIngDisable_keeps ..).within
  | .closingComplete _, _ => (execClosingComplete_keeps ..).within
  | .rearm _, _ => (execRearm_keeps ..).within
  | .trig _, _ => (execTrig_keeps ..).within
  | .ingClrCounters _, _ => (execIngClrCounters_keeps ..).within
  | .ingRpWrite _ _, _ => (execIngRpWrite_keeps ..).within
  | .flip _, _ => (execFlip_keeps ..).within
  | .soloDone _, _ => (execSoloDone_keeps ..).within
  | .demandResolution _ _, _ => (execDemandResolution_keeps ..).within
  | .sweepStep _ _, _ => (execSweepStep_keeps ..).within
  | .ldgClrCounters, _ => (execLdgClrCounters_keeps ..).within
  | .clearAllPoison, _ => (execClearAllPoison_keeps ..).within
  | .clearPoison, _ => (execClearPoison_keeps ..).within
  | .abortGrp, _ => (execAbortGrp_keeps ..).within
  | .arbPhase _ _, _ => (execArbPhase_keeps ..).within
  | .arbTickAdvance _, _ => (execArbTickAdvance_keeps ..).within
  | .backoffExpiry _, _ => (execBackoffExpiry_keeps ..).within
  | .routeEpochSwap _, _ => (execRouteEpochSwap_keeps ..).within
  | .fenceDone _, _ => (execFenceDone_keeps ..).within
  | .lateResponse _, _ => (execLateResponse_keeps ..).within
  | .fabClrCounters, _ => (execFabClrCounters_keeps ..).within
  | .arbClrCounters, _ => (execArbClrCounters_keeps ..).within
  | .clrLongest, _ => (execClrLongest_keeps ..).within
  | .warmReset, _ => (execWarmReset_keeps ..).within
  | .wrstLimitExpiry, _ => (execWrstLimitExpiry_keeps ..).within
  | .regulationEpoch, _ => (execRegulationEpoch_keeps ..).within
  | .feasibilityCheck, _ => (execFeasibilityCheck_keeps ..).within
  | .recheck, _ => (execRecheck_keeps ..).within
  | .shrClrCounters, _ => (execShrClrCounters_keeps ..).within
  | .memberReadReturn _ _ _, _ => (execMemberReadReturn_keeps ..).within
  | .memberWriteAck _ _, _ => (execMemberWriteAck_keeps ..).within
  | .zeroFillStep _, _ => (execZeroFillStep_keeps ..).within
  | .grpClrCounters _, _ => (execGrpClrCounters_keeps ..).within
  | .sliceCommandIssue _ _, _ => (execSliceCommandIssue_keeps ..).within
  | .gustWrAge _, _ => (execGustWrAge_keeps ..).within
  | .refreshBoundary _, _ => (execRefreshBoundary_keeps ..).within
  | .tleadExpiry _, _ => (execTleadExpiry_keeps ..).within
  | .refreshStallEnd _, _ => (execRefreshStallEnd_keeps ..).within
  | .perBankRefresh _, _ => (execPerBankRefresh_keeps ..).within
  | .refreshRatePoll _ _ _, _ => (execRefreshRatePoll_keeps ..).within
  | .parityAlert _ _, _ => (execParityAlert_keeps ..).within
  | .replayReissue _ _ _, _ => (execReplayReissue_keeps ..).within
  | .ckcFlush _, _ => (execCkcFlush_keeps ..).within
  | .chClrCounters _, _ => (execChClrCounters_keeps ..).within
  | .oscillatorPoll _ _, _ => (execOscillatorPoll_keeps ..).within
  | .lullIntervalExpiry _, _ => (execLullIntervalExpiry_keeps ..).within
  | .lullWindow _ _, _ => (execLullWindow_keeps ..).within
  | .marginFailRetry _, _ => (execMarginFailRetry_keeps ..).within
  | .fullRetrainDone _ _, _ => (execFullRetrainDone_keeps ..).within
  | .lull _, _ => (execLull_keeps ..).within
  | .retrain _, _ => (execRetrain_keeps ..).within
  | .scan _, _ => (execScan_keeps ..).within
  | .scanDone _ _ _ _, _ => (execScanDone_keeps ..).within
  | .chTrnClrCounters _, _ => (execChTrnClrCounters_keeps ..).within
  | .plChangeDecision, _ => (execPlChangeDecision_keeps ..).within
  | .standbyPllLocked _, _ => (execStandbyPllLocked_keeps ..).within
  | .switchStep _, _ => (execSwitchStep_keeps ..).within
  | .supplyMonitorUpdate _ _ _, _ => (execSupplyMonitorUpdate_keeps ..).within
  | .vrampExpiry, _ => (execVrampExpiry_keeps ..).within
  | .thermalMonitorUpdate _ _ _, _ => (execThermalMonitorUpdate_keeps ..).within
  | .paceMonitorUpdate _ _, _ => (execPaceMonitorUpdate_keeps ..).within
  | .paceOffsetStep, _ => (execPaceOffsetStep_keeps ..).within
  | .deviceResetEnd, _ => (execDeviceResetEnd_keeps ..).within
  | .sliceTrainingDone _ _ _, _ => (execSliceTrainingDone_keeps ..).within
  | .slowLimitExpiry _, _ => (execSlowLimitExpiry_keeps ..).within
  | .errLevelLeak _, _ => (execErrLevelLeak_keeps ..).within
  | .relayoutStart _, _ => (execRelayoutStart_keeps ..).within
  | .relayoutStripe _ _, _ => (execRelayoutStripe_keeps ..).within
  | .relayoutComplete _, _ => (execRelayoutComplete_keeps ..).within
  | .quarantineProbe _ _, _ => (execQuarantineProbe_keeps ..).within
  | .sprFail _, _ => (execSprFail_keeps ..).within
  | .evacuate _ _ _, _ => (execEvacuate_keeps ..).within
  | .returnHome _ _, _ => (execReturnHome_keeps ..).within
  | .suspend _, _ => (execSuspend_keeps ..).within
  | .resume _, _ => (execResume_keeps ..).within
  | .sliceTest _, _ => (execSliceTest_keeps ..).within
  | .sliceTestDone _ _, _ => (execSliceTestDone_keeps ..).within
  | .admitSlice _, _ => (execAdmit_keeps ..).within
  | .attach _ _ _, _ => (execAttach_keeps ..).within
  | .clrLoss, _ => (execClrLoss_keeps ..).within
  | .sprClrCounters, _ => (execSprClrCounters_keeps ..).within
  | .patrolStripe _ _, _ => (execPatrolStripe_keeps ..).within
  | .switchover, _ => (execSwitchover_keeps ..).within
  | .vmainAoReturn, _ => (execVmainAoReturn_keeps ..).within
  | .brownOut, _ => (execBrownOut_keeps ..).within
  | .vbkLow _, _ => (execVbkLow_keeps ..).within
  | .doorbell, _ => (execDoorbell_keeps ..).within
  | .pwrReqRise _, _ => (execPwrReqRise_keeps ..).within
  | .pwrReqFall, _ => (execPwrReqFall_keeps ..).within
  | .dozeIdleExpiry, _ => (execDozeIdleExpiry_keeps ..).within
  | .voteAnswer _, _ => (execVoteAnswer_keeps ..).within
  | .voteTimeout _, _ => (execVoteTimeout_keeps ..).within
  | .rollbackComplete, _ => (execRollbackComplete_keeps ..).within
  | .sleepEntryComplete, _ => (execSleepEntryComplete_keeps ..).within
  | .sleepWake, _ => (execSleepWake_keeps ..).within
  | .wakeComplete, _ => (execWakeComplete_keeps ..).within
  | .clrRes, _ => (execClrRes_keeps ..).within
  | .pwrClrCounters, _ => (execPwrClrCounters_keeps ..).within
  | .clrCap, _ => (execClrCap_keeps ..).within
  | .clrVofs, _ => (execClrVofs_keeps ..).within
  | .mainPgFall, _ => (execMainPgFall_keeps ..).within
  | .admittedRequestsDone, _ => (execAdmittedRequestsDone_keeps ..).within
  | .openEntryLimit, _ => (execOpenEntryLimit_keeps ..).within
  | .saveHeaderWrite, _ => (execSaveHeaderWrite_keeps ..).within
  | .selfRefreshEntry _, _ => (execSelfRefreshEntry_keeps ..).within
  | .squallComplete, _ => (execSquallComplete_keeps ..).within
  | .squallTokenTake, _ => (execSquallTokenTake_keeps ..).within
  | .tokenWaitExpiry _, _ => (execTokenWaitExpiry_keeps ..).within
  | .mainPgRise, _ => (execMainPgRise_keeps ..).within
  | .refclkDetect, _ => (execRefclkDetect_keeps ..).within
  | .bringupComplete, _ => (execBringupComplete_keeps ..).within
  | .busClaim, _ => (execBusClaim_keeps ..).within
  | .frameReceived _ _, _ => (execFrameReceived_keeps ..).within
  | .ping _ _ _, _ => (execPing_keeps ..).within
  | .status _ _, _ => (execStatus_keeps ..).within
  | .wake _ _, _ => (execWake_keeps ..).within
  | .plHint _ _ _, _ => (execPlHint_keeps ..).within
  | .squallToken _ _, _ => (execSquallToken_keeps ..).within
  | .squallDone _ _, _ => (execSquallDone_keeps ..).within
  | .pingReply _ _ _, _ => (execPingReply_keeps ..).within
  | .statusReply _ _ _, _ => (execStatusReply_keeps ..).within
  | .frameSend _ _, _ => (execFrameSend_keeps ..).within
  | .handshakeTimeout _, _ => (execHandshakeTimeout_keeps ..).within
  | .stuck _, _ => (execStuck_keeps ..).within
  | .send, _ => (execSend_keeps ..).within
  | .rxRelease, _ => (execRxRelease_keeps ..).within
  | .brzClrCounters, _ => (execBrzClrCounters_keeps ..).within
  | .registerWrite _, _ => (execRegisterWrite_keeps ..).within
  | .idleApply _, _ => (execIdleApply_keeps ..).within
  | .intRawClear _ _, _ => (execIntRawClear_keeps ..).within
  | .intForce _ _, _ => (execIntForce_keeps ..).within
  | .clrErr _, _ => (execClrErr_keeps ..).within
  | .discard _, _ => (execDiscard_keeps ..).within
  | .glbLock, _ => (execGlbLock_keeps ..).within
  | .acquire _, _ => (execAcquire_keeps ..).within
  | .commit _, _ => (execCommit_keeps ..).within
  | .release _, _ => (execRelease_keeps ..).within
  | .leaseExpiry, _ => (execLeaseExpiry_keeps ..).within
  | .cpReset, _ => (execCpReset_keeps ..).within
  | .cfgParitySweep _ _ _, _ => (execCfgParitySweep_keeps ..).within
  | .mboxPing _, _ => (execMboxPing_keeps ..).within
  | .diagEnter, _ => (execDiagEnter_keeps ..).within
  | .diagExit, _ => (execDiagExit_keeps ..).within
  | .cfgSweep, _ => (execCfgSweep_keeps ..).within
  | .bist _, _ => (execBist_keeps ..).within
  | .pattern _ _ _ _ _ _, _ => (execPattern_keeps ..).within
  | .patrolRestart, _ => (execPatrolRestart_keeps ..).within
  | .abort _, _ => (execAbort_keeps ..).within
  | .vaneClrCounters _, _ => (execVaneClrCounters_keeps ..).within
  | .mboxDone _ _ _ _, _ => (execMboxDone_keeps ..).within
  | .dbgRead, _ => (execDbgRead_keeps ..).within
  | .dbgWrite, _ => (execDbgWrite_keeps ..).within
  | .directRead, _ => (execDirectRead_keeps ..).within
  | .directWrite, _ => (execDirectWrite_keeps ..).within
  | .dbgDone, _ => (execDbgDone_keeps ..).within
  | .capArm, _ => (execCapArm_keeps ..).within
  | .ack, _ => (execAck_keeps ..).within
  | .ackAll, _ => (execAckAll_keeps ..).within
  | .clrFirst, _ => (execClrFirst_keeps ..).within
  | .errClrCounters, _ => (execErrClrCounters_keeps ..).within
  | .snap, _ => (execSnap_keeps ..).within
  | .snapCaptureDone, _ => (execSnapCaptureDone_keeps ..).within
  | .clrCnt, _ => (execClrCnt_keeps ..).within
  | .clrOvf, _ => (execClrOvf_keeps ..).within
  | .flush, _ => (execFlush_keeps ..).within
  | .clrUnderrun, _ => (execClrUnderrun_keeps ..).within
  | .clrSamp, _ => (execClrSamp_keeps ..).within
  | .samplePop, _ => (execSamplePop_keeps ..).within
  | .fillBankTimeout, _ => (execFillBankTimeout_keeps ..).within
  | .program, _ => (execProgram_keeps ..).within
  | .programDone _, _ => (execProgramDone_keeps ..).within
  | .supplyTrip, _ => (execSupplyTrip_keeps ..).within
  | .otpClrCounters, _ => (execOtpClrCounters_keeps ..).within
  | .keyDerive, _ => (execKeyDerive_keeps ..).within
  | .keyDeriveDone, _ => (execKeyDeriveDone_keeps ..).within
  | .keyClear, _ => (execKeyClear_keeps ..).within
  | .patchLoad, _ => (execPatchLoad_keeps ..).within
  | .patchLoadDone, _ => (execPatchLoadDone_keeps ..).within
  | .patchTakeUp, _ => (execPatchTakeUp_keeps ..).within
  | .clrDeny, _ => (execClrDeny_keeps ..).within
  | .coldReset, _ => (execColdReset_keeps ..).within
  | .coldBringupStart, _ => (execColdBringupStart_keeps ..).within
  | .tapReset, _ => (execTapReset_keeps ..).within
  | .idcode, _ => (execIdcode_keeps ..).within
  | .samplePreload, _ => (execSamplePreload_keeps ..).within
  | .extest, _ => (execExtest_keeps ..).within
  | .clamp, _ => (execClamp_keeps ..).within
  | .highz, _ => (execHighz_keeps ..).within
  | .bypass, _ => (execBypass_keeps ..).within
  | .regacc _, _ => (execRegacc_keeps ..).within
  | .wsBypass, _ => (execWsBypass_keeps ..).within
  | .scanTestInstruction, _ => (execScanTestInstruction_keeps ..).within
  | .registerRead _ _, _ => (execRegisterRead_keeps ..).within
  | .selfRefreshExit _, _ => (execSelfRefreshExit_keeps ..).within
  | .microcodeCheckDone _, _ => (execMicrocodeCheckDone_keeps ..).within
  | .listenerJoin, _ => (execListenerJoin_keeps ..).within
  | .badOp _ _, _ => (execBadOp_keeps ..).within
  | .vidHoldExpiry, _ => (execVidHoldExpiry_keeps ..).within
  | .slotBoundary _ _, _ => (execSlotBoundary_keeps ..).within

/-- No command changes the queue of those that wait. -/
theorem pending_notMem_touches (c : Instr) : Part.pending ∉ touches c := by
  cases c <;> simp only [touches] <;> decide

end Sys2Proof.Machine

namespace Sys2Proof.Proofs
open Sys2Proof.Machine

/-- Settles O57: every command answers, and the queue is in no command's `touches`. -/
theorem everyCommandAnswers : Obligations.EveryCommandAnswers := by
  intro c s
  obtain ⟨t, ht, hkeeps⟩ := exec_does c s
  exact ⟨t, ht, hkeeps.frame_of_partsMask .pending (pending_notMem_touches c)⟩

/-- Settles O58: the frame that a command's mask gives. -/
theorem commandTouchesOnly : Obligations.CommandTouchesOnly := by
  intro c s t ht
  obtain ⟨u, hu, hkeeps⟩ := exec_does c s
  obtain rfl : u = t := Host.Outcome.next.inj (hu.symm.trans ht)
  exact hkeeps.frame_of_partsMask

/-- Settles O59: a tick keeps the invariant, and so does the command at the front of the queue, run with the queue's rest. -/
theorem stepKeepsInv : Obligations.StepKeepsInv := by
  intro s t hinv hstep
  unfold step at hstep
  split at hstep
  next =>
    obtain rfl := Host.Outcome.next.inj hstep
    exact s.tick_keeps.inv hinv
  next c rest _ =>
    obtain ⟨u, hu, hkeeps⟩ := exec_does c { s with pending := rest }
    obtain rfl : u = t := Host.Outcome.next.inj (hu.symm.trans hstep)
    exact hkeeps.inv ((keeps_pending s rest).inv hinv)

end Sys2Proof.Proofs
end

section
/-!
The tick (O56). A tick isolates a port that holds more read-data beats than its limit (R60), and an isolated port drops its writes that await
data (R61): the requests in flight are not the same after it.
-/
namespace Sys2Proof.Machine

section
variable {s : State} (h : s.cfgBit pageTel 0x040 0 = false)
include h

/-- With TEL_CTRL.RUN at 0 no system event counts (R441). -/
theorem State.telSys_of_stopped (ev : Nat) (qual : Option Nat) (n : Nat) : s.telSys ev qual n = s := by
  simp [State.telSys, h]

theorem State.tickVanes_of_stopped : s.tickVanes = s.tookFree := by
  have hstopped : s.tookFree.cfgBit pageTel 0x040 0 = false := h
  exact List.foldl_fixed' (fun v => by rw [State.telSys_of_stopped hstopped, ite_self]) _

theorem State.tickSums_of_stopped : s.tickSums = s := by
  have hgroups : allGroups.foldl (fun (u : State) (g : Fin 8) =>
      let v := u.telSys 0x0A (some g.val) u.hubs[g].journal.length
      if v.fencePending g then v.telSys 0x13 (some g.val) 1 else v) s = s :=
    List.foldl_fixed' (fun g => by simp only [State.telSys_of_stopped h, ite_self]) _
  rw [State.tickSums, hgroups, State.telSys_of_stopped h, ite_self]

end

/-- One nanosecond of residency and of the timebase. -/
def State.tickTime (s : State) : State := { s.tickResidency with tb := s.tickResidency.tb + 1 }

/-- A tick of a block with its core on and its telemetry counters stopped looks at the ports' limits alone. -/
theorem State.tick_of_stopped {s : State} (hcore : s.pwr.coreOn = true) (hmode : s.mode.mode ≠ .retention)
    (htel : s.tickTime.cfgBit pageTel 0x040 0 = false) : s.tick = (List.finRange 16).foldl State.checkSink s.tickTime.tookFree := by
  have hpwr : s.tickResidency.pwr = s.pwr := s.tickResidency_keeps.p .pwr (by decide)
  have hkept : s.tickResidency.mode = s.mode := s.tickResidency_keeps.p .mode (by decide)
  have hon : ¬(s.tickResidency.pwr.coreOn = false ∨ s.tickResidency.mode.mode = .retention) := by rw [hpwr, hkept, hcore]; simp [hmode]
  have htick : s.tick = (List.finRange 16).foldl State.checkSink s.tickTime.tickSums.tickVanes := if_neg hon
  rw [htick, State.tickSums_of_stopped htel, State.tickVanes_of_stopped htel]

end Sys2Proof.Machine

namespace Sys2Proof.Proofs
open Sys2Proof.Machine

/-- A request of 64 lines under a tag. -/
def longRequest (tag : BitVec 10) : ReqFields := { tag := tag, addr := 0, len := 63, cls := 0, ord := 0, gv := false, gid := 0, pi := 0, aux := 0 }

/-- A completed read of port 0 whose 64 beats wait to be driven. -/
def heldRead (k : Nat) : Req :=
  { newReq k (srcPort 0) opcRead (longRequest (BitVec.ofNat 10 k)) 0 with phase := .done rspOk, out := (List.range 64).map fun j => (j, 0, false) }

/-- The block in RUN, TEL_CTRL.RUN at 0: port 0 has a limit of 256 beats, holds 320 of five reads, and awaits the data of a write. -/
def inRunSinkFull : State :=
  { (inRun.store (pagePort 0) 0x04C 0x100).store pageTel 0x040 0 with
    ids := 6, reqs := (List.range 5).map heldRead ++ [newReq 5 (srcPort 0) opcWrite (longRequest 5) 0] }

/-- After a tick the write is gone. -/
theorem inRunSinkFull_tick : inRunSinkFull.tick.reqs.length = 5 := by
  rw [State.tick_of_stopped rfl (by decide) (by decide +kernel)]
  decide +kernel

/-- Refutes O56: a tick with no command waiting isolates port 0, which holds 320 read-data beats under a limit of 256, and drops the write
that awaits its data there. -/
theorem not_stepRunsTheFrontCommand : ¬ Obligations.StepRunsTheFrontCommand := by
  unfold Obligations.StepRunsTheFrontCommand
  intro h
  obtain ⟨t, ht, -, -, -, hreqs⟩ := (h inRunSinkFull).2 rfl
  obtain rfl : inRunSinkFull.tick = t := Host.Outcome.next.inj ht
  have hlength : inRunSinkFull.tick.reqs.length = inRunSinkFull.reqs.length := by simpa only [List.length_map] using congrArg List.length hreqs
  exact absurd (inRunSinkFull_tick.symm.trans hlength) (by decide)

end Sys2Proof.Proofs
end

section
/-!
Frames of other participants on the Breeze bus (O41): what a whole frame leaves of the interface, and what a frame to the instance's own address
does (R347, R351, R352, R355 to R361).
-/
namespace Sys2Proof.Machine

/-- A command completes with what holds of the state it answers, in whatever form that is put. -/
theorem Completes.of_eq {c : Instr} {s t u : State} {P : State → Prop} (h : exec c s = .next t) (ht : t = u) (hP : P u) : Completes c s P :=
  ⟨u, ht ▸ h, hP⟩

/-! ### The wires after a frame (R346 to R348) -/

/-- Every symbol ends with the wires at rest. -/
theorem symbolWires_getLast? (rails : BitVec 2) : (symbolWires rails).getLast? = some wiresIdle := rfl

/-- A frame ends with the wires at rest. -/
theorem frameWires_getLast? (f : List Byte) : (frameWires f).getLast? = some wiresIdle := by
  unfold frameWires
  rcases List.eq_nil_or_concat (frameBits f) with h | ⟨bits, b, h⟩ <;> rw [h]
  · rfl
  · simp [symbolWires_getLast?]

/-- The interface at rest: no frame on the bus, the instance's ACK low. -/
def State.brzRest (s : State) : State := { s with brz := { s.brz with busy := false, wires := wiresIdle, pulls := pullsArmed } }

theorem State.brzAfter_frameWires (s : State) (f : List Byte) : (s.brzAfter (frameWires f)).brzFree = s.brzRest := by
  simp only [State.brzAfter, frameWires_getLast?, Option.getD_some]
  rfl

section
variable {s : State} (h : s.brz.joined = true)
include h

/-- A whole frame of at most 16 payload bytes. -/
theorem State.brzMatch_of_joined {payload : List Byte} (hlen : payload.length ≤ 16) (dest src cmd : Byte) :
    s.brzMatch dest src cmd payload = s.brzRest.brzGood dest src cmd payload := by
  rw [State.brzMatch, if_neg (by rw [h]; decide), State.brzAfter_frameWires]
  exact if_pos hlen

theorem State.brzFrameIn_collision (bytes : List Byte) : s.brzFrameIn bytes true = s.brzRest := by
  rw [State.brzFrameIn, if_neg (by rw [h]; decide), State.brzAfter_frameWires]
  dsimp only
  split
  · rw [Bool.true_or, Bool.true_or, if_pos rfl]
  · rfl

/-- The bytes of a frame of at most 16 payload bytes, by its last byte. -/
theorem State.brzFrameIn_of_bytes {payload : List Byte} (hlen : payload.length ≤ 16) (dest src cmd crc : Byte) :
    s.brzFrameIn ([dest, src, cmd, BitVec.ofNat 8 payload.length] ++ payload ++ [crc]) false =
      if crcFrame ([dest, src, cmd, BitVec.ofNat 8 payload.length] ++ payload) ≠ crc then
        { s.brzRest with brz := { s.brzRest.brz with crcCnt := satInc s.brzRest.brz.crcCnt } }
      else s.brzRest.brzGood dest src cmd payload := by
  have hnat : (BitVec.ofNat 8 payload.length).toNat = payload.length := by
    rw [BitVec.toNat_ofNat, Nat.mod_eq_of_lt (by omega)]
  have htake : (dest :: src :: cmd :: BitVec.ofNat 8 payload.length :: (payload ++ [crc])).take (4 + payload.length) =
      [dest, src, cmd, BitVec.ofNat 8 payload.length] ++ payload := by
    rw [show 4 + payload.length = payload.length + 4 by omega]
    simp
  have hgood : ¬(false || decide (16 < payload.length) || (payload ++ [crc]).length != payload.length + 1) = true := by simp [hlen]
  rw [State.brzFrameIn, if_neg (by rw [h]; decide), State.brzAfter_frameWires]
  simp only [List.cons_append, List.nil_append, hnat, if_neg hgood, htake]
  simp

end

/-! ### A frame to the instance's own address (R351, R356) -/

/-- A wake leaves the Squall and the performance level. -/
theorem State.brzWakes_leaves (s : State) : s.brzWakes.squall = s.squall ∧ s.brzWakes.pwr.pl = s.pwr.pl := by
  unfold State.brzWakes State.wakeBy
  split
  · split <;> exact ⟨rfl, rfl⟩
  · split
    · exact ⟨rfl, rfl⟩
    · split <;> exact ⟨rfl, rfl⟩
    · exact ⟨rfl, rfl⟩

@[simp] theorem State.brzWakes_brz (s : State) : s.brzWakes.brz = s.brz := s.brzWakes_keeps.p .brz (by decide)

@[simp] theorem State.brzRaise_brz (s : State) (j : Nat) : (s.brzRaise j).brz = s.brz := (s.brzRaise_keeps j).p .brz (by decide)

section
variable (s : State) (src : Byte)

theorem State.brzAct_ping {payload : List Byte} (hlen : payload.length ≤ 16) :
    s.brzAct s.brzOwn src brzPing payload = s.brzReply (brzFrame src s.brzOwn brzPingReply payload) := by
  have hok : brzLenOk brzPing payload.length = true := decide_eq_true hlen
  simp [State.brzAct, hok]

theorem State.brzAct_status : s.brzAct s.brzOwn src brzStatus [] = s.brzReply (brzFrame src s.brzOwn brzStatusReply s.statusPayload) := by
  have hok : brzLenOk brzStatus ([] : List Byte).length = true := rfl
  have hne : brzStatus ≠ brzPing := by decide
  simp only [State.brzAct, hok, hne, Bool.true_eq_false, beq_self_eq_true, if_true, if_false]

/-- WAKE and PL_HINT have no action besides the wake. -/
theorem State.brzAct_wake : s.brzAct s.brzOwn src brzWake [] = s := rfl

theorem State.brzAct_hint (b : Byte) : s.brzAct s.brzOwn src brzHint [b] = s := rfl

theorem State.brzAct_token (hpeer : s.brzPeer src = true) : s.brzAct s.brzOwn src brzToken [] =
    { s with squall := { s.squall with tokenSeen := s.squall.tokenSeen ||| (1#8 <<< src.toNat) } } := if_pos hpeer

theorem State.brzAct_done (hpeer : s.brzPeer src = true) : s.brzAct s.brzOwn src brzDone [] =
    { s with squall := { s.squall with
      peerDone := s.squall.peerDone ||| (1#8 <<< src.toNat), heard := s.squall.heard ||| (1#8 <<< src.toNat) } } := if_pos hpeer

theorem State.brzAct_pingReply {payload : List Byte} (hlen : payload.length ≤ 16) :
    s.brzAct s.brzOwn src brzPingReply payload = s.brzStore src brzPingReply payload := by
  have hok : brzLenOk brzPingReply payload.length = true := decide_eq_true hlen
  simp [State.brzAct, hok, show brzPingReply ≠ brzPing by decide, show brzPingReply ≠ brzStatus by decide, show brzPingReply ≠ brzToken by decide,
    show brzPingReply ≠ brzDone by decide]

theorem State.brzAct_statusReply {payload : List Byte} (hlen : payload.length = 4) :
    s.brzAct s.brzOwn src brzStatusReply payload = s.brzStore src brzStatusReply payload := by
  have hok : brzLenOk brzStatusReply payload.length = true := by rw [hlen]; rfl
  simp [State.brzAct, hok, show brzStatusReply ≠ brzPing by decide, show brzStatusReply ≠ brzStatus by decide,
    show brzStatusReply ≠ brzToken by decide, show brzStatusReply ≠ brzDone by decide]

theorem State.brzReply_of_room {f : List Byte} (h : s.brz.replies.length < 4) :
    (s.brzReply f).brz = { s.brz with replies := s.brz.replies ++ [f] } := by
  rw [State.brzReply, if_pos h]

theorem State.brzReply_of_full {f : List Byte} (h : 4 ≤ s.brz.replies.length) :
    (s.brzReply f).brz = { s.brz with dropCnt := satInc s.brz.dropCnt } := by
  rw [State.brzReply, if_neg (by omega)]
  rfl

theorem State.brzStore_of_free (h : s.brz.rxValid = false) (cmd : Byte) (payload : List Byte) : (s.brzStore src cmd payload).brz =
    { s.brz with rxValid := true, rxSrc := src, rxCmd := cmd, rxLen := BitVec.ofNat 5 payload.length, rxData := payload } := by
  rw [State.brzStore, if_neg (by rw [h]; decide), State.brzRaise_brz]

end

/-- A wake from S1 or S2 by a frame (R360). -/
theorem State.brzWakes_of_asleep {s : State} (hmode : s.mode.mode ≠ .retention) (h : s.pwr.phase = .asleep) :
    s.brzWakes.pwr = { s.pwr with phase := .waking, wakeSrc := 4 } := by
  rw [State.brzWakes, if_neg hmode, State.wakeBy, h]

/-- A frame of another participant to the instance's own address: its action, and the wake. -/
theorem State.brzMatch_own {s : State} (h : s.brz.joined = true) {src : Byte} (hsrc : src ≠ s.brzOwn) {payload : List Byte}
    (hlen : payload.length ≤ 16) (cmd : Byte) :
    s.brzMatch s.brzOwn src cmd payload = (s.brzRest.brzAct s.brzRest.brzOwn src cmd payload).brzWakes := by
  have hown : s.brzRest.brzOwn = s.brzOwn := rfl
  rw [State.brzMatch_of_joined h hlen, State.brzGood, hown, if_neg hsrc]
  exact if_pos (Or.inl rfl)

end Sys2Proof.Machine

namespace Sys2Proof.Proofs
open Sys2Proof.Machine

section
variable {s : State} (h : s.brz.joined = true) {src : Byte} (hsrc : src ≠ s.brzOwn)
include h hsrc

theorem ping_replies {payload : List Byte} (hlen : payload.length ≤ 16) :
    (s.brz.replies.length < 4 → Completes (.ping s.brzOwn src payload) s fun t =>
      t.brz = { s.brzRest.brz with replies := s.brz.replies ++ [brzFrame src s.brzOwn brzPingReply payload] }) ∧
    (4 ≤ s.brz.replies.length → Completes (.ping s.brzOwn src payload) s fun t =>
      t.brz = { s.brzRest.brz with dropCnt := satInc s.brz.dropCnt }) := by
  have hmatch := State.brzMatch_own h hsrc hlen brzPing
  rw [State.brzAct_ping _ _ hlen] at hmatch
  exact ⟨fun hroom => .of_eq rfl hmatch ((State.brzWakes_brz _).trans (State.brzReply_of_room s.brzRest hroom)),
    fun hfull => .of_eq rfl hmatch ((State.brzWakes_brz _).trans (State.brzReply_of_full s.brzRest hfull))⟩

theorem status_replies :
    (s.brz.replies.length < 4 → Completes (.status s.brzOwn src) s fun t =>
      t.brz = { s.brzRest.brz with replies := s.brz.replies ++ [brzFrame src s.brzOwn brzStatusReply s.statusPayload] }) ∧
    (4 ≤ s.brz.replies.length → Completes (.status s.brzOwn src) s fun t =>
      t.brz = { s.brzRest.brz with dropCnt := satInc s.brz.dropCnt }) := by
  have hmatch := State.brzMatch_own h hsrc (payload := []) (by decide) brzStatus
  rw [State.brzAct_status] at hmatch
  exact ⟨fun hroom => .of_eq rfl hmatch ((State.brzWakes_brz _).trans (State.brzReply_of_room s.brzRest hroom)),
    fun hfull => .of_eq rfl hmatch ((State.brzWakes_brz _).trans (State.brzReply_of_full s.brzRest hfull))⟩

theorem wake_wakes (hmode : s.mode.mode ≠ .retention) (hphase : s.pwr.phase = .asleep) : Completes (.wake s.brzOwn src) s fun t =>
    t.pwr = { s.pwr with phase := .waking, wakeSrc := 4 } ∧ t.brz = s.brzRest.brz := by
  have hmatch := State.brzMatch_own h hsrc (payload := []) (by decide) brzWake
  exact .of_eq rfl hmatch ⟨State.brzWakes_of_asleep (s := s.brzRest) hmode hphase, s.brzRest.brzWakes_brz⟩

theorem plHint_leaves (b : Byte) : Completes (.plHint s.brzOwn src b) s fun t =>
    t.brz = s.brzRest.brz ∧ t.squall = s.squall ∧ t.pwr.pl = s.pwr.pl := by
  have hmatch := State.brzMatch_own h hsrc (payload := [b]) (Nat.succ_le_succ (Nat.zero_le 15)) brzHint
  exact .of_eq rfl hmatch ⟨s.brzRest.brzWakes_brz, s.brzRest.brzWakes_leaves⟩

theorem squallFrames_recorded (hpeer : s.brzPeer src = true) :
    Completes (.squallToken s.brzOwn src) s (fun t => t.brz = s.brzRest.brz ∧
      t.squall = { s.squall with tokenSeen := s.squall.tokenSeen ||| (1#8 <<< src.toNat) }) ∧
    Completes (.squallDone s.brzOwn src) s (fun t => t.brz = s.brzRest.brz ∧ t.squall = { s.squall with
      peerDone := s.squall.peerDone ||| (1#8 <<< src.toNat), heard := s.squall.heard ||| (1#8 <<< src.toNat) }) := by
  have hpeer' : s.brzRest.brzPeer src = true := hpeer
  have hmatch (cmd : Byte) := State.brzMatch_own h hsrc (payload := []) (by decide) cmd
  have htoken := hmatch brzToken
  have hdone := hmatch brzDone
  rw [State.brzAct_token _ _ hpeer'] at htoken
  rw [State.brzAct_done _ _ hpeer'] at hdone
  exact ⟨.of_eq rfl htoken ⟨State.brzWakes_brz _, (State.brzWakes_leaves _).1⟩, .of_eq rfl hdone ⟨State.brzWakes_brz _, (State.brzWakes_leaves _).1⟩⟩

theorem replies_received (hfree : s.brz.rxValid = false) {payload : List Byte} (hlen : payload.length ≤ 16) :
    Completes (.pingReply s.brzOwn src payload) s (fun t => t.brz = { s.brzRest.brz with
      rxValid := true, rxSrc := src, rxCmd := brzPingReply, rxLen := BitVec.ofNat 5 payload.length, rxData := payload }) ∧
    (payload.length = 4 → Completes (.statusReply s.brzOwn src payload) s fun t => t.brz = { s.brzRest.brz with
      rxValid := true, rxSrc := src, rxCmd := brzStatusReply, rxLen := 4, rxData := payload }) := by
  have hmatch (cmd : Byte) := State.brzMatch_own h hsrc hlen cmd
  refine ⟨.of_eq rfl (hmatch brzPingReply) ?_, fun hfour => .of_eq rfl (hmatch brzStatusReply) ?_⟩
  · rw [State.brzWakes_brz, State.brzAct_pingReply _ _ hlen]
    exact State.brzStore_of_free s.brzRest src hfree _ _
  · rw [State.brzWakes_brz, State.brzAct_statusReply _ _ hfour, State.brzStore_of_free s.brzRest src hfree, hfour]
    rfl

end

/-- Settles O41: every frame leaves `State.brzRest` besides what its command does. -/
theorem breezeFrames : Obligations.BreezeFrames := by
  unfold Obligations.BreezeFrames
  intro dest src cmd b payload bytes s h hlen
  refine ⟨congrArg Host.Outcome.next ?good, fun hcrc => congrArg Host.Outcome.next ?bad,
    congrArg Host.Outcome.next (State.brzFrameIn_collision h bytes), fun hsrc => ?own⟩
  case good => 
    rw [State.brzMatch_of_joined h hlen]
    exact (State.brzFrameIn_of_bytes h hlen ..).trans (if_neg (not_not_intro rfl))
  case bad => exact (State.brzFrameIn_of_bytes h hlen ..).trans (if_pos hcrc)
  case own =>
    obtain ⟨hping, hpingFull⟩ := ping_replies h hsrc hlen
    obtain ⟨hstatus, hstatusFull⟩ := status_replies h hsrc
    exact ⟨fun hroom => ⟨hping hroom, hstatus hroom⟩, fun hfull => ⟨hpingFull hfull, hstatusFull hfull⟩, wake_wakes h hsrc, plHint_leaves h hsrc b,
      squallFrames_recorded h hsrc, fun hfree => replies_received h hsrc hfree hlen⟩

end Sys2Proof.Proofs
end

section
/-!
The sender of the Breeze interface (O42): what leaves the queue, what a claim and a broken handshake leave of the wires, and the commands of the
page (R346, R348 to R353, R359, R362, R363).
-/
namespace Sys2Proof.Machine

/-! ### Frames that leave the queue (R359) -/

@[simp] theorem State.brzRaise_squall (s : State) (j : Nat) : (s.brzRaise j).squall = s.squall := by
  unfold State.brzRaise State.raiseIf
  split <;> rfl

@[simp] theorem State.brzDup_brz (s : State) : s.brzDup.brz = { s.brz with dupAddr := true } := State.brzRaise_brz ..

@[simp] theorem State.brzDup_squall (s : State) : s.brzDup.squall = s.squall := State.brzRaise_squall ..

/-- What is left of the interface once a frame of a kind has left the queue. -/
theorem State.txRemove_brz (s : State) (k : TxKind) (sent : Bool) : (s.txRemove k sent).brz =
    { s.brz with
      busy := false, retries := s.brz.retries.set k.order 0, txDone := s.brz.txDone && k != .done, txToken := s.brz.txToken && k != .token
      replies := if k = .reply then s.brz.replies.drop 1 else s.brz.replies, txHint := if k = .hint then none else s.brz.txHint
      txHost := if k = .host then none else s.brz.txHost
      txResult := if k = .host then (if sent then 1 else 3) else s.brz.txResult } := by
  cases k <;> simp [State.txRemove, State.freshRetries, State.brzFree, State.modBrz, State.endHost]

/-- SQUALL_DONE counts as sent when it has been. -/
theorem State.txRemove_doneSent (s : State) (k : TxKind) (sent : Bool) :
    (s.txRemove k sent).squall.doneSent = (s.squall.doneSent || (k == .done && sent)) := by
  cases k <;> simp [State.txRemove, State.freshRetries, State.brzFree, State.modBrz, State.endHost]

/-! ### Handshakes that are not completed (R353) -/

theorem State.brzBroken_wires (s : State) (pulls : BitVec 4) : (s.brzBroken pulls).brz.wires &&& pulls = 0 := by
  show s.freeVal 4 &&& ~~~pulls &&& pulls = 0
  rw [BitVec.and_assoc, BitVec.and_comm (~~~pulls), BitVec.and_not_self]
  exact BitVec.and_zero

/-- A wire held low is low. -/
theorem State.brzStuck_wires (s : State) : s.brzStuck.brz.wires ≠ 0xF := by
  have hlt : (s.freeVal 2).toNat < 4 := (s.freeVal 2).isLt
  have hbit : s.brzStuck.brz.wires.getLsbD (s.freeVal 2).toNat = false := by
    simp [State.brzStuck]
  intro h
  rw [h] at hbit
  generalize (s.freeVal 2).toNat = j at hlt hbit
  interval_cases j <;> exact absurd hbit (by decide)

theorem State.brzStuck_fields (s : State) : s.brzStuck.brz.stuck = true ∧ s.brzStuck.brz.pulls = 0 ∧ s.brzStuck.brz.busy = false ∧
    s.brzStuck.brz.replies = s.brz.replies ∧ s.brzStuck.brz.txHost = s.brz.txHost := by
  simp [State.brzStuck]

/-- The interface after a handshake of its own frame that was not completed, before the frame is tried again or dropped. -/
def State.brzTimedOut (s : State) : State := ((s.modBrz fun x => { x with toCnt := satInc x.toCnt }).brzBroken 0).brzRaise 2

theorem State.brzTimedOut_brz (s : State) : s.brzTimedOut.brz =
    { s.brz with toCnt := satInc s.brz.toCnt, busy := false, pulls := 0, wires := s.freeVal 4 &&& ~~~0 } := State.brzRaise_brz ..

theorem State.brzTimedOut_squall (s : State) : s.brzTimedOut.squall = s.squall := State.brzRaise_squall ..

section
variable {s : State} {k : TxKind}

theorem State.sendTimeout_of_retry (h : s.brz.retries[k.order] < s.brzRetry) : (s.sendTimeout k).brz =
    { s.brz with
      toCnt := satInc s.brz.toCnt, busy := false, pulls := 0, wires := (s.sendTimeout k).brz.wires
      retries := s.brz.retries.set k.order (s.brz.retries[k.order] + 1) } := by
  have hbrz := s.brzTimedOut_brz
  have hsend : s.sendTimeout k = s.brzTimedOut.modBrz fun x => { x with retries := x.retries.set k.order (x.retries[k.order] + 1) } :=
    if_pos (by rw [← State.brzTimedOut, State.brzRetry, hbrz]; exact h)
  rw [hsend, State.modBrz, hbrz]

theorem State.sendTimeout_of_last (h : s.brzRetry ≤ s.brz.retries[k.order]) : s.sendTimeout k = s.brzTimedOut.txRemove k false :=
  if_neg (by rw [← State.brzTimedOut, State.brzRetry, s.brzTimedOut_brz]; exact Nat.not_lt.2 h)

end

/-! ### A frame sent against rivals (R350, R351) -/

section
variable {s : State} {k : TxKind} {rivals : List (Byte × Byte)} {collision : Bool}

theorem State.sendFrame_of_lower (h : ∃ r ∈ rivals, headerRank r.1 r.2 < frameRank (s.txFrame k)) :
    s.sendFrame k rivals collision = s.brzClaimed.modBrz fun x => { x with arbCnt := satInc x.arbCnt } :=
  if_pos (by simpa using h)

theorem State.sendFrame_of_same (h : ∀ r ∈ rivals, frameRank (s.txFrame k) ≤ headerRank r.1 r.2)
    (hsame : ∃ r ∈ rivals, headerRank r.1 r.2 = frameRank (s.txFrame k)) :
    s.sendFrame k rivals true = (s.brzClaimed.modBrz fun x => { x with collCnt := satInc x.collCnt }).brzDup.txRemove k false :=
  (if_neg (by simpa using h)).trans (if_pos (by simpa using hsame))

theorem State.sendFrame_of_alone (h : ∀ r ∈ rivals, frameRank (s.txFrame k) ≤ headerRank r.1 r.2) :
    s.sendFrame k rivals false = ((s.brzClaimed.brzAfter (frameWires (s.txFrame k))).modBrz fun x => { x with sent := s.txFrame k }).txRemove k true :=
  (if_neg (by simpa using h)).trans (if_neg (by simp))

/-- The interface with the frame on the wires, all of it. -/
theorem State.sentFrame_brz (s : State) (f : List Byte) : ((s.brzClaimed.brzAfter (frameWires f)).modBrz fun x => { x with sent := f }).brz =
    { s.brz with busy := true, wires := wiresIdle, pulls := pullsArmed, sent := f } := by
  simp only [State.brzAfter, frameWires_getLast?, Option.getD_some]
  rfl

end

end Sys2Proof.Machine

namespace Sys2Proof.Proofs
open Sys2Proof.Machine

section
variable {s : State} (h : s.brz.joined = true)
include h

theorem exec_handshakeTimeout_listener : exec (.handshakeTimeout false) s = .next (s.brzBroken pullsArmed) :=
  congrArg Host.Outcome.next ((if_neg (by rw [h]; decide)).trans (if_neg (by decide)))

section
variable {k : TxKind} (hk : s.txNext = some k)
include hk

theorem exec_handshakeTimeout_sender : exec (.handshakeTimeout true) s = .next (s.sendTimeout k) := by
  refine congrArg Host.Outcome.next ((if_neg (by rw [h]; decide)).trans ((if_pos rfl).trans ?_))
  rw [hk]

theorem exec_frameSend {rivals : List (Byte × Byte)} {collision : Bool} (hstuck : s.brz.stuck = false) (hbusy : s.brz.busy = false) :
    exec (.frameSend rivals collision) s = .next (s.sendFrame k rivals collision) := by
  have hclaim : s.mayClaim = true := by rw [State.mayClaim, h, hstuck, hbusy]; rfl
  show Host.Outcome.next (match s.txNext with | none => s | some k => if s.mayClaim then s.sendFrame k rivals collision else s) = _
  rw [hk]
  exact congrArg Host.Outcome.next (if_pos hclaim)

theorem handshakeTimeout_drops (hlast : s.brzRetry ≤ s.brz.retries[k.order]) : Completes (.handshakeTimeout true) s fun t =>
    t.brz.toCnt = satInc s.brz.toCnt ∧ t.brz.retries = s.brz.retries.set k.order 0 ∧ t.brz.sent = s.brz.sent ∧
      t.squall.doneSent = s.squall.doneSent := by
  refine .of_eq (exec_handshakeTimeout_sender h hk) (State.sendTimeout_of_last hlast) ?_
  simp [State.txRemove_brz, State.txRemove_doneSent, State.brzTimedOut_brz, State.brzTimedOut_squall]

theorem frameSend_collides {rivals : List (Byte × Byte)} (hstuck : s.brz.stuck = false) (hbusy : s.brz.busy = false)
    (hle : ∀ r ∈ rivals, frameRank (s.txFrame k) ≤ headerRank r.1 r.2) (hsame : ∃ r ∈ rivals, headerRank r.1 r.2 = frameRank (s.txFrame k)) :
    Completes (.frameSend rivals true) s fun t => t.brz.collCnt = satInc s.brz.collCnt ∧ t.brz.dupAddr = true ∧ t.brz.sent = s.brz.sent ∧
      t.squall.doneSent = s.squall.doneSent := by
  refine .of_eq (exec_frameSend h hk hstuck hbusy) (State.sendFrame_of_same hle hsame) ?_
  simp [State.txRemove_brz, State.txRemove_doneSent, State.brzClaimed, State.brzAfter, State.modBrz]

theorem frameSend_sends {rivals : List (Byte × Byte)} (hstuck : s.brz.stuck = false) (hbusy : s.brz.busy = false)
    (hle : ∀ r ∈ rivals, frameRank (s.txFrame k) ≤ headerRank r.1 r.2) : Completes (.frameSend rivals false) s fun t =>
      t.brz.sent = s.txFrame k ∧ t.brz.retries = s.brz.retries.set k.order 0 ∧ t.brz.busy = false ∧ t.brz.wires = wiresIdle ∧
        t.brz.pulls = pullsArmed ∧ t.brz.txDone = (s.brz.txDone && k != .done) ∧ t.brz.txToken = (s.brz.txToken && k != .token) ∧
        t.brz.replies = (if k = .reply then s.brz.replies.drop 1 else s.brz.replies) ∧ t.brz.txHint = (if k = .hint then none else s.brz.txHint) ∧
        t.brz.txHost = (if k = .host then none else s.brz.txHost) ∧ t.squall.doneSent = (s.squall.doneSent || k == .done) := by
  refine .of_eq (exec_frameSend h hk hstuck hbusy) (State.sendFrame_of_alone hle) ?_
  rw [State.txRemove_brz, State.txRemove_doneSent, State.sentFrame_brz, Bool.and_true]
  exact ⟨rfl, rfl, rfl, rfl, rfl, rfl, rfl, rfl, rfl, rfl, rfl⟩

end

end

section
variable {s : State} (h : s.pageLive pageBrz = true)
include h

theorem exec_send : exec .send s = .next s.brzSend := congrArg Host.Outcome.next (if_pos h)

theorem send_queues (hcmd : (s.stored pageBrz 0x054).extractLsb' 16 8 ∈ [brzPing, brzStatus, brzWake]) (hhost : s.brz.txHost = none) :
    Completes .send s fun t => t.brz.txResult = 0 ∧ t.brz.txHost = some (brzFrame ((s.stored pageBrz 0x054).extractLsb' 24 8) s.brzOwn
      ((s.stored pageBrz 0x054).extractLsb' 16 8) (((List.range 4).flatMap fun k => bytesOf (s.stored pageBrz (0x058 + 4 * k)) 4).take
        (min 16 (fieldOf (s.stored pageBrz 0x054) 4 0)))) := by
  refine .of_eq (exec_send h) ((if_neg ?_).trans (if_neg ?_)) ⟨rfl, rfl⟩
  · simp only [List.mem_cons, List.not_mem_nil, or_false] at hcmd
    tauto
  · rw [hhost]
    nofun

theorem exec_send_of_host (hcmd : (s.stored pageBrz 0x054).extractLsb' 16 8 ∈ [brzPing, brzStatus, brzWake]) (hhost : s.brz.txHost.isSome = true) :
    exec .send s = .next { s with brz := { s.brz with txResult := 4 } } := by
  refine (exec_send h).trans (congrArg Host.Outcome.next ((if_neg ?_).trans (if_pos hhost)))
  simp only [List.mem_cons, List.not_mem_nil, or_false] at hcmd
  tauto

theorem exec_send_of_other (hcmd : (s.stored pageBrz 0x054).extractLsb' 16 8 ∉ [brzPing, brzStatus, brzWake]) :
    exec .send s = .next { s with brz := { s.brz with txResult := 2 } } := by
  refine (exec_send h).trans (congrArg Host.Outcome.next (if_pos ?_))
  simp only [List.mem_cons, List.not_mem_nil, or_false] at hcmd
  tauto

end

/-- Settles O42: the wires by `State.brzAfter` and `State.brzBroken`, the queue by `State.txRemove`. -/
theorem breezeSender : Obligations.BreezeSender := by
  unfold Obligations.BreezeSender
  intro k rivals collision s
  refine ⟨fun hao => ⟨congrArg Host.Outcome.next (if_pos hao), ?stuck, fun h => ?unstuck⟩,
    fun hlive => ⟨⟨send_queues hlive, exec_send_of_host hlive, exec_send_of_other hlive⟩, congrArg Host.Outcome.next (if_pos hlive),
      congrArg Host.Outcome.next (if_pos hlive)⟩,
    fun h => ⟨congrArg Host.Outcome.next (if_pos h), ?listener, fun hk => ⟨?retry, handshakeTimeout_drops h hk, fun hstuck hbusy =>
      ⟨fun hlow => (exec_frameSend h hk hstuck hbusy).trans (congrArg Host.Outcome.next (State.sendFrame_of_lower hlow)), fun hle => ⟨?same, ?sent⟩⟩⟩⟩⟩
  case stuck =>
    obtain ⟨hstuck, hpulls, hbusy, hreplies, hhost⟩ := s.brzStuck_fields
    exact ⟨_, congrArg Host.Outcome.next ((if_neg (by rw [hao]; decide)).trans (if_pos rfl)), hstuck, hpulls, hbusy, s.brzStuck_wires, hreplies, hhost⟩
  case unstuck =>
    exact congrArg Host.Outcome.next ((if_neg (by rw [hao]; decide)).trans ((if_neg nofun).trans (if_pos h)))
  case listener => exact ⟨_, exec_handshakeTimeout_listener h, rfl, rfl, s.brzBroken_wires pullsArmed⟩
  case retry => exact fun hretry => ⟨_, exec_handshakeTimeout_sender h hk, State.sendTimeout_of_retry hretry⟩
  case same =>
    rintro rfl hsame
    exact frameSend_collides h hk hstuck hbusy hle hsame
  case sent =>
    rintro rfl
    exact frameSend_sends h hk hstuck hbusy hle

end Sys2Proof.Proofs
end

section
/-!
The error log's counters and commands (O50), and the commands of the telemetry page (O51) (R426, R428, R431, R438, R440, R445, R452, R454, R455,
R458).
-/
namespace Sys2Proof.Machine

/-- A class of R415. -/
theorem cls_cases (cls : BitVec 2) : cls = clsCe ∨ cls = clsRcv ∨ cls = clsUc ∨ cls = clsFatal := by
  revert cls
  decide

/-- One occurrence counts in its class alone. -/
theorem countClass_counts (e : ErrLog) (cls : BitVec 2) : (countClass e cls).counts =
    (if cls = clsCe then satInc e.ceCnt else e.ceCnt, if cls = clsRcv then satInc e.rcvCnt else e.rcvCnt,
      if cls = clsUc then satInc e.ucCnt else e.ucCnt, if cls = clsFatal then satInc e.fatalCnt else e.fatalCnt) := by
  rcases cls_cases cls with rfl | rfl | rfl | rfl <;> rfl

/-- A FILL bank that holds records goes to a reader whose bank is free (R452). -/
theorem State.closeFill_of_free {s : State} (hfill : s.tel.fill ≠ []) (hread : s.tel.readBank = false) : s.closeFill =
    ({ s with tel := { s.tel with fill := [], read := s.tel.fill.flatMap recordWords, readBank := true, closeDue := false } } : State).raise pageTel 0 := by
  rw [State.closeFill, if_neg (by simpa using hfill), if_neg (by rw [hread]; decide)]

theorem State.closeFill_of_empty {s : State} (hfill : s.tel.fill = []) : s.closeFill = s := by
  rw [State.closeFill, hfill]
  rfl

/-- What is handed over, and the source raised. -/
theorem State.closeFill_hands {s : State} (hfill : s.tel.fill ≠ []) (hread : s.tel.readBank = false) :
    s.closeFill.tel.fill = [] ∧ s.closeFill.tel.read = s.tel.fill.flatMap recordWords ∧ s.closeFill.tel.readBank = true ∧
      (s.closeFill.intRaw pageTel).getLsbD 0 = true := by
  rw [State.closeFill_of_free hfill hread]
  exact ⟨rfl, rfl, rfl, State.raise_intRaw _ (by decide)⟩

/-- The oldest word goes to the reader. -/
theorem State.popWord_of_word {s : State} {w : BitVec 32} {rest : List (BitVec 32)} (h : s.tel.read = w :: rest) (hdue : s.tel.closeDue = false) :
    s.popWord = ({ s with tel := { s.tel with read := rest, lastPop := w, readBank := !rest.isEmpty } }, w) := by
  unfold State.popWord
  rw [h]
  simp [hdue]

theorem State.popWord_of_empty {s : State} (h : s.tel.read = []) :
    s.popWord = ({ s with tel := { s.tel with underrun := true } }, s.tel.lastPop) := by
  unfold State.popWord
  rw [h]

end Sys2Proof.Machine

namespace Sys2Proof.Proofs
open Sys2Proof.Machine

/-- Settles O50: the counters by `countClass`, the commands as they stand. -/
theorem errorCommands : Obligations.ErrorCommands := by
  unfold Obligations.ErrorCommands
  intro ev s
  refine ⟨?_, fun hlive => ?_⟩
  · have hcounts := (s.logError_counts ev).trans (countClass_counts s.err ev.cls)
    simpa only [ErrLog.counts, Prod.mk.injEq] using hcounts
  · have hexec (f : State → State) : Host.Outcome.next (s.whenLive pageErr f) = (.next (f s) : Host.Outcome State Fault Refusal) :=
      congrArg _ (if_pos hlive)
    exact ⟨hexec State.ackOne, hexec State.ackEvery, hexec State.clearFirst, hexec State.clearErr⟩

section
variable {s : State} (h : s.pageLive pageTel = true)
include h

theorem exec_snap : exec .snap s = .next s.snapAll := congrArg Host.Outcome.next (if_pos h)

theorem exec_flush : exec .flush s = .next s.closeFill := congrArg Host.Outcome.next (if_pos h)

theorem snap_takes (hbusy : s.tel.snapBusy = false) : Completes .snap s fun t =>
    t.tel = { s.tel with snapSys := s.tel.sys, snapOvf := s.tel.sysOvf, snapTime := s.tb, snapBusy := true } ∧
      ∀ c : Fin 80, t.slices[c].bank = s.slices[c].bank ∧ (s.slices[c].on = true → t.slices[c].snapBank = s.slices[c].bank) := by
  refine .of_eq (exec_snap h) (if_neg (by rw [hbusy]; decide)) ⟨rfl, fun c => ?_⟩
  simp only [Fin.getElem_fin, Vector.getElem_map, Slice.bankSeen, true_and]
  intro hon
  rw [hon, Bool.true_or, if_pos rfl]

theorem clrCnt_clears : Completes .clrCnt s fun t =>
    t.tel = { s.tel with sys := Vector.replicate 8 0, sysOvf := 0, sampCnt := 0, dropCnt := 0, gapCnt := 0 } ∧
      ∀ c : Fin 80, t.slices[c].bank = SliceBank.reset ∧ t.slices[c].snapBank = s.slices[c].snapBank ∧ t.slices[c].sched = s.slices[c].sched := by
  refine ⟨s.clearTel, congrArg Host.Outcome.next (if_pos h), rfl, fun c => ?_⟩
  simp [State.clearTel]

theorem clrOvf_clears : Completes .clrOvf s fun t =>
    t.tel = { s.tel with sysOvf := 0 } ∧ ∀ c : Fin 80, t.slices[c].bank = { s.slices[c].bank with ovf := 0 } := by
  refine ⟨s.clearOvf, congrArg Host.Outcome.next (if_pos h), rfl, fun c => ?_⟩
  simp [State.clearOvf]

end

section
variable {s : State} (h : s.pageOn pageTel = true)
include h

theorem exec_samplePop : exec .samplePop s =
    .next { s.popWord.1 with regs := { s.popWord.1.regs with rdata := s.popWord.2.setWidth 64, rerr := false } } :=
  congrArg Host.Outcome.next (if_pos h)

theorem samplePop_pops {w : BitVec 32} {rest : List (BitVec 32)} (hread : s.tel.read = w :: rest) (hdue : s.tel.closeDue = false) :
    Completes .samplePop s fun t => t.regs.rdata = w.setWidth 64 ∧ t.regs.rerr = false ∧ t.tel.read = rest ∧ t.tel.lastPop = w ∧
      t.tel.readBank = !rest.isEmpty ∧ t.tel.fill = s.tel.fill := by
  refine ⟨_, exec_samplePop h, ?_⟩
  rw [State.popWord_of_word hread hdue]
  exact ⟨rfl, rfl, rfl, rfl, rfl, rfl⟩

theorem samplePop_underruns (hread : s.tel.read = []) : Completes .samplePop s fun t =>
    t.regs.rdata = s.tel.lastPop.setWidth 64 ∧ t.tel = { s.tel with underrun := true } := by
  refine ⟨_, exec_samplePop h, ?_⟩
  rw [State.popWord_of_empty hread]
  exact ⟨rfl, rfl⟩

end

/-- Settles O51: the FILL bank by `State.closeFill`, pops by `State.popWord`, the other commands as they stand. -/
theorem telemetryCommands : Obligations.TelemetryCommands := by
  unfold Obligations.TelemetryCommands
  intro w rest s
  refine ⟨fun h => ⟨snap_takes h, fun hbusy => ?busy, clrCnt_clears h, clrOvf_clears h, fun hfill hread => ⟨_, exec_flush h, State.closeFill_hands hfill hread⟩,
      fun hfill => (exec_flush h).trans (congrArg Host.Outcome.next (State.closeFill_of_empty hfill)), congrArg Host.Outcome.next (if_pos h),
      ⟨s.clearSamples, congrArg Host.Outcome.next (if_pos h), rfl, rfl, rfl, rfl, rfl, rfl⟩⟩,
    fun hbusy => congrArg Host.Outcome.next (if_pos hbusy), fun h => ⟨samplePop_pops h, samplePop_underruns h⟩, fun hus hdue hfill hread => ?timeout⟩
  case busy => exact (exec_snap h).trans (congrArg Host.Outcome.next (if_pos hbusy))
  case timeout =>
    obtain ⟨hfill', hread', hbank, -⟩ := State.closeFill_hands hfill hread
    exact .of_eq rfl (if_pos ⟨hus, hdue⟩) ⟨hfill', hread', hbank⟩

end Sys2Proof.Proofs
end

section
/-!
A slot of a slice (O52): it changes the slice's bank and the headers, the latter by the overflow interrupt alone (R440, R442, R446).
-/
namespace Sys2Proof.Machine

/-- A counter of a bank advanced: index 0 to 3 programmable, 4 the slot counter. -/
def SliceBank.bump (b : SliceBank) (k n : Nat) : SliceBank :=
  let c := bump48 (if k = 4 then b.slot else b.cnt[k]?.getD 0) n
  let ovf := if c.2 then b.ovf ||| (1#5 <<< k) else b.ovf
  if k = 4 then { b with slot := c.1, ovf := ovf } else { b with cnt := b.cnt.setIfInBounds k c.1, ovf := ovf }

/-- A slice's bank and a page's interrupts apart, two states are the same. -/
structure BankOnly (c : Fin 80) (s t : State) (b : SliceBank) : Prop where
  state : t = { s with slices := s.slices.set c { s.slices[c] with bank := b }, regs := { s.regs with headers := t.regs.headers } }
  parity : ∀ q, t.parity q = s.parity q

namespace BankOnly
variable {c : Fin 80} {s t u : State} {b b' : SliceBank}

theorem refl (c : Fin 80) (s : State) : BankOnly c s s s.slices[c].bank where
  state := by
    have hset : s.slices.set c s.slices[c] = s.slices := Vector.set_getElem_self c.isLt
    rw [hset]
  parity _ := rfl

theorem bank (h : BankOnly c s t b) : t.slices[c].bank = b := by
  rw [h.state]
  simp

theorem regs (h : BankOnly c s t b) : t.regs = { s.regs with headers := t.regs.headers } := congrArg State.regs h.state

theorem trans (h : BankOnly c s t b) (h' : BankOnly c t u b') : BankOnly c s u b' where
  state := by
    have hset : t.slices.set c { t.slices[c] with bank := b' } = s.slices.set c { s.slices[c] with bank := b' } := by
      rw [h.state]
      simp
    rw [h'.state, hset, h.state]
  parity q := (h'.parity q).trans (h.parity q)

/-- What the safe states do not change reads as it did. -/
theorem cfg (h : BankOnly c s t b) (page ofs : Nat) : t.cfg page ofs = s.cfg page ofs := by
  have hparity := h.parity
  rw [h.state] at hparity ⊢
  simp only [State.cfg, hparity]
  rfl

end BankOnly

section
variable (s : State) (c : Fin 80)

/-- A counter's advance, and the interrupt of its wrap. -/
theorem State.bumpBank_eq (k n : Nat) : ∃ first : Bool, s.bumpBank c k n =
    (s.modSlice c fun x => { x with bank := s.slices[c].bank.bump k n }).raiseIf first pageTel 2 := ⟨_, rfl⟩

theorem State.bumpBank_only (k n : Nat) : BankOnly c s (s.bumpBank c k n) (s.slices[c].bank.bump k n) where
  state := by
    obtain ⟨first, h⟩ := s.bumpBank_eq c k n
    rw [h]
    cases first <;> rfl
  parity q := State.raiseIf_parity ..

end

/-- The programmable counters advanced, each by its own amount. -/
theorem State.foldl_bumpBank_only (c : Fin 80) (add : List Nat) (l : List Nat) (s : State) :
    BankOnly c s (l.foldl (fun (s : State) (k : Nat) => s.bumpBank c k (add.getD k 0)) s)
      (l.foldl (fun (b : SliceBank) (k : Nat) => b.bump k (add.getD k 0)) s.slices[c].bank) := by
  induction l generalizing s with
  | nil => exact .refl c s
  | cons k l ih =>
    have hstep := s.bumpBank_only c k (add.getD k 0)
    have hrest := ih (s.bumpBank c k (add.getD k 0))
    rw [hstep.bank] at hrest
    exact hstep.trans hrest

/-! ### The counters of a bank (R440) -/

theorem SliceBank.bump_slot (b : SliceBank) (n : Nat) : (b.bump 4 n).slot = b.slot + BitVec.ofNat 48 n ∧ (b.bump 4 n).cnt = b.cnt := ⟨rfl, rfl⟩

theorem SliceBank.bump_cnt (b : SliceBank) {k : Nat} (hk : k ≠ 4) (n : Nat) : (b.bump k n).slot = b.slot ∧
    (b.bump k n).cnt = b.cnt.setIfInBounds k (b.cnt[k]?.getD 0 + BitVec.ofNat 48 n) := by
  simp only [SliceBank.bump, if_neg hk, bump48, and_self]

/-- The four programmable counters advance by what is added to each, the slot counter stays. -/
theorem SliceBank.foldl_bump (b : SliceBank) (add : List Nat) :
    ((List.range 4).foldl (fun (b : SliceBank) (k : Nat) => b.bump k (add.getD k 0)) b).slot = b.slot ∧
      ∀ k : Fin 4, ((List.range 4).foldl (fun (b : SliceBank) (k : Nat) => b.bump k (add.getD k 0)) b).cnt[k] =
        b.cnt[k] + BitVec.ofNat 48 (add.getD k 0) := by
  have hrange : List.range 4 = [0, 1, 2, 3] := rfl
  simp only [hrange, List.foldl_cons, List.foldl_nil, (SliceBank.bump_cnt _ (show (0 : Nat) ≠ 4 by decide) _),
    (SliceBank.bump_cnt _ (show (1 : Nat) ≠ 4 by decide) _), (SliceBank.bump_cnt _ (show (2 : Nat) ≠ 4 by decide) _),
    (SliceBank.bump_cnt _ (show (3 : Nat) ≠ 4 by decide) _), true_and]
  intro k
  fin_cases k <;> simp

/-! ### The slot (R446) -/

section
variable {s : State} {c : Fin 80} (h : s.sliceClock c = true) (f : SlotFacts)
include h

theorem State.slot_of_stopped (hrun : (s.cfgBit pageTel 0x040 0 && !s.parity pageTel) = false) : s.slot c f = s.bumpBank c 4 1 := by
  have hslot := s.bumpBank_only c 4 1
  rw [State.slot, if_neg (by rw [h]; decide)]
  refine if_neg ?_
  rw [State.cfgBit, hslot.cfg, hslot.parity, ← State.cfgBit, hrun]
  decide

theorem State.slot_of_running (hrun : (s.cfgBit pageTel 0x040 0 && !s.parity pageTel) = true) : s.slot c f =
    (List.range 4).foldl (fun (u : State) (k : Nat) => u.bumpBank c k
      (((List.range 4).map fun k => s.slotAmount c f (s.cfgField pageTel 0x060 (8 * k + 7) (8 * k))).getD k 0)) (s.bumpBank c 4 1) := by
  have hslot := s.bumpBank_only c 4 1
  rw [State.slot, if_neg (by rw [h]; decide)]
  refine if_pos ?_
  rw [State.cfgBit, hslot.cfg, hslot.parity, ← State.cfgBit, hrun]

/-- A slot counts itself and, while the counters run, what their events add. -/
theorem State.slot_only : ∃ b : SliceBank, BankOnly c s (s.slot c f) b ∧ b.slot = s.slices[c].bank.slot + 1 ∧
    ∀ k : Fin 4, b.cnt[k] = if s.cfgBit pageTel 0x040 0 && !s.parity pageTel then
      s.slices[c].bank.cnt[k] + BitVec.ofNat 48 (s.slotAmount c f (s.cfgField pageTel 0x060 (8 * k.val + 7) (8 * k.val))) else s.slices[c].bank.cnt[k] := by
  have hslot := s.bumpBank_only c 4 1
  by_cases hrun : (s.cfgBit pageTel 0x040 0 && !s.parity pageTel) = true
  · have hadd := State.foldl_bumpBank_only c
      ((List.range 4).map fun k => s.slotAmount c f (s.cfgField pageTel 0x060 (8 * k + 7) (8 * k))) (List.range 4) (s.bumpBank c 4 1)
    rw [hslot.bank] at hadd
    obtain ⟨hnum, hcnt⟩ := SliceBank.foldl_bump (s.slices[c].bank.bump 4 1)
      ((List.range 4).map fun k => s.slotAmount c f (s.cfgField pageTel 0x060 (8 * k + 7) (8 * k)))
    rw [State.slot_of_running h f hrun]
    refine ⟨_, hslot.trans hadd, hnum, fun k => (hcnt k).trans ?_⟩
    rw [if_pos hrun]
    simp [SliceBank.bump_slot]
  · rw [State.slot_of_stopped h f (by simpa using hrun)]
    exact ⟨_, hslot, rfl, fun k => by rw [if_neg hrun]; rfl⟩

end

end Sys2Proof.Machine

namespace Sys2Proof.Proofs
open Sys2Proof.Machine

/-- Settles O52: by `State.slot_only`, and a stopped clock as it stands. -/
theorem slotCounts : Obligations.SlotCounts := by
  unfold Obligations.SlotCounts
  intro c f s
  refine ⟨fun h => ?_, fun h => congrArg Host.Outcome.next (if_pos h)⟩
  obtain ⟨b, honly, hslot, hcnt⟩ := State.slot_only h f
  have hbank := honly.bank
  refine ⟨s.slot c f, rfl, ?_, fun k hrun hsafe => ?_, fun k hrun => ?_, ?_, honly.regs⟩
  · rw [hbank, hslot]
  · rw [hbank, hcnt, hrun, hsafe]
    rfl
  · rw [hbank, hcnt, hrun]
    rfl
  · rw [hbank]
    exact honly.state.trans (by rw [← honly.regs])

end Sys2Proof.Proofs
end

section
/-!
Stored registers, and the one-time row (O53): what a word reads as, what a program's beginning and its ends leave (R378, R460, R462 to R464, R475).
-/
namespace Sys2Proof.Machine

/-! ### Stored registers -/

/-- A register reads as it was stored. -/
theorem State.stored_store_same (s : State) (page ofs : Nat) (v : Reg) : (s.store page ofs v).stored page ofs = v := by
  simp only [State.store, State.stored]
  split_ifs with hreset
  · rw [getKey_dropKey, hreset]
    rfl
  · rw [getKey_setKey]
    rfl

/-- A store leaves every register under another key. -/
theorem State.stored_store_other (s : State) {page ofs q o : Nat} (v : Reg) (h : regKey q o ≠ regKey page ofs) :
    (s.store page ofs v).stored q o = s.stored q o := by
  simp only [State.store, State.stored]
  split_ifs
  · rw [getKey_dropKey_of_ne _ h]
  · rw [getKey_setKey_of_ne _ _ h]

theorem State.endOtp_stored (s : State) (result : BitVec 3) : (s.endOtp result).stored pageOtp 0x05C = 0 := State.stored_store_same ..

/-! ### Words of the row (R460) -/

/-- A word that reads as BLANK has no ECC check, as neither it nor a spare for it is programmed. -/
theorem Security.otp_of_blank {x : Security} {i : Nat} (h : (x.otp i).st = 0) : (x.otp i).uc = false ∧ (x.otp i).ce = false := by
  have hcheck (st : BitVec 2) (k : Nat) (w : OtpWord) : (otpCheck st k w).st = st := by
    unfold otpCheck
    split <;> rfl
  unfold Security.otp at h ⊢
  split
  · exact ⟨rfl, rfl⟩
  next hi =>
    rw [if_neg hi] at h
    split
    next k w hspare =>
      rw [hspare] at h
      dsimp only at h
      rw [hcheck] at h
      exact absurd h (by decide)
    next hspare =>
      rw [hspare] at h
      dsimp only at h ⊢
      split
      next hdone =>
        rw [if_pos hdone, hcheck] at h
        exact absurd h (by decide)
      next => exact ⟨rfl, rfl⟩

theorem State.countOtp_of_blank {s : State} {i : Nat} (h : (s.sec.otp i).st = 0) : s.countOtp i = s := by
  obtain ⟨huc, hce⟩ := Security.otp_of_blank h
  rw [State.countOtp, huc, hce]
  rfl

/-- A read counts in the ECC counters alone. -/
theorem State.countOtp_sec (s : State) (i : Nat) :
    (s.countOtp i).sec = { s.sec with otpUc := (s.countOtp i).sec.otpUc, otpCe := (s.countOtp i).sec.otpCe } := by
  unfold State.countOtp
  dsimp only
  split_ifs <;> rfl

/-- What a word reads as does not depend on what has been counted. -/
theorem State.countOtp_otp (s : State) (i j : Nat) : (s.countOtp i).sec.otp j = s.sec.otp j := by
  rw [State.countOtp_sec]
  rfl

/-! ### PROGRAM (R462) -/

section
variable {s : State} (hpar : s.parity pageOtp = false) (hbusy : s.sec.otpBusy = false)
include hpar hbusy

theorem State.otpProgram_of_noKey (hkey : s.cfg pageOtp 0x05C ≠ 0x0000A5C3) : s.otpProgram = s.endOtp 5 :=
  (if_neg (by rw [hpar, hbusy]; decide)).trans (if_pos hkey)

section
variable {i : Nat} (hkey : s.cfg pageOtp 0x05C = 0x0000A5C3) (harg : s.cfgField pageOtp 0x050 5 0 = i) (hi : 2 ≤ i) (hlock : i < 12 → s.feature 3 = false)
include hkey harg hi hlock

/-- A program of a word that may be programmed, up to the state of the word. -/
theorem State.otpProgram_of_key : s.otpProgram =
    let t := s.countOtp i
    let st := (t.sec.otp i).st
    if st = 1 ∨ st = 3 then ({ t with sec := { t.sec with otpRe := satInc t.sec.otpRe } } : State).endOtp 1
    else if st = 2 ∧ t.sec.freeSpares.isEmpty then t.endOtp 6
    else if t.otpSupplyOk = false then t.endOtp 2
    else
      match (if st = 2 then t.sec.freeSpares.head? else none) with
      | some k => { t with sec := { t.sec with
          otpBusy := true, otpSpare := some k
          spares := t.sec.spares.set k (begunWord (pairOf (s.cfg pageOtp 0x054) (s.cfg pageOtp 0x058)) (BitVec.ofNat 6 i)) } }
      | none => { t with sec := { t.sec with
          otpBusy := true, otpSpare := none, otpIndex := BitVec.ofNat 6 i
          words := t.sec.words.setIfInBounds i (begunWord (pairOf (s.cfg pageOtp 0x054) (s.cfg pageOtp 0x058)) 0) } } := by
  subst harg
  rw [State.otpProgram, if_neg (by rw [hpar, hbusy]; decide)]
  dsimp only
  rw [if_neg (not_not_intro hkey)]
  refine if_neg ?_
  rintro (hlow | ⟨hlow, hf⟩)
  · exact absurd hi (Nat.not_le.2 hlow)
  · rw [hlock hlow] at hf
    exact absurd hf (by decide)

theorem State.otpProgram_of_blank (hst : (s.sec.otp i).st = 0) (hsupply : s.otpSupplyOk = true) : s.otpProgram =
    { s with sec := { s.sec with
      otpBusy := true, otpSpare := none, otpIndex := BitVec.ofNat 6 i
      words := s.sec.words.setIfInBounds i (begunWord (pairOf (s.cfg pageOtp 0x054) (s.cfg pageOtp 0x058)) 0) } } := by
  rw [State.otpProgram_of_key hpar hbusy hkey harg hi hlock, State.countOtp_of_blank hst]
  dsimp only
  rw [hst, hsupply]
  rfl

theorem State.otpProgram_of_programmed (hst : (s.sec.otp i).st = 1) : s.otpProgram =
    ({ s.countOtp i with sec := { (s.countOtp i).sec with otpRe := satInc (s.countOtp i).sec.otpRe } } : State).endOtp 1 := by
  rw [State.otpProgram_of_key hpar hbusy hkey harg hi hlock]
  dsimp only
  rw [State.countOtp_otp, hst]
  exact if_pos (Or.inl rfl)

end

end

end Sys2Proof.Machine

namespace Sys2Proof.Proofs
open Sys2Proof.Machine

section
variable {s : State} (hlive : s.pageLive pageOtp = true) (hpar : s.parity pageOtp = false) (hbusy : s.sec.otpBusy = false)
include hlive

theorem exec_program : exec .program s = .next s.otpProgram := congrArg Host.Outcome.next (if_pos hlive)

include hpar hbusy

theorem program_without_key (hkey : s.cfg pageOtp 0x05C ≠ 0x0000A5C3) :
    Completes .program s fun t => t.sec = { s.sec with otpResult := 5 } ∧ t.stored pageOtp 0x05C = 0 :=
  .of_eq (exec_program hlive) (State.otpProgram_of_noKey hpar hbusy hkey) ⟨rfl, State.endOtp_stored ..⟩

section
variable {i : Nat} (hkey : s.cfg pageOtp 0x05C = 0x0000A5C3) (harg : s.cfgField pageOtp 0x050 5 0 = i) (hi : 2 ≤ i) (hlock : i < 12 → s.feature 3 = false)
include hkey harg hi hlock

theorem program_begins (hst : (s.sec.otp i).st = 0) (hsupply : s.otpSupplyOk = true) : Completes .program s fun t =>
    t.sec.otpBusy = true ∧ t.sec.otpSpare = none ∧ t.sec.otpIndex = BitVec.ofNat 6 i ∧
      t.sec.words = s.sec.words.setIfInBounds i (begunWord (pairOf (s.cfg pageOtp 0x054) (s.cfg pageOtp 0x058)) 0) ∧ t.sec.spares = s.sec.spares :=
  .of_eq (exec_program hlive) (State.otpProgram_of_blank hpar hbusy hkey harg hi hlock hst hsupply) ⟨rfl, rfl, rfl, rfl, rfl⟩

theorem program_of_programmed (hst : (s.sec.otp i).st = 1) : Completes .program s fun t =>
    t.sec.otpResult = 1 ∧ t.sec.otpRe = satInc s.sec.otpRe ∧ t.sec.words = s.sec.words ∧ t.sec.spares = s.sec.spares ∧ t.stored pageOtp 0x05C = 0 := by
  have hre : (s.countOtp i).sec.otpRe = s.sec.otpRe := by rw [State.countOtp_sec]
  have hwords : (s.countOtp i).sec.words = s.sec.words := by rw [State.countOtp_sec]
  have hspares : (s.countOtp i).sec.spares = s.sec.spares := by rw [State.countOtp_sec]
  exact .of_eq (exec_program hlive) (State.otpProgram_of_programmed hpar hbusy hkey harg hi hlock hst)
    ⟨rfl, congrArg satInc hre, hwords, hspares, State.endOtp_stored ..⟩

end

end

section
variable {s : State} (hbusy : s.sec.otpBusy = true)
include hbusy

theorem programDone_ends (ok : Bool) : Completes (.programDone ok) s fun t =>
    t.sec.otpBusy = false ∧ t.sec.otpResult = (if ok then 0 else 7) ∧ (t.intRaw pageOtp).getLsbD 0 = true ∧
      (s.sec.otpSpare = none → t.sec.spares = s.sec.spares ∧ t.sec.words = s.sec.words.setIfInBounds s.sec.otpIndex.toNat
        { s.sec.words[s.sec.otpIndex.toNat]?.getD OtpWord.blank with done := ok }) := by
  refine .of_eq rfl (if_pos hbusy) ⟨rfl, rfl, State.raise_intRaw _ (by decide), fun hspare => ?_⟩
  dsimp only
  rw [hspare]
  exact ⟨rfl, rfl⟩

theorem supplyTrip_ends : Completes .supplyTrip s fun t =>
    t.sec.otpBusy = false ∧ t.sec.otpResult = 3 ∧ t.sec.words = s.sec.words ∧ (t.intRaw pageOtp).getLsbD 2 = true := by
  refine .of_eq rfl (if_pos hbusy) ?_
  rw [State.otpInterrupt, if_pos hbusy]
  exact ⟨rfl, rfl, rfl, State.raise_intRaw _ (by decide)⟩

end

/-- Settles O53: PROGRAM by the state of the word it names, and the two ends of a program. -/
theorem oneTimeRow : Obligations.OneTimeRow := by
  unfold Obligations.OneTimeRow
  intro i ok s
  exact ⟨fun hlive => ⟨congrArg Host.Outcome.next (if_pos hlive), fun hpar hbusy => ⟨program_without_key hlive hpar hbusy, fun hkey harg hi hlock =>
    ⟨program_begins hlive hpar hbusy hkey harg hi hlock, program_of_programmed hlive hpar hbusy hkey harg hi hlock⟩⟩⟩,
    fun hbusy => ⟨programDone_ends hbusy ok, supplyTrip_ends hbusy⟩⟩

end Sys2Proof.Proofs
end

section
/-!
Keys and patches (O54). What the vane cluster reads does not depend on what its reads count (R127, R461, R472): the counts of the arbiters, of
telemetry and of the one-time row have no part in what the configuration is, where a line lies and what it holds.
-/
namespace Sys2Proof.Machine

/-- A stored line depends on where it lies, what stands there and its key. The definition is opened at its name alone: the place that it looks up
is too large a term to evaluate. -/
theorem State.lineNow_congr {s t : State} {a : Nat} (haddr : t.mapAddr a = s.mapAddr a) (hgone : t.mapGone = s.mapGone) (hvoid : t.isVoid = s.isVoid)
    (hpeek : t.peekStripe = s.peekStripe) (hlost : t.noRebuild = s.noRebuild) (hdecrypt : t.decryptAt a = s.decryptAt a) :
    t.lineNow a = s.lineNow a := by
  suffices ∀ f, f = State.lineNow → f t a = f s a from this _ rfl
  intro f hf
  delta State.lineNow at hf
  rw [hf]
  beta_reduce
  rw [hgone, hvoid, hpeek, hlost, hdecrypt]
  revert haddr
  generalize t.mapAddr a = x
  generalize s.mapAddr a = y
  intro hxy
  rw [hxy]

/-- The counts of grants, of telemetry and of the one-time row, the free values drawn, the raised sources and the build seen in an image apart, two
states are the same. -/
structure CountsOnly (s t : State) : Prop where
  state : t = { s with
    free := t.free, hubs := t.hubs, tel := t.tel, regs := { s.regs with headers := t.regs.headers }
    fab := { s.fab with grants := t.fab.grants, waits := t.fab.waits, longest := t.fab.longest }
    sec := { s.sec with otpUc := t.sec.otpUc, otpCe := t.sec.otpCe, patchSeen := t.sec.patchSeen } }
  hub : ∀ g : Fin 8, t.hubs[g] = { s.hubs[g] with grants := t.hubs[g].grants, tick := t.hubs[g].tick }
  parity : ∀ q, t.parity q = s.parity q

namespace CountsOnly
variable {s t u : State}

theorem refl (s : State) : CountsOnly s s := ⟨rfl, fun _ => rfl, fun _ => rfl⟩

theorem trans (h : CountsOnly s t) (h' : CountsOnly t u) : CountsOnly s u where
  state := by rw [h'.state, h.state]
  hub g := by rw [h'.hub g, h.hub g]
  parity q := (h'.parity q).trans (h.parity q)

theorem foldl {α : Type} {f : State → α → State} (hf : ∀ s a, CountsOnly s (f s a)) (l : List α) (s : State) : CountsOnly s (l.foldl f s) := by
  induction l generalizing s with
  | nil => exact refl s
  | cons a l ih => exact (hf s a).trans (ih _)

/-! ### Grants within a step -/

/-- A telemetry counter, and the interrupt of its wrap. -/
theorem telOne (s : State) (ev : Nat) (qual : Option Nat) (n k : Nat) : CountsOnly s (telOne s ev qual n k) := by
  have hcount (x : Telemetry) (first : Bool) : CountsOnly s (({ s with tel := x } : State).raiseIf first pageTel 2) := by
    refine ⟨?_, fun g => ?_, fun q => State.raiseIf_parity ..⟩ <;> cases first <;> rfl
  unfold Machine.telOne
  split
  rename_i v wrap _
  dsimp only
  split
  · exact hcount ..
  · exact refl s

theorem telSys (s : State) (ev : Nat) (qual : Option Nat) (n : Nat) : CountsOnly s (s.telSys ev qual n) := by
  unfold State.telSys
  split
  · exact foldl (fun s k => telOne s ev qual n k) _ s
  · exact refl s

theorem counted (s : State) (g : Fin 8) (free : Nat) (grants waits longest : Vector Reg 26) (n : Hub → Nat) (tick : Hub → BitVec 16) :
    CountsOnly s (({ s with free := free, fab := { s.fab with grants := grants, waits := waits, longest := longest } } : State).modHub g
      fun h => { h with grants := n h, tick := tick h }) := by
  refine ⟨rfl, fun j => ?_, fun q => rfl⟩
  by_cases hj : j = g
  · subst hj
    rw [State.modHub_self]
  · rw [State.modHub_other _ _ _ _ hj]

/-- A vane's grants at a hub. -/
theorem vaneGrants (s : State) (g : Fin 8) : CountsOnly s (s.vaneGrants g) := by
  unfold State.vaneGrants
  extract_lets n late ns drawn longest counts
  exact (counted s g ..).trans (telSys _ 0x05 (some g.val) n)

/-- A read of a one-time word. -/
theorem countOtp (s : State) (i : Nat) : CountsOnly s (s.countOtp i) := by
  unfold State.countOtp
  dsimp only
  split_ifs
  · exact ⟨rfl, fun _ => rfl, fun q => State.raise_parity ..⟩
  · exact ⟨rfl, fun _ => rfl, fun _ => rfl⟩
  · exact refl s

/-- The build in an image's header is noted. -/
theorem seen (s : State) (b : BitVec 16) : CountsOnly s { s with sec := { s.sec with patchSeen := b } } := ⟨rfl, fun _ => rfl, fun _ => rfl⟩

/-! ### What counting leaves of the hubs -/

section
variable (h : CountsOnly s t) (g : Fin 8)
include h

theorem table : t.hubs[g].table = s.hubs[g].table := by rw [h.hub g]
theorem staged : t.hubs[g].staged = s.hubs[g].staged := by rw [h.hub g]
theorem cut : t.hubs[g].cut = s.hubs[g].cut := by rw [h.hub g]
theorem stale : t.hubs[g].stale = s.hubs[g].stale := by rw [h.hub g]
theorem staleLost : t.hubs[g].staleLost = s.hubs[g].staleLost := by rw [h.hub g]
theorem lost : t.hubs[g].lost = s.hubs[g].lost := by rw [h.hub g]
theorem voids : t.hubs[g].voids = s.hubs[g].voids := by rw [h.hub g]
theorem mapLost : t.hubs[g].mapLost = s.hubs[g].mapLost := by rw [h.hub g]
theorem mapDone : t.hubs[g].mapDone = s.hubs[g].mapDone := by rw [h.hub g]
theorem mapImage : t.hubs[g].mapImage = s.hubs[g].mapImage := by rw [h.hub g]
theorem verify : t.hubs[g].verify = s.hubs[g].verify := by rw [h.hub g]

end

/-! ### Places and keys -/

section
variable (h : CountsOnly s t)
include h

theorem cfg (page ofs : Nat) : t.cfg page ofs = s.cfg page ofs := by
  have hparity := h.parity
  rw [h.state] at hparity ⊢
  simp only [State.cfg, hparity]
  rfl

theorem fenced (c : Fin 80) : t.fenced c = s.fenced c := by
  rw [h.state]
  rfl

theorem cutOff (g : Fin 8) (m : Fin 9) (c : Fin 80) : t.cutOff g m c = s.cutOff g m c := by
  simp only [State.cutOff, h.fenced, h.staged, h.cut]

theorem detour (g : Fin 8) (m : Fin 9) : t.detour g m = s.detour g m := by
  simp only [State.detour, h.fenced, h.staged]

theorem isStale (g : Fin 8) (stripe : Nat) : t.isStale g stripe = s.isStale g stripe := by
  simp only [State.isStale, h.staleLost, h.stale]

theorem spr : t.spr = s.spr := by rw [h.state]

theorem target (g : Fin 8) (m : Fin 9) (stripe : Nat) : t.target g m stripe = s.target g m stripe := by
  simp only [State.target, State.targetIn, h.table, h.cutOff, h.detour, h.isStale, h.spr]

theorem mapStripe (chunk : Nat) : t.mapStripe chunk = s.mapStripe chunk := by
  rw [h.state]
  rfl

theorem isLost (g : Fin 8) (stripe : Nat) (m : Fin 9) : t.isLost g stripe m = s.isLost g stripe m := by
  simp only [State.isLost, h.lost, h.target]

theorem mapGone (g : Fin 8) (stripe : Nat) : t.mapGone g stripe = s.mapGone g stripe := by
  simp only [State.mapGone, State.takesMapBit, h.mapLost, h.mapDone, h.mapStripe]

theorem isVoid (g : Fin 8) (stripe : Nat) : t.isVoid g stripe = s.isVoid g stripe := by
  simp only [State.isVoid, h.voids]

theorem retBands : t.retBands = s.retBands := by simp only [State.retBands, h.cfg]

theorem bandOf (a : Nat) : t.bandOf a = s.bandOf a := by
  rw [h.state]
  rfl

theorem keepRegion (n : Nat) : t.keepRegion n = s.keepRegion n := by simp only [State.keepRegion, h.cfg]

theorem keepRegBad (n : Nat) : t.keepRegBad n = s.keepRegBad n := by
  have hbands (a e : Nat) : t.bandsRetained a e = s.bandsRetained a e := by simp only [State.bandsRetained, h.bandOf, h.retBands]
  have hend : t.payloadEnd = s.payloadEnd := by rw [h.state]; rfl
  have hwin : t.winBase = s.winBase ∧ t.slotBase = s.slotBase ∧ t.winSize = s.winSize := by rw [h.state]; exact ⟨rfl, rfl, rfl⟩
  have hledger : t.ledger = s.ledger := by rw [h.state]
  obtain ⟨hbase, hslot, hsize⟩ := hwin
  simp only [State.keepRegBad, h.keepRegion, hbands, hend, hbase, hslot, hsize, hledger]

theorem lineKey (a : Nat) : t.lineKey a = s.lineKey a := by
  have hkeep : t.inKeepRegion a = s.inKeepRegion a := by simp only [State.inKeepRegion, State.keepRegActive, h.keepRegion, h.keepRegBad]
  have hready (n : Nat) : t.regionReady n = s.regionReady n := by rw [h.state]; rfl
  have hholds (n : Nat) : t.regionHolds n a = s.regionHolds n a := by rw [h.state]; rfl
  have hslot : t.inSlotArea a = s.inSlotArea a := by rw [h.state]; rfl
  have hstored (page ofs : Nat) : t.stored page ofs = s.stored page ofs := by rw [h.state]; rfl
  have hslots : t.sec.slots = s.sec.slots := by rw [h.state]
  have hkey : t.sec.keepKey = s.sec.keepKey := by rw [h.state]
  simp only [State.lineKey, hkeep, hready, hholds, hslot, hstored, hslots, hkey]

/-! ### Lines -/

theorem laid : t.laid = s.laid := by
  have hcopies : t.copies = s.copies := by rw [h.state]; rfl
  have hhubs (H : Vector Hub 8) : H.toList = (List.finRange 8).map fun g : Fin 8 => H[g] := by
    apply List.ext_getElem <;> simp
  simp only [State.laid, hcopies, hhubs, List.filterMap_map, Function.comp_def, h.mapImage]

theorem laidStrip (c : Fin 80) (pick : Laid → Option Nat) : t.laidStrip c pick = s.laidStrip c pick := by
  have hcopies : t.copies = s.copies := by rw [h.state]; rfl
  have hlayer (x : Laid) : t.layer c x = s.layer c x := by rw [h.state]; rfl
  simp only [State.laidStrip, hcopies, hlayer, h.mapImage]

theorem rawLine (c : Fin 80) (l : Nat) : t.rawLine c l = s.rawLine c l := by
  have hmem : t.mem = s.mem := by rw [h.state]
  have hslices : t.slices = s.slices := by rw [h.state]
  have heighth : t.eighthOf l = s.eighthOf l := by rw [h.state]; rfl
  simp only [State.rawLine, State.blankLine, h.laid, h.laidStrip, hmem, hslices, heighth]

theorem stripNow (c : Fin 80) (stripe : Nat) : t.stripNow c stripe = s.stripNow c stripe := by
  have hslices : t.slices = s.slices := by rw [h.state]
  have hdata : t.dataLine stripe = s.dataLine stripe := by rw [h.state]; rfl
  have hcheck : t.checkLine stripe = s.checkLine stripe := by rw [h.state]; rfl
  have hidx : t.checkIdx stripe = s.checkIdx stripe := by rw [h.state]; rfl
  simp only [State.stripNow, State.checkLineNow, State.ckBase, h.rawLine, hslices, hdata, hcheck, hidx]

theorem peekStripe (g : Fin 8) (stripe : Nat) : t.peekStripe g stripe = s.peekStripe g stripe := by
  simp only [State.peekStripe, State.peekStrip, h.target, h.stripNow]

theorem noRebuild (g : Fin 8) (stripe : Nat) (strips : Vector Strip 9) (m : Fin 9) :
    t.noRebuild g stripe strips m = s.noRebuild g stripe strips m := by
  simp only [State.noRebuild, h.isLost, h.verify]

theorem mapAddr (a : Nat) : t.mapAddr a = s.mapAddr a := by
  have hend : t.payloadEnd = s.payloadEnd := by rw [h.state]; rfl
  have hband : t.bandBytes = s.bandBytes := by rw [h.state]; rfl
  have hgroups : t.groups = s.groups := by rw [h.state]; rfl
  have hngrp : t.ngrp = s.ngrp := by rw [h.state]; rfl
  have heighth : t.eighthStrips = s.eighthStrips := by rw [h.state]; rfl
  have hstored (page ofs : Nat) : t.stored page ofs = s.stored page ofs := by rw [h.state]; rfl
  simp only [State.mapAddr, hend, hband, hgroups, hngrp, heighth, hstored]

theorem decryptAt (a : Nat) : t.decryptAt a = s.decryptAt a := by
  funext d
  simp only [State.decryptAt, h.lineKey]

theorem lineNow (a : Nat) : t.lineNow a = s.lineNow a :=
  State.lineNow_congr (h.mapAddr a) (by funext g stripe; exact h.mapGone g stripe) (by funext g stripe; exact h.isVoid g stripe)
    (by funext g stripe; exact h.peekStripe g stripe) (by funext g stripe strips m; exact h.noRebuild g stripe strips m) (h.decryptAt a)

/-- A line reads the same as V22 reads it. -/
theorem vaneLine (a : Nat) : t.vaneLine a = s.vaneLine a := by
  have hwin : t.inWindow a = s.inWindow a := by rw [h.state]; rfl
  have hentry : t.entry (t.granuleOf a) = s.entry (s.granuleOf a) := by rw [h.state]; rfl
  have haddr : t.readAddr a false 0 = s.readAddr a false 0 := by rw [h.state]; rfl
  simp only [State.vaneLine, hwin, hentry, haddr, h.lineNow]

theorem vaneLines (a n : Nat) : t.vaneLines a n = s.vaneLines a n := by
  simp only [State.vaneLines, h.vaneLine]

/-! ### Keys and images -/

theorem kdfContext : t.kdfContext = s.kdfContext := by simp only [State.kdfContext, h.cfg]

theorem slotInUse (k : Fin 16) : t.slotInUse k = s.slotInUse k := by simp only [State.slotInUse, State.cfgBit, State.cfgField, h.cfg]

theorem slots : t.sec.slots = s.sec.slots := by rw [h.state]

theorem otp (i : Nat) : t.sec.otp i = s.sec.otp i := by
  rw [h.state]
  rfl

theorem rootOk (r : Nat) : t.sec.rootOk r = s.sec.rootOk r := by simp only [Security.rootOk, Security.rootBytes, h.otp]

theorem patchBase : t.patchBase = s.patchBase := by simp only [State.patchBase, State.cfgPair, h.cfg]

theorem lineThere (a : Nat) : t.lineThere a = s.lineThere a := by
  rw [h.state]
  rfl

theorem patchChecks (img : List Byte) : t.patchChecks img = s.patchChecks img := by
  have hfeatures : t.sec.features = s.sec.features := by rw [h.state]
  simp only [State.patchChecks, hfeatures, h.otp]

theorem image : t.sec.image = s.sec.image := by rw [h.state]

theorem taken : t.sec.taken = s.sec.taken := by rw [h.state]

end

end CountsOnly

/-! ### Commands of the SEC page end (R466, R471) -/

theorem State.secEnd_intRaw (s : State) (r : BitVec 3) : ((s.secEnd r).intRaw pageSec).getLsbD 0 = true := State.raise_intRaw _ (by decide)

section
variable {s : State} (hpar : s.parity pageSec = false)
include hpar

theorem State.keyDerive_of_busy (hbusy : s.sec.cmdBusy = true) : s.keyDerive = s.secEnd 1 := by
  rw [State.keyDerive, hpar, hbusy]
  rfl

theorem State.keyClear_of_busy (hbusy : s.sec.cmdBusy = true) : s.keyClear = s.secEnd 1 := by
  rw [State.keyClear, hpar, hbusy]
  rfl

theorem State.patchLoad_of_busy (hbusy : s.sec.cmdBusy = true) : s.patchLoad = s.secEnd 1 := by
  rw [State.patchLoad, hpar, hbusy]
  rfl

section
variable (hbusy : s.sec.cmdBusy = false)
include hbusy

theorem State.keyClear_of_free (huse : s.slotInUse s.slotArg = false) : s.keyClear = (s.modSlot s.slotArg fun _ => KeySlot.empty).secEnd 0 := by
  rw [State.keyClear, hpar, hbusy, huse]
  rfl

theorem State.patchLoad_of_free : s.patchLoad = { s with sec := { s.sec with cmdBusy := true, loading := true } } := by
  rw [State.patchLoad, hpar, hbusy]
  rfl

end

end

/-! ### KEY_DERIVE (R465, R466) -/

/-- The words of a root read for a derivation. -/
def State.readRoot (s : State) (root : Bool) : State :=
  (List.range 4).foldl (fun (s : State) (j : Nat) => s.countOtp (4 + 4 * (if root then 1 else 0) + j)) s

theorem State.readRoot_counts (s : State) (root : Bool) : CountsOnly s (s.readRoot root) := CountsOnly.foldl (fun s _ => CountsOnly.countOtp s _) _ s

section
variable {s : State} (hpar : s.parity pageSec = false) (hbusy : s.sec.cmdBusy = false)
include hpar hbusy

theorem State.keyDerive_of_noRoot (hroot : s.sec.rootOk (if s.cfgBit pageSec 0x048 8 then 1 else 0) = false) :
    s.keyDerive = (s.readRoot (s.cfgBit pageSec 0x048 8)).secEnd 2 := by
  have hread := (s.readRoot_counts (s.cfgBit pageSec 0x048 8)).rootOk (if s.cfgBit pageSec 0x048 8 then 1 else 0)
  rw [State.keyDerive, hpar, hbusy]
  exact if_pos (hread.trans hroot)

theorem State.keyDerive_of_root (hroot : s.sec.rootOk (if s.cfgBit pageSec 0x048 8 then 1 else 0) = true) (huse : s.slotInUse s.slotArg = false) :
    s.keyDerive =
      let t := (s.readRoot (s.cfgBit pageSec 0x048 8)).modSlot s.slotArg fun _ => { st := 1, root := s.cfgBit pageSec 0x048 8, ctx := s.kdfContext, key := [] }
      { t with sec := { t.sec with cmdBusy := true, deriving_ := some s.slotArg } } := by
  have hcounts := s.readRoot_counts (s.cfgBit pageSec 0x048 8)
  have hread := hcounts.rootOk (if s.cfgBit pageSec 0x048 8 then 1 else 0)
  rw [← hcounts.kdfContext, State.keyDerive, if_neg (Bool.eq_false_iff.1 hpar), if_neg (Bool.eq_false_iff.1 hbusy)]
  refine (if_neg ?_).trans (if_neg ?_)
  · exact ne_false_of_eq_true (hread.trans hroot)
  · exact Bool.eq_false_iff.1 ((hcounts.slotInUse s.slotArg).trans huse)

end

/-! ### The load of an image (R471, R472) -/

theorem State.patchFinish_of_disabled {s : State} (hload : s.sec.loading = true) (hdis : s.feature 0 = true) : s.patchFinish = s.patchEnd 1 := by
  rw [State.patchFinish, hload, hdis]
  rfl

/-- A whole image read to the end of its checks: it is kept if none fails. -/
theorem State.patchTake_of_whole {s : State} {head : List Byte} {len : Nat} (hmagic : head.take 8 = patchMagic) (hlen : patchLength len = true)
    (hlines : ∀ x ∈ s.vaneLines s.patchBase (len / 64), x ≠ none) :
    s.patchTake head len =
      let t : State := { s with sec := { s.sec with patchSeen := BitVec.ofNat 16 (imageField head 10 2) } }
      let img := linesBytes (s.vaneLines s.patchBase (len / 64))
      if s.patchChecks img = 0 then ({ t with sec := { t.sec with image := img, taken := false } } : State).patchEnd 0 else t.patchEnd (s.patchChecks img) := by
  have hseen := CountsOnly.seen s (BitVec.ofNat 16 (imageField head 10 2))
  have hnone : ((s.vaneLines s.patchBase (len / 64)).any fun x => x.isNone) = false := by
    rw [List.any_eq_false]
    intro x hx
    rw [Option.isNone_iff_eq_none]
    exact hlines x hx
  rw [State.patchTake]
  dsimp only
  rw [if_neg (by rw [hmagic, hlen]; decide), hseen.patchBase, hseen.vaneLines, hseen.patchChecks, hnone]
  by_cases hwhy : s.patchChecks (linesBytes (s.vaneLines s.patchBase (len / 64))) = 0
  · rw [if_neg (not_not_intro hwhy), if_pos hwhy]
    rfl
  · rw [if_pos hwhy, if_neg hwhy]

/-- An image whose header and lines are there comes to its checks as it was read before the reads were counted. -/
theorem State.patchFinish_of_whole {s : State} (hload : s.sec.loading = true) (hdis : s.feature 0 = false) (himage : s.sec.image = [])
    (hservice : s.inService = true) (hbase : s.patchBase % 4096 = 0) (hthere : s.lineThere s.patchBase = true) {head : List Byte}
    (hhead : linesBytes [s.vaneLine s.patchBase] = head) {len : Nat} (hlen : imageField head 12 4 = len) (hlength : patchLength len = true)
    (hlines : ((List.range (len / 64)).all fun j => s.lineThere (s.patchBase + 64 * j)) = true) :
    s.patchFinish = (s.popGroups.foldl State.vaneGrants s).patchTake head len := by
  subst hhead hlen
  have hcounts : CountsOnly s (s.popGroups.foldl State.vaneGrants s) := CountsOnly.foldl CountsOnly.vaneGrants _ s
  have hbad : ¬(s.patchBase % 4096 ≠ 0 ∨ s.lineThere s.patchBase = false) := by
    rw [hbase, hthere]
    decide
  have hstart : s.patchFinish = (s.popGroups.foldl State.vaneGrants s).patchHead (linesBytes [s.vaneLine s.patchBase]) := by
    simp only [State.patchFinish, hload, hdis, himage, hservice, if_neg hbad, List.isEmpty_nil, Bool.true_eq_false, Bool.false_eq_true, if_false]
  rw [hstart]
  refine if_neg ?_
  simp only [hcounts.patchBase, hcounts.lineThere, hlength, hlines]
  decide

end Sys2Proof.Machine

namespace Sys2Proof.Proofs
open Sys2Proof.Machine

/-- A command of the SEC page while another runs answers that it is busy. -/
theorem completes_of_secBusy {s : State} {c : Instr} {f : State → State} (hc : exec c s = .next (s.whenLive pageSec f)) (hlive : s.pageLive pageSec = true)
    (hf : f s = s.secEnd 1) : Completes c s fun t => t.sec = { s.sec with cmdResult := 1 } ∧ (t.intRaw pageSec).getLsbD 0 = true :=
  .of_eq hc ((State.whenLive_of_live hlive f).trans hf) ⟨rfl, State.secEnd_intRaw ..⟩

section
variable {s : State} (hlive : s.pageLive pageSec = true)
include hlive

theorem secCommand_while_busy (hpar : s.parity pageSec = false) (hbusy : s.sec.cmdBusy = true) (c : Instr)
    (hc : c ∈ [Instr.keyDerive, .keyClear, .patchLoad]) :
    Completes c s fun t => t.sec = { s.sec with cmdResult := 1 } ∧ (t.intRaw pageSec).getLsbD 0 = true := by
  simp only [List.mem_cons, List.not_mem_nil, or_false] at hc
  rcases hc with rfl | rfl | rfl
  · exact completes_of_secBusy (f := State.keyDerive) rfl hlive (State.keyDerive_of_busy hpar hbusy)
  · exact completes_of_secBusy (f := State.keyClear) rfl hlive (State.keyClear_of_busy hpar hbusy)
  · exact completes_of_secBusy (f := State.patchLoad) rfl hlive (State.patchLoad_of_busy hpar hbusy)

variable (hpar : s.parity pageSec = false) (hbusy : s.sec.cmdBusy = false)
include hpar hbusy

theorem keyClear_empties_slot (huse : s.slotInUse s.slotArg = false) :
    Completes .keyClear s fun t => t.sec.slots = s.sec.slots.set s.slotArg KeySlot.empty ∧ t.sec.cmdResult = 0 ∧
      (t.intRaw pageSec).getLsbD 0 = true :=
  .of_eq (congrArg Host.Outcome.next (State.whenLive_of_live hlive _)) (State.keyClear_of_free hpar hbusy huse) ⟨rfl, rfl, State.secEnd_intRaw ..⟩

theorem keyDerive_begins (hroot : s.sec.rootOk (if s.cfgBit pageSec 0x048 8 then 1 else 0) = true) (huse : s.slotInUse s.slotArg = false) :
    Completes .keyDerive s fun t => t.sec.cmdBusy = true ∧ t.sec.deriving_ = some s.slotArg ∧
      t.sec.slots = s.sec.slots.set s.slotArg { st := 1, root := s.cfgBit pageSec 0x048 8, ctx := s.kdfContext, key := [] } :=
  .of_eq (congrArg Host.Outcome.next (State.whenLive_of_live hlive _)) (State.keyDerive_of_root hpar hbusy hroot huse)
    ⟨rfl, rfl, congrArg (Vector.set · s.slotArg _) (s.readRoot_counts _).slots⟩

theorem keyDerive_without_root (hroot : s.sec.rootOk (if s.cfgBit pageSec 0x048 8 then 1 else 0) = false) :
    Completes .keyDerive s fun t => t.sec.cmdResult = 2 ∧ t.sec.slots = s.sec.slots :=
  .of_eq (congrArg Host.Outcome.next (State.whenLive_of_live hlive _)) (State.keyDerive_of_noRoot hpar hbusy hroot) ⟨rfl, (s.readRoot_counts (s.cfgBit pageSec 0x048 8)).slots⟩

theorem patchLoad_begins : exec .patchLoad s = .next { s with sec := { s.sec with cmdBusy := true, loading := true } } :=
  congrArg Host.Outcome.next ((State.whenLive_of_live hlive _).trans (State.patchLoad_of_free hpar hbusy))

end

theorem keyDeriveDone_readies_slot {s : State} {k : Fin 16} (hk : s.sec.deriving_ = some k) :
    Completes .keyDeriveDone s fun t => t.sec.cmdBusy = false ∧ t.sec.deriving_ = none ∧ t.sec.cmdResult = 0 ∧
      t.sec.slots = s.sec.slots.set k { s.sec.slots[k] with st := 2, key := s.sec.slotKey s.sec.slots[k].root s.sec.slots[k].ctx } := by
  refine ⟨s.keyDone, rfl, ?_⟩
  rw [State.keyDone, hk]
  exact ⟨rfl, rfl, rfl, rfl⟩

theorem patchLoadDone_of_disabled {s : State} (hload : s.sec.loading = true) (hdis : s.feature 0 = true) :
    Completes .patchLoadDone s fun t => t.sec.patchReason = 1 ∧ t.sec.cmdResult = 4 ∧ t.sec.loading = false ∧ t.sec.image = s.sec.image :=
  .of_eq rfl (State.patchFinish_of_disabled hload hdis) ⟨rfl, rfl, rfl, rfl⟩

/-- Settles O54: the commands end as their checks say, and neither the words read for a derivation nor the lines read for an image change what
the checks see. -/
theorem keysAndPatches : Obligations.KeysAndPatches := by
  intro k s
  refine ⟨fun hlive => ⟨congrArg Host.Outcome.next (State.whenLive_of_live hlive _), fun hpar hbusy =>
      ⟨keyClear_empties_slot hlive hpar hbusy, keyDerive_begins hlive hpar hbusy, keyDerive_without_root hlive hpar hbusy,
        patchLoad_begins hlive hpar hbusy⟩, secCommand_while_busy hlive⟩,
    keyDeriveDone_readies_slot, fun hload => ⟨patchLoadDone_of_disabled hload, ?_⟩, ?_⟩
  · intro hdis himage hservice hbase hthere head lines hlength hlines hmagic hwhole
    have hcounts : CountsOnly s (s.popGroups.foldl State.vaneGrants s) := CountsOnly.foldl CountsOnly.vaneGrants _ s
    have hread : (s.popGroups.foldl State.vaneGrants s).vaneLines (s.popGroups.foldl State.vaneGrants s).patchBase (imageField head 12 4 / 64) = lines := by
      rw [hcounts.patchBase, hcounts.vaneLines]
    refine .of_eq rfl ((State.patchFinish_of_whole hload hdis himage hservice hbase hthere rfl rfl hlength hlines).trans
      (State.patchTake_of_whole hmagic hlength (hread ▸ hwhole))) ?_
    dsimp only
    rw [hread, hcounts.patchChecks]
    by_cases hwhy : s.patchChecks (linesBytes lines) = 0
    · simp only [if_pos hwhy]
      exact ⟨hwhy.symm, rfl, rfl, rfl, rfl⟩
    · simp only [if_neg hwhy]
      exact ⟨rfl, hcounts.taken, rfl, hcounts.image, if_neg hwhy⟩
  · intro himage htaken
    refine ⟨s.patchTakeUp, rfl, ?_⟩
    rw [State.patchTakeUp, if_neg (by rw [htaken, Bool.or_false, List.isEmpty_iff]; exact himage)]
    exact ⟨rfl, rfl⟩

end Sys2Proof.Proofs
end

section
/-!
The commands of a page's header (O45) and the sequence lock (O46): what a header command leaves of the other headers, and what the lock makes of
a write while it is held (R372 to R374, R386, R387, R395 to R398).
-/
namespace Sys2Proof.Machine

/-! ### Headers (R372 to R374, R386) -/

theorem State.modHeader_self (s : State) (page : Nat) (f : Header → Header) : (s.modHeader page f).header page = f (s.header page) := State.setHeader_self ..

theorem State.modHeader_other (s : State) {page q : Nat} (f : Header → Header) (hq : q ≠ page) : (s.modHeader page f).header q = s.header q :=
  State.setHeader_other _ _ hq

/-- A change of a header that leaves its parity flag and INT_EN leaves INT_EN as it acts. -/
theorem State.modHeader_intEn (s : State) (page : Nat) {f : Header → Header} (hf : ∀ h, (f h).parity = h.parity ∧ (f h).intEn = h.intEn) :
    (s.modHeader page f).intEn page = s.intEn page := by
  obtain ⟨hparity, hen⟩ := hf (s.header page)
  rw [State.intEn, State.intEn, State.parity, State.parity, State.modHeader_self, hparity, hen]

theorem State.modHeader_intRaw (s : State) (page : Nat) (f : Header → Header) : (s.modHeader page f).intRaw page = (f (s.header page)).intRaw := by
  rw [State.intRaw, State.modHeader_self]

theorem State.whenHeader_of_live {s : State} {page : Nat} (h : s.pageLive page = true) (ofs : Nat) (v : Reg) (f : State → State) :
    s.whenHeader page ofs v f = f s := if_pos h

theorem State.mem_shadows_discardPage (s : State) (page : Nat) (x : Nat × Shadow) :
    x ∈ (s.discardPage page).regs.shadows ↔ x ∈ s.regs.shadows ∧ (x.1 / 1024 ≠ page ∨ (s.regs.locked = true ∧ lkAt x.1 = true)) := by
  simp only [State.discardPage, List.mem_filter, Bool.or_eq_true, Bool.and_eq_true, bne_iff_ne]

theorem State.mem_lowHeld_discardPage (s : State) (page : Nat) (x : Nat × Reg) :
    x ∈ (s.discardPage page).regs.lowHeld ↔ x ∈ s.regs.lowHeld ∧ x.1 / 1024 ≠ page := by
  simp only [State.discardPage, List.mem_filter, bne_iff_ne]

/-! ### The lock (R395 to R398) -/

theorem State.expireLease_of_running {s : State} (h : s.leaseOver = false) : s.expireLease = s := if_neg (Bool.eq_false_iff.1 h)

/-- A staged write joins those that wait. -/
def State.staging (s : State) (l : List Access) : State :=
  { s with regs := { s.regs with seq := { s.regs.seq with staged := s.regs.seq.staged ++ l } } }

theorem State.stage_of_room {s : State} (h : s.regs.seq.staged.length < 64) (a : Access) : s.stage a = s.staging [a] := if_pos h

theorem State.stage_of_full {s : State} (h : 64 ≤ s.regs.seq.staged.length) (a : Access) :
    s.stage a = { s with regs := { s.regs with seq := { s.regs.seq with overflow := true } } } := if_neg (Nat.not_lt.2 h)

/-- A freed lock: nothing staged, and SEQ_LOST when writes were. -/
theorem State.freeLock_frees (s : State) : s.freeLock.regs.seq = SeqLock.reset ∧ s.freeLock.regs.applied = s.regs.applied ∧ s.freeLock.mem = s.mem ∧
    s.freeLock.pins = s.pins := by
  rw [State.freeLock, State.raiseIf]
  split_ifs <;> exact ⟨rfl, rfl, rfl, rfl⟩

theorem State.freeLock_intRaw {s : State} (h : s.regs.seq.staged ≠ []) : (s.freeLock.intRaw pageGlb).getLsbD 3 = true := by
  have hlost : (!s.regs.seq.staged.isEmpty) = true := by rw [Bool.not_eq_true', List.isEmpty_eq_false_iff]; exact h
  rw [State.freeLock, State.raiseIf, if_pos hlost]
  exact State.raise_intRaw _ (by decide)

theorem State.expireLease_of_over {s : State} (h : s.leaseOver = true) : s.expireLease = s.freeLock := if_pos h

section
variable {s : State} (hlease : s.leaseOver = false)
include hlease

/-- With the lease running, an ACQUIRE goes to the lock as it is. -/
theorem State.seqAcquire_of_running (id : BitVec 5) : s.seqAcquire id =
    if s.regs.seq.held then
      (if s.regs.seq.owner = ownerId id then { s with regs := { s.regs with seq := { s.regs.seq with tLease := s.tb } } } else s)
    else { s with regs := { s.regs with seq := { SeqLock.reset with held := true, owner := ownerId id, tLease := s.tb } } } := by
  have hrun : ¬(s.leaseOver = true ∧ s.regs.seq.owner = ownerId id) := fun h => absurd h.1 (Bool.eq_false_iff.1 hlease)
  have hkept := State.expireLease_of_running hlease
  refine (if_neg hrun).trans ?_
  dsimp only
  rw [hkept]

theorem State.seqAcquire_of_free (hheld : s.regs.seq.held = false) (id : BitVec 5) :
    s.seqAcquire id = { s with regs := { s.regs with seq := { SeqLock.reset with held := true, owner := ownerId id, tLease := s.tb } } } := by
  rw [State.seqAcquire_of_running hlease, if_neg (Bool.eq_false_iff.1 hheld)]

section
variable (hheld : s.regs.seq.held = true)
include hheld

theorem State.seqAcquire_of_owner {id : BitVec 5} (howner : s.regs.seq.owner = ownerId id) :
    s.seqAcquire id = { s with regs := { s.regs with seq := { s.regs.seq with tLease := s.tb } } } := by
  rw [State.seqAcquire_of_running hlease, if_pos hheld, if_pos howner]

theorem State.seqAcquire_of_other {id : BitVec 5} (howner : s.regs.seq.owner ≠ ownerId id) : s.seqAcquire id = s := by
  rw [State.seqAcquire_of_running hlease, if_pos hheld, if_neg howner]

theorem State.seqRelease_of_owner {id : BitVec 5} (howner : s.regs.seq.owner = ownerId id) (commit : Bool) :
    s.seqRelease id commit = (if commit && !s.regs.seq.overflow then s.regs.seq.staged else []).foldl
      (fun (t : State) (x : Access) => if t.parity (pageOf x.addr) then t else t.performWrite x) { s with regs := { s.regs with seq := SeqLock.reset } } := by
  have hholds : ¬(s.regs.seq.held = false ∨ s.regs.seq.owner ≠ ownerId id) := by
    rw [hheld, howner]
    simp
  exact (if_neg (Bool.eq_false_iff.1 hlease)).trans (if_neg hholds)

omit hheld in
theorem State.seqRelease_of_other {id : BitVec 5} (howner : s.regs.seq.owner ≠ ownerId id) (commit : Bool) : s.seqRelease id commit = s :=
  (if_neg (Bool.eq_false_iff.1 hlease)).trans (if_pos (Or.inr howner))

/-- A row that stands for writes is staged, one write after another, as the holder's. -/
theorem State.rowWrite_of_held (l : List Access) (f : State → State) :
    s.rowWrite l f = l.foldl (fun (s : State) (a : Access) => s.stage { a with reqid := s.regs.seq.owner }) s := by
  have hkept := State.expireLease_of_running hlease
  rw [State.rowWrite, hkept, if_pos hheld]

theorem State.rowWrite_of_one (hroom : s.regs.seq.staged.length < 64) (a : Access) (f : State → State) :
    s.rowWrite [a] f = s.staging [{ a with reqid := s.regs.seq.owner }] :=
  (State.rowWrite_of_held hlease hheld [a] f).trans (State.stage_of_room hroom _)

theorem State.rowWrite_of_two (hroom : s.regs.seq.staged.length < 63) (a b : Access) (f : State → State) :
    s.rowWrite [a, b] f = s.staging [{ a with reqid := s.regs.seq.owner }, { b with reqid := s.regs.seq.owner }] := by
  have hnext (x : Access) : (s.staging [x]).regs.seq.staged.length < 64 := by
    rw [State.staging, List.length_append]
    exact Nat.succ_lt_succ hroom
  rw [State.rowWrite_of_held hlease hheld, List.foldl_cons, State.stage_of_room (by omega), List.foldl_cons, State.stage_of_room (hnext _), List.foldl_nil]
  simp only [State.staging, List.append_assoc, List.singleton_append]

/-- A write to a register with RW fields, but for the word of the lock itself, meets the lock. -/
theorem State.offerWrite_of_held {a : Access} {r : RegSpec} (hspec : regSpec (pageOf a.addr) (addrOfs a.addr) = some r) (hrw : r.rw ≠ 0)
    (hword : ¬(pageOf a.addr = pageGlb ∧ addrOfs a.addr = 0x058)) :
    s.offerWrite a = if s.regs.seq.owner = ownerId a.reqid then s.stage a else s.accessError (pageOf a.addr) 4 a.addr := by
  have hother : ¬(pageOf a.addr = pageGlb ∧ addrOfs a.addr = 0x058 ∧ isNarrow a = false) := fun h => hword ⟨h.1, h.2.1⟩
  have hkept := State.expireLease_of_running hlease
  rw [State.offerWrite]
  dsimp only
  rw [hspec]
  dsimp only
  rw [if_neg hother, hkept, if_pos ⟨hheld, hrw⟩]

end

end

end Sys2Proof.Machine

namespace Sys2Proof.Proofs
open Sys2Proof.Machine

/-- Settles O45: each command is its change of one header, or of what is held back of one page. -/
theorem headerCommands : Obligations.HeaderCommands := by
  intro page bits s hlive
  have hrun (ofs : Nat) (v : Reg) (f : State → State) : Host.Outcome.next (s.whenHeader page.toNat ofs v f) = (.next (f s) : Host.Outcome State Fault Refusal) :=
    congrArg Host.Outcome.next (State.whenHeader_of_live hlive ofs v f)
  refine ⟨⟨_, hrun .., State.modHeader_intRaw .., State.modHeader_intEn _ _ fun h => ⟨rfl, rfl⟩, fun p hp => State.modHeader_other _ _ hp⟩,
    ⟨_, hrun .., State.modHeader_intRaw .., State.modHeader_intEn _ _ fun h => ⟨rfl, rfl⟩, fun p hp => State.modHeader_other _ _ hp⟩,
    ⟨_, hrun .., State.modHeader_self .., fun p hp => State.modHeader_other _ _ hp⟩,
    ⟨_, hrun .., rfl, s.mem_shadows_discardPage _, s.mem_lowHeld_discardPage _, fun p => rfl⟩, ?_⟩
  intro hglb hfree
  rw [hglb] at hlive
  exact congrArg Host.Outcome.next ((State.whenLive_of_live hlive _).trans (State.rowWrite_of_free hfree _ _))

/-- Settles O46: with the lease running each command meets the lock as it stands, and a lease that is over, or CP_RST_N, frees it. -/
theorem sequenceLock : Obligations.SequenceLock := by
  intro id a r s
  refine ⟨fun hlive hlease => ?_, fun hheld hlease hspec hrw hword => ?_, fun hheld hlease hroom n c p o w hrow hlive => ?_,
    fun n v hheld hlease hroom hlive => ?_, fun hover => ?_, ?_⟩
  · have hrun (f : State → State) : Host.Outcome.next (s.whenLive pageGlb f) = (.next (f s) : Host.Outcome State Fault Refusal) :=
      congrArg Host.Outcome.next (State.whenLive_of_live hlive f)
    refine ⟨fun hfree => (hrun _).trans (congrArg _ (State.seqAcquire_of_free hlease hfree id)), fun hheld howner => ?_, fun hheld howner => ?_⟩
    · have hrelease (commit : Bool) := State.seqRelease_of_owner hlease hheld howner commit
      refine ⟨(hrun _).trans (congrArg _ (State.seqAcquire_of_owner hlease hheld howner)), (hrun _).trans (congrArg _ (hrelease false)), ?_, ?_⟩ <;>
      · intro hoverflow
        have hcommit := hrelease true
        rw [hoverflow] at hcommit
        exact (hrun _).trans (congrArg _ hcommit)
    · exact ⟨(hrun _).trans (congrArg _ (State.seqAcquire_of_other hlease hheld howner)),
        (hrun _).trans (congrArg _ (State.seqRelease_of_other hlease howner true)),
        (hrun _).trans (congrArg _ (State.seqRelease_of_other hlease howner false))⟩
  · have hoffer := State.offerWrite_of_held hlease hheld hspec hrw hword
    exact ⟨fun howner hroom => (hoffer.trans (if_pos howner)).trans (State.stage_of_room hroom a),
      fun howner hfull => (hoffer.trans (if_pos howner)).trans (State.stage_of_full hfull a), fun howner => hoffer.trans (if_neg howner)⟩
  · have hrun (x : Access) (f : State → State) : Host.Outcome.next (s.whenLive p fun s => s.rowWrite [x] f) =
        (.next (s.staging [{ x with reqid := s.regs.seq.owner }]) : Host.Outcome State Fault Refusal) :=
      congrArg Host.Outcome.next ((State.whenLive_of_live hlive _).trans (State.rowWrite_of_one hlease hheld hroom x f))
    simp only [List.mem_cons, List.not_mem_nil, or_false, Prod.mk.injEq] at hrow
    obtain ⟨rfl, rfl, rfl, rfl⟩ | ⟨rfl, rfl, rfl, rfl⟩ | ⟨rfl, rfl, rfl, rfl⟩ := hrow <;> exact hrun _ _
  · exact congrArg Host.Outcome.next ((State.whenLive_of_live hlive _).trans (State.rowWrite_of_two hlease hheld hroom _ _ _))
  · obtain ⟨hseq, happlied, hmem, -⟩ := s.freeLock_frees
    exact .of_eq rfl (State.expireLease_of_over hover) ⟨hseq, happlied, hmem, State.freeLock_intRaw⟩
  · obtain ⟨hseq, happlied, hmem, hpins⟩ := State.freeLock_frees { s with pins := { s.pins with cpRstN := false } }
    exact ⟨_, rfl, hseq, congrArg Pins.cpRstN hpins, happlied, hmem⟩

end Sys2Proof.Proofs
end

section
/-!
Register reads (O44): what an error's log leaves raised, the values that apply at IDLE, and the read of one word, with a parity fault or without
(R377, R382, R390 to R392).
-/
namespace Sys2Proof.Machine

/-! ### Sources and parity flags while an error is logged (R416, R424) -/

/-- The parity flags are the same, and what was raised still is. -/
structure Raises (s t : State) : Prop where
  parity : ∀ q, t.parity q = s.parity q
  raised : ∀ q j, (s.intRaw q).getLsbD j = true → (t.intRaw q).getLsbD j = true

namespace Raises
variable {s t u : State}

theorem of_headers (h : t.regs.headers = s.regs.headers) : Raises s t where
  parity q := State.parity_congr h q
  raised q j hj := by rwa [State.intRaw_congr h q]

theorem trans (h : Raises s t) (h' : Raises t u) : Raises s u where
  parity q := (h'.parity q).trans (h.parity q)
  raised q j hj := h'.raised q j (h.raised q j hj)

theorem raise (s : State) (page k : Nat) : Raises s (s.raise page k) where
  parity q := s.raise_parity page k q
  raised q j hj := by
    by_cases hq : q = page
    · subst hq
      rw [State.intRaw, State.raise, State.raiseMask, State.modHeader, State.setHeader_self, BitVec.getLsbD_or]
      exact Bool.or_eq_true_iff.2 (.inl hj)
    · rw [State.intRaw, State.raise, State.raiseMask, State.modHeader, State.setHeader_other _ _ hq]
      exact hj

theorem raiseIf (s : State) (c : Bool) (page k : Nat) : Raises s (s.raiseIf c page k) := by
  cases c with
  | false => exact of_headers rfl
  | true => exact raise s page k

theorem thenRaise (h : Raises s t) {page k : Nat} : Raises s (t.raise page k) := h.trans (raise ..)

theorem thenRaiseIf (h : Raises s t) {c : Bool} {page k : Nat} : Raises s (t.raiseIf c page k) := h.trans (raiseIf ..)

theorem after (h : Raises s t) (hu : u.regs.headers = t.regs.headers) : Raises s u := h.trans (of_headers hu)

theorem noteFatal (s : State) (ev : ErrEvent) : Raises s (s.noteFatal ev) := by
  have hfatal : Raises s (({ s with err := { s.err with fatal := true } } : State).raise pageErr 3) := thenRaise (of_headers (by rfl))
  unfold State.noteFatal
  dsimp only
  split_ifs
  · exact hfatal.after rfl
  · exact hfatal
  · exact of_headers rfl

theorem writeEntry (s : State) (slot : Nat) (x : LogEntry) : Raises s (s.writeEntry slot x) :=
  thenRaiseIf (thenRaise (of_headers (by rfl)))

theorem logRing (s : State) (ev : ErrEvent) (squall coalesce : Bool) : Raises s (s.logRing ev squall coalesce) := by
  unfold State.logRing
  dsimp only
  split
  · split <;> exact of_headers rfl
  · split_ifs
    · exact thenRaiseIf ((writeEntry ..).after (by rfl))
    · split
      · exact (writeEntry ..).after (by rfl)
      · exact of_headers rfl
    · exact of_headers rfl

theorem logError (s : State) (ev : ErrEvent) : Raises s (s.logError ev) := by
  unfold State.logError
  extract_lets t cfg u nested v
  have ht : Raises s t := of_headers rfl
  have hv : Raises u v := by
    unfold v
    split <;> exact of_headers rfl
  split_ifs
  · exact ht
  · exact ht
  · exact ht.trans ((noteFatal t ev).trans (hv.trans (logRing ..)))

end Raises

/-! ### A parity fault (R391, R398) -/

/-- A page whose parity fault is found, before it enters its safe state. -/
def State.faulted (s : State) (page ofs : Nat) : State :=
  let s := s.modHeader page fun h => { h with parity := true }
  let s := (s.raise pageErr 4).logError { cls := faultClass page, page := page, code := 0x0060, detail := BitVec.ofNat 64 ofs }
  let other (a : Access) : Bool := pageOf a.addr != page
  { s with regs := { s.regs with
    shadows := s.regs.shadows.filter fun x => x.1 / 1024 != page
    lowHeld := s.regs.lowHeld.filter fun x => x.1 / 1024 != page
    napHeld := s.regs.napHeld.filter other
    seq := { s.regs.seq with staged := s.regs.seq.staged.filter other } } }

theorem State.parityFault_eq (s : State) (page ofs : Nat) : s.parityFault page ofs = (s.faulted page ofs).enterSafe page := rfl

section
variable (s : State) (page ofs : Nat)

theorem State.faulted_raises : Raises ((s.modHeader page fun h => { h with parity := true }).raise pageErr 4) (s.faulted page ofs) :=
  (Raises.logError ..).trans (.of_headers rfl)

theorem State.faulted_parity : (s.faulted page ofs).parity page = true := by
  rw [(s.faulted_raises page ofs).parity, State.raise_parity, State.parity, State.modHeader_self]

theorem State.faulted_intRaw : ((s.faulted page ofs).intRaw pageErr).getLsbD 4 = true :=
  (s.faulted_raises page ofs).raised pageErr 4 (State.raise_intRaw _ (by decide))

theorem State.faulted_applied : (s.faulted page ofs).regs.applied = s.regs.applied :=
  (State.logError_keeps ((s.modHeader page fun h => { h with parity := true }).raise pageErr 4) _).p .regApplied (by decide)

theorem State.faulted_mem : (s.faulted page ofs).mem = s.mem :=
  (State.logError_keeps ((s.modHeader page fun h => { h with parity := true }).raise pageErr 4) _).p .mem (by decide)

theorem State.faulted_shadows : ∀ x ∈ (s.faulted page ofs).regs.shadows, x.1 / 1024 ≠ page := fun _ hx => bne_iff_ne.1 (List.mem_filter.1 hx).2

theorem State.faulted_staged : ∀ x ∈ (s.faulted page ofs).regs.seq.staged, pageOf x.addr ≠ page := fun _ hx => bne_iff_ne.1 (List.mem_filter.1 hx).2

end

/-! ### Values that apply (R382) -/

theorem regKey_inj {page o q : Nat} : regKey page o = regKey page q ↔ o = q := Nat.add_left_cancel_iff

/-- A value that applies leaves every pending or applied value of its page as it reads. -/
theorem State.applyShadow_pendingOr (s : State) (page q o : Nat) : (s.applyShadow page q).pendingOr page o = s.pendingOr page o := by
  have hshadows : (s.applyShadow page q).regs.shadows = dropKey s.regs.shadows (regKey page q) := rfl
  by_cases ho : o = q
  · subst ho
    rw [State.pendingOr, hshadows, getKey_dropKey]
    exact State.stored_store_same ..
  · have hkey : regKey page o ≠ regKey page q := fun h => ho (regKey_inj.1 h)
    have hstored : (s.applyShadow page q).stored page o = s.stored page o := State.stored_store_other s _ hkey
    rw [State.pendingOr, State.pendingOr, hshadows, getKey_dropKey_of_ne _ hkey, hstored]

theorem State.applyShadow_stored_other (s : State) (page : Nat) {q o : Nat} (h : o ≠ q) : (s.applyShadow page q).stored page o = s.stored page o :=
  State.stored_store_other s _ fun hk => h (regKey_inj.1 hk)

theorem State.applyShadow_stored_same (s : State) (page o : Nat) : (s.applyShadow page o).stored page o = s.pendingOr page o := State.stored_store_same ..

/-- Where the applied value of a register is what is pending for it, it stays so while other values of the page apply. -/
theorem State.foldl_applyShadow_stored_of_settled (page o : Nat) (l : List Nat) (s : State) (h : s.stored page o = s.pendingOr page o) :
    (l.foldl (fun (t : State) (q : Nat) => t.applyShadow page q) s).stored page o = s.pendingOr page o := by
  induction l generalizing s with
  | nil => exact h
  | cons q l ih =>
    rw [List.foldl_cons, ih _ ?_, State.applyShadow_pendingOr]
    rw [State.applyShadow_pendingOr]
    by_cases ho : o = q
    · subst ho
      exact State.applyShadow_stored_same ..
    · exact (State.applyShadow_stored_other s page ho).trans h

theorem State.foldl_applyShadow_stored (page : Nat) {o : Nat} (l : List Nat) (ho : o ∈ l) (s : State) :
    (l.foldl (fun (t : State) (q : Nat) => t.applyShadow page q) s).stored page o = s.pendingOr page o := by
  induction l generalizing s with
  | nil => exact absurd ho List.not_mem_nil
  | cons q l ih =>
    rw [List.foldl_cons]
    rcases List.mem_cons.1 ho with rfl | hl
    · rw [State.foldl_applyShadow_stored_of_settled, State.applyShadow_pendingOr]
      rw [State.applyShadow_stored_same, State.applyShadow_pendingOr]
    · rw [ih hl, State.applyShadow_pendingOr]

/-- At an apply point each register that waits for it takes its pending value. -/
theorem State.applyPoint_stored (s : State) (page : Nat) (ap : Apply) {o : Nat} (ho : o ∈ s.pendingAt page ap) :
    (s.applyPoint page ap).stored page o = s.pendingOr page o := by
  have hhook (u : State) (l : List Nat) : (u.appliedHook s page l).regs.applied = u.regs.applied := (u.appliedHook_keeps ..).p .regApplied (by decide)
  have hsome : ¬(s.pendingAt page ap).isEmpty = true := fun h => List.ne_nil_of_mem ho (List.isEmpty_iff.1 h)
  rw [State.applyPoint_eq, if_neg hsome, State.stored, hhook]
  exact State.foldl_applyShadow_stored page _ ho s

/-! ### The read of a word (R364, R377) -/

theorem toLanes_zero (addr : BitVec 20) : toLanes addr 0 = 0 := by
  rw [toLanes]
  split <;> rfl

/-- A word or less is one part. -/
theorem accessParts_of_word {a : Access} (h : a.size.toNat < 3) : accessParts a = [a] :=
  if_neg fun h3 => absurd h (by rw [h3]; decide)

theorem readMask_of_secure {a : Access} (h : a.secure = true) (r : Option RegSpec) : readMask a r = laneMask a.addr a.size := by
  unfold readMask
  cases r with
  | none =>
    dsimp only
    exact BitVec.and_allOnes
  | some r =>
    simp only [h, if_true]
    exact BitVec.and_allOnes

/-- What a read that returns a register leaves: a one-time word counted as read, or the next free value. -/
def State.afterRead (s : State) (a : Access) : State :=
  let t := if pageOf a.addr = pageOtp ∧ (addrOfs a.addr = 0x044 ∨ addrOfs a.addr = 0x048) ∧ otpProtected s.otpSel = false ∧ isNarrow a = false then s.countOtp s.otpSel else s
  if showsFree (pageOf a.addr) (addrOfs a.addr) then t.tookFree else t

theorem State.afterRead_keeps (s : State) (a : Access) : Keeps 0x1000000204 s (s.afterRead a) := by
  unfold State.afterRead
  extract_lets t
  have ht : Keeps 0x1000000204 s t := .ite (fun _ => (s.countOtp_keeps _).mono (by decide)) fun _ => .rfl'
  exact .ite (fun _ => ht.trans (t.tookFree_keeps.mono (by decide))) fun _ => ht

theorem State.readPart_of_sound {s : State} {a : Access} (hpop : ∀ r, regSpec (pageOf a.addr) (addrOfs a.addr) = some r → r.pop = false) :
    s.readPart a false = (s.afterRead a, s.regRead (pageOf a.addr) (addrOfs a.addr) &&& readMask a (regSpec (pageOf a.addr) (addrOfs a.addr)), false) := by
  unfold State.readPart
  dsimp only
  cases hspec : regSpec (pageOf a.addr) (addrOfs a.addr) with
  | none => rfl
  | some r =>
    have hpop : ¬r.pop = true := Bool.eq_false_iff.1 (hpop r hspec)
    dsimp only
    exact (if_neg Bool.false_ne_true).trans ((if_neg hpop).trans (if_neg Bool.false_ne_true))

section
variable {s : State} {a : Access} (hopen : s.portOpen = true) (hthere : s.pageThere (pageOf a.addr) = true) (hsecure : a.secure = true)
  (haligned : isAligned a = true) (hsize : a.size.toNat < 3)
include hopen hthere hsecure haligned hsize

/-- A secure requester's aligned access of a word or less reads that word. -/
theorem State.regReadAccess_of_word (fault : Bool) : s.regReadAccess a fault =
    let t := s.respondPort 0 false
    let strikes := hasParity (pageOf a.addr) (addrOfs a.addr) || isLogWindow (pageOf a.addr) (addrOfs a.addr)
    let p := t.readPart a (fault && strikes)
    p.1.respondPort (0 ||| toLanes a.addr p.2.1) (false || p.2.2) := by
  have hsec : secureOnly a = false := by rw [secureOnly, hsecure]; rfl
  have htel : s.telDenied a false = false := by rw [State.telDenied, hsecure, Bool.not_true, Bool.and_false, Bool.false_and]
  have hparts : ([a].filter fun x => !(s.respondPort 0 false).telDenied x false) = [a] := by
    refine List.filter_eq_self.2 fun x hx => ?_
    rw [List.mem_singleton.1 hx]
    exact congrArg not htel
  have hhit (b : Bool) : (((if b = true then some a else none : Option Access)) == some a) = b := by cases b <;> simp
  refine (if_neg (ne_false_of_eq_true hopen)).trans ((if_neg (ne_false_of_eq_true hthere)).trans ?_)
  rw [if_neg (Bool.eq_false_iff.1 hsec), if_neg (ne_false_of_eq_true haligned), accessParts_of_word hsize, hparts]
  simp only [List.find?_singleton, List.foldl_cons, List.foldl_nil, hhit]
  rfl

/-- A read that its parity check stops enters the page's safe state and returns nothing. -/
theorem State.regReadAccess_of_fault (hpar : hasParity (pageOf a.addr) (addrOfs a.addr) = true) : s.regReadAccess a true =
    ((((s.respondPort 0 false).accessError (pageOf a.addr) 5 a.addr).faulted (pageOf a.addr) (addrOfs a.addr)).enterSafe (pageOf a.addr)).respondPort 0 true := by
  rw [State.regReadAccess_of_word hopen hthere hsecure haligned hsize]
  dsimp only
  rw [hpar, State.readPart, if_pos (by rw [hpar]; rfl), ← State.parityFault_eq]
  dsimp only
  rw [toLanes_zero]
  rfl

/-- A read without a fault of a register that is not popped returns what the register shows. -/
theorem State.regReadAccess_of_sound (hpop : ∀ r, regSpec (pageOf a.addr) (addrOfs a.addr) = some r → r.pop = false) :
    s.regReadAccess a false = ((s.respondPort 0 false).afterRead a).respondPort
      (toLanes a.addr ((s.respondPort 0 false).regRead (pageOf a.addr) (addrOfs a.addr) &&& laneMask a.addr a.size)) false := by
  rw [State.regReadAccess_of_word hopen hthere hsecure haligned hsize]
  dsimp only
  rw [Bool.false_and, State.readPart_of_sound hpop, readMask_of_secure hsecure]
  dsimp only
  rw [BitVec.ofNat_eq_ofNat, BitVec.zero_or, Bool.or_false]

end

end Sys2Proof.Machine

namespace Sys2Proof.Proofs
open Sys2Proof.Machine

/-- Settles O44: a word's read is one part of the port's access, and a parity fault found by a read or by the sweep is the same step. -/
theorem registerReadEffects : Obligations.RegisterReadEffects := by
  intro a page ofs s
  refine ⟨fun hopen habsent => .of_eq rfl ((if_neg (ne_false_of_eq_true hopen)).trans (if_pos habsent)) ⟨rfl, rfl⟩,
    fun hopen hthere hsecure haligned hsize => ?_, fun hon hidle => ?_, ?_⟩
  · intro asked
    refine ⟨fun hpop => ?_, fun hpar => ?_⟩
    · exact .of_eq rfl (State.regReadAccess_of_sound (s := { s with pins := { s.pins with cpRstN := true } }) hopen hthere hsecure haligned hsize hpop)
        ⟨rfl, rfl, (asked.afterRead_keeps a).p .regApplied (by decide), (asked.afterRead_keeps a).p .mem (by decide)⟩
    · exact .of_eq rfl (State.regReadAccess_of_fault (s := { s with pins := { s.pins with cpRstN := true } }) hopen hthere hsecure haligned hsize hpar)
        ⟨rfl, rfl, (asked.accessError (pageOf a.addr) 5 a.addr).faulted (pageOf a.addr) (addrOfs a.addr), State.faulted_parity .., rfl⟩
  · exact .of_eq rfl (if_pos (by rw [hon, hidle]; rfl)) ⟨s.applyPoint_pendingAt _ _, (s.applyPoint_keeps _ _).p .mem (by decide), fun o ho => s.applyPoint_stored _ _ ho⟩
  · intro o hthere hpar
    exact .of_eq rfl (if_pos (by rw [hthere, hpar]; rfl)) ⟨_, State.parityFault_eq .., State.faulted_parity .., State.faulted_intRaw ..,
      State.faulted_applied .., s.faulted_shadows _ _, s.faulted_staged _ _, State.faulted_mem ..⟩

end Sys2Proof.Proofs
end

section
/-!
The mailbox (O47) and the debug port (O49): a ring by what its checks find, the request or the raw line of a debug operation, and its end (R404,
R405, R410, R411).
-/
namespace Sys2Proof.Machine

/-! ### Rings (R404, R405) -/

section
variable {s : State} {v : Fin 24} {op : Byte} {a : Vector Reg 4}

/-- A command that begins nothing when it is accepted. -/
theorem State.mboxStart_of_quiet (h : op ≠ opDiagEnter ∧ op ≠ opDiagExit ∧ op ≠ opBist ∧ op ≠ opPattern) : s.mboxStart v op a = s := by
  obtain ⟨henter, hexit, hbist, hpattern⟩ := h
  rw [State.mboxStart, if_neg henter, if_neg hexit, if_neg hbist, if_neg hpattern]

theorem State.ringOn_of_busy (hlive : s.pageLive (pageVane v) = true) (hbusy : s.vanes[v].busy = true) :
    s.ringOn v op a = s.modVane v fun x => { x with ringLost := true, refuseCnt := satInc x.refuseCnt } :=
  (State.whenLive_of_live hlive _).trans (if_pos hbusy)

/-- A ring of an operation that the vane does not list ends with CODE 2. -/
theorem State.ringOn_of_unlisted (hlive : s.pageLive (pageVane v) = true) (hpar : s.parity (pageVane v) = false) (hbusy : s.vanes[v].busy = false)
    (hop : opListed v op = false) : s.ringOn v op a = (s.mboxLatch v op a).mboxEnd v 2 0 [] := by
  rw [State.ringOn_of_idle hlive hbusy]
  exact (if_neg (Bool.eq_false_iff.1 hpar)).trans (if_pos hop)

end

/-! ### The debug port's line (R410) -/

theorem regKey_ne {page o q : Nat} (h : o ≠ q) : regKey page o ≠ regKey page q := fun hk => h (regKey_inj.1 hk)

/-- Words stored at rising offsets of a page read back, each at its own. -/
theorem State.foldl_store_stored (page base : Nat) (f : Nat → Reg) {n k : Nat} (hk : k < n) (s : State) :
    ((List.range n).foldl (fun (s : State) (j : Nat) => s.store page (base + 4 * j) (f j)) s).stored page (base + 4 * k) = f k := by
  induction n with
  | zero => omega
  | succ n ih =>
    rw [List.range_succ, List.foldl_append, List.foldl_cons, List.foldl_nil]
    rcases Nat.lt_succ_iff_lt_or_eq.1 hk with hlt | rfl
    · rw [State.stored_store_other _ _ (regKey_ne (by omega)), ih hlt]
    · exact State.stored_store_same ..

theorem State.setDbgLine_stored (s : State) (d : Line) {k : Nat} (hk : k < 16) :
    (s.setDbgLine d).stored pageDbg (0x100 + 4 * k) = d.extractLsb' (32 * k) 32 :=
  State.foldl_store_stored pageDbg 0x100 (fun j => d.extractLsb' (32 * j) 32) hk s

/-! ### GO (R410) -/

/-- The port taken by an operation. -/
def State.dbgTaken (s : State) (direct : Bool) : State := { s with dbg := { s.dbg with busy := true, direct := direct, err := 0 } }

theorem State.dbgGo_of_error {s : State} {op : Nat} (h : s.dbgError op ≠ 0) :
    s.dbgGo op = ({ s with dbg := { s.dbg with err := s.dbgError op } } : State).raise pageDbg 0 := if_pos h

theorem State.dbgGo_of_sound {s : State} {op : Nat} (h : s.dbgError op = 0) : s.dbgGo op = (s.dbgTaken (op == 2 || op == 3)).dbgStart op :=
  if_neg (not_not_intro h)

/-- A debug request is a request of its own, under the next number. -/
theorem State.dbgRequest_state (s : State) (op : BitVec 4) : (s.dbgRequest op).dbg = s.dbg ∧ s.ids < (s.dbgRequest op).ids ∧
    (s.dbgRequest op).reqs.map Req.key = s.reqs.map Req.key ++ [(s.ids, srcDebug, 0, op)] ∧ (s.dbgRequest op).mem = s.mem := by
  have hfinish (t : State) (code : BitVec 4) := t.finishReq_keeps s.ids code
  have hledger (t : State) := t.toLedger_keeps s.ids
  unfold State.dbgRequest
  extract_lets a f beats src r rid t
  have hkeys : t.reqs.map Req.key = s.reqs.map Req.key ++ [(s.ids, srcDebug, 0, op)] := List.map_append
  have hids : s.ids < t.ids := Nat.lt_succ_self _
  split_ifs
  · exact ⟨(hfinish t _).p .dbg (by decide), hids.trans_le ((hfinish t _).idsGrow (by decide)).le, ((hfinish t _).p .reqList (by decide)).trans hkeys,
      (hfinish t _).p .mem (by decide)⟩
  · exact ⟨(hledger t).p .dbg (by decide), hids.trans_le (IdsGrow.toLedger t s.ids).le, ((hledger t).p .reqList (by decide)).trans hkeys,
      (hledger t).p .mem (by decide)⟩

section
variable {s : State} {c : Fin 80} (hslice : s.dbgSlice = some c)
include hslice

theorem State.directGet_of_slice : s.directGet = s.setDbgLine (s.rawLine c (fieldOf (s.stored pageDbg 0x04C) 26 0)) := by
  rw [State.directGet, hslice]

theorem State.directPut_of_slice : s.directPut = (s.setRawLine c (fieldOf (s.stored pageDbg 0x04C) 26 0)
    (mergeBytes (s.rawLine c (fieldOf (s.stored pageDbg 0x04C) 26 0)) s.dbgLine s.dbgBe)).touchGroup c := by
  rw [State.directPut, hslice]

end

/-- The mark of a slice's group is all that a touch changes. -/
theorem State.touchGroup_eq (s : State) (c : Fin 80) : s.touchGroup c = { s with dbg := { s.dbg with
    touched := if s.slices[c].health.mem.isSome then s.dbg.touched ||| (1#8 <<< s.slices[c].health.grp.val) else s.dbg.touched } } := by
  rw [State.touchGroup]
  split <;> rfl

theorem State.rawLine_touchGroup (s : State) (c d : Fin 80) (l : Nat) : (s.touchGroup c).rawLine d l = s.rawLine d l := by
  rw [State.touchGroup]
  split <;> rfl

/-! ### The end of an operation (R410) -/

theorem State.dbgFinish_of_direct {s : State} (hbusy : s.dbg.busy = true) (hdirect : s.dbg.direct = true) :
    s.dbgFinish = ({ s with dbg := { s.dbg with busy := false, direct := false, code := 0 } } : State).raise pageDbg 0 := by
  rw [State.dbgFinish, hbusy, hdirect]
  rfl

theorem State.dbgFinish_of_request {s : State} {r : Req} {code : BitVec 4} (hbusy : s.dbg.busy = true) (hdirect : s.dbg.direct = false)
    (hfind : (s.reqs.find? fun r => r.src == srcDebug) = some r) (hdone : r.phase = .done code) :
    s.dbgFinish.dbg.busy = false ∧ s.dbgFinish.dbg.code = code ∧ (s.dbgFinish.intRaw pageDbg).getLsbD 0 = true ∧
      s.dbgFinish.reqs = s.reqs.filter (fun q => q.rid != r.rid) ∧ s.dbgFinish.mem = s.mem := by
  unfold State.dbgFinish
  rw [if_neg (ne_false_of_eq_true hbusy), if_neg (Bool.eq_false_iff.1 hdirect), hfind]
  simp -zeta only [hdone]
  extract_lets t u poison
  have hu : u.reqs = t.reqs ∧ u.mem = t.mem := by
    unfold u
    split
    · split
      · exact ⟨(State.setDbgLine_keeps ..).p .reqs (by decide), (State.setDbgLine_keeps ..).p .mem (by decide)⟩
      · exact ⟨rfl, rfl⟩
    · exact ⟨rfl, rfl⟩
  exact ⟨rfl, rfl, State.raise_intRaw _ (by decide), hu.1, hu.2⟩

end Sys2Proof.Machine

namespace Sys2Proof.Proofs
open Sys2Proof.Machine

/-! ### The mailbox -/

/-- Settles O47: each ring is the one of the mailbox's checks that first decides it. -/
theorem mailboxRings : Obligations.MailboxRings := by
  intro v op c s hlive hpar
  refine ⟨fun hbusy hrow hmode => ?_, fun hbusy hop => ?_, fun hbusy hrow hmode => ?_, fun hbusy hrow => ?_, fun hbusy habort => ?_,
    congrArg Host.Outcome.next (State.whenLive_of_live hlive _)⟩
  · have hring (hop : Machine.opListed v op = true) (hquiet : op ≠ opDiagEnter ∧ op ≠ opDiagExit ∧ op ≠ opBist ∧ op ≠ opPattern) :
        s.ringOn v op (s.mboxArgs v) = s.mboxLatch v op (s.mboxArgs v) := by
      rw [State.ringOn_start hlive hpar hbusy hop (fun h => absurd h hquiet.1) hmode (State.opArgs_of_ne hquiet.2.2.2 ..), State.mboxStart_of_quiet hquiet]
    simp only [List.mem_cons, List.not_mem_nil, or_false, Prod.mk.injEq] at hrow
    obtain ⟨rfl, -, rfl⟩ | ⟨rfl, rfl, rfl⟩ | ⟨rfl, rfl, rfl⟩ := hrow
    · exact congrArg Host.Outcome.next (hring rfl (by decide))
    · exact congrArg Host.Outcome.next (hring (by decide) (by decide))
    · exact congrArg Host.Outcome.next (hring (by decide) (by decide))
  · have hself := State.mboxEnd_self (s.mboxLatch v op (s.mboxArgs v)) v 2 0 []
    rw [State.mboxLatch_self] at hself
    refine .of_eq (congrArg Host.Outcome.next (if_neg (Bool.eq_false_iff.1 hop))) (State.ringOn_of_unlisted hlive hpar hbusy hop) ?_
    exact ⟨by rw [hself], by rw [hself], by rw [hself], by rw [hself], by rw [hself], by rw [hself]; rfl, rfl⟩
  · have hself := State.mboxEnd_self (s.mboxLatch v op (s.mboxArgs v)) v 1 0xF []
    rw [State.mboxLatch_self] at hself
    have hring (hc : exec c s = .next (s.ringOn v op (s.mboxArgs v))) (hop : Machine.opListed v op = true) (hne : op ≠ opDiagEnter) :
        Completes c s fun t => t.vanes[v].busy = false ∧ t.vanes[v].doneBit = true ∧ t.vanes[v].code = 1 ∧ t.vanes[v].reason = 0xF ∧
          t.vanes[v].cmdCnt = satInc s.vanes[v].cmdCnt ∧ t.mode = s.mode ∧ t.mem = s.mem :=
      .of_eq hc (State.ringOn_refused hlive hpar hbusy hop hne hmode) ⟨by rw [hself], by rw [hself], by rw [hself], by rw [hself], by rw [hself], rfl, rfl⟩
    simp only [List.mem_cons, List.not_mem_nil, or_false, Prod.mk.injEq] at hrow
    obtain ⟨rfl, -, rfl⟩ | ⟨rfl, rfl, rfl⟩ | ⟨rfl, rfl, rfl⟩ | ⟨rfl, rfl, rfl⟩ := hrow
    · exact hring rfl rfl (by decide)
    · exact hring rfl (by decide) (by decide)
    · exact hring rfl (by decide) (by decide)
    · exact hring rfl (by decide) (by decide)
  · have hring (op : Byte) := State.ringOn_of_busy (op := op) (a := s.mboxArgs v) hlive hbusy
    simp only [List.mem_cons, List.not_mem_nil, or_false, Prod.mk.injEq] at hrow
    obtain ⟨rfl, -, -⟩ | ⟨rfl, rfl, -⟩ | ⟨rfl, rfl, -⟩ | ⟨rfl, rfl, -⟩ := hrow <;> exact congrArg Host.Outcome.next (hring _)
  · exact congrArg Host.Outcome.next ((State.whenLive_of_live hlive _).trans (if_pos (by rw [hbusy, habort]; rfl)))

/-! ### The debug port -/

section
variable {s : State} (hlive : s.pageLive pageDbg = true)
include hlive

theorem exec_dbgGo {k : Instr} {op : Nat} (h : (k, op) ∈ [(Instr.dbgRead, 0), (.dbgWrite, 1), (.directRead, 2), (.directWrite, 3)]) :
    exec k s = .next (s.dbgGo op) := by
  simp only [List.mem_cons, List.not_mem_nil, or_false, Prod.mk.injEq] at h
  obtain ⟨rfl, rfl⟩ | ⟨rfl, rfl⟩ | ⟨rfl, rfl⟩ | ⟨rfl, rfl⟩ := h <;> exact congrArg Host.Outcome.next (State.whenLive_of_live hlive _)

omit hlive in
theorem dbgGo_refused {k : Instr} {op : Nat} (hk : exec k s = .next (s.dbgGo op)) (herr : s.dbgError op ≠ 0) :
    Completes k s fun t => t.dbg = { s.dbg with err := s.dbgError op } ∧ (t.intRaw pageDbg).getLsbD 0 = true ∧ t.mem = s.mem ∧ t.reqs = s.reqs :=
  .of_eq hk (State.dbgGo_of_error herr) ⟨rfl, State.raise_intRaw _ (by decide), rfl, rfl⟩

theorem dbgGo_requests {k : Instr} {op : BitVec 4} (h : (k, op) ∈ [(Instr.dbgRead, opcRead), (.dbgWrite, opcWrite)]) (herr : s.dbgError op.toNat = 0) :
    Completes k s fun t => t.dbg = { s.dbg with busy := true, direct := false, err := 0 } ∧ s.ids < t.ids ∧
      t.reqs.map Req.key = s.reqs.map Req.key ++ [(s.ids, srcDebug, 0, op)] ∧ t.mem = s.mem := by
  simp only [List.mem_cons, List.not_mem_nil, or_false, Prod.mk.injEq] at h
  obtain ⟨rfl, rfl⟩ | ⟨rfl, rfl⟩ := h
  · exact .of_eq (exec_dbgGo hlive (op := 0) (by decide)) (State.dbgGo_of_sound herr) ((s.dbgTaken false).dbgRequest_state opcRead)
  · exact .of_eq (exec_dbgGo hlive (op := 1) (by decide)) (State.dbgGo_of_sound herr) ((s.dbgTaken false).dbgRequest_state opcWrite)

section
variable {c : Fin 80} (hslice : s.dbgSlice = some c)
include hslice

theorem directRead_reads (herr : s.dbgError 2 = 0) :
    Completes .directRead s fun t => t.dbg = { s.dbg with busy := true, direct := true, err := 0 } ∧ t.mem = s.mem ∧
      ∀ k < 16, t.stored pageDbg (0x100 + 4 * k) = (s.rawLine c (fieldOf (s.stored pageDbg 0x04C) 26 0)).extractLsb' (32 * k) 32 := by
  have hget : (s.dbgTaken true).directGet = (s.dbgTaken true).setDbgLine (s.rawLine c (fieldOf (s.stored pageDbg 0x04C) 26 0)) :=
    State.directGet_of_slice hslice
  refine .of_eq (exec_dbgGo hlive (op := 2) (by decide)) ((State.dbgGo_of_sound herr).trans hget) ?_
  exact ⟨(State.setDbgLine_keeps ..).p .dbg (by decide), (State.setDbgLine_keeps ..).p .mem (by decide), fun k hk => State.setDbgLine_stored _ _ hk⟩

theorem directWrite_writes (herr : s.dbgError 3 = 0) (hwf : Memory.wf s.mem = true) :
    let l := fieldOf (s.stored pageDbg 0x04C) 26 0
    Completes .directWrite s fun t => t.dbg.busy = true ∧ t.dbg.direct = true ∧ t.dbg.err = 0 ∧
      t.rawLine c l = mergeBytes (s.rawLine c l) s.dbgLine s.dbgBe ∧
      (∀ m, s.slices[c].health.mem = some m → t.dbg.touched = s.dbg.touched ||| (1#8 <<< s.slices[c].health.grp.val)) ∧
      ∀ a, (a < sliceByte c (64 * l) ∨ sliceByte c (64 * l) + 64 ≤ a) → Memory.read t.mem a = Memory.read s.mem a := by
  intro l
  have hput : (s.dbgTaken true).directPut = ((s.dbgTaken true).setRawLine c l (mergeBytes (s.rawLine c l) s.dbgLine s.dbgBe)).touchGroup c :=
    State.directPut_of_slice hslice
  have hread (a : Nat) := State.setRawLine_read_other (s := s.dbgTaken true) hwf c l (mergeBytes (s.rawLine c l) s.dbgLine s.dbgBe) (a := a)
  have hline := State.rawLine_setRawLine_same (s := s.dbgTaken true) hwf c l (mergeBytes (s.rawLine c l) s.dbgLine s.dbgBe)
  refine .of_eq (exec_dbgGo hlive (op := 3) (by decide)) ((State.dbgGo_of_sound herr).trans hput) ?_
  rw [State.rawLine_touchGroup, State.touchGroup_eq]
  refine ⟨rfl, rfl, rfl, hline, fun m hm => if_pos (congrArg Option.isSome hm), ?_⟩
  dsimp only
  exact hread

end

end

/-- Settles O49: GO by the error it finds, the four operations, and the two ends. -/
theorem debugPort : Obligations.DebugPort := by
  intro c r code s
  refine ⟨fun hlive => ⟨fun k op hk => dbgGo_refused (exec_dbgGo hlive hk), fun k op hk => dbgGo_requests hlive hk, fun hslice => ?_,
    congrArg Host.Outcome.next (State.whenLive_of_live hlive _)⟩, fun hbusy hdirect => ?_, fun hbusy hdirect hfind hdone => ?_⟩
  · exact ⟨directRead_reads hlive hslice, directWrite_writes hlive hslice⟩
  · exact .of_eq rfl (State.dbgFinish_of_direct hbusy hdirect) ⟨rfl, State.raise_intRaw _ (by decide), rfl⟩
  · exact ⟨_, rfl, State.dbgFinish_of_request hbusy hdirect hfind hdone⟩

end Sys2Proof.Proofs
end

section
/-!
A save (O37). Chunks of the reserve that are still void are void no more once a copy lies on them (R199), and the group's void map is written
again to say so: a save then writes other stripes than those of its two copies.
-/
namespace Sys2Proof.Machine

/-- A byte of a slice on which nothing of a range is laid stands as the range is laid. -/
theorem State.mem_clearLaid_of_unmarked {s : State} {x : Laid} {covers : Nat → Bool} {e : Host.Cell} (h : e ∈ s.mem)
    (hmark : (x.marks.any fun k => k.2.1.val == e.1 / 2 ^ 33) = false) : e ∈ (s.clearLaid x covers).mem := by
  refine List.mem_filter.2 ⟨h, ?_⟩
  rw [hmark]
  rfl

end Sys2Proof.Machine

namespace Sys2Proof.Proofs
open Sys2Proof.Machine

/-- A byte of slice 8 in the void map of group 0. -/
def mapCell : Host.Cell := (8 * 2 ^ 33 + 64 * 16680896, 1)

/-- A Squall whose save is due: the first chunks of the reserve are void, and of the devices' bytes one of the void map has been written. With
NGRP 0 the copies lie on slices 0 to 7. -/
def savingVoid : State := { inRun.store pageTel 0x040 0 with
  squall := { Squall.reset with active := true, save := true, token := true, drained := true }
  slices := inRun.slices.map fun x => { x with power := .active }
  hubs := inRun.hubs.map fun h => { h with voids := [(2025408, 2025410)] }
  mem := [mapCell] }

theorem savingVoid_ready : savingVoid.saveReady = true := by decide +kernel

/-- The save has laid the void map over that byte. -/
theorem savingVoid_saveCopies_mem : savingVoid.saveCopies.mem = [] := by decide +kernel

/-- Neither copy lies on slice 8. -/
theorem savingVoid_saveCopies_marks :
    (savingVoid.saveCopies.keepA.any fun k => k.at_.marks.any fun x => x.2.1.val == mapCell.1 / 2 ^ 33) = false ∧
      (savingVoid.saveCopies.keepB.any fun k => k.at_.marks.any fun x => x.2.1.val == mapCell.1 / 2 ^ 33) = false := by
  decide +kernel

theorem exec_saveHeaderWrite_savingVoid : exec .saveHeaderWrite savingVoid = .next savingVoid.saveCopies := by
  have hsettle : savingVoid.settleWarm = savingVoid := if_neg (by decide)
  show Host.Outcome.next (if savingVoid.settleWarm.saveReady then _ else _) = _
  rw [hsettle, if_pos savingVoid_ready]

/-- Refutes O37: where a chunk of the reserve is void, a save lays the group's void map too, and a byte that stood there is gone with it, on a
slice that holds neither copy. -/
theorem not_squallSteps : ¬ Obligations.SquallSteps := by
  unfold Obligations.SquallSteps
  intro h
  obtain ⟨-, -, hsave, -⟩ := h 0 0 savingVoid
  obtain ⟨t, ht, -, a, b, ha, hb, hmem, -⟩ := hsave rfl savingVoid_ready
  obtain rfl : savingVoid.saveCopies = t := by simpa [exec_saveHeaderWrite_savingVoid] using ht
  obtain ⟨hmarkA, hmarkB⟩ := savingVoid_saveCopies_marks
  rw [ha] at hmarkA
  rw [hb] at hmarkB
  have hcell : mapCell ∈ savingVoid.mem := List.mem_singleton.2 rfl
  have hkept := State.mem_clearLaid_of_unmarked (covers := b.covers) (State.mem_clearLaid_of_unmarked (covers := a.covers) hcell hmarkA) hmarkB
  rw [← hmem, savingVoid_saveCopies_mem] at hkept
  exact List.not_mem_nil hkept

end Sys2Proof.Proofs
end

section
/-!
The always-on supply (O32) and test access (O55): a pass over all slices, a brown-out in HOLD-UP and outside it, and the TAP's instructions
(R291 to R293, R335, R500 to R503).
-/
namespace Sys2Proof.Machine

/-! ### A pass over all slices -/

/-- A pass that changes each slice that it visits by itself, and leaves the others. -/
theorem State.foldl_slices {f : State → Fin 80 → State} {g : Slice → Slice} (hself : ∀ s c, (f s c).slices[c] = g s.slices[c])
    (hother : ∀ s (c d : Fin 80), d ≠ c → (f s c).slices[d] = s.slices[d]) {l : List (Fin 80)} (hl : l.Nodup) (s : State) (c : Fin 80) :
    (l.foldl f s).slices[c] = if c ∈ l then g s.slices[c] else s.slices[c] := by
  induction l generalizing s with
  | nil => rfl
  | cons d l ih =>
    obtain ⟨hd, hl⟩ := List.nodup_cons.1 hl
    rw [List.foldl_cons, ih hl]
    by_cases hc : c = d
    · subst hc
      rw [if_neg hd, if_pos List.mem_cons_self, hself]
    · rw [hother _ _ _ hc]
      simp only [List.mem_cons, hc, false_or]

theorem State.foldl_allSlices {f : State → Fin 80 → State} {g : Slice → Slice} (hself : ∀ s c, (f s c).slices[c] = g s.slices[c])
    (hother : ∀ s (c d : Fin 80), d ≠ c → (f s c).slices[d] = s.slices[d]) (s : State) (c : Fin 80) :
    (allSlices.foldl f s).slices[c] = g s.slices[c] :=
  (State.foldl_slices hself hother (List.nodup_finRange 80) s c).trans (if_pos (List.mem_finRange c))

/-! ### A brown-out (R292, R293, R335) -/

/-- The always-on domain after a brown-out, before the slices lose what it held for them. -/
def State.aoLost (s : State) : State :=
  { s with
    ao := { AlwaysOn.reset with vbkLow := s.ao.vbkLow, lost := s.ao.lost }
    pins := { s.pins with aoValid := false }
    squall := { s.squall with token := false, doneSent := false, tokenSeen := 0, peerDone := 0, heard := 0 }
    brz := { s.brz.resetCopies.clearCounts with
      wires := Breeze.reset.wires, pulls := Breeze.reset.pulls, sent := [], busy := false, joined := false, stuck := false, txDone := false
      txToken := false, replies := [], txHint := none, retries := Vector.replicate 5 0 } }

/-- The snapshots of every slice lost. -/
def State.loseAllSnaps (s : State) : State := allSlices.foldl (fun (s : State) (c : Fin 80) => s.modTrain c Train.loseSnaps) s

theorem State.brownOut_eq (s : State) : s.brownOut =
    if s.aoLost.loseAllSnaps.loseLatches.mode.mode = .holdUp then s.aoLost.loseAllSnaps.loseLatches.coldState else s.aoLost.loseAllSnaps.loseLatches := rfl

/-- The rest of a brown-out reaches the slices and their latched registers alone. -/
theorem State.loseAllSnaps_loseLatches_keeps (s : State) : Keeps 0x800bc0 s s.loseAllSnaps.loseLatches :=
  (s.loseAllSnaps.loseLatches_keeps).on ((Keeps.foldl .rfl' fun u c => u.modTrain_keeps c Train.loseSnaps).mono (by decide)) (by decide)

theorem State.loseAllSnaps_snapValid (s : State) (c : Fin 80) : s.loseAllSnaps.slices[c].train.snapValid = 0 := by
  have hslice : s.loseAllSnaps.slices[c] = { s.slices[c] with train := s.slices[c].train.loseSnaps } :=
    State.foldl_allSlices (g := fun x => { x with train := x.train.loseSnaps }) (fun s c => s.modSlice_self c _) (fun s c d hd => s.modSlice_other c d _ hd) s c
  rw [hslice]
  rfl

/-- A slice's latches say nothing of its snapshots. -/
theorem State.loseLatch_snapValid (s : State) (c d : Fin 80) : (s.loseLatch c).slices[d].train.snapValid = s.slices[d].train.snapValid := by
  rw [State.loseLatch, State.modSlice_getElem]
  split
  next h =>
    subst h
    rfl
  next => rfl

/-- The latches of a slice lost, where its logic is off in S2. -/
def State.loseLatchOff (s : State) (c : Fin 80) : State :=
  if s.slices[c].on = false ∧ s.role c ≠ roleUnused ∧ s.role c ≠ roleUnavailable then s.loseLatch c else s

theorem State.loseLatches_eq (s : State) : s.loseLatches = if s.pwr.asleep ≠ 2 then s else allSlices.foldl State.loseLatchOff s := rfl

theorem State.foldl_loseLatchOff_snapValid (l : List (Fin 80)) (s : State) (d : Fin 80) :
    (l.foldl State.loseLatchOff s).slices[d].train.snapValid = s.slices[d].train.snapValid := by
  induction l generalizing s with
  | nil => rfl
  | cons c l ih =>
    rw [List.foldl_cons, ih, State.loseLatchOff]
    split
    · exact s.loseLatch_snapValid c d
    · rfl

theorem State.loseLatches_snapValid (s : State) (d : Fin 80) : s.loseLatches.slices[d].train.snapValid = s.slices[d].train.snapValid := by
  by_cases h : s.pwr.asleep ≠ 2
  · rw [State.loseLatches_eq, if_pos h]
  · rw [State.loseLatches_eq, if_neg h]
    exact State.foldl_loseLatchOff_snapValid allSlices s d

section
variable {s : State}

/-- A brown-out outside HOLD-UP. -/
theorem State.brownOut_of_up (h : s.mode.mode ≠ .holdUp) : Keeps 0x800bc0 s.aoLost s.brownOut ∧ ∀ c : Fin 80, s.brownOut.slices[c].train.snapValid = 0 := by
  have hkeeps := s.aoLost.loseAllSnaps_loseLatches_keeps
  have hmode : s.aoLost.loseAllSnaps.loseLatches.mode = s.mode := hkeeps.p .mode (by decide)
  rw [State.brownOut_eq, hmode, if_neg h]
  exact ⟨hkeeps, fun c => (State.loseLatches_snapValid ..).trans (State.loseAllSnaps_snapValid ..)⟩

/-- The core off, in a cold bring-up. -/
theorem State.coldState_state (s : State) : s.coldState.mode.mode = .bringUp ∧ s.coldState.mode.buKind = .cold ∧ s.coldState.mode.coldLow = true ∧
    s.coldState.pwr.coreOn = false ∧ s.coldState.squall.active = false ∧ s.coldState.pins.aoValid = s.pins.aoValid := by
  have hmode (t : State) : (t.setMode .bringUp).mode.mode = .bringUp := by
    rw [State.setMode]
    split
    · assumption
    · rfl
  have hpins (t : State) : (t.setMode .bringUp).pins = t.pins := by
    rw [State.setMode]
    split <;> rfl
  have hotp : s.otpInterrupt.pins = s.pins := s.otpInterrupt_keeps.p .pins (by decide)
  have hvalid : ((s.otpInterrupt.coreReset .cold).setMode .bringUp).pins.aoValid = s.pins.aoValid := congrArg Pins.aoValid ((hpins _).trans hotp)
  exact ⟨hmode _, rfl, rfl, rfl, rfl, hvalid⟩

theorem State.brownOut_of_holdUp (h : s.mode.mode = .holdUp) : s.brownOut = s.aoLost.loseAllSnaps.loseLatches.coldState := by
  have hmode : s.aoLost.loseAllSnaps.loseLatches.mode = s.mode := s.aoLost.loseAllSnaps_loseLatches_keeps.p .mode (by decide)
  rw [State.brownOut_eq, hmode, if_pos h]

end

end Sys2Proof.Machine

namespace Sys2Proof.Proofs
open Sys2Proof.Machine

/-! ### Supplies -/

theorem brownOut_up {s : State} (h : s.mode.mode ≠ .holdUp) :
    Completes .brownOut s fun t => t.pins.aoValid = false ∧ t.ao = { AlwaysOn.reset with vbkLow := s.ao.vbkLow, lost := s.ao.lost } ∧
      (∀ c : Fin 80, t.slices[c].train.snapValid = 0) ∧ t.mem = s.mem ∧ t.mode = s.mode := by
  obtain ⟨hkeeps, hsnaps⟩ := State.brownOut_of_up h
  exact ⟨_, rfl, congrArg Pins.aoValid (hkeeps.p .pins (by decide)), hkeeps.ao_eq (by decide) (by decide), hsnaps, hkeeps.p .mem (by decide),
    hkeeps.p .mode (by decide)⟩

theorem brownOut_holdUp {s : State} (h : s.mode.mode = .holdUp) :
    Completes .brownOut s fun t => t.pins.aoValid = false ∧ t.mode.mode = .bringUp ∧ t.mode.buKind = .cold ∧ t.mode.coldLow = true ∧
      t.pwr.coreOn = false ∧ t.squall.active = false ∧ t.mem = s.mem := by
  have hkeeps := s.aoLost.loseAllSnaps_loseLatches_keeps
  obtain ⟨hmode, hkind, hlow, hcore, hactive, hvalid⟩ := s.aoLost.loseAllSnaps.loseLatches.coldState_state
  have hmem := (s.aoLost.loseAllSnaps.loseLatches.coldState_keeps.p .mem (by decide)).trans (hkeeps.p .mem (by decide))
  exact .of_eq rfl (State.brownOut_of_holdUp h) ⟨hvalid.trans (congrArg Pins.aoValid (hkeeps.p .pins (by decide))), hmode, hkind, hlow, hcore, hactive, hmem⟩

theorem switchover_counts {s : State} (h : s.ao.onVbk = false) :
    Completes .switchover s fun t => t.ao = { s.ao with onVbk := true, swover := satInc s.ao.swover } ∧
      (s.pwr.coreOn = true → (t.intRaw pagePwr).getLsbD 5 = true) := by
  refine .of_eq rfl (if_neg (Bool.eq_false_iff.1 h)) ⟨?_, fun hon => ?_⟩
  · cases hon : s.pwr.coreOn <;> rfl
  · rw [hon]
    exact State.raise_intRaw _ (by decide)

theorem vbkLow_follows (low : Bool) (s : State) :
    Completes (.vbkLow low) s fun t => t.ao = { s.ao with vbkLow := low } ∧
      (low = true → s.ao.vbkLow = false → s.pwr.coreOn = true → (t.intRaw pagePwr).getLsbD 6 = true) := by
  refine ⟨s.setVbkLow low, rfl, ?_, fun hlow hwas hon => ?_⟩
  · rw [State.setVbkLow, State.raiseIf]
    split <;> rfl
  · rw [State.setVbkLow, hlow, hwas, hon]
    exact State.raise_intRaw _ (by decide)

/-- Settles O32: each event of the supply is one step of the always-on domain, and each command clears its own fields. -/
theorem supplyCommands : Obligations.SupplyCommands := by
  intro s
  refine ⟨switchover_counts, fun h => ?_, brownOut_up, brownOut_holdUp, fun low => vbkLow_follows low s, fun hlive => ?_⟩
  · have hreturns : ¬(s.ao.lpMode && !s.mode.refWait) = true := by
      rcases h with hlp | hwait
      · rw [hlp, Bool.false_and]
        decide
      · rw [hwait]
        simp
    exact congrArg Host.Outcome.next (if_neg hreturns)
  · have hrun (f : State → State) : Host.Outcome.next (s.whenLive pagePwr f) = (.next (f s) : Host.Outcome State Fault Refusal) :=
      congrArg Host.Outcome.next (State.whenLive_of_live hlive f)
    exact ⟨⟨_, hrun _, rfl, rfl, rfl, rfl⟩, hrun _, ⟨_, hrun _, s.setCap_pwr 0, (s.setCap_keeps 0).p .pins (by decide)⟩, hrun _⟩

/-! ### Test access -/

section
variable {s : State} (hon : s.tapOn = true)
include hon

theorem loadIr_idcode : s.loadIr irIdcode = s.selectDr irIdcode s.idcode 32 := if_neg (ne_false_of_eq_true hon)

/-- An instruction that acts as BYPASS, or as CLAMP or HIGHZ, selects the one-bit register. -/
theorem loadIr_of_short {ir : Byte} (h : s.tapActs ir ∉ [irIdcode, irRegacc, irSample, irExtest]) : s.loadIr ir = s.selectDr ir 0 1 := by
  simp only [List.mem_cons, List.not_mem_nil, or_false, not_or] at h
  obtain ⟨hid, hreg, hsample, hextest⟩ := h
  rw [State.loadIr, if_neg (ne_false_of_eq_true hon)]
  exact (if_neg hid).trans ((if_neg hreg).trans (if_neg (not_or_intro hsample hextest)))

/-- One that acts on the boundary register selects it, and its cells are free values. -/
theorem loadIr_of_boundary {ir : Byte} (h : s.tapActs ir = irSample ∨ s.tapActs ir = irExtest) :
    s.loadIr ir = (s.selectDr ir (s.freeVal 54) Config.boundaryLen).tookFree := by
  have hother : s.tapActs ir ≠ irIdcode ∧ s.tapActs ir ≠ irRegacc := by
    rcases h with h | h <;> rw [h] <;> decide
  rw [State.loadIr, if_neg (ne_false_of_eq_true hon)]
  exact (if_neg hother.1).trans ((if_neg hother.2).trans (if_pos h))

theorem regacc_eq (dr : RegaccDr) {a : Access} {u : State}
    (ha : a = ⟨dr.word.extractLsb' 33 20, 2, toLanes (dr.word.extractLsb' 33 20) (dr.word.extractLsb' 0 32), dr.word.getLsbD 32 && !s.feature 1, 0x18⟩)
    (hu : u = if dr.word.getLsbD 53 then (s.respondPort 0 false).regWrite a else (s.respondPort 0 false).regReadAccess a dr.parityFault) :
    s.regacc dr =
      let x : TestAccess := { u.test with rerr := u.regs.rerr, rdAddr := a.addr, rdData := laneWord a.addr u.regs.rdata }
      ({ u.respondPort s.regs.rdata s.regs.rerr with test := x } : State).selectDr irRegacc x.capture 54 := by
  subst ha hu
  exact if_neg (ne_false_of_eq_true hon)

end

/-- CLAMP, HIGHZ and BYPASS act as themselves or as BYPASS. -/
theorem tapActs_short (s : State) : ∀ ir ∈ [irClamp, irHighz, irBypass], s.tapActs ir ∉ [irIdcode, irRegacc, irSample, irExtest] := by
  unfold State.tapActs
  cases s.mode.coldLow <;> decide

/-- Settles O55: an instruction selects the register that it acts as, REGACC is the port's access with its response put back, and a scan is a
brown-out. -/
theorem testAccessCommands : Obligations.TestAccessCommands := by
  intro dr s hon
  refine ⟨fun c hc => ?_, ?_, ?_, fun hlow => ?_, fun hlow => ?_, fun p hp => ?_, fun a u ha hu => ?_, congrArg Host.Outcome.next (if_pos hon),
    fun hlow hmode => ?_, fun hlow => congrArg Host.Outcome.next (if_neg (by rw [hlow, Bool.and_false]; decide))⟩
  · simp only [List.mem_cons, List.not_mem_nil, or_false] at hc
    rcases hc with rfl | rfl <;> exact congrArg Host.Outcome.next (loadIr_idcode hon)
  · rw [State.idcode, BitVec.getLsbD_or]
    exact Bool.or_eq_true_iff.2 (.inr (by decide))
  · exact .of_eq rfl (loadIr_of_boundary hon (.inl rfl)) ⟨rfl, rfl, rfl, rfl⟩
  · have hacts : s.tapActs irExtest = irExtest := by rw [State.tapActs, hlow]; decide
    exact .of_eq rfl (loadIr_of_boundary hon (.inr hacts)) ⟨rfl, rfl, rfl⟩
  · have hacts : s.tapActs irExtest = irBypass := by rw [State.tapActs, hlow]; decide
    exact congrArg Host.Outcome.next (loadIr_of_short hon (by rw [hacts]; decide))
  · have hshort := tapActs_short s
    simp only [List.mem_cons, List.not_mem_nil, or_false] at hp
    rcases hp with rfl | rfl | rfl <;> exact congrArg Host.Outcome.next (loadIr_of_short hon (hshort _ (by decide)))
  · exact .of_eq rfl (regacc_eq hon dr ha hu) ⟨rfl, rfl, rfl, rfl, rfl, rfl, rfl⟩
  · obtain ⟨hkeeps, -⟩ := State.brownOut_of_up (s := { s with test := { s.test with scan := true } }) hmode
    refine ⟨_, congrArg Host.Outcome.next (if_pos (by rw [hon, hlow]; rfl)), ?_⟩
    exact ⟨congrArg TestAccess.scan (hkeeps.p .test (by decide)), congrArg Pins.aoValid (hkeeps.p .pins (by decide)),
      hkeeps.ao_eq (by decide) (by decide), hkeeps.p .mem (by decide)⟩

end Sys2Proof.Proofs
end

section
/-! The monitors (O27): temperatures and pace readings as they are read, and the step of the pace offset (R299, R300, R303). -/
namespace Sys2Proof.Machine

/-- The two temperatures of a monitor's update, noted. -/
def State.readTemps (s : State) (c : Fin 80) (sliceT coreT : BitVec 8) : State :=
  ({ s with pwr := { s.pwr with coreTemp := coreT } }).modTrain c fun x => { x with tempNow := sliceT }

/-- The Lull that a drift of temperature asks for. -/
def State.driftLull (s : State) (c : Fin 80) (sliceT : BitVec 8) : State :=
  if s.cfgField (pageCh c) 0x104 21 18 ≠ 0 ∧ s.cfgField (pageCh c) 0x104 21 18 ≤ (degC sliceT - degC s.slices[c].train.temp).natAbs then s.requestLull c else s

/-- What THERM_HI does: it is raised as it sets, and lowers the cap each second while it stands (R300). -/
def State.thermAct (s old : State) : State :=
  if s.thermHi = false then s
  else if old.thermHi = false then s.noteTherm old
  else if s.cfgBit pagePwr 0x040 3 && decide (s.pwr.thermT.toNat + 1000000 ≤ s.tb.toNat) then ({ s with pwr := { s.pwr with thermT := s.tb } }).capSlower
  else s

theorem exec_thermalMonitorUpdate (c : Fin 80) (sliceT coreT : BitVec 8) (s : State) :
    exec (.thermalMonitorUpdate c sliceT coreT) s = .next (((s.readTemps c sliceT coreT).driftLull c sliceT).thermAct s) := rfl

section
variable (s : State) (c : Fin 80) (sliceT coreT : BitVec 8)

theorem State.requestLull_tempNow : (s.requestLull c).slices[c].train.tempNow = s.slices[c].train.tempNow := by
  by_cases h : s.slices[c].refreshes = false
  · rw [State.requestLull, if_pos h]
  · rw [State.requestLull_train (eq_true_of_ne_false h)]

/-- A Lull asked for at a slice without a flush leaves memory. -/
theorem State.requestLull_mem (h : s.slices[c].sched.flushing = false) : (s.requestLull c).mem = s.mem := by
  refine CkKept.mem (CkKept.ite (fun _ => .refl s) fun _ => CkKept.trans (.modTrain s c _) (.ite (fun _ => .refl _) fun _ => State.orderDrain_ckKept fun hf => ?_))
  rw [State.modTrain_sched, h] at hf
  contradiction

theorem State.driftLull_tempNow : (s.driftLull c sliceT).slices[c].train.tempNow = s.slices[c].train.tempNow := by
  unfold State.driftLull
  split
  · exact s.requestLull_tempNow c
  · rfl

theorem State.driftLull_mem (h : s.slices[c].sched.flushing = false) : (s.driftLull c sliceT).mem = s.mem := by
  unfold State.driftLull
  split
  · exact s.requestLull_mem c h
  · rfl

theorem State.driftLull_pwr : (s.driftLull c sliceT).pwr = s.pwr := by
  unfold State.driftLull
  split
  · exact (s.requestLull_keeps c).p .pwr (by decide)
  · rfl

theorem State.readTemps_tempNow : (s.readTemps c sliceT coreT).slices[c].train.tempNow = sliceT :=
  congrArg Train.tempNow (State.modTrain_self _ c _)

theorem State.readTemps_flushing : (s.readTemps c sliceT coreT).slices[c].sched.flushing = s.slices[c].sched.flushing :=
  congrArg Sched.flushing (State.modTrain_sched _ c _)

variable (old : State)

theorem State.noteTherm_coreTemp : (s.noteTherm old).pwr.coreTemp = s.pwr.coreTemp := by
  unfold State.noteTherm
  split
  · rw [(State.raise_keeps ..).p .pwr (by decide)]
  · rfl

theorem State.capSlower_coreTemp : s.capSlower.pwr.coreTemp = s.pwr.coreTemp := by rw [State.capSlower, State.setCap_pwr]

/-- The cap and the time of THERM_HI change nothing else that a monitor reads, and no slice. -/
theorem State.thermAct_kept : (s.thermAct old).pwr.coreTemp = s.pwr.coreTemp ∧ (s.thermAct old).slices = s.slices ∧ (s.thermAct old).mem = s.mem := by
  unfold State.thermAct
  split_ifs
  · exact ⟨rfl, rfl, rfl⟩
  · exact ⟨s.noteTherm_coreTemp old, (s.noteTherm_keeps old).p .slices (by decide), (s.noteTherm_keeps old).p .mem (by decide)⟩
  · exact ⟨State.capSlower_coreTemp _, (State.capSlower_keeps _).p .slices (by decide), (State.capSlower_keeps _).p .mem (by decide)⟩
  · exact ⟨rfl, rfl, rfl⟩

end

end Sys2Proof.Machine

namespace Sys2Proof.Proofs
open Sys2Proof.Machine

theorem thermalMonitorUpdate_completes (c : Fin 80) (sliceT coreT : BitVec 8) (s : State) :
    Completes (.thermalMonitorUpdate c sliceT coreT) s fun t => t.pwr.coreTemp = coreT ∧ t.slices[c].train.tempNow = sliceT ∧
      (s.slices[c].sched.flushing = false → t.mem = s.mem) := by
  obtain ⟨hcore, hslices, hmem⟩ := State.thermAct_kept ((s.readTemps c sliceT coreT).driftLull c sliceT) s
  refine ⟨_, exec_thermalMonitorUpdate c sliceT coreT s, ?_, ?_, fun hflush => ?_⟩
  · rw [hcore, State.driftLull_pwr]; rfl
  · rw [hslices, State.driftLull_tempNow, State.readTemps_tempNow]
  · rw [hmem, State.driftLull_mem _ _ _ ((s.readTemps_flushing ..).trans hflush)]; rfl

theorem paceMonitorUpdate_completes (mon : Fin 16) (mhz : BitVec 11) (s : State) :
    Completes (.paceMonitorUpdate mon mhz) s fun t => t.pwr.paceMhz = s.pwr.paceMhz.set mon mhz ∧ t.pwr.paceSeen = s.pwr.paceSeen ||| (1#16 <<< mon.val) ∧
      t.slices = s.slices := by
  have hkept := State.notePace_keeps { s with pwr := { s.pwr with paceMhz := s.pwr.paceMhz.set mon mhz, paceSeen := s.pwr.paceSeen ||| (1#16 <<< mon.val) } } s
  have hpwr := hkept.p .pwr (by decide)
  exact ⟨_, rfl, congrArg Power.paceMhz hpwr, congrArg Power.paceSeen hpwr, hkept.p .slices (by decide)⟩

theorem paceOffsetStep_up {s : State} (hact : s.paceAct ≠ 0) (hlow : s.paceLow = true) (hroom : s.pwr.vofs.toNat < 5) :
    exec .paceOffsetStep s = .next { s with pwr := { s.pwr with vofs := s.pwr.vofs + 1 }, pins := { s.pins with coreVid := s.pins.coreVid + 1 } } := by
  have hstep : s.paceStep = s.moveOffset true := by rw [State.paceStep, if_neg hact, if_pos hlow, if_pos hroom]
  exact congrArg Host.Outcome.next hstep

/-- Settles O27: a Lull for the drift, the cap and the pace's interrupt leave the readings as they were noted. -/
theorem monitorReadings : Obligations.MonitorReadings := by
  intro c sliceT coreT mon mhz s
  exact ⟨thermalMonitorUpdate_completes c sliceT coreT s, paceMonitorUpdate_completes mon mhz s, paceOffsetStep_up⟩

end Sys2Proof.Proofs
end

section
/-! Asking for a sleep state (O33): the requests, the answers of the domains, and the rollback (R305 to R311). -/
namespace Sys2Proof.Machine

/-! ### The requests (R305 to R307) -/

/-- The state that PWR_DOORBELL asks for is S0 where the field reads zero. -/
theorem State.doorbellTarget_eq_zero_iff (s : State) :
    BitVec.ofNat 2 (s.cfgField pagePwr 0x044 1 0) = 0 ↔ s.cfgField pagePwr 0x044 1 0 = 0 := by
  have hlt : s.cfgField pagePwr 0x044 1 0 < 2 ^ 2 := Nat.mod_lt _ (by decide)
  rw [BitVec.ofNat_eq_ofNat, ← BitVec.toNat_inj, BitVec.toNat_ofNat, Nat.mod_eq_of_lt hlt]
  rfl

section
variable {s : State}

theorem State.doorbell_of_awake (h : s.pwr.phase = .awake) : s.doorbell =
    if BitVec.ofNat 2 (s.cfgField pagePwr 0x044 1 0) = 0 then { s with pwr := { s.pwr with result := 5 } }
    else s.startVote (BitVec.ofNat 2 (s.cfgField pagePwr 0x044 1 0)) .doorbell := by
  unfold State.doorbell
  simp only [h]

theorem State.doorbell_of_voting (h : s.pwr.phase ∈ [SleepPhase.prepare1, .prepare2, .rollback]) :
    s.doorbell = { s with pwr := { s.pwr with result := 3 } } := by
  unfold State.doorbell
  simp only [List.mem_cons, List.not_mem_nil, or_false] at h
  obtain h | h | h := h <;> simp only [h]

theorem State.pwrReqUp_of_awake (st : BitVec 2) (hlow : s.pins.pwrReq = false) (h : s.pwr.phase = .awake) (hon : s.pwr.coreOn = true) :
    s.pwrReqUp st = ({ s with pins := { s.pins with pwrReq := true, pwrReqState := st } }).startVote st .pwrReq := by
  unfold State.pwrReqUp
  simp only [hlow, Bool.false_eq_true, if_false, h, hon, if_true]

theorem State.pwrReqDown_of_awake (hhigh : s.pins.pwrReq = true) (h : s.pwr.phase = .awake) : s.pwrReqDown =
    { s with pins := { s.pins with pwrReq := false, pwrAck := false, pwrNack := false }, pwr := { s.pwr with reqWaits := false } } := by
  have hup : ¬ s.pins.pwrReq = false := by rw [hhigh]; nofun
  have hawake : ¬ ((s.pwr.phase = .asleep ∨ s.pwr.phase = .entering) ∧ s.pins.pwrAck = true ∧ s.pins.pwrNack = false) := by
    rw [h]
    rintro ⟨hsleep | hsleep, -⟩ <;> cases hsleep
  unfold State.pwrReqDown
  exact (if_neg hup).trans (if_neg hawake)

/-! ### The answers (R308, R309) -/

theorem State.takeAgree_slices (s : State) (d : Fin 100) : (s.takeAgree d).slices = s.slices := by
  unfold State.takeAgree
  split <;> rfl

theorem State.takeAgree_mode (s : State) (d : Fin 100) : (s.takeAgree d).mode = s.mode := by
  unfold State.takeAgree
  split <;> rfl

theorem State.takeAgree_paused (s : State) (d : Fin 100) : (s.takeAgree d).ledger.paused = (s.ledger.paused || d.val == 89) := by
  unfold State.takeAgree
  split
  case isTrue h => simp [h]
  case isFalse h => simp [beq_false_of_ne h]

/-- While a domain is still asked, no tier ends. -/
theorem State.voteCommit_of_asked (h : s.pwr.asked ≠ 0) : s.votePromote.voteCommit = s := by
  have hpromote : s.votePromote = s := if_neg fun ⟨_, hnone, _⟩ => h hnone
  rw [hpromote]
  exact if_neg fun ⟨_, hnone⟩ => h hnone

/-- The state that S1 or S2 is entered from: the slices drain for S2 (R311, R314). -/
def State.enterSleep (s : State) : State :=
  let t := ({ s with pwr := { s.pwr with phase := .entering, asleep := s.pwr.target, wakeSoon := 0 } }).voidGuarantees fun _ => true
  if t.pwr.asleep = 2 then t.drainAll else t

theorem State.voteCommit_of_last (h2 : s.pwr.phase = .prepare2) (hlast : s.pwr.asked = 0) (hawake : s.pwr.target ≠ 3) :
    s.votePromote.voteCommit = s.enterSleep := by
  have hpromote : s.votePromote = s := if_neg fun ⟨h1, _⟩ => by rw [h2] at h1; cases h1
  rw [hpromote]
  exact (if_pos ⟨h2, hlast⟩).trans (if_neg hawake)

theorem State.enterSleep_kept (s : State) : s.enterSleep.pwr = { s.pwr with phase := .entering, asleep := s.pwr.target, wakeSoon := 0 } ∧
    s.enterSleep.mode = s.mode := by
  unfold State.enterSleep
  extract_lets _ t
  have hpwr : t.pwr = { s.pwr with phase := .entering, asleep := s.pwr.target, wakeSoon := 0 } := (State.voidGuarantees_keeps ..).p .pwr (by decide)
  have hmode : t.mode = s.mode := (State.voidGuarantees_keeps ..).p .mode (by decide)
  split
  · exact ⟨(t.drainAll_keeps.p .pwr (by decide)).trans hpwr, (t.drainAll_keeps.p .mode (by decide)).trans hmode⟩
  · exact ⟨hpwr, hmode⟩

theorem State.answerVote_of_timeout {d : Fin 100} (hvote : s.pwr.phase = .prepare1 ∨ s.pwr.phase = .prepare2)
    (hasked : s.pwr.asked.getLsbD d = true) : s.answerVote d true = s.voteRefuse d 0xA := by
  rw [State.answerVote, State.votePromote_of_asked hasked, if_pos ⟨hvote, hasked⟩]
  rfl

/-! ### The rollback (R310) -/

/-- The vote gone, and the sweep no more paused. -/
def State.endVote (s : State) : State :=
  { s with pwr := { s.pwr with phase := .awake, asked := 0, agreed := 0, asker := .none }, ledger := { s.ledger with paused := false } }

theorem State.rollbackDone_of_vetoed (h : s.pwr.phase = .rollback) (hveto : s.pwr.vetoBy ≠ 0x7F) :
    s.rollbackDone = (s.endVote.releaseAll.resumeLulls.noteRefusal s.pwr.asker s.pwr.vetoBy s.pwr.vetoWhy).afterSleep :=
  (if_pos h).trans (if_neg hveto)

theorem State.noteRefusal_pwr (s : State) (asker : Asker) (refuser : BitVec 7) (why : BitVec 4) : (s.noteRefusal asker refuser why).pwr =
    { s.pwr with result := 2, refuser := refuser, reason := why, refuseCnt := satInc s.pwr.refuseCnt } := by
  unfold State.noteRefusal
  extract_lets _ noted t
  have hpwr : t.pwr = noted.pwr := (State.raiseIf_keeps ..).p .pwr (by decide)
  split
  · exact hpwr
  · exact hpwr

theorem State.afterSleep_of_nothing (hwarm : s.pwr.warmNext = false) (hafter : s.pwr.after = none) (hwaits : s.pwr.reqWaits = false) :
    s.afterSleep = s := by
  unfold State.afterSleep
  simp only [hwarm, hafter, hwaits, Bool.false_eq_true, Bool.false_and, if_false]

end

theorem CalmKept.enqueue (s : State) (c : Fin 80) (o : MemOp) : CalmKept s (s.enqueue c o) := by
  unfold State.enqueue
  extract_lets op x same
  split
  · exact .ite (fun _ => .modSched s c) fun _ => .modSched s c
  · split
    · have hcount : CalmKept s (s.bumpCh c 5) := .modSlice s c
      have hflag : CalmKept (s.bumpCh c 5) ((s.bumpCh c 5).flagOp op flagFwd) := (State.flagOp_keeps ..).calmKept (by decide) (by decide)
      exact (hcount.trans hflag).trans (.modSched _ c)
    · exact .modSched s c

theorem CalmKept.modHub (s : State) (g : Fin 8) (f : Hub → Hub) : CalmKept s (s.modHub g f) := (s.modHub_keeps g f).calmKept (by decide) (by decide)

theorem CalmKept.placeHeld (s : State) (g : Fin 8) (o : Fin 80 × MemOp) (held : Bool) : CalmKept s (s.placeHeld g o held) :=
  .ite (fun _ => .enqueue s _ _) fun _ => .ite (fun _ => .modHub s g _) fun _ => .ite (fun _ => .modHub s g _) fun _ =>
    (State.holdOp_keeps ..).calmKept (by decide) (by decide)

theorem CalmKept.releaseHeld (s : State) (g : Fin 8) : CalmKept s (s.releaseHeld g) :=
  ((CalmKept.modHub s g _).trans (.foldl (fun u o => .placeHeld u g o true) _)).trans (.foldl (fun u o => .placeHeld u g o false) _)

theorem CalmKept.releaseAll (s : State) : CalmKept s s.releaseAll := .foldl (fun u g => .releaseHeld u g) s

theorem CalmKept.resumeLulls (s : State) : CalmKept s s.resumeLulls := .foldl (fun u c => .ite (fun _ => .requestLull u c) fun _ => .refl u) s

end Sys2Proof.Machine

namespace Sys2Proof.Proofs
open Sys2Proof.Machine

theorem doorbell_whileAwake {s : State} (hlive : s.pageLive pagePwr = true) (hawake : s.pwr.phase = .awake) :
    (s.cfgField pagePwr 0x044 1 0 ≠ 0 → exec .doorbell s = .next (s.startVote (BitVec.ofNat 2 (s.cfgField pagePwr 0x044 1 0)) .doorbell)) ∧
    (s.cfgField pagePwr 0x044 1 0 = 0 → exec .doorbell s = .next { s with pwr := { s.pwr with result := 5 } }) := by
  have hring : exec .doorbell s = .next s.doorbell := congrArg Host.Outcome.next (State.whenLive_of_live hlive _)
  rw [hring, State.doorbell_of_awake hawake]
  exact ⟨fun h => congrArg Host.Outcome.next (if_neg (mt s.doorbellTarget_eq_zero_iff.mp h)),
    fun h => congrArg Host.Outcome.next (if_pos (s.doorbellTarget_eq_zero_iff.mpr h))⟩

theorem doorbell_whileVoting {s : State} (hlive : s.pageLive pagePwr = true) (hvoting : s.pwr.phase ∈ [SleepPhase.prepare1, .prepare2, .rollback]) :
    exec .doorbell s = .next { s with pwr := { s.pwr with result := 3 } } :=
  congrArg Host.Outcome.next ((State.whenLive_of_live hlive _).trans (State.doorbell_of_voting hvoting))

theorem pwrReqRise_startsVote {s : State} (st : BitVec 2) (hlow : s.pins.pwrReq = false) (hawake : s.pwr.phase = .awake)
    (hon : s.pwr.coreOn = true) : Completes (.pwrReqRise st) s fun t =>
      t.pins = { s.pins with pwrReq := true, pwrReqState := st } ∧ t.pwr.phase = .prepare1 ∧ t.pwr.target = st ∧ t.pwr.asker = .pwrReq ∧ t.pwr.asked = tier1 :=
  ⟨_, congrArg Host.Outcome.next (State.pwrReqUp_of_awake st hlow hawake hon), rfl, rfl, rfl, rfl, rfl⟩

theorem pwrReqFall_lowersAnswer {s : State} (hhigh : s.pins.pwrReq = true) (hawake : s.pwr.phase = .awake) :
    Completes .pwrReqFall s fun t =>
      t.pins = { s.pins with pwrReq := false, pwrAck := false, pwrNack := false } ∧ t.pwr = { s.pwr with reqWaits := false } :=
  ⟨_, congrArg Host.Outcome.next (State.pwrReqDown_of_awake hhigh hawake), rfl, rfl⟩

theorem dozeIdleExpiry_startsVote {s : State} (hidle : s.cfgField pagePwr 0x040 31 24 ≠ 0) (hserve : s.inService = true)
    (hawake : s.pwr.phase = .awake) (hbusy : s.busyBanks = 0) (hsquall : s.squall.active = false) :
    Completes .dozeIdleExpiry s fun t => t.pwr.phase = .prepare1 ∧ t.pwr.target = 1 ∧ t.pwr.asker = .doze ∧ t.pwr.asked = tier1 :=
  ⟨_, congrArg Host.Outcome.next (if_pos ⟨hidle, hserve, hawake, hbusy, hsquall⟩), rfl, rfl, rfl, rfl⟩

section
variable {s : State} {d : Fin 100} (hvote : s.pwr.phase = .prepare1 ∨ s.pwr.phase = .prepare2) (hasked : s.pwr.asked.getLsbD d = true)
include hvote hasked

theorem voteAnswer_agreesNotLast (hagree : s.refusal d = none) (hmore : s.pwr.asked &&& ~~~(1#100 <<< d.val) ≠ 0) :
    Completes (.voteAnswer d) s fun t =>
      t.pwr = { s.pwr with asked := s.pwr.asked &&& ~~~(1#100 <<< d.val), agreed := s.pwr.agreed ||| (1#100 <<< d.val) } ∧
      t.ledger.paused = (s.ledger.paused || d.val == 89) ∧ t.slices = s.slices := by
  have hleft : (s.takeAgree d).pwr.asked ≠ 0 := by rw [State.takeAgree_pwr]; exact hmore
  have hanswer : s.answerVote d false = s.takeAgree d := (State.answerVote_of_agree hvote hasked hagree).trans (State.voteCommit_of_asked hleft)
  exact ⟨_, congrArg Host.Outcome.next hanswer, s.takeAgree_pwr d, s.takeAgree_paused d, s.takeAgree_slices d⟩

theorem voteAnswer_agreesLast (htier : s.pwr.phase = .prepare2) (hagree : s.refusal d = none)
    (hlast : s.pwr.asked &&& ~~~(1#100 <<< d.val) = 0) (htarget : s.pwr.target ≠ 3) :
    Completes (.voteAnswer d) s fun t => t.pwr.phase = .entering ∧ t.pwr.asleep = s.pwr.target ∧ t.mode = s.mode := by
  have hpwr := s.takeAgree_pwr d
  have htier' : (s.takeAgree d).pwr.phase = .prepare2 := by rw [hpwr]; exact htier
  have hlast' : (s.takeAgree d).pwr.asked = 0 := by rw [hpwr]; exact hlast
  have htarget' : (s.takeAgree d).pwr.target = s.pwr.target := by rw [hpwr]
  have hanswer : s.answerVote d false = (s.takeAgree d).enterSleep :=
    (State.answerVote_of_agree hvote hasked hagree).trans (State.voteCommit_of_last htier' hlast' (htarget' ▸ htarget))
  obtain ⟨hentered, hmode⟩ := (s.takeAgree d).enterSleep_kept
  refine ⟨_, congrArg Host.Outcome.next hanswer, ?_, ?_, hmode.trans (s.takeAgree_mode d)⟩ <;> rw [hentered]
  exact htarget'

theorem voteAnswer_vetoes {why : BitVec 4} (hrefuse : s.refusal d = some why) : Completes (.voteAnswer d) s fun t =>
    t.pwr = { s.pwr with phase := .rollback, vetoBy := BitVec.ofNat 7 d, vetoWhy := why } ∧ t.ledger = s.ledger :=
  ⟨_, congrArg Host.Outcome.next ((State.answerVote_of_refusal hvote hasked hrefuse).trans (if_pos hvote)), rfl, rfl⟩

theorem voteTimeout_vetoes : Completes (.voteTimeout d) s fun t =>
    t.pwr = { s.pwr with phase := .rollback, vetoBy := BitVec.ofNat 7 d, vetoWhy := 0xA } ∧ t.ledger = s.ledger :=
  ⟨_, congrArg Host.Outcome.next ((State.answerVote_of_timeout hvote hasked).trans (if_pos hvote)), rfl, rfl⟩

end

theorem rollbackComplete_showsRefuser {s : State} (hphase : s.pwr.phase = .rollback) (hveto : s.pwr.vetoBy ≠ 0x7F) (hwarm : s.pwr.warmNext = false)
    (hafter : s.pwr.after = none) (hwaits : s.pwr.reqWaits = false) :
    Completes .rollbackComplete s fun t => t.pwr.phase = .awake ∧ t.pwr.result = 2 ∧ t.pwr.refuser = s.pwr.vetoBy ∧ t.pwr.reason = s.pwr.vetoWhy ∧
      t.pwr.refuseCnt = satInc s.pwr.refuseCnt ∧ t.ledger.paused = false ∧ ((∀ c : Fin 80, s.slices[c].sched.flushing = false) → t.mem = s.mem) := by
  have hopen : Keeps 0x10000b10000 s.endVote s.endVote.releaseAll.resumeLulls :=
    (s.endVote.releaseAll.resumeLulls_keeps).on (s.endVote.releaseAll_keeps.mono (by decide)) (by decide)
  have hcalm : CalmKept s.endVote s.endVote.releaseAll.resumeLulls := (CalmKept.releaseAll _).trans (.resumeLulls _)
  have hdone := State.rollbackDone_of_vetoed hphase hveto
  generalize s.endVote.releaseAll.resumeLulls = u at hopen hcalm hdone
  have hpwr : (u.noteRefusal s.pwr.asker s.pwr.vetoBy s.pwr.vetoWhy).pwr = { s.endVote.pwr with
      result := 2, refuser := s.pwr.vetoBy, reason := s.pwr.vetoWhy, refuseCnt := satInc s.endVote.pwr.refuseCnt } := by
    rw [State.noteRefusal_pwr, show u.pwr = s.endVote.pwr from hopen.p .pwr (by decide)]
  have hnoted : Keeps 0x8000220 u (u.noteRefusal s.pwr.asker s.pwr.vetoBy s.pwr.vetoWhy) := State.noteRefusal_keeps ..
  generalize u.noteRefusal s.pwr.asker s.pwr.vetoBy s.pwr.vetoWhy = t at hpwr hnoted hdone
  have hsame : t.afterSleep = t := State.afterSleep_of_nothing (by rw [hpwr]; exact hwarm) (by rw [hpwr]; exact hafter) (by rw [hpwr]; exact hwaits)
  have hpaused : t.ledger.paused = s.endVote.ledger.paused :=
    (hnoted.ledgerField Ledger.paused).trans (hopen.ledgerField Ledger.paused)
  exact ⟨t, congrArg Host.Outcome.next (hdone.trans hsame), congrArg Power.phase hpwr, congrArg Power.result hpwr, congrArg Power.refuser hpwr,
    congrArg Power.reason hpwr, congrArg Power.refuseCnt hpwr, hpaused, fun hs => (hnoted.p .mem (by decide)).trans (hcalm hs).1⟩

/-- Settles O33: each request by the phase it finds, each answer by what the domain says, and the rollback through what it releases. -/
theorem sleepVote : Obligations.SleepVote := by
  intro st d s
  exact ⟨doorbell_whileAwake, doorbell_whileVoting, pwrReqRise_startsVote st, pwrReqFall_lowersAnswer, dozeIdleExpiry_startsVote,
    fun hvote hasked => ⟨voteAnswer_agreesNotLast hvote hasked, voteAnswer_agreesLast hvote hasked, fun _ => voteAnswer_vetoes hvote hasked,
      voteTimeout_vetoes hvote hasked⟩, rollbackComplete_showsRefuser⟩

end Sys2Proof.Proofs
end

section
/-! Entering and leaving S1 and S2 (O34): every slice lies down, those in use come on again, and the wake ends (R311, R313, R314, R316). -/
namespace Sys2Proof.Machine

/-! ### A pass over the slices -/

/-- A pass over every slice, each visit changing its own slice alone, does to each what its visit does. -/
theorem State.foldl_visits {f : State → Fin 80 → State} {P : Slice → Slice → Prop} (hself : ∀ s c, P s.slices[c] (f s c).slices[c])
    (hother : ∀ s (c d : Fin 80), d ≠ c → (f s c).slices[d] = s.slices[d]) {l : List (Fin 80)} (hl : l.Nodup) (s : State) {c : Fin 80} (hc : c ∈ l) :
    P s.slices[c] (l.foldl f s).slices[c] := by
  have hmissed : ∀ (l : List (Fin 80)) (u : State), c ∉ l → (l.foldl f u).slices[c] = u.slices[c] := by
    intro l
    induction l with
    | nil => exact fun _ _ => rfl
    | cons d l ih =>
      intro u hd
      obtain ⟨hne, hrest⟩ := not_or.1 (mt List.mem_cons.2 hd)
      exact (ih (f u d) hrest).trans (hother u d c hne)
  induction l generalizing s with
  | nil => exact absurd hc List.not_mem_nil
  | cons d l ih =>
    obtain ⟨hd, hl⟩ := List.nodup_cons.1 hl
    rw [List.foldl_cons]
    by_cases h : c = d
    · subst h
      rw [hmissed l _ hd]
      exact hself s c
    · have hafter := ih hl (f s d) ((List.mem_cons.1 hc).resolve_left h)
      rwa [hother s d c h] at hafter

theorem State.allSlices_visits {f : State → Fin 80 → State} {P : Slice → Slice → Prop} (hself : ∀ s c, P s.slices[c] (f s c).slices[c])
    (hother : ∀ s (c d : Fin 80), d ≠ c → (f s c).slices[d] = s.slices[d]) (s : State) (c : Fin 80) :
    P s.slices[c] (allSlices.foldl f s).slices[c] :=
  State.foldl_visits hself hother (List.nodup_finRange 80) s (List.mem_finRange c)

/-! ### Lying down (R313, R314) -/

theorem State.dozeSlice_power (s : State) (c : Fin 80) :
    (s.dozeSlice c).slices[c].power = if s.slices[c].power = .active then .powerDown else s.slices[c].power := by
  unfold State.dozeSlice
  split
  · rw [State.modSlice_self]
  · rfl

theorem State.dozeSlice_other (s : State) (c d : Fin 80) (h : d ≠ c) : (s.dozeSlice c).slices[d] = s.slices[d] := by
  unfold State.dozeSlice
  split
  · exact s.modSlice_other c d _ h
  · rfl

theorem State.drainNow_other (s : State) (c d : Fin 80) (h : d ≠ c) : (s.drainNow c).slices[d] = s.slices[d] :=
  DrainKept.other (.ite (fun _ => (DrainKept.orderDrain s true).trans (.dropDrain _)) fun _ => .refl s) d h

/-- A slice in service writes its check lines back and enters self-refresh (R295, R314). -/
def State.selfRefresh (s : State) (c : Fin 80) : State :=
  if s.slices[c].power = .active then (s.drainNow c).modSlice c fun x => { x with power := .selfRefresh } else s

theorem State.selfRefresh_power (s : State) (c : Fin 80) (h : s.slices[c].power = .active) : (s.selfRefresh c).slices[c].power = .selfRefresh := by
  rw [State.selfRefresh, if_pos h, State.modSlice_self]

theorem State.selfRefresh_other (s : State) (c d : Fin 80) (h : d ≠ c) : (s.selfRefresh c).slices[d] = s.slices[d] := by
  unfold State.selfRefresh
  split
  · exact (State.modSlice_other _ c d _ h).trans (s.drainNow_other c d h)
  · rfl

theorem State.napSlice_eq (s : State) (c : Fin 80) :
    s.napSlice c = ((s.selfRefresh c).modSlice c fun x => { x with on := false }).modSched c fun x => { x with rows := [] } := rfl

theorem State.napSlice_self (s : State) (c : Fin 80) :
    (s.napSlice c).slices[c].on = false ∧ (s.slices[c].power = .active → (s.napSlice c).slices[c].power = .selfRefresh) := by
  rw [State.napSlice_eq, State.modSched, State.modSlice_self, State.modSlice_self]
  exact ⟨rfl, s.selfRefresh_power c⟩

theorem State.napSlice_other (s : State) (c d : Fin 80) (h : d ≠ c) : (s.napSlice c).slices[d] = s.slices[d] := by
  rw [State.napSlice_eq, State.modSched_other h, State.modSlice_other _ c d _ h]
  exact s.selfRefresh_other c d h

/-- The slices lie down for the state that is entered. -/
def State.lieDown (s : State) : State :=
  if s.pwr.asleep = 1 then allSlices.foldl (fun (s : State) (c : Fin 80) => s.dozeSlice c) s
  else (allSlices.foldl (fun (s : State) (c : Fin 80) => s.napSlice c) s).stopLines

theorem State.lieDown_keeps (s : State) : Keeps 0x10000900000 s s.lieDown :=
  .ite (fun _ => .foldl .rfl' fun u c => (u.dozeSlice_keeps c).mono (by decide)) fun _ =>
    (State.stopLines_keeps _).on (.foldl .rfl' fun u c => (u.napSlice_keeps c).mono (by decide)) (by decide)

theorem State.lieDown_doze {s : State} (h : s.pwr.asleep = 1) (c : Fin 80) :
    s.lieDown.slices[c].power = if s.slices[c].power = .active then .powerDown else s.slices[c].power := by
  rw [State.lieDown, if_pos h]
  exact State.allSlices_visits (P := fun x y => y.power = if x.power = .active then .powerDown else x.power) State.dozeSlice_power State.dozeSlice_other s c

theorem State.lieDown_nap {s : State} (h : s.pwr.asleep ≠ 1) (c : Fin 80) :
    s.lieDown.slices[c].on = false ∧ (s.slices[c].power = .active → s.lieDown.slices[c].power = .selfRefresh) := by
  rw [State.lieDown, if_neg h, (State.stopLines_keeps _).p .slices (by decide)]
  exact State.allSlices_visits (P := fun x y => y.on = false ∧ (x.power = .active → y.power = .selfRefresh)) State.napSlice_self State.napSlice_other s c

/-! ### The end of the entry (R306, R311) -/

/-- The entry noted: asleep, counted, ENTERED raised. -/
def State.noteEntered (s : State) : State :=
  ({ s with pwr := { s.pwr with
    phase := .asleep, result := 1, asker := .none, asked := 0, agreed := 0, wakeSoon := 0, sleepCnt := satInc s.pwr.sleepCnt } }).raise pagePwr 0

theorem State.noteEntered_pwr (s : State) : s.noteEntered.pwr = { s.pwr with
    phase := .asleep, result := 1, asker := .none, asked := 0, agreed := 0, wakeSoon := 0, sleepCnt := satInc s.pwr.sleepCnt } :=
  (State.raise_keeps ..).p .pwr (by decide)

theorem State.noteEntered_slices (s : State) : s.noteEntered.slices = s.slices := (State.raise_keeps ..).p .slices (by decide)

theorem State.noteEntered_intRaw (s : State) : (s.noteEntered.intRaw pagePwr).getLsbD 0 = true := State.raise_intRaw _ (by decide)

/-- A request for the state that has been entered is answered. -/
def State.ackEntry (s : State) (asker : Asker) : State :=
  if (asker = .pwrReq ∨ s.pwr.reqWaits = true ∧ s.pins.pwrReqState = s.pwr.asleep) ∧ s.pins.pwrReq = true then
    ({ s with pwr := { s.pwr with reqWaits := false } }).setAck true false
  else s

/-- A request that waited for the entry and asks for S0 is refused. -/
def State.refuseLate (s : State) : State :=
  if s.pwr.reqWaits ∧ s.pins.pwrReq = true ∧ s.pins.pwrReqState = 0 then ({ s with pwr := { s.pwr with reqWaits := false } }).refuseAwake else s

/-- The wake that was noted during the entry, or that a request still waiting asks for. -/
def State.wakeLate (s : State) (soon : BitVec 4) : State :=
  let soon := if s.pwr.reqWaits && soon == 0 then 3 else soon
  if soon = 0 then s else s.wakeBy soon

theorem State.entryDone_of_quiet {s : State} (hphase : s.pwr.phase = .entering) (hquiet : s.slicesQuiet = true) :
    s.entryDone = ((s.lieDown.noteEntered.ackEntry s.lieDown.pwr.asker).refuseLate).wakeLate s.lieDown.pwr.wakeSoon :=
  if_neg (by simp [hphase, hquiet])

section
variable {s : State} (hwaits : s.pwr.reqWaits = false)
include hwaits

/-- With no request waiting, an answer changes the pins alone. -/
theorem State.ackEntry_kept (asker : Asker) : ∃ pins, s.ackEntry asker = { s with pins := pins } := by
  have hpwr : s.pwr = { s.pwr with reqWaits := false } := by rw [← hwaits]
  unfold State.ackEntry State.setAck
  split
  · refine ⟨{ s.pins with pwrAck := true, pwrNack := false }, ?_⟩
    rw [← hpwr]
  · exact ⟨s.pins, rfl⟩

theorem State.refuseLate_of_none : s.refuseLate = s := if_neg (by simp [hwaits])

theorem State.wakeLate_of_none : s.wakeLate 0 = s := by
  simp only [State.wakeLate, hwaits, Bool.false_and, Bool.false_eq_true, if_false, if_true]

end

/-- With no wake noted and no request waiting, what follows the entry is at most PWR_ACK. -/
theorem State.entryDone_kept {s : State} (hphase : s.pwr.phase = .entering) (hquiet : s.slicesQuiet = true) (hsoon : s.pwr.wakeSoon = 0)
    (hwaits : s.pwr.reqWaits = false) : ∃ pins, s.entryDone = { s.lieDown.noteEntered with pins := pins } := by
  have hpwr : s.lieDown.pwr = s.pwr := s.lieDown_keeps.p .pwr (by decide)
  have hnoted : s.lieDown.noteEntered.pwr.reqWaits = false := by rw [State.noteEntered_pwr, hpwr]; exact hwaits
  rw [State.entryDone_of_quiet hphase hquiet, hpwr, hsoon]
  obtain ⟨pins, hacked⟩ := State.ackEntry_kept hnoted s.pwr.asker
  refine ⟨pins, ?_⟩
  rw [hacked, State.refuseLate_of_none, State.wakeLate_of_none] <;> exact hnoted

/-! ### Coming on again (R313, R316) -/

/-- A slice in use comes on; its devices leave power-down. -/
def State.wakeSlice (s : State) (c : Fin 80) : State :=
  if s.role c = roleUnused ∨ s.role c = roleUnavailable then s
  else s.modSlice c fun x => { x with on := true, power := if x.power = .powerDown then .active else x.power }

theorem State.wakeSlice_self (s : State) (c : Fin 80) :
    s.slices[c].health.role ≠ roleUnused → s.slices[c].health.role ≠ roleUnavailable →
      (s.wakeSlice c).slices[c].on = true ∧ (s.wakeSlice c).slices[c].power ≠ .powerDown := by
  intro hused havailable
  have hinUse : ¬ (s.role c = roleUnused ∨ s.role c = roleUnavailable) := not_or.2 ⟨hused, havailable⟩
  rw [State.wakeSlice, if_neg hinUse, State.modSlice_self]
  refine ⟨rfl, ?_⟩
  dsimp only
  split
  · nofun
  · assumption

theorem State.wakeSlice_other (s : State) (c d : Fin 80) (h : d ≠ c) : (s.wakeSlice c).slices[d] = s.slices[d] := by
  unfold State.wakeSlice
  split
  · rfl
  · exact s.modSlice_other c d _ h

theorem State.wakeSlices_on (s : State) (c : Fin 80) (hused : s.role c ≠ roleUnused) (havailable : s.role c ≠ roleUnavailable) :
    s.wakeSlices.slices[c].on = true ∧ s.wakeSlices.slices[c].power ≠ .powerDown :=
  State.allSlices_visits (f := State.wakeSlice)
    (P := fun x y => x.health.role ≠ roleUnused → x.health.role ≠ roleUnavailable → y.on = true ∧ y.power ≠ .powerDown)
    State.wakeSlice_self State.wakeSlice_other s c hused havailable

theorem State.replayHeld_of_none {s : State} (h : s.regs.napHeld = []) : s.replayHeld = { s with regs := { s.regs with napHeld := [] } } := by
  rw [State.replayHeld, h]
  rfl

/-! ### The end of the wake (R311, R316, R435) -/

/-- The block awake again, the sweep no more paused. -/
def State.backInService (s : State) : State :=
  { s with
    pwr := { s.pwr with phase := .awake, asleep := 0 }
    pins := { s.pins with wakeOut := false, pwrAck := s.pins.pwrAck && s.pins.pwrReq, pwrNack := s.pins.pwrNack && s.pins.pwrReq }
    ledger := { s.ledger with paused := false } }

theorem State.wakeDone_of_awake {s : State} (hphase : s.pwr.phase = .waking) (hawake : s.membersAwake = true) :
    s.wakeDone = (s.backInService.raise pagePwr 2).releaseAll.afterSleep :=
  if_neg (by simp [hphase, hawake])

end Sys2Proof.Machine

namespace Sys2Proof.Proofs
open Sys2Proof.Machine

theorem sleepEntryComplete_completes {s : State} (hphase : s.pwr.phase = .entering) (hquiet : s.slicesQuiet = true) (hsoon : s.pwr.wakeSoon = 0)
    (hwaits : s.pwr.reqWaits = false) : Completes .sleepEntryComplete s fun t =>
      t.pwr.phase = .asleep ∧ t.pwr.result = 1 ∧ t.pwr.sleepCnt = satInc s.pwr.sleepCnt ∧ (t.intRaw pagePwr).getLsbD 0 = true ∧
      (s.pwr.asleep = 1 → ∀ c : Fin 80, t.slices[c].power = if s.slices[c].power = .active then .powerDown else s.slices[c].power) ∧
      (s.pwr.asleep = 2 → ∀ c : Fin 80, t.slices[c].on = false ∧
        (s.slices[c].power = .active → t.slices[c].power = .selfRefresh)) := by
  obtain ⟨pins, hdone⟩ := State.entryDone_kept hphase hquiet hsoon hwaits
  have hpwr : s.lieDown.noteEntered.pwr = { s.pwr with
      phase := .asleep, result := 1, asker := .none, asked := 0, agreed := 0, wakeSoon := 0, sleepCnt := satInc s.pwr.sleepCnt } := by
    rw [State.noteEntered_pwr, show s.lieDown.pwr = s.pwr from s.lieDown_keeps.p .pwr (by decide)]
  have hraised := s.lieDown.noteEntered_intRaw
  have hslices := s.lieDown.noteEntered_slices
  generalize s.lieDown.noteEntered = u at hdone hpwr hraised hslices
  refine ⟨_, congrArg Host.Outcome.next hdone, congrArg Power.phase hpwr, congrArg Power.result hpwr, congrArg Power.sleepCnt hpwr, hraised, ?_, ?_⟩
  · intro hdoze c
    dsimp only
    rw [hslices]
    exact State.lieDown_doze hdoze c
  · intro hnap c
    dsimp only
    rw [hslices]
    exact State.lieDown_nap (by rw [hnap]; decide) c

theorem sleepWake_completes {s : State} (hphase : s.pwr.phase = .waking) (hheld : s.regs.napHeld = []) :
    Completes .sleepWake s fun t =>
      (∀ c : Fin 80, s.role c ≠ roleUnused → s.role c ≠ roleUnavailable → t.slices[c].on = true ∧ t.slices[c].power ≠ .powerDown) ∧
      t.pwr = s.pwr ∧ t.mem = s.mem := by
  have hon := s.wakeSlices_on
  have hkept := s.wakeSlices_keeps
  have hstep : exec .sleepWake s = .next s.wakeSlices.replayHeld := congrArg Host.Outcome.next (if_pos hphase)
  generalize s.wakeSlices = u at hon hkept hstep
  have hnone : u.regs.napHeld = [] := (hkept.p .regHeld (by decide)).trans hheld
  rw [State.replayHeld_of_none hnone] at hstep
  exact ⟨_, hstep, hon, hkept.p .pwr (by decide), hkept.p .mem (by decide)⟩

theorem wakeComplete_completes {s : State} (hphase : s.pwr.phase = .waking) (hawake : s.membersAwake = true) (hwarm : s.pwr.warmNext = false)
    (hafter : s.pwr.after = none) (hwaits : s.pwr.reqWaits = false) : Completes .wakeComplete s fun t =>
      t.pwr = { s.pwr with phase := .awake, asleep := 0 } ∧ t.pins.wakeOut = false ∧ t.ledger.paused = false ∧
        (t.intRaw pagePwr).getLsbD 2 = true ∧ t.mem = s.mem := by
  have hraised : ((s.backInService.raise pagePwr 2).intRaw pagePwr).getLsbD 2 = true := State.raise_intRaw _ (by decide)
  have hkept : Keeps 0xb10200 s.backInService (s.backInService.raise pagePwr 2).releaseAll :=
    (State.releaseAll_keeps _).on ((State.raise_keeps ..).mono (by decide)) (by decide)
  have hheaders : (s.backInService.raise pagePwr 2).releaseAll.intRaw pagePwr = (s.backInService.raise pagePwr 2).intRaw pagePwr :=
    State.intRaw_congr ((State.releaseAll_keeps _).p .regHeaders (by decide)) pagePwr
  have hdone := State.wakeDone_of_awake hphase hawake
  rw [← hheaders] at hraised
  clear hheaders
  generalize (s.backInService.raise pagePwr 2).releaseAll = t at hraised hkept hdone
  have hpwr : t.pwr = s.backInService.pwr := hkept.p .pwr (by decide)
  have hsame : t.afterSleep = t := State.afterSleep_of_nothing (by rw [hpwr]; exact hwarm) (by rw [hpwr]; exact hafter) (by rw [hpwr]; exact hwaits)
  exact ⟨t, congrArg Host.Outcome.next (hdone.trans hsame), hpwr, congrArg Pins.wakeOut (hkept.p .pins (by decide)), hkept.ledgerField Ledger.paused, hraised,
    hkept.p .mem (by decide)⟩

/-- Settles O34: each slice lies down and comes on by its own visit, and without a request or a wake that waits nothing follows either end. -/
theorem sleepSteps : Obligations.SleepSteps := by
  intro s
  exact ⟨sleepEntryComplete_completes, sleepWake_completes, wakeComplete_completes⟩

end Sys2Proof.Proofs
end
